-- ==== Sys2Proof/Word.lean ====
section
/-! DEFINITION. The word types of the PK-8192 model and the plainest arithmetic on them. -/

namespace Sys2Proof

/-- A byte. -/
abbrev Byte := BitVec 8

/-- A 32-bit register or bus word. -/
abbrev Word := BitVec 32

/-- A string of bytes, byte 0 first (R10). -/
abbrev Bytes := List Byte

end Sys2Proof
end

