-- ==== Sys2Proof/Syntax.lean ====
section
/-! DEFINITION. The commands the block takes from outside, one constructor for each row of the table of operations
and events, with the operands each carries. -/

namespace Sys2Proof

/-- How the hardware's results of one ply differ from the exact sums (Table 8-2): drained cells (rank, file and a
vector of 8 components and the weight), cells with the limit bit, checker-file cells, checker-rank cells, the corner
cell, and for lines (0–23) under known-vector test what their cells drained and what the generator expects (R192). A
fault-free ply has the first five lists empty. -/
structure PlyFaults where
  cells : List (Nat × Nat × List Int)
  lims : List (Nat × Nat)
  chkFile : List (Nat × List Int)
  chkRank : List (Nat × List Int)
  corner : List Int
  kv : List (Nat × List Int × List Int)
  deriving DecidableEq, Repr, Inhabited


/-- Who consumes the word of an HBM read (Table 13-3): a feeder of the Board or of the Beam Array, a drain
read-modify-write of pair (a, b) of group g in slab channel c and area, a detection read-modify-write of beam b's record
of a window and bin of a profile, the output of a segment, a staging read for beam b on a port, or a crossbar master. -/
inductive HbmUse where
  | board
  | beam
  | drain (g area c a b : Nat)
  | detect (profile window b bin : Nat)
  | output (stream inst seg : Nat)
  | staging (port b : Nat)
  | master (m : Nat)
  deriving DecidableEq, Repr, Inhabited

/-- An HBM request as it comes to a stack controller (R279): its class 0–5, its bank, row and bytes, and whether it
reads. -/
structure HbmArrival where
  cls : Nat
  bank : Nat
  row : Nat
  bytes : Nat
  use : Option HbmUse
  deriving DecidableEq, Repr, Inhabited

/-- What a channel finds when it serves a request: whether it activates a row and what the random generator draws
(R287), the error in the word read (0 = none, 1 = corrected, 2 = uncorrectable), and where (R289). -/
structure HbmService where
  act : Bool
  draw : Nat
  ecc : Nat
  pc : Nat
  col : Nat
  word : Nat
  deriving DecidableEq, Repr, Inhabited

/-- A register field of an ASP instruction (Tables 16-2 and 16-5): the register, or a reserved number. -/
inductive AspReg where
  | d (i : Fin 16)
  | p (i : Fin 8)
  | m (i : Fin 8)
  | a (i : Fin 4)
  | lc
  | st
  | inp (k : Fin 4)
  | out (k : Fin 4)
  | hmsg
  | rpc
  | reserved
  deriving DecidableEq, Repr, Inhabited

/-- A memory operand: the pointer and the mode of R324, 0–7. -/
structure AspMem where
  ptr : Fin 8
  mode : Fin 8
  deriving DecidableEq, Repr, Inhabited

/-- The second source of an ALU instruction: a data register (class 0x5) or a signed 14-bit immediate (class 0x6). -/
inductive AspSrc where
  | reg (i : Fin 16)
  | imm (x : BitVec 14)
  deriving DecidableEq, Repr, Inhabited

/-- A half of a data register: Dn.H or Dn.L. -/
structure AspHalf where
  reg : Fin 16
  high : Bool
  deriving DecidableEq, Repr, Inhabited

/-- The parallel load of class 0x7: space (true = Y), operand, and the data register loaded. -/
structure AspPar where
  y : Bool
  op : AspMem
  dst : Fin 16
  deriving DecidableEq, Repr, Inhabited

/-- What the ECC of the memory words an instruction reads finds (R323, R340): in which iteration of the command, and
0 = nothing, 1 = a corrected word, 2 = an uncorrectable word. -/
structure AspEcc where
  turn : Nat
  kind : Fin 3
  deriving DecidableEq, Repr, Inhabited

/-- A branch condition (Table 16-5): 0 = always, 1 = z, 2 = not z, 3 = n, 4 = not n, 5 = v, 6 = not v, 7 = c, 8 = not c,
9–15 reserved. -/
abbrev AspCond := Fin 16


/-- Where a duplicated adder works (R191): on a record of a group, on a detection window's record of beam b and bin, or in
the beam combiner at a sample period of the channel-set in progress. -/
inductive AddSite where
  | record (g area c a b : Nat)
  | detect (profile window b bin : Nat)
  | combine (t : Nat)
  deriving DecidableEq, Repr, Inhabited

/-- What a crossbar burst does: reads bytes, or writes bytes under their byte enables (R301). -/
inductive XbOp where
  | read (bytes : Nat)
  | write (data : List (Option Byte))
  deriving DecidableEq, Repr, Inhabited

/-- The leading beats of a write burst, accepted before the master's reset (R303). -/
structure XbLead where
  addr : BitVec 40
  data : List (Option Byte)
  deriving DecidableEq, Repr, Inhabited

/-- A cell as it arrives on a lane: its 256 bytes, and the counter ticks since its first symbol. -/
structure CellIn where
  bytes : Bytes
  ticks : Nat
  deriving DecidableEq, Repr, Inhabited

/-- A comparison of a Beam Array slice (R190): the slice, its task slot and the sample, and what faults add, as a complex
number, to each column sum and to the checker column's sum. -/
structure SliceCheck where
  slice : Fin 16
  slot : Nat
  t : Nat
  cols : List (Int × Int)
  chk : Int × Int
  deriving DecidableEq, Repr, Inhabited

/-- A burst on the crossbar (R301): what it asks for, and whether its ECC or parity fails. -/
structure XbBurst where
  op : XbOp
  ecc : Bool
  deriving DecidableEq, Repr, Inhabited

/-- What the bursts of a DMA descriptor meet: an error of host memory, and a failure of ECC or parity. -/
structure DmaErrors where
  host : Bool
  ecc : Bool
  deriving DecidableEq, Repr, Inhabited

/-- The base address registers (Table 14-6). -/
inductive PcieBar where
  | bar0 | bar2 | bar4
  deriving DecidableEq, Repr, Inhabited

/-- What PCIe link training arrives at: speed code 0–5 and lanes in use (PE_LINK). -/
structure PcieLink where
  speed : Nat
  width : Nat
  deriving DecidableEq, Repr, Inhabited

/-- What an Opening meets: the balls BOOT_SPI, SMB_ADDR and RESET_N low; XO_IN present; the bytes of the firmware image, whether it verifies, and
its version; the stacks that train; for each load attempt, whether its logic images load; the lines (0–23) and positions
that fail the self-test, whether the Beam Array passes it, and the duration in ms. -/
structure Opening where
  bootSpi : Bool
  smbAddr : BitVec 2
  resetLow : Bool
  xo : Bool
  fwBytes : Nat
  fwOk : Bool
  fwVer : Word
  trained : BitVec 8
  images : List Bool
  lines : List (Nat × Nat)
  beamOk : Bool
  ms : Nat
  deriving DecidableEq, Repr, Inhabited

/-- What an exit from Adjournment meets: the wake events of its 1 µs window (MG_RSTCAUSE.wake), whether the logic images
load and the saved context passes its hash, the stacks' temperatures in °C, and the duration in ms. -/
structure Wake where
  events : BitVec 3
  images : Bool
  ctxOk : Bool
  temps : List Nat
  ms : Nat
  deriving DecidableEq, Repr, Inhabited
/-- The commands of the PK-8192: one constructor for each row of the table of operations and events. -/
inductive Instr where
  /-- REGISTER_WRITE (R407). A host or master write to a CSR that has no row of its own; the device applies the range, reserved-bit, guarded-field and ownership checks and writes the accepted fields. -/
  | registerWrite (m : Fin 20) (a : BitVec 28) (v : Word)
  /-- PAIR_LO_WRITE (R18). A write to the _LO half of a 64-bit pair is held per master until the matching _HI write. -/
  | pairLoWrite (m : Fin 20) (a : BitVec 28) (v : Word)
  /-- PAIR_HI_WRITE (R18). A write to the _HI half commits both halves in one update, or commits 0 as the low half when no matching _LO is held. -/
  | pairHiWrite (m : Fin 20) (a : BitVec 28) (v : Word)
  /-- PAIR_LO_READ (R18). A read of _LO returns bits [31:0] and latches bits [63:32] per master for the next _HI read of the same pair. -/
  | pairLoRead (m : Fin 20) (a : BitVec 28)
  /-- COUNTER_READ (R16). A read of an RC counter returns its value and clears it, carrying any simultaneous increment into the new value. -/
  | counterRead (m : Fin 20) (a : BitVec 28)
  /-- SNAPSHOT_READ (R16). A read of a latching RL register captures a snapshot of its register group. -/
  | snapshotRead (m : Fin 20) (a : BitVec 28)
  /-- PLAN_RECORD_READ (R271). A read of CK_PLAN0 copies the latest plan record and its round into CK_PLAN0 to CK_PLAN9 and CK_ROUND. -/
  | planRecordRead (m : Fin 20)
  /-- TIME_READ (R247). A read of TB_NOWS_LO latches the seconds, nanoseconds and fraction of the time counter at one tick. -/
  | timeRead (m : Fin 20)
  /-- ROUND_BOUNDARY (R25). A round boundary is reached: every change bound to it takes effect for the rounds from it onward. -/
  | roundBoundary
  /-- INGEST_ROUND_START (R26). Ingest starts writing round n+1 into the slab buffer freed by round n-1, at t0 in time mode or on the first packet of the round in majority mode. -/
  | ingestRoundStart
  /-- HORIZON_ADVANCE (R62). The device raises the horizon H to the time-mode or majority-mode candidate, never lowering it. -/
  | horizonAdvance
  /-- PACKET_PLACE (R64). Alignment places the samples of an accepted packet by stream, channel and SC, discarding late samples and dropping early or duplicate packets. -/
  | packetPlace
  /-- SAMPLE_PACKET_RECEIVE (R50). A sample packet received whole on a Uhlain port passes the ordered receive checks and goes to alignment or is dropped and counted. -/
  | samplePacketReceive (p : Fin 16) (packet : Bytes)
  /-- TIMING_PACKET_RECEIVE (R43). A timing packet is time-stamped on arrival, latched into the port's timing snapshot and offered to a link reference. -/
  | timingPacketReceive (p : Fin 16) (packet : Bytes) (ticks : Nat)
  /-- CONTROL_PACKET_RECEIVE (R45). A control packet is checked against credit; ECHO_REQ is answered and HOST_MSG is placed in the lowest free receive slot. -/
  | controlPacketReceive (p : Fin 16) (packet : Bytes)
  /-- CLAIM_PACKET_RECEIVE (R46). A claim packet raises H_d of its domain when higher, or is counted stale, setting claim_conflict on an equal claim from another serial. -/
  | claimPacketReceive (p : Fin 16) (packet : Bytes)
  /-- STATUS_CELL_RECEIVE (R53). A status cell from the upstream updates its advertised credit limit and the port status record. -/
  | statusCellReceive (p : Fin 17) (body : Bytes)
  /-- ALIGNMENT_CELL_RECEIVE (R33). An alignment cell on a lane is used for deskew and for checking that the lane's alignment cells are in place. -/
  | alignmentCellReceive (p : Fin 17) (lane : Fin 4) (inPlace : Bool) (ns : Nat) (body : Bytes)
  /-- PORT_ENABLE (R36). Writing IN_PORTCTLn.en = 1 starts training on the configured lanes and moves the port to TRAINING. -/
  | portEnable (m : Fin 20) (p : Fin 17) (v : Word)
  /-- PORT_DISABLE (R36). Writing IN_PORTCTLn.en = 0 stops transmit at the next packet end, discards receive in progress and moves the port to DISABLED. -/
  | portDisable (m : Fin 20) (p : Fin 17) (v : Word)
  /-- LANES_LOCKED (R36). All configured lanes lock within the training time, and the port begins deskew. -/
  | lanesLocked (p : Fin 17) (lanes : BitVec 4)
  /-- TRAINING_TIMEOUT (R36). 100 ms elapse in TRAINING with a lane unlocked; train_timeout is set and training continues. -/
  | trainingTimeout (p : Fin 17)
  /-- DESKEW_COMPLETE (R36). Alignment cells are found on all lanes; within the skew limit the port goes UP, otherwise back to TRAINING with skew_err. -/
  | deskewComplete (p : Fin 17)
  /-- DESKEW_TIMEOUT (R36). 10 ms pass in DESKEW without alignment cells on every lane; deskew_tmo is set and training restarts. -/
  | deskewTimeout (p : Fin 17)
  /-- PORT_LINK_LOSS (R36). An UP port loses lane lock or alignment cells, discards the packet in progress and goes to TRAINING or DOWN. -/
  | portLinkLoss (p : Fin 17) (lanes : BitVec 4)
  /-- STATUS_CELL_SEND (R53). The device sends a status cell every 4,096 cell slots and within 1 µs of a change of lanes_locked, state or credit limit. -/
  | statusCellSend (p : Fin 17)
  /-- ALIGNMENT_CELL_SEND (R33). Every 16,384 cell slots the device sends an alignment cell on all configured lanes at once. -/
  | alignmentCellSend (p : Fin 17)
  /-- CLAIM_PACKET_SEND (R54). The device sends its claim packet at each change of its claim number and every 10 ms. -/
  | claimPacketSend (p : Fin 16)
  /-- TIMING_PACKET_SEND (R54). The device sends timing packets carrying its SC epoch at the rate of IN_CTL.tim_rate. -/
  | timingPacketSend (p : Fin 16)
  /-- CONTROL_TX_QUEUE (R44). Writing a bit of IN_CTLTXn.send queues the transmit slot for sending as a control packet. -/
  | controlTxQueue (m : Fin 20) (p : Fin 16) (v : Word)
  /-- CONTROL_PACKET_SEND (R44). A queued control packet leaves when credit allows, and the slot's send bit clears. -/
  | controlPacketSend (p : Fin 16)
  /-- CONTROL_SLOT_FREE (R44). Writing IN_CTLFREEn frees occupied receive slots and advances the advertised credit limit. -/
  | controlSlotFree (m : Fin 20) (p : Fin 16) (v : Word)
  /-- VOLTAGE_PACKET_SEND (R147). A voltage-beam sample packet is sent on an Uhlain transmit port once both rounds it covers are released. -/
  | voltagePacketSend (p : Fin 16) (b : Nat)
  /-- STREAM_TABLE_COMMIT (R49). Writing IN_STRCMT.commit validates the shadow stream table and binds it to a round, or refuses it with a reason. -/
  | streamTableCommit (m : Fin 20) (v : Word)
  /-- CLAIM_DOMAIN_RESET (R46). Writing IN_DOMRST sets H_d of each named domain to 0, refused while a port of the domain is not DISABLED. -/
  | claimDomainReset (m : Fin 20) (v : Word)
  /-- ALIGNMENT_ENABLE (R81). Writing AL_CTL.en = 1 validates buffers and occupancy and starts slabs with the first round after H. -/
  | alignmentEnable (m : Fin 20) (v : Word)
  /-- ALIGNMENT_DISABLE (R81). Writing AL_CTL.en = 0 discards unsealed rounds and cancels a pending freeze of a discarded round. -/
  | alignmentDisable (m : Fin 20) (v : Word)
  /-- WINDOW_CHANGE (R67). A write to AL_WIN is validated and bound to a round boundary, after which H moves to the new candidate. -/
  | windowChange (m : Fin 20) (v : Word)
  /-- FREEZE_COMMAND (R77). Writing AL_CAPCTL.freeze requests a freeze of a round, accepted or refused with a result code. -/
  | freezeCommand (m : Fin 20) (v : Word)
  /-- CAPTURE_RELEASE (R78). Writing AL_CAPCTL.release releases the held capture, or does nothing when none is held. -/
  | captureRelease (m : Fin 20) (v : Word)
  /-- REPAIR_BITMAP_SEND (R80). At span end plus W minus lead_us the unit sends the span's arrival bitmaps to the peer in SPAN messages. -/
  | repairBitmapSend
  /-- BOARD_ENABLE (R105). Writing BD_CTL.en = 1 moves the Board from IDLE to WAIT, or from HALTED to WAIT, or refuses with tbl_reason 7. -/
  | boardEnable (m : Fin 20) (v : Word)
  /-- BOARD_DISABLE (R98). Writing BD_CTL.en = 0 lets the Board finish the round in progress and go to IDLE. -/
  | boardDisable (m : Fin 20) (v : Word)
  /-- BOARD_HALT (R98). Writing BD_CTL.halt places a ply marker, stops the feeders, drains and reports unrun passes incomplete. -/
  | boardHalt (m : Fin 20) (v : Word)
  /-- DRAIN_REQUEST (R95). Writing BD_CTL.drain places an extra ply marker at the next sample boundary, or merges with one already due. -/
  | drainRequest (m : Fin 20) (v : Word)
  /-- BOARD_ROUND_START (R92). Once slab n has sealed, its plan is admitted and earlier passes are done, the Board issues pass 0 of round n. -/
  | boardRoundStart
  /-- PLY_MARKER_ISSUE (R94). The feeders place a ply marker between passes; the next pass, or a re-run, starts behind it, and pending remaps take effect. -/
  | plyMarkerIssue (t : Nat)
  /-- MARKER_RELEASE (R97). A marker held at a cell whose next bank is still draining proceeds once the drain finishes. -/
  | markerRelease
  /-- FEEDER_WAIT_END (R100). The array, stopped because a feeder had no sample, resumes when every feeder can issue. -/
  | feederWaitEnd
  /-- PASS_END (R101). The ply marker of a pass leaves the last cell, and the closed ply enters the drain path. -/
  | passEnd (rate minRate : Nat)
  /-- PLY_STATUS_FINAL (R187). The residuals of a ply are classified and the ply gets status pass, corrected, re-run or invalid, releasing its results to accumulation. -/
  | plyStatusFinal (f : PlyFaults)
  /-- DRAIN_COMPLETE (R96). A marker has left the last cell and the last drain write of its ply is acknowledged. -/
  | drainComplete
  /-- PAIRING_TABLE_COMMIT (R104). Writing BD_PTCMT.commit validates the shadow pairing table and binds it to a round, or refuses it. -/
  | pairingTableCommit (m : Fin 20) (v : Word)
  /-- REMAP_WRITE (R103). A write of out in BD_RMAP or BD_FMAP becomes pending until the next ply marker. -/
  | remapWrite (m : Fin 20) (x : Fin 24) (v : Word)
  /-- GROUP_OPEN (R121). AG_CMD op OPEN checks the group's definition and resources and arms the group at its start round, or refuses with a reason. -/
  | groupOpen (m : Fin 20) (v : Word)
  /-- GROUP_CLOSE (R122). AG_CMD op CLOSE binds the end of the integration in progress to a round. -/
  | groupClose (m : Fin 20) (v : Word)
  /-- GROUP_ABORT (R122). AG_CMD op ABORT binds the discard of the integration in progress to a round. -/
  | groupAbort (m : Fin 20) (v : Word)
  /-- PAIR_MAP_COMMIT (R111). Writing AG_PMCMT.commit validates the journal and binds it to a round, or refuses it with a reason. -/
  | pairMapCommit (m : Fin 20) (v : Word)
  /-- PAIR_MAP_APPLY (R112). Between the last lookup of round b-1 and the first of round b the device applies the bound journal and records taints. -/
  | pairMapApply
  /-- PAIR_MAP_DIRECT_WRITE (R110). A write to the Pair Map through T2 takes effect in direct mode and completes with an error response in journal mode. -/
  | pairMapDirectWrite (m : Fin 20) (row col : Fin 4096) (x : BitVec 16)
  /-- PAIR_MAP_DIGEST_DONE (R113). The recomputation of the Pair Map digest completes and AG_PMDIG and dig_busy are updated. -/
  | pairMapDigestDone
  /-- BEAM_ARRAY_ENABLE (R140). Writing BA_CTL.en = 1 checks the task table, weights and slab and moves the Beam Array to WAIT, or refuses with cfg_reason. -/
  | beamArrayEnable (m : Fin 20) (v : Word)
  /-- BEAM_ARRAY_DISABLE (R140). Writing BA_CTL.en = 0 lets the Beam Array finish the round in progress and go to IDLE. -/
  | beamArrayDisable (m : Fin 20) (v : Word)
  /-- BEAM_ARRAY_HALT (R140). Writing BA_CTL.halt stops the Beam Array after the step in progress and reports unfinished channel-sets incomplete. -/
  | beamArrayHalt (m : Fin 20) (v : Word)
  /-- BEAM_ROUND_START (R140). Once slab n has sealed and beam work is admitted, the Beam Array starts channel-set 0 of round n, or applies shedding when not admitted. -/
  | beamRoundStart
  /-- CHANNEL_SET_COMPLETE (R140). A channel-set completes its checks; the next starts, or a re-run, and the round's work goes to the release gate after the last. -/
  | channelSetComplete (rate minRate : Nat)
  /-- BEAM_CHECK_MISMATCH (R190). A slice's checker comparison fails; the sample periods from there are suppressed and the channel-set is re-run or made invalid. -/
  | beamCheckMismatch (x : SliceCheck)
  /-- WEIGHT_SET_SWITCH (R142). Writing BA_WSEL.commit binds a switch of the active weight set to a round, or refuses it. -/
  | weightSetSwitch (m : Fin 20) (v : Word)
  /-- WEIGHT_SET_CONFIRM (R143). Writing BA_WSEL.confirm_a or confirm_b clears the unverified mark of that set. -/
  | weightSetConfirm (m : Fin 20) (v : Word)
  /-- WEIGHT_DIGEST_DONE (R143). The recomputation of a weight set's digest completes, clearing dig_busy and, on a match, the unverified mark. -/
  | weightDigestDone
  /-- BEAM_CONFIG_COMMIT (R145). Writing BA_BCMT.commit validates the shadow beam configuration and binds it to a round, or refuses it. -/
  | beamConfigCommit (m : Fin 20) (v : Word)
  /-- RELEASE_GATE_PASS (R178). An instance whose contributing work is final passes the release gate and its frames become sendable. -/
  | releaseGatePass (typ : Fin 6)
  /-- FRAME_SEND (R162). A port's scheduler sends the next frame by precedence and reserved rate, advancing the stream's watermark. -/
  | frameSend (p : Fin 8) (first : Nat)
  /-- HLT_REPORT (R176). The device sends an HLT instance every OT_HLT.period ms and within 100 µs of a health state change. -/
  | hltReport
  /-- TIM_REPORT (R177). The device sends a TIM report at each second or tenth of a second and on a change of time quality or epoch. -/
  | timReport
  /-- ETHERNET_FRAME_RECEIVE (R155). A received Ethernet frame is passed to IEEE 1588 when it is a PTP message, or discarded and counted. -/
  | ethernetFrameReceive (p : Fin 8) (fcsOk : Bool) (frame : Bytes) (ticks corr uncorr : Nat)
  /-- ETH_ALIGNMENT_LOSS (R155). An Ethernet port loses PCS alignment, records went_down and retrains without host action. -/
  | ethAlignmentLoss (p : Fin 8)
  /-- ETH_LINK_UP (R155). An Ethernet port completes training and enters the up state. -/
  | ethLinkUp (p : Fin 8)
  /-- ROUTE_WRITE (R161). A write to OT_RTCTL_r is checked against port, endpoint and grant rules and applied or refused. -/
  | routeWrite (m : Fin 20) (r : Fin 256) (v : Word)
  /-- ENDPOINT_WRITE (R161). A write to an endpoint entry is applied only while no enabled route uses it. -/
  | endpointWrite (m : Fin 20) (e : Fin 256) (w : Fin 8) (v : Word)
  /-- ETH_PORT_CONTROL_WRITE (R161). A write to ET_PORTCTLn.speed or en is refused while a route in use includes the port. -/
  | ethPortControlWrite (m : Fin 20) (p : Fin 8) (v : Word)
  /-- SEQUENCE_SET (R167). A write to OT_SEQ_s sets a stream's next sequence number, refused when it would lower it. -/
  | sequenceSet (m : Fin 20) (st : Fin 200) (v : BitVec 64)
  /-- ADDER_MISMATCH (R191). A duplicated adder pair disagrees; the addition is repeated once, then marked invalid and the unit faulty on a second mismatch. -/
  | adderMismatch (unit : Nat) (again : Bool) (site : AddSite)
  /-- BOARD_TEST_REQUEST (R194). IG_TESTREQ op 1 starts an immediate Board test that rotates at every pass marker. -/
  | boardTestRequest (m : Fin 20) (unit : BitVec 8)
  /-- BEAM_TEST_REQUEST (R194). IG_TESTREQ op 2 runs the Beam Array known-vector test, refused in service. -/
  | beamTestRequest (m : Fin 20) (unit : BitVec 8)
  /-- HBM_RETRAIN_REQUEST (R194). IG_TESTREQ op 3 fully retrains an HBM stack, refused in service. -/
  | hbmRetrainRequest (m : Fin 20) (unit : BitVec 8)
  /-- SERDES_RECALIBRATE_REQUEST (R194). IG_TESTREQ op 4 recalibrates every lane of a SerDes port, refused in service. -/
  | serdesRecalibrateRequest (m : Fin 20) (unit : BitVec 8)
  /-- LANE_CALIBRATE_REQUEST (R194). IG_TESTREQ op 5 calibrates a lane unused by its port's mode. -/
  | laneCalibrateRequest (m : Fin 20) (unit : BitVec 8)
  /-- TEST_COMPLETE (R194). A requested test or calibration completes and IG_TESTRES reports passed or failed. -/
  | testComplete (passed : Bool)
  /-- MAINTENANCE_REQUEST (R194). Writing IG_CTL.maint enters or leaves the maintenance state, refused unless the arrays are idle and the unit is not active. -/
  | maintenanceRequest (m : Fin 20) (v : Word)
  /-- FAULT_CLEAR (R195). Writing IG_CTL.fclr = 1 leaves a fault Endgame when the cause has cleared and the timebase has relocked. -/
  | faultClear (m : Fin 20) (v : Word)
  /-- HEALTH_RECOVERY (R195). After 64 consecutive rounds without an impairing event the health state returns to NORMAL or DEGRADED. -/
  | healthRecovery
  /-- ARBITER_LOCKSTEP_FAULT (R196). The Arbiter's two cores disagree; it is stopped and restarted from its firmware while the safety sequencer acts. -/
  | arbiterLockstepFault
  /-- ARBITER_RESTART_DONE (R196). The Arbiter restart completes and the Arbiter resumes its duties. -/
  | arbiterRestartDone
  /-- ARBITER_RESTART_TIMEOUT (R196). An Arbiter restart not complete within 100 ms leads to resignation and Endgame. -/
  | arbiterRestartTimeout
  /-- COUNTER_DISAGREE (R247). The two time counter copies disagree; cnt_err is set, the counter becomes LOST and the device enters Endgame. -/
  | counterDisagree (delta : Int)
  /-- LEASE_RECEIVE (R206). A LEASE message renews the lease, acknowledges it, or raises H and fences a unit with a lower claim. -/
  | leaseReceive (message : Bytes) (serial : BitVec 64)
  /-- ACK_RECEIVE (R201). An ACK message counts as an acknowledgment of the active's lease. -/
  | ackReceive (message : Bytes)
  /-- WMARK_RECEIVE (R215). A WMARK message updates the peer's watermarks, letting the standby discard covered shadow frames. -/
  | wmarkReceive (message : Bytes)
  /-- DIGEST_RECEIVE (R214). A DIGEST message's digests are compared with the unit's own, and a mismatch makes a standby unsynchronised. -/
  | digestReceive (message : Bytes)
  /-- PLAN_RECEIVE (R210). A PLAN message admits the active's plan on the standby, or carries the peer's allowance report. -/
  | planReceive (message : Bytes)
  /-- SPAN_RECEIVE (R211). A SPAN message gives the peer's arrival bitmaps; the unit requests missing slots in RPRQ messages. -/
  | spanReceive (message : Bytes)
  /-- RPRQ_RECEIVE (R80). An RPRQ message lists slots the peer lacks; the unit sends an RPKT for each slot it holds. -/
  | rprqReceive (message : Bytes)
  /-- RPKT_RECEIVE (R80). An RPKT message carries a placed sample packet, which is checked and placed while its granule is open. -/
  | rpktReceive (message : Bytes)
  /-- JOIN_RECEIVE (R220). The active checks a JOIN against its own configuration and answers with JRES. -/
  | joinReceive (message : Bytes) (serial : BitVec 64)
  /-- JRES_RECEIVE (R220). A JRES message accepts or refuses the unit's join and sets jreason. -/
  | jresReceive (message : Bytes)
  /-- FREEZE_RECEIVE (R79). A FREEZE message from the active is applied as a freeze command with tgt = 1 for the named round. -/
  | freezeReceive (message : Bytes)
  /-- LEASE_PIN_TRANSITION (R200). A transition on LEASE_IN is a renewal or acknowledgment, or with a second within 1 µs a resignation; a non-active unit mirrors it. -/
  | leasePinTransition (gap : Nat)
  /-- LEASE_RENEWAL (R201). Every lease_us/10 the active sends a LEASE message and a pin transition at once. -/
  | leaseRenewal
  /-- WMARK_SEND (R215). Every 10 µs, and at resignation, the active sends its watermark for every stream. -/
  | wmarkSend
  /-- DIGEST_SEND (R214). Within 20 µs of forming a frame's digest, the unit sends it in a DIGEST message. -/
  | digestSend
  /-- LEASE_EXPIRY (R202). No renewal arrives for lease_us; a synchronised standby starts its guard before taking the lease. -/
  | leaseExpiry
  /-- GUARD_EXPIRY (R202). The guard ends; the standby takes the lease with C := H + 1 and starts sending its held frames. -/
  | guardExpiry
  /-- ACK_TIMEOUT (R203). No acknowledgment arrives for lease_us; an active without sole fences within 1 µs. -/
  | ackTimeout
  /-- CST_LINK_TIMEOUT (R204). The castling link has been down for lease_us; a synchronised standby becomes unsynchronised. -/
  | cstLinkTimeout
  /-- PLAN_TIMEOUT (R210). No PLAN for round n arrives by the seal plus 100 µs; the standby becomes unsynchronised and admits its own plan. -/
  | planTimeout (n : Nat)
  /-- CASTLING_ENABLE (R209). Writing CS_CTL.en = 1 takes the lease as sole unit or sends JOIN, as take selects. -/
  | castlingEnable (m : Fin 20) (v : Word)
  /-- CASTLING_DISABLE (R209). Writing CS_CTL.en = 0 stops castling messages and makes the unit UNPAIRED, refused while ACTIVE. -/
  | castlingDisable (m : Fin 20) (v : Word)
  /-- RESIGN (R219). CS_CMD op 1 makes the active stop payload, send a final WMARK and resign by message and pins. -/
  | castResign (m : Fin 20)
  /-- TAKE_AS_SOLE (R209). CS_CMD op 2 makes the unit take the lease as sole unit. -/
  | takeAsSole (m : Fin 20)
  /-- LEAVE (R209). CS_CMD op 3 stops castling and makes a non-active unit UNPAIRED. -/
  | castLeave (m : Fin 20)
  /-- JOIN (R220). CS_CMD op 4 sends a JOIN to the active. -/
  | castJoin (m : Fin 20)
  /-- HAND_OVER (R224). CS_CMD op 5 starts a handover at round CS_HOTGT to a prepared peer and enters HANDING. -/
  | handOver (m : Fin 20)
  /-- REFERENCE_EDGE (R230). An event of a reference is checked by its monitor and fed to the phase detector unless anomalous. -/
  | referenceEdge (r : Fin 8) (interval fine : Nat)
  /-- REFERENCE_EVENT_TIMEOUT (R230). An expected reference event does not arrive in time and counts as an anomaly or loss of signal. -/
  | referenceEventTimeout (r : Fin 8)
  /-- REFERENCE_QUALIFIED (R234). A reference has been anomaly-free for qual_s with the hard window met and becomes QUALIFIED. -/
  | referenceQualified (r : Fin 8)
  /-- HARD_WINDOW_GATE (R233). At the end of each gate the reference's frequency is compared with XO_IN against the hard window. -/
  | hardWindowGate (r : Fin 8) (off : Int)
  /-- CROSS_COMPARISON_UPDATE (R241). Every second the references are compared; an outlier is disqualified or disagreeing references become SUSPECT. -/
  | crossComparisonUpdate (short long : List Int)
  /-- REVERT_WAIT_EXPIRY (R237). A higher-ranked reference has been QUALIFIED for wait_s with revert on, and the device switches back to it. -/
  | revertWaitExpiry (r : Fin 8)
  /-- DPLL_LOCK (R227). Frequency and time offset have held within limits for 10/bw seconds and the DPLL becomes locked. -/
  | dpllLock
  /-- SLEW_COMPLETE (R238). The DCO slew reaches a frequency offset below 1e-11 and the loop filter takes over. -/
  | slewComplete
  /-- XO_IN_LOST (R240). The ring oscillator sees XO_IN stop or leave tolerance; the timebase is lost and Endgame follows. -/
  | xoInLost
  /-- XO_IN_RETURN (R240). XO_IN returns; xo_lost clears, the DPLL restarts in free run and references requalify. -/
  | xoInReturn
  /-- REFERENCE_ENABLE (R234). Writing REF_CFGr.en = 1 starts the reference's monitors in state INVALID. -/
  | referenceEnable (m : Fin 20) (r : Fin 8) (v : Word)
  /-- REFERENCE_DISABLE (R234). Writing REF_CFGr.en = 0 disables the reference, switching away when it is selected. -/
  | referenceDisable (m : Fin 20) (r : Fin 8) (v : Word)
  /-- REFERENCE_LATCH_CLEAR (R234). Writing a bit of REF_CMD.clr returns a LATCHED reference to INVALID. -/
  | referenceLatchClear (m : Fin 20) (v : Word)
  /-- MANUAL_SELECT (R235). A write of REF_CTL.msel or manual = 1 selects a reference manually, refused when it is not selectable. -/
  | manualSelect (m : Fin 20) (v : Word)
  /-- TAI_SECOND_ROLLOVER (R246). The time counter's nanoseconds reach 10^9 and seconds advance by one. -/
  | taiSecondRollover
  /-- TIME_STEP_REQUEST (R254). Writing TB_STEPCTL.go requests a step in the selected mode, bound to an instant or refused with a result. -/
  | timeStepRequest (m : Fin 20) (v : Word)
  /-- TIME_STEP_APPLY (R251). At its application instant a step is added to the counter, the time epoch increments and t_e may move. -/
  | timeStepApply
  /-- SC_EPOCH_COMMIT (R256). Writing TB_SCECTL.commit validates an SC epoch and applies it at once or binds it to a round, or refuses it. -/
  | scEpochCommit (m : Fin 20) (v : Word)
  /-- SC_EPOCH_APPLY (R256). A committed SC epoch takes effect, increments the time epoch and governs its rounds. -/
  | scEpochApply
  /-- SC_EPOCH_INVALIDATE (R256). Writing TB_SCECTL.inval clears sce_valid and puts alignment into majority mode. -/
  | scEpochInvalidate (m : Fin 20) (v : Word)
  /-- SYNC_RECEIVE (R258). A PTP Sync message is time-stamped and, with its exchange, yields an offset sample for a slave port. -/
  | syncReceive (p : Fin 8) (message : Bytes) (ticks : Nat)
  /-- FOLLOW_UP_RECEIVE (R257). A PTP Follow_Up supplies the precise origin time of a two-step Sync. -/
  | followUpReceive (p : Fin 8) (message : Bytes)
  /-- DELAY_REQ_RECEIVE (R257). A PTP Delay_Req on a master port is time-stamped and answered with Delay_Resp. -/
  | delayReqReceive (p : Fin 8) (message : Bytes) (ticks : Nat)
  /-- DELAY_RESP_RECEIVE (R257). A PTP Delay_Resp completes a delay exchange and updates meanPathDelay. -/
  | delayRespReceive (p : Fin 8) (message : Bytes)
  /-- PDELAY_REQ_RECEIVE (R257). A PTP Pdelay_Req is time-stamped and answered with Pdelay_Resp and, in two-step, Pdelay_Resp_Follow_Up. -/
  | pdelayReqReceive (p : Fin 8) (message : Bytes) (ticks : Nat)
  /-- PDELAY_RESP_RECEIVE (R257). A PTP Pdelay_Resp supplies times of a peer delay exchange. -/
  | pdelayRespReceive (p : Fin 8) (message : Bytes) (ticks : Nat)
  /-- PDELAY_RESP_FOLLOW_UP_RECEIVE (R257). A PTP Pdelay_Resp_Follow_Up completes a peer delay exchange. -/
  | pdelayRespFollowUpReceive (p : Fin 8) (message : Bytes)
  /-- ANNOUNCE_RECEIVE (R257). A PTP Announce message feeds the best master clock algorithm and port states. -/
  | announceReceive (p : Fin 8) (message : Bytes)
  /-- ANNOUNCE_RECEIPT_TIMEOUT (R257). No Announce arrives within announceReceiptTimeout and the port re-runs master selection. -/
  | announceReceiptTimeout (p : Fin 8)
  /-- SYNC_SEND (R257). A master port sends Sync, one-step or two-step, at its sync interval. -/
  | syncSend (p : Fin 8)
  /-- ANNOUNCE_SEND (R258). A master port sends Announce with its grandmaster data at its announce interval. -/
  | announceSend (p : Fin 8)
  /-- DELAY_REQ_SEND (R257). A slave port sends Delay_Req at its minimum interval. -/
  | delayReqSend (p : Fin 8)
  /-- PDELAY_REQ_SEND (R257). A port in the peer-to-peer profile sends Pdelay_Req at its interval. -/
  | pdelayReqSend (p : Fin 8)
  /-- COMPARATOR_ARM (R260). Writing TB_TRGCTLk.arm = 1 arms a comparator, firing at once late when its target is within 1 µs. -/
  | comparatorArm (m : Fin 20) (k : Fin 16) (v : Word)
  /-- COMPARATOR_FIRE (R260). The counter reaches an armed comparator's target; it pulses its pins, fires its producer and disarms or advances. -/
  | comparatorFire (k : Fin 16)
  /-- TRIGGER_PULSE_END (R260). A comparator's output pulse ends after TB_TRGWIDk ns. -/
  | triggerPulseEnd (k : Fin 16)
  /-- CAPTURE_EDGE (R262). A selected EVIO edge is time-stamped by a capture unit, or dropped when its queue is full. -/
  | captureEdge (pin : Fin 16) (fine : Nat) (rise : Bool)
  /-- CAPTURE_STAMP_READ (R262). A read of TB_CAPSk_LO removes the oldest stamp and latches its remaining fields. -/
  | captureStampRead (m : Fin 20) (k : Fin 16)
  /-- PLAN_ADMISSION (R270). The Chess Clock updates trims, predicts energy and rate, and admits the highest level that fits the allowance for round n. -/
  | planAdmission (n : Nat)
  /-- ENERGY_COUNT_UPDATE (R263). Every 10 µs each region's energy counter adds its weighted event counts. -/
  | energyCountUpdate (bd ba : Nat) (rest rails : List Nat)
  /-- PACE_CHECK (R272). Every 1 ms the steps completed are compared with the work due and the core point is raised when behind. -/
  | paceCheck (steps : Nat)
  /-- VOLTAGE_POINT_SETTLE (R265). A change of core voltage point settles within 20 µs. -/
  | voltagePointSettle
  /-- ENDGAME_REQUEST (R275). Writing CK_CTL.eg_req binds a host Endgame request to a round boundary, or refuses it. -/
  | endgameRequest (m : Fin 20) (v : Word)
  /-- ENDGAME_CLEAR (R275). Writing CK_CTL.eg_clr binds the clearing of Endgame cause 0 to a round boundary, or refuses it. -/
  | endgameClear (m : Fin 20) (v : Word)
  /-- ENDGAME_ENTRY (R277). The device enters Endgame: arrays halt, slabs stop, integrations void, HBM self-refreshes and the core drops to point 0. -/
  | endgameEntry
  /-- ENDGAME_EXIT (R277). No Endgame cause remains; the stacks leave self-refresh and work resumes with the next round. -/
  | endgameExit
  /-- THERMAL_CAUSE_CLEAR (R275). Tj has stayed below thr_c minus 3 °C for 1 s and Endgame cause 2 clears. -/
  | thermalCauseClear
  /-- HBM_REQUEST_SERVE (R281). At a channel's command opportunity the controller serves a ready request by class and promotion order. -/
  | hbmRequestServe (st : Fin 8) (c : Fin 32) (arrivals : List HbmArrival) (ready : List Nat) (sv : HbmService)
  /-- AGE_PROMOTION (R282). A request waiting longer than its class's age limit is promoted. -/
  | agePromotion (st : Fin 8) (c : Fin 32)
  /-- REFRESH_DUE (R284). A channel's tREFI elapses; it owes another interval and issues an all-bank refresh when the allowance is reached. -/
  | refreshDue (st : Fin 8) (c : Fin 32) (paid : Bool)
  /-- HBM_TEMPERATURE_READ (R285). Every 100 µs a stack's temperature is read; a stack turning hot pays its owed refreshes at once. -/
  | hbmTemperatureRead (st : Fin 8) (temp : BitVec 8)
  /-- TRNG_HEALTH_FAIL (R288). The random generator fails its health test and neighbour refresh falls back to counters. -/
  | trngHealthFail
  /-- TRNG_RETRY (R288). Writing HM_CTL.trng_retry retests the generator and ends the fallback when it passes. -/
  | trngRetry (m : Fin 20) (v : Word) (passes : Bool)
  /-- SCRUB_READ (R291). The scrubber reads a word and writes corrected data back unless a newer write intervened. -/
  | scrubRead (st : Fin 8) (c : Fin 32) (bank row pc col word pass : Nat) (outcome : Fin 3) (newer : Bool)
  /-- ROW_SPARE (R292). The Arbiter copies a failing row to a spare and remaps it. -/
  | rowSpare (st : Fin 8)
  /-- ROW_COPY_COMPLETE (R292). A row copy to a spare completes and waiting requests to the row proceed. -/
  | rowCopyComplete (st : Fin 8)
  /-- PHY_CENTRING (R293). Every 1 ms a controller repeats read and write centring on one channel. -/
  | phyCentring (st : Fin 8) (c : Fin 32)
  /-- HBM_TRAINING_DONE (R293). Full training of a stack completes, or the stack is marked failed. -/
  | hbmTrainingDone (st : Fin 8) (ok : Bool)
  /-- SELF_REFRESH_ENTRY_DONE (R294). Accepted requests complete, banks precharge and the stacks enter self-refresh with clocks stopped. -/
  | selfRefreshEntryDone
  /-- SELF_REFRESH_EXIT_DONE (R294). Clocks relock and the stacks leave self-refresh with short centring and postponement reset. -/
  | selfRefreshExitDone (temps : List Nat)
  /-- CROSSBAR_BURST (R301). A master's burst is granted on a target port and completes, or is refused with an error response and a violation kind. -/
  | crossbarBurst (m : Fin 20) (ch : Fin 8) (a : BitVec 40) (b : XbBurst)
  /-- MASTER_RESET (R303). A master's reset asserts; its bursts are finished or drained on its behalf and its port quiesces. -/
  | masterReset (m : Fin 20) (lead : List XbLead) (bursts : Nat)
  /-- DMA_GO (R304). XB_DMACTLc.go or the channel's doorbell starts an idle DMA channel or sets its pending mark. -/
  | dmaGo (m : Fin 20) (c : Fin 8) (v : Word)
  /-- DMA_ABORT (R304). XB_DMACTLc.abort finishes bursts in flight and stops the channel as aborted. -/
  | dmaAbort (m : Fin 20) (c : Fin 8) (v : Word)
  /-- DMA_DESCRIPTOR_COMPLETE (R304). A DMA descriptor's copy completes; status is written back and the next descriptor is read or the chain ends. -/
  | dmaDescriptorComplete (c : Fin 8) (hostData : Bytes) (x : DmaErrors)
  /-- PE_WIN_WRITE (R306). A write to PE_WIN moves the BAR2 window, discarded when misaligned or beyond the HBM capacity. -/
  | peWinWrite (m : Fin 20) (v : BitVec 64)
  /-- PCIE_REQUEST (R307). A PCIe request to a BAR is translated to a crossbar access, with error responses returned as completer abort. -/
  | pcieRequest (bar : PcieBar) (offset : BitVec 36) (op : XbOp)
  /-- MAILBOX_DOORBELL (R310). A mailbox doorbell queues a slot's request for the Arbiter, ignored when the slot is busy. -/
  | mailboxDoorbell (m : Fin 20) (v : Word)
  /-- MAILBOX_ECHO (R310). Mailbox op 0x0001 returns the request payload. -/
  | mailboxEcho
  /-- FIRMWARE_VERSION (R310). Mailbox op 0x0002 returns the firmware version. -/
  | firmwareVersion
  /-- BOARD_LINE_REPAIR_REQUEST (R193). Mailbox op 0x0010 asks the Arbiter to repair a Board line. -/
  | boardLineRepairRequest
  /-- HBM_ROW_SPARE_REQUEST (R292). Mailbox op 0x0011 asks the Arbiter to spare an HBM row. -/
  | hbmRowSpareRequest
  /-- HOST_EVENT (R311). A write of EV_HOSTEV or a host-event doorbell fires producer E032 + i. -/
  | hostEvent (m : Fin 20) (i : Fin 16)
  /-- EVENT_DELIVERY (R313). A fired event enters its channels and is delivered to a task input or group change, or dropped. -/
  | eventDelivery (more : Nat)
  /-- TASK_EXECUTE (R319). A task input takes one pending event and performs its action. -/
  | taskExecute (t : Fin 96) (fine : Nat)
  /-- EVIO_EDGE (R321). A filtered selected edge on an EVIO input fires its producer. -/
  | evioEdge (p : Fin 16) (rise : Bool) (held : Nat)
  /-- EVIO_PULSE_END (R321). An EVIO output pulse falls width ns after its last execution. -/
  | evioPulseEnd (p : Fin 16)
  /-- CHANNEL_CONFIG_WRITE (R313). A write to EV_CHCFGc by the channel's owner sets the channel, refusing dkind 3 or a bad destination. -/
  | channelConfigWrite (m : Fin 20) (c : Fin 128) (v : Word)
  /-- CHANNEL_OWNER_WRITE (R316). The Arbiter's write to EV_CHOWNc sets owner and security, discarded while the channel is enabled. -/
  | channelOwnerWrite (m : Fin 20) (c : Fin 128) (v : Word)
  /-- NOP (R326). The ASP instruction NOP does nothing for one instruction time. -/
  | aspNop (core : Fin 16)
  /-- BR (R328). BR branches to its target after two delay slots. -/
  | aspBr (core : Fin 16) (target : BitVec 15)
  /-- BRCC (R328). BRcc branches when its condition holds, after two delay slots. -/
  | aspBrcc (core : Fin 16) (cond : AspCond) (target : BitVec 15)
  /-- CALL (R333). CALL pushes the return address onto the call stack and branches, faulting on overflow. -/
  | aspCall (core : Fin 16) (target : BitVec 15)
  /-- RET (R333). RET pops the call stack and returns, faulting on underflow. -/
  | aspRet (core : Fin 16)
  /-- RETI (R333). RETI returns from an interrupt to RPC in the primary bank after two delay slots. -/
  | aspReti (core : Fin 16)
  /-- LOOPNZ (R326). LOOPNZ decrements LC and branches while it is not zero. -/
  | aspLoopnz (core : Fin 16) (target : BitVec 15)
  /-- WAIT (R341). WAIT stops execution until an interrupt is accepted. -/
  | aspWait (core : Fin 16)
  /-- EI (R332). EI enables interrupts. -/
  | aspEi (core : Fin 16)
  /-- DI (R332). DI disables interrupts. -/
  | aspDi (core : Fin 16)
  /-- SIG (R335). SIG fires the core's event output producer. -/
  | aspSig (core : Fin 16) (o : Fin 2)
  /-- HINT (R335). HINT sets SP_HINT bit n and fires the core's host interrupt source. -/
  | aspHint (core : Fin 16)
  /-- RPT (R330). RPT executes the next instruction a count of times, uninterruptibly. -/
  | aspRpt (core : Fin 16) (count : Option (BitVec 12))
  /-- MOVI (R326). MOVI writes a 16-bit immediate into half of a register. -/
  | aspMovi (core : Fin 16) (dst : AspReg) (high : Bool) (imm : BitVec 16)
  /-- MOV (R326). MOV moves between registers, special registers and stream ports, waiting on an empty input or full output. -/
  | aspMov (core : Fin 16) (dst src : AspReg)
  /-- MODP (R324). MODP steps a pointer, wrapping within its circular buffer. -/
  | aspModp (core : Fin 16) (ptr : Fin 8) (step : BitVec 16)
  /-- LOAD (R326). A load reads a word from X or Y space, through the external window when addressed there. -/
  | aspLoad (core : Fin 16) (y : Bool) (op : AspMem) (dst : Fin 16) (ecc : AspEcc)
  /-- STORE (R326). A store writes a word to X or Y space, through the external window when addressed there. -/
  | aspStore (core : Fin 16) (y : Bool) (op : AspMem) (src : Fin 16)
  /-- ADD (R327). ADD adds two registers or a register and immediate, saturating or wrapping by S. -/
  | aspAdd (core : Fin 16) (sat : Bool) (dst a : Fin 16) (b : AspSrc)
  /-- SUB (R327). SUB subtracts, saturating or wrapping by S. -/
  | aspSub (core : Fin 16) (sat : Bool) (dst a : Fin 16) (b : AspSrc)
  /-- AND (R327). AND forms the bitwise and. -/
  | aspAnd (core : Fin 16) (sat : Bool) (dst a : Fin 16) (b : AspSrc)
  /-- OR (R327). OR forms the bitwise or. -/
  | aspOr (core : Fin 16) (sat : Bool) (dst a : Fin 16) (b : AspSrc)
  /-- XOR (R327). XOR forms the bitwise exclusive or. -/
  | aspXor (core : Fin 16) (sat : Bool) (dst a : Fin 16) (b : AspSrc)
  /-- SHL (R327). SHL shifts left. -/
  | aspShl (core : Fin 16) (sat : Bool) (dst a : Fin 16) (b : AspSrc)
  /-- SHR (R327). SHR shifts right logically. -/
  | aspShr (core : Fin 16) (sat : Bool) (dst a : Fin 16) (b : AspSrc)
  /-- ASR (R327). ASR shifts right arithmetically. -/
  | aspAsr (core : Fin 16) (sat : Bool) (dst a : Fin 16) (b : AspSrc)
  /-- MIN (R327). MIN takes the smaller operand. -/
  | aspMin (core : Fin 16) (sat : Bool) (dst a : Fin 16) (b : AspSrc)
  /-- MAX (R327). MAX takes the larger operand. -/
  | aspMax (core : Fin 16) (sat : Bool) (dst a : Fin 16) (b : AspSrc)
  /-- ABS (R327). ABS takes the magnitude, saturating or wrapping by S. -/
  | aspAbs (core : Fin 16) (sat : Bool) (dst a : Fin 16)
  /-- NEG (R327). NEG negates, saturating or wrapping by S. -/
  | aspNeg (core : Fin 16) (sat : Bool) (dst a : Fin 16)
  /-- CMP (R327). CMP compares operands and sets the flags. -/
  | aspCmp (core : Fin 16) (sat : Bool) (a : Fin 16) (b : AspSrc)
  /-- MPY (R327). MPY multiplies register halves into an accumulator with one parallel load. -/
  | aspMpy (core : Fin 16) (sat : Bool) (acc : Fin 4) (a b : AspHalf) (par : AspPar) (ecc : AspEcc)
  /-- MAC (R327). MAC adds a product of halves into an accumulator with one parallel load. -/
  | aspMac (core : Fin 16) (sat : Bool) (acc : Fin 4) (a b : AspHalf) (par : AspPar) (ecc : AspEcc)
  /-- MSU (R327). MSU subtracts a product of halves from an accumulator with one parallel load. -/
  | aspMsu (core : Fin 16) (sat : Bool) (acc : Fin 4) (a b : AspHalf) (par : AspPar) (ecc : AspEcc)
  /-- CMAC (R326). CMAC adds a complex product x·h, or x·conj(h), into an accumulator pair. -/
  | aspCmac (core : Fin 16) (sat conj : Bool) (pair : Fin 2) (x : AspMem) (hp : Bool) (h : AspMem) (ecc : AspEcc)
  /-- CMAC2 (R326). CMAC2 adds x·h into A0:A1 and y·h into A2:A3. -/
  | aspCmac2 (core : Fin 16) (sat conj : Bool) (x y h : AspMem) (ecc : AspEcc)
  /-- MOVA (R326). MOVA shifts accumulators right with half-even rounding into a data register. -/
  | aspMova (core : Fin 16) (sat : Bool) (dst : Fin 16) (a : Fin 4) (b : Option (Fin 4)) (sh : Fin 32)
  /-- CLRA (R326). CLRA clears accumulators. -/
  | aspClra (core : Fin 16) (mask : BitVec 4)
  /-- ADDA (R326). ADDA adds accumulators. -/
  | aspAdda (core : Fin 16) (sat : Bool) (dst a b : Fin 4)
  /-- SHA (R326). SHA shifts an accumulator. -/
  | aspSha (core : Fin 16) (sat : Bool) (a : Fin 4) (left : Bool) (sh : Fin 32)
  /-- EXT (R326). EXT extracts a bit field. -/
  | aspExt (core : Fin 16) (dst src : AspReg) (pos width1 : Fin 32)
  /-- INS (R326). INS inserts a bit field. -/
  | aspIns (core : Fin 16) (dst src : AspReg) (pos width1 : Fin 32)
  /-- INTERRUPT_ACCEPT (R333). At an accepting boundary the core accepts the lowest pending enabled interrupt, saving RPC and switching to the shadow bank. -/
  | interruptAccept (core : Fin 16)
  /-- EXTERNAL_ACCESS_COMPLETE (R339). An external-window access completes and the waiting core continues, or faults on an error response. -/
  | externalAccessComplete (core : Fin 16)
  /-- ASP_STREAM_DELIVERY (R336). Voltage-beam words or another core's output words enter an input FIFO, with headers latched or queued. -/
  | aspStreamDelivery (core : Fin 16) (port : Fin 4)
  /-- ASP_RUN (R341). Writing SP_CTLn.run = 1 starts a STOPPED core at SP_PCn. -/
  | aspRun (m : Fin 20) (core : Fin 16) (v : Word)
  /-- ASP_STOP (R341). Writing SP_CTLn.run = 0 stops the core at the next accepting boundary. -/
  | aspStop (m : Fin 20) (core : Fin 16) (v : Word)
  /-- ASP_STEP (R341). Writing SP_CTLn.step executes a stopped core to the next accepting boundary. -/
  | aspStep (m : Fin 20) (core : Fin 16) (v : Word)
  /-- ASP_RESET (R341). Writing SP_CTLn.rst resets the core, its banks, stack, FIFOs and pending interrupts. -/
  | aspReset (m : Fin 20) (core : Fin 16) (v : Word)
  /-- HOST_MESSAGE (R332). A host write of SP_HMSGn makes interrupt 4 pending. -/
  | hostMessage (m : Fin 20) (core : Fin 16) (v : Word)
  /-- AES3_FRAME (R356). At each frame instant each monitor channel takes a word by its fade state and the outputs send a subframe pair. -/
  | aes3Frame
  /-- BUFFER_WORD_APPEND (R357). A word from an ASP port or a crossbar write is appended to a monitor buffer, or dropped on overrun. -/
  | bufferWordAppend (ch : Fin 16) (x : Option Word)
  /-- AUDIO_CLOCK_SELECT (R349). A write of AU_CTL.clk selects the timebase or starts acquiring AES3_REF. -/
  | audioClockSelect (m : Fin 20) (v : Word)
  /-- AES3_REF_MEASURE (R349). After 1 s of measurement AES3_REF is steered toward or refused as out of range. -/
  | aes3RefMeasure (off : Int)
  /-- AES3_REF_LOCK (R349). The elastic buffer has held 4 frames for 1 s and the frame clock becomes LOCKED. -/
  | aes3RefLock
  /-- AES3_REF_LOSS (R349). AES3_REF loses preambles for 3 frames or leaves range; lock is lost and the rate held. -/
  | aes3RefLoss
  /-- CONTAINER_WRITE (R366). Mailbox op 0x0020 writes a container into a slot and verifies it. -/
  | containerWrite
  /-- CONTAINER_VERIFY (R363). Mailbox op 0x0021 verifies a slot's container again. -/
  | containerVerify
  /-- SLOT_EMPTY (R366). Mailbox op 0x0022 marks a slot EMPTY, refused for a slot in use. -/
  | slotEmpty
  /-- FULL_LOAD (R367). Mailbox op 0x0023 starts a full load of a container when the unit is quiesced and unpaired. -/
  | fullLoad
  /-- FULL_LOAD_COMPLETE (R367). A full load completes or fails, setting the configuration state, epoch, hash and load record. -/
  | fullLoadComplete (ok : Bool)
  /-- REGION_LOAD (R369). Mailbox op 0x0024 validates a region container and binds its load to a round boundary. -/
  | regionLoad
  /-- REGION_LOAD_APPLY (R371). At its instant the bound region load starts and the region becomes unavailable. -/
  | regionLoadApply
  /-- REGION_LOAD_COMPLETE (R373). A region load completes, updating epoch and hash, or fails and restores the previous image. -/
  | regionLoadComplete (ok : Bool)
  /-- SLOT_MARK_GOOD (R366). Mailbox op 0x0025 marks a VERIFIED slot GOOD. -/
  | slotMarkGood
  /-- KEY_PROGRAM (R363). Mailbox op 0x0026 with tgt 0 programs a public key once. -/
  | keyProgram
  /-- KEY_REVOKE (R363). Mailbox op 0x0026 with tgt 1 revokes a key. -/
  | keyRevoke
  /-- REPAIR_CLEAR (R377). Mailbox op 0x0027 clears a repair in the maintenance state and logs it. -/
  | repairClear
  /-- REPAIR_LOG_APPEND (R375). The Arbiter appends a repair-log record and reads it back, writing a checkpoint when due. -/
  | repairLogAppend (bad : Nat)
  /-- POWER_ON (R378). VIN rises above 10.8 V after being below 10.0 V and Opening runs its steps to Ready. -/
  | powerOn (o : Opening)
  /-- POWER_LOSS (R392). VIN falls below 10.0 V and every rail turns off. -/
  | powerLoss
  /-- VIN_LOW (R392). VIN stays below 10.7 V for 100 µs; vin_low is set and a health record raised. -/
  | vinLow (mv cma : Nat)
  /-- VIN_RECOVER (R392). VIN stays at or above 10.8 V for 100 µs and vin_low clears. -/
  | vinRecover (mv cma : Nat)
  /-- OVERVOLTAGE (R392). VIN stays above 13.8 V for 10 µs and the device enters SHUTDOWN. -/
  | overvoltage (mv cma : Nat)
  /-- REGULATOR_EXCURSION (R395). A rail stays outside its limit for 10 µs and the device enters SHUTDOWN. -/
  | regulatorExcursion (rail : Fin 5) (mv amps : Nat)
  /-- THERMAL_SENSOR_UPDATE (R406). Every 100 µs the core junction sensors update and the hottest drives the thermal reactions. -/
  | thermalSensorUpdate (temps : List Int)
  /-- RESET_N_ASSERT (R383). RESET_N low for 1 µs resets everything outside the always-on domain and reruns Opening. -/
  | resetNAssert (o : Opening)
  /-- RESET_N_RELEASE (R396). RESET_N goes high and an Opening held at step 1 continues. -/
  | resetNRelease
  /-- PCIE_RESET (R383). PERST_N, hot reset or link down resets master M0 and the PCIe core. -/
  | pcieReset (perst : Bool) (link : PcieLink)
  /-- FUNCTION_LEVEL_RESET (R383). A function-level reset resets as a PCIe reset and aborts the DMA channels. -/
  | functionLevelReset
  /-- REGION_RESET (R384). Writing MG_RRST resets an idle region and reapplies its register records, or refuses. -/
  | regionReset (m : Fin 20) (v : Word)
  /-- WATCHDOG_KICK (R385). Writing MG_WDOG.kick = 0x5A refreshes the Arbiter watchdog. -/
  | watchdogKick (m : Fin 20) (v : Word)
  /-- WATCHDOG_EXPIRY (R385). The watchdog is not refreshed within its period and the Arbiter restarts. -/
  | watchdogExpiry
  /-- PAIR_MAP_CONFIRM (R389). Writing MG_CTL.pm_confirm clears pm_unv. -/
  | pairMapConfirm (m : Fin 20)
  /-- ADJOURNMENT (R386). Mailbox op 0x0030 enters Adjournment: resign, halt, self-refresh, save context and power down. -/
  | adjournment
  /-- RESET_REQUEST (R383). Mailbox op 0x0031 performs a RESET_N-equivalent reset after the response. -/
  | resetRequest (o : Opening)
  /-- BOOT_PREF_SET (R380). Mailbox op 0x0032 sets the preferred boot slot to a GOOD slot. -/
  | bootPrefSet
  /-- WATCHDOG_PERIOD_SET (R385). Mailbox op 0x0033 sets the watchdog period for secure requesters. -/
  | watchdogPeriodSet
  /-- WAKE_PIN (R388). WAKE_N low for 1 µs ends Adjournment and restores configuration and context to Ready. -/
  | wakePin (w : Wake)
  /-- WAKE_TIME (R388). The counter reaches MG_WAKETIME with en set and Adjournment ends. -/
  | wakeTime (w : Wake)
  /-- SMBUS_SET_OFFSET (R401). SMBus command 0x01 sets the CSR offset. -/
  | smbusSetOffset (pec : Bool) (data : Bytes)
  /-- SMBUS_READ (R401). SMBus command 0x02 reads the register at the offset if allowed and advances it. -/
  | smbusRead (pec : Bool)
  /-- SMBUS_WRITE (R401). SMBus command 0x03 writes the register at the offset if allowed and advances it. -/
  | smbusWrite (pec : Bool) (data : Bytes)
  /-- SMBUS_WAKE (R401). SMBus command 0x10 wakes the device from Adjournment. -/
  | smbusWake (pec : Bool) (w : Wake)
  /-- SMBUS_FIRMWARE_APPEND (R401). SMBus command 0x11 appends to the replacement firmware image while fw_fail is set. -/
  | smbusFirmwareAppend (pec : Bool) (data : Bytes) (verified : Option Word)
  /-- SMBUS_ALERT_RESPONSE (R401). A read of the Alert Response Address releases SMB_ALERT_N. -/
  | smbusAlertResponse
  /-- BYPASS (R403). JTAG BYPASS selects the bypass register. -/
  | jtagBypass
  /-- IDCODE (R403). JTAG IDCODE selects the identification register. -/
  | jtagIdcode
  /-- SAMPLE_PRELOAD (R403). JTAG SAMPLE/PRELOAD samples and preloads the boundary register. -/
  | jtagSamplePreload (pins preload : Nat)
  /-- EXTEST (R403). JTAG EXTEST drives the boundary register while RESET_N is low, otherwise acts as BYPASS. -/
  | jtagExtest (pins preload : Nat)
  /-- EXTEST_PULSE (R403). JTAG EXTEST_PULSE tests AC lanes while RESET_N is low, otherwise acts as BYPASS. -/
  | jtagExtestPulse (pins preload : Nat)
  /-- EXTEST_TRAIN (R403). JTAG EXTEST_TRAIN tests AC lanes with trains while RESET_N is low, otherwise acts as BYPASS. -/
  | jtagExtestTrain (pins preload : Nat)
  /-- HIGHZ (R403). JTAG HIGHZ floats outputs while RESET_N is low, otherwise acts as BYPASS. -/
  | jtagHighz
  /-- CLAMP (R403). JTAG CLAMP holds outputs from the boundary register while RESET_N is low, otherwise acts as BYPASS. -/
  | jtagClamp
  /-- TEST_LOGIC_RESET (R403). TRST_N low holds the test access port in Test-Logic-Reset. -/
  | testLogicReset
  /-- CODEWORD_RECEIVE (R30). An RS(544,514) codeword is decoded on a locked Uhlain or CST lane; it counts in cw_corr when corrected, or it counts in cw_uncorr and every cell that overlaps it is discarded. -/
  | codewordReceive (p : Fin 17) (lane : Fin 4) (outcome : Fin 3) (overlap : Nat)
  /-- CELL_RECEIVE (R35). A counted cell arrives that fails hcrc, breaks the seq order or has no packet in progress; the device discards it, or discards the packet in progress and resyncs at the next first or only cell, and counts it. -/
  | cellReceive (p : Fin 17) (lane : Fin 4) (cell : CellIn)
  /-- LEASE_WAIT_EXPIRY (R209). lease_us after CS_CTL.en is written 1 with take = 1 and no LEASE received, the unit takes the lease as sole unit and becomes ACTIVE. -/
  | leaseWaitExpiry
  /-- PERST_N_RELEASE (R378). The release of PERST_N lets the PCIe endpoint begin link training within 20 ms, or after step 5 of Opening when that step comes later. -/
  | perstNRelease (link : PcieLink)
  deriving DecidableEq, Repr

end Sys2Proof
end

