-- ==== Sys2Proof/Decode.lean ====
section
/-! DEFINITION. The command a word of the table spells. The table of this block gives no row any bits: a command comes with
its operands, not as a word. -/

namespace Sys2Proof

/-- The command that a word of `nbits` bits spells by the table. No row of the table has bits, so no word spells one. -/
def decodeTableWord (_nbits _w : Nat) : Option Instr := none

end Sys2Proof
end

