-- ==== Sys2Proof/Machine/Crc.lean ====
section
/-! DEFINITION. Byte strings: little-endian and network-order numbers (R10, R11), and the cyclic redundancy checks
the spec names with their check values. -/

namespace Sys2Proof.Machine

/-- The little-endian string of `n` bytes that holds a number (R11). -/
def leBytes : Nat → Nat → Bytes
  | 0, _ => []
  | n + 1, v => BitVec.ofNat 8 v :: leBytes n (v / 256)

/-- The network-order string of `n` bytes that holds a number (R11). -/
def beBytes (n v : Nat) : Bytes := (leBytes n v).reverse

/-- The number a little-endian byte string holds. -/
def leNat : Bytes → Nat
  | [] => 0
  | b :: r => b.toNat + 256 * leNat r

/-- The number a network-order byte string holds. -/
def beNat (bs : Bytes) : Nat := leNat bs.reverse

/-- `n` zero bytes. -/
def zeros (n : Nat) : Bytes := List.replicate n 0

/-- The byte at an offset; 0 beyond the end. -/
def byteAt (bs : Bytes) (o : Nat) : Nat := (bs.getD o 0).toNat

/-- The little-endian field of `n` bytes at an offset. -/
def leAt (bs : Bytes) (o n : Nat) : Nat := leNat ((bs.drop o).take n)

/-- The network-order field of `n` bytes at an offset. -/
def beAt (bs : Bytes) (o n : Nat) : Nat := beNat ((bs.drop o).take n)

/-- Bits [hi:lo] of a number. -/
def bitsOf (v hi lo : Nat) : Nat := (v >>> lo) % 2 ^ (hi + 1 - lo)

/-- True when bit i of a number is 1. -/
def bitOn (v i : Nat) : Bool := v.testBit i

/-- Applies a function `n` times. -/
def iterate {α : Type} (f : α → α) : Nat → α → α
  | 0, x => x
  | n + 1, x => iterate f n (f x)

/-- One bit of a reflected CRC. -/
def crcStepRefl (poly c : Nat) : Nat := if c.testBit 0 then (c >>> 1) ^^^ poly else c >>> 1

/-- One byte of a reflected CRC. -/
def crcByteRefl (poly c : Nat) (b : Byte) : Nat := iterate (crcStepRefl poly) 8 (c ^^^ b.toNat)

/-- CRC-32C (R39): polynomial 0x1EDC6F41 reflected, initial value and final XOR 0xFFFFFFFF. -/
def crc32c (bs : Bytes) : Nat := bs.foldl (crcByteRefl 0x82F63B78) 0xFFFFFFFF ^^^ 0xFFFFFFFF

/-- CRC-64 with the ECMA-182 polynomial, reflected, initial value and final XOR all ones. -/
def crc64 (bs : Bytes) : Nat :=
  bs.foldl (crcByteRefl 0xC96C5795D7870F42) 0xFFFFFFFFFFFFFFFF ^^^ 0xFFFFFFFFFFFFFFFF

/-- The FCS of IEEE 802.3: CRC-32, reflected, initial value and final XOR all ones. -/
def crc32 (bs : Bytes) : Nat := bs.foldl (crcByteRefl 0xEDB88320) 0xFFFFFFFF ^^^ 0xFFFFFFFF

/-- An Ethernet frame with its padding to 60 bytes and its FCS (R155). -/
def withFcs (bs : Bytes) : Bytes :=
  let p := bs ++ zeros (60 - bs.length)
  p ++ leBytes 4 (crc32 p)

/-- One bit of the cell header CRC-8. -/
def crcStep8 (c : Nat) : Nat := if c.testBit 7 then ((c <<< 1) ^^^ 0x07) % 256 else (c <<< 1) % 256

/-- The cell header CRC-8 (R31): polynomial 0x07, initial value 0, no reflection, no final XOR. -/
def crc8 (bs : Bytes) : Nat := bs.foldl (fun c b => iterate crcStep8 8 (c ^^^ b.toNat)) 0

/-- A number of `w` bits read as two's complement. -/
def toSigned (w v : Nat) : Int :=
  let u := v % 2 ^ w
  if u < 2 ^ (w - 1) then (u : Int) else (u : Int) - 2 ^ w

/-- The `w`-bit two's complement pattern of an integer, wrapped. -/
def ofSigned (w : Nat) (i : Int) : Nat := (i % (2 ^ w : Int)).toNat

/-- The smallest multiple of `g` that is at least `n`. -/
def roundUp (n g : Nat) : Nat := (n + g - 1) / g * g

/-- The quotient rounded up. -/
def ceilDiv (n d : Nat) : Nat := (n + d - 1) / d

/-- Sum of a function over 0 .. n-1. -/
def sumTo (n : Nat) (f : Nat → Nat) : Nat := (List.range n).foldl (fun a i => a + f i) 0

/-- The lowest i below n with a property. -/
def lowest (n : Nat) (p : Nat → Bool) : Option Nat := (List.range n).find? p

end Sys2Proof.Machine
end

