-- ==== Sys2Proof/Config.lean ====
section
/-! DEFINITION. What an implementation fixes and what the spec leaves open: constants without a body, so that no
proof can see a value of them (free values, and values fused or characterised for each part). -/

namespace Sys2Proof

/-- The part's serial number (TOP_SERIAL), fused. -/
opaque Config.serial : BitVec 64

/-- The vendor ID the spec calls 'assigned' (PE_ID.vid). -/
opaque Config.vendorId : BitVec 16

/-- The silicon revision (TOP_ID.silicon), fused. -/
opaque Config.silicon : BitVec 8

/-- The characterised coefficients CK_COEF0 to CK_COEF3. -/
opaque Config.coef : Nat → BitVec 32

/-- What a byte of beam staging holds that no channel-set of the round has written: the spec states no value. The
argument is the model's own counter of free values. -/
opaque Config.staleByte : Nat → BitVec 8

/-- The loop filter of the DPLL: from the bandwidth in 0.1 mHz, the integrator, the DCO's fractional offset in units of 10^-18
and the time offset of an event in ps, the new offset and integrator. R226 gives its order and damping and no difference
equation. -/
opaque Config.loopFilter : Nat → Int → Int → Int → Int × Int

/-- The fractional offset of a reference from XO_IN in units of 10^-18, toward which a switch slews (R238). The argument is the
model's own counter of free values. -/
opaque Config.refRate : Nat → Int

/-- The filtered offset, in ps, that R230 compares a type N or L sample with: the spec names no filter. The argument is the
earlier normal samples, newest first. -/
opaque Config.filteredOffset : List Int → Int

/-- Bits of a value the spec does not state: ASP shift results for amounts outside 0–31, the upper bits of a narrower
register moved to a wider one, words at P addresses above 0x7FFF, flags it does not define, and a local sample address
without an SC epoch. The argument is the model's own counter of free values. -/
opaque Config.freeBits : Nat → BitVec 64

/-- The stream numbers, from 197, by which castling messages name the voltage stream of a Uhlain port (R224): the spec gives
none. -/
opaque Config.ulpStreamNo : Nat → Nat

/-- How many idle cells fill a port's cell slots before its next cell: the spec gives no time at which a cell is ready. The
argument is the model's own counter of free values. -/
opaque Config.idleCells : Nat → Nat

/-- Public key 0, Aqdal's, programmed at manufacture (R363): x in the low 384 bits, y in the high 384 bits. -/
opaque Config.aqdalKey : BitVec 768

/-- The version and manufacturer fields of the IDCODE, which PK8192.bsd gives (R403). -/
opaque Config.jtagVersion : BitVec 4

/-- The manufacturer field of the IDCODE (R403). -/
opaque Config.jtagMaker : BitVec 11

end Sys2Proof
end

