-- ==== Sys2Proof/Machine/Regs.lean ====
section
/-! DEFINITION. The register table of the CSR space: every register of the spec's register tables with its
block, offset, array strides, fields, access codes (Table 0-7), reset values and ranges; the value an unwritten
register reads (power-on reset, R19); and a named reference for every field. -/

namespace Sys2Proof.Machine

/-- The access codes of Table 0-7 (R16); `arb` is RWO owned by the Arbiter, `own` RWO owned as EV_CHOWN says. -/
inductive Acc where
  | rw | ro | wo | w1c | w1s | rc | rl | arb | own
  deriving DecidableEq, Repr

/-- One field of a register: its bits, access code, reset value and the ranges a write may give it (empty: any). -/
structure Fld where
  hi : Nat
  lo : Nat
  acc : Acc
  reset : Nat
  ranges : List (Nat × Nat)
  deriving DecidableEq, Repr

/-- The names of the registers. -/
inductive RegId where
  | IN_CTL | IN_STATUS | IN_STRCMT | IN_STRERR | IN_STRTGT | IN_STRBND | IN_DOMRST | IN_DOMCLM
  | IN_PORTCTL | IN_PORTSTAT | IN_CTLFREE | IN_CTLTX | IN_TIMSC | IN_TIMEPS | IN_TIMEPNS | IN_TIMARRS
  | IN_TIMARRNS | IN_CNT | IN_STRA | IN_STRB | IN_STRC | IN_RXSLOT | IN_TXSLOT | AL_CTL
  | AL_STATUS | AL_WIN | AL_ROUNDLEN | AL_ORIGIN | AL_SLABGEO | AL_FLOGCAP | AL_BUF_BASE | AL_SLABSIZE
  | AL_RING_BASE | AL_RINGSIZE | AL_HORIZ | AL_SEALED | AL_FLGEN | AL_SKLO | AL_SKHI | AL_SKCTL
  | AL_HMASK_A | AL_HMASK_B | AL_HMASKCTL | AL_CAPCTL | AL_CAPSTAT | AL_CAPRND | AL_CAPHELD | AL_RPRCTL
  | AL_TPCTL | AL_CNT | AL_STRLATE | BD_CTL | BD_STATUS | BD_CFG | BD_PTCMT | BD_PTTGT
  | BD_PTBND | BD_ROUND | BD_PASS | BD_ADMIT | BD_PASSDONE | BD_RATE | BD_STEPS | BD_PTBL
  | BD_PTBLF | BD_RMAP | BD_FMAP | BD_CNT | AG_CTL | AG_STATUS | AG_CMD | AG_CMDRES
  | AG_CMDTGT | AG_CMDBND | AG_CHRATE | AG_PMCMT | AG_PMERR | AG_PMTGT | AG_PMBND | AG_PMDIG
  | AG_TAINT | AG_PMERRENT | AG_CNT | AG_GCFG | AG_GLEN | AG_GCH | AG_GSTAT | AG_GSTART
  | AG_GBASE0 | AG_GBASE1 | AG_GSIZE | AG_GINT | AG_GREC | AG_GTILE | AG_PMJ0 | AG_PMJ1
  | BA_CTL | BA_STATUS | BA_CFG | BA_CH | BA_SCHED | BA_VCH | BA_VPKT | BA_DPROF
  | BA_BCMT | BA_ERR | BA_WSEL | BA_WBASE_A | BA_WBASE_B | BA_WSIZE | BA_WTGT | BA_WBND
  | BA_WDIG_A | BA_WDIG_B | BA_STGBASE | BA_STGSIZE | BA_BTGT | BA_BBND | BA_ROUND | BA_RATE
  | BA_CNT | BA_TASK | BA_BEAM | BA_VLSTA | BA_VLSTB | OT_CTL | OT_STATUS | OT_TPW
  | OT_FLG | OT_HLT | OT_TIM | OT_CAPA | OT_CAPB | OT_CAPC | OT_CNT | OT_SEQ
  | OT_RTCTL | OT_RTGNT | OT_RTSTAT | OT_EPCTL | OT_EPPORT | OT_EPMAC | OT_EPIP | ET_PORTCTL
  | ET_PORTSTAT | ET_MAC | ET_IP4 | ET_IP6 | ET_CNT | ET_PTPCTL | ET_PTPCLK | ET_PTPUTC
  | ET_PTPID | ET_PTPPCTL | ET_PTPPSTAT | ET_PTPASYM | ET_PTPTXADJ | ET_PTPRXADJ | ET_PTPOFF | ET_PTPMPD
  | ET_PTPCNT | IG_CTL | IG_STATUS | IG_TESTREQ | IG_TESTRES | IG_LAST | IG_FIX | IG_FIXQ
  | IG_FIXRND | IG_LINE | IG_CNT | CS_CTL | CS_CMD | CS_STATUS | CS_LEASE | CS_CLAIM
  | CS_HCLAIM | CS_PEERSN | CS_HOTGT | CS_WMAGE | CS_CNT | CS_PORTCTL | CS_PORTSTAT | CS_CELLCNT
  | REF_CTL | REF_STATUS | REF_XOWIN | REF_XCMP | REF_XCMP2 | REF_SLEW | REF_REVERT | REF_CMD
  | REF_DCO | REF_CFG | REF_BW | REF_TOL | REF_STAT | REF_FOFF | REF_POFF | REF_ANOM
  | REF_DISQ | REF_CNT | REF_LDLY | TB_CTL | TB_STATUS | TB_STEPTHR | TB_TRIM | TB_NOWS
  | TB_NOWNS | TB_NOWFR | TB_INC | TB_STEPCTL | TB_STEPNS | TB_STEPS | TB_STEPTGT | TB_STEPBND
  | TB_SCECTL | TB_SCESC | TB_SCETS | TB_SCETNS | TB_SCEPER | TB_SCETGT | TB_SCEBND | TB_SCEF_SC
  | TB_SCEF_TS | TB_SCEF_TNS | TB_SCEF_PER | TB_TRGCTL | TB_TRGS | TB_TRGNS | TB_TRGFR | TB_TRGPERS
  | TB_TRGPERNS | TB_TRGWID | TB_TRGSKIP | TB_OUTDLY | TB_CAPCTL | TB_CAPSTAT | TB_CAPS | TB_CAPNS
  | TB_CAPX | TB_CNT | CK_CTL | CK_STATUS | CK_CAP | CK_THERM | CK_CAPEFF | CK_PACE
  | CK_ROUND | CK_EGTGT | CK_PLAN | CK_VPT | CK_COEF | CK_E | CK_RAIL | CK_TRIM
  | CK_KRATE | CK_CNT | HM_CTL | HM_STATUS | HM_AGE0 | HM_AGE1 | HM_AGE2 | HM_PROMO
  | HM_TCTL | HM_ERR | HM_ERRROW | HM_ERRRND | HM_STK | HM_STKSP | HM_STKHW | HM_CNT
  | XB_MATTR | XB_MRST | XB_CSRSEC | XB_VIOL | XB_VIOLADR | XB_MBXDB | XB_MBXBUSY | XB_CNT
  | XB_DMACTL | XB_DMASTAT | XB_DMADESC | XB_DMACUR | XB_DMADONE | EV_CTL | EV_STATUS | EV_GRPEN
  | EV_SWGATE | EV_GATES | EV_HOSTEV | EV_TSEC | EV_CNT | EV_CHCFG | EV_CHOWN | EV_CHSTAT
  | EV_CHCNT | EV_TSTAT | EV_IO | SP_FAULT | SP_HINT | SP_CTL | SP_STAT | SP_PC
  | SP_HMSG | SP_XWIN | SP_INCFGA | SP_INCFGB | SP_OUTCFG | SP_INSTAT | SP_OUTSTAT | SP_INHDR
  | SP_CNT | SP_WIN | AU_CTL | AU_STATUS | AU_REFCTL | AU_REFOFF | AU_ORIG | AU_SAOFF
  | AU_OUTCTL | AU_CHCFG | AU_CHLO | AU_CHSTAT | AU_CNT | CF_STATUS | CF_EPOCH | CF_RLBND
  | CF_KEYS | CF_CFGHASH | CF_SLOT | CF_SLOTEP | CF_SLOTWR | CF_SLOTLEN | CF_LOG0 | CF_LOG1
  | CF_CNT | TOP_ID | TOP_FW | TOP_SERIAL | MG_STATUS | MG_CTL | MG_RRST | MG_WDOG
  | MG_RSTCAUSE | MG_BOOT | MG_CTXBASE | MG_WAKETIME | MG_OPENT | PE_ID | PE_LINK | PE_WIN
  | PE_ERR | PE_CNT | PE_MSIMAP | IO_STATUS | IO_VIN | IO_TJ | IO_RAIL | IO_TERM
  | IO_DRV | IO_TSENSE
  deriving DecidableEq, Repr

/-- A register, or an array of them: `dims` lists (count, stride) from the outermost index; `pair` marks a
64-bit _LO/_HI pair (R18). -/
structure Reg where
  id : RegId
  off : Nat
  dims : List (Nat × Nat)
  pair : Bool
  flds : List Fld
  deriving DecidableEq, Repr

/-- Registers of block 0x00. -/
def regsBlk00 : List Reg := [
  ⟨.TOP_ID, 0x0, [], false, [⟨31, 24, .ro, 0, []⟩, ⟨11, 8, .ro, 0, []⟩, ⟨7, 7, .ro, 0, []⟩, ⟨6, 6, .ro, 0, []⟩, ⟨1, 0, .ro, 0, []⟩]⟩,
  ⟨.TOP_FW, 0x4, [], false, [⟨31, 0, .ro, 0, []⟩]⟩,
  ⟨.TOP_SERIAL, 0x8, [], true, [⟨63, 0, .ro, 0, []⟩]⟩]

/-- Registers of block 0x01. -/
def regsBlk01 : List Reg := [
  ⟨.IN_CTL, 0x0, [], false, [⟨10, 8, .rw, 0, [(0, 3)]⟩, ⟨1, 1, .rw, 0, []⟩, ⟨0, 0, .rw, 0, []⟩]⟩,
  ⟨.IN_STATUS, 0x4, [], false, [⟨31, 16, .ro, 0, []⟩, ⟨3, 3, .w1c, 0, []⟩, ⟨2, 2, .ro, 0, []⟩, ⟨1, 1, .ro, 0, []⟩, ⟨0, 0, .ro, 0, []⟩]⟩,
  ⟨.IN_STRCMT, 0x8, [], false, [⟨1, 1, .rw, 0, []⟩, ⟨0, 0, .wo, 0, []⟩]⟩,
  ⟨.IN_STRERR, 0xC, [], false, [⟨16, 16, .w1c, 0, []⟩, ⟨15, 12, .ro, 0, []⟩, ⟨11, 0, .ro, 0, []⟩]⟩,
  ⟨.IN_STRTGT, 0x10, [], true, [⟨63, 0, .rw, 0, []⟩]⟩,
  ⟨.IN_STRBND, 0x18, [], true, [⟨63, 0, .ro, 0, []⟩]⟩,
  ⟨.IN_DOMRST, 0x80, [], false, [⟨15, 0, .wo, 0, []⟩]⟩,
  ⟨.IN_DOMCLM, 0x100, [(16, 0x8)], true, [⟨63, 0, .ro, 0, []⟩]⟩,
  ⟨.IN_PORTCTL, 0x1000, [(16, 0x100)], false, [⟨15, 12, .rw, 0, []⟩, ⟨9, 9, .rw, 0, []⟩, ⟨8, 5, .rw, 0, []⟩, ⟨4, 4, .rw, 0, []⟩, ⟨3, 3, .rw, 1, []⟩, ⟨2, 1, .rw, 0, [(0, 2)]⟩, ⟨0, 0, .rw, 0, []⟩]⟩,
  ⟨.IN_PORTSTAT, 0x1004, [(16, 0x100)], false, [⟨26, 26, .w1c, 0, []⟩, ⟨25, 21, .ro, 0, []⟩, ⟨20, 20, .w1c, 0, []⟩, ⟨19, 19, .w1c, 0, []⟩, ⟨18, 18, .w1c, 0, []⟩, ⟨17, 17, .w1c, 0, []⟩, ⟨16, 16, .ro, 0, []⟩, ⟨15, 8, .ro, 0, []⟩, ⟨7, 4, .ro, 0, []⟩, ⟨2, 0, .ro, 0, []⟩]⟩,
  ⟨.IN_CTLFREE, 0x1008, [(16, 0x100)], false, [⟨15, 0, .wo, 0, []⟩]⟩,
  ⟨.IN_CTLTX, 0x100C, [(16, 0x100)], false, [⟨15, 0, .w1s, 0, []⟩]⟩,
  ⟨.IN_TIMSC, 0x1010, [(16, 0x100)], true, [⟨63, 0, .rl, 0, []⟩]⟩,
  ⟨.IN_TIMEPS, 0x1018, [(16, 0x100)], true, [⟨47, 0, .rl, 0, []⟩]⟩,
  ⟨.IN_TIMEPNS, 0x1020, [(16, 0x100)], false, [⟨31, 0, .rl, 0, []⟩]⟩,
  ⟨.IN_TIMARRS, 0x1024, [(16, 0x100)], true, [⟨47, 0, .rl, 0, []⟩]⟩,
  ⟨.IN_TIMARRNS, 0x102C, [(16, 0x100)], false, [⟨31, 0, .rl, 0, []⟩]⟩,
  ⟨.IN_CNT, 0x1040, [(16, 0x100), (21, 0x4)], false, [⟨31, 0, .rc, 0, []⟩]⟩,
  ⟨.IN_STRA, 0x8000, [(4096, 0x8)], false, [⟨9, 9, .rw, 0, []⟩, ⟨8, 5, .rw, 0, []⟩, ⟨4, 1, .rw, 0, []⟩, ⟨0, 0, .rw, 0, []⟩]⟩,
  ⟨.IN_STRB, 0x8004, [(4096, 0x8)], false, [⟨29, 26, .rw, 0, []⟩, ⟨25, 13, .rw, 0, []⟩, ⟨12, 0, .rw, 0, []⟩]⟩,
  ⟨.IN_STRC, 0x20000, [(4096, 0x4)], false, [⟨11, 0, .rw, 0, []⟩]⟩,
  ⟨.IN_RXSLOT, 0x10000, [(16, 0x1000), (16, 0x100), (63, 0x4)], false, [⟨31, 0, .ro, 0, []⟩]⟩,
  ⟨.IN_TXSLOT, 0x30004, [(16, 0x1000), (16, 0x100), (61, 0x4)], false, [⟨31, 0, .rw, 0, []⟩]⟩]

/-- Registers of block 0x02. -/
def regsBlk02p0 : List Reg := [
  ⟨.AL_CTL, 0x0, [], false, [⟨1, 1, .rw, 0, []⟩, ⟨0, 0, .rw, 0, []⟩]⟩,
  ⟨.AL_STATUS, 0x4, [], false, [⟨23, 20, .ro, 0, []⟩, ⟨19, 19, .w1c, 0, []⟩, ⟨18, 18, .w1c, 0, []⟩, ⟨17, 17, .w1c, 0, []⟩, ⟨16, 16, .ro, 0, []⟩, ⟨11, 10, .ro, 1, []⟩, ⟨9, 8, .ro, 0, []⟩, ⟨7, 6, .ro, 2, []⟩, ⟨5, 5, .ro, 0, []⟩, ⟨4, 4, .ro, 0, []⟩, ⟨1, 1, .ro, 1, []⟩, ⟨0, 0, .ro, 0, []⟩]⟩,
  ⟨.AL_WIN, 0x8, [], false, [⟨12, 0, .rw, 500, [(10, 4000)]⟩]⟩,
  ⟨.AL_ROUNDLEN, 0xC, [], false, [⟨23, 0, .rw, 17361, [(1024, 16776960)]⟩]⟩,
  ⟨.AL_ORIGIN, 0x10, [], true, [⟨63, 0, .rw, 0, []⟩]⟩,
  ⟨.AL_SLABGEO, 0x18, [], false, [⟨27, 25, .rw, 7, []⟩, ⟨24, 12, .rw, 512, [(1, 4096)]⟩, ⟨11, 0, .rw, 0, []⟩]⟩,
  ⟨.AL_FLOGCAP, 0x1C, [], false, [⟨23, 0, .rw, 0, []⟩]⟩,
  ⟨.AL_BUF_BASE, 0x20, [(3, 0x8)], true, [⟨63, 0, .rw, 0, []⟩]⟩,
  ⟨.AL_SLABSIZE, 0x38, [], true, [⟨63, 0, .ro, 0, []⟩]⟩,
  ⟨.AL_RING_BASE, 0x40, [], true, [⟨63, 0, .rw, 0, []⟩]⟩,
  ⟨.AL_RINGSIZE, 0x48, [], true, [⟨63, 0, .ro, 0, []⟩]⟩,
  ⟨.AL_HORIZ, 0x50, [], true, [⟨63, 0, .ro, 0, []⟩]⟩,
  ⟨.AL_SEALED, 0x58, [], true, [⟨63, 0, .ro, 0, []⟩]⟩,
  ⟨.AL_FLGEN, 0x60, [], false, [⟨16, 16, .rw, 0, []⟩, ⟨9, 2, .rw, 0xFD, []⟩, ⟨1, 0, .ro, 3, []⟩]⟩,
  ⟨.AL_SKLO, 0x64, [], false, [⟨31, 0, .rw, 0x00A00000, []⟩]⟩,
  ⟨.AL_SKHI, 0x68, [], false, [⟨31, 0, .rw, 0x01800000, []⟩]⟩,
  ⟨.AL_SKCTL, 0x6C, [], false, [⟨8, 0, .rw, 64, [(2, 256)]⟩]⟩,
  ⟨.AL_HMASK_A, 0x70, [], true, [⟨63, 0, .rw, 0, []⟩]⟩,
  ⟨.AL_HMASK_B, 0x78, [], true, [⟨63, 0, .rw, 0, []⟩]⟩,
  ⟨.AL_HMASKCTL, 0x80, [], false, [⟨4, 4, .ro, 0, []⟩, ⟨3, 3, .ro, 0, []⟩, ⟨2, 2, .ro, 0, []⟩, ⟨1, 1, .rw, 0, []⟩, ⟨0, 0, .rw, 0, []⟩]⟩,
  ⟨.AL_CAPCTL, 0x90, [], false, [⟨5, 5, .rw, 0, []⟩, ⟨4, 4, .rw, 0, []⟩, ⟨3, 3, .rw, 0, []⟩, ⟨2, 2, .rw, 0, []⟩, ⟨1, 1, .wo, 0, []⟩, ⟨0, 0, .wo, 0, []⟩]⟩,
  ⟨.AL_CAPSTAT, 0x94, [], false, [⟨3, 3, .ro, 0, []⟩, ⟨2, 0, .ro, 0, []⟩]⟩,
  ⟨.AL_CAPRND, 0x98, [], true, [⟨63, 0, .rw, 0, []⟩]⟩,
  ⟨.AL_CAPHELD, 0xA0, [], true, [⟨63, 0, .ro, 0, []⟩]⟩]

/-- Registers of block 0x02. -/
def regsBlk02p1 : List Reg := [
  ⟨.AL_RPRCTL, 0xB0, [], false, [⟨15, 4, .rw, 100, []⟩, ⟨0, 0, .rw, 0, []⟩]⟩,
  ⟨.AL_TPCTL, 0xB4, [], false, [⟨2, 0, .ro, 0, []⟩]⟩,
  ⟨.AL_CNT, 0x100, [(15, 0x4)], false, [⟨31, 0, .rc, 0, []⟩]⟩,
  ⟨.AL_STRLATE, 0x8000, [(4096, 0x4)], false, [⟨31, 0, .rc, 0, []⟩]⟩]

/-- Registers of block 0x02. -/
def regsBlk02 : List Reg := regsBlk02p0 ++ regsBlk02p1

/-- Registers of block 0x03. -/
def regsBlk03 : List Reg := [
  ⟨.BD_CTL, 0x0, [], false, [⟨2, 2, .wo, 0, []⟩, ⟨1, 1, .wo, 0, []⟩, ⟨0, 0, .rw, 0, []⟩]⟩,
  ⟨.BD_STATUS, 0x4, [], false, [⟨23, 20, .ro, 0, []⟩, ⟨19, 19, .w1c, 0, []⟩, ⟨18, 18, .w1c, 0, []⟩, ⟨17, 17, .w1c, 0, []⟩, ⟨16, 16, .w1c, 0, []⟩, ⟨9, 9, .ro, 0, []⟩, ⟨8, 8, .w1c, 0, []⟩, ⟨7, 7, .ro, 0, []⟩, ⟨6, 6, .ro, 0, []⟩, ⟨2, 0, .ro, 0, []⟩]⟩,
  ⟨.BD_CFG, 0x8, [], false, [⟨15, 8, .ro, 0, []⟩, ⟨4, 4, .ro, 0, []⟩, ⟨2, 0, .ro, 0, []⟩]⟩,
  ⟨.BD_PTCMT, 0x10, [], false, [⟨13, 8, .rw, 0, []⟩, ⟨1, 1, .rw, 0, []⟩, ⟨0, 0, .wo, 0, []⟩]⟩,
  ⟨.BD_PTTGT, 0x18, [], true, [⟨63, 0, .rw, 0, []⟩]⟩,
  ⟨.BD_PTBND, 0x20, [], true, [⟨63, 0, .ro, 0, []⟩]⟩,
  ⟨.BD_ROUND, 0x28, [], true, [⟨63, 0, .ro, 0, []⟩]⟩,
  ⟨.BD_PASS, 0x30, [], false, [⟨31, 31, .ro, 0, []⟩, ⟨30, 30, .ro, 0, []⟩, ⟨16, 0, .ro, 0, []⟩]⟩,
  ⟨.BD_ADMIT, 0x34, [], false, [⟨16, 0, .ro, 0, []⟩]⟩,
  ⟨.BD_PASSDONE, 0x38, [], true, [⟨63, 0, .ro, 0, []⟩]⟩,
  ⟨.BD_RATE, 0x40, [], false, [⟨31, 16, .ro, 0, []⟩, ⟨15, 0, .ro, 0, []⟩]⟩,
  ⟨.BD_STEPS, 0x48, [], true, [⟨63, 0, .ro, 0, []⟩]⟩,
  ⟨.BD_PTBL, 0x100, [(32, 0x4)], false, [⟨11, 11, .rw, 0, []⟩, ⟨10, 8, .rw, 0, []⟩, ⟨6, 4, .rw, 0, []⟩, ⟨2, 0, .rw, 0, []⟩]⟩,
  ⟨.BD_PTBLF, 0x180, [(32, 0x4)], false, [⟨11, 11, .ro, 0, []⟩, ⟨10, 8, .ro, 0, []⟩, ⟨6, 4, .ro, 0, []⟩, ⟨2, 0, .ro, 0, []⟩]⟩,
  ⟨.BD_RMAP, 0x200, [(8, 0x4)], false, [⟨17, 17, .ro, 0, []⟩, ⟨16, 16, .arb, 0, []⟩, ⟨14, 8, .ro, 64, []⟩, ⟨6, 0, .arb, 64, [(0, 64)]⟩]⟩,
  ⟨.BD_FMAP, 0x240, [(16, 0x4)], false, [⟨17, 17, .ro, 0, []⟩, ⟨16, 16, .arb, 0, []⟩, ⟨14, 8, .ro, 64, []⟩, ⟨6, 0, .arb, 64, [(0, 64)]⟩]⟩,
  ⟨.BD_CNT, 0x300, [(9, 0x4)], false, [⟨31, 0, .rc, 0, []⟩]⟩]

/-- Registers of block 0x04. -/
def regsBlk04p0 : List Reg := [
  ⟨.AG_CTL, 0x0, [], false, [⟨0, 0, .rw, 0, []⟩]⟩,
  ⟨.AG_STATUS, 0x4, [], false, [⟨9, 9, .w1c, 0, []⟩, ⟨8, 8, .w1c, 0, []⟩, ⟨3, 3, .ro, 0, []⟩, ⟨2, 2, .ro, 0, []⟩, ⟨1, 1, .ro, 0, []⟩, ⟨0, 0, .ro, 0, []⟩]⟩,
  ⟨.AG_CMD, 0x8, [], false, [⟨13, 8, .wo, 0, []⟩, ⟨4, 4, .wo, 0, []⟩, ⟨2, 0, .wo, 0, []⟩]⟩,
  ⟨.AG_CMDRES, 0xC, [], false, [⟨16, 16, .ro, 0, []⟩, ⟨13, 8, .ro, 0, []⟩, ⟨3, 0, .ro, 0, []⟩]⟩,
  ⟨.AG_CMDTGT, 0x10, [], true, [⟨63, 0, .rw, 0, []⟩]⟩,
  ⟨.AG_CMDBND, 0x18, [], true, [⟨63, 0, .ro, 0, []⟩]⟩,
  ⟨.AG_CHRATE, 0x20, [], true, [⟨63, 0, .rw, 0, []⟩]⟩,
  ⟨.AG_PMCMT, 0x40, [], false, [⟨30, 16, .rw, 0, []⟩, ⟨1, 1, .rw, 0, []⟩, ⟨0, 0, .wo, 0, []⟩]⟩,
  ⟨.AG_PMERR, 0x44, [], false, [⟨31, 31, .w1c, 0, []⟩, ⟨27, 24, .ro, 0, []⟩, ⟨14, 0, .ro, 0, []⟩]⟩,
  ⟨.AG_PMTGT, 0x48, [], true, [⟨63, 0, .rw, 0, []⟩]⟩,
  ⟨.AG_PMBND, 0x50, [], true, [⟨63, 0, .ro, 0, []⟩]⟩,
  ⟨.AG_PMDIG, 0x58, [], true, [⟨63, 0, .ro, 0, []⟩]⟩,
  ⟨.AG_TAINT, 0x60, [], false, [⟨16, 0, .ro, 0, []⟩]⟩,
  ⟨.AG_PMERRENT, 0x64, [], false, [⟨23, 12, .ro, 0, []⟩, ⟨11, 0, .ro, 0, []⟩]⟩,
  ⟨.AG_CNT, 0x100, [(10, 0x4)], false, [⟨31, 0, .rc, 0, []⟩]⟩,
  ⟨.AG_GCFG, 0x1000, [(63, 0x40)], false, [⟨23, 16, .rw, 0, []⟩, ⟨11, 8, .rw, 0xF, []⟩, ⟨5, 4, .rw, 3, []⟩, ⟨3, 3, .rw, 0, []⟩, ⟨2, 2, .rw, 0, []⟩, ⟨1, 1, .rw, 0, []⟩, ⟨0, 0, .rw, 0, []⟩]⟩,
  ⟨.AG_GLEN, 0x1004, [(63, 0x40)], false, [⟨31, 16, .rw, 0, []⟩, ⟨15, 0, .rw, 1, [(1, 65535)]⟩]⟩,
  ⟨.AG_GCH, 0x1008, [(63, 0x40)], false, [⟨28, 16, .rw, 1, [(1, 4096)]⟩, ⟨11, 0, .rw, 0, []⟩]⟩,
  ⟨.AG_GSTAT, 0x100C, [(63, 0x40)], false, [⟨13, 13, .w1c, 0, []⟩, ⟨12, 12, .w1c, 0, []⟩, ⟨11, 11, .w1c, 0, []⟩, ⟨10, 10, .w1c, 0, []⟩, ⟨9, 9, .w1c, 0, []⟩, ⟨8, 8, .w1c, 0, []⟩, ⟨5, 4, .ro, 0, []⟩, ⟨3, 3, .ro, 0, []⟩, ⟨2, 0, .ro, 0, []⟩]⟩,
  ⟨.AG_GSTART, 0x1010, [(63, 0x40)], true, [⟨63, 0, .rw, 0, []⟩]⟩,
  ⟨.AG_GBASE0, 0x1018, [(63, 0x40)], true, [⟨63, 0, .rw, 0, []⟩]⟩,
  ⟨.AG_GBASE1, 0x1020, [(63, 0x40)], true, [⟨63, 0, .rw, 0, []⟩]⟩,
  ⟨.AG_GSIZE, 0x1028, [(63, 0x40)], true, [⟨63, 0, .ro, 0, []⟩]⟩,
  ⟨.AG_GINT, 0x1030, [(63, 0x40)], true, [⟨63, 0, .ro, 0, []⟩]⟩]

/-- Registers of block 0x04. -/
def regsBlk04p1 : List Reg := [
  ⟨.AG_GREC, 0x1038, [(63, 0x40)], false, [⟨31, 16, .ro, 0, []⟩, ⟨15, 0, .ro, 0, []⟩]⟩,
  ⟨.AG_GTILE, 0x10000, [(63, 0x200), (65, 0x4)], false, [⟨31, 0, .rw, 0, []⟩]⟩,
  ⟨.AG_PMJ0, 0x20000, [(16384, 0x8)], false, [⟨23, 12, .rw, 0, []⟩, ⟨11, 0, .rw, 0, []⟩]⟩,
  ⟨.AG_PMJ1, 0x20004, [(16384, 0x8)], false, [⟨15, 0, .rw, 0, []⟩]⟩]

/-- Registers of block 0x04. -/
def regsBlk04 : List Reg := regsBlk04p0 ++ regsBlk04p1

/-- Registers of block 0x05. -/
def regsBlk05p0 : List Reg := [
  ⟨.BA_CTL, 0x0, [], false, [⟨1, 1, .wo, 0, []⟩, ⟨0, 0, .rw, 0, []⟩]⟩,
  ⟨.BA_STATUS, 0x4, [], false, [⟨23, 20, .ro, 0, []⟩, ⟨19, 19, .w1c, 0, []⟩, ⟨18, 18, .w1c, 0, []⟩, ⟨17, 17, .w1c, 0, []⟩, ⟨16, 16, .w1c, 0, []⟩, ⟨15, 15, .w1c, 0, []⟩, ⟨14, 14, .ro, 0, []⟩, ⟨13, 13, .ro, 0, []⟩, ⟨12, 12, .ro, 0, []⟩, ⟨11, 11, .ro, 0, []⟩, ⟨10, 10, .ro, 0, []⟩, ⟨9, 9, .ro, 0, []⟩, ⟨8, 8, .ro, 0, []⟩, ⟨7, 7, .ro, 0, []⟩, ⟨1, 0, .ro, 0, []⟩]⟩,
  ⟨.BA_CFG, 0x8, [], false, [⟨25, 24, .rw, 1, []⟩, ⟨21, 16, .rw, 36, [(1, 36)]⟩, ⟨11, 0, .rw, 0, [(0, 2304)]⟩]⟩,
  ⟨.BA_CH, 0xC, [], false, [⟨28, 16, .rw, 1, [(1, 4096)]⟩, ⟨11, 0, .rw, 0, []⟩]⟩,
  ⟨.BA_SCHED, 0x10, [], false, [⟨13, 8, .rw, 1, [(1, 36)]⟩, ⟨4, 0, .rw, 1, [(1, 16)]⟩]⟩,
  ⟨.BA_VCH, 0x14, [], false, [⟨28, 16, .rw, 1, []⟩, ⟨11, 0, .rw, 0, []⟩]⟩,
  ⟨.BA_VPKT, 0x18, [], false, [⟨19, 16, .rw, 0, []⟩, ⟨12, 0, .rw, 1, []⟩]⟩,
  ⟨.BA_DPROF, 0x20, [(2, 0x4)], false, [⟨31, 24, .rw, 0, []⟩, ⟨21, 20, .rw, 2, []⟩, ⟨16, 16, .rw, 0, []⟩, ⟨11, 8, .rw, 0, []⟩, ⟨4, 0, .rw, 0, []⟩]⟩,
  ⟨.BA_BCMT, 0x28, [], false, [⟨1, 1, .rw, 0, []⟩, ⟨0, 0, .wo, 0, []⟩]⟩,
  ⟨.BA_ERR, 0x2C, [], false, [⟨31, 31, .w1c, 0, []⟩, ⟨27, 24, .ro, 0, []⟩, ⟨10, 0, .ro, 0, []⟩]⟩,
  ⟨.BA_WSEL, 0x30, [], false, [⟨5, 5, .wo, 0, []⟩, ⟨4, 4, .wo, 0, []⟩, ⟨2, 2, .rw, 0, []⟩, ⟨1, 1, .rw, 0, []⟩, ⟨0, 0, .wo, 0, []⟩]⟩,
  ⟨.BA_WBASE_A, 0x40, [], true, [⟨63, 0, .rw, 0, []⟩]⟩,
  ⟨.BA_WBASE_B, 0x48, [], true, [⟨63, 0, .rw, 0, []⟩]⟩,
  ⟨.BA_WSIZE, 0x50, [], true, [⟨63, 0, .ro, 0, []⟩]⟩,
  ⟨.BA_WTGT, 0x58, [], true, [⟨63, 0, .rw, 0, []⟩]⟩,
  ⟨.BA_WBND, 0x60, [], true, [⟨63, 0, .ro, 0, []⟩]⟩,
  ⟨.BA_WDIG_A, 0x68, [], true, [⟨63, 0, .ro, 0, []⟩]⟩,
  ⟨.BA_WDIG_B, 0x70, [], true, [⟨63, 0, .ro, 0, []⟩]⟩,
  ⟨.BA_STGBASE, 0x78, [], true, [⟨63, 0, .rw, 0, []⟩]⟩,
  ⟨.BA_STGSIZE, 0x80, [], true, [⟨63, 0, .ro, 0, []⟩]⟩,
  ⟨.BA_BTGT, 0x88, [], true, [⟨63, 0, .rw, 0, []⟩]⟩,
  ⟨.BA_BBND, 0x90, [], true, [⟨63, 0, .ro, 0, []⟩]⟩,
  ⟨.BA_ROUND, 0x98, [], true, [⟨63, 0, .ro, 0, []⟩]⟩,
  ⟨.BA_RATE, 0xA0, [], false, [⟨31, 16, .ro, 0, []⟩, ⟨15, 0, .ro, 0, []⟩]⟩]

/-- Registers of block 0x05. -/
def regsBlk05p1 : List Reg := [
  ⟨.BA_CNT, 0x100, [(7, 0x4)], false, [⟨31, 0, .rc, 0, []⟩]⟩,
  ⟨.BA_TASK, 0x1000, [(16, 0x100), (36, 0x4)], false, [⟨16, 16, .rw, 0, []⟩, ⟨15, 12, .rw, 0, []⟩, ⟨10, 8, .rw, 0, []⟩, ⟨5, 0, .rw, 0, []⟩]⟩,
  ⟨.BA_BEAM, 0x2000, [(1152, 0x4)], false, [⟨15, 8, .rw, 0xFF, []⟩, ⟨5, 5, .rw, 0, []⟩, ⟨4, 4, .rw, 0, []⟩, ⟨3, 3, .rw, 0, []⟩, ⟨2, 1, .rw, 0, []⟩]⟩,
  ⟨.BA_VLSTA, 0x4000, [(64, 0x8)], false, [⟨27, 16, .rw, 0, []⟩, ⟨15, 12, .rw, 0, []⟩, ⟨11, 8, .rw, 0, []⟩, ⟨7, 6, .rw, 0, []⟩, ⟨5, 5, .rw, 0, []⟩, ⟨4, 4, .rw, 0, []⟩, ⟨3, 3, .rw, 0, []⟩, ⟨2, 1, .rw, 0, []⟩, ⟨0, 0, .rw, 0, []⟩]⟩,
  ⟨.BA_VLSTB, 0x4004, [(64, 0x8)], false, [⟨31, 24, .rw, 0, []⟩, ⟨20, 16, .rw, 0, []⟩, ⟨15, 0, .rw, 1, []⟩]⟩]

/-- Registers of block 0x05. -/
def regsBlk05 : List Reg := regsBlk05p0 ++ regsBlk05p1

/-- Registers of block 0x06. -/
def regsBlk06 : List Reg := [
  ⟨.OT_CTL, 0x0, [], false, [⟨15, 8, .rw, 64, [(1, 255)]⟩, ⟨0, 0, .rw, 0, []⟩]⟩,
  ⟨.OT_STATUS, 0x4, [], false, [⟨11, 8, .ro, 0, []⟩, ⟨7, 7, .w1c, 0, []⟩, ⟨6, 6, .w1c, 0, []⟩, ⟨1, 1, .ro, 0, []⟩, ⟨0, 0, .ro, 0, []⟩]⟩,
  ⟨.OT_TPW, 0x10, [], false, [⟨8, 8, .rw, 0, []⟩, ⟨7, 0, .rw, 0, []⟩]⟩,
  ⟨.OT_FLG, 0x14, [], false, [⟨9, 9, .rw, 0, []⟩, ⟨8, 8, .rw, 0, []⟩, ⟨7, 0, .rw, 0, []⟩]⟩,
  ⟨.OT_HLT, 0x18, [], false, [⟨31, 24, .rw, 10, [(1, 255)]⟩, ⟨8, 8, .rw, 0, []⟩, ⟨7, 0, .rw, 0, []⟩]⟩,
  ⟨.OT_TIM, 0x1C, [], false, [⟨10, 10, .rw, 0, []⟩, ⟨8, 8, .rw, 0, []⟩, ⟨7, 0, .rw, 0, []⟩]⟩,
  ⟨.OT_CAPA, 0x20, [], false, [⟨31, 31, .rw, 0, []⟩, ⟨24, 12, .rw, 1, [(1, 4096)]⟩, ⟨11, 0, .rw, 0, []⟩]⟩,
  ⟨.OT_CAPB, 0x24, [], false, [⟨28, 16, .rw, 1, [(1, 4096)]⟩, ⟨15, 8, .rw, 0, []⟩]⟩,
  ⟨.OT_CAPC, 0x28, [], false, [⟨11, 0, .rw, 0, []⟩]⟩,
  ⟨.OT_CNT, 0x100, [(6, 0x4)], false, [⟨31, 0, .rc, 0, []⟩]⟩,
  ⟨.OT_SEQ, 0x1000, [(200, 0x8)], true, [⟨63, 0, .rw, 0, []⟩]⟩,
  ⟨.OT_RTCTL, 0x2000, [(256, 0x10)], false, [⟨31, 16, .rw, 0, []⟩, ⟨15, 8, .rw, 0, []⟩, ⟨7, 0, .rw, 0, []⟩]⟩,
  ⟨.OT_RTGNT, 0x2004, [(256, 0x10)], false, [⟨31, 0, .ro, 0, []⟩]⟩,
  ⟨.OT_RTSTAT, 0x2008, [(256, 0x10)], false, [⟨17, 17, .ro, 0, []⟩, ⟨16, 16, .ro, 0, []⟩, ⟨15, 0, .ro, 0, []⟩]⟩,
  ⟨.OT_EPCTL, 0x4000, [(256, 0x20)], false, [⟨31, 29, .rw, 0, []⟩, ⟨28, 17, .rw, 0, []⟩, ⟨16, 16, .rw, 0, []⟩, ⟨15, 10, .rw, 0, []⟩, ⟨3, 3, .rw, 1, []⟩, ⟨2, 2, .rw, 0, []⟩, ⟨0, 0, .rw, 0, []⟩]⟩,
  ⟨.OT_EPPORT, 0x4004, [(256, 0x20)], false, [⟨31, 16, .rw, 0, []⟩, ⟨15, 0, .rw, 0, []⟩]⟩,
  ⟨.OT_EPMAC, 0x4008, [(256, 0x20)], true, [⟨47, 0, .rw, 0, []⟩]⟩,
  ⟨.OT_EPIP, 0x4010, [(256, 0x20), (4, 0x4)], false, [⟨31, 0, .rw, 0, []⟩]⟩]

/-- Registers of block 0x07. -/
def regsBlk07 : List Reg := [
  ⟨.ET_PORTCTL, 0x1000, [(8, 0x100)], false, [⟨11, 8, .rw, 0, []⟩, ⟨7, 4, .rw, 0, []⟩, ⟨2, 1, .rw, 0, [(0, 2)]⟩, ⟨0, 0, .rw, 0, []⟩]⟩,
  ⟨.ET_PORTSTAT, 0x1004, [(8, 0x100)], false, [⟨8, 8, .w1c, 0, []⟩, ⟨7, 4, .ro, 0, []⟩, ⟨1, 0, .ro, 0, []⟩]⟩,
  ⟨.ET_MAC, 0x1008, [(8, 0x100)], true, [⟨47, 0, .rw, 0, []⟩]⟩,
  ⟨.ET_IP4, 0x1010, [(8, 0x100)], false, [⟨31, 0, .rw, 0, []⟩]⟩,
  ⟨.ET_IP6, 0x1014, [(8, 0x100), (4, 0x4)], false, [⟨31, 0, .rw, 0, []⟩]⟩,
  ⟨.ET_CNT, 0x1040, [(8, 0x100), (8, 0x4)], false, [⟨31, 0, .rc, 0, []⟩]⟩,
  ⟨.ET_PTPCTL, 0x8000, [], false, [⟨31, 24, .rw, 128, []⟩, ⟨23, 16, .rw, 128, []⟩, ⟨15, 8, .rw, 0, []⟩, ⟨2, 2, .rw, 0, []⟩, ⟨1, 1, .rw, 0, []⟩, ⟨0, 0, .rw, 0, []⟩]⟩,
  ⟨.ET_PTPCLK, 0x8004, [], false, [⟨31, 24, .rw, 0xA0, []⟩, ⟨23, 16, .rw, 0xFE, []⟩, ⟨15, 0, .rw, 0xFFFF, []⟩]⟩,
  ⟨.ET_PTPUTC, 0x8008, [], false, [⟨16, 16, .rw, 0, []⟩, ⟨15, 0, .rw, 37, []⟩]⟩,
  ⟨.ET_PTPID, 0x8010, [], true, [⟨63, 0, .rw, 0, []⟩]⟩,
  ⟨.ET_PTPPCTL, 0x8100, [(8, 0x40)], false, [⟨31, 28, .rw, 3, [(2, 10)]⟩, ⟨27, 24, .rw, 1, [(0, 4), (13, 15)]⟩, ⟨23, 20, .rw, 0, [(0, 4), (9, 15)]⟩, ⟨19, 16, .rw, 0, [(0, 5), (9, 15)]⟩, ⟨7, 6, .rw, 0, [(0, 2)]⟩, ⟨5, 5, .rw, 0, []⟩, ⟨3, 2, .rw, 0, [(0, 2)]⟩, ⟨0, 0, .rw, 0, []⟩]⟩,
  ⟨.ET_PTPPSTAT, 0x8104, [(8, 0x40)], false, [⟨3, 0, .ro, 3, []⟩]⟩,
  ⟨.ET_PTPASYM, 0x8108, [(8, 0x40)], false, [⟨31, 0, .rw, 0, []⟩]⟩,
  ⟨.ET_PTPTXADJ, 0x810C, [(8, 0x40)], false, [⟨31, 0, .rw, 0, []⟩]⟩,
  ⟨.ET_PTPRXADJ, 0x8110, [(8, 0x40)], false, [⟨31, 0, .rw, 0, []⟩]⟩,
  ⟨.ET_PTPOFF, 0x8118, [(8, 0x40)], true, [⟨63, 0, .ro, 0, []⟩]⟩,
  ⟨.ET_PTPMPD, 0x8120, [(8, 0x40)], true, [⟨63, 0, .ro, 0, []⟩]⟩,
  ⟨.ET_PTPCNT, 0x8128, [(8, 0x40), (4, 0x4)], false, [⟨31, 0, .rc, 0, []⟩]⟩]

/-- Registers of block 0x08. -/
def regsBlk08 : List Reg := [
  ⟨.IG_CTL, 0x0, [], false, [⟨15, 8, .rw, 64, []⟩, ⟨2, 2, .rw, 1, []⟩, ⟨1, 1, .wo, 0, []⟩, ⟨0, 0, .rw, 0, []⟩]⟩,
  ⟨.IG_STATUS, 0x4, [], false, [⟨7, 7, .w1c, 0, []⟩, ⟨6, 6, .w1c, 0, []⟩, ⟨5, 5, .ro, 0, []⟩, ⟨4, 4, .ro, 0, []⟩, ⟨2, 0, .ro, 0, []⟩]⟩,
  ⟨.IG_TESTREQ, 0x8, [], false, [⟨15, 8, .rw, 0, []⟩, ⟨3, 0, .wo, 0, []⟩]⟩,
  ⟨.IG_TESTRES, 0xC, [], false, [⟨3, 0, .ro, 0, []⟩]⟩,
  ⟨.IG_LAST, 0x10, [], false, [⟨2, 0, .ro, 0, []⟩]⟩,
  ⟨.IG_FIX, 0x20, [], false, [⟨31, 30, .rl, 0, []⟩, ⟨27, 17, .rl, 0, []⟩, ⟨16, 7, .rl, 0, []⟩]⟩,
  ⟨.IG_FIXQ, 0x24, [], false, [⟨16, 0, .rl, 0, []⟩]⟩,
  ⟨.IG_FIXRND, 0x28, [], true, [⟨63, 0, .rl, 0, []⟩]⟩,
  ⟨.IG_LINE, 0x100, [(24, 0x4)], false, [⟨17, 17, .ro, 0, []⟩, ⟨16, 16, .w1c, 0, []⟩, ⟨14, 8, .ro, 127, []⟩, ⟨1, 0, .ro, 0, []⟩]⟩,
  ⟨.IG_CNT, 0x200, [(11, 0x4)], false, [⟨31, 0, .rc, 0, []⟩]⟩]

/-- Registers of block 0x09. -/
def regsBlk09 : List Reg := [
  ⟨.CS_CTL, 0x0, [], false, [⟨3, 3, .rw, 0, []⟩, ⟨2, 2, .rw, 0, []⟩, ⟨1, 1, .rw, 0, []⟩, ⟨0, 0, .rw, 0, []⟩]⟩,
  ⟨.CS_CMD, 0x4, [], false, [⟨2, 0, .wo, 0, []⟩]⟩,
  ⟨.CS_STATUS, 0x8, [], false, [⟨19, 16, .ro, 15, []⟩, ⟨11, 11, .w1c, 0, []⟩, ⟨10, 10, .w1c, 0, []⟩, ⟨9, 9, .w1c, 0, []⟩, ⟨8, 8, .w1c, 0, []⟩, ⟨7, 7, .ro, 0, []⟩, ⟨6, 6, .ro, 0, []⟩, ⟨5, 5, .ro, 0, []⟩, ⟨4, 4, .ro, 0, []⟩, ⟨2, 0, .ro, 0, []⟩]⟩,
  ⟨.CS_LEASE, 0xC, [], false, [⟨23, 16, .rw, 5, [(1, 100)]⟩, ⟨15, 0, .rw, 200, [(50, 10000)]⟩]⟩,
  ⟨.CS_CLAIM, 0x10, [], true, [⟨63, 0, .ro, 0, []⟩]⟩,
  ⟨.CS_HCLAIM, 0x18, [], true, [⟨63, 0, .ro, 0, []⟩]⟩,
  ⟨.CS_PEERSN, 0x20, [], true, [⟨63, 0, .ro, 0, []⟩]⟩,
  ⟨.CS_HOTGT, 0x28, [], true, [⟨63, 0, .rw, 0, []⟩]⟩,
  ⟨.CS_WMAGE, 0x30, [], false, [⟨15, 0, .ro, 0xFFFF, []⟩]⟩,
  ⟨.CS_CNT, 0x100, [(13, 0x4)], false, [⟨31, 0, .rc, 0, []⟩]⟩,
  ⟨.CS_PORTCTL, 0x1000, [], false, [⟨15, 12, .rw, 0, []⟩, ⟨3, 3, .rw, 1, []⟩, ⟨0, 0, .rw, 0, []⟩]⟩,
  ⟨.CS_PORTSTAT, 0x1004, [], false, [⟨26, 26, .w1c, 0, []⟩, ⟨19, 19, .w1c, 0, []⟩, ⟨18, 18, .w1c, 0, []⟩, ⟨17, 17, .w1c, 0, []⟩, ⟨16, 16, .ro, 0, []⟩, ⟨15, 8, .ro, 0, []⟩, ⟨7, 4, .ro, 0, []⟩, ⟨2, 0, .ro, 0, []⟩]⟩,
  ⟨.CS_CELLCNT, 0x1040, [(4, 0x4)], false, [⟨31, 0, .rc, 0, []⟩]⟩]

/-- Registers of block 0x0A. -/
def regsBlk0A : List Reg := [
  ⟨.REF_CTL, 0x0, [], false, [⟨11, 8, .rw, 0, [(0, 7)]⟩, ⟨2, 2, .rw, 0, []⟩, ⟨1, 1, .rw, 0, []⟩, ⟨0, 0, .rw, 0, []⟩]⟩,
  ⟨.REF_STATUS, 0x4, [], false, [⟨19, 19, .ro, 0, []⟩, ⟨18, 18, .w1c, 0, []⟩, ⟨17, 17, .ro, 0, []⟩, ⟨16, 16, .w1c, 0, []⟩, ⟨15, 15, .w1c, 0, []⟩, ⟨14, 14, .w1c, 0, []⟩, ⟨13, 13, .ro, 1, []⟩, ⟨12, 12, .ro, 0, []⟩, ⟨11, 11, .ro, 0, []⟩, ⟨7, 4, .ro, 5, []⟩, ⟨3, 0, .ro, 15, []⟩]⟩,
  ⟨.REF_XOWIN, 0x8, [], false, [⟨7, 0, .rw, 10, [(1, 100)]⟩]⟩,
  ⟨.REF_XCMP, 0xC, [], false, [⟨21, 12, .rw, 50, [(1, 1000)]⟩, ⟨11, 0, .rw, 100, [(10, 1000)]⟩]⟩,
  ⟨.REF_XCMP2, 0x10, [], false, [⟨15, 0, .rw, 1000, [(100, 10000)]⟩]⟩,
  ⟨.REF_SLEW, 0x14, [], false, [⟨25, 16, .rw, 100, [(10, 1000)]⟩, ⟨9, 0, .rw, 1000, [(1, 1000)]⟩]⟩,
  ⟨.REF_REVERT, 0x18, [], false, [⟨15, 0, .rw, 60, [(1, 65535)]⟩]⟩,
  ⟨.REF_CMD, 0x1C, [], false, [⟨7, 0, .wo, 0, []⟩]⟩,
  ⟨.REF_DCO, 0x20, [], true, [⟨63, 0, .ro, 0, []⟩]⟩,
  ⟨.REF_CFG, 0x100, [(8, 0x20)], false, [⟨23, 16, .rw, 0, [(1, 255)]⟩, ⟨15, 12, .rw, 0, []⟩, ⟨11, 10, .rw, 1, [(0, 2)]⟩, ⟨7, 5, .rw, 7, []⟩, ⟨0, 0, .rw, 0, []⟩]⟩,
  ⟨.REF_BW, 0x104, [(8, 0x20)], false, [⟨23, 0, .rw, 0, []⟩]⟩,
  ⟨.REF_TOL, 0x108, [(8, 0x20)], false, [⟨19, 0, .rw, 1000, [(100, 100000)]⟩]⟩,
  ⟨.REF_STAT, 0x10C, [(8, 0x20)], false, [⟨19, 16, .ro, 0, []⟩, ⟨9, 8, .ro, 0, []⟩, ⟨2, 0, .ro, 0, []⟩]⟩,
  ⟨.REF_FOFF, 0x110, [(8, 0x20)], true, [⟨63, 0, .ro, 0, []⟩]⟩,
  ⟨.REF_POFF, 0x118, [(8, 0x20)], true, [⟨63, 0, .ro, 0, []⟩]⟩,
  ⟨.REF_ANOM, 0x200, [(8, 0x4)], false, [⟨31, 0, .rc, 0, []⟩]⟩,
  ⟨.REF_DISQ, 0x220, [(8, 0x4)], false, [⟨31, 0, .rc, 0, []⟩]⟩,
  ⟨.REF_CNT, 0x240, [(3, 0x4)], false, [⟨31, 0, .rc, 0, []⟩]⟩,
  ⟨.REF_LDLY, 0x280, [(2, 0x4)], false, [⟨31, 0, .rw, 0, []⟩]⟩]

/-- Registers of block 0x0B. -/
def regsBlk0Bp0 : List Reg := [
  ⟨.TB_CTL, 0x0, [], false, [⟨0, 0, .rw, 1, []⟩]⟩,
  ⟨.TB_STATUS, 0x4, [], false, [⟨31, 16, .ro, 0, []⟩, ⟨9, 9, .w1c, 0, []⟩, ⟨8, 8, .w1c, 0, []⟩, ⟨7, 7, .ro, 0, []⟩, ⟨6, 6, .w1c, 0, []⟩, ⟨5, 5, .ro, 0, []⟩, ⟨4, 4, .ro, 0, []⟩, ⟨3, 3, .ro, 0, []⟩, ⟨2, 2, .ro, 0, []⟩, ⟨1, 1, .ro, 0, []⟩, ⟨0, 0, .ro, 0, []⟩]⟩,
  ⟨.TB_STEPTHR, 0x8, [], false, [⟨19, 0, .rw, 1000, [(1, 1000000)]⟩]⟩,
  ⟨.TB_TRIM, 0xC, [], false, [⟨31, 24, .rw, 10, [(1, 255)]⟩, ⟨19, 0, .rw, 100000, [(1, 1000000)]⟩]⟩,
  ⟨.TB_NOWS, 0x10, [], true, [⟨47, 0, .rl, 0, []⟩]⟩,
  ⟨.TB_NOWNS, 0x18, [], false, [⟨31, 0, .rl, 0, []⟩]⟩,
  ⟨.TB_NOWFR, 0x20, [], true, [⟨47, 0, .rl, 0, []⟩]⟩,
  ⟨.TB_INC, 0x28, [], true, [⟨63, 0, .ro, 0x0001400000000000, []⟩]⟩,
  ⟨.TB_STEPCTL, 0x30, [], false, [⟨11, 8, .ro, 0, []⟩, ⟨4, 4, .rw, 0, []⟩, ⟨3, 2, .rw, 0, []⟩, ⟨0, 0, .wo, 0, []⟩]⟩,
  ⟨.TB_STEPNS, 0x34, [], false, [⟨29, 0, .rw, 0, [(0, 999999999)]⟩]⟩,
  ⟨.TB_STEPS, 0x38, [], true, [⟨63, 0, .rw, 0, []⟩]⟩,
  ⟨.TB_STEPTGT, 0x48, [], true, [⟨63, 0, .rw, 0, []⟩]⟩,
  ⟨.TB_STEPBND, 0x50, [], true, [⟨63, 0, .ro, 0, []⟩]⟩,
  ⟨.TB_SCECTL, 0x60, [], false, [⟨15, 12, .ro, 0, []⟩, ⟨11, 8, .rw, 0, []⟩, ⟨4, 4, .rw, 1, []⟩, ⟨3, 3, .rw, 0, []⟩, ⟨2, 2, .rw, 0, []⟩, ⟨1, 1, .wo, 0, []⟩, ⟨0, 0, .wo, 0, []⟩]⟩,
  ⟨.TB_SCESC, 0x68, [], true, [⟨63, 0, .rw, 0, []⟩]⟩,
  ⟨.TB_SCETS, 0x70, [], true, [⟨47, 0, .rw, 0, []⟩]⟩,
  ⟨.TB_SCETNS, 0x78, [], false, [⟨29, 0, .rw, 0, []⟩]⟩,
  ⟨.TB_SCEPER, 0x80, [], true, [⟨63, 0, .rw, 0, []⟩]⟩,
  ⟨.TB_SCETGT, 0x88, [], true, [⟨63, 0, .rw, 0, []⟩]⟩,
  ⟨.TB_SCEBND, 0x90, [], true, [⟨63, 0, .ro, 0, []⟩]⟩,
  ⟨.TB_SCEF_SC, 0xA0, [], true, [⟨63, 0, .ro, 0, []⟩]⟩,
  ⟨.TB_SCEF_TS, 0xA8, [], true, [⟨47, 0, .ro, 0, []⟩]⟩,
  ⟨.TB_SCEF_TNS, 0xB0, [], false, [⟨29, 0, .ro, 0, []⟩]⟩,
  ⟨.TB_SCEF_PER, 0xB8, [], true, [⟨63, 0, .ro, 0, []⟩]⟩]

/-- Registers of block 0x0B. -/
def regsBlk0Bp1 : List Reg := [
  ⟨.TB_TRGCTL, 0x1000, [(16, 0x40)], false, [⟨12, 8, .rw, 0, []⟩, ⟨5, 5, .rw, 1, []⟩, ⟨4, 4, .rw, 0, []⟩, ⟨2, 2, .w1c, 0, []⟩, ⟨1, 1, .w1c, 0, []⟩, ⟨0, 0, .rw, 0, []⟩]⟩,
  ⟨.TB_TRGS, 0x1008, [(16, 0x40)], true, [⟨47, 0, .rw, 0, []⟩]⟩,
  ⟨.TB_TRGNS, 0x1010, [(16, 0x40)], false, [⟨29, 0, .rw, 0, []⟩]⟩,
  ⟨.TB_TRGFR, 0x1014, [(16, 0x40)], false, [⟨6, 0, .rw, 0, [(0, 99)]⟩]⟩,
  ⟨.TB_TRGPERS, 0x1018, [(16, 0x40)], false, [⟨15, 0, .rw, 0, []⟩]⟩,
  ⟨.TB_TRGPERNS, 0x101C, [(16, 0x40)], false, [⟨29, 0, .rw, 0, []⟩]⟩,
  ⟨.TB_TRGWID, 0x1020, [(16, 0x40)], false, [⟨29, 0, .rw, 100, [(8, 999999999)]⟩]⟩,
  ⟨.TB_TRGSKIP, 0x1024, [(16, 0x40)], false, [⟨31, 0, .rc, 0, []⟩]⟩,
  ⟨.TB_OUTDLY, 0x1400, [(5, 0x4)], false, [⟨10, 10, .rw, 0, []⟩, ⟨9, 0, .rw, 0, []⟩]⟩,
  ⟨.TB_CAPCTL, 0x2000, [(16, 0x20)], false, [⟨7, 4, .rw, 0, []⟩, ⟨3, 2, .rw, 0, []⟩, ⟨1, 1, .rw, 0, []⟩]⟩,
  ⟨.TB_CAPSTAT, 0x2004, [(16, 0x20)], false, [⟨8, 8, .w1c, 0, []⟩, ⟨4, 0, .ro, 0, []⟩]⟩,
  ⟨.TB_CAPS, 0x2008, [(16, 0x20)], true, [⟨47, 0, .rl, 0, []⟩]⟩,
  ⟨.TB_CAPNS, 0x2010, [(16, 0x20)], false, [⟨29, 0, .rl, 0, []⟩]⟩,
  ⟨.TB_CAPX, 0x2014, [(16, 0x20)], false, [⟨31, 16, .rl, 0, []⟩, ⟨15, 15, .rl, 0, []⟩, ⟨9, 0, .rl, 0, []⟩]⟩,
  ⟨.TB_CNT, 0x3000, [(5, 0x4)], false, [⟨31, 0, .rc, 0, []⟩]⟩]

/-- Registers of block 0x0B. -/
def regsBlk0B : List Reg := regsBlk0Bp0 ++ regsBlk0Bp1

/-- Registers of block 0x0C. -/
def regsBlk0C : List Reg := [
  ⟨.CK_CTL, 0x0, [], false, [⟨15, 8, .rw, 10, [(1, 255)]⟩, ⟨3, 3, .rw, 0, []⟩, ⟨2, 2, .wo, 0, []⟩, ⟨1, 1, .wo, 0, []⟩]⟩,
  ⟨.CK_STATUS, 0x4, [], false, [⟨20, 16, .ro, 0, []⟩, ⟨15, 15, .ro, 0, []⟩, ⟨14, 14, .w1c, 0, []⟩, ⟨13, 13, .ro, 0, []⟩, ⟨12, 12, .w1c, 0, []⟩, ⟨11, 11, .w1c, 0, []⟩, ⟨10, 10, .ro, 0, []⟩, ⟨9, 7, .ro, 4, []⟩, ⟨3, 0, .ro, 0, []⟩]⟩,
  ⟨.CK_CAP, 0x8, [], false, [⟨12, 0, .rw, 4500, [(1400, 4500)]⟩]⟩,
  ⟨.CK_THERM, 0xC, [], false, [⟨31, 24, .rw, 5, [(1, 50)]⟩, ⟨23, 16, .rw, 10, [(1, 100)]⟩, ⟨6, 0, .rw, 100, [(85, 104)]⟩]⟩,
  ⟨.CK_CAPEFF, 0x10, [], false, [⟨12, 0, .ro, 4500, []⟩]⟩,
  ⟨.CK_PACE, 0x14, [], false, [⟨15, 0, .ro, 0, []⟩]⟩,
  ⟨.CK_ROUND, 0x18, [], true, [⟨63, 0, .rl, 0, []⟩]⟩,
  ⟨.CK_EGTGT, 0x20, [], true, [⟨63, 0, .rw, 0, []⟩]⟩,
  ⟨.CK_PLAN, 0x40, [(10, 0x4)], false, [⟨31, 0, .rl, 0, []⟩]⟩,
  ⟨.CK_VPT, 0x100, [(16, 0x4)], false, [⟨31, 16, .ro, 0, []⟩, ⟨15, 0, .ro, 0, []⟩]⟩,
  ⟨.CK_COEF, 0x200, [(4, 0x4)], false, [⟨31, 0, .ro, 0, []⟩]⟩,
  ⟨.CK_E, 0x300, [(10, 0x8)], true, [⟨47, 0, .ro, 0, []⟩]⟩,
  ⟨.CK_RAIL, 0x380, [(4, 0x8)], true, [⟨47, 0, .ro, 0, []⟩]⟩,
  ⟨.CK_TRIM, 0x3C0, [(4, 0x4)], false, [⟨15, 0, .ro, 0x1000, []⟩]⟩,
  ⟨.CK_KRATE, 0x3D0, [], false, [⟨15, 0, .ro, 0x1000, []⟩]⟩,
  ⟨.CK_CNT, 0x400, [(6, 0x4)], false, [⟨31, 0, .rc, 0, []⟩]⟩]

/-- Registers of block 0x0D. (DESIGN CHOICE: log entry 174: every age of HM_AGE0 to HM_AGE2 has the range of c2.) -/
def regsBlk0D : List Reg := [
  ⟨.HM_CTL, 0x0, [], false, [⟨24, 24, .wo, 0, []⟩, ⟨23, 16, .rw, 24, [(1, 168)]⟩, ⟨15, 12, .rw, 8, [(1, 8)]⟩, ⟨11, 8, .rw, 9, [(4, 14)]⟩, ⟨1, 1, .rw, 1, []⟩, ⟨0, 0, .rw, 1, []⟩]⟩,
  ⟨.HM_STATUS, 0x4, [], false, [⟨19, 19, .w1c, 0, []⟩, ⟨18, 18, .w1c, 0, []⟩, ⟨17, 17, .ro, 0, []⟩, ⟨16, 16, .w1c, 0, []⟩, ⟨15, 8, .ro, 0, []⟩, ⟨7, 0, .ro, 0xFF, []⟩]⟩,
  ⟨.HM_AGE0, 0x8, [], false, [⟨31, 16, .rw, 40, [(1, 65535)]⟩, ⟨15, 0, .rw, 40, [(1, 65535)]⟩]⟩,
  ⟨.HM_AGE1, 0xC, [], false, [⟨31, 16, .rw, 500, [(1, 65535)]⟩, ⟨15, 0, .rw, 80, [(1, 65535)]⟩]⟩,
  ⟨.HM_AGE2, 0x10, [], false, [⟨15, 0, .rw, 1000, [(1, 65535)]⟩]⟩,
  ⟨.HM_PROMO, 0x14, [], false, [⟨4, 0, .rw, 8, [(0, 16)]⟩]⟩,
  ⟨.HM_TCTL, 0x18, [], false, [⟨27, 16, .rw, 1000, [(100, 4000)]⟩, ⟨15, 12, .rw, 3, [(1, 10)]⟩, ⟨6, 0, .rw, 85, [(70, 95)]⟩]⟩,
  ⟨.HM_ERR, 0x20, [], false, [⟨31, 31, .rl, 0, []⟩, ⟨30, 28, .rl, 0, []⟩, ⟨27, 25, .rl, 0, []⟩, ⟨24, 20, .rl, 0, []⟩, ⟨19, 19, .rl, 0, []⟩, ⟨18, 14, .rl, 0, []⟩, ⟨13, 6, .rl, 0, []⟩]⟩,
  ⟨.HM_ERRROW, 0x24, [], false, [⟨31, 0, .rl, 0, []⟩]⟩,
  ⟨.HM_ERRRND, 0x28, [], true, [⟨63, 0, .rl, 0, []⟩]⟩,
  ⟨.HM_STK, 0x1000, [(8, 0x100)], false, [⟨22, 22, .ro, 0, []⟩, ⟨21, 19, .ro, 0, []⟩, ⟨18, 15, .ro, 0, []⟩, ⟨11, 11, .ro, 0, []⟩, ⟨7, 0, .ro, 0, []⟩]⟩,
  ⟨.HM_STKSP, 0x1004, [(8, 0x100)], false, [⟨7, 0, .ro, 0, []⟩]⟩,
  ⟨.HM_STKHW, 0x1008, [(8, 0x100)], false, [⟨11, 0, .rc, 0, []⟩]⟩,
  ⟨.HM_CNT, 0x1010, [(8, 0x100), (8, 0x4)], false, [⟨31, 0, .rc, 0, []⟩]⟩]

/-- Registers of block 0x0E. -/
def regsBlk0E : List Reg := [
  ⟨.XB_MATTR, 0x0, [], false, [⟨19, 0, .arb, 0x80002, []⟩]⟩,
  ⟨.XB_MRST, 0x4, [], false, [⟨19, 0, .ro, 0, []⟩]⟩,
  ⟨.XB_CSRSEC, 0x8, [], false, [⟨21, 0, .arb, 0x084000, []⟩]⟩,
  ⟨.XB_VIOL, 0x10, [], false, [⟨31, 31, .w1c, 0, []⟩, ⟨30, 28, .rl, 0, []⟩, ⟨24, 20, .rl, 0, []⟩, ⟨18, 16, .rl, 0, []⟩, ⟨0, 0, .rl, 0, []⟩]⟩,
  ⟨.XB_VIOLADR, 0x18, [], true, [⟨39, 0, .rl, 0, []⟩]⟩,
  ⟨.XB_MBXDB, 0x20, [], false, [⟨3, 0, .wo, 0, []⟩]⟩,
  ⟨.XB_MBXBUSY, 0x24, [], false, [⟨15, 0, .ro, 0, []⟩]⟩,
  ⟨.XB_CNT, 0x100, [(9, 0x4)], false, [⟨31, 0, .rc, 0, []⟩]⟩,
  ⟨.XB_DMACTL, 0x1000, [(8, 0x40)], false, [⟨3, 3, .arb, 0, []⟩, ⟨2, 2, .wo, 0, []⟩, ⟨1, 1, .wo, 0, []⟩]⟩,
  ⟨.XB_DMASTAT, 0x1004, [(8, 0x40)], false, [⟨7, 4, .ro, 0, []⟩, ⟨3, 3, .ro, 0, []⟩, ⟨2, 0, .ro, 0, []⟩]⟩,
  ⟨.XB_DMADESC, 0x1008, [(8, 0x40)], true, [⟨39, 0, .rw, 0, []⟩]⟩,
  ⟨.XB_DMACUR, 0x1010, [(8, 0x40)], true, [⟨39, 0, .ro, 0, []⟩]⟩,
  ⟨.XB_DMADONE, 0x1018, [(8, 0x40)], false, [⟨31, 0, .rc, 0, []⟩]⟩]

/-- Registers of block 0x0F. -/
def regsBlk0F : List Reg := [
  ⟨.EV_CTL, 0x0, [], false, [⟨0, 0, .rw, 1, []⟩]⟩,
  ⟨.EV_STATUS, 0x4, [], false, [⟨2, 2, .w1c, 0, []⟩, ⟨1, 1, .w1c, 0, []⟩, ⟨0, 0, .w1c, 0, []⟩]⟩,
  ⟨.EV_GRPEN, 0x8, [], false, [⟨15, 0, .rw, 0xFFFF, []⟩]⟩,
  ⟨.EV_SWGATE, 0xC, [], false, [⟨7, 0, .rw, 0, []⟩]⟩,
  ⟨.EV_GATES, 0x10, [], false, [⟨31, 0, .ro, 0, []⟩]⟩,
  ⟨.EV_HOSTEV, 0x14, [], false, [⟨15, 0, .wo, 0, []⟩]⟩,
  ⟨.EV_TSEC, 0x20, [(3, 0x4)], false, [⟨31, 0, .arb, 0, []⟩]⟩,
  ⟨.EV_CNT, 0x100, [(5, 0x4)], false, [⟨31, 0, .rc, 0, []⟩]⟩,
  ⟨.EV_CHCFG, 0x1000, [(128, 0x10)], false, [⟨31, 31, .own, 0, []⟩, ⟨30, 29, .own, 0, [(0, 2)]⟩, ⟨28, 22, .own, 0, []⟩, ⟨21, 14, .own, 0, []⟩, ⟨13, 13, .own, 0, []⟩, ⟨12, 12, .own, 0, []⟩, ⟨11, 7, .own, 0, []⟩]⟩,
  ⟨.EV_CHOWN, 0x1004, [(128, 0x10)], false, [⟨7, 7, .arb, 0, []⟩, ⟨5, 4, .arb, 0, [(0, 2)]⟩, ⟨3, 0, .arb, 0, []⟩]⟩,
  ⟨.EV_CHSTAT, 0x1008, [(128, 0x10)], false, [⟨1, 1, .w1c, 0, []⟩, ⟨0, 0, .w1c, 0, []⟩]⟩,
  ⟨.EV_CHCNT, 0x100C, [(128, 0x10)], false, [⟨31, 0, .rc, 0, []⟩]⟩,
  ⟨.EV_TSTAT, 0x2000, [(96, 0x4)], false, [⟨7, 7, .w1c, 0, []⟩, ⟨6, 6, .ro, 0, []⟩, ⟨1, 0, .ro, 0, []⟩]⟩,
  ⟨.EV_IO, 0x3000, [(16, 0x4)], false, [⟨29, 20, .rw, 100, [(4, 1023)]⟩, ⟨15, 12, .rw, 2, []⟩, ⟨9, 8, .rw, 0, []⟩, ⟨5, 4, .rw, 0, []⟩, ⟨0, 0, .rw, 0, []⟩]⟩]

/-- Registers of block 0x10. -/
def regsBlk10 : List Reg := [
  ⟨.SP_FAULT, 0x0, [], false, [⟨15, 0, .w1c, 0, []⟩]⟩,
  ⟨.SP_HINT, 0x4, [], false, [⟨15, 0, .w1c, 0, []⟩]⟩,
  ⟨.SP_CTL, 0x1000, [(16, 0x100)], false, [⟨3, 3, .wo, 0, []⟩, ⟨2, 2, .wo, 0, []⟩, ⟨0, 0, .rw, 0, []⟩]⟩,
  ⟨.SP_STAT, 0x1004, [(16, 0x100)], false, [⟨19, 16, .ro, 0, []⟩, ⟨12, 12, .w1c, 0, []⟩, ⟨11, 11, .w1c, 0, []⟩, ⟨10, 10, .w1c, 0, []⟩, ⟨9, 9, .w1c, 0, []⟩, ⟨8, 8, .w1c, 0, []⟩, ⟨3, 3, .ro, 0, []⟩, ⟨2, 0, .ro, 0, []⟩]⟩,
  ⟨.SP_PC, 0x1008, [(16, 0x100)], false, [⟨14, 0, .rw, 0, []⟩]⟩,
  ⟨.SP_HMSG, 0x100C, [(16, 0x100)], false, [⟨31, 0, .rw, 0, []⟩]⟩,
  ⟨.SP_XWIN, 0x1010, [(16, 0x100)], true, [⟨39, 16, .rw, 0, []⟩]⟩,
  ⟨.SP_INCFGA, 0x1020, [(16, 0x100), (4, 0x8)], false, [⟨28, 16, .rw, 1, [(1, 4096)]⟩, ⟨15, 15, .rw, 0, []⟩, ⟨1, 0, .rw, 0, [(0, 2)]⟩]⟩,
  ⟨.SP_INCFGB, 0x1024, [(16, 0x100), (4, 0x8)], false, [⟨28, 16, .rw, 0, [(0, 4096)]⟩, ⟨11, 0, .rw, 0, []⟩]⟩,
  ⟨.SP_OUTCFG, 0x1040, [(16, 0x100), (4, 0x4)], false, [⟨26, 16, .rw, 1, [(1, 1024)]⟩, ⟨11, 8, .rw, 0, []⟩, ⟨7, 6, .rw, 0, []⟩, ⟨1, 0, .rw, 0, [(0, 2)]⟩]⟩,
  ⟨.SP_INSTAT, 0x1050, [(16, 0x100), (4, 0x4)], false, [⟨12, 0, .ro, 0, []⟩]⟩,
  ⟨.SP_OUTSTAT, 0x1060, [(16, 0x100), (4, 0x4)], false, [⟨10, 0, .ro, 0, []⟩]⟩,
  ⟨.SP_INHDR, 0x1080, [(16, 0x100), (4, 0x10), (4, 0x4)], false, [⟨31, 0, .rl, 0, []⟩]⟩,
  ⟨.SP_CNT, 0x10C0, [(16, 0x100), (5, 0x4)], false, [⟨31, 0, .rc, 0, []⟩]⟩,
  ⟨.SP_WIN, 0x8000, [(16, 0x200), (128, 0x4)], false, [⟨31, 0, .rw, 0, []⟩]⟩]

/-- Registers of block 0x11. -/
def regsBlk11 : List Reg := [
  ⟨.AU_CTL, 0x0, [], false, [⟨2, 2, .rw, 0, []⟩, ⟨1, 1, .rw, 0, []⟩, ⟨0, 0, .rw, 0, []⟩]⟩,
  ⟨.AU_STATUS, 0x4, [], false, [⟨7, 7, .w1c, 0, []⟩, ⟨6, 6, .w1c, 0, []⟩, ⟨5, 5, .w1c, 0, []⟩, ⟨4, 4, .w1c, 0, []⟩, ⟨3, 3, .w1c, 0, []⟩, ⟨2, 2, .ro, 0, []⟩, ⟨1, 0, .ro, 0, []⟩]⟩,
  ⟨.AU_REFCTL, 0x8, [], false, [⟨7, 0, .rw, 50, [(1, 200)]⟩]⟩,
  ⟨.AU_REFOFF, 0xC, [], false, [⟨31, 0, .ro, 0, []⟩]⟩,
  ⟨.AU_ORIG, 0x10, [], false, [⟨31, 0, .rw, 0, []⟩]⟩,
  ⟨.AU_SAOFF, 0x14, [], false, [⟨31, 0, .rw, 0, []⟩]⟩,
  ⟨.AU_OUTCTL, 0x100, [(8, 0x4)], false, [⟨0, 0, .rw, 0, []⟩]⟩,
  ⟨.AU_CHCFG, 0x200, [(16, 0x10)], false, [⟨30, 16, .rw, 2048, [(1, 16384)]⟩, ⟨13, 4, .rw, 480, [(1, 1023)]⟩, ⟨1, 0, .rw, 0, [(0, 2)]⟩]⟩,
  ⟨.AU_CHLO, 0x204, [(16, 0x10)], false, [⟨14, 0, .rw, 64, [(0, 16383)]⟩]⟩,
  ⟨.AU_CHSTAT, 0x208, [(16, 0x10)], false, [⟨21, 21, .w1c, 0, []⟩, ⟨20, 20, .w1c, 0, []⟩, ⟨17, 16, .ro, 0, []⟩, ⟨14, 0, .ro, 0, []⟩]⟩,
  ⟨.AU_CNT, 0x400, [(16, 0x8), (2, 0x4)], false, [⟨31, 0, .rc, 0, []⟩]⟩]

/-- Registers of block 0x12. -/
def regsBlk12 : List Reg := [
  ⟨.CF_STATUS, 0x0, [], false, [⟨19, 16, .ro, 0, []⟩, ⟨13, 12, .ro, 0, []⟩, ⟨11, 8, .ro, 0, []⟩, ⟨7, 7, .w1c, 0, []⟩, ⟨6, 6, .w1c, 0, []⟩, ⟨5, 5, .w1c, 0, []⟩, ⟨4, 4, .w1c, 0, []⟩, ⟨3, 3, .ro, 0, []⟩, ⟨2, 0, .ro, 0, []⟩]⟩,
  ⟨.CF_EPOCH, 0x4, [], false, [⟨31, 0, .ro, 0, []⟩]⟩,
  ⟨.CF_RLBND, 0x8, [], true, [⟨63, 0, .ro, 0, []⟩]⟩,
  ⟨.CF_KEYS, 0x10, [], false, [⟨7, 4, .ro, 1, []⟩, ⟨3, 0, .ro, 0, []⟩]⟩,
  ⟨.CF_CFGHASH, 0x40, [(12, 0x4)], false, [⟨31, 0, .ro, 0, []⟩]⟩,
  ⟨.CF_SLOT, 0x100, [(4, 0x10)], false, [⟨11, 8, .ro, 0, []⟩, ⟨7, 7, .ro, 0, []⟩, ⟨6, 6, .ro, 0, []⟩, ⟨2, 0, .ro, 0, []⟩]⟩,
  ⟨.CF_SLOTEP, 0x104, [(4, 0x10)], false, [⟨31, 0, .ro, 0, []⟩]⟩,
  ⟨.CF_SLOTWR, 0x108, [(4, 0x10)], false, [⟨31, 0, .ro, 0, []⟩]⟩,
  ⟨.CF_SLOTLEN, 0x10C, [(4, 0x10)], false, [⟨31, 0, .ro, 0, []⟩]⟩,
  ⟨.CF_LOG0, 0x200, [], false, [⟨31, 16, .ro, 0, []⟩, ⟨9, 0, .ro, 0, []⟩]⟩,
  ⟨.CF_LOG1, 0x204, [], false, [⟨31, 0, .ro, 0, []⟩]⟩,
  ⟨.CF_CNT, 0x400, [(5, 0x4)], false, [⟨31, 0, .rc, 0, []⟩]⟩]

/-- Registers of block 0x13. -/
def regsBlk13 : List Reg := [
  ⟨.MG_STATUS, 0x0, [], false, [⟨11, 11, .w1c, 0, []⟩, ⟨10, 10, .ro, 0, []⟩, ⟨9, 9, .w1c, 0, []⟩, ⟨8, 8, .ro, 0, []⟩, ⟨7, 7, .ro, 0, []⟩, ⟨6, 6, .ro, 0, []⟩, ⟨5, 5, .ro, 0, []⟩, ⟨4, 4, .ro, 0, []⟩, ⟨3, 0, .ro, 0, []⟩]⟩,
  ⟨.MG_CTL, 0x4, [], false, [⟨1, 1, .wo, 0, []⟩, ⟨0, 0, .arb, 1, []⟩]⟩,
  ⟨.MG_RRST, 0x8, [], false, [⟨6, 0, .wo, 0, []⟩]⟩,
  ⟨.MG_WDOG, 0xC, [], false, [⟨23, 16, .wo, 0, []⟩, ⟨15, 0, .arb, 1000, [(10, 10000)]⟩]⟩,
  ⟨.MG_RSTCAUSE, 0x10, [], false, [⟨10, 8, .w1c, 0, []⟩, ⟨4, 4, .w1c, 0, []⟩, ⟨3, 3, .w1c, 0, []⟩, ⟨2, 2, .w1c, 0, []⟩, ⟨1, 1, .w1c, 0, []⟩, ⟨0, 0, .w1c, 1, []⟩]⟩,
  ⟨.MG_BOOT, 0x14, [], false, [⟨9, 8, .ro, 0, []⟩, ⟨7, 4, .ro, 0xF, []⟩, ⟨1, 0, .ro, 0, []⟩]⟩,
  ⟨.MG_CTXBASE, 0x18, [], true, [⟨63, 0, .rw, 0, []⟩]⟩,
  ⟨.MG_WAKETIME, 0x20, [], true, [⟨63, 63, .rw, 0, []⟩, ⟨47, 0, .rw, 0, []⟩]⟩,
  ⟨.MG_OPENT, 0x28, [], false, [⟨31, 0, .ro, 0, []⟩]⟩]

/-- Registers of block 0x14. -/
def regsBlk14 : List Reg := [
  ⟨.PE_ID, 0x0, [], false, [⟨31, 16, .ro, 0x8192, []⟩, ⟨15, 0, .ro, 0, []⟩]⟩,
  ⟨.PE_LINK, 0x4, [], false, [⟨9, 6, .ro, 0, []⟩, ⟨5, 0, .ro, 0, []⟩]⟩,
  ⟨.PE_WIN, 0x8, [], true, [⟨63, 30, .rw, 0, []⟩]⟩,
  ⟨.PE_ERR, 0x10, [], false, [⟨2, 2, .w1c, 0, []⟩, ⟨1, 1, .w1c, 0, []⟩, ⟨0, 0, .w1c, 0, []⟩]⟩,
  ⟨.PE_CNT, 0x100, [(3, 0x4)], false, [⟨31, 0, .rc, 0, []⟩]⟩,
  ⟨.PE_MSIMAP, 0x1000, [(80, 0x4)], false, [⟨8, 8, .rw, 0, []⟩, ⟨7, 0, .rw, 0, []⟩]⟩]

/-- Registers of block 0x15. -/
def regsBlk15 : List Reg := [
  ⟨.IO_STATUS, 0x0, [], false, [⟨7, 7, .w1c, 0, []⟩, ⟨6, 6, .w1c, 0, []⟩, ⟨5, 5, .w1c, 0, []⟩, ⟨4, 4, .ro, 0, []⟩, ⟨3, 3, .ro, 1, []⟩, ⟨2, 2, .ro, 0, []⟩, ⟨1, 0, .ro, 0, []⟩]⟩,
  ⟨.IO_VIN, 0x4, [], false, [⟨31, 16, .ro, 0, []⟩, ⟨15, 0, .ro, 0, []⟩]⟩,
  ⟨.IO_TJ, 0x8, [], false, [⟨21, 16, .ro, 0, []⟩, ⟨15, 0, .ro, 0, []⟩]⟩,
  ⟨.IO_RAIL, 0x10, [(4, 0x4)], false, [⟨31, 16, .ro, 0, []⟩, ⟨15, 0, .ro, 0, []⟩]⟩,
  ⟨.IO_TERM, 0x20, [], false, [⟨3, 3, .rw, 0, []⟩, ⟨2, 2, .rw, 0, []⟩, ⟨1, 1, .rw, 0, []⟩, ⟨0, 0, .rw, 0, []⟩]⟩,
  ⟨.IO_DRV, 0x24, [], false, [⟨15, 0, .rw, 0xFFFF, []⟩]⟩,
  ⟨.IO_TSENSE, 0x100, [(64, 0x4)], false, [⟨15, 0, .ro, 0, []⟩]⟩]

/-- The registers of a block. -/
def regsOf (blk : Nat) : List Reg :=
  match blk with
  | 0 => regsBlk00
  | 1 => regsBlk01
  | 2 => regsBlk02
  | 3 => regsBlk03
  | 4 => regsBlk04
  | 5 => regsBlk05
  | 6 => regsBlk06
  | 7 => regsBlk07
  | 8 => regsBlk08
  | 9 => regsBlk09
  | 10 => regsBlk0A
  | 11 => regsBlk0B
  | 12 => regsBlk0C
  | 13 => regsBlk0D
  | 14 => regsBlk0E
  | 15 => regsBlk0F
  | 16 => regsBlk10
  | 17 => regsBlk11
  | 18 => regsBlk12
  | 19 => regsBlk13
  | 20 => regsBlk14
  | 21 => regsBlk15
  | _ => []

/-- Splits an offset inside an array into its indices and what is left over. -/
def dimIdx : List (Nat × Nat) → Nat → Option (List Nat × Nat)
  | [], r => some ([], r)
  | (c, st) :: ds, r =>
    if r / st < c then
      match dimIdx ds (r % st) with
      | some (ix, q) => some (r / st :: ix, q)
      | none => none
    else none

/-- Where an address of the CSR space lands: a register, its indices, and whether it is the _HI half of a pair. -/
structure Loc where
  reg : Reg
  idx : List Nat
  hi : Bool
  deriving DecidableEq, Repr

/-- The register of a table entry that stands at a block offset, if any. -/
def Reg.at? (r : Reg) (off : Nat) : Option Loc :=
  if off < r.off then none
  else
    match dimIdx r.dims (off - r.off) with
    | some (ix, 0) => some ⟨r, ix, false⟩
    | some (ix, 4) => if r.pair then some ⟨r, ix, true⟩ else none
    | _ => none

/-- The register at a CSR-space address; none for an offset assigned to no register (R19). -/
def locate (a : Nat) : Option Loc :=
  (regsOf (a / 0x100000)).findSome? (fun r => r.at? (a % 0x100000))

/-- The reset values the field tables give, as one value of 32 bits, or 64 for a pair. -/
def Reg.reset64 (r : Reg) : Nat :=
  r.flds.foldl (fun n f => n + f.reset * 2 ^ f.lo) 0

/-- Table 10-1: the default bandwidth of reference slot r, in 0.1 mHz. -/
def refDefaultBw (r : Nat) : Nat :=
  if r < 2 then 100000 else if r < 4 then 500 else if r < 6 then 100 else 1000000

/-- Table 10-1: the default qualification time of reference slot r, in seconds. -/
def refDefaultQual (r : Nat) : Nat :=
  if r < 2 then 10 else if r < 4 then 30 else if r < 6 then 60 else 10

/-- Table 12-3: rate_70 of core voltage point v, in M steps/s. -/
def vptRate70 (v : Nat) : Nat :=
  [1150, 1215, 1279, 1344, 1409, 1474, 1538, 1619, 1700, 1754, 1808, 1862, 1915, 1956, 1996, 2050].getD v 2050

/-- Table 12-3: the core voltage of point v, in mV. -/
def vptMv (v : Nat) : Nat :=
  [550, 570, 590, 610, 630, 650, 670, 695, 720, 740, 760, 780, 800, 815, 830, 850].getD v 850

/-- Table 15-2: the kind of a task input, 1 = counting (T00–T15, T36–T39, T80–T95), 0 = level. -/
def taskKind (t : Nat) : Nat :=
  if t < 16 ∨ (36 ≤ t ∧ t < 40) ∨ 80 ≤ t then 1 else 0

/-- Resets that a table gives per index, and values fused into the part (Config). -/
def specialReset (id : RegId) (ix : List Nat) : Option Nat :=
  let i := ix.headD 0
  match id with
  | .TOP_SERIAL => some Config.serial.toNat
  | .ET_PTPID => some Config.serial.toNat
  | .PE_ID => some (0x81920000 + Config.vendorId.toNat)
  | .REF_CFG => some (refDefaultQual i * 2 ^ 16 + 1 * 2 ^ 10 + 7 * 2 ^ 5)
  | .REF_BW => some (refDefaultBw i)
  | .CK_VPT => some (vptRate70 i * 2 ^ 16 + vptMv i)
  | .CK_COEF => some (Config.coef i).toNat
  | .EV_TSTAT => some (taskKind i * 2 ^ 6)
  | _ => none

/-- The power-on reset value of the register a location names, 64 bits for a pair. -/
def Loc.reset64 (l : Loc) : Nat :=
  match specialReset l.reg.id l.idx with
  | some v => v
  | none => l.reg.reset64

/-- What an address of the CSR space holds when nothing has written it since power-on reset. (DESIGN CHOICE: log entry 9.) -/
def csrReset (a : Nat) : BitVec 32 :=
  match locate a with
  | some l => BitVec.ofNat 32 (if l.hi then l.reset64 / 2 ^ 32 else l.reset64)
  | none => 0

/-- A reference to one field: the address of its word, its lowest bit and its width. -/
structure FRef where
  a : Nat
  lo : Nat
  w : Nat
  deriving DecidableEq, Repr


/-! ## Named fields: `R.NAME` is a register's address in the CSR space, `R.NAME_field` one of its fields. -/

namespace R

def IN_CTL : Nat := 0x100000
def IN_CTL_tim_rate : FRef := ⟨IN_CTL, 8, 3⟩
def IN_CTL_fmt : FRef := ⟨IN_CTL, 1, 1⟩
def IN_CTL_en : FRef := ⟨IN_CTL, 0, 1⟩
def IN_STATUS : Nat := 0x100004
def IN_STATUS_port_up : FRef := ⟨IN_STATUS, 16, 16⟩
def IN_STATUS_buf_ovr : FRef := ⟨IN_STATUS, 3, 1⟩
def IN_STATUS_ctl_rx : FRef := ⟨IN_STATUS, 2, 1⟩
def IN_STATUS_str_pending : FRef := ⟨IN_STATUS, 1, 1⟩
def IN_STATUS_active : FRef := ⟨IN_STATUS, 0, 1⟩
def IN_STRCMT : Nat := 0x100008
def IN_STRCMT_tgt : FRef := ⟨IN_STRCMT, 1, 1⟩
def IN_STRCMT_commit : FRef := ⟨IN_STRCMT, 0, 1⟩
def IN_STRERR : Nat := 0x10000C
def IN_STRERR_err : FRef := ⟨IN_STRERR, 16, 1⟩
def IN_STRERR_reason : FRef := ⟨IN_STRERR, 12, 4⟩
def IN_STRERR_stream : FRef := ⟨IN_STRERR, 0, 12⟩
def IN_STRTGT : Nat := 0x100010
def IN_STRBND : Nat := 0x100018
def IN_DOMRST : Nat := 0x100080
def IN_DOMRST_reset : FRef := ⟨IN_DOMRST, 0, 16⟩
def IN_DOMCLM (i : Nat) : Nat := 0x100100 + i * 0x8
def IN_PORTCTL (i : Nat) : Nat := 0x101000 + i * 0x100
def IN_PORTCTL_rx_inv (i : Nat) : FRef := ⟨IN_PORTCTL i, 12, 4⟩
def IN_PORTCTL_tx_en (i : Nat) : FRef := ⟨IN_PORTCTL i, 9, 1⟩
def IN_PORTCTL_dom (i : Nat) : FRef := ⟨IN_PORTCTL i, 5, 4⟩
def IN_PORTCTL_dom_en (i : Nat) : FRef := ⟨IN_PORTCTL i, 4, 1⟩
def IN_PORTCTL_auto_retrain (i : Nat) : FRef := ⟨IN_PORTCTL i, 3, 1⟩
def IN_PORTCTL_lanes (i : Nat) : FRef := ⟨IN_PORTCTL i, 1, 2⟩
def IN_PORTCTL_en (i : Nat) : FRef := ⟨IN_PORTCTL i, 0, 1⟩
def IN_PORTSTAT (i : Nat) : Nat := 0x101004 + i * 0x100
def IN_PORTSTAT_deskew_tmo (i : Nat) : FRef := ⟨IN_PORTSTAT i, 26, 1⟩
def IN_PORTSTAT_ctl_rx_cnt (i : Nat) : FRef := ⟨IN_PORTSTAT i, 21, 5⟩
def IN_PORTSTAT_claim_conflict (i : Nat) : FRef := ⟨IN_PORTSTAT i, 20, 1⟩
def IN_PORTSTAT_went_down (i : Nat) : FRef := ⟨IN_PORTSTAT i, 19, 1⟩
def IN_PORTSTAT_train_timeout (i : Nat) : FRef := ⟨IN_PORTSTAT i, 18, 1⟩
def IN_PORTSTAT_skew_err (i : Nat) : FRef := ⟨IN_PORTSTAT i, 17, 1⟩
def IN_PORTSTAT_up_rx_status (i : Nat) : FRef := ⟨IN_PORTSTAT i, 16, 1⟩
def IN_PORTSTAT_skew (i : Nat) : FRef := ⟨IN_PORTSTAT i, 8, 8⟩
def IN_PORTSTAT_lane_lock (i : Nat) : FRef := ⟨IN_PORTSTAT i, 4, 4⟩
def IN_PORTSTAT_state (i : Nat) : FRef := ⟨IN_PORTSTAT i, 0, 3⟩
def IN_CTLFREE (i : Nat) : Nat := 0x101008 + i * 0x100
def IN_CTLFREE_free (i : Nat) : FRef := ⟨IN_CTLFREE i, 0, 16⟩
def IN_CTLTX (i : Nat) : Nat := 0x10100C + i * 0x100
def IN_CTLTX_send (i : Nat) : FRef := ⟨IN_CTLTX i, 0, 16⟩
def IN_TIMSC (i : Nat) : Nat := 0x101010 + i * 0x100
def IN_TIMEPS (i : Nat) : Nat := 0x101018 + i * 0x100
def IN_TIMEPNS (i : Nat) : Nat := 0x101020 + i * 0x100
def IN_TIMEPNS_v (i : Nat) : FRef := ⟨IN_TIMEPNS i, 0, 32⟩
def IN_TIMARRS (i : Nat) : Nat := 0x101024 + i * 0x100
def IN_TIMARRNS (i : Nat) : Nat := 0x10102C + i * 0x100
def IN_TIMARRNS_v (i : Nat) : FRef := ⟨IN_TIMARRNS i, 0, 32⟩
def IN_CNT (i j : Nat) : Nat := 0x101040 + i * 0x100 + j * 0x4
def IN_CNT_count (i j : Nat) : FRef := ⟨IN_CNT i j, 0, 32⟩
def IN_STRA (i : Nat) : Nat := 0x108000 + i * 0x8
def IN_STRA_alt_en (i : Nat) : FRef := ⟨IN_STRA i, 9, 1⟩
def IN_STRA_alt_port (i : Nat) : FRef := ⟨IN_STRA i, 5, 4⟩
def IN_STRA_port (i : Nat) : FRef := ⟨IN_STRA i, 1, 4⟩
def IN_STRA_en (i : Nat) : FRef := ⟨IN_STRA i, 0, 1⟩
def IN_STRB (i : Nat) : Nat := 0x108004 + i * 0x8
def IN_STRB_spc_log2 (i : Nat) : FRef := ⟨IN_STRB i, 26, 4⟩
def IN_STRB_c_pkt (i : Nat) : FRef := ⟨IN_STRB i, 13, 13⟩
def IN_STRB_c_num (i : Nat) : FRef := ⟨IN_STRB i, 0, 13⟩
def IN_STRC (i : Nat) : Nat := 0x120000 + i * 0x4
def IN_STRC_c_lo (i : Nat) : FRef := ⟨IN_STRC i, 0, 12⟩
def IN_RXSLOT (i j k : Nat) : Nat := 0x110000 + i * 0x1000 + j * 0x100 + k * 0x4
def IN_RXSLOT_word (i j k : Nat) : FRef := ⟨IN_RXSLOT i j k, 0, 32⟩
def IN_TXSLOT (i j k : Nat) : Nat := 0x130004 + i * 0x1000 + j * 0x100 + k * 0x4
def IN_TXSLOT_word (i j k : Nat) : FRef := ⟨IN_TXSLOT i j k, 0, 32⟩
def AL_CTL : Nat := 0x200000
def AL_CTL_cap_en : FRef := ⟨AL_CTL, 1, 1⟩
def AL_CTL_en : FRef := ⟨AL_CTL, 0, 1⟩
def AL_STATUS : Nat := 0x200004
def AL_STATUS_cfg_reason : FRef := ⟨AL_STATUS, 20, 4⟩
def AL_STATUS_cfg_err : FRef := ⟨AL_STATUS, 19, 1⟩
def AL_STATUS_wr_refused : FRef := ⟨AL_STATUS, 18, 1⟩
def AL_STATUS_flog_ovf : FRef := ⟨AL_STATUS, 17, 1⟩
def AL_STATUS_w_pending : FRef := ⟨AL_STATUS, 16, 1⟩
def AL_STATUS_pos1_buf : FRef := ⟨AL_STATUS, 10, 2⟩
def AL_STATUS_pos0_buf : FRef := ⟨AL_STATUS, 8, 2⟩
def AL_STATUS_cap_buf : FRef := ⟨AL_STATUS, 6, 2⟩
def AL_STATUS_cap_held : FRef := ⟨AL_STATUS, 5, 1⟩
def AL_STATUS_endgame : FRef := ⟨AL_STATUS, 4, 1⟩
def AL_STATUS_seal_mode : FRef := ⟨AL_STATUS, 1, 1⟩
def AL_STATUS_active : FRef := ⟨AL_STATUS, 0, 1⟩
def AL_WIN : Nat := 0x200008
def AL_WIN_win_us : FRef := ⟨AL_WIN, 0, 13⟩
def AL_ROUNDLEN : Nat := 0x20000C
def AL_ROUNDLEN_len : FRef := ⟨AL_ROUNDLEN, 0, 24⟩
def AL_ORIGIN : Nat := 0x200010
def AL_SLABGEO : Nat := 0x200018
def AL_SLABGEO_blk_m1 : FRef := ⟨AL_SLABGEO, 25, 3⟩
def AL_SLABGEO_c_cnt : FRef := ⟨AL_SLABGEO, 12, 13⟩
def AL_SLABGEO_c_base : FRef := ⟨AL_SLABGEO, 0, 12⟩
def AL_FLOGCAP : Nat := 0x20001C
def AL_FLOGCAP_cap : FRef := ⟨AL_FLOGCAP, 0, 24⟩
def AL_BUF_BASE (i : Nat) : Nat := 0x200020 + i * 0x8
def AL_SLABSIZE : Nat := 0x200038
def AL_RING_BASE : Nat := 0x200040
def AL_RINGSIZE : Nat := 0x200048
def AL_HORIZ : Nat := 0x200050
def AL_SEALED : Nat := 0x200058
def AL_FLGEN : Nat := 0x200060
def AL_FLGEN_log_all : FRef := ⟨AL_FLGEN, 16, 1⟩
def AL_FLGEN_enable : FRef := ⟨AL_FLGEN, 2, 8⟩
def AL_FLGEN_always : FRef := ⟨AL_FLGEN, 0, 2⟩
def AL_SKLO : Nat := 0x200064
def AL_SKLO_lo : FRef := ⟨AL_SKLO, 0, 32⟩
def AL_SKHI : Nat := 0x200068
def AL_SKHI_hi : FRef := ⟨AL_SKHI, 0, 32⟩
def AL_SKCTL : Nat := 0x20006C
def AL_SKCTL_m_min : FRef := ⟨AL_SKCTL, 0, 9⟩
def AL_HMASK_A : Nat := 0x200070
def AL_HMASK_B : Nat := 0x200078
def AL_HMASKCTL : Nat := 0x200080
def AL_HMASKCTL_busy_b : FRef := ⟨AL_HMASKCTL, 4, 1⟩
def AL_HMASKCTL_busy_a : FRef := ⟨AL_HMASKCTL, 3, 1⟩
def AL_HMASKCTL_pending : FRef := ⟨AL_HMASKCTL, 2, 1⟩
def AL_HMASKCTL_en : FRef := ⟨AL_HMASKCTL, 1, 1⟩
def AL_HMASKCTL_sel : FRef := ⟨AL_HMASKCTL, 0, 1⟩
def AL_CAPCTL : Nat := 0x200090
def AL_CAPCTL_auto_rel : FRef := ⟨AL_CAPCTL, 5, 1⟩
def AL_CAPCTL_ev_en : FRef := ⟨AL_CAPCTL, 4, 1⟩
def AL_CAPCTL_tgt : FRef := ⟨AL_CAPCTL, 3, 1⟩
def AL_CAPCTL_sel : FRef := ⟨AL_CAPCTL, 2, 1⟩
def AL_CAPCTL_release : FRef := ⟨AL_CAPCTL, 1, 1⟩
def AL_CAPCTL_freeze : FRef := ⟨AL_CAPCTL, 0, 1⟩
def AL_CAPSTAT : Nat := 0x200094
def AL_CAPSTAT_pending : FRef := ⟨AL_CAPSTAT, 3, 1⟩
def AL_CAPSTAT_result : FRef := ⟨AL_CAPSTAT, 0, 3⟩
def AL_CAPRND : Nat := 0x200098
def AL_CAPHELD : Nat := 0x2000A0
def AL_RPRCTL : Nat := 0x2000B0
def AL_RPRCTL_lead_us : FRef := ⟨AL_RPRCTL, 4, 12⟩
def AL_RPRCTL_en : FRef := ⟨AL_RPRCTL, 0, 1⟩
def AL_TPCTL : Nat := 0x2000B4
def AL_TPCTL_tp_log2 : FRef := ⟨AL_TPCTL, 0, 3⟩
def AL_CNT (i : Nat) : Nat := 0x200100 + i * 0x4
def AL_CNT_count (i : Nat) : FRef := ⟨AL_CNT i, 0, 32⟩
def AL_STRLATE (i : Nat) : Nat := 0x208000 + i * 0x4
def AL_STRLATE_count (i : Nat) : FRef := ⟨AL_STRLATE i, 0, 32⟩
def BD_CTL : Nat := 0x300000
def BD_CTL_drain : FRef := ⟨BD_CTL, 2, 1⟩
def BD_CTL_halt : FRef := ⟨BD_CTL, 1, 1⟩
def BD_CTL_en : FRef := ⟨BD_CTL, 0, 1⟩
def BD_STATUS : Nat := 0x300004
def BD_STATUS_tbl_reason : FRef := ⟨BD_STATUS, 20, 4⟩
def BD_STATUS_tbl_err : FRef := ⟨BD_STATUS, 19, 1⟩
def BD_STATUS_overrun : FRef := ⟨BD_STATUS, 18, 1⟩
def BD_STATUS_incomplete : FRef := ⟨BD_STATUS, 17, 1⟩
def BD_STATUS_limit : FRef := ⟨BD_STATUS, 16, 1⟩
def BD_STATUS_drain_busy : FRef := ⟨BD_STATUS, 9, 1⟩
def BD_STATUS_drain_done : FRef := ⟨BD_STATUS, 8, 1⟩
def BD_STATUS_tbl_pending : FRef := ⟨BD_STATUS, 7, 1⟩
def BD_STATUS_fill_bank : FRef := ⟨BD_STATUS, 6, 1⟩
def BD_STATUS_state : FRef := ⟨BD_STATUS, 0, 3⟩
def BD_CFG : Nat := 0x300008
def BD_CFG_p : FRef := ⟨BD_CFG, 8, 8⟩
def BD_CFG_fmt : FRef := ⟨BD_CFG, 4, 1⟩
def BD_CFG_k_m1 : FRef := ⟨BD_CFG, 0, 3⟩
def BD_PTCMT : Nat := 0x300010
def BD_PTCMT_cnt : FRef := ⟨BD_PTCMT, 8, 6⟩
def BD_PTCMT_tgt : FRef := ⟨BD_PTCMT, 1, 1⟩
def BD_PTCMT_commit : FRef := ⟨BD_PTCMT, 0, 1⟩
def BD_PTTGT : Nat := 0x300018
def BD_PTBND : Nat := 0x300020
def BD_ROUND : Nat := 0x300028
def BD_PASS : Nat := 0x300030
def BD_PASS_valid : FRef := ⟨BD_PASS, 31, 1⟩
def BD_PASS_rerun : FRef := ⟨BD_PASS, 30, 1⟩
def BD_PASS_q : FRef := ⟨BD_PASS, 0, 17⟩
def BD_ADMIT : Nat := 0x300034
def BD_ADMIT_passes : FRef := ⟨BD_ADMIT, 0, 17⟩
def BD_PASSDONE : Nat := 0x300038
def BD_RATE : Nat := 0x300040
def BD_RATE_min_round : FRef := ⟨BD_RATE, 16, 16⟩
def BD_RATE_last_pass : FRef := ⟨BD_RATE, 0, 16⟩
def BD_STEPS : Nat := 0x300048
def BD_PTBL (i : Nat) : Nat := 0x300100 + i * 0x4
def BD_PTBL_f1_en (i : Nat) : FRef := ⟨BD_PTBL i, 11, 1⟩
def BD_PTBL_f1 (i : Nat) : FRef := ⟨BD_PTBL i, 8, 3⟩
def BD_PTBL_f0 (i : Nat) : FRef := ⟨BD_PTBL i, 4, 3⟩
def BD_PTBL_r (i : Nat) : FRef := ⟨BD_PTBL i, 0, 3⟩
def BD_PTBLF (i : Nat) : Nat := 0x300180 + i * 0x4
def BD_PTBLF_f1_en (i : Nat) : FRef := ⟨BD_PTBLF i, 11, 1⟩
def BD_PTBLF_f1 (i : Nat) : FRef := ⟨BD_PTBLF i, 8, 3⟩
def BD_PTBLF_f0 (i : Nat) : FRef := ⟨BD_PTBLF i, 4, 3⟩
def BD_PTBLF_r (i : Nat) : FRef := ⟨BD_PTBLF i, 0, 3⟩
def BD_RMAP (i : Nat) : Nat := 0x300200 + i * 0x4
def BD_RMAP_pend (i : Nat) : FRef := ⟨BD_RMAP i, 17, 1⟩
def BD_RMAP_repaired (i : Nat) : FRef := ⟨BD_RMAP i, 16, 1⟩
def BD_RMAP_applied (i : Nat) : FRef := ⟨BD_RMAP i, 8, 7⟩
def BD_RMAP_out (i : Nat) : FRef := ⟨BD_RMAP i, 0, 7⟩
def BD_FMAP (i : Nat) : Nat := 0x300240 + i * 0x4
def BD_FMAP_pend (i : Nat) : FRef := ⟨BD_FMAP i, 17, 1⟩
def BD_FMAP_repaired (i : Nat) : FRef := ⟨BD_FMAP i, 16, 1⟩
def BD_FMAP_applied (i : Nat) : FRef := ⟨BD_FMAP i, 8, 7⟩
def BD_FMAP_out (i : Nat) : FRef := ⟨BD_FMAP i, 0, 7⟩
def BD_CNT (i : Nat) : Nat := 0x300300 + i * 0x4
def BD_CNT_count (i : Nat) : FRef := ⟨BD_CNT i, 0, 32⟩
def AG_CTL : Nat := 0x400000
def AG_CTL_pm_direct : FRef := ⟨AG_CTL, 0, 1⟩
def AG_STATUS : Nat := 0x400004
def AG_STATUS_cmd_err : FRef := ⟨AG_STATUS, 9, 1⟩
def AG_STATUS_wr_refused : FRef := ⟨AG_STATUS, 8, 1⟩
def AG_STATUS_endgame : FRef := ⟨AG_STATUS, 3, 1⟩
def AG_STATUS_dig_busy : FRef := ⟨AG_STATUS, 2, 1⟩
def AG_STATUS_pm_pending : FRef := ⟨AG_STATUS, 1, 1⟩
def AG_STATUS_cmd_pending : FRef := ⟨AG_STATUS, 0, 1⟩
def AG_CMD : Nat := 0x400008
def AG_CMD_group : FRef := ⟨AG_CMD, 8, 6⟩
def AG_CMD_tgt : FRef := ⟨AG_CMD, 4, 1⟩
def AG_CMD_op : FRef := ⟨AG_CMD, 0, 3⟩
def AG_CMDRES : Nat := 0x40000C
def AG_CMDRES_valid : FRef := ⟨AG_CMDRES, 16, 1⟩
def AG_CMDRES_group : FRef := ⟨AG_CMDRES, 8, 6⟩
def AG_CMDRES_reason : FRef := ⟨AG_CMDRES, 0, 4⟩
def AG_CMDTGT : Nat := 0x400010
def AG_CMDBND : Nat := 0x400018
def AG_CHRATE : Nat := 0x400020
def AG_PMCMT : Nat := 0x400040
def AG_PMCMT_cnt : FRef := ⟨AG_PMCMT, 16, 15⟩
def AG_PMCMT_tgt : FRef := ⟨AG_PMCMT, 1, 1⟩
def AG_PMCMT_commit : FRef := ⟨AG_PMCMT, 0, 1⟩
def AG_PMERR : Nat := 0x400044
def AG_PMERR_err : FRef := ⟨AG_PMERR, 31, 1⟩
def AG_PMERR_reason : FRef := ⟨AG_PMERR, 24, 4⟩
def AG_PMERR_edit : FRef := ⟨AG_PMERR, 0, 15⟩
def AG_PMTGT : Nat := 0x400048
def AG_PMBND : Nat := 0x400050
def AG_PMDIG : Nat := 0x400058
def AG_TAINT : Nat := 0x400060
def AG_TAINT_used : FRef := ⟨AG_TAINT, 0, 17⟩
def AG_PMERRENT : Nat := 0x400064
def AG_PMERRENT_col : FRef := ⟨AG_PMERRENT, 12, 12⟩
def AG_PMERRENT_row : FRef := ⟨AG_PMERRENT, 0, 12⟩
def AG_CNT (i : Nat) : Nat := 0x400100 + i * 0x4
def AG_CNT_count (i : Nat) : FRef := ⟨AG_CNT i, 0, 32⟩
def AG_GCFG (i : Nat) : Nat := 0x401000 + i * 0x40
def AG_GCFG_dest (i : Nat) : FRef := ⟨AG_GCFG i, 16, 8⟩
def AG_GCFG_pmask (i : Nat) : FRef := ⟨AG_GCFG i, 8, 4⟩
def AG_GCFG_pri (i : Nat) : FRef := ⟨AG_GCFG i, 4, 2⟩
def AG_GCFG_auto (i : Nat) : FRef := ⟨AG_GCFG i, 3, 1⟩
def AG_GCFG_rel (i : Nat) : FRef := ⟨AG_GCFG i, 2, 1⟩
def AG_GCFG_mode (i : Nat) : FRef := ⟨AG_GCFG i, 1, 1⟩
def AG_GCFG_fmt (i : Nat) : FRef := ⟨AG_GCFG i, 0, 1⟩
def AG_GLEN (i : Nat) : Nat := 0x401004 + i * 0x40
def AG_GLEN_gap (i : Nat) : FRef := ⟨AG_GLEN i, 16, 16⟩
def AG_GLEN_len (i : Nat) : FRef := ⟨AG_GLEN i, 0, 16⟩
def AG_GCH (i : Nat) : Nat := 0x401008 + i * 0x40
def AG_GCH_ch_num (i : Nat) : FRef := ⟨AG_GCH i, 16, 13⟩
def AG_GCH_ch_lo (i : Nat) : FRef := ⟨AG_GCH i, 0, 12⟩
def AG_GSTAT (i : Nat) : Nat := 0x40100C + i * 0x40
def AG_GSTAT_shed (i : Nat) : FRef := ⟨AG_GSTAT i, 13, 1⟩
def AG_GSTAT_incomplete (i : Nat) : FRef := ⟨AG_GSTAT i, 12, 1⟩
def AG_GSTAT_void (i : Nat) : FRef := ⟨AG_GSTAT i, 11, 1⟩
def AG_GSTAT_short (i : Nat) : FRef := ⟨AG_GSTAT i, 10, 1⟩
def AG_GSTAT_taint (i : Nat) : FRef := ⟨AG_GSTAT i, 9, 1⟩
def AG_GSTAT_limit (i : Nat) : FRef := ⟨AG_GSTAT i, 8, 1⟩
def AG_GSTAT_reading (i : Nat) : FRef := ⟨AG_GSTAT i, 4, 2⟩
def AG_GSTAT_warea (i : Nat) : FRef := ⟨AG_GSTAT i, 3, 1⟩
def AG_GSTAT_state (i : Nat) : FRef := ⟨AG_GSTAT i, 0, 3⟩
def AG_GSTART (i : Nat) : Nat := 0x401010 + i * 0x40
def AG_GBASE0 (i : Nat) : Nat := 0x401018 + i * 0x40
def AG_GBASE1 (i : Nat) : Nat := 0x401020 + i * 0x40
def AG_GSIZE (i : Nat) : Nat := 0x401028 + i * 0x40
def AG_GINT (i : Nat) : Nat := 0x401030 + i * 0x40
def AG_GREC (i : Nat) : Nat := 0x401038 + i * 0x40
def AG_GREC_shed (i : Nat) : FRef := ⟨AG_GREC i, 16, 16⟩
def AG_GREC_rounds (i : Nat) : FRef := ⟨AG_GREC i, 0, 16⟩
def AG_GTILE (i j : Nat) : Nat := 0x410000 + i * 0x200 + j * 0x4
def AG_GTILE_tiles (i j : Nat) : FRef := ⟨AG_GTILE i j, 0, 32⟩
def AG_PMJ0 (i : Nat) : Nat := 0x420000 + i * 0x8
def AG_PMJ0_col (i : Nat) : FRef := ⟨AG_PMJ0 i, 12, 12⟩
def AG_PMJ0_row (i : Nat) : FRef := ⟨AG_PMJ0 i, 0, 12⟩
def AG_PMJ1 (i : Nat) : Nat := 0x420004 + i * 0x8
def AG_PMJ1_value (i : Nat) : FRef := ⟨AG_PMJ1 i, 0, 16⟩
def BA_CTL : Nat := 0x500000
def BA_CTL_halt : FRef := ⟨BA_CTL, 1, 1⟩
def BA_CTL_en : FRef := ⟨BA_CTL, 0, 1⟩
def BA_STATUS : Nat := 0x500004
def BA_STATUS_cfg_reason : FRef := ⟨BA_STATUS, 20, 4⟩
def BA_STATUS_cfg_err : FRef := ⟨BA_STATUS, 19, 1⟩
def BA_STATUS_overrun : FRef := ⟨BA_STATUS, 18, 1⟩
def BA_STATUS_incomplete : FRef := ⟨BA_STATUS, 17, 1⟩
def BA_STATUS_limit : FRef := ⟨BA_STATUS, 16, 1⟩
def BA_STATUS_clip : FRef := ⟨BA_STATUS, 15, 1⟩
def BA_STATUS_unv_b : FRef := ⟨BA_STATUS, 14, 1⟩
def BA_STATUS_unv_a : FRef := ⟨BA_STATUS, 13, 1⟩
def BA_STATUS_dig_busy : FRef := ⟨BA_STATUS, 12, 1⟩
def BA_STATUS_busy_b : FRef := ⟨BA_STATUS, 11, 1⟩
def BA_STATUS_busy_a : FRef := ⟨BA_STATUS, 10, 1⟩
def BA_STATUS_w_pending : FRef := ⟨BA_STATUS, 9, 1⟩
def BA_STATUS_b_pending : FRef := ⟨BA_STATUS, 8, 1⟩
def BA_STATUS_active_set : FRef := ⟨BA_STATUS, 7, 1⟩
def BA_STATUS_state : FRef := ⟨BA_STATUS, 0, 2⟩
def BA_CFG : Nat := 0x500008
def BA_CFG_vpri : FRef := ⟨BA_CFG, 24, 2⟩
def BA_CFG_g_alloc : FRef := ⟨BA_CFG, 16, 6⟩
def BA_CFG_bp_cnt : FRef := ⟨BA_CFG, 0, 12⟩
def BA_CH : Nat := 0x50000C
def BA_CH_ch_num : FRef := ⟨BA_CH, 16, 13⟩
def BA_CH_ch_lo : FRef := ⟨BA_CH, 0, 12⟩
def BA_SCHED : Nat := 0x500010
def BA_SCHED_d : FRef := ⟨BA_SCHED, 8, 6⟩
def BA_SCHED_s_c : FRef := ⟨BA_SCHED, 0, 5⟩
def BA_VCH : Nat := 0x500014
def BA_VCH_vc_num : FRef := ⟨BA_VCH, 16, 13⟩
def BA_VCH_vc_lo : FRef := ⟨BA_VCH, 0, 12⟩
def BA_VPKT : Nat := 0x500018
def BA_VPKT_spc_log2 : FRef := ⟨BA_VPKT, 16, 4⟩
def BA_VPKT_c_pkt : FRef := ⟨BA_VPKT, 0, 13⟩
def BA_DPROF (i : Nat) : Nat := 0x500020 + i * 0x4
def BA_DPROF_dest (i : Nat) : FRef := ⟨BA_DPROF i, 24, 8⟩
def BA_DPROF_pri (i : Nat) : FRef := ⟨BA_DPROF i, 20, 2⟩
def BA_DPROF_rel (i : Nat) : FRef := ⟨BA_DPROF i, 16, 1⟩
def BA_DPROF_m (i : Nat) : FRef := ⟨BA_DPROF i, 8, 4⟩
def BA_DPROF_n (i : Nat) : FRef := ⟨BA_DPROF i, 0, 5⟩
def BA_BCMT : Nat := 0x500028
def BA_BCMT_tgt : FRef := ⟨BA_BCMT, 1, 1⟩
def BA_BCMT_commit : FRef := ⟨BA_BCMT, 0, 1⟩
def BA_ERR : Nat := 0x50002C
def BA_ERR_err : FRef := ⟨BA_ERR, 31, 1⟩
def BA_ERR_reason : FRef := ⟨BA_ERR, 24, 4⟩
def BA_ERR_index : FRef := ⟨BA_ERR, 0, 11⟩
def BA_WSEL : Nat := 0x500030
def BA_WSEL_confirm_b : FRef := ⟨BA_WSEL, 5, 1⟩
def BA_WSEL_confirm_a : FRef := ⟨BA_WSEL, 4, 1⟩
def BA_WSEL_tgt : FRef := ⟨BA_WSEL, 2, 1⟩
def BA_WSEL_sel : FRef := ⟨BA_WSEL, 1, 1⟩
def BA_WSEL_commit : FRef := ⟨BA_WSEL, 0, 1⟩
def BA_WBASE_A : Nat := 0x500040
def BA_WBASE_B : Nat := 0x500048
def BA_WSIZE : Nat := 0x500050
def BA_WTGT : Nat := 0x500058
def BA_WBND : Nat := 0x500060
def BA_WDIG_A : Nat := 0x500068
def BA_WDIG_B : Nat := 0x500070
def BA_STGBASE : Nat := 0x500078
def BA_STGSIZE : Nat := 0x500080
def BA_BTGT : Nat := 0x500088
def BA_BBND : Nat := 0x500090
def BA_ROUND : Nat := 0x500098
def BA_RATE : Nat := 0x5000A0
def BA_RATE_min_round : FRef := ⟨BA_RATE, 16, 16⟩
def BA_RATE_last_set : FRef := ⟨BA_RATE, 0, 16⟩
def BA_CNT (i : Nat) : Nat := 0x500100 + i * 0x4
def BA_CNT_count (i : Nat) : FRef := ⟨BA_CNT i, 0, 32⟩
def BA_TASK (i j : Nat) : Nat := 0x501000 + i * 0x100 + j * 0x4
def BA_TASK_en (i j : Nat) : FRef := ⟨BA_TASK i j, 16, 1⟩
def BA_TASK_coff (i j : Nat) : FRef := ⟨BA_TASK i j, 12, 4⟩
def BA_TASK_blk (i j : Nat) : FRef := ⟨BA_TASK i j, 8, 3⟩
def BA_TASK_grp (i j : Nat) : FRef := ⟨BA_TASK i j, 0, 6⟩
def BA_BEAM (i : Nat) : Nat := 0x502000 + i * 0x4
def BA_BEAM_blkmask (i : Nat) : FRef := ⟨BA_BEAM i, 8, 8⟩
def BA_BEAM_fp_y (i : Nat) : FRef := ⟨BA_BEAM i, 5, 1⟩
def BA_BEAM_fp_x (i : Nat) : FRef := ⟨BA_BEAM i, 4, 1⟩
def BA_BEAM_prof (i : Nat) : FRef := ⟨BA_BEAM i, 3, 1⟩
def BA_BEAM_det (i : Nat) : FRef := ⟨BA_BEAM i, 1, 2⟩
def BA_VLSTA (i : Nat) : Nat := 0x504000 + i * 0x8
def BA_VLSTA_j (i : Nat) : FRef := ⟨BA_VLSTA i, 16, 12⟩
def BA_VLSTA_asp (i : Nat) : FRef := ⟨BA_VLSTA i, 12, 4⟩
def BA_VLSTA_ulp (i : Nat) : FRef := ⟨BA_VLSTA i, 8, 4⟩
def BA_VLSTA_asp_port (i : Nat) : FRef := ⟨BA_VLSTA i, 6, 2⟩
def BA_VLSTA_to_asp (i : Nat) : FRef := ⟨BA_VLSTA i, 5, 1⟩
def BA_VLSTA_to_eth (i : Nat) : FRef := ⟨BA_VLSTA i, 4, 1⟩
def BA_VLSTA_to_ulp (i : Nat) : FRef := ⟨BA_VLSTA i, 3, 1⟩
def BA_VLSTA_fmt (i : Nat) : FRef := ⟨BA_VLSTA i, 1, 2⟩
def BA_VLSTA_en (i : Nat) : FRef := ⟨BA_VLSTA i, 0, 1⟩
def BA_VLSTB (i : Nat) : Nat := 0x504004 + i * 0x8
def BA_VLSTB_eth_dest (i : Nat) : FRef := ⟨BA_VLSTB i, 24, 8⟩
def BA_VLSTB_shift (i : Nat) : FRef := ⟨BA_VLSTB i, 16, 5⟩
def BA_VLSTB_scale (i : Nat) : FRef := ⟨BA_VLSTB i, 0, 16⟩
def OT_CTL : Nat := 0x600000
def OT_CTL_ttl : FRef := ⟨OT_CTL, 8, 8⟩
def OT_CTL_en : FRef := ⟨OT_CTL, 0, 1⟩
def OT_STATUS : Nat := 0x600004
def OT_STATUS_cfg_reason : FRef := ⟨OT_STATUS, 8, 4⟩
def OT_STATUS_cfg_err : FRef := ⟨OT_STATUS, 7, 1⟩
def OT_STATUS_trunc : FRef := ⟨OT_STATUS, 6, 1⟩
def OT_STATUS_endgame : FRef := ⟨OT_STATUS, 1, 1⟩
def OT_STATUS_active : FRef := ⟨OT_STATUS, 0, 1⟩
def OT_TPW : Nat := 0x600010
def OT_TPW_en : FRef := ⟨OT_TPW, 8, 1⟩
def OT_TPW_route : FRef := ⟨OT_TPW, 0, 8⟩
def OT_FLG : Nat := 0x600014
def OT_FLG_plane : FRef := ⟨OT_FLG, 9, 1⟩
def OT_FLG_en : FRef := ⟨OT_FLG, 8, 1⟩
def OT_FLG_route : FRef := ⟨OT_FLG, 0, 8⟩
def OT_HLT : Nat := 0x600018
def OT_HLT_period : FRef := ⟨OT_HLT, 24, 8⟩
def OT_HLT_en : FRef := ⟨OT_HLT, 8, 1⟩
def OT_HLT_route : FRef := ⟨OT_HLT, 0, 8⟩
def OT_TIM : Nat := 0x60001C
def OT_TIM_period : FRef := ⟨OT_TIM, 10, 1⟩
def OT_TIM_en : FRef := ⟨OT_TIM, 8, 1⟩
def OT_TIM_route : FRef := ⟨OT_TIM, 0, 8⟩
def OT_CAPA : Nat := 0x600020
def OT_CAPA_en : FRef := ⟨OT_CAPA, 31, 1⟩
def OT_CAPA_a_num : FRef := ⟨OT_CAPA, 12, 13⟩
def OT_CAPA_a_lo : FRef := ⟨OT_CAPA, 0, 12⟩
def OT_CAPB : Nat := 0x600024
def OT_CAPB_c_num : FRef := ⟨OT_CAPB, 16, 13⟩
def OT_CAPB_route : FRef := ⟨OT_CAPB, 8, 8⟩
def OT_CAPC : Nat := 0x600028
def OT_CAPC_c_lo : FRef := ⟨OT_CAPC, 0, 12⟩
def OT_CNT (i : Nat) : Nat := 0x600100 + i * 0x4
def OT_CNT_count (i : Nat) : FRef := ⟨OT_CNT i, 0, 32⟩
def OT_SEQ (i : Nat) : Nat := 0x601000 + i * 0x8
def OT_RTCTL (i : Nat) : Nat := 0x602000 + i * 0x10
def OT_RTCTL_rate (i : Nat) : FRef := ⟨OT_RTCTL i, 16, 16⟩
def OT_RTCTL_e0 (i : Nat) : FRef := ⟨OT_RTCTL i, 8, 8⟩
def OT_RTCTL_ports (i : Nat) : FRef := ⟨OT_RTCTL i, 0, 8⟩
def OT_RTGNT (i : Nat) : Nat := 0x602004 + i * 0x10
def OT_RTGNT_g (i : Nat) : FRef := ⟨OT_RTGNT i, 0, 32⟩
def OT_RTSTAT (i : Nat) : Nat := 0x602008 + i * 0x10
def OT_RTSTAT_in_use (i : Nat) : FRef := ⟨OT_RTSTAT i, 17, 1⟩
def OT_RTSTAT_over (i : Nat) : FRef := ⟨OT_RTSTAT i, 16, 1⟩
def OT_RTSTAT_s (i : Nat) : FRef := ⟨OT_RTSTAT i, 0, 16⟩
def OT_EPCTL (i : Nat) : Nat := 0x604000 + i * 0x20
def OT_EPCTL_pcp (i : Nat) : FRef := ⟨OT_EPCTL i, 29, 3⟩
def OT_EPCTL_vid (i : Nat) : FRef := ⟨OT_EPCTL i, 17, 12⟩
def OT_EPCTL_vlan (i : Nat) : FRef := ⟨OT_EPCTL i, 16, 1⟩
def OT_EPCTL_dscp (i : Nat) : FRef := ⟨OT_EPCTL i, 10, 6⟩
def OT_EPCTL_jumbo (i : Nat) : FRef := ⟨OT_EPCTL i, 3, 1⟩
def OT_EPCTL_v6 (i : Nat) : FRef := ⟨OT_EPCTL i, 2, 1⟩
def OT_EPCTL_en (i : Nat) : FRef := ⟨OT_EPCTL i, 0, 1⟩
def OT_EPPORT (i : Nat) : Nat := 0x604004 + i * 0x20
def OT_EPPORT_src (i : Nat) : FRef := ⟨OT_EPPORT i, 16, 16⟩
def OT_EPPORT_dst (i : Nat) : FRef := ⟨OT_EPPORT i, 0, 16⟩
def OT_EPMAC (i : Nat) : Nat := 0x604008 + i * 0x20
def OT_EPIP (i j : Nat) : Nat := 0x604010 + i * 0x20 + j * 0x4
def OT_EPIP_ip (i j : Nat) : FRef := ⟨OT_EPIP i j, 0, 32⟩
def ET_PORTCTL (i : Nat) : Nat := 0x701000 + i * 0x100
def ET_PORTCTL_rx_inv (i : Nat) : FRef := ⟨ET_PORTCTL i, 8, 4⟩
def ET_PORTCTL_tx_inv (i : Nat) : FRef := ⟨ET_PORTCTL i, 4, 4⟩
def ET_PORTCTL_speed (i : Nat) : FRef := ⟨ET_PORTCTL i, 1, 2⟩
def ET_PORTCTL_en (i : Nat) : FRef := ⟨ET_PORTCTL i, 0, 1⟩
def ET_PORTSTAT (i : Nat) : Nat := 0x701004 + i * 0x100
def ET_PORTSTAT_went_down (i : Nat) : FRef := ⟨ET_PORTSTAT i, 8, 1⟩
def ET_PORTSTAT_lane_lock (i : Nat) : FRef := ⟨ET_PORTSTAT i, 4, 4⟩
def ET_PORTSTAT_state (i : Nat) : FRef := ⟨ET_PORTSTAT i, 0, 2⟩
def ET_MAC (i : Nat) : Nat := 0x701008 + i * 0x100
def ET_IP4 (i : Nat) : Nat := 0x701010 + i * 0x100
def ET_IP4_ip (i : Nat) : FRef := ⟨ET_IP4 i, 0, 32⟩
def ET_IP6 (i j : Nat) : Nat := 0x701014 + i * 0x100 + j * 0x4
def ET_IP6_ip (i j : Nat) : FRef := ⟨ET_IP6 i j, 0, 32⟩
def ET_CNT (i j : Nat) : Nat := 0x701040 + i * 0x100 + j * 0x4
def ET_CNT_count (i j : Nat) : FRef := ⟨ET_CNT i j, 0, 32⟩
def ET_PTPCTL : Nat := 0x708000
def ET_PTPCTL_prio2 : FRef := ⟨ET_PTPCTL, 24, 8⟩
def ET_PTPCTL_prio1 : FRef := ⟨ET_PTPCTL, 16, 8⟩
def ET_PTPCTL_domain : FRef := ⟨ET_PTPCTL, 8, 8⟩
def ET_PTPCTL_bc : FRef := ⟨ET_PTPCTL, 2, 1⟩
def ET_PTPCTL_profile : FRef := ⟨ET_PTPCTL, 1, 1⟩
def ET_PTPCTL_en : FRef := ⟨ET_PTPCTL, 0, 1⟩
def ET_PTPCLK : Nat := 0x708004
def ET_PTPCLK_tsrc : FRef := ⟨ET_PTPCLK, 24, 8⟩
def ET_PTPCLK_acc : FRef := ⟨ET_PTPCLK, 16, 8⟩
def ET_PTPCLK_var : FRef := ⟨ET_PTPCLK, 0, 16⟩
def ET_PTPUTC : Nat := 0x708008
def ET_PTPUTC_valid : FRef := ⟨ET_PTPUTC, 16, 1⟩
def ET_PTPUTC_off : FRef := ⟨ET_PTPUTC, 0, 16⟩
def ET_PTPID : Nat := 0x708010
def ET_PTPPCTL (i : Nat) : Nat := 0x708100 + i * 0x40
def ET_PTPPCTL_ann_tmo (i : Nat) : FRef := ⟨ET_PTPPCTL i, 28, 4⟩
def ET_PTPPCTL_log_ann (i : Nat) : FRef := ⟨ET_PTPPCTL i, 24, 4⟩
def ET_PTPPCTL_log_sync (i : Nat) : FRef := ⟨ET_PTPPCTL i, 20, 4⟩
def ET_PTPPCTL_log_dreq (i : Nat) : FRef := ⟨ET_PTPPCTL i, 16, 4⟩
def ET_PTPPCTL_transport (i : Nat) : FRef := ⟨ET_PTPPCTL i, 6, 2⟩
def ET_PTPPCTL_one_step (i : Nat) : FRef := ⟨ET_PTPPCTL i, 5, 1⟩
def ET_PTPPCTL_role (i : Nat) : FRef := ⟨ET_PTPPCTL i, 2, 2⟩
def ET_PTPPCTL_en (i : Nat) : FRef := ⟨ET_PTPPCTL i, 0, 1⟩
def ET_PTPPSTAT (i : Nat) : Nat := 0x708104 + i * 0x40
def ET_PTPPSTAT_state (i : Nat) : FRef := ⟨ET_PTPPSTAT i, 0, 4⟩
def ET_PTPASYM (i : Nat) : Nat := 0x708108 + i * 0x40
def ET_PTPASYM_v (i : Nat) : FRef := ⟨ET_PTPASYM i, 0, 32⟩
def ET_PTPTXADJ (i : Nat) : Nat := 0x70810C + i * 0x40
def ET_PTPTXADJ_v (i : Nat) : FRef := ⟨ET_PTPTXADJ i, 0, 32⟩
def ET_PTPRXADJ (i : Nat) : Nat := 0x708110 + i * 0x40
def ET_PTPRXADJ_v (i : Nat) : FRef := ⟨ET_PTPRXADJ i, 0, 32⟩
def ET_PTPOFF (i : Nat) : Nat := 0x708118 + i * 0x40
def ET_PTPMPD (i : Nat) : Nat := 0x708120 + i * 0x40
def ET_PTPCNT (i j : Nat) : Nat := 0x708128 + i * 0x40 + j * 0x4
def ET_PTPCNT_count (i j : Nat) : FRef := ⟨ET_PTPCNT i j, 0, 32⟩
def IG_CTL : Nat := 0x800000
def IG_CTL_rr_max : FRef := ⟨IG_CTL, 8, 8⟩
def IG_CTL_rot_en : FRef := ⟨IG_CTL, 2, 1⟩
def IG_CTL_fclr : FRef := ⟨IG_CTL, 1, 1⟩
def IG_CTL_maint : FRef := ⟨IG_CTL, 0, 1⟩
def IG_STATUS : Nat := 0x800004
def IG_STATUS_rr_limit : FRef := ⟨IG_STATUS, 7, 1⟩
def IG_STATUS_maint_ref : FRef := ⟨IG_STATUS, 6, 1⟩
def IG_STATUS_test_busy : FRef := ⟨IG_STATUS, 5, 1⟩
def IG_STATUS_seq_act : FRef := ⟨IG_STATUS, 4, 1⟩
def IG_STATUS_hstate : FRef := ⟨IG_STATUS, 0, 3⟩
def IG_TESTREQ : Nat := 0x800008
def IG_TESTREQ_unit : FRef := ⟨IG_TESTREQ, 8, 8⟩
def IG_TESTREQ_op : FRef := ⟨IG_TESTREQ, 0, 4⟩
def IG_TESTRES : Nat := 0x80000C
def IG_TESTRES_result : FRef := ⟨IG_TESTRES, 0, 4⟩
def IG_LAST : Nat := 0x800010
def IG_LAST_last_hstate : FRef := ⟨IG_LAST, 0, 3⟩
def IG_FIX : Nat := 0x800020
def IG_FIX_kind : FRef := ⟨IG_FIX, 30, 2⟩
def IG_FIX_pfile : FRef := ⟨IG_FIX, 17, 11⟩
def IG_FIX_prank : FRef := ⟨IG_FIX, 7, 10⟩
def IG_FIXQ : Nat := 0x800024
def IG_FIXQ_q : FRef := ⟨IG_FIXQ, 0, 17⟩
def IG_FIXRND : Nat := 0x800028
def IG_LINE (i : Nat) : Nat := 0x800100 + i * 0x4
def IG_LINE_degraded (i : Nat) : FRef := ⟨IG_LINE i, 17, 1⟩
def IG_LINE_test_fail (i : Nat) : FRef := ⟨IG_LINE i, 16, 1⟩
def IG_LINE_suspect (i : Nat) : FRef := ⟨IG_LINE i, 8, 7⟩
def IG_LINE_streak (i : Nat) : FRef := ⟨IG_LINE i, 0, 2⟩
def IG_CNT (i : Nat) : Nat := 0x800200 + i * 0x4
def IG_CNT_count (i : Nat) : FRef := ⟨IG_CNT i, 0, 32⟩
def CS_CTL : Nat := 0x900000
def CS_CTL_prep : FRef := ⟨CS_CTL, 3, 1⟩
def CS_CTL_aes_sb : FRef := ⟨CS_CTL, 2, 1⟩
def CS_CTL_take : FRef := ⟨CS_CTL, 1, 1⟩
def CS_CTL_en : FRef := ⟨CS_CTL, 0, 1⟩
def CS_CMD : Nat := 0x900004
def CS_CMD_op : FRef := ⟨CS_CMD, 0, 3⟩
def CS_STATUS : Nat := 0x900008
def CS_STATUS_jreason : FRef := ⟨CS_STATUS, 16, 4⟩
def CS_STATUS_cmd_err : FRef := ⟨CS_STATUS, 11, 1⟩
def CS_STATUS_dig_mis : FRef := ⟨CS_STATUS, 10, 1⟩
def CS_STATUS_fenced_ev : FRef := ⟨CS_STATUS, 9, 1⟩
def CS_STATUS_took_ev : FRef := ⟨CS_STATUS, 8, 1⟩
def CS_STATUS_pins_ok : FRef := ⟨CS_STATUS, 7, 1⟩
def CS_STATUS_cst_up : FRef := ⟨CS_STATUS, 6, 1⟩
def CS_STATUS_sole : FRef := ⟨CS_STATUS, 5, 1⟩
def CS_STATUS_prep : FRef := ⟨CS_STATUS, 4, 1⟩
def CS_STATUS_state : FRef := ⟨CS_STATUS, 0, 3⟩
def CS_LEASE : Nat := 0x90000C
def CS_LEASE_guard_us : FRef := ⟨CS_LEASE, 16, 8⟩
def CS_LEASE_lease_us : FRef := ⟨CS_LEASE, 0, 16⟩
def CS_CLAIM : Nat := 0x900010
def CS_HCLAIM : Nat := 0x900018
def CS_PEERSN : Nat := 0x900020
def CS_HOTGT : Nat := 0x900028
def CS_WMAGE : Nat := 0x900030
def CS_WMAGE_age_us : FRef := ⟨CS_WMAGE, 0, 16⟩
def CS_CNT (i : Nat) : Nat := 0x900100 + i * 0x4
def CS_CNT_count (i : Nat) : FRef := ⟨CS_CNT i, 0, 32⟩
def CS_PORTCTL : Nat := 0x901000
def CS_PORTCTL_rx_inv : FRef := ⟨CS_PORTCTL, 12, 4⟩
def CS_PORTCTL_auto_retrain : FRef := ⟨CS_PORTCTL, 3, 1⟩
def CS_PORTCTL_en : FRef := ⟨CS_PORTCTL, 0, 1⟩
def CS_PORTSTAT : Nat := 0x901004
def CS_PORTSTAT_deskew_tmo : FRef := ⟨CS_PORTSTAT, 26, 1⟩
def CS_PORTSTAT_went_down : FRef := ⟨CS_PORTSTAT, 19, 1⟩
def CS_PORTSTAT_train_timeout : FRef := ⟨CS_PORTSTAT, 18, 1⟩
def CS_PORTSTAT_skew_err : FRef := ⟨CS_PORTSTAT, 17, 1⟩
def CS_PORTSTAT_up_rx_status : FRef := ⟨CS_PORTSTAT, 16, 1⟩
def CS_PORTSTAT_skew : FRef := ⟨CS_PORTSTAT, 8, 8⟩
def CS_PORTSTAT_lane_lock : FRef := ⟨CS_PORTSTAT, 4, 4⟩
def CS_PORTSTAT_state : FRef := ⟨CS_PORTSTAT, 0, 3⟩
def CS_CELLCNT (i : Nat) : Nat := 0x901040 + i * 0x4
def CS_CELLCNT_count (i : Nat) : FRef := ⟨CS_CELLCNT i, 0, 32⟩
def REF_CTL : Nat := 0xA00000
def REF_CTL_msel : FRef := ⟨REF_CTL, 8, 4⟩
def REF_CTL_hold : FRef := ⟨REF_CTL, 2, 1⟩
def REF_CTL_revert : FRef := ⟨REF_CTL, 1, 1⟩
def REF_CTL_manual : FRef := ⟨REF_CTL, 0, 1⟩
def REF_STATUS : Nat := 0xA00004
def REF_STATUS_xo_lost : FRef := ⟨REF_STATUS, 19, 1⟩
def REF_STATUS_drift_ev : FRef := ⟨REF_STATUS, 18, 1⟩
def REF_STATUS_disagree : FRef := ⟨REF_STATUS, 17, 1⟩
def REF_STATUS_disagree_ev : FRef := ⟨REF_STATUS, 16, 1⟩
def REF_STATUS_cmd_err : FRef := ⟨REF_STATUS, 15, 1⟩
def REF_STATUS_switch_ev : FRef := ⟨REF_STATUS, 14, 1⟩
def REF_STATUS_freerun : FRef := ⟨REF_STATUS, 13, 1⟩
def REF_STATUS_slewing : FRef := ⟨REF_STATUS, 12, 1⟩
def REF_STATUS_locked : FRef := ⟨REF_STATUS, 11, 1⟩
def REF_STATUS_tq : FRef := ⟨REF_STATUS, 4, 4⟩
def REF_STATUS_sel : FRef := ⟨REF_STATUS, 0, 4⟩
def REF_XOWIN : Nat := 0xA00008
def REF_XOWIN_win_ppm : FRef := ⟨REF_XOWIN, 0, 8⟩
def REF_XCMP : Nat := 0xA0000C
def REF_XCMP_thr : FRef := ⟨REF_XCMP, 12, 10⟩
def REF_XCMP_win_s : FRef := ⟨REF_XCMP, 0, 12⟩
def REF_XCMP2 : Nat := 0xA00010
def REF_XCMP2_nl_win_s : FRef := ⟨REF_XCMP2, 0, 16⟩
def REF_SLEW : Nat := 0xA00014
def REF_SLEW_lock_ns : FRef := ⟨REF_SLEW, 16, 10⟩
def REF_SLEW_rate : FRef := ⟨REF_SLEW, 0, 10⟩
def REF_REVERT : Nat := 0xA00018
def REF_REVERT_wait_s : FRef := ⟨REF_REVERT, 0, 16⟩
def REF_CMD : Nat := 0xA0001C
def REF_CMD_clr : FRef := ⟨REF_CMD, 0, 8⟩
def REF_DCO : Nat := 0xA00020
def REF_CFG (i : Nat) : Nat := 0xA00100 + i * 0x20
def REF_CFG_qual_s (i : Nat) : FRef := ⟨REF_CFG i, 16, 8⟩
def REF_CFG_port (i : Nat) : FRef := ⟨REF_CFG i, 12, 4⟩
def REF_CFG_fnom (i : Nat) : FRef := ⟨REF_CFG i, 10, 2⟩
def REF_CFG_pri (i : Nat) : FRef := ⟨REF_CFG i, 5, 3⟩
def REF_CFG_en (i : Nat) : FRef := ⟨REF_CFG i, 0, 1⟩
def REF_BW (i : Nat) : Nat := 0xA00104 + i * 0x20
def REF_BW_bw (i : Nat) : FRef := ⟨REF_BW i, 0, 24⟩
def REF_TOL (i : Nat) : Nat := 0xA00108 + i * 0x20
def REF_TOL_tol_ns (i : Nat) : FRef := ⟨REF_TOL i, 0, 20⟩
def REF_STAT (i : Nat) : Nat := 0xA0010C + i * 0x20
def REF_STAT_reason (i : Nat) : FRef := ⟨REF_STAT i, 16, 4⟩
def REF_STAT_streak (i : Nat) : FRef := ⟨REF_STAT i, 8, 2⟩
def REF_STAT_state (i : Nat) : FRef := ⟨REF_STAT i, 0, 3⟩
def REF_FOFF (i : Nat) : Nat := 0xA00110 + i * 0x20
def REF_POFF (i : Nat) : Nat := 0xA00118 + i * 0x20
def REF_ANOM (i : Nat) : Nat := 0xA00200 + i * 0x4
def REF_ANOM_count (i : Nat) : FRef := ⟨REF_ANOM i, 0, 32⟩
def REF_DISQ (i : Nat) : Nat := 0xA00220 + i * 0x4
def REF_DISQ_count (i : Nat) : FRef := ⟨REF_DISQ i, 0, 32⟩
def REF_CNT (i : Nat) : Nat := 0xA00240 + i * 0x4
def REF_CNT_count (i : Nat) : FRef := ⟨REF_CNT i, 0, 32⟩
def REF_LDLY (i : Nat) : Nat := 0xA00280 + i * 0x4
def REF_LDLY_dly_ps (i : Nat) : FRef := ⟨REF_LDLY i, 0, 32⟩
def TB_CTL : Nat := 0xB00000
def TB_CTL_auto_step : FRef := ⟨TB_CTL, 0, 1⟩
def TB_STATUS : Nat := 0xB00004
def TB_STATUS_epoch : FRef := ⟨TB_STATUS, 16, 16⟩
def TB_STATUS_cnt_err : FRef := ⟨TB_STATUS, 9, 1⟩
def TB_STATUS_disc_ev : FRef := ⟨TB_STATUS, 8, 1⟩
def TB_STATUS_disc : FRef := ⟨TB_STATUS, 7, 1⟩
def TB_STATUS_step_ev : FRef := ⟨TB_STATUS, 6, 1⟩
def TB_STATUS_step_pend : FRef := ⟨TB_STATUS, 5, 1⟩
def TB_STATUS_trim_act : FRef := ⟨TB_STATUS, 4, 1⟩
def TB_STATUS_sce_pend : FRef := ⟨TB_STATUS, 3, 1⟩
def TB_STATUS_sce_valid : FRef := ⟨TB_STATUS, 2, 1⟩
def TB_STATUS_lost : FRef := ⟨TB_STATUS, 1, 1⟩
def TB_STATUS_set : FRef := ⟨TB_STATUS, 0, 1⟩
def TB_STEPTHR : Nat := 0xB00008
def TB_STEPTHR_thr_us : FRef := ⟨TB_STEPTHR, 0, 20⟩
def TB_TRIM : Nat := 0xB0000C
def TB_TRIM_tau_s : FRef := ⟨TB_TRIM, 24, 8⟩
def TB_TRIM_max : FRef := ⟨TB_TRIM, 0, 20⟩
def TB_NOWS : Nat := 0xB00010
def TB_NOWNS : Nat := 0xB00018
def TB_NOWNS_v : FRef := ⟨TB_NOWNS, 0, 32⟩
def TB_NOWFR : Nat := 0xB00020
def TB_INC : Nat := 0xB00028
def TB_STEPCTL : Nat := 0xB00030
def TB_STEPCTL_result : FRef := ⟨TB_STEPCTL, 8, 4⟩
def TB_STEPCTL_tgt : FRef := ⟨TB_STEPCTL, 4, 1⟩
def TB_STEPCTL_mode : FRef := ⟨TB_STEPCTL, 2, 2⟩
def TB_STEPCTL_go : FRef := ⟨TB_STEPCTL, 0, 1⟩
def TB_STEPNS : Nat := 0xB00034
def TB_STEPNS_ns : FRef := ⟨TB_STEPNS, 0, 30⟩
def TB_STEPS : Nat := 0xB00038
def TB_STEPTGT : Nat := 0xB00048
def TB_STEPBND : Nat := 0xB00050
def TB_SCECTL : Nat := 0xB00060
def TB_SCECTL_result : FRef := ⟨TB_SCECTL, 12, 4⟩
def TB_SCECTL_port : FRef := ⟨TB_SCECTL, 8, 4⟩
def TB_SCECTL_follow : FRef := ⟨TB_SCECTL, 4, 1⟩
def TB_SCECTL_src : FRef := ⟨TB_SCECTL, 3, 1⟩
def TB_SCECTL_tgt : FRef := ⟨TB_SCECTL, 2, 1⟩
def TB_SCECTL_inval : FRef := ⟨TB_SCECTL, 1, 1⟩
def TB_SCECTL_commit : FRef := ⟨TB_SCECTL, 0, 1⟩
def TB_SCESC : Nat := 0xB00068
def TB_SCETS : Nat := 0xB00070
def TB_SCETNS : Nat := 0xB00078
def TB_SCETNS_ns : FRef := ⟨TB_SCETNS, 0, 30⟩
def TB_SCEPER : Nat := 0xB00080
def TB_SCETGT : Nat := 0xB00088
def TB_SCEBND : Nat := 0xB00090
def TB_SCEF_SC : Nat := 0xB000A0
def TB_SCEF_TS : Nat := 0xB000A8
def TB_SCEF_TNS : Nat := 0xB000B0
def TB_SCEF_TNS_v : FRef := ⟨TB_SCEF_TNS, 0, 30⟩
def TB_SCEF_PER : Nat := 0xB000B8
def TB_TRGCTL (i : Nat) : Nat := 0xB01000 + i * 0x40
def TB_TRGCTL_out (i : Nat) : FRef := ⟨TB_TRGCTL i, 8, 5⟩
def TB_TRGCTL_align (i : Nat) : FRef := ⟨TB_TRGCTL i, 5, 1⟩
def TB_TRGCTL_periodic (i : Nat) : FRef := ⟨TB_TRGCTL i, 4, 1⟩
def TB_TRGCTL_fired (i : Nat) : FRef := ⟨TB_TRGCTL i, 2, 1⟩
def TB_TRGCTL_late (i : Nat) : FRef := ⟨TB_TRGCTL i, 1, 1⟩
def TB_TRGCTL_arm (i : Nat) : FRef := ⟨TB_TRGCTL i, 0, 1⟩
def TB_TRGS (i : Nat) : Nat := 0xB01008 + i * 0x40
def TB_TRGNS (i : Nat) : Nat := 0xB01010 + i * 0x40
def TB_TRGNS_ns (i : Nat) : FRef := ⟨TB_TRGNS i, 0, 30⟩
def TB_TRGFR (i : Nat) : Nat := 0xB01014 + i * 0x40
def TB_TRGFR_fr (i : Nat) : FRef := ⟨TB_TRGFR i, 0, 7⟩
def TB_TRGPERS (i : Nat) : Nat := 0xB01018 + i * 0x40
def TB_TRGPERS_s (i : Nat) : FRef := ⟨TB_TRGPERS i, 0, 16⟩
def TB_TRGPERNS (i : Nat) : Nat := 0xB0101C + i * 0x40
def TB_TRGPERNS_ns (i : Nat) : FRef := ⟨TB_TRGPERNS i, 0, 30⟩
def TB_TRGWID (i : Nat) : Nat := 0xB01020 + i * 0x40
def TB_TRGWID_ns (i : Nat) : FRef := ⟨TB_TRGWID i, 0, 30⟩
def TB_TRGSKIP (i : Nat) : Nat := 0xB01024 + i * 0x40
def TB_TRGSKIP_count (i : Nat) : FRef := ⟨TB_TRGSKIP i, 0, 32⟩
def TB_OUTDLY (i : Nat) : Nat := 0xB01400 + i * 0x4
def TB_OUTDLY_inv (i : Nat) : FRef := ⟨TB_OUTDLY i, 10, 1⟩
def TB_OUTDLY_dly (i : Nat) : FRef := ⟨TB_OUTDLY i, 0, 10⟩
def TB_CAPCTL (i : Nat) : Nat := 0xB02000 + i * 0x20
def TB_CAPCTL_pin (i : Nat) : FRef := ⟨TB_CAPCTL i, 4, 4⟩
def TB_CAPCTL_edge (i : Nat) : FRef := ⟨TB_CAPCTL i, 2, 2⟩
def TB_CAPCTL_src (i : Nat) : FRef := ⟨TB_CAPCTL i, 1, 1⟩
def TB_CAPSTAT (i : Nat) : Nat := 0xB02004 + i * 0x20
def TB_CAPSTAT_ovf (i : Nat) : FRef := ⟨TB_CAPSTAT i, 8, 1⟩
def TB_CAPSTAT_fill (i : Nat) : FRef := ⟨TB_CAPSTAT i, 0, 5⟩
def TB_CAPS (i : Nat) : Nat := 0xB02008 + i * 0x20
def TB_CAPNS (i : Nat) : Nat := 0xB02010 + i * 0x20
def TB_CAPNS_ns (i : Nat) : FRef := ⟨TB_CAPNS i, 0, 30⟩
def TB_CAPX (i : Nat) : Nat := 0xB02014 + i * 0x20
def TB_CAPX_epoch (i : Nat) : FRef := ⟨TB_CAPX i, 16, 16⟩
def TB_CAPX_edge (i : Nat) : FRef := ⟨TB_CAPX i, 15, 1⟩
def TB_CAPX_ps (i : Nat) : FRef := ⟨TB_CAPX i, 0, 10⟩
def TB_CNT (i : Nat) : Nat := 0xB03000 + i * 0x4
def TB_CNT_count (i : Nat) : FRef := ⟨TB_CNT i, 0, 32⟩
def CK_CTL : Nat := 0xC00000
def CK_CTL_eg_rounds : FRef := ⟨CK_CTL, 8, 8⟩
def CK_CTL_tgt : FRef := ⟨CK_CTL, 3, 1⟩
def CK_CTL_eg_clr : FRef := ⟨CK_CTL, 2, 1⟩
def CK_CTL_eg_req : FRef := ⟨CK_CTL, 1, 1⟩
def CK_STATUS : Nat := 0xC00004
def CK_STATUS_eg_cause : FRef := ⟨CK_STATUS, 16, 5⟩
def CK_STATUS_endgame : FRef := ⟨CK_STATUS, 15, 1⟩
def CK_STATUS_cmd_err : FRef := ⟨CK_STATUS, 14, 1⟩
def CK_STATUS_therm : FRef := ⟨CK_STATUS, 13, 1⟩
def CK_STATUS_raised : FRef := ⟨CK_STATUS, 12, 1⟩
def CK_STATUS_pace_fail : FRef := ⟨CK_STATUS, 11, 1⟩
def CK_STATUS_eg_pending : FRef := ⟨CK_STATUS, 10, 1⟩
def CK_STATUS_level : FRef := ⟨CK_STATUS, 7, 3⟩
def CK_STATUS_vpoint : FRef := ⟨CK_STATUS, 0, 4⟩
def CK_CAP : Nat := 0xC00008
def CK_CAP_cap : FRef := ⟨CK_CAP, 0, 13⟩
def CK_THERM : Nat := 0xC0000C
def CK_THERM_rec_w : FRef := ⟨CK_THERM, 24, 8⟩
def CK_THERM_step_w : FRef := ⟨CK_THERM, 16, 8⟩
def CK_THERM_thr_c : FRef := ⟨CK_THERM, 0, 7⟩
def CK_CAPEFF : Nat := 0xC00010
def CK_CAPEFF_p_eff : FRef := ⟨CK_CAPEFF, 0, 13⟩
def CK_PACE : Nat := 0xC00014
def CK_PACE_pace : FRef := ⟨CK_PACE, 0, 16⟩
def CK_ROUND : Nat := 0xC00018
def CK_EGTGT : Nat := 0xC00020
def CK_PLAN (i : Nat) : Nat := 0xC00040 + i * 0x4
def CK_PLAN_bytes (i : Nat) : FRef := ⟨CK_PLAN i, 0, 32⟩
def CK_VPT (i : Nat) : Nat := 0xC00100 + i * 0x4
def CK_VPT_rate (i : Nat) : FRef := ⟨CK_VPT i, 16, 16⟩
def CK_VPT_mv (i : Nat) : FRef := ⟨CK_VPT i, 0, 16⟩
def CK_COEF (i : Nat) : Nat := 0xC00200 + i * 0x4
def CK_COEF_v (i : Nat) : FRef := ⟨CK_COEF i, 0, 32⟩
def CK_E (i : Nat) : Nat := 0xC00300 + i * 0x8
def CK_RAIL (i : Nat) : Nat := 0xC00380 + i * 0x8
def CK_TRIM (i : Nat) : Nat := 0xC003C0 + i * 0x4
def CK_TRIM_f (i : Nat) : FRef := ⟨CK_TRIM i, 0, 16⟩
def CK_KRATE : Nat := 0xC003D0
def CK_KRATE_k : FRef := ⟨CK_KRATE, 0, 16⟩
def CK_CNT (i : Nat) : Nat := 0xC00400 + i * 0x4
def CK_CNT_count (i : Nat) : FRef := ⟨CK_CNT i, 0, 32⟩
def HM_CTL : Nat := 0xD00000
def HM_CTL_trng_retry : FRef := ⟨HM_CTL, 24, 1⟩
def HM_CTL_scrub_h : FRef := ⟨HM_CTL, 16, 8⟩
def HM_CTL_pp_max : FRef := ⟨HM_CTL, 12, 4⟩
def HM_CTL_nr_k : FRef := ⟨HM_CTL, 8, 4⟩
def HM_CTL_nr_en : FRef := ⟨HM_CTL, 1, 1⟩
def HM_CTL_scrub_en : FRef := ⟨HM_CTL, 0, 1⟩
def HM_STATUS : Nat := 0xD00004
def HM_STATUS_ue : FRef := ⟨HM_STATUS, 19, 1⟩
def HM_STATUS_ce : FRef := ⟨HM_STATUS, 18, 1⟩
def HM_STATUS_selfref : FRef := ⟨HM_STATUS, 17, 1⟩
def HM_STATUS_trng_fb : FRef := ⟨HM_STATUS, 16, 1⟩
def HM_STATUS_hot : FRef := ⟨HM_STATUS, 8, 8⟩
def HM_STATUS_present : FRef := ⟨HM_STATUS, 0, 8⟩
def HM_AGE0 : Nat := 0xD00008
def HM_AGE0_c2 : FRef := ⟨HM_AGE0, 16, 16⟩
def HM_AGE0_c1 : FRef := ⟨HM_AGE0, 0, 16⟩
def HM_AGE1 : Nat := 0xD0000C
def HM_AGE1_c4 : FRef := ⟨HM_AGE1, 16, 16⟩
def HM_AGE1_c3 : FRef := ⟨HM_AGE1, 0, 16⟩
def HM_AGE2 : Nat := 0xD00010
def HM_AGE2_c5 : FRef := ⟨HM_AGE2, 0, 16⟩
def HM_PROMO : Nat := 0xD00014
def HM_PROMO_budget : FRef := ⟨HM_PROMO, 0, 5⟩
def HM_TCTL : Nat := 0xD00018
def HM_TCTL_hold_ms : FRef := ⟨HM_TCTL, 16, 12⟩
def HM_TCTL_hyst_c : FRef := ⟨HM_TCTL, 12, 4⟩
def HM_TCTL_hot_c : FRef := ⟨HM_TCTL, 0, 7⟩
def HM_ERR : Nat := 0xD00020
def HM_ERR_valid : FRef := ⟨HM_ERR, 31, 1⟩
def HM_ERR_cls : FRef := ⟨HM_ERR, 28, 3⟩
def HM_ERR_stack : FRef := ⟨HM_ERR, 25, 3⟩
def HM_ERR_chan : FRef := ⟨HM_ERR, 20, 5⟩
def HM_ERR_pc : FRef := ⟨HM_ERR, 19, 1⟩
def HM_ERR_bank : FRef := ⟨HM_ERR, 14, 5⟩
def HM_ERR_col : FRef := ⟨HM_ERR, 6, 8⟩
def HM_ERRROW : Nat := 0xD00024
def HM_ERRROW_row : FRef := ⟨HM_ERRROW, 0, 32⟩
def HM_ERRRND : Nat := 0xD00028
def HM_STK (i : Nat) : Nat := 0xD01000 + i * 0x100
def HM_STK_spare_out (i : Nat) : FRef := ⟨HM_STK i, 22, 1⟩
def HM_STK_state (i : Nat) : FRef := ⟨HM_STK i, 19, 3⟩
def HM_STK_owed_max (i : Nat) : FRef := ⟨HM_STK i, 15, 4⟩
def HM_STK_hot (i : Nat) : FRef := ⟨HM_STK i, 11, 1⟩
def HM_STK_temp_c (i : Nat) : FRef := ⟨HM_STK i, 0, 8⟩
def HM_STKSP (i : Nat) : Nat := 0xD01004 + i * 0x100
def HM_STKSP_spares_used (i : Nat) : FRef := ⟨HM_STKSP i, 0, 8⟩
def HM_STKHW (i : Nat) : Nat := 0xD01008 + i * 0x100
def HM_STKHW_slot_hw (i : Nat) : FRef := ⟨HM_STKHW i, 0, 12⟩
def HM_CNT (i j : Nat) : Nat := 0xD01010 + i * 0x100 + j * 0x4
def HM_CNT_count (i j : Nat) : FRef := ⟨HM_CNT i j, 0, 32⟩
def XB_MATTR : Nat := 0xE00000
def XB_MATTR_sec : FRef := ⟨XB_MATTR, 0, 20⟩
def XB_MRST : Nat := 0xE00004
def XB_MRST_quiesced : FRef := ⟨XB_MRST, 0, 20⟩
def XB_CSRSEC : Nat := 0xE00008
def XB_CSRSEC_blk : FRef := ⟨XB_CSRSEC, 0, 22⟩
def XB_VIOL : Nat := 0xE00010
def XB_VIOL_valid : FRef := ⟨XB_VIOL, 31, 1⟩
def XB_VIOL_kind : FRef := ⟨XB_VIOL, 28, 3⟩
def XB_VIOL_master : FRef := ⟨XB_VIOL, 20, 5⟩
def XB_VIOL_target : FRef := ⟨XB_VIOL, 16, 3⟩
def XB_VIOL_write : FRef := ⟨XB_VIOL, 0, 1⟩
def XB_VIOLADR : Nat := 0xE00018
def XB_MBXDB : Nat := 0xE00020
def XB_MBXDB_slot : FRef := ⟨XB_MBXDB, 0, 4⟩
def XB_MBXBUSY : Nat := 0xE00024
def XB_MBXBUSY_busy : FRef := ⟨XB_MBXBUSY, 0, 16⟩
def XB_CNT (i : Nat) : Nat := 0xE00100 + i * 0x4
def XB_CNT_count (i : Nat) : FRef := ⟨XB_CNT i, 0, 32⟩
def XB_DMACTL (i : Nat) : Nat := 0xE01000 + i * 0x40
def XB_DMACTL_sec (i : Nat) : FRef := ⟨XB_DMACTL i, 3, 1⟩
def XB_DMACTL_abort (i : Nat) : FRef := ⟨XB_DMACTL i, 2, 1⟩
def XB_DMACTL_go (i : Nat) : FRef := ⟨XB_DMACTL i, 1, 1⟩
def XB_DMASTAT (i : Nat) : Nat := 0xE01004 + i * 0x40
def XB_DMASTAT_err (i : Nat) : FRef := ⟨XB_DMASTAT i, 4, 4⟩
def XB_DMASTAT_pend (i : Nat) : FRef := ⟨XB_DMASTAT i, 3, 1⟩
def XB_DMASTAT_state (i : Nat) : FRef := ⟨XB_DMASTAT i, 0, 3⟩
def XB_DMADESC (i : Nat) : Nat := 0xE01008 + i * 0x40
def XB_DMACUR (i : Nat) : Nat := 0xE01010 + i * 0x40
def XB_DMADONE (i : Nat) : Nat := 0xE01018 + i * 0x40
def XB_DMADONE_count (i : Nat) : FRef := ⟨XB_DMADONE i, 0, 32⟩
def EV_CTL : Nat := 0xF00000
def EV_CTL_en : FRef := ⟨EV_CTL, 0, 1⟩
def EV_STATUS : Nat := 0xF00004
def EV_STATUS_overrun : FRef := ⟨EV_STATUS, 2, 1⟩
def EV_STATUS_sec_drop : FRef := ⟨EV_STATUS, 1, 1⟩
def EV_STATUS_loop : FRef := ⟨EV_STATUS, 0, 1⟩
def EV_GRPEN : Nat := 0xF00008
def EV_GRPEN_en : FRef := ⟨EV_GRPEN, 0, 16⟩
def EV_SWGATE : Nat := 0xF0000C
def EV_SWGATE_g : FRef := ⟨EV_SWGATE, 0, 8⟩
def EV_GATES : Nat := 0xF00010
def EV_GATES_g : FRef := ⟨EV_GATES, 0, 32⟩
def EV_HOSTEV : Nat := 0xF00014
def EV_HOSTEV_fire : FRef := ⟨EV_HOSTEV, 0, 16⟩
def EV_TSEC (i : Nat) : Nat := 0xF00020 + i * 0x4
def EV_TSEC_sec (i : Nat) : FRef := ⟨EV_TSEC i, 0, 32⟩
def EV_CNT (i : Nat) : Nat := 0xF00100 + i * 0x4
def EV_CNT_count (i : Nat) : FRef := ⟨EV_CNT i, 0, 32⟩
def EV_CHCFG (i : Nat) : Nat := 0xF01000 + i * 0x10
def EV_CHCFG_en (i : Nat) : FRef := ⟨EV_CHCFG i, 31, 1⟩
def EV_CHCFG_dkind (i : Nat) : FRef := ⟨EV_CHCFG i, 29, 2⟩
def EV_CHCFG_dst (i : Nat) : FRef := ⟨EV_CHCFG i, 22, 7⟩
def EV_CHCFG_src (i : Nat) : FRef := ⟨EV_CHCFG i, 14, 8⟩
def EV_CHCFG_gen (i : Nat) : FRef := ⟨EV_CHCFG i, 13, 1⟩
def EV_CHCFG_ginv (i : Nat) : FRef := ⟨EV_CHCFG i, 12, 1⟩
def EV_CHCFG_gsel (i : Nat) : FRef := ⟨EV_CHCFG i, 7, 5⟩
def EV_CHOWN (i : Nat) : Nat := 0xF01004 + i * 0x10
def EV_CHOWN_sec (i : Nat) : FRef := ⟨EV_CHOWN i, 7, 1⟩
def EV_CHOWN_cls (i : Nat) : FRef := ⟨EV_CHOWN i, 4, 2⟩
def EV_CHOWN_asp (i : Nat) : FRef := ⟨EV_CHOWN i, 0, 4⟩
def EV_CHSTAT (i : Nat) : Nat := 0xF01008 + i * 0x10
def EV_CHSTAT_sec_drop (i : Nat) : FRef := ⟨EV_CHSTAT i, 1, 1⟩
def EV_CHSTAT_loop (i : Nat) : FRef := ⟨EV_CHSTAT i, 0, 1⟩
def EV_CHCNT (i : Nat) : Nat := 0xF0100C + i * 0x10
def EV_CHCNT_count (i : Nat) : FRef := ⟨EV_CHCNT i, 0, 32⟩
def EV_TSTAT (i : Nat) : Nat := 0xF02000 + i * 0x4
def EV_TSTAT_overrun (i : Nat) : FRef := ⟨EV_TSTAT i, 7, 1⟩
def EV_TSTAT_kind (i : Nat) : FRef := ⟨EV_TSTAT i, 6, 1⟩
def EV_TSTAT_pending (i : Nat) : FRef := ⟨EV_TSTAT i, 0, 2⟩
def EV_IO (i : Nat) : Nat := 0xF03000 + i * 0x4
def EV_IO_width (i : Nat) : FRef := ⟨EV_IO i, 20, 10⟩
def EV_IO_filt (i : Nat) : FRef := ⟨EV_IO i, 12, 4⟩
def EV_IO_omode (i : Nat) : FRef := ⟨EV_IO i, 8, 2⟩
def EV_IO_edge (i : Nat) : FRef := ⟨EV_IO i, 4, 2⟩
def EV_IO_dir (i : Nat) : FRef := ⟨EV_IO i, 0, 1⟩
def SP_FAULT : Nat := 0x1000000
def SP_FAULT_fault : FRef := ⟨SP_FAULT, 0, 16⟩
def SP_HINT : Nat := 0x1000004
def SP_HINT_hint : FRef := ⟨SP_HINT, 0, 16⟩
def SP_CTL (i : Nat) : Nat := 0x1001000 + i * 0x100
def SP_CTL_step (i : Nat) : FRef := ⟨SP_CTL i, 3, 1⟩
def SP_CTL_rst (i : Nat) : FRef := ⟨SP_CTL i, 2, 1⟩
def SP_CTL_run (i : Nat) : FRef := ⟨SP_CTL i, 0, 1⟩
def SP_STAT (i : Nat) : Nat := 0x1001004 + i * 0x100
def SP_STAT_fcode (i : Nat) : FRef := ⟨SP_STAT i, 16, 4⟩
def SP_STAT_cfg_ref (i : Nat) : FRef := ⟨SP_STAT i, 12, 1⟩
def SP_STAT_eg_resume (i : Nat) : FRef := ⟨SP_STAT i, 11, 1⟩
def SP_STAT_pwr_ref (i : Nat) : FRef := ⟨SP_STAT i, 10, 1⟩
def SP_STAT_in_drop (i : Nat) : FRef := ⟨SP_STAT i, 9, 1⟩
def SP_STAT_ce (i : Nat) : FRef := ⟨SP_STAT i, 8, 1⟩
def SP_STAT_bank (i : Nat) : FRef := ⟨SP_STAT i, 3, 1⟩
def SP_STAT_state (i : Nat) : FRef := ⟨SP_STAT i, 0, 3⟩
def SP_PC (i : Nat) : Nat := 0x1001008 + i * 0x100
def SP_PC_pc (i : Nat) : FRef := ⟨SP_PC i, 0, 15⟩
def SP_HMSG (i : Nat) : Nat := 0x100100C + i * 0x100
def SP_HMSG_msg (i : Nat) : FRef := ⟨SP_HMSG i, 0, 32⟩
def SP_XWIN (i : Nat) : Nat := 0x1001010 + i * 0x100
def SP_INCFGA (i j : Nat) : Nat := 0x1001020 + i * 0x100 + j * 0x8
def SP_INCFGA_thr (i j : Nat) : FRef := ⟨SP_INCFGA i j, 16, 13⟩
def SP_INCFGA_hdr (i j : Nat) : FRef := ⟨SP_INCFGA i j, 15, 1⟩
def SP_INCFGA_src (i j : Nat) : FRef := ⟨SP_INCFGA i j, 0, 2⟩
def SP_INCFGB (i j : Nat) : Nat := 0x1001024 + i * 0x100 + j * 0x8
def SP_INCFGB_chcnt (i j : Nat) : FRef := ⟨SP_INCFGB i j, 16, 13⟩
def SP_INCFGB_chsel (i j : Nat) : FRef := ⟨SP_INCFGB i j, 0, 12⟩
def SP_OUTCFG (i j : Nat) : Nat := 0x1001040 + i * 0x100 + j * 0x4
def SP_OUTCFG_thr (i j : Nat) : FRef := ⟨SP_OUTCFG i j, 16, 11⟩
def SP_OUTCFG_idx (i j : Nat) : FRef := ⟨SP_OUTCFG i j, 8, 4⟩
def SP_OUTCFG_port (i j : Nat) : FRef := ⟨SP_OUTCFG i j, 6, 2⟩
def SP_OUTCFG_dst (i j : Nat) : FRef := ⟨SP_OUTCFG i j, 0, 2⟩
def SP_INSTAT (i j : Nat) : Nat := 0x1001050 + i * 0x100 + j * 0x4
def SP_INSTAT_fill (i j : Nat) : FRef := ⟨SP_INSTAT i j, 0, 13⟩
def SP_OUTSTAT (i j : Nat) : Nat := 0x1001060 + i * 0x100 + j * 0x4
def SP_OUTSTAT_fill (i j : Nat) : FRef := ⟨SP_OUTSTAT i j, 0, 11⟩
def SP_INHDR (i j k : Nat) : Nat := 0x1001080 + i * 0x100 + j * 0x10 + k * 0x4
def SP_INHDR_word (i j k : Nat) : FRef := ⟨SP_INHDR i j k, 0, 32⟩
def SP_CNT (i j : Nat) : Nat := 0x10010C0 + i * 0x100 + j * 0x4
def SP_CNT_count (i j : Nat) : FRef := ⟨SP_CNT i j, 0, 32⟩
def SP_WIN (i j : Nat) : Nat := 0x1008000 + i * 0x200 + j * 0x4
def SP_WIN_v (i j : Nat) : FRef := ⟨SP_WIN i j, 0, 32⟩
def AU_CTL : Nat := 0x1100000
def AU_CTL_clk : FRef := ⟨AU_CTL, 2, 1⟩
def AU_CTL_fs : FRef := ⟨AU_CTL, 1, 1⟩
def AU_CTL_en : FRef := ⟨AU_CTL, 0, 1⟩
def AU_STATUS : Nat := 0x1100004
def AU_STATUS_cfg_ref : FRef := ⟨AU_STATUS, 7, 1⟩
def AU_STATUS_overrun : FRef := ⟨AU_STATUS, 6, 1⟩
def AU_STATUS_underrun : FRef := ⟨AU_STATUS, 5, 1⟩
def AU_STATUS_ref_lost : FRef := ⟨AU_STATUS, 4, 1⟩
def AU_STATUS_ref_refused : FRef := ⟨AU_STATUS, 3, 1⟩
def AU_STATUS_silenced : FRef := ⟨AU_STATUS, 2, 1⟩
def AU_STATUS_ref_state : FRef := ⟨AU_STATUS, 0, 2⟩
def AU_REFCTL : Nat := 0x1100008
def AU_REFCTL_range_ppm : FRef := ⟨AU_REFCTL, 0, 8⟩
def AU_REFOFF : Nat := 0x110000C
def AU_REFOFF_off : FRef := ⟨AU_REFOFF, 0, 32⟩
def AU_ORIG : Nat := 0x1100010
def AU_ORIG_orig : FRef := ⟨AU_ORIG, 0, 32⟩
def AU_SAOFF : Nat := 0x1100014
def AU_SAOFF_off : FRef := ⟨AU_SAOFF, 0, 32⟩
def AU_OUTCTL (i : Nat) : Nat := 0x1100100 + i * 0x4
def AU_OUTCTL_en (i : Nat) : FRef := ⟨AU_OUTCTL i, 0, 1⟩
def AU_CHCFG (i : Nat) : Nat := 0x1100200 + i * 0x10
def AU_CHCFG_tgt (i : Nat) : FRef := ⟨AU_CHCFG i, 16, 15⟩
def AU_CHCFG_fade (i : Nat) : FRef := ⟨AU_CHCFG i, 4, 10⟩
def AU_CHCFG_src (i : Nat) : FRef := ⟨AU_CHCFG i, 0, 2⟩
def AU_CHLO (i : Nat) : Nat := 0x1100204 + i * 0x10
def AU_CHLO_lo (i : Nat) : FRef := ⟨AU_CHLO i, 0, 15⟩
def AU_CHSTAT (i : Nat) : Nat := 0x1100208 + i * 0x10
def AU_CHSTAT_overrun (i : Nat) : FRef := ⟨AU_CHSTAT i, 21, 1⟩
def AU_CHSTAT_underrun (i : Nat) : FRef := ⟨AU_CHSTAT i, 20, 1⟩
def AU_CHSTAT_state (i : Nat) : FRef := ⟨AU_CHSTAT i, 16, 2⟩
def AU_CHSTAT_fill (i : Nat) : FRef := ⟨AU_CHSTAT i, 0, 15⟩
def AU_CNT (i j : Nat) : Nat := 0x1100400 + i * 0x8 + j * 0x4
def AU_CNT_count (i j : Nat) : FRef := ⟨AU_CNT i j, 0, 32⟩
def CF_STATUS : Nat := 0x1200000
def CF_STATUS_result : FRef := ⟨CF_STATUS, 16, 4⟩
def CF_STATUS_src_slot : FRef := ⟨CF_STATUS, 12, 2⟩
def CF_STATUS_rl_kind : FRef := ⟨CF_STATUS, 8, 4⟩
def CF_STATUS_rl_cancel : FRef := ⟨CF_STATUS, 7, 1⟩
def CF_STATUS_log_warn : FRef := ⟨CF_STATUS, 6, 1⟩
def CF_STATUS_wr_held : FRef := ⟨CF_STATUS, 5, 1⟩
def CF_STATUS_rl_fail : FRef := ⟨CF_STATUS, 4, 1⟩
def CF_STATUS_rl_pending : FRef := ⟨CF_STATUS, 3, 1⟩
def CF_STATUS_cfg_state : FRef := ⟨CF_STATUS, 0, 3⟩
def CF_EPOCH : Nat := 0x1200004
def CF_EPOCH_epoch : FRef := ⟨CF_EPOCH, 0, 32⟩
def CF_RLBND : Nat := 0x1200008
def CF_KEYS : Nat := 0x1200010
def CF_KEYS_prog : FRef := ⟨CF_KEYS, 4, 4⟩
def CF_KEYS_revoked : FRef := ⟨CF_KEYS, 0, 4⟩
def CF_CFGHASH (i : Nat) : Nat := 0x1200040 + i * 0x4
def CF_CFGHASH_bytes (i : Nat) : FRef := ⟨CF_CFGHASH i, 0, 32⟩
def CF_SLOT (i : Nat) : Nat := 0x1200100 + i * 0x10
def CF_SLOT_key_id (i : Nat) : FRef := ⟨CF_SLOT i, 8, 4⟩
def CF_SLOT_in_use (i : Nat) : FRef := ⟨CF_SLOT i, 7, 1⟩
def CF_SLOT_ckind (i : Nat) : FRef := ⟨CF_SLOT i, 6, 1⟩
def CF_SLOT_state (i : Nat) : FRef := ⟨CF_SLOT i, 0, 3⟩
def CF_SLOTEP (i : Nat) : Nat := 0x1200104 + i * 0x10
def CF_SLOTEP_epoch (i : Nat) : FRef := ⟨CF_SLOTEP i, 0, 32⟩
def CF_SLOTWR (i : Nat) : Nat := 0x1200108 + i * 0x10
def CF_SLOTWR_writes (i : Nat) : FRef := ⟨CF_SLOTWR i, 0, 32⟩
def CF_SLOTLEN (i : Nat) : Nat := 0x120010C + i * 0x10
def CF_SLOTLEN_len_kib (i : Nat) : FRef := ⟨CF_SLOTLEN i, 0, 32⟩
def CF_LOG0 : Nat := 0x1200200
def CF_LOG0_head : FRef := ⟨CF_LOG0, 16, 16⟩
def CF_LOG0_active : FRef := ⟨CF_LOG0, 0, 10⟩
def CF_LOG1 : Nat := 0x1200204
def CF_LOG1_seq : FRef := ⟨CF_LOG1, 0, 32⟩
def CF_CNT (i : Nat) : Nat := 0x1200400 + i * 0x4
def CF_CNT_count (i : Nat) : FRef := ⟨CF_CNT i, 0, 32⟩
def TOP_ID : Nat := 0x0
def TOP_ID_silicon : FRef := ⟨TOP_ID, 24, 8⟩
def TOP_ID_stacks : FRef := ⟨TOP_ID, 8, 4⟩
def TOP_ID_lp : FRef := ⟨TOP_ID, 7, 1⟩
def TOP_ID_ba : FRef := ⟨TOP_ID, 6, 1⟩
def TOP_ID_code : FRef := ⟨TOP_ID, 0, 2⟩
def TOP_FW : Nat := 0x4
def TOP_FW_ver : FRef := ⟨TOP_FW, 0, 32⟩
def TOP_SERIAL : Nat := 0x8
def MG_STATUS : Nat := 0x1300000
def MG_STATUS_ctx_lost : FRef := ⟨MG_STATUS, 11, 1⟩
def MG_STATUS_pm_unv : FRef := ⟨MG_STATUS, 10, 1⟩
def MG_STATUS_rst_ref : FRef := ⟨MG_STATUS, 9, 1⟩
def MG_STATUS_adjourned : FRef := ⟨MG_STATUS, 8, 1⟩
def MG_STATUS_noconf : FRef := ⟨MG_STATUS, 7, 1⟩
def MG_STATUS_fw_fail : FRef := ⟨MG_STATUS, 6, 1⟩
def MG_STATUS_xo_wait : FRef := ⟨MG_STATUS, 5, 1⟩
def MG_STATUS_ready : FRef := ⟨MG_STATUS, 4, 1⟩
def MG_STATUS_step : FRef := ⟨MG_STATUS, 0, 4⟩
def MG_CTL : Nat := 0x1300004
def MG_CTL_pm_confirm : FRef := ⟨MG_CTL, 1, 1⟩
def MG_CTL_wd_en : FRef := ⟨MG_CTL, 0, 1⟩
def MG_RRST : Nat := 0x1300008
def MG_RRST_rst : FRef := ⟨MG_RRST, 0, 7⟩
def MG_WDOG : Nat := 0x130000C
def MG_WDOG_kick : FRef := ⟨MG_WDOG, 16, 8⟩
def MG_WDOG_period_ms : FRef := ⟨MG_WDOG, 0, 16⟩
def MG_RSTCAUSE : Nat := 0x1300010
def MG_RSTCAUSE_wake : FRef := ⟨MG_RSTCAUSE, 8, 3⟩
def MG_RSTCAUSE_shutdown : FRef := ⟨MG_RSTCAUSE, 4, 1⟩
def MG_RSTCAUSE_arb : FRef := ⟨MG_RSTCAUSE, 3, 1⟩
def MG_RSTCAUSE_mbx : FRef := ⟨MG_RSTCAUSE, 2, 1⟩
def MG_RSTCAUSE_reset_n : FRef := ⟨MG_RSTCAUSE, 1, 1⟩
def MG_RSTCAUSE_por : FRef := ⟨MG_RSTCAUSE, 0, 1⟩
def MG_BOOT : Nat := 0x1300014
def MG_BOOT_loaded : FRef := ⟨MG_BOOT, 8, 2⟩
def MG_BOOT_good : FRef := ⟨MG_BOOT, 4, 4⟩
def MG_BOOT_pref : FRef := ⟨MG_BOOT, 0, 2⟩
def MG_CTXBASE : Nat := 0x1300018
def MG_WAKETIME : Nat := 0x1300020
def MG_WAKETIME_en : FRef := ⟨MG_WAKETIME + 4, 31, 1⟩
def MG_OPENT : Nat := 0x1300028
def MG_OPENT_ms : FRef := ⟨MG_OPENT, 0, 32⟩
def PE_ID : Nat := 0x1400000
def PE_ID_did : FRef := ⟨PE_ID, 16, 16⟩
def PE_ID_vid : FRef := ⟨PE_ID, 0, 16⟩
def PE_LINK : Nat := 0x1400004
def PE_LINK_speed : FRef := ⟨PE_LINK, 6, 4⟩
def PE_LINK_width : FRef := ⟨PE_LINK, 0, 6⟩
def PE_WIN : Nat := 0x1400008
def PE_ERR : Nat := 0x1400010
def PE_ERR_win : FRef := ⟨PE_ERR, 2, 1⟩
def PE_ERR_ur : FRef := ⟨PE_ERR, 1, 1⟩
def PE_ERR_ca : FRef := ⟨PE_ERR, 0, 1⟩
def PE_CNT (i : Nat) : Nat := 0x1400100 + i * 0x4
def PE_CNT_count (i : Nat) : FRef := ⟨PE_CNT i, 0, 32⟩
def PE_MSIMAP (i : Nat) : Nat := 0x1401000 + i * 0x4
def PE_MSIMAP_en (i : Nat) : FRef := ⟨PE_MSIMAP i, 8, 1⟩
def PE_MSIMAP_vector (i : Nat) : FRef := ⟨PE_MSIMAP i, 0, 8⟩
def IO_STATUS : Nat := 0x1500000
def IO_STATUS_smb_ref : FRef := ⟨IO_STATUS, 7, 1⟩
def IO_STATUS_ovp_ev : FRef := ⟨IO_STATUS, 6, 1⟩
def IO_STATUS_vin_low_ev : FRef := ⟨IO_STATUS, 5, 1⟩
def IO_STATUS_vin_low : FRef := ⟨IO_STATUS, 4, 1⟩
def IO_STATUS_fault_n : FRef := ⟨IO_STATUS, 3, 1⟩
def IO_STATUS_boot_spi : FRef := ⟨IO_STATUS, 2, 1⟩
def IO_STATUS_smb_addr : FRef := ⟨IO_STATUS, 0, 2⟩
def IO_VIN : Nat := 0x1500004
def IO_VIN_iin : FRef := ⟨IO_VIN, 16, 16⟩
def IO_VIN_vin : FRef := ⟨IO_VIN, 0, 16⟩
def IO_TJ : Nat := 0x1500008
def IO_TJ_sensor : FRef := ⟨IO_TJ, 16, 6⟩
def IO_TJ_tj : FRef := ⟨IO_TJ, 0, 16⟩
def IO_RAIL (i : Nat) : Nat := 0x1500010 + i * 0x4
def IO_RAIL_amps (i : Nat) : FRef := ⟨IO_RAIL i, 16, 16⟩
def IO_RAIL_mv (i : Nat) : FRef := ⟨IO_RAIL i, 0, 16⟩
def IO_TERM : Nat := 0x1500020
def IO_TERM_pps_b : FRef := ⟨IO_TERM, 3, 1⟩
def IO_TERM_pps_a : FRef := ⟨IO_TERM, 2, 1⟩
def IO_TERM_ref_b : FRef := ⟨IO_TERM, 1, 1⟩
def IO_TERM_ref_a : FRef := ⟨IO_TERM, 0, 1⟩
def IO_DRV : Nat := 0x1500024
def IO_DRV_evio : FRef := ⟨IO_DRV, 0, 16⟩
def IO_TSENSE (i : Nat) : Nat := 0x1500100 + i * 0x4
def IO_TSENSE_tj (i : Nat) : FRef := ⟨IO_TSENSE i, 0, 16⟩

end R

end Sys2Proof.Machine
end

