-- ==== Sys2Proof/Machine/SMap.lean ====
section
/-! DEFINITION. Sparse maps: lists of (key, value) pairs with keys strictly rising and no value equal to what an
unlisted key reads as, so that equal maps are equal lists. Memories, register files and tables are held this way. -/

namespace Sys2Proof.Machine

/-- A sparse map from natural-number keys. -/
abbrev SMap (α : Type) := List (Nat × α)

/-- The value listed at a key. -/
def smapFind {α : Type} : SMap α → Nat → Option α
  | [], _ => none
  | (k, v) :: r, a => if k = a then some v else smapFind r a

/-- The map without a key. -/
def smapErase {α : Type} (m : SMap α) (a : Nat) : SMap α :=
  m.filter (fun p => p.1 ≠ a)

/-- Lists a value at its place in key order. -/
def smapInsert {α : Type} (a : Nat) (v : α) : SMap α → SMap α
  | [] => [(a, v)]
  | (k, w) :: r => if a < k then (a, v) :: (k, w) :: r else (k, w) :: smapInsert a v r

/-- Reads a key; `d` is what an unlisted key reads as. -/
def smapGet {α : Type} (d : α) (m : SMap α) (a : Nat) : α :=
  (smapFind m a).getD d

/-- Writes a key; `d` is what an unlisted key reads as, and writing it removes the entry. -/
def smapSet {α : Type} [DecidableEq α] (d : α) (m : SMap α) (a : Nat) (v : α) : SMap α :=
  if v = d then smapErase m a else smapInsert a v (smapErase m a)

/-- The canonical form: keys strictly rising, no entry equal to the default of its key. -/
def smapWf {α : Type} [DecidableEq α] (d : Nat → α) (m : SMap α) : Bool :=
  decide (m.Pairwise (fun p q => p.1 < q.1)) && m.all (fun p => p.2 ≠ d p.1)

/-- The listed keys. -/
def smapKeys {α : Type} (m : SMap α) : List Nat := m.map Prod.fst

/-- A memory of bytes in which nothing is listed reads 0. -/
abbrev Memory := List Host.Cell

/-- The canonical form of a memory of bytes: addresses strictly rising, no listed byte 0. -/
def Memory.wf (m : Memory) : Bool := smapWf (fun _ => (0 : Byte)) m

end Sys2Proof.Machine
end

