-- ==== Sys2Proof/Machine/State.lean ====
section
/-! DEFINITION. The state of the PK-8192: plain data, holding every piece of state the spec gives the machine.
Every register a host can read stands in `csr`; what the device holds besides its registers stands in one structure
for each chapter; `pending` is the queue of commands that wait. -/

namespace Sys2Proof.Machine

/-- Why a machine stops. No command of this block stops it: the spec gives every row of the table an effect, so no
meaning raises this; it is kept so that the interface has a type of faults. Safe. -/
inductive Fault where
  /-- Raised by no meaning. Safe. -/
  | none
  deriving DecidableEq, Repr

/-- Why a command has no meaning. -/
inductive Refusal where
  /-- Answered only by an arm of `exec` whose command is not modelled yet. Safe. -/
  | notModelled (mnemonic : String)
  deriving DecidableEq, Repr

/-- What the device sends out of the package, in the order sent. -/
inductive Emit where
  /-- A 256-byte cell on a lane of a port: ULP0–ULP15, or 16 for CST (R31, R32, R198). -/
  | cell (port lane : Nat) (bytes : Bytes)
  /-- Idle cells in consecutive cell slots of a port, with the seq they carry (R31, Table 2-4). -/
  | idle (port slots seq : Nat)
  /-- An Ethernet frame on a port, from the destination MAC to the end of the payload (R156). -/
  | frame (port : Nat) (bytes : Bytes)
  /-- A message-signalled interrupt on a vector, with the address and data its table entry holds (R309). -/
  | msi (vector addr data : Nat)
  /-- A PCIe memory write to host memory by the DMA engine (R304). -/
  | hostWrite (addr : Nat) (bytes : Bytes)
  /-- A level driven on a named output ball. -/
  | pin (name : String) (level : Bool)
  /-- One AES3 subframe pair of an output: 64 time slots as two 32-bit subframes (R351). -/
  | aes3 (out : Nat) (sub1 sub2 : BitVec 32)
  /-- The answer to an SMBus read (R401). -/
  | smbus (bytes : Bytes)
  /-- The SMBus target does not acknowledge the PEC byte (R401). -/
  | smbusNak
  /-- A read of the boot flash: its command, its first address and its bytes (R402). -/
  | spiRead (cmd addr bytes : Nat)
  /-- What a test register captures, to be shifted out (R403). -/
  | jtag (reg : String) (bits : Nat)
  deriving DecidableEq, Repr

/-- How the last access of a master was answered: the bytes read, and whether it was an error response (R301). -/
structure Resp where
  data : Bytes
  error : Bool
  deriving DecidableEq, Repr, Inhabited

/-- A master's pair latches (R18): the pair and high half its last _LO read latched, and the pair and low half its
last _LO write holds. -/
structure Latch where
  rd : Option (Nat × Word)
  wr : Option (Nat × Word)
  deriving DecidableEq, Repr, Inhabited

/-- The ordering codes of Table 0-1 (R1). -/
inductive Part where
  | x | c | m
  deriving DecidableEq, Repr, Inhabited

/-- One row of the health table (R197): its events since power-on reset and the last of them. -/
structure HealthRec where
  sev : Nat
  count : Nat
  round : Nat
  taiS : Nat
  taiNs : Nat
  detail : Nat
  /-- The count when the last HLT report was sent. -/
  reported : Nat
  deriving DecidableEq, Repr, Inhabited

/-- An SC-to-TAI mapping (R255): S_e, t_e in whole ns since the TAI epoch, p in 32.32 ns, and the time epoch that
numbers it. -/
structure ScMap where
  sE : Nat
  tE : Int
  p : Nat
  ep : Nat
  deriving DecidableEq, Repr, Inhabited

/-- The flag settings bound to a round (R70): AL_FLGEN, AL_SKLO, AL_SKHI, AL_SKCTL and AL_HMASKCTL. -/
structure FlagCfg where
  flgen : Nat
  sklo : Nat
  skhi : Nat
  mMin : Nat
  hmask : Nat
  deriving DecidableEq, Repr, Inhabited

/-- A control packet waiting to leave a port: a transmit slot, or the answer to an ECHO_REQ (R44, R45). -/
inductive CtlTx where
  | slot (s : Nat)
  | echo (cseq : Nat) (body : Bytes)
  deriving DecidableEq, Repr

/-- The last timing packet of a port whose tflags bit 0 or 1 was set, and its arrival (R43). -/
structure TimSnap where
  sc : Nat
  epS : Nat
  epNs : Nat
  arrS : Nat
  arrNs : Nat
  tflags : Nat
  deriving DecidableEq, Repr, Inhabited

/-- What a Uhlain port (ULP0–ULP15, or CST as index 16) holds besides its registers. -/
structure UlPort where
  /-- seq of the last counted cell received since UP, plus one; 0 = none yet. -/
  rxSeq : Nat
  /-- The packet in progress (R34). -/
  pkt : Option Bytes
  /-- Per lane, cells still to be discarded because an uncorrectable codeword overlaps them (R30). -/
  overlap : SMap Nat
  /-- Per lane, cells that wait for a cell of an earlier slot, oldest first: the cell and the counter at its arrival, or
  none for a discarded cell (R32). -/
  laneQ : SMap (List (Option (Bytes × Nat)))
  /-- The next cell slot to take from its lane (R32). -/
  rxSlot : Nat
  /-- Counted cells of whole packets that were lost since the last counted cell. -/
  rxSkip : Nat
  /-- Per lane, consecutive alignment cells missing or out of place (Table 2-4). -/
  alMiss : SMap Nat
  /-- Per lane, the arrival in ns, plus one, of the alignment cell found in DESKEW; 0 = not found. -/
  alAt : SMap Nat
  /-- seq of the last counted cell sent. -/
  txSeq : Nat
  /-- The next cell slot to send in (R32). -/
  txSlot : Nat
  /-- A claim packet is due because the claim number changed (R54). -/
  claimDue : Bool
  /-- The upstream's last advertised credit limit since UP (R44). -/
  upLimit : Option Nat
  /-- Control packets sent since UP, modulo 65,536. -/
  ctlSent : Nat
  /-- Control packets received with credit since UP, modulo 65,536. -/
  ctlRcvd : Nat
  /-- The credit limit the device advertises, modulo 65,536. -/
  rxLimit : Nat
  /-- Bit s: receive slot s holds a HOST_MSG. -/
  rxOcc : Nat
  /-- Control packets waiting to leave, oldest first. -/
  txQ : List CtlTx
  /-- cseq of the next control packet sent. -/
  cseq : Nat
  /-- The timing snapshot behind the latched registers. -/
  tim : TimSnap
  /-- The upstream's last status cell body. -/
  upStat : Bytes
  /-- Uncorrectable codewords received, wrapping (Table 2-10). -/
  cwUncorr : Nat
  deriving DecidableEq, Repr, Inhabited

/-- A sample packet that ingest has accepted and alignment has yet to place; `corrupt` when it failed check 10. -/
structure Accepted where
  port : Nat
  stream : Nat
  firstCh : Nat
  chCount : Nat
  fmt : Nat
  uflags : Nat
  sc : Nat
  spc : Nat
  corrupt : Bool
  /-- A packet repaired by the peer (R80). -/
  repair : Bool
  /-- The packet as received: header, payload and CRC; empty when corrupt. -/
  raw : Bytes
  /-- What the time counter stood at when its last cell arrived (R63). -/
  stamp : Nat
  deriving DecidableEq, Repr

/-- State of the Uhlain ingest beside its registers. -/
structure UlState where
  port : SMap UlPort
  /-- The stream tables by round: (first round, the table's words by CSR address), oldest first (R49). -/
  tables : List (Nat × SMap Word)
  /-- Per domain, the serial that set H_d, plus one; 0 = none (R46). -/
  domSer : SMap Nat
  /-- Accepted packets waiting for alignment, oldest first; they fill the ingest buffers (R51). -/
  alignQ : List Accepted
  deriving DecidableEq, Repr, Inhabited

/-- Statistics of one granule (R71): samples received, S1 and S2 for each polarisation, and the uflags seen. -/
structure GrStat where
  m : Nat
  s1x : Nat
  s1y : Nat
  s2x : Nat
  s2y : Nat
  deriving DecidableEq, Repr, Inhabited

/-- A total-power record (Table 3-4). -/
structure TpRec where
  x : Nat
  y : Nat
  n : Nat
  deriving DecidableEq, Repr, Inhabited

/-- A packet slot that has been marked in the arrival bitmap (R65): placed or corrupt, the samples and channels it
covers, and the packet as placed. -/
structure SlotRec where
  placed : Bool
  spc : Nat
  num : Nat
  raw : Bytes
  deriving DecidableEq, Repr, Inhabited

/-- A stream's channels in a granule slot that its sender's peer left pair-divergent (R80). -/
structure DivSlot where
  round : Nat
  stream : Nat
  c0 : Nat
  num : Nat
  slot : Nat
  deriving DecidableEq, Repr, Inhabited

/-- State of alignment beside its registers. -/
structure AlState where
  /-- P_a + 1 per stream; 0 = the stream has no P_a (R62). -/
  pa : SMap Nat
  /-- The alignment window in force in µs, less 500 (R67). -/
  winOff : Int
  /-- Flag settings by round: (first round, settings), oldest first (R70). -/
  flg : List (Nat × FlagCfg)
  /-- The first round whose slab is written since AL_CTL.en was last written 1, or since Endgame ended (R81). -/
  first : Nat
  /-- The next round ingest starts to write (R26). -/
  nextStart : Nat
  /-- Rounds being written and not sealed, oldest first. -/
  open_ : List Nat
  /-- Granule slots already closed, per open round; whether any granule has closed since the enable. -/
  closed : SMap Nat
  anyClosed : Bool
  /-- Rounds at or after `first` that have no slab (R77). -/
  noSlab : List Nat
  /-- Marks of packet slots, keyed by stream, first channel and SC (R65). -/
  marks : SMap (Option SlotRec)
  /-- Granule statistics, keyed by round, slot, stream and channel. -/
  stats : SMap GrStat
  /-- uflags seen by granule, keyed as `stats` (R69). -/
  uflags : SMap Nat
  /-- The two total-power banks, keyed by bank, stream and bin (R75). -/
  tp : SMap TpRec
  /-- Records in the flag log, per round (R74). -/
  flogN : SMap Nat
  /-- Records of the flag log that were not written, per round. -/
  flogLost : SMap Nat
  /-- The accepted freeze that awaits its substitution (R77). -/
  freeze : Option Nat
  /-- c_pkt_min and G_open for which the ring was sized at the last enable (R64). -/
  cPktMin : Nat
  gOpen : Nat
  /-- Spans whose arrival bitmaps have been sent to the peer (R80). -/
  sentSpan : Nat
  /-- Slots the peer reported as held, keyed as `marks` (R80). -/
  peerHas : SMap Bool
  /-- Granule slots left pair-divergent (R80). -/
  divs : List DivSlot
  /-- In Endgame: slabs resume with the first round that begins after exit. -/
  resume : Option Nat
  deriving DecidableEq, Repr, Inhabited

/-- A pairing table (R90): its entries as the words of BD_PTBL, and k. -/
structure PairTable where
  k : Nat
  entries : List Nat
  deriving DecidableEq, Repr, Inhabited

/-- The ply the feeders are issuing: samples `t0` up to a marker due at `stop` of pass `q` of a round. -/
structure CurPly where
  round : Nat
  q : Nat
  idx : Nat
  t0 : Nat
  stop : Nat
  rerun : Bool
  /-- Lines that a re-run takes out of service for itself (R189). -/
  aside : List Nat
  /-- Its pass is abandoned (R99): HBM, and the base of its slab, before ingest began to overwrite it. -/
  cut : Option (Memory × Nat)
  deriving DecidableEq, Repr, Inhabited

/-- How far a closed ply has come: its marker travels, it is held in the drain path, it is being written. -/
inductive PlyStage where
  | marker | held | writing
  deriving DecidableEq, Repr, Inhabited

/-- A closed ply: samples [t0, t1) of pass q of a round. -/
structure Ply where
  round : Nat
  q : Nat
  idx : Nat
  t0 : Nat
  t1 : Nat
  rerun : Bool
  stage : PlyStage
  /-- Its pass was abandoned while it was being issued (R99). -/
  cut : Bool
  /-- A drain requested through BD_CTL.drain or by a halt is complete with it (R96). -/
  asked : Bool
  /-- A feeder met a poisoned word while it was being issued (R290): it is invalid without re-run. -/
  poison : Bool
  /-- HBM as the feeders read it, and the base of its slab (R83, R99). -/
  img : Memory
  base : Nat
  /-- The map it ran under, and the lines that a re-run took out of service for itself (R103, R189). -/
  outR : List Nat
  outF : List Nat
  aside : List Nat
  deriving DecidableEq, Repr, Inhabited

/-- State of the Board beside its registers. -/
structure BdState where
  /-- Pairing tables by round: (first round, table), oldest first (R104). -/
  tables : List (Nat × PairTable)
  /-- Sealed rounds whose passes the Board has still to start, oldest first. -/
  queue : List Nat
  cur : Option CurPly
  /-- Next pass number to issue in the round in progress. -/
  nextQ : Nat
  /-- Drain requests accepted and waiting for their marker. -/
  drains : Nat
  halting : Bool
  /-- Plies to repeat, oldest first (R189), each with the physical ranks and files, by
  line and position, that its residuals named alone in their row or column. -/
  reruns : List (CurPly × List (Nat × Nat))
  /-- Re-runs started, by round, Board and Beam Array together (R189, R190). -/
  rrs : SMap Nat
  plies : List Ply
  /-- The round whose passes are being issued. -/
  round : Option Nat
  /-- Rounds started whose passes are not all drained or reported incomplete, oldest first. -/
  live : List Nat
  /-- A feeder has met a poisoned word in the ply being issued (R290). -/
  poison : Bool
  deriving DecidableEq, Repr, Inhabited

/-- One integration of a group, from its begin until its output is complete (R115, R119). -/
structure Integ where
  idx : Nat
  /-- First and last round. -/
  r0 : Nat
  r1 : Nat
  area : Nat
  /-- Pairs were marked invalid by incomplete passes (R128); a component or weight reached its limit (R127). -/
  incompl : Bool
  lim : Bool
  /-- At the close: rounds shed, and whether it closed before its natural end. -/
  shedN : Nat
  short : Bool
  /-- Its area was reused before it passed the release gate (R179); it has passed the gate. -/
  cut : Bool
  rel : Bool
  /-- It ends by ABORT and releases nothing. -/
  abort : Bool
  /-- At the close: the registers that define its group, with their values. -/
  defs : List (Nat × Word)
  /-- The fresh map: channel × 64 + 8 × block + block → written (R123). -/
  fresh : SMap Bool
  deriving DecidableEq, Repr, Inhabited

/-- State of an accumulation group beside its registers. -/
structure Grp where
  /-- Start round s bound at OPEN. -/
  s : Nat
  /-- Index of the next integration to begin. -/
  next : Nat
  /-- A bound CLOSE (false) or ABORT (true), with its round. -/
  cmd : Option (Bool × Nat)
  /-- Integrations begun and not yet closed, oldest first. -/
  ints : List Integ
  /-- Rounds shed and not yet counted by a close (R129). -/
  shed : List Nat
  deriving DecidableEq, Repr, Inhabited

/-- A taint: a pair (a, b) of group g, integration i (R113). -/
structure Taint where
  a : Nat
  b : Nat
  g : Nat
  i : Nat
  deriving DecidableEq, Repr

/-- State of accumulation beside its registers. -/
structure AgState where
  grp : SMap Grp
  /-- The Pair Map, keyed u × 4096 + v (R108). -/
  pm : SMap (BitVec 16)
  /-- Earlier Pair Maps: (b, map of the rounds before b), oldest first (R112). -/
  pmOld : List (Nat × SMap (BitVec 16))
  /-- The committed journal: its round and edits (u, v, value) (R111). -/
  pmj : Option (Nat × List (Nat × Nat × Nat))
  taints : List Taint
  /-- Closed integrations whose output is not complete: group and integration (R122, R113). -/
  closed : List (Nat × Integ)
  deriving DecidableEq, Repr, Inhabited

/-- Where a product body's bytes come from (R166): bytes fixed at release, a group's area (R169), or the held
capture of a round with its streams and channels (R175). -/
inductive Body where
  | lit (bs : Bytes)
  | vis (g : Nat) (i : Integ) (tainted : List (Nat × Nat)) (desc : Bytes)
  | cap (round aLo aNum cLo cNum : Nat)
  deriving DecidableEq, Repr, Inhabited

/-- A product instance that has passed the release gate (R163 to R168). -/
structure Inst where
  /-- Frame type of Table 7-4. -/
  typ : Nat
  stream : Nat
  inst : Nat
  scStart : Nat
  scEnd : Nat
  taiS : Nat
  taiNs : Nat
  ep : Nat
  cfg : Nat
  tq : Nat
  route : Nat
  /-- S_r when the instance was released (R158). -/
  seg : Nat
  bodyLen : Nat
  body : Body
  /-- Sequence number of its first segment; none while a joiner waits for it (R221). -/
  first : Option Nat
  /-- Segments sent or given up, by index. -/
  sent : SMap Bool
  /-- Digests reported to the peer (R214). -/
  digs : Nat
  /-- Pair-divergent (R214). -/
  div : Bool
  deriving DecidableEq, Repr, Inhabited

/-- Its body lies in a group's area of HBM, so that its output resumes after Adjournment (R130). -/
def Inst.inArea (x : Inst) : Bool :=
  match x.body with
  | .vis _ _ _ _ => true
  | _ => false

/-- State of the output beside its registers. -/
structure OtState where
  /-- Released instances with segments unsent, in release order. -/
  insts : List Inst
  /-- Reports sent since reset: HLT and TIM (Table 7-4). -/
  hltN : Nat
  timN : Nat
  /-- Captures streamed since reset. -/
  capN : Nat
  /-- The streams and channels of OT_CAPA to OT_CAPC taken when the freeze was accepted (R175). -/
  capSel : Nat × Nat × Nat × Nat
  /-- A TIM report is due because the time quality code or the time epoch changed (R177). -/
  timDue : Bool
  /-- TPW and FLG instances due at the gate (R178): 8 × round + frame type. -/
  sealed : List Nat
  /-- Per Ethernet port, one more than the route it served last among those without a rate, and one more than the route whose turn it
  is among those with one, 0 = none yet; the body bytes such a route may still send on the port, keyed port × 256 + route (R162). -/
  last : SMap Nat
  turn : SMap Nat
  deficit : SMap Rat
  /-- The instants of the last periodic HLT and TIM reports (R176, R177). -/
  hltAt : Nat
  timAt : Nat
  deriving DecidableEq, Repr, Inhabited

/-- One detected record being summed (R150): its values, the flag count, and whether a sum left int64. -/
structure DetRec where
  vals : List Int
  u : Nat
  sat : Bool
  /-- A contribution was lost to a faulty adder or a poisoned word: the record is invalid (R191, R290). -/
  inv : Bool
  deriving DecidableEq, Repr, Inhabited

/-- Part of a channel-set with no valid result (R152): round, first channel, channels, the first sample offset, and whether it
is invalid after its re-run rather than reported incomplete. -/
structure BadSet where
  round : Nat
  c0 : Nat
  num : Nat
  t0 : Nat
  inv : Bool
  deriving DecidableEq, Repr, Inhabited

/-- State of the Beam Array beside its registers. -/
structure BaState where
  /-- Beam configurations by round: (first round, words of the shadow by CSR address), oldest first (R145). -/
  cfgs : List (Nat × SMap Word)
  /-- Weight sets by round: (first round, 0 = A or 1 = B), oldest first (R142). -/
  sets : List (Nat × Nat)
  /-- Sealed rounds whose beam work has not started, oldest first. -/
  queue : List Nat
  /-- The weight banks of the cells (R133), keyed ((slice × 36 + slot) × 512 + lane) × 64 + column: a weight as it lies in HBM.
  Bank k mod 2 serves channel-set k. -/
  bank0 : SMap (BitVec 16)
  bank1 : SMap (BitVec 16)
  /-- The round being processed, its channel-set in progress, the first sample of that run, whether it repeats the set
  (R190), the first suppressed sample, and the slice whose comparison failed last. -/
  round : Option Nat
  cs : Nat
  t0 : Nat
  again : Bool
  fail : Option Nat
  failSl : Nat
  /-- The first round processed since the Beam Array last started or resumed. -/
  start : Option Nat
  /-- Classes not admitted, by round: bit 0 = voltage, bit 1 = profile 0, bit 2 = profile 1 (R152). -/
  shed : SMap Nat
  bad : List BadSet
  /-- Rounds whose beam work is complete with voltage beams, oldest first (R147, R148). -/
  vdone : List Nat
  /-- Voltage staging: the voltage of entry v, keyed ((round × 64 + v) × 4096 + channel) × 2^24 + sample, and 1 once it is
  written, 2 when a part of it was limited. -/
  volt : SMap (Int × Int × Nat)
  /-- Detected staging, keyed ((profile × 2^64 + window) × 1152 + beam) × 4096 + bin. -/
  det : SMap DetRec
  /-- Uhlain position of each stream of a port, keyed port × 2048 + beam: SC × 4096 + packet in the row, plus one. -/
  vpos : SMap Nat
  /-- BPW and BVX instances whose work is final, in order, awaiting the release gate. -/
  due : List Inst
  /-- The weight set whose digest is being computed. -/
  dig : List Nat
  /-- A feeder has met a poisoned word in the channel-set in progress (R290). -/
  poison : Bool
  deriving DecidableEq, Repr, Inhabited
/-- State of integrity checking beside its registers. -/
structure IgState where
  /-- The health table, keyed source × 256 + unit (R197). -/
  health : SMap HealthRec
  /-- The round of the last event that impairs, plus one; 0 = none (Table 8-4). -/
  impaired : Nat
  /-- Per line 0–23 and position, keyed line × 128 + position: 4 × (the round that last located it, plus one) + the
  consecutive rounds that did, at most 3 (R193). -/
  located : SMap Nat
  /-- Per line, 128 × (the round in which its known-vector test last failed, plus one) + the position that failed (R192). -/
  kvFail : SMap Nat
  /-- Adder units marked faulty (R191). -/
  faulty : List Nat
  /-- The requested test that is running: op, unit and position reached (R194). -/
  test : Option (Nat × Nat × Nat)
  /-- The last correction, behind IG_FIX: kind, physical file, physical rank, q and round. -/
  fix : Nat × Nat × Nat × Nat × Nat
  /-- The Arbiter is stopped and restarting (R196). -/
  arbDown : Bool
  /-- The kind of HLT report due because hstate changed. -/
  hltDue : Bool
  deriving DecidableEq, Repr, Inhabited

/-- A record of a DIGEST message (R214): the frame's payload digest, whether it is pair-divergent, and for the unit's own
the first sequence number and the segments of its instance. -/
structure DigRec where
  dig : Nat
  div : Bool
  first : Nat
  segs : Nat
  deriving DecidableEq, Repr, Inhabited

/-- State of castling beside its registers. -/
structure CsState where
  /-- The peer's state as its last LEASE or ACK carried it, and its prep from JOIN. -/
  peerState : Nat
  peerPrep : Bool
  /-- Messages sent per type (mseq of Table 9-1). -/
  mseq : SMap Nat
  leaseSeq : Nat
  /-- The lease sequence number last acknowledged by the peer. -/
  ackSeq : Nat
  /-- An acknowledgment has arrived since the last renewal. -/
  acked : Bool
  /-- CS_CTL.en was written 1 with take = 1 and no LEASE has been received since. -/
  waiting : Bool
  /-- The lease has expired and the guard runs (R202). -/
  guard : Bool
  /-- Its JOIN has been accepted (R220); the first round written in its own slab since. -/
  joined : Option Nat
  /-- Groups that have closed an integration begun fresh, and streams with a matched instance (R222). -/
  freshG : List Nat
  matched : List Nat
  /-- The peer's watermarks by stream, and the ns of the last WMARK, plus one (R215). -/
  peerWm : SMap Nat
  wmAt : Nat
  /-- Digests of the peer and of this unit waiting for their counterpart, keyed stream × 2^64 + seq. -/
  peerDig : SMap DigRec
  ownDig : SMap DigRec
  /-- first_seq + 1 by stream × 2^64 + instance, from the active's DIGEST (R221). -/
  firstSeq : SMap Nat
  /-- Streams numbered since the JOIN was accepted, with their first sequence number + 1 (R221). -/
  numbered : SMap Nat
  /-- Matched frames by stream × 2^64 + first sequence number of the instance (R222). -/
  matchN : SMap Nat
  /-- LEASE_OUT's level; a transition of LEASE_IN has come since the last LEASE message or renewal (R204). -/
  pin : Bool
  pinSeen : Bool
  /-- The handover round of a HANDING unit, or of a prepared unit from the active's LEASE (R224). -/
  hand : Option Nat
  handed : List Nat
  /-- The streams that had a source when a HANDING unit began. -/
  toHand : List Nat
  deriving DecidableEq, Repr, Inhabited

/-- What a reference's monitor holds beside its registers (R230, R241). -/
structure RefSlot where
  /-- 20 ps steps of the DCO since the last normal event; 0 = none yet (R230). -/
  since : Nat
  seen : Bool
  /-- Normal offset samples since the monitor started, newest first, in ps. -/
  hist : List Int
  /-- Consecutive packets with quality 4 or more (R231). -/
  qbad : Nat
  /-- Seconds in QUALIFIED or SUSPECT, and seconds without an anomaly (R241, R243). -/
  age : Nat
  clean : Nat
  /-- The last time offset in ps, of which REF_POFF shows 64 bits. -/
  off : Int
  deriving DecidableEq, Repr, Inhabited

/-- What the selector evaluates in a window of 1 µs (R245): slots disqualified with a reason, qualified, or no longer suspect;
and the host's writes: REF_CFG.en, REF_CMD.clr, and REF_CTL with its manual and msel. -/
inductive SelEvent where
  | disqualify (r reason : Nat)
  | qualify (r : Nat)
  | trust (r : Nat)
  | enable (r : Nat)
  | disable (r : Nat)
  | clear (r : Nat)
  | select (manual : Bool) (msel : Nat)
  deriving DecidableEq, Repr

/-- State of reference selection beside its registers. -/
structure RfState where
  slot : SMap RefSlot
  /-- The events of the window in progress, in the order they came, and that window's number: the counter in µs (R245). -/
  events : List SelEvent
  window : Nat
  /-- A slew in progress: the counter when it began and the offset it moves to; and the offset held when selection ended, all
  offsets in units of 10^-18 (R236, R238, R239). -/
  slewAt : Nat
  goal : Int
  held : Int
  /-- The loop filter's integrator, and y after the normal events of the last second with their instants in ns (R226, R236). -/
  integ : Int
  ys : List (Nat × Int)
  /-- The DPLL's zero in ps, which a trim moves, and the counter when it was last brought up to date (R238, R253); the last time
  and frequency offsets of the selected reference, in ps and in units of 10^-18 (R227). -/
  zero : Int
  zeroAt : Nat
  phase : Int
  freq : Int
  /-- Seconds in which no pair of participants has disagreed (R243). -/
  calm : Nat
  deriving DecidableEq, Repr, Inhabited

/-- A step that awaits its instant (R254): its boundary (none = at once), its mode, and what it adds in ns, or the
absolute seconds and nanoseconds it sets. -/
structure TimeStep where
  bnd : Option Nat
  mode : Nat
  add : Int
  s : Nat
  ns : Nat
  deriving DecidableEq, Repr, Inhabited

/-- A stamp of a capture unit (R262): the counter in 20 ps steps, the time epoch and the edge. -/
structure CapStamp where
  s : Nat
  ns : Nat
  ps : Nat
  ep : Nat
  rise : Bool
  deriving DecidableEq, Repr, Inhabited

/-- State of the timebase beside its registers. -/
structure TbState where
  /-- TAI in units of 2^-48 ns since the epoch: seconds, nanoseconds and fraction of R246 as one number. -/
  t : Nat
  /-- The second copy of the counter (R247). -/
  t2 : Nat
  /-- SC-to-TAI mappings by round: (first round, mapping), oldest first; none = governed by no SC epoch (R255). -/
  maps : List (Nat × Option ScMap)
  /-- The SC epoch in force or last in force (R255, R64). -/
  epoch : ScMap
  /-- A commit bound to a boundary: its round and values (R256). -/
  sce : Option (Nat × ScMap)
  step : Option TimeStep
  /-- Each comparator's first target, for align = 1 (R261), in units of 10 ps. -/
  trgFirst : SMap Nat
  /-- Comparators whose pulse is on (R260). -/
  pulse : List Nat
  /-- Queues of the capture units (R262), oldest first. -/
  capQ : SMap (List CapStamp)
  deriving DecidableEq, Repr, Inhabited

/-- What an Announce message of a foreign master said (R257): the sender's port identity, how many came, and the
grandmaster's data. -/
structure AnnRec where
  src : Nat
  seen : Nat
  p1 : Nat
  cls : Nat
  acc : Nat
  var : Nat
  p2 : Nat
  gm : Nat
  steps : Nat
  tsrc : Nat
  utc : Nat
  flags : Nat
  deriving DecidableEq, Repr, Inhabited

/-- What an IEEE 1588 port holds besides its registers (R257, R258). Times are in ps. -/
structure PtPort where
  foreign : List AnnRec
  /-- In PRE_MASTER, the counter at which the qualification timeout passes (R257). -/
  qualAt : Nat
  /-- The port identity of its parent. -/
  parent : Option Nat
  /-- A two-step Sync that awaits its Follow_Up: sequence number, ingress stamp, correction. -/
  sync : Option (Nat × Int × Int)
  /-- Origin time with corrections, and ingress stamp, of the last Sync. -/
  last : Option (Int × Int)
  /-- The Delay_Req that awaits its answer: sequence number and egress stamp. -/
  dreq : Option (Nat × Int)
  /-- The Pdelay_Req that awaits its answer: sequence number and egress stamp. -/
  preq : Option (Nat × Int)
  /-- The Pdelay_Resp that awaits its Follow_Up: sequence number, t2 and t4 with corrections. -/
  presp : Option (Nat × Int × Int)
  /-- Path delays of the last exchanges, newest first, at most 16. -/
  mpd : List Int
  /-- Next sequence numbers: Sync, Announce, Delay_Req, Pdelay_Req. -/
  sSeq : Nat
  aSeq : Nat
  dSeq : Nat
  pSeq : Nat
  deriving DecidableEq, Repr, Inhabited

/-- State of IEEE 1588 beside its registers. -/
structure PtState where
  port : SMap PtPort
  deriving DecidableEq, Repr, Inhabited

/-- A plan of a round (R270, R271): the level admitted, the groups, the slab channel indices for the Board, the beam
classes (bit 0 = voltage, bits 1 and 2 = the profiles), and the 40-byte record. -/
structure Plan where
  round : Nat
  level : Nat
  groups : List Nat
  chans : List Nat
  classes : Nat
  vpoint : Nat
  /-- Steps admitted for the Board and for the Beam Array, and the rate predicted at vpoint, steps a second. -/
  nBd : Nat
  nBa : Nat
  pred : Rat
  record : Bytes
  deriving DecidableEq, Repr, Inhabited

/-- The settings that the last admission took (R266): the host cap in 0.1 W, and CK_THERM's threshold in °C and steps in
W. -/
structure CkSet where
  cap : Nat
  thrC : Nat
  stepW : Nat
  recW : Nat
  deriving DecidableEq, Repr, Inhabited

/-- State of the Chess Clock beside its registers. -/
structure CkState where
  /-- The settings in force. -/
  set : CkSet
  /-- The latest plans, oldest first. -/
  plans : List Plan
  /-- The next round to admit. -/
  next : Nat
  /-- Energy of regions 0–8 in units of 10^-4 pJ × 2^-12 (R263), and per rail since the last admission: untrimmed in
  10^-4 pJ, measured in µJ (R264). -/
  acc : List Nat
  raw : List Nat
  meas : List Nat
  /-- Per rail, consecutive admissions with the ratio outside the limits. -/
  run : List Nat
  /-- The thermal cap in 0.1 W (R267). -/
  tcap : Rat
  /-- a_(n-1) in µJ (R268), and the energy of the last interval between admissions in µJ. -/
  aPrev : Option Rat
  ePrev : Nat
  /-- Consecutive admissions at level 4, and consecutive admissions in Endgame that would have fitted (Table 12-5). -/
  l4 : Nat
  fit : Nat
  /-- The peer's allowance reports: allow_mj + 1 by round (R274). -/
  peer : SMap Nat
  /-- Boundaries of a host Endgame request and of its clearing (Table 12-5). -/
  egReq : Option Nat
  egClr : Option Nat
  /-- Endgame: 0 = out; 1 = entered, stacks entering self-refresh; 2 = in; 3 = leaving. -/
  eg : Nat
  /-- A change of core point has not settled (R265). -/
  settling : Bool
  /-- The round whose work runs, and the ns at which its work started (R272). -/
  work : Option (Nat × Nat)
  deriving DecidableEq, Repr, Inhabited
/-- A request in a transaction slot (R279): when it arrived in ns, whether it is promoted, and whether it is a neighbour
refresh. -/
structure HbmReq where
  cls : Nat
  bank : Nat
  row : Nat
  bytes : Nat
  use : Option HbmUse
  arr : Nat
  promoted : Bool
  nbr : Bool
  deriving DecidableEq, Repr, Inhabited

/-- What a channel of a stack holds (R281 to R288): its requests, oldest first, the refresh intervals it owes, activates by
bank in the fallback of R288, promoted bytes served by ns, and the ns at which the last maintenance run ended and
the next command may issue. -/
structure HbmChan where
  queue : List HbmReq
  owed : Nat
  acts : SMap Nat
  prom : List (Nat × Nat)
  runEnd : Nat
  block : Nat
  deriving DecidableEq, Repr, Inhabited

/-- What a stack controller holds: requests that wait at their source for a slot with their channels, rows waiting to
be spared and the row being copied, each with the origin of Table 18-8, the rows spared, scrub passes that corrected errors by row, and the ns of the first
reading of the present cool run, plus one. A row is ((channel × 2 + pseudo-channel) × 32 + bank) × 2^32 + row. -/
structure HbmStack where
  waiting : List (Nat × HbmReq)
  spareQ : List (Nat × Nat)
  copy : Option (Nat × Nat)
  spared : List Nat
  ceRows : SMap (List Nat)
  cool : Nat
  deriving DecidableEq, Repr, Inhabited

/-- State of the HBM subsystem beside its registers. -/
structure HmState where
  /-- Keyed stack × 32 + channel. -/
  chan : SMap HbmChan
  stk : SMap HbmStack
  /-- Neighbour refresh runs on counters (R288). -/
  trngFb : Bool
  /-- Poisoned words: address / 32 (R289). -/
  poison : SMap Bool
  /-- The last uncorrectable error, behind HM_ERR: its word, row and round. -/
  err : Nat × Nat × Nat
  /-- Stacks retraining under R194. -/
  retrain : List Nat
  /-- The next health test of the generator passes (R288). -/
  trngGood : Bool
  deriving DecidableEq, Repr, Inhabited

/-- State of the PCIe side beside its registers. -/
structure PeState where
  /-- Per interrupt source, the ns of its last message, plus one (R309). -/
  lastMsg : SMap Nat
  /-- The MSI-X table: words of 4 bytes, 4 to a vector: address, upper address, data and vector control, whose bit 0 masks
  the vector and is 1 when nothing is listed, as PCIe has it. -/
  table : SMap Word
  /-- Pending bits of masked vectors (R309). -/
  pendBit : SMap Bool
  /-- PERST_N is low. -/
  perst : Bool
  deriving DecidableEq, Repr, Inhabited

/-- State of the crossbar side beside its registers. -/
structure XbState where
  /-- The Arbiter mailbox's bytes (R310); nothing listed reads 0. -/
  mbx : Memory
  /-- Mailbox slots whose requests wait, in doorbell order, each with whether its requester is secure. -/
  mbxQ : List (Nat × Bool)
  /-- The device address of the violation latched (XB_VIOL), shown in XB_VIOLADR when XB_VIOL is read. -/
  violAdr : Nat
  deriving DecidableEq, Repr, Inhabited

/-- State of the event fabric beside its registers. -/
structure EvState where
  /-- Hop counts of the events pending at relay inputs T36 to T39, oldest first (R318). -/
  hops : SMap (List Nat)
  /-- Per EVIO pin: the filtered level of an input, and the level driven on an output (R321). -/
  level : Nat
  drive : Nat
  /-- Pins in an output pulse. -/
  pulse : List Nat
  deriving DecidableEq, Repr, Inhabited

/-- A value that consumers within their delay slots still read as it was before its producer (R328): what reads it (0 = a
data register; 1 = address generation; 2 = LOOPNZ; 3 = MOVA, ADDA and SHA; 4 = a flag test; 5 = interrupt acceptance), the
register's number in the register window, its old value, and the instructions left. -/
structure AspLate where
  view : Nat
  reg : Nat
  old : Nat
  left : Nat
  deriving DecidableEq, Repr, Inhabited

/-- A branch in its delay slots: where it goes (none: not taken), slots left, and whether it is RETI. -/
structure AspBranch where
  target : Option Nat
  left : Nat
  reti : Bool
  deriving DecidableEq, Repr, Inhabited

/-- An access through the external window that has not completed (R339): write or read, device address, the word to
write, and the instruction that waits. -/
structure AspExt where
  write : Bool
  addr : Nat
  data : Nat
  instr : Instr
  deriving DecidableEq, Repr

/-- What an ASP core holds besides SP_PC, SP_STAT and its memories. -/
structure SpCore where
  /-- Both register banks by number in the register window: 0–15 D, 16–23 P, 24–31 M, 32–35 A (40 bits), 40 LC, 41 ST; the
  shadow bank 64 higher. -/
  reg : SMap Nat
  rpc : Nat
  /-- The call stack, top first, at most 8. -/
  stack : List Nat
  /-- Iterations of the repeat in progress still to run. -/
  rpt : Option Nat
  br : Option AspBranch
  late : List AspLate
  ext : Option AspExt
  /-- A stop, a suspension, or the end of a step is due at the next accepting boundary. -/
  stopReq : Bool
  susReq : Bool
  stepping : Bool
  /-- The host has written SP_HMSG since interrupt 4 was last accepted. -/
  hmsg : Bool
  /-- P addresses in the repeat cache, the least recently used last (R331). -/
  cache : List Nat
  /-- Stream FIFOs by port, oldest word first. -/
  inQ : SMap (List Nat)
  outQ : SMap (List Nat)
  /-- The last latched header of each input port, and the ports whose header is new (R337). -/
  hdr : SMap (List Nat)
  hdrNew : List Nat
  /-- Per input port: 64 × round + entry of the delivery in progress or last, plus one, and its words delivered. -/
  pos : SMap (Nat × Nat)
  /-- Per input port: words of the previous delivery were dropped. -/
  dropped : SMap Bool
  deriving DecidableEq, Repr, Inhabited

/-- State of the ASPs beside their registers. -/
structure SpState where
  core : SMap SpCore
  /-- Memory words: core × 65,536 + word, P from 0, X from 0x8000, Y from 0xC000. -/
  mem : SMap Word
  deriving DecidableEq, Repr, Inhabited

/-- State of the listening post beside its registers. -/
structure AuState where
  /-- Per monitor channel: the words queued, oldest first (R345). -/
  queue : SMap (List Nat)
  /-- The buffers' ring storage: channel × 16,384 + place; and the next place to write. -/
  ring : SMap Word
  place : SMap Nat
  /-- The gain step g (R356). -/
  gain : SMap Nat
  /-- An overrun's words are being discarded (R357). -/
  flush : SMap Bool
  /-- The index in its 192-frame block of the next frame, when the reference drives the frames (R349). -/
  blk : Nat
  /-- The oscillator follows, or holds the rate of, AES3_REF. -/
  onRef : Bool
  /-- The last measurement was within the range. -/
  inRange : Bool
  /-- The channel-status block being sent (Table 17-3). -/
  status : Bytes
  deriving DecidableEq, Repr, Inhabited

/-- A record of the repair log (Table 18-8), its crc aside. -/
structure LogRec where
  kind : Nat
  unit : Nat
  detail : Nat
  row : Nat
  seq : Nat
  round : Nat
  taiS : Nat
  origin : Nat
  deriving DecidableEq, Repr, Inhabited

/-- An accepted region load (R369): its slot, section kind, boundary, cfg_epoch, section digest, register records and blob,
and whether its load has started. -/
structure RegionLoad where
  slot : Nat
  kind : Nat
  bound : Nat
  epoch : Nat
  digest : Nat
  recs : List (Nat × Nat)
  blob : Bytes
  started : Bool
  deriving DecidableEq, Repr, Inhabited

/-- State of the configuration side beside its registers. -/
structure CfState where
  /-- Configuration epochs by round: (first round, epoch), oldest first (R368). -/
  epochs : List (Nat × Nat)
  /-- Events the Arbiter has still to append to the repair log, oldest first (R375). -/
  logDue : List LogRec
  /-- The configuration store (R364): bytes by offset from 0x62_0000_0000; nothing listed reads 0. -/
  store : Memory
  /-- Public keys 1–3 (R363): x + y × 2^384; key 0 is Config.aqdalKey. -/
  keys : SMap Nat
  /-- Digests in force by section kind, as little-endian numbers; nothing listed is 48 zero bytes (R368). -/
  digs : SMap Nat
  /-- The load record: the slot of the full load, then of each region load applied (R371). -/
  record : List Nat
  /-- The slot of the full load in progress. -/
  loading : Option Nat
  /-- The region load that waits for its boundary or is loading. -/
  pending : Option RegionLoad
  /-- Repair-log records written since the last checkpoint (R376). -/
  since : Nat
  deriving DecidableEq, Repr, Inhabited

/-- State of Opening, resets and Adjournment beside the registers. -/
structure MgState where
  /-- What the Opening in progress, or the last one, meets. -/
  env : Opening
  /-- Load attempts the Opening has made (R380). -/
  tries : Nat
  /-- VIN is above 10.8 V and has not fallen below 10.0 V since (R378). -/
  vin : Bool
  /-- RESET_N is low. -/
  resetLow : Bool
  /-- XO_IN is present. -/
  xo : Bool
  /-- The replacement firmware image (R401). -/
  image : Bytes
  /-- AG_PMDIG, BA_WDIG_A and BA_WDIG_B as Adjournment's entry kept them (R387). -/
  digs : Option (Nat × Nat × Nat)
  deriving DecidableEq, Repr, Inhabited

/-- The instruction a test access port holds (R403). -/
inductive JtagIr where
  | bypass | idcode | sample | extest | extestPulse | extestTrain | highz | clamp
  deriving DecidableEq, Repr, Inhabited

/-- State of the balls, the SMBus port and the test access port (R397 to R403). -/
structure IoState where
  /-- The CSR offset SMBus reads and writes use. -/
  smbOff : Nat
  /-- SMB_ALERT_N is low. -/
  alert : Bool
  /-- The test access port's instruction, its boundary register, and whether TRST_N holds it in reset. -/
  ir : JtagIr
  boundary : Nat
  deriving DecidableEq, Repr, Inhabited

/-- A change bound to a round boundary (R25). -/
inductive Change where
  /-- A new alignment window in µs (R67). -/
  | win (us : Nat)
  /-- New flag settings are in force (R70); they are judged by the list in `al.flg`. -/
  | flags
  /-- The committed stream table is in force (R49). -/
  | streams
  /-- The committed pairing table is in force (R104). -/
  | pairing
  /-- A weight epoch (R142). -/
  | weights
  /-- The committed beam configuration is in force (R145). -/
  | beams
  deriving DecidableEq, Repr

/-- The machine: what the block holds between two commands. -/
structure State where
  /-- Commands that wait, first in, first out. (DESIGN CHOICE: log entry 1.) -/
  pending : List Instr
  /-- The ordering code fused into the part (R1). (DESIGN CHOICE: log entry 7.) -/
  part : Part
  /-- The registers of the CSR space: words by address; an unlisted address reads its reset value. -/
  csr : SMap Word
  /-- The pair latches of each crossbar master (R18). -/
  latch : SMap Latch
  /-- How the last access was answered. -/
  resp : Resp
  /-- What the device has sent, oldest first. -/
  out : List Emit
  /-- HBM: bytes by address; an unlisted address reads 0 (R378 step 6). -/
  mem : Memory
  /-- Changes bound to round boundaries, in the order accepted (R25). -/
  bound : List (Nat × Change)
  /-- The first boundary whose bound changes have not yet been applied. -/
  rnd : Nat
  /-- Events fired and not yet delivered: producer and hop count, oldest first (R311). -/
  evq : List (Nat × Nat)
  /-- Counts the free values taken: the model's own field (see Config). (DESIGN CHOICE: log entry 13.) -/
  fresh : Nat
  ul : UlState
  al : AlState
  bd : BdState
  ag : AgState
  ba : BaState
  ig : IgState
  rf : RfState
  tb : TbState
  pt : PtState
  ck : CkState
  hm : HmState
  pe : PeState
  xb : XbState
  ev : EvState
  sp : SpState
  au : AuState
  ot : OtState
  cs : CsState
  cf : CfState
  mg : MgState
  io : IoState
  deriving DecidableEq, Repr

/-- The flag settings of AL_FLGEN, AL_SKLO, AL_SKHI, AL_SKCTL and AL_HMASKCTL after reset. -/
def FlagCfg.reset : FlagCfg := ⟨0xFD * 4 + 3, 0x00A00000, 0x01800000, 64, 0⟩

/-- The machine after power-on reset: every register at its reset value, nothing in memory, VIN and XO_IN
present and the Opening still to begin, a PK-8192-X. (DESIGN CHOICE: log
entry 8.) -/
def State.reset : State where
  pending := []
  part := .x
  csr := []
  latch := []
  resp := default
  out := []
  mem := []
  bound := []
  rnd := 0
  evq := []
  fresh := 0
  ul := default
  al := { (default : AlState) with flg := [(0, FlagCfg.reset)] }
  bd := default
  ag := default
  ba := default
  ig := default
  rf := default
  tb := default
  pt := default
  ck := { (default : CkState) with set := ⟨4500, 100, 10, 5⟩, tcap := 4500 }
  hm := { (default : HmState) with trngGood := true }
  pe := default
  xb := default
  ev := default
  sp := default
  au := default
  ot := default
  cs := default
  cf := default
  mg := { (default : MgState) with vin := true, xo := true }
  io := { (default : IoState) with ir := .idcode }

end Sys2Proof.Machine
end

