-- ==== Sys2Proof/Machine/Ops.lean ====
section
/-! DEFINITION. The shared operations over registers, memory, time, events, interrupts and health records. -/

namespace Sys2Proof.Machine

/-! ## Registers -/

/-- The word at a CSR-space address. -/
def State.word (s : State) (a : Nat) : Word := smapGet (csrReset a) s.csr a

/-- Gives a word of the CSR space a value. -/
def State.setWord (s : State) (a : Nat) (v : Word) : State :=
  { s with csr := smapSet (csrReset a) s.csr a v }

/-- Bits [lo+w-1:lo] of a number. -/
def getBits (x lo w : Nat) : Nat := (x >>> lo) % 2 ^ w

/-- A number with bits [lo+w-1:lo] replaced. -/
def putBits (x lo w v : Nat) : Nat := x % 2 ^ lo + (v % 2 ^ w) * 2 ^ lo + (x >>> (lo + w)) * 2 ^ (lo + w)

/-- The value of a field. -/
def State.rd (s : State) (f : FRef) : Nat := getBits (s.word f.a).toNat f.lo f.w

/-- True when a field is not 0. -/
def State.on (s : State) (f : FRef) : Bool := s.rd f != 0

/-- Gives a field a value. -/
def State.wr (s : State) (f : FRef) (v : Nat) : State :=
  s.setWord f.a (BitVec.ofNat 32 (putBits (s.word f.a).toNat f.lo f.w v))

/-- The value of a 64-bit pair at its _LO address (R18). -/
def State.rq (s : State) (a : Nat) : Nat := (s.word a).toNat + (s.word (a + 4)).toNat * 2 ^ 32

/-- Gives a 64-bit pair a value. -/
def State.wq (s : State) (a v : Nat) : State :=
  (s.setWord a (BitVec.ofNat 32 v)).setWord (a + 4) (BitVec.ofNat 32 (v / 2 ^ 32))

/-- Adds to a counter, which saturates at 0xFFFF_FFFF. -/
def State.incBy (s : State) (a n : Nat) : State :=
  s.setWord a (BitVec.ofNat 32 (min ((s.word a).toNat + n) 0xFFFFFFFF))

/-- Counts one event. -/
def State.inc (s : State) (a : Nat) : State := s.incBy a 1

/-- Chooses between two states' updates. -/
def State.when (s : State) (c : Bool) (f : State → State) : State := if c then f s else s

/-! ## Time (R246) -/

/-- One nanosecond in the units of the time counter. -/
def nsUnit : Nat := 2 ^ 48

/-- The counter in whole ns since the epoch. -/
def State.nowNs (s : State) : Nat := s.tb.t / nsUnit

/-- TAI seconds. -/
def State.taiS (s : State) : Nat := s.nowNs / 1000000000

/-- TAI nanoseconds. -/
def State.taiNs (s : State) : Nat := s.nowNs % 1000000000

/-- The fraction of a nanosecond. -/
def State.taiFr (s : State) : Nat := s.tb.t % nsUnit

/-! ## What leaves the device, events, interrupts -/

/-- Sends something out of the package. (DESIGN CHOICE: log entry 12.) -/
def State.emit (s : State) (e : Emit) : State := { s with out := s.out ++ [e] }

/-- Fires an event producer with hop count 0 (R311). -/
def State.fire (s : State) (e : Nat) : State := { s with evq := s.evq ++ [(e, 0)] }

/-- The MSI-X table entry of a vector (R309): word 0 address, 1 upper address, 2 data, 3 control. (DEDUCED: log entry 32.) -/
def State.msixWord (s : State) (v k : Nat) : Nat :=
  (smapGet (if k = 3 then 1 else 0) s.pe.table (4 * v + k)).toNat

/-- A vector is masked by bit 0 of its control word. -/
def State.msixMasked (s : State) (v : Nat) : Bool := s.msixWord v 3 % 2 = 1

/-- Sends the message of a vector. -/
def State.msix (s : State) (v : Nat) : State :=
  (s.emit (.msi v (s.msixWord v 0 + s.msixWord v 1 * 2 ^ 32) (s.msixWord v 2))).inc (R.PE_CNT 2)

/-- An interrupt source fires (R309): nothing with en = 0; merged within 1 µs of its last message; a masked vector
gets its pending bit. -/
def State.irq (s : State) (src : Nat) : State :=
  if s.on (R.PE_MSIMAP_en src) then
    let v := s.rd (R.PE_MSIMAP_vector src)
    let last := smapGet 0 s.pe.lastMsg src
    if last != 0 && s.nowNs + 1 - last < 1000 then s
    else
      let s := { s with pe := { s.pe with lastMsg := smapSet 0 s.pe.lastMsg src (s.nowNs + 1) } }
      if s.msixMasked v then { s with pe := { s.pe with pendBit := smapSet false s.pe.pendBit v true } }
      else s.msix v
  else s

/-- SMB_ALERT_N goes low (R401). -/
def State.smbAlert (s : State) : State :=
  ({ s with io := { s.io with alert := true } }).emit (.pin "SMB_ALERT_N" false)

/-- Sets a W1C bit; a change from 0 to 1 fires the interrupt source of its block (Table 14-8), and setting an event bit of
IO_STATUS alerts the SMBus host (R401). -/
def State.flag (s : State) (f : FRef) : State :=
  let s := s.when (f.a == R.IO_STATUS) State.smbAlert
  if s.on f then s else (s.wr f 1).irq (f.a / 0x100000)

/-! ## HBM bytes -/

/-- A byte of HBM; nothing listed reads 0. -/
def State.byte (s : State) (a : Nat) : Byte := smapGet 0 s.mem a

/-- Writes a byte of HBM. -/
def State.setByte (s : State) (a : Nat) (v : Byte) : State := { s with mem := smapSet 0 s.mem a v }

/-- Writes a memory's bytes from an address upward. -/
def memPut (m : Memory) : Nat → Bytes → Memory
  | _, [] => m
  | a, b :: r => memPut (smapSet 0 m a b) (a + 1) r

/-- Reads `n` bytes of a memory from an address upward. (DEDUCED: log entry 10.) -/
def memGet (m : Memory) (a n : Nat) : Bytes := (List.range n).map (fun i => smapGet 0 m (a + i))

/-- Writes bytes of HBM. -/
def State.setBytes (s : State) (a : Nat) (bs : Bytes) : State := { s with mem := memPut s.mem a bs }

/-- Reads bytes of HBM. -/
def State.bytes (s : State) (a n : Nat) : Bytes := memGet s.mem a n

/-- The bytes of HBM fitted (Table 0-1, R3). -/
def State.hbmSize (s : State) : Nat :=
  match s.part with
  | .m => 0x3000000000
  | _ => 0x6000000000

/-- True when the Beam Array and the listening post are fitted (R2). -/
def State.hasBeam (s : State) : Bool := s.part != .c

/-! ## The free values: the model's own counter picks a fresh one each time -/

/-- Marks one free value as taken. -/
def State.tick (s : State) : State := { s with fresh := s.fresh + 1 }

/-! ## Health records (R197) -/

/-- The row of the health table of a source and unit. -/
def State.healthRow (s : State) (src unit : Nat) : HealthRec := smapGet default s.ig.health (src * 256 + unit)

/-- Raises a health record. (DEDUCED: log entry 94.) -/
def State.health (s : State) (src unit sev detail round : Nat) : State :=
  let r := s.healthRow src unit
  let r' : HealthRec :=
    { r with sev := sev, count := min (r.count + 1) 0xFFFFFFFF, round := round, taiS := s.taiS, taiNs := s.taiNs,
             detail := detail }
  { s with ig := { s.ig with health := smapSet default s.ig.health (src * 256 + unit) r' } }

/-- The health state takes a value: a change fires E094, alerts the SMBus host and makes an HLT report due (R176, R311,
R401). -/
def State.setHstate (s : State) (h : Nat) : State :=
  if s.rd R.IG_STATUS_hstate = h then s
  else
    let s := ((s.wr R.IG_STATUS_hstate h).fire 94).smbAlert
    { s with ig := { s.ig with hltDue := true } }

/-! ## Lists of settings by round -/

/-- The settings that govern a round: the last entry whose first round is not later. -/
def atRound {α : Type} (l : List (Nat × α)) (n : Nat) : Option α :=
  (l.filter (fun p => p.1 ≤ n)).getLast?.map Prod.snd

/-- Binds settings from a round onward; an entry already bound to that round is replaced. -/
def bindRound {α : Type} (l : List (Nat × α)) (n : Nat) (v : α) : List (Nat × α) :=
  (l.filter (fun p => p.1 < n)) ++ [(n, v)] ++ (l.filter (fun p => n < p.1))

/-- Folds a state over a list. -/
def State.fold {α : Type} (s : State) (l : List α) (f : State → α → State) : State := l.foldl f s

/-- A bit mask with one bit set or cleared. -/
def setBit (m i : Nat) (b : Bool) : Nat := putBits m i 1 (if b then 1 else 0)

end Sys2Proof.Machine
end

