-- ==== Sys2Proof/Machine/Slab.lean ====
section
/-! DEFINITION. Rounds, the SC epoch's mapping to TAI, the binding of changes to round boundaries (R21, R25, R255),
and the geometry and contents of a slab (R55 to R60). -/

namespace Sys2Proof.Machine

/-! ## Rounds -/

/-- Round length L in samples. -/
def State.roundLen (s : State) : Nat := s.rd R.AL_ROUNDLEN_len

/-- Round origin S0. -/
def State.origin (s : State) : Nat := s.rq R.AL_ORIGIN

/-- S_n, the SC at which round n starts (R21). -/
def State.roundSc (s : State) (n : Nat) : Nat := s.origin + n * s.roundLen

/-- The round that contains an SC; none below S0. -/
def State.roundOf (s : State) (sc : Nat) : Option Nat :=
  if sc < s.origin then none else some ((sc - s.origin) / s.roundLen)

/-- The horizon H. -/
def State.horizon (s : State) : Nat := s.rq R.AL_HORIZ

/-- An SC epoch is valid. -/
def State.sceValid (s : State) : Bool := s.on R.TB_STATUS_sce_valid

/-- tai(s) of R255 in units of 2^-48 ns. -/
def taiOf (m : ScMap) (sc : Nat) : Int := m.tE * (2 ^ 48 : Int) + ((sc : Int) - m.sE) * m.p * (2 ^ 16 : Int)

/-- The SC of the sample taken at an instant in units of 2^-48 ns, rounded down; the period is not 0 (R256). -/
def scAt (m : ScMap) (t : Int) : Int := m.sE + (t - m.tE * (2 ^ 48 : Int)) / ((m.p : Int) * (2 ^ 16 : Int))

/-- The boundary at the start of round n is reached when the counter stands at t (R25). -/
def State.reachedAt (s : State) (n t : Nat) : Bool :=
  if s.sceValid then decide (taiOf s.tb.epoch (s.roundSc n) ≤ t) else decide (s.roundSc n ≤ s.horizon)

/-- The boundary at the start of round n is reached (R25). -/
def State.reached (s : State) (n : Nat) : Bool := s.reachedAt n s.tb.t

/-- The SC up to which boundaries are reached: the sample taken now, or H without an SC epoch. -/
def State.frontSc (s : State) : Int :=
  if s.sceValid then scAt s.tb.epoch s.tb.t else s.horizon

/-- The first boundary whose SC is not yet reached. -/
def State.frontRound (s : State) : Nat :=
  let x := s.frontSc
  if x < s.origin then 0 else (x.toNat - s.origin) / s.roundLen + 1

/-- The first boundary not yet reached, to which a request binds (R25). -/
def State.nextRound (s : State) : Nat := max s.rnd s.frontRound

/-- The round in progress: the last that has begun, or 0. -/
def State.curRound (s : State) : Nat := s.nextRound - 1

/-- A named target round has already begun (R25). -/
def State.begun (s : State) (n : Nat) : Bool := decide (n < s.nextRound)

/-- The boundary a request binds to; none when it names a round that has begun. (DEDUCED: log entry 70.) -/
def State.bindTo (s : State) (tgt : Bool) (round : Nat) : Option Nat :=
  if tgt then (if s.begun round then none else some round) else some s.nextRound

/-- Binds a change to a boundary. -/
def State.bindChange (s : State) (n : Nat) (c : Change) : State := { s with bound := s.bound ++ [(n, c)] }

/-- The mapping that governs a round (R255). -/
def State.mapOf (s : State) (n : Nat) : Option ScMap := (atRound s.tb.maps n).join

/-- f, the channel sample rate of a mapping, rounded to the nearest 2^-32 Hz (R255). -/
def rateOf (m : ScMap) : Nat := if m.p = 0 then 0 else (2 * 1000000000 * 2 ^ 64 / m.p + 1) / 2

/-- AG_CHRATE, the channel sample rate in Hz, 32.32. -/
def State.chRate (s : State) : Nat := s.rq R.AG_CHRATE

/-! ## Slab geometry (R56 to R60) -/

/-- k, the antenna blocks. -/
def State.blocks (s : State) : Nat := s.rd R.AL_SLABGEO_blk_m1 + 1

/-- C, the slab channels. -/
def State.slabCh (s : State) : Nat := s.rd R.AL_SLABGEO_c_cnt

/-- The first slab channel. -/
def State.chBase (s : State) : Nat := s.rd R.AL_SLABGEO_c_base

/-- w, bytes of one real or imaginary pair of parts: 1 for 4+4, 2 for 8+8. -/
def State.width (s : State) : Nat := s.rd R.IN_CTL_fmt + 1

/-- G, granule slots in a round (R58). -/
def State.gSlots (s : State) : Nat := ceilDiv (s.roundLen - 1) 256 + 1

/-- The granule slot of an SC in round n (R58). -/
def State.gSlot (s : State) (n sc : Nat) : Nat := sc / 256 - s.roundSc n / 256

/-- First SC of granule slot g of round n, and the SC after its last. -/
def State.slotLo (s : State) (n g : Nat) : Nat := max (s.roundSc n) ((s.roundSc n / 256 + g) * 256)

/-- The end of granule slot g of round n (R63). -/
def State.slotHi (s : State) (n g : Nat) : Nat := min (s.roundSc (n + 1)) ((s.roundSc n / 256 + g + 1) * 256)

/-- t of the total-power bins (R75): the smallest for which the bank holds every record. -/
def State.tpLog2 (s : State) : Nat :=
  (lowest 13 (fun t => 512 * s.blocks * ceilDiv s.slabCh (2 ^ t) ≤ 2097152)).getD 12

/-- Bins per stream. -/
def State.tpBins (s : State) : Nat := ceilDiv s.slabCh (2 ^ s.tpLog2)

/-- F, records of the flag log (Table 3-1). -/
def State.flogCap (s : State) : Nat :=
  if s.rd R.AL_FLOGCAP_cap = 0 then 1536 * s.slabCh else s.rd R.AL_FLOGCAP_cap

/-- Bytes of the sample area, rounded up to 4 KiB, the next area's boundary (R57). -/
def State.sampleArea (s : State) : Nat := roundUp (s.slabCh * s.blocks * s.roundLen * 1024 * s.width) 4096

/-- Bytes of the flag plane, rounded up. -/
def State.planeArea (s : State) : Nat := roundUp (s.slabCh * s.gSlots * s.blocks * 64) 4096

/-- Bytes of the total-power records, rounded up. -/
def State.tpArea (s : State) : Nat := roundUp (512 * s.blocks * s.tpBins * 16) 4096

/-- Bytes of the flag log, rounded up. -/
def State.flogArea (s : State) : Nat := roundUp (s.flogCap * 32) 4096

/-- Size of a slab buffer (R60). -/
def State.slabSize (s : State) : Nat := s.sampleArea + s.planeArea + s.tpArea + s.flogArea

/-- HBM base of slab buffer b. -/
def State.bufBase (s : State) (b : Nat) : Nat := s.rq (R.AL_BUF_BASE b)

/-- The buffer that holds rotation position p (R55). -/
def State.posBuf (s : State) (p : Nat) : Nat :=
  if p = 0 then s.rd R.AL_STATUS_pos0_buf else s.rd R.AL_STATUS_pos1_buf

/-- HBM base of the slab of round n: the buffer holding position n mod 2. -/
def State.slabBase (s : State) (n : Nat) : Nat := s.bufBase (s.posBuf (n % 2))

/-- Byte offset in the sample area (R57): stream a, polarisation p, slab channel index j, sample offset tau. -/
def State.sampleOff (s : State) (a p j tau : Nat) : Nat :=
  (((j * s.blocks + a / 512) * s.roundLen + tau) * 512 + a % 512) * 2 * s.width + p * s.width

/-- Byte offset in the flag plane, and the bit in it (R59). -/
def State.planeByte (s : State) (a j g : Nat) : Nat := ((j * s.gSlots + g) * s.blocks + a / 512) * 64 + a % 512 / 8

/-- The flag bit of (a, j, g) in the slab at a base. -/
def State.flagBit (s : State) (base a j g : Nat) : Bool :=
  (s.byte (base + s.sampleArea + s.planeByte a j g)).getLsbD (a % 512 % 8)

/-- Writes the flag bit of (a, j, g). -/
def State.setFlagBit (s : State) (base a j g : Nat) (b : Bool) : State :=
  let ad := base + s.sampleArea + s.planeByte a j g
  s.setByte ad (BitVec.ofNat 8 (setBit (s.byte ad).toNat (a % 512 % 8) b))

/-- Real and imaginary part of a sample from its bytes (R6, R7). -/
def sampleParts (w : Nat) (bs : Bytes) : Int × Int :=
  if w = 1 then (toSigned 4 (byteAt bs 0 / 16), toSigned 4 (byteAt bs 0)) else (toSigned 8 (byteAt bs 0), toSigned 8 (byteAt bs 1))

/-- The sample in the slab at a base. -/
def State.sample (s : State) (base a p j tau : Nat) : Int × Int :=
  sampleParts s.width (s.bytes (base + s.sampleOff a p j tau) s.width)

/-- A sample as the feeders send it from the slab at a base: its valid bit and its value, 0 when flagged (R83). -/
def State.fedAt (s : State) (base n a p j tau : Nat) : Bool × Int × Int :=
  if s.flagBit base a j (s.gSlot n (s.roundSc n + tau)) then (false, 0, 0) else (true, s.sample base a p j tau)

/-- A sample of round n as the feeders send it now. -/
def State.fed (s : State) (n a p j tau : Nat) : Bool × Int × Int := s.fedAt (s.slabBase n) n a p j tau

/-! ## The statistics ring and mask copies (R64, R72) -/

/-- Bytes of the statistics ring. (DESIGN CHOICE: log entry 176: C / c_pkt_min is rounded up; what the ring's bytes hold.) -/
def State.ringSize (s : State) (cPktMin gOpen : Nat) : Nat :=
  512 * s.blocks * s.slabCh * gOpen * 16 + 512 * s.blocks * ceilDiv s.slabCh cPktMin * gOpen * 32

/-- W in force, in µs (R67). -/
def State.win (s : State) : Nat := (s.al.winOff + 500).toNat

/-- G_open: ceil(W · f / 256) + 2, with f the rate of the last valid SC epoch; 0 before the first (R64). (DEDUCED: log entry 67.) -/
def State.gOpenOf (s : State) : Nat :=
  if s.tb.epoch.p = 0 then 2 else ceilDiv (s.win * 1000 * 2 ^ 32) (256 * s.tb.epoch.p) + 2

/-- Two address ranges meet; empty ranges meet nothing. -/
def overlaps (x y : Nat × Nat) : Bool := decide (0 < x.2 ∧ 0 < y.2 ∧ x.1 < y.1 + y.2 ∧ y.1 < x.1 + x.2)

/-- Some two ranges of a list meet. -/
def anyOverlap : List (Nat × Nat) → Bool
  | [] => false
  | x :: r => r.any (overlaps x) || anyOverlap r

/-- The slab buffers in use and the ring, as (base, size), for checks of placement; while a capture is held the rotation and
the capture have all three (R55). -/
def State.slabRanges (s : State) (ring : Nat) : List (Nat × Nat) :=
  (List.range (if s.on R.AL_CTL_cap_en || s.on R.AL_STATUS_cap_held then 3 else 2)).map (fun b => (s.bufBase b, s.slabSize))
    ++ [(s.rq R.AL_RING_BASE, ring)]

/-- The mask copies, each 2 MiB, while the mask is in use (R72). -/
def State.maskRanges (s : State) : List (Nat × Nat) :=
  if s.on R.AL_HMASKCTL_en then [(s.rq R.AL_HMASK_A, 2097152), (s.rq R.AL_HMASK_B, 2097152)] else []

/-! ## Stream table (R48, R49) -/

/-- A word of the stream table that governs a round. -/
def State.strWord (s : State) (n a : Nat) : Nat :=
  match atRound s.ul.tables n with
  | some t => (smapGet (csrReset a) t a).toNat
  | none => 0

/-- A field of the stream table that governs a round. -/
def State.strF (s : State) (n : Nat) (f : FRef) : Nat := getBits (s.strWord n f.a) f.lo f.w

/-- Stream a is enabled in the table of round n. -/
def State.strOn (s : State) (n a : Nat) : Bool := s.strF n (R.IN_STRA_en a) = 1

/-- The streams of the slab. -/
def State.slabStreams (s : State) : List Nat := List.range (512 * s.blocks)

/-! ## Plans and pairing tables -/

/-- The plan of a round, once admitted (R270). -/
def State.planOf (s : State) (n : Nat) : Option Plan := s.ck.plans.find? (fun p => p.round = n)

/-- The plan of round n admits group g. -/
def State.admits (s : State) (n g : Nat) : Bool :=
  match s.planOf n with
  | some p => p.groups.contains g
  | none => false

/-- Entry of a pairing table as r, f0 and, when enabled, f1 (R90). -/
def ptEntry (w : Nat) : Nat × Nat × Option Nat :=
  (getBits w 0 3, getBits w 4 3, if getBits w 11 1 = 1 then some (getBits w 8 3) else none)

/-- The unordered block pair {u, v} as one number. -/
def blockPair (u v : Nat) : Nat := 8 * min u v + max u v

/-- The block pairs of an entry, half 0 first. -/
def entryPairs (w : Nat) : List Nat :=
  match ptEntry w with
  | (r, f0, some f1) => [blockPair r f0, blockPair r f1]
  | (r, f0, none) => [blockPair r f0]

/-- P, the passes of a channel (R90 condition 1). -/
def passCount (k : Nat) : Nat := ceilDiv (k * (k + 1)) 4

/-- The lowest reason for which a pairing table is invalid for k blocks (R90, BD_STATUS.tbl_reason); none when valid. -/
def tableReason (k : Nat) (t : List Nat) : Option Nat :=
  let ents := t.map ptEntry
  let half1off := (ents.filter (fun e => e.2.2.isNone)).length
  let pairs := (t.map entryPairs).flatten
  let want := (List.range k).flatMap (fun v => (List.range (v + 1)).map (fun u => blockPair u v))
  if t.length ≠ passCount k then some 1
  else if ents.any (fun e => decide (k ≤ e.1 ∨ k ≤ e.2.1 ∨ k ≤ e.2.2.getD 0)) then some 2
  else if !(want.all (fun p => pairs.count p = 1)) then some 3
  else if ents.any (fun e => e.2.2 = some e.2.1) then some 4
  else if half1off ≠ (k * (k + 1) / 2) % 2 then some 5
  else none

/-- The pairing table of a round. -/
def State.tableOf (s : State) (n : Nat) : PairTable := (atRound s.bd.tables n).getD default

/-! ## Work of a round -/

/-- Work of round n of a region waits for its load (Table 18-7). -/
def State.regionHolds (s : State) (kinds : List Nat) (n : Nat) : Bool :=
  match s.cf.pending with
  | some p => kinds.contains p.kind && decide (p.bound ≤ n)
  | none => false

/-- IG_CTL.rr_max re-runs of round n have started, Board and Beam Array together (R189, R190). -/
def State.rerunsDone (s : State) (n : Nat) : Bool := decide (s.rd R.IG_CTL_rr_max ≤ smapGet 0 s.bd.rrs n)

/-- One more re-run of round n starts; rr_limit shows that a round has reached rr_max. -/
def State.countRerun (s : State) (n : Nat) : State :=
  let s := { s with bd := { s.bd with rrs := smapSet 0 s.bd.rrs n (smapGet 0 s.bd.rrs n + 1) } }
  s.when (s.rerunsDone n) (·.flag R.IG_STATUS_rr_limit)

/-- The work of round n starts now. -/
def State.startWork (s : State) (n : Nat) : State :=
  match s.ck.work with
  | some (m, _) => if m = n then s else { s with ck := { s.ck with work := some (n, s.nowNs) } }
  | none => { s with ck := { s.ck with work := some (n, s.nowNs) } }

end Sys2Proof.Machine
end

