-- ==== Sys2Proof/Machine/CellTx.lean ====
section
/-! DEFINITION. The cell layer's sending side: packets cut into cells (R31, R34), and the castling messages that
travel as packets of the CST port (R198, Table 9-1). -/

namespace Sys2Proof.Machine

/-- What a port holds besides its registers; CST is port 16. -/
def State.ulp (s : State) (p : Nat) : UlPort := smapGet default s.ul.port p

def State.setUlp (s : State) (p : Nat) (x : UlPort) : State :=
  { s with ul := { s.ul with port := smapSet default s.ul.port p x } }

/-- The port's state field: 0 = DISABLED; 1 = TRAINING; 2 = DESKEW; 3 = UP; 4 = DOWN. -/
def portState (p : Nat) : FRef := if p < 16 then R.IN_PORTSTAT_state p else R.CS_PORTSTAT_state

def State.portUp (s : State) (p : Nat) : Bool := s.rd (portState p) = 3

/-- Configured lanes of a port (R29, R198). -/
def State.portLanes (s : State) (p : Nat) : Nat :=
  if p < 16 then
    match s.rd (R.IN_PORTCTL_lanes p) with
    | 0 => 4
    | 1 => 2
    | _ => 1
  else 4

/-- A cell: kind, fill, seq, hcrc over them, and the body padded with zeros to 252 bytes (Table 2-3). -/
def cellBytes (kind seq : Nat) (body : Bytes) : Bytes :=
  let h := [BitVec.ofNat 8 kind, BitVec.ofNat 8 body.length, BitVec.ofNat 8 seq]
  h ++ [BitVec.ofNat 8 (crc8 h)] ++ body ++ zeros (252 - body.length)

/-- Sends one counted cell: seq advances by one (R31), and slot k goes to lane k mod l (R32). -/
def State.sendCell (s : State) (p kind : Nat) (body : Bytes) : State :=
  let x := s.ulp p
  let q := (x.txSeq + 1) % 256
  (s.setUlp p { x with txSeq := q, txSlot := x.txSlot + 1 }).emit
    (.cell p (x.txSlot % s.portLanes p) (cellBytes kind q body))

/-- Sends one alignment cell on a lane: it takes no cell slot of the port and does not advance seq (R31, R32). -/
def State.sendUncounted (s : State) (p lane kind : Nat) (body : Bytes) : State :=
  s.emit (.cell p lane (cellBytes kind (s.ulp p).txSeq body))

/-- Idle cells fill the slots up to the next cell (Table 2-4). (DESIGN CHOICE: log entry 167.) -/
def State.idleFill (s : State) (p : Nat) : State :=
  let x := s.ulp p
  let n := Config.idleCells s.fresh
  ((s.setUlp p { x with txSlot := x.txSlot + n }).emit (.idle p n x.txSeq)).tick

/-- A packet's bytes in pieces of 252. -/
def chunks : Nat → Bytes → List Bytes
  | 0, _ => []
  | n + 1, bs => if bs.length ≤ 252 then [bs] else bs.take 252 :: chunks n (bs.drop 252)

/-- The kind of cell i of n: only, first, last or middle (Table 2-3). -/
def cellKind (n i : Nat) : Nat := if n = 1 then 5 else if i = 0 then 2 else if i + 1 = n then 4 else 3

/-- Sends a packet as consecutive cells: only, or first, middle … last (R34). -/
def State.sendPacket (s : State) (p : Nat) (bs : Bytes) : State :=
  let cs := chunks bs.length bs
  let n := cs.length
  (s.idleFill p).fold cs.zipIdx (fun s c => s.sendCell p (cellKind n c.2) c.1)

/-! ## Castling messages -/

/-- CS_STATUS.state: 0 = UNPAIRED; 1 = UNSYNC; 2 = SYNC; 3 = ACTIVE; 4 = FENCED; 5 = HANDING. -/
def State.csState (s : State) : Nat := s.rd R.CS_STATUS_state

/-- A castling message (Table 9-1). -/
def castMessage (msg mseq claim : Nat) (body : Bytes) : Bytes :=
  let h := leBytes 2 0x4354 ++ leBytes 1 1 ++ leBytes 1 msg ++ leBytes 2 body.length ++ leBytes 2 mseq ++ leBytes 8 claim
  h ++ body ++ leBytes 4 (crc32c (h ++ body))

/-- Sends a castling message while castling is on and the link is UP; mseq counts per type. -/
def State.castSend (s : State) (msg : Nat) (body : Bytes) : State :=
  if s.on R.CS_CTL_en && s.portUp 16 then
    let q := smapGet 0 s.cs.mseq msg
    let s := { s with cs := { s.cs with mseq := smapSet 0 s.cs.mseq msg ((q + 1) % 65536) } }
    s.sendPacket 16 (castMessage msg q (s.rq R.CS_CLAIM) body)
  else s

/-- One transition of LEASE_OUT (R200). -/
def State.pinToggle (s : State) : State :=
  ({ s with cs := { s.cs with pin := !s.cs.pin } }).emit (.pin "LEASE_OUT" (!s.cs.pin))

/-- The body of a LEASE message (Table 9-2). -/
def State.leaseBody (s : State) (resign handover : Bool) (round : Nat) : Bytes :=
  leBytes 8 s.cs.leaseSeq ++ leBytes 4 (s.rd R.CF_EPOCH_epoch) ++ leBytes 2 (s.rd R.TB_STATUS_epoch)
    ++ leBytes 1 s.csState ++ leBytes 1 ((if resign then 1 else 0) + (if handover then 2 else 0))
    ++ leBytes 4 (s.word (R.CF_CFGHASH 0)).toNat ++ leBytes 4 (s.word (R.CF_CFGHASH 1)).toNat ++ leBytes 8 round

/-- Sends a LEASE message with the next lease sequence number. -/
def State.sendLease (s : State) (resign handover : Bool) (round : Nat) : State :=
  let s := { s with cs := { s.cs with leaseSeq := s.cs.leaseSeq + 1 } }
  s.castSend 1 (s.leaseBody resign handover round)

/-! ## Watermarks (R215) -/

/-- The lowest segment of an instance not yet sent. -/
def Inst.unsent (x : Inst) : Option Nat := lowest (ceilDiv x.bodyLen (max 1 x.seg)) (fun i => !(smapGet false x.sent i))

/-- Segments of an instance. -/
def Inst.segs (x : Inst) : Nat := ceilDiv x.bodyLen (max 1 x.seg)

/-- Segments of an instance not yet sent. -/
def Inst.left (x : Inst) : Nat := ((List.range x.segs).filter (fun i => !(smapGet false x.sent i))).length

/-- wm of a stream: every frame with a lower sequence number has left, and none after it is counted. -/
def State.watermark (s : State) (st : Nat) : Nat :=
  match s.ot.insts.find? (fun x => x.stream = st && x.unsent.isSome && x.first.isSome) with
  | some x => x.first.getD 0 + x.unsent.getD 0
  | none => s.rq (R.OT_SEQ st)

/-- A field of a committed beam configuration. -/
def cfgField (c : SMap Word) (f : FRef) : Nat := getBits (smapGet (csrReset f.a) c f.a).toNat f.lo f.w

/-- A stream has a source (R161, R215): an open group, a profile in use, an enabled voltage entry for Ethernet, or an
enabled TPW, FLG, CAP, HLT or TIM. -/
def State.hasSource (s : State) (st : Nat) : Bool :=
  if st < 63 then s.rd (R.AG_GSTAT_state st) != 0
  else if st = 64 ∨ st = 65 then
    s.ba.cfgs.any (fun c => (List.range 1152).any (fun b =>
      cfgField c.2 (R.BA_BEAM_det b) != 0 && cfgField c.2 (R.BA_BEAM_prof b) = st - 64))
  else if 128 ≤ st ∧ st < 192 then
    s.ba.cfgs.any (fun c => cfgField c.2 (R.BA_VLSTA_en (st - 128)) = 1 && cfgField c.2 (R.BA_VLSTA_to_eth (st - 128)) = 1)
  else if st = 192 then s.on R.OT_TPW_en
  else if st = 193 then s.on R.OT_FLG_en
  else if st = 194 then s.on R.OT_CAPA_en
  else if st = 195 then s.on R.OT_HLT_en
  else if st = 196 then s.on R.OT_TIM_en
  else false

/-- The streams with a source. -/
def State.sourceStreams (s : State) : List Nat := (List.range 197).filter s.hasSource

/-- The voltage stream of a Uhlain port, beside the streams of Table 7-5 (R224). -/
def ulpStream (p : Nat) : Nat := 65536 + p

/-- The number by which a castling message names a stream. (DESIGN CHOICE: log entry 107.) -/
def wireStream (st : Nat) : Nat := if st < 65536 then st else 197 + Config.ulpStreamNo (st - 65536)

/-- The stream that a castling message names. -/
def namedStream (w : Nat) : Nat :=
  if w < 197 then w else ((lowest 16 (fun p => wireStream (ulpStream p) = w)).map ulpStream).getD w

/-- The beams that a committed configuration sends on port p. -/
def State.ulpBeams (s : State) (p : Nat) : List Nat :=
  (s.ba.cfgs.flatMap (fun c => ((List.range 64).filter (fun v => cfgField c.2 (R.BA_VLSTA_en v) = 1
    && cfgField c.2 (R.BA_VLSTA_to_ulp v) = 1 && cfgField c.2 (R.BA_VLSTA_ulp v) = p)).map
      (fun v => cfgField c.2 (R.BA_VLSTA_j v) / 2))).dedup

/-- The ports whose voltage stream has a source. -/
def State.ulpSources (s : State) : List Nat :=
  (List.range 16).filter (fun p => s.on (R.IN_PORTCTL_tx_en p) && !(s.ulpBeams p).isEmpty)

/-- The SC below which every voltage packet of port p has left. -/
def State.ulpMark (s : State) (p : Nat) : Nat :=
  match (s.ulpBeams p).map (fun b => smapGet 0 s.ba.vpos (p * 2048 + b) / 4096) with
  | [] => 0
  | x :: l => l.foldl min x

/-- The body of a WMARK message. (DESIGN CHOICE: log entry 107.) -/
def State.wmarkBody (s : State) : Bytes :=
  let rec1 (st wm : Nat) : Bytes := leBytes 2 (wireStream st) ++ zeros 6 ++ leBytes 8 wm
  s.sourceStreams.flatMap (fun st => rec1 st (s.watermark st)) ++ s.ulpSources.flatMap (fun p => rec1 (ulpStream p) (s.ulpMark p))

/-! ## The end of an instance's output -/

/-- A closed integration's output is complete: its area is read no more and its taints are gone (R113, R121). -/
def State.outputDone (s : State) (g i area : Nat) : State :=
  let rest := s.ag.closed.filter (fun p => ¬ (p.1 = g ∧ p.2.idx = i))
  let s := { s with ag := { s.ag with closed := rest, taints := s.ag.taints.filter (fun t => ¬ (t.g = g ∧ t.i = i)) } }
  let busy := rest.any (fun p => p.1 = g ∧ p.2.area = area)
  (s.wr (R.AG_GSTAT_reading g) (setBit (s.rd (R.AG_GSTAT_reading g)) area busy)).wr R.AG_TAINT_used s.ag.taints.length

/-- An instance of the unit's payload is held or discarded, not sent, in its castling state (Table 9-3). -/
def State.silent (s : State) : Bool := s.csState = 1 || s.csState = 2 || s.csState = 4

/-- The unit is prepared for a handover and stream st is not handed to it yet (R224). -/
def State.awaits (s : State) (st : Nat) : Bool :=
  (s.csState = 1 && s.on R.CS_STATUS_prep) || (s.csState = 3 && s.cs.hand.isSome && !s.cs.handed.contains st)

/-- The unit keeps a shadow of stream st, so that an instance dropped from it is lost (R216, R224). -/
def State.shadows (s : State) (st : Nat) : Bool := s.csState = 2 || s.awaits st

/-- The active's watermark covers the whole of an instance (R215). -/
def State.covered (s : State) (x : Inst) : Bool :=
  match x.first with
  | some f => decide (f + x.segs ≤ smapGet 0 s.cs.peerWm x.stream)
  | none => false

/-- Instances that leave the shadow uncovered are counted (R216, R224). -/
def State.noteLost (s : State) (l : List Inst) : State :=
  s.incBy (R.CS_CNT 9) (l.filter (fun x => decide (x.typ < 6) && s.shadows x.stream && !s.covered x)).length

/-- OUTPUT_TRUNCATE (R179, R216): an area still being read is due for a drain write. A unit that sends abandons the
unread segments; a unit that holds drops the instance from its shadow. (DEDUCED: log entry 92.) -/
def State.truncateArea (s : State) (g area : Nat) : State :=
  s.fold (s.ag.closed.filter (fun p => p.1 = g ∧ p.2.area = area)) (fun s p =>
    if p.2.rel then
      let isIt (x : Inst) : Bool := x.typ = 0 && x.stream = g && x.inst = p.2.idx
      let n := ((s.ot.insts.filter isIt).map Inst.left).sum
      let s := if s.silent || s.awaits g then s.noteLost (s.ot.insts.filter isIt)
        else if n = 0 then s else (s.flag R.OT_STATUS_trunc).incBy (R.OT_CNT 2) n
      ({ s with ot := { s.ot with insts := s.ot.insts.filter (fun x => !isIt x) } }).outputDone g p.2.idx area
    else
      { s with ag := { s.ag with closed := s.ag.closed.map (fun q => if q = p then (q.1, { q.2 with cut := true }) else q) } })

/-! ## Resignation (R219) and what impairs the unit (Table 8-4) -/

/-! ## Silenced outputs (R358) -/

/-- The unit's castling role lets it take or send plans: it is active in a pair. -/
def State.isActive (s : State) : Bool := s.csState = 3 || s.csState = 5

/-- Outputs are silenced by Endgame or castling (R358, Table 9-3). -/
def State.auHeld (s : State) : Bool := s.ck.eg != 0 || (s.csState != 0 && s.csState != 3 && !s.on R.CS_CTL_aes_sb)

/-- Output o is silenced (R358). -/
def State.auSilenced (s : State) (o : Nat) : Bool := s.auHeld || !s.on (R.AU_OUTCTL_en o)

/-- Gives channel m its queue. -/
def State.auSetQ (s : State) (m : Nat) (q : List Nat) : State :=
  { s with au := { s.au with queue := smapSet [] s.au.queue m q } }

/-- Gives channel m its gain step. -/
def State.auSetG (s : State) (m g : Nat) : State :=
  { s with au := { s.au with gain := smapSet 0 s.au.gain m g } }

/-- Marks whether an overrun's words are being discarded. -/
def State.auFlush (s : State) (m : Nat) (b : Bool) : State :=
  { s with au := { s.au with flush := smapSet false s.au.flush m b } }

/-- A silenced channel is SILENT and its buffer is discarded (R358). -/
def State.auQuiet (s : State) (m : Nat) : State :=
  let s := (s.auSetQ m []).auSetG m 0
  (s.auFlush m false).wr (R.AU_CHSTAT_state m) 0

/-- Every channel of a silenced output is quiet: called whenever a silencing condition may have begun. -/
def State.auCheck (s : State) : State :=
  if s.on R.AU_CTL_en then
    s.fold (List.range 16) (fun s m => if s.auSilenced (m / 2) then s.auQuiet m else s)
  else s

/-- The resignation's messages, in order: a final WMARK, LEASE with the resign bit, two transitions of LEASE_OUT. -/
def State.resignNow (s : State) (handover : Bool) (next : Nat) : State :=
  let s := s.castSend 3 s.wmarkBody
  let s := s.sendLease true handover (s.cs.hand.getD 0)
  ((s.pinToggle.pinToggle).wr R.CS_STATUS_state next).auCheck

/-- A resignation ordered by Table 8-4: only an active unit, and only to a synchronised standby. -/
def State.resignFault (s : State) : State :=
  if s.csState = 3 then
    if s.cs.peerState = 2 then
      let s := (s.resignNow false 1).wr R.CS_STATUS_sole 0
      { s with cs := { s.cs with joined := none } }
    else s.inc (R.CS_CNT 11)
  else s

/-- Instances leave the unit's hands unsent: the areas they lie in are read no more. -/
def State.forget (s : State) (l : List Inst) : State :=
  let s := { s with ot := { s.ot with insts := s.ot.insts.filter (fun x => !l.contains x) } }
  s.fold l (fun s x => match x.body with
    | .vis g y _ _ => s.outputDone g y.idx y.area
    | _ => s)

/-- A synchronised standby becomes unsynchronised: it drops the shadow (Table 9-4). -/
def State.toUnsync (s : State) : State :=
  if s.csState = 2 then
    let held := s.ot.insts.filter (fun x => x.typ < 6)
    let s := (s.noteLost held).forget held
    ({ s with cs := { s.cs with joined := none, guard := false } }).wr R.CS_STATUS_state 1
  else s

/-- The source of staged products held by a synchronised standby or a prepared unit is reused when round n begins to
use it: instances two rounds old are dropped from the shadow (R216, R224). -/
def State.shadowReuse (s : State) (n : Nat) (staged : Nat → Bool) : State :=
  let old (x : Inst) : Bool := staged x.typ && s.shadows x.stream && (match s.roundOf (x.scEnd - 1) with
    | some m => decide (m + 2 ≤ n)
    | none => false)
  let l := s.ot.insts.filter old
  if l.isEmpty then s else (s.noteLost l).forget l

/-- An event that impairs the unit (Table 8-4, third row): IMPAIRED, resign; a standby that leaves NORMAL or DEGRADED
is no longer synchronised. -/
def State.impair (s : State) (round : Nat) : State :=
  let s := { s with ig := { s.ig with impaired := max s.ig.impaired (round + 1) } }
  if s.rd R.IG_STATUS_hstate ≤ 2 then ((s.setHstate 2).resignFault).toUnsync else s

/-- A repair, or a repair due in a repaired line: NORMAL or DEGRADED goes to DEGRADED. -/
def State.degrade (s : State) : State := if s.rd R.IG_STATUS_hstate ≤ 1 then s.setHstate 1 else s

end Sys2Proof.Machine
end

