-- ==== Sys2Proof/Machine/Cells.lean ====
section
/-! DEFINITION. What a ply computes: the feeders' samples (R83), the cells (R84 to R88), the checker lines and the corner
(R185), the residuals (R186), their classification and the corrections (R187, R188). -/

namespace Sys2Proof.Machine

/-! ## Vectors of 8 components and the weight -/

/-- Adds two vectors of 9 integers. -/
def vecAdd (u v : List Int) : List Int := (List.range 9).map (fun i => u.getD i 0 + v.getD i 0)

/-- Negates a vector. -/
def vecNeg (u : List Int) : List Int := u.map (fun x => -x)

/-- The zero residual vector. -/
def vecZero : List Int := List.replicate 9 0

/-- The sum of vectors. -/
def vecSum (l : List (List Int)) : List Int := l.foldl vecAdd vecZero

/-- Sum of the vectors a list gives for a key. -/
def sumFor (l : List (Nat × List Int)) (k : Nat) : List Int := vecSum ((l.filter (fun p => p.1 = k)).map Prod.snd)

/-! ## Cell arithmetic (R84 to R88) -/

/-- The samples of both polarisations, real and imaginary. -/
abbrev Dual := (Int × Int) × (Int × Int)

/-- What a line carries at one step: its valid bit and its samples. -/
abbrev Line := Bool × Dual

/-- The eight parts that x · conj(y) adds, in product order 2p + q, real before imaginary (R84). -/
def products (x y : Dual) : List Int :=
  (List.range 4).flatMap (fun i =>
    let a := if i / 2 = 0 then x.1 else x.2
    let b := if i % 2 = 0 then y.1 else y.2
    [a.1 * b.1 + a.2 * b.2, a.2 * b.1 - a.1 * b.2])

/-- The high digit, signed, or the low digit, unsigned, of every part of a sample (R86). -/
def digits (high : Bool) (x : Dual) : Dual :=
  let f (v : Int) : Int := if high then v / 16 else v % 16
  ((f x.1.1, f x.1.2), (f x.2.1, f x.2.2))

/-- The four partial products of an 8+8 sample, each with its weight, in step order (R86). -/
def digitSteps (x y : Dual) : List (List Int) :=
  [(true, true, 256), (true, false, 16), (false, true, 16), (false, false, 1)].map (fun d =>
    (products (digits d.1 x) (digits d.2.1 y)).map (fun v => v * d.2.2))

/-- An accumulator's value saturated to its range, and whether it left it (R88, R127 case 1). -/
def saturate (bits : Nat) (x : Int) : Int × Bool :=
  let hi : Int := 2 ^ (bits - 1) - 1
  if hi < x then (hi, true) else if x < -(2 ^ (bits - 1) : Int) then (-(2 ^ (bits - 1) : Int), true) else (x, false)

/-- A bank of a cell: the 40-bit slow stages, the 16-bit fast stages, the 24-bit weight counter and the limit bit (R85,
R87, R88). -/
structure Bank where
  slow : List Int
  fast : List Int
  wt : Nat
  lim : Bool
  deriving DecidableEq, Repr, Inhabited

/-- An empty bank. -/
def bankZero : Bank := ⟨List.replicate 8 0, List.replicate 8 0, 0, false⟩

/-- Adds into the slow stages; an accumulator that would leave its range stops at the limit and sets the limit bit (R88). -/
def Bank.addSlow (b : Bank) (v : List Int) : Bank :=
  let z := (b.slow.zip v).map (fun p => saturate 40 (p.1 + p.2))
  { b with slow := z.map Prod.fst, lim := b.lim || z.any Prod.snd }

/-- Moves the fast stages into the slow stages (R85). -/
def Bank.spill (b : Bank) : Bank := { (b.addSlow b.fast) with fast := List.replicate 8 0 }

/-- One sample of width w at an SC enters the bank: 4+4 adds into the fast stages, spilled before every SC that is a
multiple of 128; 8+8 adds its four partial products into the slow stages; the weight counts samples valid in both. -/
def Bank.take (b : Bank) (w sc : Nat) (x y : Line) : Bank :=
  let b :=
    if w = 2 then (digitSteps x.2 y.2).foldl Bank.addSlow b
    else
      let b := if sc % 128 = 0 then b.spill else b
      { b with fast := (b.fast.zip (products x.2 y.2)).map (fun p => p.1 + p.2) }
  { b with wt := b.wt + (if x.1 && y.1 then 1 else 0) }

/-- The bank at the marker, after the given samples: SC, rank and file (R94). -/
def cellBank (w : Nat) (l : List (Nat × Line × Line)) : Bank :=
  (l.foldl (fun b p => b.take w p.1 p.2.1 p.2.2) bankZero).spill

/-- What a fault makes of a bank: its accumulators and its counter altered, within their widths, or its limit bit set. -/
def Bank.alter (b : Bank) (d : List Int) (lim : Bool) : Bank :=
  let c := b.addSlow d
  { c with wt := (((b.wt : Int) + d.getD 8 0) % 2 ^ 24).toNat, lim := c.lim || lim }

/-- The drained values of a bank: 8 components and the weight. -/
def Bank.drained (b : Bank) : List Int := b.slow ++ [(b.wt : Int)]

/-! ## The feeders (R83) -/

/-- The word of the table entry that pass q of round n runs, and its slab channel index (R91). -/
def State.passEntry (s : State) (n q : Nat) : Nat × Nat :=
  let t := (s.tableOf n).entries
  let p := max 1 t.length
  (t.getD (q % p) 0, ((s.planOf n).map Plan.chans).getD [] |>.getD (q / p) 0)

/-- What a feeder sends for antenna a at sample t of a ply: the slab as it stood when the ply closed. -/
def State.plyLine (s : State) (p : Ply) (a t : Nat) : Line :=
  let j := (s.passEntry p.round p.q).2
  let at_ (pol : Nat) := State.fedAt { s with mem := p.img } p.base p.round a pol j t
  ((at_ 0).1, (at_ 0).2, (at_ 1).2)

/-- Logical rank l of a ply. -/
def State.rankLine (s : State) (p : Ply) (l t : Nat) : Line :=
  s.plyLine p (512 * (ptEntry (s.passEntry p.round p.q).1).1 + l) t

/-- Logical file m of a ply; a disabled half sends 0 with valid bit 0. -/
def State.fileLine (s : State) (p : Ply) (m t : Nat) : Line :=
  let e := ptEntry (s.passEntry p.round p.q).1
  if m < 512 then s.plyLine p (512 * e.2.1 + m) t
  else
    match e.2.2 with
    | some f1 => s.plyLine p (512 * f1 + (m - 512)) t
    | none => (false, (0, 0), (0, 0))

/-- The samples of a ply. -/
def Ply.samples (p : Ply) : List Nat := (List.range (p.t1 - p.t0)).map (· + p.t0)

/-- The bank that cell (l, m) drains for a ply, faults included. -/
def State.cellOf (s : State) (p : Ply) (f : PlyFaults) (l m : Nat) : Bank :=
  (cellBank s.width (p.samples.map (fun t => (s.roundSc p.round + t, s.rankLine p l t, s.fileLine p m t)))).alter
    (vecSum ((f.cells.filter (fun c => c.1 = l ∧ c.2.1 = m)).map (fun c => c.2.2))) (f.lims.contains (l, m))

/-! ## The checker lines and the corner (R185) -/

/-- Adds two samples. -/
def dualAdd (x y : Dual) : Dual :=
  ((x.1.1 + y.1.1, x.1.2 + y.1.2), (x.2.1 + y.2.1, x.2.2 + y.2.2))

/-- What a checker line receives at one step: the number of valid lines and the sum of their samples. -/
def lineSum (l : List Line) : Nat × Dual :=
  l.foldl (fun acc x => (acc.1 + (if x.1 then 1 else 0), dualAdd acc.2 x.2)) (0, (0, 0), (0, 0))

/-- S_q(t) and n(t), over the 1,024 logical files. -/
def State.fileSum (s : State) (p : Ply) (t : Nat) : Nat × Dual :=
  lineSum ((List.range 1024).map (fun m => s.fileLine p m t))

/-- R_p(t) and the number of valid ranks, over the 512 logical ranks. -/
def State.rankSum (s : State) (p : Ply) (t : Nat) : Nat × Dual :=
  lineSum ((List.range 512).map (fun l => s.rankLine p l t))

/-- Values held in two's complement of a width. -/
def vecWrap (bits : Nat) (v : List Int) : List Int := v.map (fun x => toSigned bits (ofSigned bits x))

/-- C_l and K_l of the checker-file cell of rank l, faults included. -/
def State.chkFileOf (s : State) (p : Ply) (f : PlyFaults) (l : Nat) : List Int :=
  vecWrap 56 (vecAdd (sumFor f.chkFile l) (vecSum (p.samples.map (fun t =>
    products (s.rankLine p l t).2 (s.fileSum p t).2 ++ [if (s.rankLine p l t).1 then ((s.fileSum p t).1 : Int) else 0]))))

/-- D_m and the weight check of the checker-rank cell of file m, faults included. -/
def State.chkRankOf (s : State) (p : Ply) (f : PlyFaults) (m : Nat) : List Int :=
  vecWrap 56 (vecAdd (sumFor f.chkRank m) (vecSum (p.samples.map (fun t =>
    products (s.rankSum p t).2 (s.fileLine p m t).2 ++ [if (s.fileLine p m t).1 then ((s.rankSum p t).1 : Int) else 0]))))

/-- The corner cell, faults included. -/
def State.cornerOf (s : State) (p : Ply) (f : PlyFaults) : List Int :=
  vecWrap 64 ((vecAdd f.corner (vecSum (p.samples.map (fun t => products (s.rankSum p t).2 (s.fileSum p t).2)))).take 8)

/-! ## Residuals and their classification (R186, R187) -/

/-- The residuals of a ply that are not zero, by rank and by file, and ΔZ over the checker-rank values and over the
checker-file values. -/
structure Resid where
  ranks : List (Nat × List Int)
  files : List (Nat × List Int)
  zRank : List Int
  zFile : List Int
  deriving DecidableEq, Repr, Inhabited

/-- Every residual as the exact sum of the drained values minus the checker value (R186). -/
def State.residuals (s : State) (p : Ply) (f : PlyFaults) : Resid :=
  let nonzero (l : List (Nat × List Int)) := l.filter (fun x => x.2 ≠ vecZero)
  let less (l : List (List Int)) (c : List Int) := vecAdd (vecSum l) (vecNeg c)
  ⟨nonzero ((List.range 512).map (fun l =>
      (l, less ((List.range 1024).map (fun m => (s.cellOf p f l m).drained)) (s.chkFileOf p f l)))),
    nonzero ((List.range 1024).map (fun m =>
      (m, less ((List.range 512).map (fun l => (s.cellOf p f l m).drained)) (s.chkRankOf p f m)))),
    (less ((List.range 1024).map (s.chkRankOf p f)) (s.cornerOf p f)).take 8,
    (less ((List.range 512).map (s.chkFileOf p f)) (s.cornerOf p f)).take 8⟩

/-- The cells of a ply whose limit bit is set (R88). -/
def State.limCells (s : State) (p : Ply) (f : PlyFaults) : List (Nat × Nat) :=
  (List.range 512).flatMap (fun l => ((List.range 1024).filter (fun m => (s.cellOf p f l m).lim)).map (fun m => (l, m)))

/-- What the checks decide for a ply: status 0 = pass, 1 = corrected, 2 = unlocatable; the kind of correction
(0 none, 1 cell, 2 rank, 3 file); the cells to correct with the vector to subtract; a checker fault. -/
structure Verdict where
  status : Nat
  kind : Nat
  fixes : List (Nat × Nat × List Int)
  checker : Bool
  deriving DecidableEq, Repr

/-- Table 8-2. (DEDUCED: log entry 74.) -/
def classify (r : Resid) : Verdict :=
  let z0 := List.replicate 8 (0 : Int)
  let total (l : List (Nat × List Int)) := vecSum (l.map Prod.snd)
  let rerun : Verdict := ⟨2, 0, [], false⟩
  match r.ranks, r.files with
  | [], [] => ⟨0, 0, [], decide (r.zRank ≠ z0 ∨ r.zFile ≠ z0)⟩
  | [(l, v)], [(m, w)] => if v = w then ⟨1, 1, [(l, m, v)], false⟩ else rerun
  | [_], [] => if r.zRank = z0 then ⟨0, 0, [], true⟩ else rerun
  | [], [_] => if r.zFile = z0 then ⟨0, 0, [], true⟩ else rerun
  | [(l, v)], fs => if v = total fs then ⟨1, 2, fs.map (fun p => (l, p.1, p.2)), false⟩ else rerun
  | rs, [(m, w)] => if w = total rs then ⟨1, 3, rs.map (fun p => (p.1, m, p.2)), false⟩ else rerun
  | _, _ => rerun

/-- The values of a cell after correction; a cell with the limit bit keeps its drained values (R188). -/
def correctedCell (v : Verdict) (l m : Nat) (b : Bank) : List Int :=
  if b.lim then b.drained
  else vecAdd b.drained (vecNeg (vecSum ((v.fixes.filter (fun p => p.1 = l ∧ p.2.1 = m)).map (fun p => p.2.2))))

/-- Stored orientation (R93): the pair and its product vector; none for a discarded cell. `r` and `f` are the rank
and file blocks, l and m the logical rank and the file within its half. -/
def storedCell (r f l m : Nat) (v : List Int) : Option (Nat × Nat × List Int) :=
  let a := 512 * r + l
  let b := 512 * f + m
  let neg (x : Int) : Int := if x = -(2 ^ 39 : Int) then 2 ^ 39 - 1 else -x
  let tr := [v.getD 0 0, neg (v.getD 1 0), v.getD 4 0, neg (v.getD 5 0), v.getD 2 0, neg (v.getD 3 0), v.getD 6 0, neg (v.getD 7 0)]
  if r < f then some (a, b, v.take 8)
  else if f < r then some (b, a, tr)
  else if l ≤ m then some (a, b, v.take 8) else none

end Sys2Proof.Machine
end

