-- ==== Sys2Proof/Machine/Accum.lean ====
section
/-! DEFINITION. Accumulation: the Pair Map's destinations (R107), the area layout (R117, R118), adding ply results
(R123 to R128), and the life of integrations (R115, R116, R119, R122, R130). -/

namespace Sys2Proof.Machine

/-! ## State tiles and areas -/

/-- The state tiles (u, v), u ≤ v, in the order of their numbers (R117). -/
def tileList : List (Nat × Nat) :=
  (List.range 64).flatMap (fun u => (List.range (64 - u)).map (fun d => (u, u + d)))

/-- The number of tile (u, v) (R117). -/
def tileNo (u v : Nat) : Nat := 64 * u - u * (u - 1) / 2 + (v - u)

/-- Positions of a tile. -/
def tileSize (uv : Nat × Nat) : Nat := if uv.1 = uv.2 then 2080 else 4096

/-- Position of pair (a, b) in its tile. -/
def tilePos (a b : Nat) : Nat :=
  let i := a % 64
  let j := b % 64
  if a / 64 = b / 64 then 64 * i - i * (i - 1) / 2 + (j - i) else i * 64 + j

/-- Group g holds tile t. -/
def State.holdsTile (s : State) (g t : Nat) : Bool := (s.word (R.AG_GTILE g (t / 32))).toNat.testBit (t % 32)

/-- Group g holds the tile of pair (a, b). -/
def State.holdsPair (s : State) (g a b : Nat) : Bool := s.holdsTile g (tileNo (a / 64) (b / 64))

/-- The tiles group g holds, in slot order. -/
def State.heldTiles (s : State) (g : Nat) : List Nat :=
  (List.range 65).flatMap (fun w =>
    ((List.range 32).filter (fun i => (s.word (R.AG_GTILE g w)).toNat.testBit i)).map (fun i => 32 * w + i))

/-- cum(slot) of R118 for tile t: the positions of the held tiles before it. -/
def State.cumPos (s : State) (g t : Nat) : Nat :=
  (((s.heldTiles g).filter (fun k => decide (k < t))).map (fun k => tileSize (tileList.getD k (0, 0)))).sum

/-- N_g, the positions of a group. -/
def State.groupPos (s : State) (g : Nat) : Nat := s.cumPos g 2080

/-- Bytes of one component: 4 for int32, 8 for int64. -/
def State.compBytes (s : State) (g : Nat) : Nat := if s.on (R.AG_GCFG_fmt g) then 8 else 4

/-- C_g. -/
def State.groupCh (s : State) (g : Nat) : Nat := s.rd (R.AG_GCH_ch_num g)

/-- AG_GSIZE, the bytes of an area (R118). -/
def State.groupSize (s : State) (g : Nat) : Nat :=
  ceilDiv (s.groupCh g * s.groupPos g * (8 * s.compBytes g + 4)) 4096 * 4096

/-- idx of R118. (DESIGN CHOICE: log entry 183: a pair whose tile is not held.) -/
def State.recIdx (s : State) (g c a b : Nat) : Nat :=
  (c - s.rd (R.AG_GCH_ch_lo g)) * s.groupPos g + s.cumPos g (tileNo (a / 64) (b / 64)) + tilePos a b

/-- HBM base of an area. -/
def State.areaBase (s : State) (g area : Nat) : Nat := if area = 0 then s.rq (R.AG_GBASE0 g) else s.rq (R.AG_GBASE1 g)

/-- Address of a visibility record. -/
def State.visAddr (s : State) (g area c a b : Nat) : Nat :=
  s.areaBase g area + s.recIdx g c a b * (8 * s.compBytes g)

/-- Address of a weight. -/
def State.wgtAddr (s : State) (g area c a b : Nat) : Nat :=
  s.areaBase g area + s.groupCh g * s.groupPos g * (8 * s.compBytes g) + s.recIdx g c a b * 4

/-- The sentinel weight (R127). -/
def sentinel : Nat := 0xFFFFFFFF

/-- The eight components of a record, real before imaginary, in product order. -/
def State.recGet (s : State) (g area c a b : Nat) : List Int :=
  let w := s.compBytes g
  (List.range 8).map (fun i => toSigned (8 * w) (leNat (s.bytes (s.visAddr g area c a b + i * w) w)))

/-- The weight of a record. -/
def State.wgtGet (s : State) (g area c a b : Nat) : Nat := leNat (s.bytes (s.wgtAddr g area c a b) 4)

/-- Writes a record and its weight. -/
def State.recPut (s : State) (g area c a b : Nat) (v : List Int) (w : Nat) : State :=
  let n := s.compBytes g
  let bs := v.flatMap (fun x => leBytes n (ofSigned (8 * n) x))
  (s.setBytes (s.visAddr g area c a b) bs).setBytes (s.wgtAddr g area c a b) (leBytes 4 w)

/-! ## Groups and integrations -/

def State.grp (s : State) (g : Nat) : Grp := smapGet default s.ag.grp g

def State.setGrp (s : State) (g : Nat) (x : Grp) : State :=
  { s with ag := { s.ag with grp := smapSet default s.ag.grp g x } }

/-- AG_GSTAT_g.state: 0 = OFF; 1 = ARMED; 2 = INTEG; 3 = GAP; 4 = ENDING. -/
def State.gState (s : State) (g : Nat) : Nat := s.rd (R.AG_GSTAT_state g)

/-- len + gap of a group. -/
def State.groupCycle (s : State) (g : Nat) : Nat := s.rd (R.AG_GLEN_len g) + s.rd (R.AG_GLEN_gap g)

/-- s_i, the first round of integration i (R115). -/
def State.intStart (s : State) (g i : Nat) : Nat := (s.grp g).s + i * s.groupCycle g

/-- The integration of group g that round n lies in, by the schedule (R115, R116). -/
def State.schedule (s : State) (g n : Nat) : Option Nat :=
  let x := s.grp g
  let cut : Bool := match x.cmd with
    | some (_, b) => decide (b ≤ n)
    | none => false
  if s.gState g = 0 ∨ n < x.s ∨ cut then none
  else if (n - x.s) % s.groupCycle g < s.rd (R.AG_GLEN_len g) then some ((n - x.s) / s.groupCycle g) else none

/-- The integration in progress that covers round n. -/
def State.intOf (s : State) (g n : Nat) : Option Integ := (s.grp g).ints.find? (fun x => x.r0 ≤ n ∧ n ≤ x.r1)

/-- Replaces an integration in progress. -/
def State.setInt (s : State) (g : Nat) (x : Integ) : State :=
  let r := s.grp g
  s.setGrp g { r with ints := r.ints.map (fun y => if y.idx = x.idx then x else y) }

/-- The groups 0–62. -/
def groupList : List Nat := List.range 63

/-! ## Destinations (R107) -/

/-- The Pair Map for the plies of round n: a journal applied at b leaves the old map for earlier rounds, and a bound
journal not yet applied governs the rounds from its own onward (R112). -/
def State.pmFor (s : State) (n : Nat) : SMap (BitVec 16) :=
  match s.ag.pmOld.find? (fun p => n < p.1), s.ag.pmj with
  | some p, _ => p.2
  | none, some (b, es) =>
    if b ≤ n then es.foldl (fun m e => smapSet 0 m (e.1 * 4096 + e.2.1) (BitVec.ofNat 16 e.2.2)) s.ag.pm else s.ag.pm
  | none, none => s.ag.pm

/-- An entry of a Pair Map (Table 5-3). -/
def pmEntry (m : SMap (BitVec 16)) (u v : Nat) : Nat := (smapGet 0 m (u * 4096 + v)).toNat

/-- The product mask under which an entry feeds a group: 0 when it does not. -/
def entryMask (e g : Nat) : Nat := if getBits e 10 1 = 1 ∧ getBits e 0 6 = g ∧ g ≠ 63 then getBits e 6 4 else 0

/-- The product mask under which pair (a, b), a ≤ b, feeds group g (Table 5-2), ANDed with the group's own. -/
def State.feedMask (s : State) (m : SMap (BitVec 16)) (g a b : Nat) : Nat :=
  let raw :=
    if a < b then entryMask (pmEntry m a b) g ||| entryMask (pmEntry m b a) g
    else if getBits (pmEntry m a a) 10 1 = 1 ∧ getBits (pmEntry m a a) 0 6 = g then entryMask (pmEntry m a a) g
    else if s.on (R.AG_GCFG_auto g) ∧ s.holdsPair g a a then 0xF else 0
  raw &&& s.rd (R.AG_GCFG_pmask g)

/-- Channel c lies in g's range. -/
def State.chanIn (s : State) (g c : Nat) : Bool :=
  decide (s.rd (R.AG_GCH_ch_lo g) ≤ c ∧ c < s.rd (R.AG_GCH_ch_lo g) + s.groupCh g)

/-- The stored pairs (a, b), a ≤ b, of a block pair. -/
def pairsOf (bp : Nat) : List (Nat × Nat) :=
  let u := bp / 8
  let v := bp % 8
  (List.range 512).flatMap (fun i =>
    ((List.range 512).filter (fun j => decide (u ≠ v ∨ i ≤ j))).map (fun j => (512 * u + i, 512 * v + j)))

/-! ## Adding a ply (R123, R127) -/

/-- One pair's result of a ply (R102): stored pair, weight, eight components, limit bit, and the ply's integrity status:
0 = pass, 1 = corrected, 2 = re-run, 3 = invalid (R187). -/
structure PairRes where
  a : Nat
  b : Nat
  w : Nat
  comp : List Int
  lim : Bool
  status : Nat
  deriving DecidableEq, Repr

/-- The components outside a product mask become 0. -/
def maskComps (mask : Nat) (v : List Int) : List Int :=
  v.zipIdx.map (fun p => if mask.testBit (p.2 / 2) then p.1 else 0)

/-- The largest weight of a format (R127 case 2). -/
def maxWeight (bytes : Nat) : Nat := if bytes = 4 then 16777215 else 4294967294

/-- A record after a contribution: components, weight, and whether a limit of cases 1 or 2 was met. `bad` is any of
cases 3, 4 and 6, which leave the products as they are. (DESIGN CHOICE: log entry 184.) -/
def addRecord (bytes : Nat) (old : List Int) (oldW : Nat) (add : List Int) (w : Nat) (bad : Bool) : List Int × Nat × Bool :=
  if oldW = sentinel then (old, oldW, false)
  else if bad then (old, sentinel, false)
  else
    let sums := (old.zip add).map (fun p => saturate (8 * bytes) (p.1 + p.2))
    let hit := sums.any Prod.snd || decide (maxWeight bytes < oldW + w)
    (sums.map Prod.fst, if hit then sentinel else oldW + w, hit)

/-- Counts a sentinel written, and a limit. -/
def State.noteMark (s : State) (g oldW newW : Nat) (hit : Bool) : State :=
  let s := s.when (newW = sentinel && oldW != sentinel) (·.inc (R.AG_CNT 3))
  s.when hit (fun s => (s.inc (R.AG_CNT 4)).flag (R.AG_GSTAT_limit g))

/-- One pair's contribution to group g, and whether it met a limit. `fresh`: the block pair's bit was 0 (R123). -/
def State.addPair (s : State) (g area c : Nat) (fresh bad6 : Bool) (mask : Nat) (r : PairRes) : State × Bool :=
  let old := if fresh then List.replicate 8 0 else s.recGet g area c r.a r.b
  let oldW := if fresh then 0 else s.wgtGet g area c r.a r.b
  let out := addRecord (s.compBytes g) old oldW (maskComps mask r.comp) r.w (bad6 || r.status = 3 || r.lim)
  ((s.recPut g area c r.a r.b out.1 out.2.1).noteMark g oldW out.2.1 out.2.2, out.2.2)

/-- Writes zero products and zero weight (R123, positions that are no members). -/
def State.zeroPair (s : State) (g area c a b : Nat) : State := s.recPut g area c a b (List.replicate 8 0) 0

/-- Adds the results of one block pair of a ply to group g: conditions 1 to 4 of R107, then R123. -/
def State.addToGroup (s : State) (n c bp : Nat) (res : List PairRes) (g : Nat) : State :=
  match s.intOf g n with
  | none => s
  | some x =>
    let m := s.pmFor n
    let masks := res.map (fun r => (r, s.feedMask m g r.a r.b))
    if !(s.chanIn g c) || !(s.admits n g) || (s.schedule g n).isNone || masks.all (fun p => p.2 = 0) then s
    else
      let bad6 := s.compBytes g = 4 && s.width = 2
      let key := c * 64 + bp
      let fresh := !(smapGet false x.fresh key)
      let r := masks.foldl (fun (q : State × Bool) p =>
        if p.2 ≠ 0 then
          let z := q.1.addPair g x.area c fresh bad6 p.2 p.1
          (z.1, q.2 || z.2)
        else if fresh && q.1.holdsPair g p.1.a p.1.b then (q.1.zeroPair g x.area c p.1.a p.1.b, q.2)
        else q) (s.truncateArea g x.area, x.lim)
      let s := r.1
      let s := (s.setInt g { x with fresh := smapSet false x.fresh key true, lim := r.2 }).when (res.any (fun r => r.status != 3)) (·.inc (R.AG_CNT 0))
      s.when fresh (·.inc (R.AG_CNT 1))

/-- PLY_ACCUMULATE (R106, R123): a ply's results for one block pair reach every destination. -/
def State.addPly (s : State) (n c bp : Nat) (res : List PairRes) : State :=
  s.fold groupList (fun s g => s.addToGroup n c bp res g)

/-- INCOMPLETE_PASS_MARK (R128): the sentinel for the block pair's stored pairs in channel c, in every admitted
integrating group. -/
def State.markIncomplete (s : State) (n c bp : Nat) : State :=
  s.fold groupList (fun s g =>
    match s.intOf g n with
    | none => s
    | some x =>
      let m := s.pmFor n
      let mem := (pairsOf bp).filter (fun p => s.feedMask m g p.1 p.2 ≠ 0)
      if !(s.chanIn g c) || !(s.admits n g) || (s.schedule g n).isNone || mem.isEmpty then s
      else
        let key := c * 64 + bp
        let fresh := !(smapGet false x.fresh key)
        let s := s.truncateArea g x.area
        let s := s.when fresh (fun s => (s.fold ((pairsOf bp).filter (fun p => s.holdsPair g p.1 p.2))
          (fun s p => s.zeroPair g x.area c p.1 p.2)).inc (R.AG_CNT 1))
        let s := s.fold mem (fun s p =>
          let old := s.wgtGet g x.area c p.1 p.2
          ((s.setBytes (s.wgtAddr g x.area c p.1 p.2) (leBytes 4 sentinel)).noteMark g old sentinel false))
        (s.setInt g { x with fresh := smapSet false x.fresh key true, incompl := true }).flag (R.AG_GSTAT_incomplete g))

/-- AG_TAINT.used follows the taint table. -/
def State.noteTaints (s : State) : State := s.wr R.AG_TAINT_used s.ag.taints.length

/-! ## The life of an integration (Table 5-5) -/

/-- INTEGRATION_BEGIN: integration i begins with a clear fresh map in its area. -/
def State.beginInt (s : State) (g i : Nat) : State :=
  let x := s.grp g
  let r0 := s.intStart g i
  let area := if s.on (R.AG_GCFG_mode g) then 0 else i % 2
  let r1 := r0 + s.rd (R.AG_GLEN_len g) - 1
  let y : Integ := { (default : Integ) with idx := i, r0 := r0, r1 := r1, area := area }
  let s := s.setGrp g { x with next := i + 1, ints := x.ints ++ [y] }
  ((s.wr (R.AG_GSTAT_state g) 2).wr (R.AG_GSTAT_warea g) area).wq (R.AG_GINT g) i

/-- AG_STATUS.cmd_pending follows the groups' bound commands. -/
def State.cmdPending (s : State) : State :=
  s.wr R.AG_STATUS_cmd_pending (if groupList.any (fun g => (s.grp g).cmd.isSome && s.gState g != 4) then 1 else 0)

/-- The registers that define group g and its areas, with what stands in them (Table 5-4). -/
def State.groupDef (s : State) (g : Nat) : List (Nat × Word) :=
  ([R.AG_GCFG g, R.AG_GLEN g, R.AG_GCH g, R.AG_GBASE0 g, R.AG_GBASE0 g + 4, R.AG_GBASE1 g, R.AG_GBASE1 g + 4]
    ++ (List.range 65).map (R.AG_GTILE g)).map (fun a => (a, s.word a))

/-- The state in which the definition of a closed integration's group is what it was at the close: the host may define the
group anew once it is OFF (R114, R122). -/
def State.asDefined (s : State) (y : Integ) : State := s.fold y.defs (fun s p => s.setWord p.1 p.2)

/-- INTEGRATION_CLOSE (R119, R122): the integration's frames go to the release gate. -/
def State.closeInt (s : State) (g : Nat) (y : Integ) : State :=
  let x := s.grp g
  let natural := s.intStart g y.idx + s.rd (R.AG_GLEN_len g) - 1
  let shed := (x.shed.filter (fun n => y.r0 ≤ n ∧ n ≤ y.r1)).length
  let tainted := s.ag.taints.any (fun t => t.g = g ∧ t.i = y.idx)
  let s := s.setGrp g { x with ints := x.ints.filter (fun z => z.idx ≠ y.idx), shed := x.shed.filter (fun n => y.r1 < n) }
  if y.abort then
    ({ s with ag := { s.ag with taints := s.ag.taints.filter (fun t => ¬ (t.g = g ∧ t.i = y.idx)) } }).noteTaints.inc (R.AG_CNT 7)
  else
    let s := { s with ag := { s.ag with closed := s.ag.closed ++ [(g, { y with shedN := shed, short := decide (y.r1 < natural), defs := s.groupDef g })] } }
    let s := (s.wr (R.AG_GREC_rounds g) (y.r1 - y.r0 + 1)).wr (R.AG_GREC_shed g) shed
    let s := s.wr (R.AG_GSTAT_reading g) (setBit (s.rd (R.AG_GSTAT_reading g)) y.area true)
    let s := s.when (y.r1 < natural) (·.flag (R.AG_GSTAT_short g))
    let s := s.when tainted (·.flag (R.AG_GSTAT_taint g))
    let s := s.when (shed != 0) (·.flag (R.AG_GSTAT_shed g))
    let began := match s.cs.joined with
      | some j => decide (j ≤ y.r0)
      | none => false
    let s := s.when began (fun s => { s with cs := { s.cs with freshG := s.cs.freshG.filter (· ≠ g) ++ [g] } })
    (s.inc (R.AG_CNT 6)).fire (104 + g)

/-- All passes of round n are drained or reported incomplete: the integrations of group g that end with n close, and a group
in ENDING goes to OFF. -/
def State.groupRoundDone (s : State) (n g : Nat) : State :=
  let ends := (s.grp g).ints.filter (fun y => y.r1 = n)
  let s := s.fold ends (fun s y => s.closeInt g y)
  if s.gState g = 4 ∧ (s.grp g).ints.isEmpty then
    (s.setGrp g { s.grp g with cmd := none }).wr (R.AG_GSTAT_state g) 0
  else s

/-- The same for every group. -/
def State.groupsRoundDone (s : State) (n : Nat) : State :=
  (s.fold groupList (fun s g => s.groupRoundDone n g)).cmdPending

/-- Passes of round n wait, run or drain. -/
def State.boardHas (s : State) (n : Nat) : Bool := s.bd.queue.contains n || s.bd.live.contains n

/-- A bound CLOSE or ABORT takes effect as slab b seals (R122); when the work of round b − 1 is over already the integration
closes at once. -/
def State.groupCmdEffect (s : State) (g : Nat) (abort : Bool) (b : Nat) : State :=
  let x := s.grp g
  if s.gState g = 2 then
    let s := s.setGrp g { x with ints := x.ints.map (fun y =>
      if y.r0 < b ∧ b ≤ y.r1 + 1 ∧ y.idx + 1 = x.next then { y with r1 := b - 1, abort := abort } else y) }
    let s := s.wr (R.AG_GSTAT_state g) 4
    if s.boardHas (b - 1) then s else s.groupRoundDone (b - 1) g
  else if s.gState g = 1 ∨ s.gState g = 3 then (s.setGrp g { x with cmd := none }).wr (R.AG_GSTAT_state g) 0
  else s

/-- The events of Table 5-5 named "slab of round n seals", for one group; skipped rounds advance the schedule the
same way (R409). -/
def State.groupSeal (s : State) (n g : Nat) : State :=
  let x := s.grp g
  let cut : Bool := match x.cmd with
    | some (_, b) => decide (b ≤ n)
    | none => false
  if s.gState g = 0 ∨ s.gState g = 4 then s
  else if cut then s.groupCmdEffect g (x.cmd.getD (false, 0)).1 (x.cmd.getD (false, 0)).2
  else if s.intStart g x.next = n then s.beginInt g x.next
  else if s.gState g = 2 ∧ 0 < x.next ∧ n = s.intStart g (x.next - 1) + s.rd (R.AG_GLEN_len g) then
    s.wr (R.AG_GSTAT_state g) 3
  else s

/-- The seal of slab n reaches every group. (DEDUCED: log entry 78.) -/
def State.groupsSeal (s : State) (n : Nat) : State :=
  (s.fold groupList (fun s g => s.groupSeal n g)).cmdPending

/-- SHED_ROUND (R129): a round whose plan does not admit group g counts as shed in its integration. -/
def State.shedRound (s : State) (n g : Nat) : State :=
  if (s.schedule g n).isSome then
    let x := s.grp g
    (s.setGrp g { x with shed := x.shed ++ [n] }).inc (R.AG_CNT 5)
  else s

/-- The integrations of a group that a test names are void: counted, flagged, their taints gone. -/
def State.voidInts (s : State) (g : Nat) (bad : Integ → Bool) : State :=
  let x := s.grp g
  let s := s.fold (x.ints.filter bad) (fun s y =>
    (({ s with ag := { s.ag with taints := s.ag.taints.filter (fun t => ¬ (t.g = g ∧ t.i = y.idx)) } }).inc
      (R.AG_CNT 8)).flag (R.AG_GSTAT_void g))
  s.setGrp g { x with ints := x.ints.filter (fun y => !bad y) }

/-- INTEGRATION_VOID (R130) for one group. -/
def State.voidGroup (s : State) (g : Nat) : State :=
  let x := s.grp g
  if s.gState g = 0 ∧ x.ints.isEmpty then s
  else
    let s := s.voidInts g (fun _ => true)
    if s.gState g = 0 then s.setGrp g { x with ints := [] }
    else if s.gState g = 4 then (s.setGrp g { x with ints := [], cmd := none }).wr (R.AG_GSTAT_state g) 0
    else (s.setGrp g { x with ints := [] }).wr (R.AG_GSTAT_state g) 1

/-- INTEGRATION_VOID: Endgame entry or Adjournment voids every integration in progress. -/
def State.voidAll (s : State) : State :=
  ((s.fold groupList (fun s g => s.voidGroup g)).wr R.AG_STATUS_endgame 1).noteTaints.cmdPending

/-- Each group between integrations takes the smallest integration that starts no earlier than the first round written
(R130, R221). -/
def State.retarget (s : State) (first : Nat) : State :=
  s.fold groupList (fun s g =>
    let x := s.grp g
    if s.gState g = 1 ∨ s.gState g = 3 then
      let j := if first ≤ x.s then 0 else ceilDiv (first - x.s) (s.groupCycle g)
      s.setGrp g { x with next := max j x.next }
    else s)

/-- The groups resume after exit from Endgame (R130). -/
def State.resumeGroups (s : State) (first : Nat) : State := (s.retarget first).wr R.AG_STATUS_endgame 0

/-- A joiner starts fresh (R221): it voids the integrations whose first round lies before `first`, and a group that was in one
is ARMED again. -/
def State.joinGroups (s : State) (first : Nat) : State :=
  ((s.fold groupList (fun s g =>
    let old (y : Integ) : Bool := decide (y.r0 < first)
    if (s.grp g).ints.any old then
      let s := s.voidInts g old
      if s.gState g = 2 ∧ (s.grp g).ints.isEmpty then s.wr (R.AG_GSTAT_state g) 1
      else if s.gState g = 4 ∧ (s.grp g).ints.isEmpty then (s.setGrp g { s.grp g with cmd := none }).wr (R.AG_GSTAT_state g) 0
      else s
    else s)).retarget first).noteTaints.cmdPending

end Sys2Proof.Machine
end

