-- ==== Sys2Proof/Machine/Board.lean ====
section
/-! DEFINITION. The correlation array (the Board): passes, plies, markers and draining (R91 to R102), re-runs (R189), the
remap of lines (R103, R192, R193), and the states of Table 4-3. -/

namespace Sys2Proof.Machine

/-! ## Lines and their remap: 0–7 tile rows, 8–23 tile columns -/

def lineOut (x : Nat) : FRef := if x < 8 then R.BD_RMAP_out x else R.BD_FMAP_out (x - 8)
def lineApplied (x : Nat) : FRef := if x < 8 then R.BD_RMAP_applied x else R.BD_FMAP_applied (x - 8)
def linePend (x : Nat) : FRef := if x < 8 then R.BD_RMAP_pend x else R.BD_FMAP_pend (x - 8)
def lineRepaired (x : Nat) : FRef := if x < 8 then R.BD_RMAP_repaired x else R.BD_FMAP_repaired (x - 8)

/-- The 24 lines. -/
def lineList : List Nat := List.range 24

/-- Physical position of logical position l of a line whose position `out` is out of service (R103). -/
def physPos (out l : Nat) : Nat := if l < out then l else l + 1

/-- Physical rank of logical rank l (R82). -/
def physRank (outR : List Nat) (l : Nat) : Nat := 65 * (l / 64) + physPos (outR.getD (l / 64) 64) (l % 64)

/-- Physical file of logical file m (R82). -/
def physFile (outF : List Nat) (m : Nat) : Nat := 65 * (m / 64) + physPos (outF.getD (m / 64) 64) (m % 64)

/-- A write of `out` becomes pending until the next marker; the last value written counts (R103). -/
def State.setOut (s : State) (x v : Nat) : State := (s.wr (lineOut x) v).wr (linePend x) 1

/-- Pending remaps take effect at a marker. -/
def State.applyMaps (s : State) : State :=
  s.fold lineList (fun s x => (s.wr (lineApplied x) (s.rd (lineOut x))).wr (linePend x) 0)

/-- The map in force: rows, then columns. -/
def State.mapRows (s : State) : List Nat := (List.range 8).map (fun x => s.rd (lineApplied x))
def State.mapCols (s : State) : List Nat := (List.range 16).map (fun x => s.rd (lineApplied (x + 8)))

/-! ## Results of a ply (R93, R102) -/

/-- The results a ply hands to accumulation for one file half (R93, R102). -/
def State.halfResults (s : State) (p : Ply) (f : PlyFaults) (v : Verdict) (half r fb status : Nat) : List PairRes :=
  (List.range 512).flatMap (fun m => (List.range 512).filterMap (fun l =>
    let b := s.cellOf p f l (512 * half + m)
    let x := correctedCell v l (512 * half + m) b
    match storedCell r fb l m x with
    | some (a, c, comp) => some ⟨a, c, (x.getD 8 0).toNat, comp, b.lim, status⟩
    | none => none))

/-- Hands a ply's results to accumulation, half by half (R93, R106). -/
def State.plyToGroups (s : State) (p : Ply) (f : PlyFaults) (v : Verdict) (status : Nat) : State :=
  let e := s.passEntry p.round p.q
  let c := s.chBase + e.2
  match ptEntry e.1 with
  | (r, f0, f1) =>
    let s1 := s.addPly p.round c (blockPair r f0) (s.halfResults p f v 0 r f0 status)
    match f1 with
    | some fb => s1.addPly p.round c (blockPair r fb) (s.halfResults p f v 1 r fb status)
    | none => s1

/-! ## Repairs (R193) -/

/-- Raises a record of the repair log for the Arbiter to append (R375). -/
def State.logRepair (s : State) (kind unit detail row origin : Nat) : State :=
  let r : LogRec := ⟨kind, unit, detail, row, 0, s.curRound, s.taiS, origin⟩
  { s with cf := { s.cf with logDue := s.cf.logDue ++ [r] } }

/-- LINE_REPAIR: the line is taken out for good, or marked degraded when its row or column is repaired already; a line that
is out for good needs no repair. (DEDUCED: log entry 180.) -/
def State.repairLine (s : State) (x pos origin : Nat) : State :=
  if s.on (lineRepaired x) && s.rd (lineOut x) = pos then s
  else if s.on (lineRepaired x) then
    ((s.wr (R.IG_LINE_degraded x) 1).degrade).health 5 x 1 pos s.curRound
  else
    let s := ((s.setOut x pos).wr (lineRepaired x) 1).logRepair 1 x pos 0 origin
    (s.degrade).health 5 x 1 pos s.curRound

/-- A fault located on physical position `pos` of line x in round n: three consecutive rounds repair it. -/
def State.noteLocated (s : State) (x pos n : Nat) : State :=
  let old := smapGet 0 s.ig.located (128 * x + pos)
  let fresh := old / 4 ≠ n + 1
  let streak := if !fresh then old % 4 else if old / 4 = n ∧ n ≠ 0 then min 3 (old % 4 + 1) else 1
  let s := { s with ig := { s.ig with located := smapSet 0 s.ig.located (128 * x + pos) (4 * (n + 1) + streak) } }
  let s := (s.wr (R.IG_LINE_suspect x) pos).wr (R.IG_LINE_streak x) streak
  if streak = 3 ∧ fresh then s.repairLine x pos 0 else s

/-- Line x failed its known-vector test in round n at a position (R192): counted, held for the next round, and repaired when
it fails there again. IG_LINE shows the rounds that located that position. -/
def State.noteTestFail (s : State) (n x pos : Nat) : State :=
  let last := smapGet 0 s.ig.kvFail x
  let seen := smapGet 0 s.ig.located (128 * x + pos)
  let s := ((s.inc (R.IG_CNT 9)).flag (R.IG_LINE_test_fail x)).wr (R.IG_LINE_suspect x) pos
  let s := (s.wr (R.IG_LINE_streak x) (if n ≤ seen / 4 then seen % 4 else 0)).health 5 x 1 pos n
  if last = 128 * n + pos ∧ n ≠ 0 then
    ({ s with ig := { s.ig with kvFail := smapSet 0 s.ig.kvFail x 0 } }).repairLine x pos 0
  else { s with ig := { s.ig with kvFail := smapSet 0 s.ig.kvFail x (128 * (n + 1) + pos) } }

/-- The immediate Board test of R194 is running: rotation advances by it alone. -/
def State.boardTest (s : State) : Bool :=
  match s.ig.test with
  | some (1, _, k) => decide (k < 1024)
  | _ => false

/-- ROTATION_ADVANCE (R192): out = n mod 64 in every line that is not repaired and is not held after a failed test. (DEDUCED: log entry 73.) -/
def State.rotate (s : State) (n : Nat) : State :=
  if s.on R.IG_CTL_rot_en && !s.ig.arbDown && !s.boardTest then
    s.fold lineList (fun s x =>
      if s.on (lineRepaired x) ∨ (smapGet 0 s.ig.kvFail x / 128 = n ∧ n ≠ 0) then s else s.setOut x (n % 64))
  else s

/-- The immediate Board test of R194 op 1: one tile row and one tile column advance at every pass marker. -/
def State.boardTestStep (s : State) : State :=
  match s.ig.test with
  | some (1, u, k) =>
    if 1024 ≤ k ∨ s.ig.arbDown then s
    else
      let s := s.when (!s.on (lineRepaired (k / 64 % 8))) (·.setOut (k / 64 % 8) (k % 64))
      let s := s.when (!s.on (lineRepaired (8 + k / 64))) (·.setOut (8 + k / 64) (k % 64))
      ({ s with ig := { s.ig with test := some (1, u, k + 1) } }).wr R.IG_TESTRES_result 2
  | _ => s

/-! ## Issuing passes -/

/-- BD_STATUS.state: 0 = IDLE; 1 = WAIT; 2 = RUN; 3 = HALTING; 4 = HALTED. -/
def State.bdState (s : State) : Nat := s.rd R.BD_STATUS_state

/-- The Board takes a state; HALTED fires E084. -/
def State.setBd (s : State) (x : Nat) : State := (s.wr R.BD_STATUS_state x).when (x = 4) (·.fire 84)

/-- Passes of a round: P × C_adm (R91). -/
def State.passesOf (s : State) (n : Nat) : Nat :=
  (s.tableOf n).entries.length * (((s.planOf n).map Plan.chans).getD []).length

/-- Shows the ply being issued in BD_PASS. -/
def State.showPass (s : State) : State :=
  match s.bd.cur with
  | some c => ((s.wr R.BD_PASS_valid 1).wr R.BD_PASS_rerun (if c.rerun then 1 else 0)).wr R.BD_PASS_q c.q
  | none => (s.wr R.BD_PASS_valid 0).wr R.BD_PASS_rerun 0

/-- Issues pass q of round n. -/
def State.issuePass (s : State) (n q : Nat) : State :=
  ({ s with bd := { s.bd with cur := some ⟨n, q, 0, 0, s.roundLen, false, [], none⟩, nextQ := q + 1 } }).showPass

/-- The lines that the residuals of a ply name alone in their row or column, with their physical positions under the map the
ply ran under (R189). -/
def rerunHits (p : Ply) (r : Resid) : List (Nat × Nat) :=
  let one (l : List (Nat × List Int)) (x out : Nat) : Option Nat :=
    match l.filter (fun v => v.1 / 64 = x) with
    | [v] => some (physPos out (v.1 % 64))
    | _ => none
  lineList.filterMap (fun x =>
    (if x < 8 then one r.ranks x (p.outR.getD x 64) else one r.files (x - 8) (p.outF.getD (x - 8) 64)).map (fun pos => (x, pos)))

/-- Starts a re-run (R189): its own ply, with the lines named taken out of service where the row or column is not
repaired. -/
def State.issueRerun (s : State) (c : CurPly) (hits : List (Nat × Nat)) : State :=
  let take := hits.filter (fun h => !s.on (lineRepaired h.1))
  let s := s.fold take (fun s h => (s.wr (lineApplied h.1) h.2).inc (R.IG_CNT 10))
  ({ s with bd := { s.bd with cur := some { c with rerun := true, aside := take.map Prod.fst } } }).showPass

/-- The passes of a round are no longer live: the integrations that end with it close. -/
def State.settle (s : State) : State :=
  let busy (n : Nat) : Bool :=
    s.bd.round = some n || s.bd.plies.any (fun p => p.round = n) || s.bd.reruns.any (fun r => r.1.round = n)
      || ((s.bd.cur.map CurPly.round) = some n)
  let dead := s.bd.live.filter (fun n => !busy n)
  let s := { s with bd := { s.bd with live := s.bd.live.filter busy } }
  s.fold dead (fun s n => s.groupsRoundDone n)

/-- Starts round n (R92): pass 0, or nothing when its plan admits no channel. `fromWait`: the run pays the fill
latency of R101. (DEDUCED: log entry 76.) -/
def State.startRound (s : State) (n : Nat) (fromWait : Bool) : State :=
  let s := { s with bd := { s.bd with queue := s.bd.queue.filter (· ≠ n), live := s.bd.live ++ [n] } }
  let s := (s.wq R.BD_ROUND n).wr R.BD_ADMIT_passes (s.passesOf n)
  let s := (s.wr R.BD_CFG_fmt (s.rd R.IN_CTL_fmt)).rotate n
  if s.passesOf n = 0 then s.settle
  else
    let s := { s with bd := { s.bd with round := some n } }
    let s := s.when fromWait (fun s => s.wq R.BD_STEPS (s.rq R.BD_STEPS + 1561))
    ((s.issuePass n 0).setBd 2).startWork n

/-- The next round that can start: sealed, with its plan admitted (R92), and held by no region load (R369). -/
def State.readyRound (s : State) : Option Nat :=
  match s.bd.queue with
  | n :: _ => if (s.planOf n).isSome && !s.regionHolds [2, 3] n then some n else none
  | [] => none

/-- The Board starts the next ready round that has passes, or waits for one, or idles (R92, R98). -/
def State.nextRoundStarts (s : State) : State :=
  let s := s.fold s.bd.queue (fun s _ =>
    match s.bd.cur, s.readyRound with
    | none, some m => s.when (s.on R.BD_CTL_en) (·.startRound m false)
    | _, _ => s)
  if s.bd.cur.isSome then s.applyMaps else s.setBd (if s.on R.BD_CTL_en then 1 else 0)

/-- What follows the marker that ends a pass: a re-run, the next pass, the next round, or the final marker. -/
def State.afterPass (s : State) : State :=
  match s.bd.reruns with
  | (c, hits) :: r => ({ s with bd := { s.bd with reruns := r } }).issueRerun c hits
  | [] =>
    match s.bd.round with
    | some n =>
      if s.bd.nextQ < s.passesOf n then s.issuePass n s.bd.nextQ
      else (({ s with bd := { s.bd with round := none, cur := none } }).showPass).nextRoundStarts
    | none => (({ s with bd := { s.bd with cur := none } }).showPass).nextRoundStarts

/-- Marks a pass incomplete in every admitted integrating group (R98, R128). -/
def State.passIncomplete (s : State) (n q : Nat) : State :=
  let e := s.passEntry n q
  ((s.fold (entryPairs e.1) (fun s bp => s.markIncomplete n (s.chBase + e.2) bp)).flag R.BD_STATUS_incomplete).inc (R.BD_CNT 6)

/-- The passes of the rounds named that are not complete: the one in progress, those not yet run and the re-runs not yet
started, each as round and number. -/
def State.openPasses (s : State) (of : Nat → Bool) : List (Nat × Nat) :=
  let cur := s.bd.cur.toList.map (fun c => (c.round, c.q))
  let rest := s.bd.round.toList.flatMap (fun n => (List.range (s.passesOf n - s.bd.nextQ)).map (fun i => (n, i + s.bd.nextQ)))
  let rer := s.bd.reruns.map (fun r => (r.1.round, r.1.q))
  ((cur ++ rest ++ rer).filter (fun x => of x.1)).dedup

/-- They are reported incomplete and not issued (R98, R99, R189). -/
def State.abandon (s : State) (of : Nat → Bool) : State :=
  let s := s.fold (s.openPasses of) (fun s x => s.passIncomplete x.1 x.2)
  { s with bd := { s.bd with
      reruns := s.bd.reruns.filter (fun r => !of r.1.round), round := s.bd.round.filter (fun n => !of n) } }

/-- Closes the ply being issued with a marker at sample `t1`: its samples before t1 go to the closing bank (R94). What the
feeders read is HBM as it stands now, or as it stood before ingest began to overwrite the slab (R99). (DESIGN CHOICE: log
entry 181.) -/
def State.closePly (s : State) (c : CurPly) (t1 : Nat) (asked : Bool) : State :=
  let src := c.cut.getD (s.mem, s.slabBase c.round)
  let p : Ply := ⟨c.round, c.q, c.idx, c.t0, t1, c.rerun, .marker, c.cut.isSome, asked, s.bd.poison, src.1, src.2, s.mapRows,
    s.mapCols, c.aside⟩
  let s := { s with bd := { s.bd with plies := s.bd.plies ++ [p], drains := 0, poison := false } }
  let s := s.wr R.BD_STATUS_fill_bank (1 - s.rd R.BD_STATUS_fill_bank)
  (s.wq R.BD_STEPS (s.rq R.BD_STEPS + (t1 - c.t0) * (if s.width = 2 then 4 else 1))).applyMaps

/-- A drain request accepted while a ply is in progress; those after the first, or after a halt, share its marker (R95).
Without a ply in progress nothing happens. (DEDUCED: log entry 72.) -/
def State.requestDrain (s : State) : State :=
  match s.bd.cur with
  | some _ =>
    let s := s.when (s.bd.drains != 0 || s.bd.halting) (·.inc (R.BD_CNT 2))
    ({ s with bd := { s.bd with drains := s.bd.drains + 1 } }).wr R.BD_STATUS_drain_busy 1
  | none => s

/-- PLY_MARKER_ISSUE (R94, R95, R98, R99): a marker is placed at sample `t` of the pass being issued: where it is due, or
earlier when a drain, a halt or an overrun asked for it. The pass ends with it, or goes on behind it. -/
def State.placeMarker (s : State) (t : Nat) : State :=
  match s.bd.cur with
  | none => s
  | some c =>
    let due := decide (c.stop ≤ t)
    let t1 := min t c.stop
    let asked := s.bd.drains != 0 || s.bd.halting
    let ends := due || c.cut.isSome
    if (!ends && !asked) || decide (t1 < c.t0) then s
    else
      let s := s.when (ends && asked) (·.inc (R.BD_CNT 2))
      let s := s.when (!ends && !s.bd.halting) (·.inc (R.BD_CNT 1))
      let s1 := (s.closePly c t1 asked).when ends (·.boardTestStep)
      if s.bd.halting then
        let s2 : State := if ends then { s1 with bd := { s1.bd with cur := none } } else s1
        let s3 := s2.abandon (fun _ => true)
        State.showPass { s3 with bd := { s3.bd with cur := none } }
      else if ends then s1.afterPass
      else State.showPass { s1 with bd := { s1.bd with cur := some { c with idx := c.idx + 1, t0 := t1 } } }

/-! ## Draining -/

/-- The first ply at a stage. -/
def State.firstPly (s : State) (st : PlyStage) : Option Ply := s.bd.plies.find? (fun p => p.stage = st)

/-- Replaces the first ply at a stage. -/
def State.movePly (s : State) (p q : Ply) : State :=
  { s with bd := { s.bd with plies := s.bd.plies.map (fun x => if x = p then q else x) } }

/-- PASS_END (R101): the oldest travelling marker leaves the last cell and its ply is held in the drain path. The
step rates measured are reported in BD_RATE. -/
def State.passEnd (s : State) (rate minRate : Nat) : State :=
  match s.firstPly .marker with
  | none => s
  | some p =>
    let s := s.movePly p { p with stage := .held }
    let ends := !p.rerun && decide (p.t1 = s.roundLen) && !p.cut
    let s := s.when ends (fun s => s.wq R.BD_PASSDONE (s.rq R.BD_PASSDONE + 1))
    (s.wr R.BD_RATE_last_pass (min rate 65535)).wr R.BD_RATE_min_round (min minRate 65535)

/-- MARKER_RELEASE (R97): a marker that waited behind a ply of fewer than 521 samples, while an earlier ply drained,
proceeds; the wait is counted. (DESIGN CHOICE: log entry 166.) -/
def State.markerRelease (s : State) : State :=
  if s.bd.plies.length > 1 && s.bd.plies.any (fun p => p.stage = .marker && decide (p.t1 - p.t0 < 521)) then s.inc (R.BD_CNT 3) else s

/-- FEEDER_WAIT_END (R100): the array, stopped because a feeder had no sample, resumes; the wait is counted. -/
def State.feederWait (s : State) : State := if s.bd.cur.isSome then s.inc (R.BD_CNT 4) else s

/-- Records the last correction behind IG_FIX (R187). -/
def State.noteFix (s : State) (p : Ply) (v : Verdict) : State :=
  match v.fixes with
  | (l, m, _) :: _ =>
    let pr := physRank p.outR l
    let pf := physFile p.outF m
    let s := { s with ig := { s.ig with fix := (v.kind, pf, pr, p.q, p.round) } }
    if v.kind = 3 then
      (s.noteLocated (8 + m / 64) (pf % 65) p.round).health 1 (8 + m / 64) 0 pf p.round
    else (s.noteLocated (l / 64) (pr % 65) p.round).health 1 (l / 64) 0 (if v.kind = 1 then pf else pr) p.round
  | [] => s

/-- The ply is invalid: it marks its pairs, and the unit is impaired (R189, Table 8-4). -/
def State.plyInvalid (s : State) (p : Ply) (f : PlyFaults) (v : Verdict) : State :=
  let s := (s.plyToGroups p f v 3).inc (R.IG_CNT 4)
  (s.health 2 0 2 0 p.round).impair p.round

/-- Ingest has begun to overwrite the buffer that holds the slab of round n, which the Board then never reads (R99). -/
def State.slabLost (s : State) (n : Nat) : Bool :=
  decide (n + 4 < s.al.nextStart) || (decide (n + 2 < s.al.nextStart) && !s.al.noSlab.contains (n + 2))

/-- A re-run is ordered for ply p (R189): it starts behind the pass in progress, at once when the Board waits or idles; when
the Board halts or the slab is gone its pass is incomplete. (DEDUCED: log entry 182.) -/
def State.orderRerun (s : State) (p : Ply) (r : Resid) : State :=
  let s := (s.inc (R.AG_CNT 2)).health 2 0 0 0 p.round
  if s.bdState = 3 || s.bdState = 4 || s.slabLost p.round then s.passIncomplete p.round p.q
  else
    let c : CurPly := ⟨p.round, p.q, p.idx, p.t0, p.t1, true, [], none⟩
    let s := s.countRerun p.round
    let s := { s with bd := { s.bd with reruns := s.bd.reruns ++ [(c, rerunHits p r)] } }
    if s.bd.cur.isNone then ((s.setBd 2).wq R.BD_STEPS (s.rq R.BD_STEPS + 1561)).afterPass else s

/-- The status of a ply takes effect (R187 to R189, Table 8-4). -/
def State.plyStatus (s : State) (p : Ply) (f : PlyFaults) (r : Resid) (v : Verdict) : State :=
  if p.poison then s.plyInvalid p f v
  else if v.status = 2 then
    if p.rerun then s.plyInvalid p f v
    else if s.rerunsDone p.round then (s.flag R.IG_STATUS_rr_limit).plyInvalid p f v
    else s.orderRerun p r
  else
    let s := s.when (v.kind = 1) (·.inc (R.IG_CNT 0))
    let s := s.when (v.kind = 2 || v.kind = 3) (·.inc (R.IG_CNT 1))
    let s := s.when v.checker (fun s => (s.inc (R.IG_CNT 2)).health 1 0 0 0 p.round)
    let s := s.when p.rerun (·.inc (R.IG_CNT 3))
    (s.plyToGroups p f v v.status).noteFix p v

/-- The position out of service in line x while ply p ran. -/
def Ply.outOf (p : Ply) (x : Nat) : Nat := if x < 8 then p.outR.getD x 64 else p.outF.getD (x - 8) 64

/-- The known-vector tests of a ply: a line fails when what its cells drained differs from what its generator expects; a line
that a re-run overrides is not tested (R189, R192). (DESIGN CHOICE: log entry 77.) -/
def State.knownVectors (s : State) (p : Ply) (kv : List (Nat × List Int × List Int)) : State :=
  s.fold (kv.filter (fun x => x.2.1 ≠ x.2.2 ∧ ¬ p.aside.contains x.1)) (fun s x => s.noteTestFail p.round x.1 (p.outOf x.1))

/-- PLY_STATUS_FINAL (R186, R187, R189): the oldest held ply gets its status and its results go to accumulation. -/
def State.plyFinal (s : State) (f : PlyFaults) : State :=
  match s.firstPly .held with
  | none => s
  | some p =>
    let r := s.residuals p f
    let lims := s.limCells p f
    let s := (s.movePly p { p with stage := .writing }).knownVectors p f.kv
    let s := s.when (!lims.isEmpty) (fun s => (s.incBy (R.BD_CNT 8) lims.length).flag R.BD_STATUS_limit)
    s.plyStatus p f r (classify r)

/-- DRAIN_COMPLETE (R96): the oldest ply being written is acknowledged. -/
def State.drainDone (s : State) : State :=
  match s.firstPly .writing with
  | none => s
  | some p =>
    let s := { s with bd := { s.bd with plies := s.bd.plies.filter (fun x => x ≠ p) } }
    let s := (s.inc (R.BD_CNT 0)).fire 83
    let s := s.when p.asked (·.flag R.BD_STATUS_drain_done)
    let s := s.wr R.BD_STATUS_drain_busy
      (if s.bd.drains != 0 || s.bd.plies.any (fun x => x.asked) then 1 else 0)
    let s := s.settle
    if s.bdState = 3 && s.bd.plies.isEmpty && s.bd.cur.isNone then
      (({ s with bd := { s.bd with halting := false } }).flag R.BD_STATUS_drain_done).setBd 4
    else s

/-! ## Halt, enable, overrun -/

/-- The Board forgets the sealed rounds it has not started: they have no passes. -/
def State.dropQueue (s : State) : State :=
  let q := s.bd.queue
  ({ s with bd := { s.bd with queue := [] } }).fold q (fun s n => s.groupsRoundDone n)

/-- BOARD_HALT (R98): RUN asks for a marker, shared with a drain that waits for one, and goes to HALTING; WAIT goes to HALTED
once no drain is outstanding. -/
def State.boardHalt (s : State) : State :=
  if s.bdState = 2 then
    let s := s.when (s.bd.drains != 0) (·.inc (R.BD_CNT 2))
    let s := ({ s with bd := { s.bd with halting := true } }).wr R.BD_STATUS_drain_busy 1
    ((s.setBd 3).inc (R.BD_CNT 5)).dropQueue
  else if s.bdState = 1 then
    let s := (s.inc (R.BD_CNT 5)).dropQueue
    if s.bd.plies.isEmpty then (s.flag R.BD_STATUS_drain_done).setBd 4 else s.setBd 3
  else s

/-- The pairing table in force is valid for the slab geometry in force. -/
def State.tableValid (s : State) : Bool :=
  let t := s.tableOf s.curRound
  t.k = s.blocks && (tableReason s.blocks t.entries).isNone

/-- BD_CTL.en written 1 (Table 4-3). -/
def State.boardEnable (s : State) : State :=
  if s.bdState = 0 then
    if s.on R.AL_CTL_en && s.tableValid then s.setBd 1
    else ((s.wr R.BD_CTL_en 0).wr R.BD_STATUS_tbl_reason 7).flag R.BD_STATUS_tbl_err
  else if s.bdState = 4 && !s.on R.CK_STATUS_endgame then s.setBd 1
  else s

/-- BD_CTL.en written 0: WAIT and HALTED go to IDLE, RUN finishes its round. -/
def State.boardDisable (s : State) : State :=
  if s.bdState = 1 then (s.setBd 0).dropQueue else if s.bdState = 4 then s.setBd 0 else s

/-- BOARD_OVERRUN (R99): ingest starts to overwrite the slab of round n. The passes of n not complete are reported
incomplete, and the one in progress ends at the next marker with the samples the feeders have; the second part says whether
admitted work was abandoned. A round queued without a pass only leaves the queue. -/
def State.boardOverrun (s : State) (n : Nat) : State × Bool :=
  let src := (s.mem, s.slabBase n)
  let queued := s.bd.queue.contains n
  let wait := if queued then (List.range (s.passesOf n)).map (fun q => (n, q)) else []
  let left := (wait ++ s.openPasses (fun m => m = n)).length
  let s := (s.fold wait (fun s x => s.passIncomplete x.1 x.2)).abandon (fun m => m = n)
  let s := { s with bd := { s.bd with
      queue := s.bd.queue.filter (· ≠ n),
      cur := s.bd.cur.map (fun (c : CurPly) => if c.round = n then { c with cut := some src } else c) } }
  let s := s.when (left != 0) (fun s => (s.flag R.BD_STATUS_overrun).incBy (R.BD_CNT 7) left)
  ((s.when queued (·.groupsRoundDone n)).settle, left != 0)

/-- A slab seals: the Board takes its round when it waits or runs; otherwise the round has no passes. (DEDUCED: log entry 75.) -/
def State.boardSeal (s : State) (n : Nat) : State :=
  if s.bdState = 1 ∨ s.bdState = 2 then { s with bd := { s.bd with queue := s.bd.queue ++ [n] } }
  else s.groupsRoundDone n

/-- BOARD_ROUND_START (R92): from WAIT, the oldest sealed round whose plan is admitted starts. -/
def State.boardStart (s : State) : State :=
  if s.bdState = 1 && s.bd.cur.isNone then
    match s.readyRound with
    | some n => s.startRound n true
    | none => s
  else s

end Sys2Proof.Machine
end

