-- ==== Sys2Proof/Machine/Output.lean ====
section
/-! DEFINITION. Output: routes, endpoints and reserved rates (R154 to R162, R181), product bodies (R166, R169 to R177),
the release gate (R178), device frames and their headers (R159, R163 to R165), and the frames' way out (Table 9-3). -/

namespace Sys2Proof.Machine

/-! ## Routes and endpoints -/

/-- The ports of a route, in the order of port index i (R157). -/
def State.routePorts (s : State) (r : Nat) : List Nat :=
  (List.range 8).filter (fun p => (s.rd (R.OT_RTCTL_ports r)).testBit p)

/-- The endpoints e0 to e0 + m − 1 of a route. -/
def State.routeEps (s : State) (r : Nat) : List Nat :=
  (List.range (s.routePorts r).length).map (· + s.rd (R.OT_RTCTL_e0 r))

/-- s_ep of R158. -/
def State.epSeg (s : State) (e : Nat) : Nat :=
  let fmax := if s.on (R.OT_EPCTL_jumbo e) then 9216 else 1518
  8 * ((fmax - 126 - 20 * s.rd (R.OT_EPCTL_v6 e) - 4 * s.rd (R.OT_EPCTL_vlan e)) / 8)

/-- S_r, the route's segment size (R158); 9,088 for a route without a port. -/
def State.segSize (s : State) (r : Nat) : Nat := ((s.routeEps r).map s.epSeg).foldl min 9088

/-- h_r: wire bytes of a frame beyond its body (R160). -/
def State.wireOver (s : State) (r : Nat) : Nat :=
  ((s.routeEps r).map (fun e => 146 + 20 * s.rd (R.OT_EPCTL_v6 e) + 4 * s.rd (R.OT_EPCTL_vlan e))).foldl max 146

/-- R_p, the line rate of a port in its mode, in bytes a second (Table 7-2). -/
def State.lineRate (s : State) (p : Nat) : Nat :=
  match s.rd (R.ET_PORTCTL_speed p) with
  | 0 => 50000000000
  | 1 => 25000000000
  | _ => 12500000000

/-- q_rp: the share of route r on each of its ports, bytes a second. -/
def State.routeShare (s : State) (r : Nat) : Rat :=
  ((s.rd (R.OT_RTCTL_rate r) * 100000000 : Nat) : Rat) / (max 1 (s.routePorts r).length : Nat)

/-- λ_p of R160. -/
def State.portLoad (s : State) (p : Nat) : Rat :=
  (List.range 256).foldl (fun a r =>
    if (s.rd (R.OT_RTCTL_ports r)).testBit p && s.rd (R.OT_RTCTL_rate r) != 0 then
      a + s.routeShare r * ((s.segSize r + s.wireOver r : Nat) : Rat) / (s.segSize r : Nat)
    else a) 0

/-- σ_p of R160. -/
def State.portSigma (s : State) (p : Nat) : Rat :=
  let l := s.portLoad p
  if l = 0 then 1 else min 1 (((s.lineRate p : Nat) - 2000000 : Rat) / l)

/-- G_r of R160, bytes a second. -/
def State.routeGrant (s : State) (r : Nat) : Rat :=
  ((s.routePorts r).filter (fun p => s.on (R.ET_PORTCTL_en p))).foldl (fun a p => a + s.routeShare r * s.portSigma p) 0

/-- OT_RTGNT.g: G_r in MB/s, rounded down. -/
def State.grantMB (s : State) (r : Nat) : Nat := (s.routeGrant r / 1000000).floor.toNat

/-- OT_RTSTAT.over: a port of the route is overbooked. -/
def State.routeOver (s : State) (r : Nat) : Bool := (s.routePorts r).any (fun p => decide (s.portSigma p < 1))

/-- The source of a stream names route r (R157); beams name it in a committed configuration. -/
def State.streamNames (s : State) (st r : Nat) : Bool :=
  if st < 63 then s.rd (R.AG_GCFG_dest st) = r
  else if st = 64 ∨ st = 65 then s.ba.cfgs.any (fun c =>
    (List.range 1152).any (fun b => cfgField c.2 (R.BA_BEAM_det b) != 0 && cfgField c.2 (R.BA_BEAM_prof b) = st - 64)
      && cfgField c.2 (R.BA_DPROF_dest (st - 64)) = r)
  else if 128 ≤ st ∧ st < 192 then s.ba.cfgs.any (fun c => cfgField c.2 (R.BA_VLSTA_en (st - 128)) = 1
    && cfgField c.2 (R.BA_VLSTA_to_eth (st - 128)) = 1 && cfgField c.2 (R.BA_VLSTB_eth_dest (st - 128)) = r)
  else if st = 192 then s.rd R.OT_TPW_route = r
  else if st = 193 then s.rd R.OT_FLG_route = r
  else if st = 194 then s.rd R.OT_CAPB_route = r
  else if st = 195 then s.rd R.OT_HLT_route = r
  else s.rd R.OT_TIM_route = r

/-- A route is in use (R161). -/
def State.routeUsed (s : State) (r : Nat) : Bool := s.sourceStreams.any (fun st => s.streamNames st r)

/-- An enabled route uses an endpoint. -/
def State.epUsed (s : State) (e : Nat) : Bool := (List.range 256).any (fun r => (s.routeEps r).contains e)

/-- A write is refused (R161). -/
def State.otRefuse (s : State) (reason : Nat) : State := (s.wr R.OT_STATUS_cfg_reason reason).flag R.OT_STATUS_cfg_err

/-- ROUTE_WRITE (R161): a write of OT_RTCTL_r, all of it, or its refusal. (DEDUCED: log entry 90.) -/
def State.routeWrite (s : State) (r : Nat) (v : Word) : State :=
  let t := s.setWord (R.OT_RTCTL_ports r).a v
  if s.routeUsed r then s.otRefuse 1
  else if t.rd (R.OT_RTCTL_ports r) = 0 then t
  else if (t.routePorts r).any (fun p => !s.on (R.ET_PORTCTL_en p)) then s.otRefuse 2
  else if (t.routeEps r).any (fun e => decide (e < 256) && !s.on (R.OT_EPCTL_en e)) then s.otRefuse 3
  else if (t.routeEps r).any (fun e => decide (255 < e)) then s.otRefuse 4
  else if (List.range 256).any (fun q => s.routeUsed q && decide (t.routeGrant q < s.routeGrant q)) then s.otRefuse 5
  else t

/-- ENDPOINT_WRITE (R161): a word of the endpoint table, unless an enabled route uses the endpoint. -/
def State.endpointWrite (s : State) (e a : Nat) (v : Word) : State :=
  if s.epUsed e then s.otRefuse 6 else s.setWord a v

/-- ET_PORTSTAT.state: 0 = disabled; 1 = training; 2 = up. -/
def State.ethUp (s : State) (p : Nat) : Bool := s.rd (R.ET_PORTSTAT_state p) = 2

/-- The state of an Ethernet port changes; E178 + n fires when it enters or leaves up. -/
def State.setEth (s : State) (p x : Nat) : State :=
  let fires : Bool := (s.rd (R.ET_PORTSTAT_state p) = 2) != decide (x = 2)
  let s := (s.wr (R.ET_PORTSTAT_state p) x).when (x ≠ 2) (fun s => s.wr (R.ET_PORTSTAT_lane_lock p) 0)
  s.when fires (·.fire (178 + p))

/-- Lanes an Ethernet mode uses, as a mask (Table 7-2). -/
def ethLanes (speed : Nat) : Nat := if speed = 0 then 15 else if speed = 1 then 3 else 1

/-- ETH_PORT_CONTROL_WRITE (R154, R161, R408): `v` is the word to stand in ET_PORTCTL. A change of speed or en is refused
while a route in use includes the port, and the other fields are taken; otherwise en starts or stops it and a new mode retrains
it. -/
def State.ethControl (s : State) (p : Nat) (v : Word) : State :=
  let t := s.setWord (R.ET_PORTCTL_en p).a v
  let moves := s.rd (R.ET_PORTCTL_en p) ≠ t.rd (R.ET_PORTCTL_en p) ∨ s.rd (R.ET_PORTCTL_speed p) ≠ t.rd (R.ET_PORTCTL_speed p)
  if moves ∧ (List.range 256).any (fun r => s.routeUsed r && (s.routePorts r).contains p) then
    ((t.wr (R.ET_PORTCTL_en p) (s.rd (R.ET_PORTCTL_en p))).wr (R.ET_PORTCTL_speed p) (s.rd (R.ET_PORTCTL_speed p))).otRefuse 7
  else if moves then t.setEth p (if t.on (R.ET_PORTCTL_en p) then 1 else 0)
  else t

/-- SEQUENCE_SET (R167): a stream's next sequence number, never lowered; streams of no source in Table 7-5 hold none. -/
def State.seqSet (s : State) (st v : Nat) : State :=
  if st = 63 ∨ (66 ≤ st ∧ st < 128) ∨ 197 ≤ st then s
  else if v < s.rq (R.OT_SEQ st) then s.otRefuse 8 else s.wq (R.OT_SEQ st) v

/-! ## float32 release (R132) -/

/-- The binary32 pattern nearest to an integer, ties to even. -/
def f32 (x : Int) : Nat :=
  let m := x.natAbs
  if m = 0 then 0
  else
    let e := m.log2
    let q :=
      if e ≤ 23 then m <<< (23 - e)
      else
        let h := m >>> (e - 23)
        let rem := m % 2 ^ (e - 23)
        let half := 2 ^ (e - 24)
        if half < rem ∨ (rem = half ∧ h % 2 = 1) then h + 1 else h
    (if x < 0 then 2 ^ 31 else 0) + (e + 127) * 2 ^ 23 + (q - 2 ^ 23)

/-! ## Bodies (R166, R169, R170, R175) -/

/-- rb: bytes of a released record. -/
def State.recBytes (s : State) (g : Nat) : Nat := if s.on (R.AG_GCFG_fmt g) && !s.on (R.AG_GCFG_rel g) then 64 else 32

/-- body_len of a VIS body. -/
def State.visLen (s : State) (g : Nat) : Nat := 328 + s.groupCh g * s.groupPos g * (s.recBytes g + 4)

/-- The pair at position n of a group's channel: its tile, then its place in the tile (R117, R118). -/
def State.pairAt (s : State) (g n : Nat) : Nat × Nat :=
  let t := ((s.heldTiles g).map (fun k => tileList.getD k (0, 0))).foldl
    (fun (q : Option (Nat × Nat) × Nat) uv =>
      match q with
      | (some p, k) => (some p, k)
      | (none, k) =>
        if k < tileSize uv then
          let ij :=
            if uv.1 = uv.2 then
              let i := (lowest 64 (fun i => decide (k < 64 * (i + 1) - (i + 1) * i / 2))).getD 63
              (i, i + (k - (64 * i - i * (i - 1) / 2)))
            else (k / 64, k % 64)
          (some (64 * uv.1 + ij.1, 64 * uv.2 + ij.2), k)
        else (none, k - tileSize uv)) (none, n)
  t.1.getD (0, 0)

/-- One byte of a VIS body at offset o (R169, R170): descriptor, records, weights; entries not written are sent as
zero and tainted pairs with the sentinel. -/
def State.visByte (s : State) (g : Nat) (y : Integ) (tainted : List (Nat × Nat)) (desc : Bytes) (o : Nat) : Byte :=
  if o < 328 then desc.getD o 0
  else
    let rb := s.recBytes g
    let n := s.groupPos g
    let recs := s.groupCh g * n
    let k := o - 328
    let idx := if k < recs * rb then k / rb else (k - recs * rb) / 4
    let c := s.rd (R.AG_GCH_ch_lo g) + idx / n
    let ab := s.pairAt g (idx % n)
    let written := smapGet false y.fresh (c * 64 + blockPair (ab.1 / 512) (ab.2 / 512))
    if k < recs * rb then
      if !written then 0
      else
        let v := s.recGet g y.area c ab.1 ab.2
        let i := k % rb
        let bs :=
          if s.on (R.AG_GCFG_rel g) then leBytes 4 (f32 (v.getD (i / 4) 0)) else leBytes (rb / 8) (ofSigned rb (v.getD (i / (rb / 8)) 0))
        bs.getD (if s.on (R.AG_GCFG_rel g) then i % 4 else i % (rb / 8)) 0
    else
      let w := if tainted.contains ab then sentinel else if written then s.wgtGet g y.area c ab.1 ab.2 else 0
      (leBytes 4 w).getD ((k - recs * rb) % 4) 0

/-- The VIS descriptor (Table 7-6). -/
def State.visDesc (s : State) (g : Nat) (y : Integ) (tainted div : Bool) : Bytes :=
  let rb := s.recBytes g
  let flag (i : Nat) (b : Bool) : Nat := if b then 2 ^ i else 0
  let vflags := s.rd (R.AG_GCFG_fmt g) + 2 * s.rd (R.AG_GCFG_rel g) + flag 2 y.short + flag 3 (y.shedN != 0)
    + flag 4 tainted + flag 5 y.lim + flag 6 y.incompl + flag 7 div
  leBytes 8 (s.visLen g) ++ leBytes 1 g ++ leBytes 1 vflags ++ leBytes 1 (s.rd (R.AG_GCFG_pmask g)) ++ leBytes 1 rb
    ++ leBytes 2 (y.r1 + 1 - y.r0) ++ leBytes 2 y.shedN ++ leBytes 8 y.idx ++ leBytes 8 y.r0
    ++ leBytes 2 (s.rd (R.AG_GCH_ch_lo g)) ++ leBytes 2 (s.groupCh g) ++ leBytes 4 (s.groupPos g)
    ++ leBytes 8 (328 + s.groupCh g * s.groupPos g * rb) ++ zeros 16
    ++ (List.range 260).map (fun b => BitVec.ofNat 8 ((s.word (R.AG_GTILE g (b / 4))).toNat >>> (8 * (b % 4)))) ++ zeros 4

/-- HBM base of the held capture: the buffer out of rotation (R77). -/
def State.capBase (s : State) : Nat := s.bufBase (s.rd R.AL_STATUS_cap_buf)

/-- Bytes of a flag row of a CAP body: a_num bits padded to 8 bytes (R175). -/
def capRow (aNum : Nat) : Nat := 8 * ceilDiv aNum 64

/-- body_len of a CAP body. -/
def State.capLen (s : State) (aNum cNum : Nat) : Nat :=
  32 + cNum * s.roundLen * aNum * 2 * s.width + cNum * s.gSlots * capRow aNum

/-- One byte of a CAP body (R175). -/
def State.capByte (s : State) (m aLo aNum cLo cNum o : Nat) : Byte :=
  let desc := leBytes 8 (s.capLen aNum cNum) ++ leBytes 8 m ++ leBytes 2 aLo ++ leBytes 2 aNum ++ leBytes 2 cLo ++ leBytes 2 cNum
    ++ leBytes 1 (s.rd R.IN_CTL_fmt) ++ zeros 3 ++ leBytes 4 s.roundLen
  let w := s.width
  let samp := cNum * s.roundLen * aNum * 2 * w
  if o < 32 then desc.getD o 0
  else if o < 32 + samp then
    let k := o - 32
    let i := k / (2 * w)
    let a := aLo + i % aNum
    let tau := i / aNum % s.roundLen
    let c := cLo + i / aNum / s.roundLen
    s.byte (s.capBase + s.sampleOff a (k / w % 2) (c - s.chBase) tau + k % w)
  else
    let k := o - 32 - samp
    let row := k / capRow aNum
    let c := cLo + row / s.gSlots
    let a0 := 8 * (k % capRow aNum)
    BitVec.ofNat 8 (sumTo 8 (fun b =>
      if a0 + b < aNum && s.flagBit s.capBase (aLo + a0 + b) (c - s.chBase) (row % s.gSlots) then 2 ^ b else 0))

/-- Bytes [o, o + n) of a body. -/
def State.bodySlice (s : State) (b : Body) (o n : Nat) : Bytes :=
  match b with
  | .lit bs => (bs.drop o).take n
  | .vis g y t d => (List.range n).map (fun k => (s.asDefined y).visByte g y t d (o + k))
  | .cap m aLo aNum cLo cNum => (List.range n).map (fun k => s.capByte m aLo aNum cLo cNum (o + k))

/-! ## The device frame (Table 7-3, R163 to R166) -/

/-- The length of segment i of an instance. -/
def Inst.segLen (x : Inst) (i : Nat) : Nat := min x.seg (x.bodyLen - i * x.seg)

/-- Segment prefix and body segment. -/
def State.framePayload (s : State) (x : Inst) (i : Nat) : Bytes :=
  let pflags := (if i = 0 then 1 else 0) + (if i + 1 = x.segs then 2 else 0)
  leBytes 2 x.stream ++ leBytes 2 pflags ++ leBytes 4 x.inst ++ leBytes 8 (i * x.seg) ++ s.bodySlice x.body (i * x.seg) (x.segLen i)

/-- The payload digest of a frame (R165). -/
def State.frameDigest (s : State) (x : Inst) (i : Nat) : Nat := crc64 (s.framePayload x i)

/-- The device frame of segment i, with the claim in force now (R164). -/
def State.deviceFrame (s : State) (x : Inst) (i : Nat) : Bytes :=
  let pl := s.framePayload x i
  let h := leBytes 2 0xA0D7 ++ leBytes 1 1 ++ leBytes 1 (x.typ + 16 * x.tq) ++ leBytes 4 (s.rq R.TOP_SERIAL)
    ++ leBytes 8 (s.rq R.CS_CLAIM) ++ leBytes 8 (x.first.getD 0 + i) ++ leBytes 8 x.scStart ++ leBytes 4 x.scEnd
    ++ leBytes 6 x.taiS ++ leBytes 4 x.taiNs ++ leBytes 2 x.ep ++ leBytes 4 x.cfg ++ leBytes 8 (crc64 pl)
  h ++ leBytes 4 (crc32c h) ++ pl

/-- The Internet checksum of a byte string. -/
def inetSum (bs : Bytes) : Nat :=
  let words := (List.range ((bs.length + 1) / 2)).foldl (fun a i => a + byteAt bs (2 * i) * 256 + byteAt bs (2 * i + 1)) 0
  let f (x : Nat) : Nat := x % 65536 + x / 65536
  65535 - f (f (f words))

/-- A UDP datagram in its IP packet and Ethernet frame from port p to endpoint e (R156, R159). -/
def State.ethFrame (s : State) (p e stream : Nat) (pl : Bytes) : Bytes :=
  let v6 := s.on (R.OT_EPCTL_v6 e)
  let ip (f : Nat → Nat) (n : Nat) : Bytes := (List.range n).flatMap (fun w => beBytes 4 (s.word (f w)).toNat)
  let ttl := s.rd R.OT_CTL_ttl
  let dscp := s.rd (R.OT_EPCTL_dscp e)
  let ulen := 8 + pl.length
  let ports := beBytes 2 (s.rd (R.OT_EPPORT_src e)) ++ beBytes 2 (s.rd (R.OT_EPPORT_dst e)) ++ beBytes 2 ulen
  let mac := beBytes 6 (s.rq (R.OT_EPMAC e)) ++ beBytes 6 (s.rq (R.ET_MAC p))
  let tag := if s.on (R.OT_EPCTL_vlan e) then
    beBytes 2 0x8100 ++ beBytes 2 (s.rd (R.OT_EPCTL_pcp e) * 8192 + s.rd (R.OT_EPCTL_vid e)) else []
  if v6 then
    let src := ip (fun w => R.ET_IP6 p w) 4
    let dst := ip (fun w => R.OT_EPIP e w) 4
    let sum := inetSum (src ++ dst ++ beBytes 4 ulen ++ beBytes 4 17 ++ ports ++ zeros 2 ++ pl)
    mac ++ tag ++ beBytes 2 0x86DD ++ beBytes 4 (6 * 2 ^ 28 + dscp * 4 * 2 ^ 20 + stream) ++ beBytes 2 ulen ++ beBytes 1 17
      ++ beBytes 1 ttl ++ src ++ dst ++ ports ++ beBytes 2 (if sum = 0 then 65535 else sum) ++ pl
  else
    let addrs := beBytes 4 (s.word (R.ET_IP4 p)).toNat ++ ip (fun w => R.OT_EPIP e w) 1
    let h (c : Nat) : Bytes := beBytes 1 0x45 ++ beBytes 1 (dscp * 4) ++ beBytes 2 (20 + ulen) ++ beBytes 2 0 ++ beBytes 2 0x4000
      ++ beBytes 1 ttl ++ beBytes 1 17 ++ beBytes 2 c ++ addrs
    mac ++ tag ++ beBytes 2 0x0800 ++ h (inetSum (h 0)) ++ ports ++ beBytes 2 0 ++ pl

/-! ## The release gate -/

/-- The configuration epoch in force for a round (R368). -/
def State.cfgEpochOf (s : State) (n : Nat) : Nat := (atRound s.cf.epochs n).getD 0

/-- TAI of an SC through the mapping that governs its round, and its time epoch; zero TAI and the time epoch in force
without one (R163). -/
def State.headTime (s : State) (sc : Nat) : Nat × Nat × Nat :=
  match (s.roundOf sc).bind s.mapOf with
  | some m =>
    let ns := (taiOf m sc / (2 ^ 48 : Int)).toNat
    (ns / 1000000000, ns % 1000000000, m.ep)
  | none => (0, 0, s.rd R.TB_STATUS_epoch)

/-- A SC-covered product instance before its release. -/
def State.newInst (s : State) (typ stream inst scStart scEnd route len : Nat) (body : Body) : Inst :=
  let t := s.headTime scStart
  { (default : Inst) with
    typ := typ, stream := stream, inst := inst, scStart := scStart, scEnd := scEnd, taiS := t.1,
    taiNs := t.2.1, ep := t.2.2, cfg := s.cfgEpochOf ((s.roundOf scStart).getD 0), tq := s.rd R.REF_STATUS_tq,
    route := route, seg := s.segSize route, bodyLen := len, body := body }

/-- Takes an instance's sequence numbers (R167). -/
def State.numberInst (s : State) (x : Inst) : State :=
  let f := s.rq (R.OT_SEQ x.stream)
  let s := s.wq (R.OT_SEQ x.stream) (f + x.segs)
  { s with ot := { s.ot with insts := s.ot.insts ++ [{ x with first := some f }] } }

/-- The header fields that an instance takes as it passes the gate (R163, R164); HLT and TIM carry those of their instant. -/
def State.stamped (s : State) (x : Inst) : Inst :=
  if 6 ≤ x.typ then x
  else
    let t := s.headTime x.scStart
    { x with taiS := t.1, taiNs := t.2.1, ep := t.2.2, cfg := s.cfgEpochOf ((s.roundOf x.scStart).getD 0), tq := s.rd R.REF_STATUS_tq,
             seg := s.segSize x.route }

/-- A HANDING unit's instance at or after the handover round: it releases none (R224). -/
def State.pastHand (s : State) (x : Inst) : Bool :=
  s.csState = 5 && decide (x.typ < 6 ∧ s.roundSc (s.cs.hand.getD 0) ≤ x.scStart)

/-- An instance passes the release gate (R178). A joiner's payload waits for its first sequence number until the
active's DIGEST brings it (R221), a prepared unit's until its stream is handed; a HANDING unit releases nothing from the
handover round on (R224). -/
def State.release (s : State) (x : Inst) (invalid : Bool) : State :=
  let x := s.stamped x
  let key := x.stream * 2 ^ 64 + x.inst
  let joining := (s.csState = 1 ∨ s.csState = 2) ∧ s.cs.joined.isSome ∧ x.typ < 6 ∧ smapGet 0 s.cs.numbered x.stream = 0
  let hold (s : State) : State := { s with ot := { s.ot with insts := s.ot.insts ++ [x] } }
  if s.pastHand x then s.forget [x]
  else
  let s := (s.inc (R.OT_CNT 0)).when invalid (·.inc (R.OT_CNT 1))
  if x.typ < 6 ∧ s.awaits x.stream = true then hold s
  else if joining then
    match smapGet 0 s.cs.firstSeq key with
    | 0 => hold s
    | f + 1 =>
      if s.ot.insts.any (fun y => y.stream = x.stream && y.first.isNone) then hold s
      else
        let s := { s with cs := { s.cs with numbered := smapSet 0 s.cs.numbered x.stream (f + 1) } }
        (s.wq (R.OT_SEQ x.stream) f).numberInst x
  else s.numberInst x

/-- Payload of an instance may leave the device in the unit's castling state (Table 9-3, R224). (DEDUCED: log entry 93.) -/
def State.mayLeave (s : State) (x : Inst) : Bool :=
  if 6 ≤ x.typ then true
  else
    match s.csState with
    | 0 => true
    | 3 => !s.awaits x.stream
    | 5 => !(s.cs.handed.contains x.stream) && decide (x.scStart < s.roundSc (s.cs.hand.getD 0))
    | _ => false

/-- HBM products are suspended in Endgame (R180). -/
def State.suspended (s : State) (x : Inst) : Bool := s.on R.OT_STATUS_endgame && (x.typ < 3 || x.typ = 4 || x.typ = 5)

/-- A VIS instance passes the gate (R169, R178). -/
def State.releaseVis (s : State) (g : Nat) (y : Integ) : State :=
  let tainted := (s.ag.taints.filter (fun t => t.g = g ∧ t.i = y.idx)).map (fun t => (t.a, t.b))
  let m := s.pmFor y.r0
  let q := s.asDefined y
  let div := s.al.divs.any (fun d => decide (y.r0 ≤ d.round ∧ d.round ≤ y.r1) &&
    (List.range d.num).any (fun k => q.chanIn g (d.c0 + k)) &&
    (List.range 4096).any (fun b => q.feedMask m g (min d.stream b) (max d.stream b) != 0))
  let desc := q.visDesc g y (!tainted.isEmpty) div
  let x0 := s.newInst 0 g y.idx (s.roundSc y.r0) (s.roundSc (y.r1 + 1)) (q.rd (R.AG_GCFG_dest g)) (q.visLen g) (.vis g y tainted desc)
  let x := { x0 with div := div }
  let bad := !tainted.isEmpty || (List.range (q.groupCh g * q.groupPos g)).any (fun k =>
    let c := q.rd (R.AG_GCH_ch_lo g) + k / q.groupPos g
    let ab := q.pairAt g (k % q.groupPos g)
    smapGet false y.fresh (c * 64 + blockPair (ab.1 / 512) (ab.2 / 512)) && q.wgtGet g y.area c ab.1 ab.2 = sentinel)
  let s := s.release x bad
  let s := { s with ag := { s.ag with closed := s.ag.closed.map (fun q => if q = (g, y) then (g, { y with rel := true }) else q) } }
  if y.cut then s.truncateArea g y.area else s

/-- The TPW descriptor and records of round n, from the total-power bank of the round (R76, R173). -/
def State.tpwBody (s : State) (n : Nat) : Bytes :=
  let bins := s.tpBins
  let streams := 512 * s.blocks
  let len := 32 + streams * bins * 16
  leBytes 8 len ++ leBytes 8 n ++ leBytes 1 s.tpLog2 ++ leBytes 1 (s.blocks - 1) ++ zeros 2 ++ leBytes 2 s.chBase
    ++ leBytes 2 s.slabCh ++ leBytes 4 bins ++ leBytes 4 streams
    ++ (List.range (streams * bins)).flatMap (fun k =>
      let r := smapGet default s.al.tp ((n % 2) * 4194304 + k)
      leBytes 6 r.x ++ leBytes 6 r.y ++ leBytes 4 r.n)

/-- The FLG body of round n, from its slab (R174). -/
def State.flgBody (s : State) (n : Nat) : Bytes :=
  let base := s.slabBase n
  let recs := smapGet 0 s.al.flogN n
  let lost := smapGet 0 s.al.flogLost n
  let plane := s.slabCh * s.gSlots * s.blocks * 64
  let plen := if s.on R.OT_FLG_plane then plane else 0
  leBytes 8 (32 + plen + 32 * recs) ++ leBytes 8 n ++ leBytes 4 recs ++ leBytes 4 lost
    ++ leBytes 1 ((if lost = 0 then 0 else 1) + 2 * s.rd R.OT_FLG_plane) ++ zeros 1 ++ leBytes 2 s.gSlots ++ leBytes 4 plen
    ++ s.bytes (base + s.sampleArea) plen ++ s.bytes (base + s.sampleArea + s.planeArea + s.tpArea) (32 * recs)

/-- Releases one round product: TPW (3) or FLG (4) of round n. -/
def State.releaseRound (s : State) (typ n : Nat) : State :=
  let body := if typ = 3 then s.tpwBody n else s.flgBody n
  let x := s.newInst typ (189 + typ) n (s.roundSc n) (s.roundSc (n + 1)) (s.rd (if typ = 3 then R.OT_TPW_route else R.OT_FLG_route)) body.length (.lit body)
  s.release { x with div := s.al.divs.any (fun d => d.round = n) } false

/-- The held capture's instance (R175). -/
def State.releaseCap (s : State) : State :=
  let m := s.rq R.AL_CAPHELD
  match s.ot.capSel with
  | (aLo, aNum, cLo, cNum) =>
    let x := s.newInst 5 194 s.ot.capN (s.roundSc m) (s.roundSc (m + 1)) (s.rd R.OT_CAPB_route) (s.capLen aNum cNum)
      (.cap m aLo aNum cLo cNum)
    (({ s with ot := { s.ot with capN := s.ot.capN + 1 } }).release
      { x with div := s.al.divs.any (fun d => decide (d.round = m ∧ aLo ≤ d.stream ∧ d.stream < aLo + aNum
        ∧ d.c0 < cLo + cNum ∧ cLo < d.c0 + d.num)) } false)

/-- RELEASE_GATE_PASS for a frame type of Table 7-4: the oldest instance whose work is final passes the gate. TPW, FLG and
CAP instances exist only while their streams are enabled. -/
def State.gatePass (s : State) (typ : Nat) : State :=
  match typ with
  | 0 =>
    match s.ag.closed.find? (fun p => !p.2.rel) with
    | some p => s.releaseVis p.1 p.2
    | none => s
  | 1 | 2 =>
    match s.ba.due.find? (fun x => x.typ = typ) with
    | some x =>
      let s := { s with ba := { s.ba with due := s.ba.due.erase x } }
      s.release { x with digs := 0 } (x.digs = 1)
    | none => s
  | 5 =>
    if s.on R.OT_CAPA_en && s.ot.sealed.any (fun k => k % 8 = 5) then
      State.releaseCap { s with ot := { s.ot with sealed := s.ot.sealed.filter (fun k => k % 8 ≠ 5) } }
    else s
  | _ =>
    match s.ot.sealed.find? (fun k => k % 8 = typ) with
    | some k =>
      let s := { s with ot := { s.ot with sealed := s.ot.sealed.erase k } }
      if s.on (if typ = 3 then R.OT_TPW_en else R.OT_FLG_en) then s.releaseRound typ (k / 8) else s
    | none => s

/-! ## HLT and TIM (R176, R177, R197) -/

/-- A health record (Table 8-5). -/
def healthBytes (hstate : Nat) (k : Nat) (r : HealthRec) : Bytes :=
  leBytes 1 (k / 256) ++ leBytes 1 (k % 256) ++ leBytes 1 r.sev ++ leBytes 1 hstate ++ leBytes 4 r.count ++ leBytes 8 r.round
    ++ leBytes 6 r.taiS ++ leBytes 4 r.taiNs ++ leBytes 2 r.detail ++ zeros 4

/-- An HLT or TIM instance whose instant is at counter value t. -/
def State.reportAt (s : State) (t typ stream inst sc route : Nat) (body : Bytes) : State :=
  let ns := t / nsUnit
  let x := { s.newInst typ stream inst sc sc route body.length (.lit body) with
    taiS := ns / 1000000000, taiNs := ns % 1000000000, ep := s.rd R.TB_STATUS_epoch, cfg := s.cfgEpochOf s.curRound }
  s.release x false

/-- An HLT instance leaves now, when the stream is enabled: the rows it carries, at most 254 beside the summary, are the ones
reported. (DEDUCED: log entry 89.) -/
def State.hltSend (s : State) : State :=
  if s.on R.OT_HLT_en then
    let h := s.rd R.IG_STATUS_hstate
    let rows := (s.ig.health.filter (fun p => p.2.count ≠ p.2.reported ∨ 1 ≤ p.2.sev)).take 254
    let sum : HealthRec := { (default : HealthRec) with count := rows.length }
    let body := leBytes 8 (48 + 32 * rows.length) ++ leBytes 8 (s.rq R.TOP_SERIAL) ++ healthBytes h 0 sum
      ++ rows.flatMap (fun p => healthBytes h p.1 p.2)
    let s := s.reportAt s.tb.t 6 195 s.ot.hltN s.horizon (s.rd R.OT_HLT_route) body
    let tab := s.ig.health.map (fun p => if rows.contains p then (p.1, { p.2 with reported := p.2.count }) else p)
    { s with ot := { s.ot with hltN := s.ot.hltN + 1 }, ig := { s.ig with health := tab, hltDue := false } }
  else { s with ig := { s.ig with hltDue := false } }

/-- HLT_REPORT (R176): OT_HLT.period after the last periodic report, and after any change of health state. -/
def State.hltReport (s : State) : State :=
  let due := decide (s.tb.t < s.ot.hltAt ∨ s.ot.hltAt + s.rd R.OT_HLT_period * 1000000 * nsUnit ≤ s.tb.t)
  if due then State.hltSend { s with ot := { s.ot with hltAt := s.tb.t } } else s.when s.ig.hltDue (·.hltSend)

/-- The TIM body for the instant of counter value t (Table 7-9). -/
def State.timBody (s : State) (t : Nat) : Bytes :=
  let sel := s.rd R.REF_STATUS_sel
  let ts := s.rq R.TB_SCEF_TS
  let ns := t / nsUnit
  leBytes 8 72 ++ leBytes 6 (ns / 1000000000) ++ leBytes 4 (ns % 1000000000) ++ leBytes 6 (t % nsUnit) ++ leBytes 1 (s.rd R.REF_STATUS_tq) ++ leBytes 1 sel
    ++ leBytes 2 (s.rd R.TB_STATUS_epoch) ++ leBytes 8 (s.rq R.TB_INC)
    ++ leBytes 8 (if sel < 8 then s.rq (R.REF_POFF sel) else 0) ++ leBytes 8 (s.rq R.TB_SCEF_SC) ++ leBytes 6 ts
    ++ leBytes 4 (s.rd R.TB_SCEF_TNS_v) ++ zeros 2 ++ leBytes 8 (rateOf s.tb.epoch)

/-- A TIM instance for the instant of counter value t, when the stream is enabled. -/
def State.timSend (s : State) (t : Nat) : State :=
  if s.on R.OT_TIM_en then
    let sc := if s.sceValid then (scAt s.tb.epoch t).toNat else 0
    let s := s.reportAt t 7 196 s.ot.timN sc (s.rd R.OT_TIM_route) (s.timBody t)
    { s with ot := { s.ot with timN := s.ot.timN + 1 } }
  else s

/-- TIM_REPORT (R177): for the second, or the tenth of a second, that began last, once; and for the present instant after a
change of time quality code or time epoch. -/
def State.timReport (s : State) : State :=
  let step := (if s.on R.OT_TIM_period then 100000000 else 1000000000) * nsUnit
  let b := s.tb.t / step * step
  let s := s.when (b ≠ s.ot.timAt) (fun s => State.timSend { s with ot := { s.ot with timAt := b } } b)
  s.when s.ot.timDue (fun s => State.timSend { s with ot := { s.ot with timDue := false } } s.tb.t)

/-! ## The way out -/

/-- The held capture is released (R78): its buffer becomes spare again. -/
def State.captureRelease (s : State) : State :=
  if s.on R.AL_STATUS_cap_held then
    let s := { s with ot := { s.ot with
      insts := s.ot.insts.filter (fun x => x.typ ≠ 5)
      sealed := s.ot.sealed.filter (fun k => k % 8 ≠ 5) } }
    (s.wr R.AL_STATUS_cap_held 0).fire 86
  else s

/-- What the end of an instance's output brings: an area read no more, a capture streamed (R175). (DEDUCED: log entry 91.) -/
def State.instDone (s : State) (x : Inst) : State :=
  match x.body with
  | .vis g y _ _ => s.outputDone g y.idx y.area
  | .cap _ _ _ _ _ => (s.inc (R.OT_CNT 5)).when (s.on R.AL_CAPCTL_auto_rel) State.captureRelease
  | .lit _ => s

/-- The same instance (stream and number). -/
def sameInst (x y : Inst) : Bool := x.stream = y.stream && x.inst = y.inst

/-- An instance's digests have all been reported, or castling is off. -/
def State.digested (s : State) (x : Inst) : Bool := !s.on R.CS_CTL_en || decide (x.segs ≤ x.digs)

/-- Marks segment i as gone and drops the instance once nothing of it is left to send or report. -/
def State.markSent (s : State) (x : Inst) (i : Nat) : State :=
  let y := { x with sent := smapSet false x.sent i true }
  let l := s.ot.insts.map (fun z => if sameInst z x then y else z)
  if y.unsent.isSome then { s with ot := { s.ot with insts := l } }
  else
    let keep := l.filter (fun z => !(sameInst z x) || !s.digested y)
    ({ s with ot := { s.ot with insts := keep } }).instDone y

/-- The lowest unsent segment of an instance that R157 assigns to port p. -/
def State.segFor (s : State) (x : Inst) (p : Nat) : Option Nat :=
  let ports := s.routePorts x.route
  match x.first with
  | none => none
  | some f => lowest x.segs (fun i => !(smapGet false x.sent i) &&
      (if ports.isEmpty then p == 0 else ports.getD ((f + i) % ports.length) 8 == p))

/-- The class of an instance (R162): 1 = HLT and TIM, 2 = reserved routes, 3 = the others. -/
def State.instClass (s : State) (x : Inst) : Nat :=
  if 6 ≤ x.typ then 1 else if s.rd (R.OT_RTCTL_rate x.route) = 0 then 3 else 2

/-- The instances with a frame ready for port p. -/
def State.readyFor (s : State) (p : Nat) : List Inst :=
  if s.on R.OT_CTL_en then s.ot.insts.filter (fun x => s.mayLeave x && !s.suspended x && (s.segFor x p).isSome) else []

/-- The first of a list whose route follows `from` in cyclic order. -/
def nextRoute (l : List Inst) (start : Nat) : Option Inst :=
  (lowest 256 (fun k => l.any (fun x => x.route = (start + k) % 256))).bind
    (fun k => l.find? (fun x => x.route = (start + k) % 256))

/-- Where port p's round goes on: after the route it served last, and at `first` before it has served one. -/
def roundFrom (served : SMap Nat) (p first : Nat) : Nat := if smapGet 0 served p = 0 then first else smapGet 0 served p

/-- What a visit of the deficit round robin adds for route r on port p: in the proportion q_rp × σ_p, at least a segment. -/
def State.quantum (s : State) (p r : Nat) : Rat :=
  let ws := (List.range 256).filterMap (fun q =>
    if (s.rd (R.OT_RTCTL_ports q)).testBit p && s.rd (R.OT_RTCTL_rate q) != 0 then some (s.routeShare q) else none)
  9088 * s.routeShare r / ws.foldl min (s.routeShare r)

/-- The instance port p serves next (R162), with the scheduler's state after it: class 1 in release order; class 2 by deficit
round robin, in which a route without a frame keeps no deficit; class 3 by round robin. (DESIGN CHOICE: log entry 88.) -/
def State.nextInst (s : State) (p first : Nat) : Option (Inst × OtState) :=
  let l := s.readyFor p
  let c (n : Nat) := l.filter (fun x => s.instClass x = n)
  let size (x : Inst) : Rat := ((x.segLen ((s.segFor x p).getD 0) : Nat) : Rat)
  match c 1 with
  | x :: _ => some (x, s.ot)
  | [] =>
    if (c 2).isEmpty then
      (nextRoute (c 3) (roundFrom s.ot.last p first)).map (fun x => (x, { s.ot with last := smapSet 0 s.ot.last p (x.route + 1) }))
    else
      let had := s.ot.deficit.filter (fun q => q.1 / 256 ≠ p || (c 2).any (fun x => x.route = q.1 % 256))
      let turn := smapGet 0 s.ot.turn p
      match (c 2).find? (fun x => x.route + 1 = turn && decide (size x ≤ smapGet 0 had (256 * p + x.route))) with
      | some x => some (x, { s.ot with deficit := smapSet 0 had (256 * p + x.route) (smapGet 0 had (256 * p + x.route) - size x) })
      | none => (nextRoute (c 2) (roundFrom s.ot.turn p first)).map (fun x =>
        let k := 256 * p + x.route
        (x, { s.ot with
          turn := smapSet 0 s.ot.turn p (x.route + 1), deficit := smapSet 0 had k (smapGet 0 had k + s.quantum p x.route - size x) }))

/-- An Ethernet frame leaves port p, with its FCS (R155). -/
def State.etherSend (s : State) (p : Nat) (bs : Bytes) : State := (s.inc (R.ET_CNT p 0)).emit (.frame p (withFcs bs))

/-- FRAME_SEND (R162, R181): port p sends its next frame; a frame whose port is down leaves on the next port of the mask
that is up, or is discarded when none is. `first`: the route from which a round not yet begun
starts. (DEDUCED: log entry 87.) -/
def State.frameSend (s : State) (p first : Nat) : State :=
  match s.nextInst p first with
  | none => s
  | some (x, ot) =>
    match s.segFor x p with
    | none => s
    | some i =>
      let ports := s.routePorts x.route
      let at_ := (x.first.getD 0 + i) % max 1 ports.length
      let s := { s with ot := ot }
      match lowest ports.length (fun k => s.ethUp (ports.getD ((at_ + k) % ports.length) 0)) with
      | none => (s.inc (R.OT_CNT 3)).markSent x i
      | some k =>
        let j := (at_ + k) % ports.length
        let q := ports.getD j 0
        let s := s.when (k ≠ 0) (fun s => (s.inc (R.OT_CNT 4)).inc (R.ET_CNT q 7))
        let s := s.etherSend q (s.ethFrame q (s.rd (R.OT_RTCTL_e0 x.route) + j) x.stream (s.deviceFrame x i))
        s.markSent x i

/-! ## Ethernet reception (R155) -/

/-- ETH_ALIGNMENT_LOSS: an up port retrains (R155). -/
def State.ethLoss (s : State) (p : Nat) : State :=
  if s.ethUp p then (s.setEth p 1).flag (R.ET_PORTSTAT_went_down p) else s

/-- ETH_LINK_UP: a training port comes up with its lanes locked. -/
def State.ethUpNow (s : State) (p : Nat) : State :=
  if s.rd (R.ET_PORTSTAT_state p) = 1 && !s.on R.REF_STATUS_xo_lost then
    (s.setEth p 2).wr (R.ET_PORTSTAT_lane_lock p) (ethLanes (s.rd (R.ET_PORTCTL_speed p)))
  else s

end Sys2Proof.Machine
end

