-- ==== Sys2Proof/Machine/Beam.lean ====
section
/-! DEFINITION. The Beam Array: beam-pol voltages (R134 to R136), the task table (R137, R138), weights and their sets
(R141 to R143), voltage and detected beams (R146, R149 to R151), the states of Table 6-2, shedding and failures (R152),
and the HBM traffic the device plans (R24, R283). -/

namespace Sys2Proof.Machine

/-! ## Configuration -/

/-- The beam configuration that governs a round (R145). (DEDUCED: log entry 80.) -/
def State.baCfg (s : State) (n : Nat) : SMap Word := (atRound s.ba.cfgs n).getD []

/-- bp_cnt, G (R137) and the Beam Array channels. -/
def State.bpCnt (s : State) : Nat := s.rd R.BA_CFG_bp_cnt
def State.beamGroups (s : State) : Nat := ceilDiv s.bpCnt 64
def State.baLo (s : State) : Nat := s.rd R.BA_CH_ch_lo
def State.baNum (s : State) : Nat := s.rd R.BA_CH_ch_num

/-- S_c and the channel-sets of a round. -/
def State.setCh (s : State) : Nat := max 1 (s.rd R.BA_SCHED_s_c)
def State.setCount (s : State) : Nat := s.baNum / s.setCh

/-- Slot d of slice sl as (coff, blk, g); none when it is not in use (R137). -/
def State.task (s : State) (sl d : Nat) : Option (Nat × Nat × Nat) :=
  if d < s.rd R.BA_SCHED_d ∧ s.on (R.BA_TASK_en sl d) then
    some (s.rd (R.BA_TASK_coff sl d), s.rd (R.BA_TASK_blk sl d), s.rd (R.BA_TASK_grp sl d))
  else none

/-- The enabled slots of the task table as (coff, blk, g). -/
def State.taskSlots (s : State) : List (Nat × Nat × Nat) :=
  (List.range 16).flatMap (fun sl => (List.range (s.rd R.BA_SCHED_d)).filterMap (fun d => s.task sl d))

/-- R138. -/
def State.taskValid (s : State) : Bool :=
  let sc := s.rd R.BA_SCHED_s_c
  let slots := s.taskSlots
  let ok (t : Nat × Nat × Nat) : Bool := decide (t.1 < sc ∧ t.2.1 < s.blocks ∧ t.2.2 < s.beamGroups)
  decide (0 < sc) && s.baNum % sc == 0 && decide (s.rd R.BA_SCHED_d ≤ 36) && slots.all ok && slots.dedup.length == slots.length
    && slots.length == sc * s.blocks * s.beamGroups

/-- BA_WSIZE (R141). -/
def State.wsetSize (s : State) : Nat := s.baNum * s.blocks * s.rd R.BA_CFG_g_alloc * 65536

/-- The base of a weight set: 0 = A, 1 = B. -/
def State.wsetBase (s : State) (x : Nat) : Nat := if x = 0 then s.rq R.BA_WBASE_A else s.rq R.BA_WBASE_B

/-- The weight set active for a round; set A until a switch (R142). -/
def State.wsetOf (s : State) (n : Nat) : Nat := (atRound s.ba.sets n).getD 0

/-- The weight of group g, column col, block blk, lane i and channel c as set x of HBM holds it (R141). -/
def State.weight (s : State) (x g col blk i c : Nat) : BitVec 16 :=
  let off := (((((c - s.baLo) * s.blocks + blk) * s.rd R.BA_CFG_g_alloc + g) * 512 + i) * 64 + col) * 2
  BitVec.ofNat 16 (leNat (s.bytes (s.wsetBase x + off) 2))

/-- What the weight feeder loads for channel-set k of round n: the weights of every slot in use (R133, R141). -/
def State.bankOf (s : State) (n k : Nat) : SMap (BitVec 16) :=
  (List.range (16 * 36)).flatMap (fun e =>
    match s.task (e / 36) (e % 36) with
    | some (coff, blk, g) => (List.range 32768).filterMap (fun x =>
      let w := s.weight (s.wsetOf n) g (x % 64) blk (x / 64) (s.baLo + k * s.setCh + coff)
      if w = 0 then none else some (e * 32768 + x, w))
    | none => [])

/-- The feeder loads channel-set k of round n into its bank. (DESIGN CHOICE: log entry 185.) -/
def State.loadBank (s : State) (n k : Nat) : State :=
  if s.setCount ≤ k then s
  else if k % 2 = 0 then { s with ba := { s.ba with bank0 := s.bankOf n k } }
  else { s with ba := { s.ba with bank1 := s.bankOf n k } }

/-- The weight in a cell for channel-set k: slice, slot, lane and column. -/
def State.cellWeight (s : State) (k sl d i col : Nat) : Int × Int :=
  let w := smapGet 0 (if k % 2 = 0 then s.ba.bank0 else s.ba.bank1) (((sl * 36 + d) * 512 + i) * 64 + col)
  (toSigned 8 w.toNat, toSigned 8 (w.toNat / 256))

/-- Bytes of one voltage sample in a format: 4+4, 8+8, raw int32. -/
def fmtBytes (f : Nat) : Nat := if f = 0 then 1 else if f = 1 then 2 else 8

/-- Values of a detection mode (R149). -/
def detVals (d : Nat) : Nat := if d = 1 then 1 else if d = 2 then 4 else if d = 3 then 2 else 0

/-- The enabled voltage entries of a configuration, ascending. -/
def voltEntries (c : SMap Word) : List Nat := (List.range 64).filter (fun v => (smapFind c (R.BA_VLSTA v)).isSome && cfgField c (R.BA_VLSTA_en v) = 1)

/-- The beams of profile x with a detection mode, ascending; the reset value of BA_BEAMb has none. -/
def profBeams (c : SMap Word) (x : Nat) : List Nat :=
  (List.range 1152).filter (fun b => (smapFind c (R.BA_BEAM b)).isSome && cfgField c (R.BA_BEAM_det b) ≠ 0
    && cfgField c (R.BA_BEAM_prof b) = x)

/-- The product classes in use: bit 0 = voltage, bits 1 and 2 = profiles 0 and 1. -/
def cfgClasses (c : SMap Word) : Nat :=
  (if (voltEntries c).isEmpty then 0 else 1) + (if (profBeams c 0).isEmpty then 0 else 2) + (if (profBeams c 1).isEmpty then 0 else 4)

/-- Bytes of voltage and of detected staging that a configuration needs for the classes of a mask (R148, R150). -/
def State.stgSize (s : State) (c : SMap Word) (classes : Nat) : Nat :=
  let v := if classes.testBit 0 then
    2 * s.roundLen * cfgField c R.BA_VCH_vc_num * ((voltEntries c).map (fun v => fmtBytes (cfgField c (R.BA_VLSTA_fmt v)))).sum else 0
  let d (x : Nat) := if classes.testBit (x + 1) then
    2 * (ceilDiv s.roundLen (2 ^ cfgField c (R.BA_DPROF_n x)) + 1) * (s.baNum / 2 ^ cfgField c (R.BA_DPROF_m x))
      * ((profBeams c x).map (fun b => detVals (cfgField c (R.BA_BEAM_det b)))).sum * 8 else 0
  v + d 0 + d 1

/-- A register of the beam configuration, which a commit takes (R145). -/
def isBeamShadow (a : Nat) : Bool :=
  let o := a % 0x100000
  a / 0x100000 = 5 ∧ (o = 0x14 ∨ o = 0x18 ∨ o = 0x20 ∨ o = 0x24 ∨ (0x2000 ≤ o ∧ o < 0x3200) ∨ (0x4000 ≤ o ∧ o < 0x4200))

/-- The shadow of the beam configuration: every word of it that differs from its reset value (R145). -/
def State.beamShadow (s : State) : SMap Word :=
  s.csr.filter (fun p => isBeamShadow p.1)

/-! ## Planned occupancy and traffic (R24, R283) -/

/-- The open groups. -/
def State.openGroups (s : State) : List Nat := groupList.filter (fun g => s.gState g != 0)

/-- The areas of a group as (base, size). -/
def State.groupAreas (s : State) (g : Nat) : List (Nat × Nat) :=
  if s.on (R.AG_GCFG_mode g) then [(s.rq (R.AG_GBASE0 g), s.groupSize g)]
  else [(s.rq (R.AG_GBASE0 g), s.groupSize g), (s.rq (R.AG_GBASE1 g), s.groupSize g)]

/-- The weight sets as ranges. -/
def State.wsetRanges (s : State) : List (Nat × Nat) := [(s.wsetBase 0, s.wsetSize), (s.wsetBase 1, s.wsetSize)]

/-- The beam staging area as a range. -/
def State.stgRange (s : State) : Nat × Nat := (s.rq R.BA_STGBASE, s.stgSize s.beamShadow (cfgClasses s.beamShadow))

/-- The Beam Array is on. -/
def State.beamOn (s : State) : Bool := s.rd R.BA_STATUS_state != 0

/-- The HBM that a layout occupies (R24), with a statistics ring of the size given. -/
def State.occupancy (s : State) (ring : Nat) (groups : List Nat) (beam : Bool) : Nat :=
  let sum (l : List (Nat × Nat)) := (l.map Prod.snd).sum
  sum (s.slabRanges ring) + sum s.maskRanges + (groups.map (fun g => sum (s.groupAreas g))).sum
    + (if beam then sum s.wsetRanges + s.stgRange.2 else 0)

/-- The pairs that a Pair Map has an entry for. -/
def mapPairs (m : SMap (BitVec 16)) : List (Nat × Nat) :=
  (m.map (fun p => (min (p.1 / 4096) (p.1 % 4096), max (p.1 / 4096) (p.1 % 4096)))).dedup

/-- The pairs that feed a group: those with an entry, and the autocorrelations that a group takes by itself. -/
def State.memberPairs (s : State) (m : SMap (BitVec 16)) (g : Nat) : List (Nat × Nat) :=
  let ents := mapPairs m
  let autos := if s.on (R.AG_GCFG_auto g) then
      ((List.range 4096).map (fun a => (a, a))).filter (fun p => !ents.contains p)
    else []
  (ents ++ autos).filter (fun p => s.feedMask m g p.1 p.2 != 0)

/-- b_hbm of R283 without its output term: channels the Board takes, groups, beam classes and channels. -/
def State.hbmBytes (s : State) (n cAdm : Nat) (groups : List Nat) (classes : Nat) : Nat :=
  let ents := (s.tableOf n).entries
  let board := ((ents.map (fun w => 1 + (entryPairs w).length)).sum) * cAdm * s.roundLen * 1024 * s.width
  let m := s.pmFor n
  let drain := (groups.map (fun g => (s.memberPairs m g).length * s.groupCh g * (2 * (8 * s.compBytes g) + 8))).sum
  let ch := if classes = 0 then 0 else s.baNum
  let beam := ch * s.blocks * s.roundLen * 1024 * s.width + ch * s.blocks * s.beamGroups * 65536 + s.stgSize (s.baCfg n) classes
  s.slabSize + board + drain + beam

/-- Σ G_r over the routes named by admitted items and by enabled TPW, FLG and CAP (R283), bytes a second. -/
def State.outputRate (s : State) (n : Nat) (groups : List Nat) (classes : Nat) : Rat :=
  let c := s.baCfg n
  let rs := groups.map (fun g => s.rd (R.AG_GCFG_dest g))
    ++ (if classes.testBit 0 then ((voltEntries c).filter (fun v => cfgField c (R.BA_VLSTA_to_eth v) = 1)).map
          (fun v => cfgField c (R.BA_VLSTB_eth_dest v)) else [])
    ++ (if classes.testBit 1 then [cfgField c (R.BA_DPROF_dest 0)] else [])
    ++ (if classes.testBit 2 then [cfgField c (R.BA_DPROF_dest 1)] else [])
    ++ (if s.on R.OT_TPW_en then [s.rd R.OT_TPW_route] else []) ++ (if s.on R.OT_FLG_en then [s.rd R.OT_FLG_route] else [])
    ++ (if s.on R.OT_CAPA_en then [s.rd R.OT_CAPB_route] else [])
  rs.dedup.foldl (fun a r => a + s.routeGrant r) 0

/-- The stacks fitted. -/
def State.stacks (s : State) : Nat := match s.part with
  | .m => 4
  | _ => 8

/-- The planned sustained rate is within 75 % of the part's peak (R24, R278, R283), for every slab channel, the groups
given and the beam classes given. -/
def State.trafficOk (s : State) (groups : List Nat) (classes : Nat) : Bool :=
  let bytes := s.hbmBytes s.nextRound s.slabCh groups classes
  let perSec : Rat := (bytes * s.chRate : Nat) / (s.roundLen * 2 ^ 32 : Nat)
  decide (perSec + s.outputRate s.nextRound groups classes ≤ (s.stacks * 1536000000000 : Nat))

/-- R24 holds for a layout with a statistics ring of the size given. -/
def State.layoutFits (s : State) (ring : Nat) (groups : List Nat) (beam : Bool) (classes : Nat) : Bool :=
  decide (s.occupancy ring groups beam ≤ s.hbmSize) && s.trafficOk groups classes

/-- R24 holds for a layout with the statistics ring in force. -/
def State.layoutOk (s : State) (groups : List Nat) (beam : Bool) (classes : Nat) : Bool :=
  s.layoutFits (s.rq R.AL_RINGSIZE) groups beam classes

/-! ## Voltages (R134 to R136) -/

/-- Antenna sample (a, p) of a channel as a cell multiplies it under a flag policy, and its valid bit (R136). -/
def State.beamSample (s : State) (n a p c tau : Nat) (pass : Bool) : Bool × Int × Int :=
  let x := s.fed n a p (c - s.chBase) tau
  if pass then (x.1, s.sample (s.slabBase n) a p (c - s.chBase) tau) else x

/-- w · x (R134); an 8+8 sample in two steps, for its high and its low digits. -/
def cellProduct (width : Nat) (w x : Int × Int) : Int × Int :=
  let mul (v : Int × Int) : Int × Int := (w.1 * v.1 - w.2 * v.2, w.1 * v.2 + w.2 * v.1)
  if width = 2 then
    let h := mul (x.1 / 16, x.2 / 16)
    let l := mul (x.1 % 16, x.2 % 16)
    (16 * h.1 + l.1, 16 * h.2 + l.2)
  else mul x

/-- The flag policy of beam-pol j: pass (R136). -/
def passPol (cf : SMap Word) (j : Nat) : Bool :=
  if j % 2 = 0 then cfgField cf (R.BA_BEAM_fp_x (j / 2)) = 1 else cfgField cf (R.BA_BEAM_fp_y (j / 2)) = 1

/-- Adds complex integers. -/
def cAdd (x y : Int × Int) : Int × Int := (x.1 + y.1, x.2 + y.2)

/-- The sum of column col of slice sl for slot d at sample t of channel-set k of round n, and its count of lanes whose weight is
not 0 and whose sample is not valid (R134, R136). -/
def State.colSum (s : State) (n k sl d col t : Nat) : (Int × Int) × Nat :=
  match s.task sl d with
  | none => ((0, 0), 0)
  | some (coff, blk, g) =>
    let j := 64 * g + col
    let c := s.baLo + k * s.setCh + coff
    (List.range 512).foldl (fun acc i =>
      let w := s.cellWeight k sl d i col
      let x := s.beamSample n (512 * blk + i) (j % 2) c t (passPol (s.baCfg n) j)
      (cAdd acc.1 (cellProduct s.width w x.2), acc.2 + if w ≠ (0, 0) ∧ x.1 = false then 1 else 0)) ((0, 0), 0)

/-- The checker column's sum: for every lane the weights summed by polarisation and policy, times the matching samples (R144). -/
def State.checkerSum (s : State) (n k sl d t : Nat) : Int × Int :=
  match s.task sl d with
  | none => (0, 0)
  | some (coff, blk, g) =>
    let c := s.baLo + k * s.setCh + coff
    (List.range 512).foldl (fun acc i =>
      [(0, false), (0, true), (1, false), (1, true)].foldl (fun acc (q : Nat × Bool) =>
        let cols := (List.range 64).filter (fun col => col % 2 = q.1 && passPol (s.baCfg n) (64 * g + col) = q.2)
        let w := cols.foldl (fun a col => cAdd a (s.cellWeight k sl d i col)) (0, 0)
        cAdd acc (cellProduct s.width w (s.beamSample n (512 * blk + i) q.1 c t q.2).2)) acc) (0, 0)

/-- The comparison of a step fails: the sum of the 64 column sums, altered by a fault as `cols` says, is not the checker column's
sum, altered by `chk` (R190). -/
def State.sliceDiffers (s : State) (n k sl d t : Nat) (cols : List (Int × Int)) (chk : Int × Int) : Bool :=
  (s.task sl d).isSome &&
    (List.range 64).foldl (fun a col => cAdd a (cAdd (s.colSum n k sl d col t).1 (cols.getD col (0, 0)))) (0, 0)
      ≠ cAdd (s.checkerSum n k sl d t) chk

/-- The slice and slot whose task is (coff, blk, g) (R138). -/
def State.slotOf (s : State) (coff blk g : Nat) : Option (Nat × Nat) :=
  (lowest (16 * 36) (fun e => s.task (e / 36) (e % 36) = some (coff, blk, g))).map (fun e => (e / 36, e % 36))

/-- v and the flag count u of beam-pol j in channel c at sample tau of round n: the combiner adds the column sums of the blocks
in the beam's mask (R135). -/
def State.beamVolt (s : State) (n j c tau : Nat) : (Int × Int) × Nat :=
  let x := c - s.baLo
  ((List.range s.blocks).filter (fun blk => (cfgField (s.baCfg n) (R.BA_BEAM_blkmask (j / 2))).testBit blk)).foldl
    (fun acc blk =>
      match s.slotOf (x % s.setCh) blk (j / 64) with
      | some (sl, d) =>
        let q := s.colSum n (x / s.setCh) sl d (j % 64) tau
        (cAdd acc.1 q.1, acc.2 + q.2)
      | none => acc) ((0, 0), 0)

/-- The nearest integer to y / 2^sh, ties to even. -/
def roundHalfEven (y : Int) (sh : Nat) : Int :=
  let d : Int := 2 ^ sh
  let q := y / d
  let r := 2 * (y % d)
  if d < r ∨ (r = d ∧ q % 2 = 1) then q + 1 else q

/-- One part requantised, and whether it was limited (R146). -/
def requant (fmt scale shift : Nat) (r : Int) : Int × Bool :=
  let q := roundHalfEven (r * ((if scale = 0 then 1 else scale) : Nat)) shift
  let lim : Int := if fmt = 0 then 7 else 127
  if q < -lim then (-lim, true) else if lim < q then (lim, true) else (q, false)

/-- A voltage sample of entry v in its format, and whether a part was limited. -/
def entryQuant (c : SMap Word) (v : Nat) (x : Int × Int) : (Int × Int) × Bool :=
  let f := cfgField c (R.BA_VLSTA_fmt v)
  if f = 2 then (x, false)
  else
    let q := requant f (cfgField c (R.BA_VLSTB_scale v)) (cfgField c (R.BA_VLSTB_shift v))
    (((q x.1).1, (q x.2).1), (q x.1).2 || (q x.2).2)

/-- The bytes of a quantised sample in a format (R6, R7, R172). -/
def quantBytes (f : Nat) (x : Int × Int) : Bytes :=
  if f = 0 then [BitVec.ofNat 8 (ofSigned 4 x.1 * 16 + ofSigned 4 x.2)]
  else if f = 1 then [BitVec.ofNat 8 (ofSigned 8 x.1), BitVec.ofNat 8 (ofSigned 8 x.2)]
  else leBytes 4 (ofSigned 32 x.1) ++ leBytes 4 (ofSigned 32 x.2)

/-! ## Writing a channel-set's results -/

/-- Key of a staged voltage sample. -/
def voltKey (n v c tau : Nat) : Nat := ((n * 64 + v) * 4096 + c) * 2 ^ 24 + tau

/-- Key of a detected record. -/
def detKey (x w b h : Nat) : Nat := ((x * 2 ^ 64 + w) * 1152 + b) * 4096 + h

/-- A part limited: counted, flagged, E169. (DEDUCED: log entry 57.) -/
def State.noteClips (s : State) (k : Nat) : State :=
  if k = 0 then s else ((s.incBy (R.BA_CNT 4) k).flag R.BA_STATUS_clip).fire 169

/-- Stages one sample of entry v (R148). -/
def State.stageVolt (s : State) (n v c tau : Nat) : State :=
  let cf := s.baCfg n
  let x := (s.beamVolt n (cfgField cf (R.BA_VLSTA_j v)) c tau).1
  let q := entryQuant cf v x
  let s := { s with ba := { s.ba with volt := smapSet (0, 0, 0) s.ba.volt (voltKey n v c tau) (q.1.1, q.1.2, if q.2 then 2 else 1) } }
  let f := cfgField cf (R.BA_VLSTA_fmt v)
  if f = 2 then s
  else
    let rq := requant f (cfgField cf (R.BA_VLSTB_scale v)) (cfgField cf (R.BA_VLSTB_shift v))
    s.noteClips ((if (rq x.1).2 then 1 else 0) + (if (rq x.2).2 then 1 else 0))

/-- The values of R149 for a detection mode. -/
def detect (d : Nat) (x y : Int × Int) : List Int :=
  let px := x.1 * x.1 + x.2 * x.2
  let py := y.1 * y.1 + y.2 * y.2
  let re := x.1 * y.1 + x.2 * y.2
  let im := x.2 * y.1 - x.1 * y.2
  if d = 1 then [px + py] else if d = 2 then [px + py, px - py, 2 * re, -2 * im] else [px, py]

/-- A detected record becomes invalid (R191, R290). -/
def State.spoilDet (s : State) (key : Nat) : State :=
  let r := smapGet default s.ba.det key
  { s with ba := { s.ba with det := smapSet default s.ba.det key { r with inv := true } } }

/-- Adds one sample of beam b to its record (R150). (DEDUCED: log entry 86.) -/
def State.stageDet (s : State) (n x b c tau : Nat) : State :=
  let cf := s.baCfg n
  let vx := s.beamVolt n (2 * b) c tau
  let vy := s.beamVolt n (2 * b + 1) c tau
  let w := (s.roundSc n + tau) / 2 ^ cfgField cf (R.BA_DPROF_n x)
  let key := detKey x w b ((c - s.baLo) / 2 ^ cfgField cf (R.BA_DPROF_m x))
  let add := detect (cfgField cf (R.BA_BEAM_det b)) vx.1 vy.1
  let old := smapGet default s.ba.det key
  let oldV := if old.vals.length = add.length then old.vals else List.replicate add.length 0
  let sums := (oldV.zip add).map (fun p => saturate 64 (p.1 + p.2))
  let hit := sums.any Prod.snd
  let r : DetRec := ⟨sums.map Prod.fst, min (old.u + vx.2 + vy.2) 0xFFFFFFFF, old.sat || hit, old.inv⟩
  let s := { s with ba := { s.ba with det := smapSet default s.ba.det key r } }
  s.when (hit && !old.sat) (fun s => (s.inc (R.BA_CNT 5)).flag R.BA_STATUS_limit)

/-- The classes that the plan of a round admits among those its configuration uses. -/
def State.admitted (s : State) (n : Nat) : Nat :=
  (((s.planOf n).map Plan.classes).getD 0) &&& cfgClasses (s.baCfg n)

/-- Writes the results of samples [t0, t1) of channel-set k of round n (R148, R150). -/
def State.stageSet (s : State) (n k t0 t1 : Nat) : State :=
  let cf := s.baCfg n
  let cls := s.admitted n
  let chans := (List.range s.setCh).map (fun i => s.baLo + k * s.setCh + i)
  let vlo := cfgField cf R.BA_VCH_vc_lo
  let vn := cfgField cf R.BA_VCH_vc_num
  let taus := (List.range (t1 - t0)).map (· + t0)
  let s := s.fold (if cls.testBit 0 then voltEntries cf else []) (fun s v =>
    s.fold (chans.filter (fun c => decide (vlo ≤ c ∧ c < vlo + vn))) (fun s c => s.fold taus (fun s t => s.stageVolt n v c t)))
  s.fold [0, 1] (fun s x =>
    s.fold (if cls.testBit (x + 1) then (profBeams cf x).filter (fun b => decide (2 * b + 1 < s.bpCnt)) else []) (fun s b =>
      s.fold chans (fun s c => s.fold taus (fun s t => s.stageDet n x b c t))))

/-! ## Products of a finished round -/

/-- Channel c of round n has no valid result at or after sample t0 … t1 − 1. -/
def State.isBad (s : State) (n c t1 : Nat) : Bool :=
  s.ba.bad.any (fun d => d.round = n && decide (d.c0 ≤ c ∧ c < d.c0 + d.num ∧ d.t0 < t1))

/-- The BVX body of entry v of round n (R172). A byte that no channel-set wrote is a free value. (DESIGN CHOICE: log entry 83.) -/
def State.bvxBody (s : State) (n v : Nat) : Bytes :=
  let cf := s.baCfg n
  let f := cfgField cf (R.BA_VLSTA_fmt v)
  let lo := cfgField cf R.BA_VCH_vc_lo
  let num := cfgField cf R.BA_VCH_vc_num
  let badCh := (List.range num).filter (fun x => s.isBad n (lo + x) s.roundLen)
  let words := (List.range (ceilDiv num 64)).map (fun w => (badCh.filter (fun x => x / 64 = w)).foldl (fun a x => a + 2 ^ (x % 64)) 0)
  let cells := (List.range s.roundLen).flatMap (fun t => (List.range num).map (fun x => smapGet (0, 0, 0) s.ba.volt (voltKey n v (lo + x) t)))
  let limited := cells.any (fun q => q.2.2 = 2)
  let data := cells.zipIdx.flatMap (fun q =>
    if q.1.2.2 ≠ 0 then quantBytes f (q.1.1, q.1.2.1)
    else (List.range (fmtBytes f)).map (fun i => Config.staleByte (s.fresh * 2 ^ 40 + q.2 * 8 + i)))
  let incomplete := s.ba.bad.any (fun d => d.round = n && !d.inv && decide (d.c0 < lo + num ∧ lo < d.c0 + d.num))
  let xflags := (if limited then 1 else 0) + (if badCh.isEmpty then 0 else 2) + (if incomplete then 4 else 0)
  leBytes 8 (32 + 8 * words.length + data.length) ++ leBytes 1 v ++ leBytes 1 f ++ leBytes 1 xflags ++ zeros 1
    ++ leBytes 2 (cfgField cf (R.BA_VLSTA_j v)) ++ leBytes 2 lo ++ leBytes 2 num ++ zeros 2 ++ leBytes 8 n ++ leBytes 4 s.roundLen
    ++ words.flatMap (leBytes 8) ++ data

/-- The rounds a span of SCs meets. -/
def State.roundsOf (s : State) (lo hi : Nat) : List Nat :=
  match s.roundOf lo, s.roundOf (hi - 1) with
  | some a, some b => (List.range (b + 1 - a)).map (· + a)
  | none, some b => List.range (b + 1)
  | _, none => []

/-- A window is shed: some round it spans did not admit its class, or was not processed (R152, R153). (DEDUCED: log entry 81.) -/
def State.windowShed (s : State) (x lo hi : Nat) : Bool :=
  decide (lo < s.origin) || (s.roundsOf lo hi).any (fun n =>
    decide (n < s.ba.start.getD 0) || (smapGet 0 s.ba.shed n).testBit (x + 1))

/-- The BPW body of window w of profile x under a configuration (R171), and whether it carries an invalid mark. -/
def State.bpwBody (s : State) (cf : SMap Word) (x w : Nat) : Bytes × Bool :=
  let nn := cfgField cf (R.BA_DPROF_n x)
  let m := cfgField cf (R.BA_DPROF_m x)
  let rel := cfgField cf (R.BA_DPROF_rel x)
  let beams := profBeams cf x
  let bins := s.baNum / 2 ^ m
  let lo := w * 2 ^ nn
  let hi := (w + 1) * 2 ^ nn
  let shed := s.windowShed x lo hi
  let invalid (h : Nat) : Bool := s.ba.bad.any (fun d =>
    decide (d.c0 < s.baLo + (h + 1) * 2 ^ m ∧ s.baLo + h * 2 ^ m < d.c0 + d.num ∧ lo < s.roundSc (d.round + 1) ∧ s.roundSc d.round + d.t0 < hi))
  let stat (b h : Nat) : Nat :=
    if shed then 1 else if invalid h || (smapGet default s.ba.det (detKey x w b h)).inv then 2 else if (smapGet default s.ba.det (detKey x w b h)).sat then 3 else 0
  let cellsOf := beams.flatMap (fun b => (List.range bins).map (fun h => (b, h)))
  let recs := cellsOf.flatMap (fun p =>
    let k := detVals (cfgField cf (R.BA_BEAM_det p.1))
    let r := smapGet default s.ba.det (detKey x w p.1 p.2)
    let vals := (List.range k).map (fun i => if shed then 0 else r.vals.getD i 0)
    vals.flatMap (fun v => if rel = 1 then leBytes 4 (f32 v) else leBytes 8 (ofSigned 64 v))
      ++ leBytes 4 (if shed then 0 else r.u) ++ leBytes 4 (stat p.1 p.2))
  let stats := cellsOf.map (fun p => stat p.1 p.2)
  let bflags := rel + (if shed then 2 else 0) + (if stats.contains 2 then 4 else 0) + (if stats.contains 3 then 8 else 0)
  let lst := beams.flatMap (fun b => leBytes 2 b ++ leBytes 1 (cfgField cf (R.BA_BEAM_det b)) ++ zeros 1)
  let pad := zeros (roundUp lst.length 8 - lst.length)
  let len := 32 + lst.length + pad.length + recs.length
  (leBytes 8 len ++ leBytes 1 x ++ leBytes 1 bflags ++ leBytes 1 nn ++ leBytes 1 m ++ leBytes 2 beams.length ++ leBytes 2 bins
    ++ leBytes 8 w ++ leBytes 2 s.baLo ++ zeros 6 ++ lst ++ pad ++ recs, stats.any (fun x => x = 2 || x = 3))

/-- Puts an instance in line for the release gate. -/
def State.addDue (s : State) (x : Inst) : State := { s with ba := { s.ba with due := s.ba.due ++ [x] } }

/-- A pair-divergent granule lies in SCs [lo, hi), channels [c0, c0 + num) and a block that one of some beams draws on (R214). -/
def State.divBeams (s : State) (cf : SMap Word) (lo hi c0 num : Nat) (beams : List Nat) : Bool :=
  s.al.divs.any (fun d => decide (s.slotLo d.round d.slot < hi ∧ lo < s.slotHi d.round d.slot ∧ d.c0 < c0 + num ∧ c0 < d.c0 + d.num)
    && beams.any (fun b => (cfgField cf (R.BA_BEAM_blkmask b)).testBit (d.stream / 512)))

/-- The windows of profile x that end in round n go to the gate (R151, DETECTION_WINDOW_RELEASE). -/
def State.windowsEnd (s : State) (n x : Nat) : State :=
  let cf := s.baCfg n
  if (profBeams cf x).isEmpty then s
  else
    let sz := 2 ^ cfgField cf (R.BA_DPROF_n x)
    let w0 := s.roundSc n / sz
    let w1 := s.roundSc (n + 1) / sz
    let s := s.fold ((List.range (w1 - w0)).map (· + w0)) (fun s w =>
      let b := s.bpwBody cf x w
      let lo := w * sz
      let i := s.newInst 1 (64 + x) w lo (lo + sz) (cfgField cf (R.BA_DPROF_dest x)) b.1.length (.lit b.1)
      s.addDue { i with div := s.divBeams cf lo (lo + sz) s.baLo s.baNum (profBeams cf x), digs := if b.2 then 1 else 0 })
    { s with ba := { s.ba with det := s.ba.det.filter (fun p =>
      ¬ (p.1 / 4096 / 1152 / 2 ^ 64 = x ∧ p.1 / 4096 / 1152 % 2 ^ 64 < w1)) } }

/-- The voltage frames of round n go to the gate (R148). -/
def State.voltEnd (s : State) (n : Nat) : State :=
  let cf := s.baCfg n
  let s := { s with ba := { s.ba with
      vdone := s.ba.vdone.filter (fun m => n ≤ m + 1) ++ [n],
      volt := s.ba.volt.filter (fun p => n ≤ p.1 / 2 ^ 42 + 1) } }
  s.fold ((voltEntries cf).filter (fun v => cfgField cf (R.BA_VLSTA_to_eth v) = 1)) (fun s v =>
    let b := s.bvxBody n v
    let i := s.newInst 2 (128 + v) n (s.roundSc n) (s.roundSc (n + 1)) (cfgField cf (R.BA_VLSTB_eth_dest v)) b.length (.lit b)
    let div := s.divBeams cf (s.roundSc n) (s.roundSc (n + 1)) (cfgField cf R.BA_VCH_vc_lo) (cfgField cf R.BA_VCH_vc_num)
      [cfgField cf (R.BA_VLSTA_j v) / 2]
    (s.addDue { i with div := div, digs := if s.ba.bad.any (fun d => d.round = n) then 1 else 0 }).tick)

/-- The classes of round n that its plan leaves out are shed (R152). -/
def State.shedBeams (s : State) (n : Nat) : State :=
  let out := cfgClasses (s.baCfg n) - s.admitted n
  let k := (List.range 3).countP (fun i => out.testBit i)
  ({ s with ba := { s.ba with shed := smapSet 0 s.ba.shed n out } }).incBy (R.BA_CNT 6) k

/-- The beam work of round n is over: its products go to the gate and what is older is forgotten. -/
def State.beamOver (s : State) (n : Nat) : State :=
  let s := s.when ((s.admitted n).testBit 0) (fun s => s.voltEnd n)
  let s := (s.windowsEnd n 0).windowsEnd n 1
  { s with ba := { s.ba with
      bad := s.ba.bad.filter (fun d => n ≤ d.round + 1),
      shed := s.ba.shed.filter (fun p => n ≤ p.1 + 1) } }

/-! ## States (Table 6-2) -/

/-- BA_STATUS.state: 0 = IDLE; 1 = WAIT; 2 = RUN; 3 = HALTED. -/
def State.baState (s : State) : Nat := s.rd R.BA_STATUS_state

/-- A start is refused with a reason. -/
def State.baRefuse (s : State) (r : Nat) : State :=
  ((s.wr R.BA_CTL_en 0).wr R.BA_STATUS_cfg_reason r).flag R.BA_STATUS_cfg_err

/-- Set x is marked unverified (R143). -/
def State.unverified (s : State) (x : Nat) : Bool := if x = 0 then s.on R.BA_STATUS_unv_a else s.on R.BA_STATUS_unv_b

/-- The reason for which BA_CTL.en = 1 is refused, if any (R138, R141, R143, R24). -/
def State.baReason (s : State) : Option Nat :=
  let cls := cfgClasses (s.baCfg s.nextRound)
  let others := s.slabRanges (s.rq R.AL_RINGSIZE) ++ [s.stgRange] ++ (s.openGroups.flatMap s.groupAreas)
  let w := s.wsetRanges
  if !s.taskValid then some 1
  else if w.any (fun r => r.1 % 4096 != 0 || decide (s.hbmSize < r.1 + r.2)) || anyOverlap w
      || w.any (fun r => others.any (overlaps r)) then some 2
  else if !s.on R.AL_CTL_en || decide (s.baLo < s.chBase ∨ s.chBase + s.slabCh < s.baLo + s.baNum) then some 3
  else if 64 * s.rd R.BA_CFG_g_alloc < s.bpCnt then some 4
  else if s.unverified (s.wsetOf s.nextRound) then some 5
  else if !(s.layoutOk s.openGroups true cls) then some 6
  else none

/-- BEAM_ARRAY_ENABLE: BA_CTL.en written 1; `was`: it read 1 before. In every state the write that would start the array, or
keep it running, is refused when R138, R141 or R143 is not met. (DEDUCED: log entry 186.) -/
def State.beamEnable (s : State) (was : Bool) : State :=
  let start : State := ({ s with ba := { s.ba with start := none, queue := [] } }).wr R.BA_STATUS_state 1
  let halted : Bool := s.baState = 3
  if s.baState = 1 || (s.baState = 2 && was) || (halted && s.on R.CK_STATUS_endgame) then s
  else
    match s.baReason with
    | some r => (s.baRefuse r).wr R.BA_CTL_en (if halted && was then 1 else 0)
    | none => if s.baState = 2 then s else start

/-- BEAM_ARRAY_DISABLE: BA_CTL.en written 0; a round in progress is finished first. -/
def State.beamDisable (s : State) : State :=
  if s.baState = 1 ∨ s.baState = 3 then ({ s with ba := { s.ba with queue := [] } }).wr R.BA_STATUS_state 0 else s

/-- Reports channel-sets k0 … of round n incomplete; the set k0 from sample t0 (R140, R152). -/
def State.setsIncomplete (s : State) (n k0 t0 : Nat) : State :=
  let k := s.setCount - k0
  let d0 : List BadSet := if t0 = 0 then [] else [⟨n, s.baLo + k0 * s.setCh, s.setCh, t0, false⟩]
  let r0 := if t0 = 0 then k0 else k0 + 1
  let d : List BadSet := if r0 < s.setCount then [⟨n, s.baLo + r0 * s.setCh, (s.setCount - r0) * s.setCh, 0, false⟩] else []
  let s := { s with ba := { s.ba with bad := s.ba.bad ++ d0 ++ d } }
  (s.incBy (R.BA_CNT 3) k).flag R.BA_STATUS_incomplete

/-- Ends the round in progress with its remaining channel-sets reported incomplete. -/
def State.abandonBeam (s : State) : State :=
  match s.ba.round with
  | none => s
  | some n =>
    let s := s.setsIncomplete n s.ba.cs s.ba.t0
    ({ s with ba := { s.ba with round := none, again := false, fail := none, t0 := 0 } }).beamOver n

/-- BEAM_ARRAY_HALT, and Endgame entry (Table 6-2). -/
def State.beamHalt (s : State) : State :=
  if s.baState = 1 ∨ s.baState = 2 then
    ({ (s.abandonBeam) with ba := { (s.abandonBeam).ba with queue := [] } }).wr R.BA_STATUS_state 3
  else s

/-- A slab seals: its round's beam work waits when the Beam Array waits or runs. -/
def State.beamSeal (s : State) (n : Nat) : State :=
  if s.baState = 1 ∨ s.baState = 2 then
    { s with ba := { s.ba with queue := s.ba.queue ++ [n], start := some (s.ba.start.getD n) } }
  else s

/-- The enabled voltage entries of round r that feed input port k of ASP n (R146, R336). -/
def State.portEntries (s : State) (n k r : Nat) : List Nat :=
  let cf := s.baCfg r
  (voltEntries cf).filter (fun v => cfgField cf (R.BA_VLSTA_to_asp v) = 1 && cfgField cf (R.BA_VLSTA_asp v) = n
    && cfgField cf (R.BA_VLSTA_asp_port v) = k)

/-- The channels of each sample that a port delivers in round r, clipped to the range of R145 (R337). -/
def State.portChans (s : State) (n k r : Nat) : Nat :=
  let num := cfgField (s.baCfg r) R.BA_VCH_vc_num
  let sel := s.rd (R.SP_INCFGB_chsel n k)
  let cnt := s.rd (R.SP_INCFGB_chcnt n k)
  (if cnt = 0 then num else min (sel + cnt) num) - sel

/-- The words of one entry's delivery, its header included when it goes into the FIFO. -/
def State.portWords (s : State) (n k r v : Nat) : Nat :=
  (if s.on (R.SP_INCFGA_hdr n k) then 0 else 4)
    + s.roundLen * s.portChans n k r * (if cfgField (s.baCfg r) (R.BA_VLSTA_fmt v) = 2 then 2 else 1)

/-- The Beam Array begins to write into the staging of round r: words an input port has not taken are dropped, counted and
marked in its next header (R336). -/
def State.dropStream (s : State) (r : Nat) : State :=
  s.fold (List.range 64) (fun s x =>
    let n := x / 4
    let k := x % 4
    if s.rd (R.SP_INCFGA_src n k) = 1 ∧ s.rd (R.SP_STAT_state n) ≠ 0 then
      let c := smapGet default s.sp.core n
      let p := smapGet (0, 0) c.pos k
      let owed (v : Nat) : Nat :=
        let key := 64 * r + v + 1
        if p.1 < key then s.portWords n k r v else if p.1 = key then s.portWords n k r v - p.2 else 0
      let lost := ((s.portEntries n k r).map owed).sum
      if lost = 0 then s
      else
        let c := { c with dropped := smapSet false c.dropped k true }
        let s := { s with sp := { s.sp with core := smapSet default s.sp.core n c } }
        (s.incBy (R.SP_CNT n 1) lost).flag (R.SP_STAT_in_drop n)
    else s)

/-- The Beam Array takes the staging of round n − 2 for round n: what is still to be streamed or held there is lost, and round n
leaves the queue. -/
def State.takeStaging (s : State) (n : Nat) : State :=
  let s := s.fold (s.ba.vdone.filter (fun m => m + 2 ≤ n)) (·.dropStream ·)
  let s := s.shadowReuse n (fun t => t = 1 || t = 2)
  { s with ba := { s.ba with queue := s.ba.queue.drop 1, volt := s.ba.volt.filter (fun p => n < p.1 / 2 ^ 42 + 2),
                             vdone := s.ba.vdone.filter (fun m => n < m + 2) } }

/-- BEAM_ROUND_START (R140, Table 6-2): the oldest waiting round whose plan is admitted starts, or is shed. -/
def State.beamStart (s : State) : State :=
  if s.baState = 1 then
    match s.ba.queue with
    | n :: _ =>
      if (s.planOf n).isNone || s.regionHolds [4] n then s
      else
        let s := (s.takeStaging n).shedBeams n
        if s.admitted n = 0 then s.beamOver n
        else
          let s := { s with ba := { s.ba with round := some n, cs := 0, t0 := 0, again := false, fail := none, failSl := 0, poison := false } }
          let s := (s.loadBank n 0).loadBank n 1
          (((s.wq R.BA_ROUND n).wr R.BA_STATUS_active_set (s.wsetOf n)).wr R.BA_STATUS_state 2).startWork n
    | [] => s
  else s

/-- The results of sample t of the channel-set in progress, and of every later one, are suppressed (R190). -/
def State.suppress (s : State) (t : Nat) : State :=
  let t := max s.ba.t0 (min t (s.roundLen - 1))
  { s with ba := { s.ba with fail := some (min t (s.ba.fail.getD t)) } }

/-- BEAM_CHECK_MISMATCH (R190): slice sl compares slot d at sample t of the channel-set in progress. (DEDUCED: log entry 82.) -/
def State.beamMismatch (s : State) (sl d t : Nat) (cols : List (Int × Int)) (chk : Int × Int) : State :=
  match s.ba.round with
  | none => s
  | some n =>
    if s.sliceDiffers n s.ba.cs sl d (max s.ba.t0 (min t (s.roundLen - 1))) cols chk then
      State.suppress { s with ba := { s.ba with failSl := sl } } t
    else s

/-- The next channel-set of the round, or its end. -/
def State.nextSet (s : State) (n : Nat) : State :=
  if s.ba.cs + 1 < s.setCount then
    State.loadBank { s with ba := { s.ba with cs := s.ba.cs + 1, t0 := 0, again := false, fail := none, failSl := 0, poison := false } } n (s.ba.cs + 2)
  else
    let s := { s with ba := { s.ba with round := none, cs := 0, t0 := 0, again := false, fail := none, failSl := 0, poison := false } }
    ((s.beamOver n).fire 167).wr R.BA_STATUS_state (if s.on R.BA_CTL_en then 1 else 0)

/-- CHANNEL_SET_COMPLETE (R140, R148, R190): the channel-set in progress has run to its end and its comparisons are
complete. The mean and the lowest step rate measured go to BA_RATE. -/
def State.setComplete (s : State) (rate minRate : Nat) : State :=
  match s.ba.round with
  | none => s
  | some n =>
    let s := (s.wr R.BA_RATE_last_set (min rate 65535)).wr R.BA_RATE_min_round (min minRate 65535)
    let k := s.ba.cs
    match s.ba.fail with
    | none =>
      let s := (s.stageSet n k s.ba.t0 s.roundLen).inc (R.BA_CNT 0)
      let s := s.when s.ba.again (fun s => s.health 3 s.ba.failSl 0 0 n)
      s.nextSet n
    | some f =>
      let s := s.stageSet n k s.ba.t0 f
      let s := s.when (!s.ba.again) (·.inc (R.BA_CNT 0))
      let c0 := s.baLo + k * s.setCh
      if s.ba.again || s.ba.poison || s.rerunsDone n then
        let s := s.when (!s.ba.again && !s.ba.poison) (·.flag R.IG_STATUS_rr_limit)
        let d : BadSet := ⟨n, c0, s.setCh, f, true⟩
        let s := { s with ba := { s.ba with bad := s.ba.bad ++ [d] } }
        let s := ((s.inc (R.BA_CNT 2)).inc (R.IG_CNT 6)).health 3 s.ba.failSl 2 0 n
        (s.impair n).nextSet n
      else
        let s := State.countRerun { s with ba := { s.ba with t0 := f, again := true, fail := none } } n
        (s.inc (R.BA_CNT 1)).inc (R.IG_CNT 5)

/-- BEAM_OVERRUN (R140): ingest starts to overwrite the slab of round n; the second part says whether admitted work was
abandoned. -/
def State.beamOverrun (s : State) (n : Nat) : State × Bool :=
  if s.ba.round = some n then
    let s := s.abandonBeam.flag R.BA_STATUS_overrun
    (s.wr R.BA_STATUS_state (if s.on R.BA_CTL_en then 1 else 0), true)
  else if s.ba.queue.contains n then
    let s := { s with ba := { s.ba with queue := s.ba.queue.filter (· ≠ n) } }
    let s := s.shedBeams n
    if s.admitted n = 0 then (s.beamOver n, false)
    else (((s.setsIncomplete n 0 0).beamOver n).flag R.BA_STATUS_overrun, true)
  else (s, false)

/-- Endgame entry, Adjournment and a joiner's start void what is not released (R153, R221). -/
def State.beamVoid (s : State) : State :=
  { s with ba := { s.ba with volt := [], det := [], vdone := [], vpos := [], due := [], bad := [], shed := [], start := none } }

/-- A joiner voids the voltage rounds and the detection windows whose first round lies before `first` (R221). -/
def State.beamVoidBefore (s : State) (first : Nat) : State :=
  let sc := s.roundSc first
  { s with ba := { s.ba with
      volt := s.ba.volt.filter (fun p => first ≤ p.1 / 2 ^ 42)
      vdone := s.ba.vdone.filter (first ≤ ·)
      due := s.ba.due.filter (fun x => sc ≤ x.scStart)
      start := s.ba.start.map (max first) } }

/-! ## Commits (R142, R143, R145) -/

/-- A commit or a switch is refused. -/
def State.baErr (s : State) (reason index : Nat) : State :=
  ((s.wr R.BA_ERR_reason reason).wr R.BA_ERR_index index).flag R.BA_ERR_err

/-- WEIGHT_SET_CONFIRM and WEIGHT_SET_SWITCH: a write of BA_WSEL takes effect (R142, R143). (DEDUCED: log entry 85.) -/
def State.weightSelect (s : State) (commit confA confB : Bool) : State :=
  let s := s.when confA (·.wr R.BA_STATUS_unv_a 0)
  let s := s.when confB (·.wr R.BA_STATUS_unv_b 0)
  if commit then
    let sel := s.rd R.BA_WSEL_sel
    if s.on R.BA_STATUS_w_pending then s.baErr 9 0
    else
      match s.bindTo (s.on R.BA_WSEL_tgt) (s.rq R.BA_WTGT) with
      | none => s.baErr 10 0
      | some n =>
        if s.unverified sel then s.baErr 12 0
        else
          let s := { s with ba := { s.ba with sets := bindRound s.ba.sets n sel, dig := s.ba.dig ++ [sel] } }
          (((s.wq R.BA_WBND n).wr R.BA_STATUS_w_pending 1).wr R.BA_STATUS_dig_busy 1).bindChange n .weights
  else s

/-- A set is busy (R142): active, or bound to a round whose beam work has not completed. -/
def State.setBusy (s : State) (x : Nat) : Bool :=
  let live := (match s.ba.round with
    | some n => [n]
    | none => []) ++ s.ba.queue ++ s.al.open_ ++ [s.curRound, s.nextRound]
  live.any (fun n => s.wsetOf n = x) || s.ba.sets.any (fun p => decide (s.nextRound ≤ p.1) && p.2 == x)

/-- The transmit streams of a port: (beam, payload length divisor d) by beam. -/
def portStreams (c : SMap Word) (p : Nat) : List Nat :=
  (((voltEntries c).filter (fun v => cfgField c (R.BA_VLSTA_to_ulp v) = 1 && cfgField c (R.BA_VLSTA_ulp v) = p)).map
    (fun v => cfgField c (R.BA_VLSTA_j v) / 2)).dedup

/-- The entries of beam b on Uhlain port p. -/
def streamEntries (c : SMap Word) (p b : Nat) : List Nat :=
  (voltEntries c).filter (fun v =>
    cfgField c (R.BA_VLSTA_to_ulp v) = 1 && cfgField c (R.BA_VLSTA_ulp v) = p && cfgField c (R.BA_VLSTA_j v) / 2 = b)

/-- One stream's load on a port, cells a second (R37): f in Hz, 32.32. -/
def cellLoad (f cNum cPkt spc d : Nat) : Rat :=
  let q := cPkt * spc * d
  ((cNum * f * ceilDiv (q + 36) 252 : Nat) : Rat) / ((max 1 (cPkt * spc)) * 2 ^ 32 : Nat)

/-- A port of l lanes carries a load (R37). -/
def loadFits (lanes : Nat) (load : Rat) : Bool :=
  decide (load ≤ (975 * lanes * 105820000000 : Nat) / (1000 * 2048 : Nat))

/-- The first failure of a beam configuration: reason and index (R145, reasons 1 to 8 and 11); a value outside the range its
table states fails under the reason of its field (R407). (DEDUCED: log entry 84.) -/
def State.beamReason (s : State) (c : SMap Word) : Option (Nat × Nat) :=
  let vs := voltEntries c
  let fmt (v : Nat) := cfgField c (R.BA_VLSTA_fmt v)
  let jOf (v : Nat) := cfgField c (R.BA_VLSTA_j v)
  let toUlp (v : Nat) : Bool := cfgField c (R.BA_VLSTA_to_ulp v) = 1
  let ulp (v : Nat) := cfgField c (R.BA_VLSTA_ulp v)
  let beam1 := (List.range 1152).find? (fun b => cfgField c (R.BA_BEAM_det b) ≠ 0 && decide (s.bpCnt ≤ 2 * b + 1))
  let bad2 := (List.range 64).find? (fun v => decide (2304 ≤ jOf v) || (vs.contains v && decide (s.bpCnt ≤ jOf v)))
  let bad3 := vs.find? (fun v => toUlp v && vs.any (fun w => w ≠ v && toUlp w && jOf w = jOf v && ulp w = ulp v))
  let bad4 := (List.range 64).find? (fun v => fmt v = 3 || vs.contains v && toUlp v && (fmt v = 2 || vs.any (fun w => toUlp w && ulp w = ulp v && jOf w / 2 = jOf v / 2 && fmt w ≠ fmt v)))
  let cp := cfgField c R.BA_VPKT_c_pkt
  let spc := 2 ^ cfgField c R.BA_VPKT_spc_log2
  let vlo := cfgField c R.BA_VCH_vc_lo
  let vn := cfgField c R.BA_VCH_vc_num
  let out5 : Bool := decide (cp = 0 ∨ 4096 < cp ∨ vn = 0 ∨ 4096 < vn ∨ 2 ^ 13 < spc)
  let range5 : Bool := decide (vn % max 1 cp ≠ 0 ∨ vlo < s.baLo ∨ s.baLo + s.baNum < vlo + vn)
  let bad5 := if out5 then some (vs.headD 0) else if range5 then vs.head? else vs.find? (fun v => toUlp v && decide (8192 < cp * spc * 2 * fmtBytes (fmt v)))
  let bad6 := [0, 1].find? (fun x =>
    let n := cfgField c (R.BA_DPROF_n x)
    let m := cfgField c (R.BA_DPROF_m x)
    decide (12 < m ∨ 16 < n) || (!(profBeams c x).isEmpty && decide (s.baNum % 2 ^ m ≠ 0 ∨ s.roundLen < 2 ^ n ∨ 20 < n + m)))
  let noRoute (r : Nat) : Bool := (s.routePorts r).isEmpty
  let beam7 := (List.range 1152).find? (fun b =>
    cfgField c (R.BA_BEAM_det b) ≠ 0 && noRoute (cfgField c (R.BA_DPROF_dest (cfgField c (R.BA_BEAM_prof b)))))
  let bad7 := vs.find? (fun v =>
    (cfgField c (R.BA_VLSTA_to_eth v) = 1 && noRoute (cfgField c (R.BA_VLSTB_eth_dest v))) ||
    (cfgField c (R.BA_VLSTA_to_asp v) = 1 && s.rd (R.SP_INCFGA_src (cfgField c (R.BA_VLSTA_asp v)) (cfgField c (R.BA_VLSTA_asp_port v))) ≠ 1) ||
    (toUlp v && !s.on (R.IN_PORTCTL_tx_en (ulp v))))
  let st := (s.rq R.BA_STGBASE, s.stgSize c (cfgClasses c))
  let others := s.slabRanges (s.rq R.AL_RINGSIZE) ++ s.maskRanges ++ (s.openGroups.flatMap s.groupAreas) ++ (if s.beamOn then s.wsetRanges else [])
  let bad8 : Bool := decide (s.hbmSize < st.1 + st.2) || others.any (overlaps st)
    || !(({ s with ba := { s.ba with cfgs := [(0, c)] } }).layoutOk s.openGroups true (cfgClasses c))
  let load (p : Nat) : Rat := (portStreams c p).foldl (fun a b =>
    let d := ((streamEntries c p b).head?.map (fun v => 2 * fmtBytes (fmt v))).getD 2
    a + cellLoad s.chRate vn (max 1 cp) spc d) 0
  let bad11 := (List.range 16).find? (fun p => !(loadFits (s.portLanes p) (load p)))
  match beam1, bad2, bad3, bad4, bad5, bad6 with
  | some b, _, _, _, _, _ => some (1, b)
  | _, some v, _, _, _, _ => some (2, v)
  | _, _, some v, _, _, _ => some (3, v)
  | _, _, _, some v, _, _ => some (4, v)
  | _, _, _, _, some v, _ => some (5, v)
  | _, _, _, _, _, some x => some (6, (profBeams c x).headD 0)
  | none, none, none, none, none, none =>
    match beam7, bad7 with
    | some b, _ => some (7, b)
    | none, some v => some (7, v)
    | none, none =>
      if bad8 then some (8, 0)
      else match bad11 with
        | some p => some (11, (vs.find? (fun v => toUlp v && ulp v = p)).getD 0)
        | none => none

/-- BEAM_CONFIG_COMMIT (R145): the whole shadow is validated and bound, or refused. Reasons 9 and 10 rank after 8. -/
def State.beamCommit (s : State) : State :=
  let c := s.beamShadow
  let bound := s.bindTo (s.on R.BA_BCMT_tgt) (s.rq R.BA_BTGT)
  match s.beamReason c with
  | some (r, i) =>
    if r = 11 ∧ s.on R.BA_STATUS_b_pending then s.baErr 9 0
    else if r = 11 ∧ bound.isNone then s.baErr 10 0
    else s.baErr r i
  | none =>
    if s.on R.BA_STATUS_b_pending then s.baErr 9 0
    else
      match bound with
      | none => s.baErr 10 0
      | some n =>
        let s := { s with ba := { s.ba with cfgs := bindRound s.ba.cfgs n c } }
        ((s.wq R.BA_BBND n).wr R.BA_STATUS_b_pending 1).bindChange n .beams

/-- WEIGHT_DIGEST_DONE (R143): the digest of the oldest set awaiting one. -/
def State.weightDigest (s : State) (hash : Bytes → Bytes) : State :=
  match s.ba.dig with
  | [] => s
  | x :: rest =>
    let d := leNat ((hash (s.bytes (s.wsetBase x) s.wsetSize)).take 8)
    let s := { s with ba := { s.ba with dig := rest } }
    (s.wq (if x = 0 then R.BA_WDIG_A else R.BA_WDIG_B) d).wr R.BA_STATUS_dig_busy (if rest.isEmpty then 0 else 1)

end Sys2Proof.Machine
end

