-- ==== Sys2Proof/Machine/Groups.lean ====
section
/-! DEFINITION. Group commands (R120 to R122) and changes of the Pair Map (R109 to R113). -/

namespace Sys2Proof.Machine

/-! ## Validity of a Pair Map (R109) -/

/-- Entry (u, v) is enabled and names a group. -/
def entryNames (e : Nat) : Option Nat := if getBits e 10 1 = 1 ∧ getBits e 0 6 ≠ 63 then some (getBits e 0 6) else none

/-- The conditions of R109 that entry (u, v) of a map breaks: 2 = reserved bits, 3 = both entries name one group, 4 =
outside its group's tiles. -/
def State.entryFails (s : State) (m : SMap (BitVec 16)) (u v reason : Nat) : Bool :=
  let e := pmEntry m u v
  if reason = 2 then decide (2048 ≤ e)
  else
    match entryNames e with
    | none => false
    | some g =>
      if reason = 3 then u != v && entryNames (pmEntry m v u) = some g
      else !(u = v && s.on (R.AG_GCFG_auto g)) && !(s.holdsPair g (min u v) (max u v))

/-- A Pair Map is valid. -/
def State.mapValid (s : State) (m : SMap (BitVec 16)) : Bool :=
  m.all (fun p => [2, 3, 4].all (fun r => !(s.entryFails m (p.1 / 4096) (p.1 % 4096) r)))

/-- A map with edits applied in order (R111). -/
def applyEdits (m : SMap (BitVec 16)) (es : List (Nat × Nat × Nat)) : SMap (BitVec 16) :=
  es.foldl (fun m e => smapSet 0 m (e.1 * 4096 + e.2.1) (BitVec.ofNat 16 e.2.2)) m

/-! ## Taints (R113) -/

/-- The integration of a group with start s0, length and cycle that a round lies in (R115). -/
def cycleOf (s0 len cycle n : Nat) : Option Nat :=
  if n < s0 then none else if (n - s0) % cycle < len then some ((n - s0) / cycle) else none

/-- The pairs that edits touch, each once. -/
def editPairs (es : List (Nat × Nat × Nat)) : List (Nat × Nat) :=
  (es.map (fun e => (min e.1 e.2.1, max e.1 e.2.1))).dedup

/-- The taints that going from one map to another brings to group g in integration i. -/
def State.taintsOf (s : State) (old new : SMap (BitVec 16)) (es : List (Nat × Nat × Nat)) (g i : Nat) : List Taint :=
  ((editPairs es).filter (fun p => s.feedMask old g p.1 p.2 ≠ s.feedMask new g p.1 p.2)).map (fun p => ⟨p.1, p.2, g, i⟩)

/-- The taints of an apply at round b, over the open groups. -/
def State.applyTaints (s : State) (b : Nat) (es : List (Nat × Nat × Nat)) : List Taint :=
  let new := applyEdits s.ag.pm es
  s.openGroups.flatMap (fun g =>
    match s.schedule g b with
    | some i => s.taintsOf s.ag.pm new es g i
    | none => [])

/-- Taints not in the table yet. -/
def State.newTaints (s : State) (l : List Taint) : List Taint := l.filter (fun t => !s.ag.taints.contains t)

/-- The edits of the committed journal (R111). -/
def State.pmEdits (s : State) (cnt : Nat) : List (Nat × Nat × Nat) :=
  (List.range cnt).map (fun e => (s.rd (R.AG_PMJ0_row e), s.rd (R.AG_PMJ0_col e), s.rd (R.AG_PMJ1_value e)))

/-! ## Commit, apply, direct writes -/

/-- A commit of the journal is refused. -/
def State.pmRefuse (s : State) (reason edit row col : Nat) : State :=
  let s := ((s.wr R.AG_PMERR_reason reason).wr R.AG_PMERR_edit edit).flag R.AG_PMERR_err
  (s.wr R.AG_PMERRENT_row row).wr R.AG_PMERRENT_col col

/-- PAIR_MAP_COMMIT (R111): AG_PMCMT.commit written 1. -/
def State.pmCommit (s : State) : State :=
  let cnt := s.rd R.AG_PMCMT_cnt
  if cnt = 0 ∨ 16384 < cnt then s.pmRefuse 1 0 0 0
  else
    let es := s.pmEdits cnt
    let new := applyEdits s.ag.pm es
    let fails (r : Nat) : Bool := new.any (fun p => s.entryFails new (p.1 / 4096) (p.1 % 4096) r)
    match [2, 3, 4].find? fails with
    | some r =>
      match lowest cnt (fun i => s.entryFails new (es.getD i (0, 0, 0)).1 (es.getD i (0, 0, 0)).2.1 r) with
      | some i => s.pmRefuse r i (es.getD i (0, 0, 0)).1 (es.getD i (0, 0, 0)).2.1
      | none =>
        let k := ((new.find? (fun p => s.entryFails new (p.1 / 4096) (p.1 % 4096) r)).map Prod.fst).getD 0
        s.pmRefuse r cnt (k / 4096) (k % 4096)
    | none =>
      let bound := s.bindTo (s.on R.AG_PMCMT_tgt) (s.rq R.AG_PMTGT)
      let b := bound.getD (s.rq R.AG_PMTGT)
      let need := (s.newTaints (s.applyTaints b es)).length
      if 65536 < s.ag.taints.length + need then s.pmRefuse 5 0 0 0
      else if s.ag.pmj.isSome then s.pmRefuse 6 0 0 0
      else if bound.isNone then s.pmRefuse 7 0 0 0
      else if s.on R.AG_CTL_pm_direct then s.pmRefuse 8 0 0 0
      else
        let s := { s with ag := { s.ag with pmj := some (b, es) } }
        (s.wq R.AG_PMBND b).wr R.AG_STATUS_pm_pending 1

/-- The Pair Map digest is due (R113). -/
def State.pmDigestDue (s : State) : State := s.wr R.AG_STATUS_dig_busy 1

/-- PAIR_MAP_APPLY (R112, R113): a bound journal whose boundary is reached is applied, and taints what it changes in
integrating groups. Plies of earlier rounds keep the old map. -/
def State.pmApply (s : State) : State :=
  match s.ag.pmj with
  | none => s
  | some (b, es) =>
    if s.begun b then
      let l := s.newTaints (s.applyTaints b es)
      let old := s.ag.pmOld ++ [(b, s.ag.pm)]
      let s := { s with ag := { s.ag with
        pm := applyEdits s.ag.pm es, pmOld := old.drop (old.length - 3), pmj := none, taints := s.ag.taints ++ l } }
      (((s.noteTaints).incBy (R.AG_CNT 9) l.length).wr R.AG_STATUS_pm_pending 0).pmDigestDue
    else s

/-- PAIR_MAP_DIRECT_WRITE (R110): a 16-bit entry written through crossbar target T2; false when it is refused with an
error response. -/
def State.pmDirect (s : State) (u v : Nat) (x : BitVec 16) : State × Bool :=
  if s.on R.AG_CTL_pm_direct then
    ({ s with ag := { s.ag with pm := smapSet 0 s.ag.pm (u * 4096 + v) x, pmOld := [] } }, true)
  else (s, false)

/-- AG_CTL.pm_direct written (R110). -/
def State.pmMode (s : State) (v : Nat) : State :=
  if v = 1 then
    if s.on R.AG_CTL_pm_direct then s
    else if s.openGroups.isEmpty then s.wr R.AG_CTL_pm_direct 1 else s.flag R.AG_STATUS_wr_refused
  else if s.on R.AG_CTL_pm_direct then (s.wr R.AG_CTL_pm_direct 0).pmDigestDue
  else s

/-- The 32 MiB of a Pair Map in address order (R108). -/
def pmBytes (m : SMap (BitVec 16)) : Bytes := (List.range 16777216).flatMap (fun k => leBytes 2 (smapGet 0 m k).toNat)

/-- PAIR_MAP_DIGEST_DONE (R113). -/
def State.pmDigestDone (s : State) (hash : Bytes → Bytes) : State :=
  if s.on R.AG_STATUS_dig_busy then
    (s.wq R.AG_PMDIG (leNat ((hash (pmBytes s.ag.pm)).take 8))).wr R.AG_STATUS_dig_busy 0
  else s

/-! ## Commands (R120 to R122) -/

/-- A command's outcome: 0 accepts. -/
def State.cmdRes (s : State) (g reason : Nat) : State :=
  let s := ((s.wr R.AG_CMDRES_valid 1).wr R.AG_CMDRES_group g).wr R.AG_CMDRES_reason reason
  s.when (reason ≠ 0) (·.flag R.AG_STATUS_cmd_err)

/-- The reason for which OPEN of group g is refused (R121), in the order of the table; none when it is accepted. (DEDUCED: log entry 79.) -/
def State.openReason (s : State) (g : Nat) : Option Nat :=
  let len := s.rd (R.AG_GLEN_len g)
  let gap := s.rd (R.AG_GLEN_gap g)
  let lo := s.rd (R.AG_GCH_ch_lo g)
  let areas := s.groupAreas g
  let others := s.slabRanges (s.rq R.AL_RINGSIZE) ++ s.maskRanges ++ (s.openGroups.flatMap s.groupAreas)
  let span := if s.on (R.AG_GCFG_mode g) then gap else len + gap
  let q := s.routeGrant (s.rd (R.AG_GCFG_dest g))
  if 62 < g then some 1
  else if s.gState g ≠ 0 then some 9
  else if len < 1 ∨ (s.on (R.AG_GCFG_mode g) ∧ gap < 1) then some 2
  else if lo < s.chBase ∨ s.chBase + s.slabCh < lo + s.groupCh g then some 3
  else if (s.width = 2 ∧ s.compBytes g = 4) ∨ (if s.compBytes g = 4 then 16777215 else 4294967294) < len * s.roundLen then some 4
  else if s.groupPos g = 0 ∨ !(s.mapValid s.ag.pm) then some 11
  else if s.chRate = 0 then some 12
  else if (s.routePorts (s.rd (R.AG_GCFG_dest g))).isEmpty then some 13
  else if areas.any (fun r => r.1 % 4096 != 0 || decide (s.hbmSize < r.1 + r.2)) || anyOverlap areas
      || areas.any (fun r => others.any (overlaps r)) then some 5
  else if !(s.layoutOk (s.openGroups ++ [g]) s.beamOn (cfgClasses (s.baCfg s.nextRound))) then some 6
  else if q * (span * s.roundLen * 2 ^ 32 : Nat) < (s.groupSize g * s.chRate : Nat) then some 7
  else if s.begun (s.rq (R.AG_GSTART g)) then some 8
  else
    match s.ag.pmj with
    | none => none
    | some (b, es) =>
      match cycleOf (s.rq (R.AG_GSTART g)) len (len + gap) b with
      | none => none
      | some i =>
        let new := applyEdits s.ag.pm es
        let need := s.newTaints (s.applyTaints b es ++ s.taintsOf s.ag.pm new es g i)
        if 65536 < s.ag.taints.length + need.length then some 14 else none

/-- GROUP_OPEN (R119, R121). -/
def State.groupOpen (s : State) (g : Nat) : State :=
  match s.openReason g with
  | some r => s.cmdRes g r
  | none =>
    let x : Grp := { (default : Grp) with s := s.rq (R.AG_GSTART g) }
    (((s.setGrp g x).wr (R.AG_GSTAT_state g) 1).wq (R.AG_GINT g) 0).cmdRes g 0

/-- GROUP_CLOSE and GROUP_ABORT (R120, R122). -/
def State.groupEnd (s : State) (g : Nat) (abort tgt : Bool) : State :=
  if 62 < g then s.cmdRes g 1
  else
    match s.bindTo tgt (s.rq R.AG_CMDTGT) with
    | none => s.cmdRes g 8
    | some b =>
      if s.gState g = 0 then s.cmdRes g 9
      else if (s.grp g).cmd.isSome ∨ s.gState g = 4 then s.cmdRes g 10
      else
        let s := s.setGrp g { s.grp g with cmd := some (abort, b) }
        ((s.wq R.AG_CMDBND b).cmdPending).cmdRes g 0

/-- AG_CMD written: op 1 = OPEN, 2 = CLOSE, 3 = ABORT; others are ignored. -/
def State.groupCmd (s : State) (v : Nat) : State :=
  let g := getBits v 8 6
  let tgt := getBits v 4 1 = 1
  match getBits v 0 3 with
  | 1 => s.groupOpen g
  | 2 => s.groupEnd g false tgt
  | 3 => s.groupEnd g true tgt
  | _ => s

end Sys2Proof.Machine
end

