-- ==== Sys2Proof/Machine/Chess.lean ====
section
/-! DEFINITION. The Chess Clock: energy counters and trims (R263, R264), predicted rate and energy (R265, R269), caps and
allowance (R266 to R268), admission (R270, R271), pace (R272, R273) and plans in a pair (R274). -/

namespace Sys2Proof.Machine

/-! ## Figures -/

/-- Table 12-3: the energy factor of point v, in 1/10,000. -/
def vptFactor (v : Nat) : Nat :=
  [5835, 6267, 6715, 7178, 7656, 8150, 8659, 9318, 10000, 10563, 11142, 11736, 12346, 12813, 13289, 13937].getD v 13937

/-- D = AL_ROUNDLEN.len / AG_CHRATE in seconds; 0 while AG_CHRATE is 0 (R268). -/
def State.roundDur (s : State) : Rat :=
  if s.chRate = 0 then 0 else (s.roundLen * 2 ^ 32 : Nat) / (s.chRate : Nat)

/-- The hottest core junction in 0.125 °C (R406). -/
def State.tj (s : State) : Int := toSigned 16 (s.rd R.IO_TJ_tj)

/-- rate_pred(v) of R265, steps a second. -/
def State.ratePred (s : State) (v : Nat) : Rat :=
  let t : Rat := (s.tj : Rat) / 8
  (vptRate70 v * 1000000 : Nat) * (1 - 8 / 10000 * (t - 70)) * ((s.rd R.CK_KRATE_k : Nat) : Rat) / 4096

/-- P_eff in 0.1 W (R267). -/
def State.capEff (s : State) : Rat := min ((s.ck.set.cap : Nat) : Rat) s.ck.tcap

/-- CK_STATUS.therm and E190 follow the two caps (R267, R311). -/
def State.noteCap (s : State) : State :=
  let below := decide (s.ck.tcap < ((s.ck.set.cap : Nat) : Rat))
  let was := s.on R.CK_STATUS_therm
  (s.wr R.CK_STATUS_therm (if below then 1 else 0)).when (below && !was) (·.fire 190)

/-- The cap and CK_THERM that an admission takes at its start (R266); CK_CTL.eg_rounds is read during it. -/
def State.takeSettings (s : State) : State :=
  ({ s with ck := { s.ck with
      set := ⟨s.rd R.CK_CAP_cap, s.rd R.CK_THERM_thr_c, s.rd R.CK_THERM_step_w, s.rd R.CK_THERM_rec_w⟩ } }).noteCap

/-- The power of the last round in 0.1 W: the rail energy since the admission of the round before it over D. Before the
first admission, and while D is undefined, no round has a power and the thermal cap stands for it.
(DESIGN CHOICE: log entry 194.) -/
def State.lastPower (s : State) : Rat :=
  let d := s.roundDur
  if d = 0 ∨ s.ck.aPrev.isNone then s.ck.tcap else ((s.ck.meas.sum : Nat) : Rat) / 100000 / d

/-- THERMAL_CAP_UPDATE (R267), at a round boundary. -/
def State.thermalCap (s : State) : State :=
  let thr : Int := 8 * s.ck.set.thrC
  let cap :=
    if thr ≤ s.tj then max 1400 (min s.ck.tcap s.lastPower - (10 * s.ck.set.stepW : Nat))
    else if s.tj < thr - 24 then min 4500 (s.ck.tcap + (10 * s.ck.set.recW : Nat))
    else s.ck.tcap
  ({ s with ck := { s.ck with tcap := cap } }).noteCap

/-! ## Energy counters -/

/-- The rail of an energy region (Table 12-2). -/
def railOf (r : Nat) : Nat := [0, 0, 0, 1, 2, 2, 1, 0, 3].getD r 3

/-- The trim factor of a rail, 4.12. -/
def State.trim (s : State) (k : Nat) : Nat := s.rd (R.CK_TRIM_f k)

/-- Adds two lists of numbers, the first padded to the second. -/
def addLists (n : Nat) (a b : List Nat) : List Nat := (List.range n).map (fun i => a.getD i 0 + b.getD i 0)

/-- ENERGY_COUNT_UPDATE (R263): Board and Beam Array steps since the last update, the other regions' event energy in pJ
(regions 2 to 8), and the energy the rail monitors measured, in µJ. -/
def State.energyUpdate (s : State) (bd ba : Nat) (rest rails : List Nat) : State :=
  let f := vptFactor (s.rd R.CK_STATUS_vpoint)
  let ba := if s.hasBeam then ba * (s.word (R.CK_COEF 2)).toNat * f else 0
  let raw := [bd * (s.word (R.CK_COEF 1)).toNat * f, ba] ++ (List.range 7).map (fun i => rest.getD i 0 * 10000)
  let acc := addLists 9 s.ck.acc (raw.zipIdx.map (fun p => p.1 * s.trim (railOf p.2)))
  let perRail := (List.range 4).map (fun k => ((raw.zipIdx.filter (fun p => railOf p.2 = k)).map Prod.fst).sum)
  let s := { s with ck := { s.ck with acc := acc, raw := addLists 4 s.ck.raw perRail, meas := addLists 4 s.ck.meas rails } }
  let uj (x : Nat) : Nat := x / (10000 * 4096 * 1000000) % 2 ^ 48
  let s := s.fold (List.range 9) (fun s r => s.wq (R.CK_E r) (uj (acc.getD r 0)))
  let s := s.wq (R.CK_E 9) (uj acc.sum)
  s.fold (List.range 4) (fun s k => s.wq (R.CK_RAIL k) ((s.rq (R.CK_RAIL k) + rails.getD k 0) % 2 ^ 48))

/-- TRIM_FACTOR_UPDATE (R264): one rail at an admission. A rail with no counted energy keeps its factor. (DEDUCED: log entry 125.) -/
def State.trimRail (s : State) (n k : Nat) : State :=
  let raw := s.ck.raw.getD k 0
  if raw = 0 then s
  else
    let ratio : Rat := ((s.ck.meas.getD k 0 * 10000000000 : Nat) : Rat) / (raw : Nat)
    let lim := max (4 / 5) (min (5 / 4) ratio)
    let out := decide (ratio < 4 / 5 ∨ 5 / 4 < ratio)
    let run := if out then s.ck.run.getD k 0 + 1 else 0
    let s := s.wr (R.CK_TRIM_f k) ((lim * 4096 + 1 / 2).floor.toNat)
    let s := { s with ck := { s.ck with run := (List.range 4).map (fun i => if i = k then run else s.ck.run.getD i 0) } }
    s.when (run = 10) (fun s => s.health 11 k 1 (min 65535 (ratio * 4096).floor.toNat) n)

/-- k_rate at an admission: the measured over the predicted rate of the last completed round (R265). -/
def State.updateKrate (s : State) (n : Nat) : State :=
  match s.planOf (n - 1) with
  | none => s
  | some p =>
    let rates := (if p.nBd ≠ 0 then [s.rd R.BD_RATE_min_round] else []) ++ (if p.nBa ≠ 0 then [s.rd R.BA_RATE_min_round] else [])
    match rates with
    | [] => s
    | r :: l =>
      if p.pred ≤ 0 then s
      else
        let ratio : Rat := ((l.foldl min r * 1000000 : Nat) : Rat) / p.pred
        s.wr R.CK_KRATE_k ((max (9 / 10) (min (11 / 10) ratio) * 4096 + 1 / 2).floor.toNat)

/-! ## Items and prediction (R269, R270) -/

/-- A valid pairing table is bound to round n. -/
def State.tableBound (s : State) (n : Nat) : Bool :=
  let t := s.tableOf n
  t.k = s.blocks && (tableReason s.blocks t.entries).isNone

/-- The groups that are items of round n. -/
def State.itemGroups (s : State) (n : Nat) : List Nat :=
  if s.tableBound n then s.openGroups.filter (fun g => (s.schedule g n).isSome) else []

/-- The beam classes that are items of round n: those in use while the Beam Array is on. (DEDUCED: log entry 126.) -/
def State.itemClasses (s : State) (n : Nat) : Nat := if s.hasBeam && s.beamOn then cfgClasses (s.baCfg n) else 0

/-- The priority of a beam class under the configuration of round n. -/
def State.classPri (s : State) (n i : Nat) : Nat :=
  if i = 0 then s.rd R.BA_CFG_vpri else cfgField (s.baCfg n) (R.BA_DPROF_pri (i - 1))

/-- The items of a level: groups and classes of priority at most 3 − level; level 4 has none. -/
def State.levelSet (s : State) (n lvl : Nat) : List Nat × Nat :=
  if 4 ≤ lvl then ([], 0)
  else
    ((s.itemGroups n).filter (fun g => decide (s.rd (R.AG_GCFG_pri g) + lvl ≤ 3)),
     ((List.range 3).filter (fun i => (s.itemClasses n).testBit i && decide (s.classPri n i + lvl ≤ 3))).foldl (fun a i => a + 2 ^ i) 0)

/-- The slab channel indices in the range of at least one group. -/
def State.chansOf (s : State) (groups : List Nat) : List Nat :=
  (List.range s.slabCh).filter (fun j => groups.any (fun g => s.chanIn g (s.chBase + j)))

/-- n_bd of R269: the Board steps of R101 for C channels; none without a channel. -/
def State.boardSteps (s : State) (n c : Nat) : Nat :=
  if c = 0 then 0 else (s.tableOf n).entries.length * c * (s.roundLen * (if s.width = 2 then 4 else 1)) + 1561

/-- T_b of R139. -/
def State.beamSteps (s : State) (classes : Nat) : Nat :=
  if classes = 0 then 0 else s.baNum / s.setCh * s.roundLen * s.rd R.BA_SCHED_d * s.width + 1024

/-- r_req of R269, steps a second. -/
def State.rateReq (s : State) (n : Nat) (set : List Nat × Nat) : Rat :=
  let d := s.roundDur
  if d = 0 then 0 else ((max (s.boardSteps n (s.chansOf set.1).length) (s.beamSteps set.2) : Nat) : Rat) / d

/-- e_pred of R269 in µJ. -/
def State.energyPred (s : State) (n v : Nat) (set : List Nat × Nat) : Rat :=
  let d := s.roundDur
  let c (i : Nat) : Rat := ((s.word (R.CK_COEF i)).toNat : Nat)
  let t (k : Nat) : Rat := ((s.trim k : Nat) : Rat) / 4096
  let f : Rat := ((vptFactor v : Nat) : Rat) / 10000
  let nbd : Rat := (s.boardSteps n (s.chansOf set.1).length : Nat)
  let nba : Rat := (s.beamSteps set.2 : Nat)
  let bytes : Rat := (s.hbmBytes n (s.chansOf set.1).length set.1 set.2 : Nat) + d * s.outputRate n set.1 set.2
  c 0 * d * 1000 * ((t 0 + t 1 + t 2 + t 3) / 4) + (nbd * c 1 + nba * (if s.hasBeam then c 2 else 0)) * f * t 0 / 1000000
    + bytes * c 3 * t 2 / 1000000000

/-- The lowest point whose predicted rate carries a set with the 5 % margin. -/
def State.pointFor (s : State) (n : Nat) (set : List Nat × Nat) : Option Nat :=
  lowest 16 (fun v => decide (105 / 100 * s.rateReq n set ≤ s.ratePred v))

/-- Level λ fits an allowance in µJ: its point. -/
def State.levelFits (s : State) (n lvl : Nat) (a : Rat) : Option Nat :=
  match s.pointFor n (s.levelSet n lvl) with
  | some v => if s.energyPred n v (s.levelSet n lvl) ≤ a then some v else none
  | none => none

/-! ## The plan record (Table 12-4) -/

/-- The plan record. -/
def planBytes (kind level v pflags cAdm classes groups allow epred rreq rpred cap : Nat) : Bytes :=
  leBytes 1 kind ++ leBytes 1 level ++ leBytes 1 v ++ leBytes 1 pflags ++ leBytes 2 cAdm ++ leBytes 1 classes ++ zeros 1
    ++ leBytes 8 groups ++ leBytes 4 allow ++ leBytes 4 epred ++ leBytes 4 rreq ++ leBytes 4 rpred ++ leBytes 4 cap ++ zeros 4

/-- A plan of round n from its level and items, at a point; `a` in µJ. -/
def State.mkPlan (s : State) (n lvl v pflags : Nat) (set : List Nat × Nat) (a : Rat) : Plan :=
  let chans := s.chansOf set.1
  let gbits := set.1.foldl (fun x g => x + 2 ^ g) 0
  let up (x : Rat) : Nat := x.ceil.toNat
  { round := n, level := lvl, groups := set.1, chans := chans, classes := set.2, vpoint := v,
    nBd := s.boardSteps n chans.length, nBa := s.beamSteps set.2, pred := s.ratePred v,
    record := planBytes 0 lvl v pflags chans.length set.2 gbits (a / 1000).floor.toNat (up (s.energyPred n v set / 1000))
      (up (s.rateReq n set / 1000000)) ((s.ratePred v) / 1000000).floor.toNat s.capEff.floor.toNat }

/-- The core takes a point; the change settles later (R265). -/
def State.setPoint (s : State) (v : Nat) : State :=
  if s.rd R.CK_STATUS_vpoint = v then s
  else ({ s with ck := { s.ck with settling := true } }).wr R.CK_STATUS_vpoint v

/-- Work on round n is waiting or under way. -/
def State.roundBusy (s : State) (n : Nat) : Bool :=
  s.bd.queue.contains n || s.bd.live.contains n || s.ba.queue.contains n || s.ba.round = some n

/-- A plan is kept while its round has work to come, and for the latest rounds. -/
def State.planNeeded (s : State) (p : Plan) : Bool := s.roundBusy p.round || decide (s.ck.next ≤ p.round + 8)

/-- A plan takes effect (R270, R271): what it leaves out is shed and E082 fires. The level and the core point follow the
plan of the latest round. -/
def State.takePlan (s : State) (p : Plan) : State :=
  let latest := decide (s.ck.next ≤ p.round)
  let ps := s.ck.plans.filter (fun q => q.round ≠ p.round)
  let s := { s with ck := { s.ck with plans := (ps.filter s.planNeeded) ++ [p], next := max s.ck.next (p.round + 1) } }
  let s := s.when (s.ck.eg = 0) (fun s =>
    s.fold (s.openGroups.filter (fun g => !p.groups.contains g)) (fun s g => s.shedRound p.round g))
  let s := s.when latest (fun s => (s.wr R.CK_STATUS_level p.level).setPoint p.vpoint)
  let s := s.when (1 ≤ p.level) (·.inc (R.CK_CNT 0))
  (s.when (p.level = 4) (·.inc (R.CK_CNT 1))).fire 82

/-! ## Endgame causes (Table 12-5) -/

/-- A cause comes into force or clears. -/
def State.setCause (s : State) (i : Nat) (b : Bool) : State :=
  s.wr R.CK_STATUS_eg_cause (setBit (s.rd R.CK_STATUS_eg_cause) i b)

/-- A cause is in force. -/
def State.cause (s : State) (i : Nat) : Bool := (s.rd R.CK_STATUS_eg_cause).testBit i

/-! ## Admission (R270) -/

/-- debt and a_n in µJ (R268). -/
def State.allowance (s : State) : Rat × Rat :=
  let full := s.capEff * s.roundDur * 100000
  let debt := match s.ck.aPrev with
    | none => 0
    | some a => max (min 0 (a - (s.ck.ePrev : Nat))) (-(full / 4))
  (full + debt, debt)

/-- The peer's report that bears on round n (R274): its own, or the latest of the last 10 rounds. (DEDUCED: log entry 128.) -/
def State.peerAllow (s : State) (n : Nat) : Option Rat :=
  match smapGet 0 s.ck.peer n with
  | 0 =>
    (((s.ck.peer.filter (fun p => decide (p.1 ≤ n ∧ n < p.1 + 10))).getLast?).map (fun p => (((p.2 - 1) * 1000 : Nat) : Rat)))
  | a + 1 => some ((a * 1000 : Nat) : Rat)

/-- Settings, trims, k_rate and the energy interval at an admission (R264 to R266, R268). -/
def State.admitStart (s : State) (n : Nat) : State :=
  let s := s.takeSettings.fold (List.range 4) (fun s k => s.trimRail n k)
  let s := s.updateKrate n
  { s with ck := { s.ck with ePrev := s.ck.meas.sum, raw := [], meas := [] } }

/-- ALLOWANCE_REPORT (R274): a non-active unit sends its allowance for round n + 1, `a` in µJ. The interval of round n
has just begun, so the debt is that of the interval before. (DESIGN CHOICE: log entry 200.) -/
def State.allowanceReport (s : State) (n : Nat) (a : Rat) : State :=
  if s.isActive then s
  else s.castSend 5 (leBytes 8 (n + 1) ++
    planBytes 1 0 0 0 0 0 0 (a / 1000).floor.toNat 0 0 0 s.capEff.floor.toNat)

/-- In Endgame by cause 1, would a level-3 plan have fitted (Table 12-5)? -/
def State.energyRecovers (s : State) (n : Nat) (a : Rat) : State :=
  if s.cause 1 && s.ck.eg != 0 then
    let k := if (s.levelFits n 3 (9 / 10 * a)).isSome then s.ck.fit + 1 else 0
    let s := { s with ck := { s.ck with fit := k } }
    s.when (s.rd R.CK_CTL_eg_rounds ≤ k) (fun s => ({ s with ck := { s.ck with fit := 0 } }).setCause 1 false)
  else s

/-- The run of level-4 admissions; a complete run brings Endgame cause 1. -/
def State.countL4 (s : State) (lvl : Nat) : State :=
  if s.ck.eg ≠ 0 then s
  else
    let k := if lvl = 4 then s.ck.l4 + 1 else 0
    let s := { s with ck := { s.ck with l4 := k } }
    s.when (decide (s.rd R.CK_CTL_eg_rounds ≤ k) && !s.cause 1) (fun s =>
      ({ s with ck := { s.ck with l4 := 0, fit := 0 } }).setCause 1 true)

/-- PLAN_ADMISSION by the unit's own planner (R270). `skip`: the horizon passed the round whole, so it takes level 4 and
stands outside the runs of Endgame cause 1 (R409). -/
def State.admitBy (s : State) (skip : Bool) (n : Nat) : State :=
  let s := s.admitStart n
  let al := s.allowance
  let peer := if s.isActive then s.peerAllow n else none
  let limited := match peer with
    | some p => decide (p < al.1)
    | none => false
  let a := if limited then peer.getD al.1 else al.1
  let hostEg : Bool := match s.ck.egReq with
    | some b => decide (b ≤ n)
    | none => false
  let eg := s.ck.eg != 0 || hostEg || s.cause 0 || s.cause 4
  let pf := (if eg then 1 else 0) + (if limited then 2 else 0) + (if al.2 < 0 then 4 else 0)
  let pick := if skip || eg || s.roundDur = 0 then none
    else (List.range 4).findSome? (fun lvl => (s.levelFits n lvl a).map (fun v => (lvl, v)))
  let p := match pick with
    | some (lvl, v) => s.mkPlan n lvl v pf (s.levelSet n lvl) a
    | none => s.mkPlan n 4 0 pf ([], 0) a
  let s := { s with ck := { s.ck with aPrev := some al.1 } }
  let s := (s.when (!skip) (·.energyRecovers n a)).takePlan p
  let s := s.when limited (·.inc (R.CK_CNT 5))
  let s := s.when (!skip) (·.countL4 p.level)
  if s.isActive then s.castSend 5 (leBytes 8 n ++ p.record) else s.allowanceReport n al.1

/-- PLAN_ADMISSION of a round that was received. -/
def State.admitOwn (s : State) (n : Nat) : State := s.admitBy false n

/-- PLAN_ADMISSION: round n is admitted once boundary n + 1 has been acted on. A synchronised standby admits by the
active's PLAN message only (R210). (DEDUCED: log entry 127.) -/
def State.planAdmit (s : State) (n : Nat) : State :=
  if s.rnd ≤ n + 1 ∨ (s.planOf n).isSome ∨ (n < s.ck.next ∧ !s.roundBusy n) ∨ s.csState = 2 then s else s.admitOwn n

/-- A skipped round is admitted (R409). -/
def State.planSkip (s : State) (n : Nat) : State := if n < s.ck.next then s else s.admitBy true n

/-- A standby admits exactly the plan it received, at its own point (R210, R274). `rec`: the 40-byte record. -/
def State.admitMirrored (s : State) (n : Nat) (rec : Bytes) : State :=
  let s := s.admitStart n
  let groups := groupList.filter (fun g => (leAt rec 8 8).testBit g)
  let set := (groups, leAt rec 6 1)
  let v := (s.pointFor n set).getD 15
  let chans := s.chansOf groups
  let p : Plan := {
    round := n, level := leAt rec 1 1, groups := groups, chans := chans, classes := set.2, vpoint := v,
    nBd := s.boardSteps n chans.length, nBa := s.beamSteps set.2, pred := s.ratePred v, record := rec.take 40 }
  let al := s.allowance
  let s := { s with ck := { s.ck with aPrev := some al.1 } }
  (s.takePlan p).allowanceReport n al.1

/-! ## Pace (R272, R273) -/

/-- PACE_CHECK (R272): the steps that the slower array has completed are compared with the work due. -/
def State.paceCheck (s : State) (steps : Nat) : State :=
  match s.ck.work with
  | none => s
  | some (n, t0) =>
    match s.planOf n with
    | none => s
    | some p =>
      let d := s.roundDur
      let full : Rat := (max p.nBd p.nBa : Nat)
      let el : Rat := ((s.nowNs - t0 : Nat) : Rat) / 1000000000
      let due := if d = 0 then full else min full (full / d * el)
      let ratio := if due ≤ 0 then 65535 else min 65535 (((steps * 1000 : Nat) : Rat) / due).floor.toNat
      let s := s.wr R.CK_PACE_pace ratio
      let v := s.rd R.CK_STATUS_vpoint
      if ratio < 1000 ∧ v < 15 then ((s.setPoint (v + 1)).flag R.CK_STATUS_raised).inc (R.CK_CNT 2) else s

/-- VOLTAGE_POINT_SETTLE (R265). -/
def State.settlePoint (s : State) : State := { s with ck := { s.ck with settling := false } }

/-- PACE_FAILURE (R273). -/
def State.paceFail (s : State) (n : Nat) : State :=
  ((((s.flag R.CK_STATUS_pace_fail).inc (R.CK_CNT 3)).health 13 0 2 0 n).fire 98).impair n

end Sys2Proof.Machine
end

