-- ==== Sys2Proof/Machine/Boundary.lean ====
section
/-! DEFINITION. Round boundaries (R25): what takes effect when one is reached. -/

namespace Sys2Proof.Machine

/-- The oldest round whose work is not over. -/
def State.oldestWork (s : State) (n : Nat) : Nat :=
  (s.bd.queue ++ s.bd.live ++ s.ba.queue ++ s.ba.round.toList ++ s.al.open_).foldl min (n - 2)

/-- Drops settings that govern no round from `n` on. -/
def pruneRounds {α : Type} (l : List (Nat × α)) (n : Nat) : List (Nat × α) :=
  match (l.filter (fun p => p.1 ≤ n)).getLast? with
  | some p => p :: l.filter (fun p => n < p.1)
  | none => l

/-- BD_PTBLF and BD_CFG show the pairing table in force (R104). -/
def State.showTable (s : State) (n : Nat) : State :=
  let t := (s.tableOf n).entries
  let s := (s.wr R.BD_CFG_p t.length).wr R.BD_CFG_k_m1 ((s.tableOf n).k - 1)
  s.fold (List.range 32) (fun s e => s.setWord (R.BD_PTBLF e) (BitVec.ofNat 32 (t.getD e 0)))

/-- A set that is marked unverified when its switch is due does not become active (R143). (DESIGN CHOICE: log entry 187.) -/
def State.dropUnverified (s : State) (n : Nat) : State :=
  if s.unverified (s.wsetOf n) then
    ({ s with ba := { s.ba with sets := s.ba.sets.filter (fun p => p.1 ≠ n) } }).baErr 12 0
  else s

/-- BOUND_CHANGE_APPLY: one change bound to boundary n takes effect. The lists by round already govern the rounds from
n on; what is left is the window in force and the status bits. -/
def State.applyChange (s : State) (n : Nat) : Change → State
  | .win us => { s with al := { s.al with winOff := (us : Int) - 500 } }
  | .flags => s
  | .streams => s.wr R.IN_STATUS_str_pending 0
  | .pairing => (s.wr R.BD_STATUS_tbl_pending 0).showTable n
  | .weights => ((s.wr R.BA_STATUS_w_pending 0).dropUnverified n).fire 168
  | .beams =>
    { (s.wr R.BA_STATUS_b_pending 0) with ba := { s.ba with cfgs := pruneRounds s.ba.cfgs (s.oldestWork n) } }

/-- The pending bits of alignment follow the changes still bound. (DESIGN CHOICE: log entry 179: AL_HMASKCTL.pending reads 1
while any flag-setting change waits.) -/
def State.notePending (s : State) : State :=
  (s.wr R.AL_STATUS_w_pending (if s.bound.any (fun p => match p.2 with | .win _ => true | _ => false) then 1 else 0)).wr
    R.AL_HMASKCTL_pending (if s.bound.any (fun p => p.2 = .flags) then 1 else 0)

/-- A host Endgame request, then a clear, that falls due at boundary n (Table 12-5). -/
def State.hostEndgame (s : State) (n : Nat) : State :=
  let due (o : Option Nat) : Bool := match o with
    | some b => decide (b ≤ n)
    | none => false
  let s := s.when (due s.ck.egReq) (fun s => ({ s with ck := { s.ck with egReq := none } }).setCause 0 true)
  let s := s.when (due s.ck.egClr) (fun s => ({ s with ck := { s.ck with egClr := none } }).setCause 0 false)
  s.wr R.CK_STATUS_eg_pending (if s.ck.egReq.isSome || s.ck.egClr.isSome then 1 else 0)

/-- The boundary at the start of round n is acted on: its bound changes take effect, the thermal cap is updated and
E080 fires. -/
def State.boundaryAt (s : State) (n : Nat) : State :=
  let mine := s.bound.filter (fun p => p.1 ≤ n)
  let s := { s with bound := s.bound.filter (fun p => n < p.1), rnd := n + 1 }
  let s := (s.fold mine (fun s p => s.applyChange n p.2)).notePending
  ((s.thermalCap).hostEndgame n).fire 80

/-- Every boundary reached and not yet acted on, up to that of round `top`, in round order. -/
def State.boundariesTo (s : State) (top : Nat) : State :=
  let r0 := s.rnd
  s.fold ((List.range (top + 1 - r0)).map (· + r0)) (fun s n => if s.reached n && s.rnd = n then s.boundaryAt n else s)

/-- Every boundary reached and not yet acted on. (DEDUCED: log entry 71.) -/
def State.passBoundaries (s : State) : State := s.boundariesTo (s.nextRound - 1)

end Sys2Proof.Machine
end

