-- ==== Sys2Proof/Machine/Align.lean ====
section
/-! DEFINITION. Alignment: the horizon (R61, R62), granule closing and the flag plane (R63, R66, R69 to R74), total
power (R75, R76), placing packets (R64, R65), skipped rounds (R409), capture (R77 to R79) and starting and stopping
(R81). -/

namespace Sys2Proof.Machine

/-! ## The horizon -/

/-- Time mode (R61). -/
def State.timeMode (s : State) : Bool := s.sceValid && decide (s.rd R.REF_STATUS_tq ≤ 3)

/-- The round whose stream table judges the counted streams: the one that contains H, or round 0. -/
def State.hRound (s : State) : Nat := (s.roundOf s.horizon).getD 0

/-- h_maj (R62). -/
def State.majority (s : State) : Option Nat :=
  let n := s.hRound
  let streams := s.slabStreams.filter (s.strOn n)
  let need := streams.length / 2
  let ps := (streams.filterMap (fun a => match smapGet 0 s.al.pa a with
    | 0 => none
    | p + 1 => some p)).mergeSort (fun x y => y ≤ x)
  if streams.isEmpty then none else ps[need]?

/-- The horizon candidate when the counter stands at t (R61, R62), while ingest or alignment is on (R81). -/
def State.candidateAt (s : State) (t : Nat) : Option Nat :=
  if !s.on R.IN_CTL_en && !s.on R.AL_CTL_en then none
  else if s.timeMode then some (scAt s.tb.epoch ((t : Int) - s.win * 1000 * 2 ^ 48)).toNat else s.majority

/-! ## Packet slots (R65) -/

/-- The key of a packet slot. -/
def slotKey (a first sc : Nat) : Nat := (sc * 4096 + a) * 4096 + first

/-- The mark of a packet slot. -/
def State.slotMark (s : State) (k : Nat) : Option SlotRec := smapGet none s.al.marks k

/-- The marked slots of stream a that cover channel c at an SC. (DEDUCED: log entry 61.) -/
def State.covering (s : State) (a c sc : Nat) : List SlotRec :=
  s.al.marks.filterMap (fun p => p.2.bind (fun r =>
    if p.1 / 4096 % 4096 = a ∧ p.1 % 4096 ≤ c ∧ c < p.1 % 4096 + r.num ∧ p.1 / 16777216 ≤ sc
      ∧ sc < p.1 / 16777216 + r.spc then some r else none))

/-- The key of granule working state: round, slot, stream and channel. -/
def granKey (n g a c : Nat) : Nat := ((n * 131072 + g) * 4096 + a) * 4096 + c

/-! ## Granule closing (R66, R69 to R74) -/

/-- The flag settings of a round. -/
def State.flagCfg (s : State) (n : Nat) : FlagCfg := (atRound s.al.flg n).getD default

/-- The host-mask bit of (a, c) (R72). -/
def State.hostMask (s : State) (cfg : FlagCfg) (a c : Nat) : Bool :=
  let base := if cfg.hmask.testBit 0 then s.rq R.AL_HMASK_B else s.rq R.AL_HMASK_A
  cfg.hmask.testBit 1 && (s.byte (base + a * 512 + c / 8)).getLsbD (c % 8)

/-- SK high and SK low for one polarisation (R71). -/
def skTest (cfg : FlagCfg) (m s1 s2 : Nat) : Bool × Bool :=
  if m < cfg.mMin ∨ s1 = 0 then (false, false)
  else
    let d : Int := ((m : Int) + 1) * (m * s2 - s1 * s1) * 2 ^ 24
    let r : Int := ((m : Int) - 1) * s1 * s1
    (decide (cfg.skhi * r < d), decide (d < cfg.sklo * r))

/-- Causes 6 to 9 of a channel, and whether some polarisation present had no SK test (Table 3-2, R71). (DEDUCED: log entry 65.) -/
def State.channelCauses (s : State) (n g a c : Nat) : Nat × Bool :=
  let cfg := s.flagCfg n
  let st := smapGet default s.al.stats (granKey n g a c)
  let u := smapGet 0 s.al.uflags (granKey n g a c)
  let x := !u.testBit 2
  let y := !u.testBit 3
  let kx := if x then skTest cfg st.m st.s1x st.s2x else (false, false)
  let ky := if y then skTest cfg st.m st.s1y st.s2y else (false, false)
  let zero := decide (1 ≤ st.m) && ((x && st.s1x = 0) || (y && st.s1y = 0))
  let b (p : Bool) (i : Nat) : Nat := if p then 2 ^ i else 0
  (b (kx.1 || ky.1) 6 + b (kx.2 || ky.2) 7 + b zero 8 + b (s.hostMask cfg a c) 9,
    (x && decide (st.m < cfg.mMin ∨ st.s1x = 0)) || (y && decide (st.m < cfg.mMin ∨ st.s1y = 0)))

/-- Causes 0 and 1 of a channel of a granule: samples with no placed packet, missing or in a corrupt slot. -/
def State.lossCauses (s : State) (n g a c : Nat) : Nat :=
  let lo := s.slotLo n g
  let lost := ((List.range (s.slotHi n g - lo)).map (fun t => s.covering a c (lo + t))).filter (fun l => !l.any (·.placed))
  (if lost.any (·.isEmpty) then 1 else 0) + (if lost.any (fun l => !l.isEmpty) then 2 else 0)

/-- Causes 2 to 5 that the uflags of a channel's packets give. -/
def State.upstreamCauses (s : State) (n g a c : Nat) : Nat := (smapGet 0 s.al.uflags (granKey n g a c) % 16) * 4

/-- The packet ranges of stream a in the table of round n: first channel and channels; none when it is disabled. -/
def State.ranges (s : State) (n a : Nat) : List (Nat × Nat) :=
  let k := s.strF n (R.IN_STRB_c_pkt a)
  if s.strOn n a then
    (List.range (s.strF n (R.IN_STRB_c_num a) / max 1 k)).map (fun j => (s.strF n (R.IN_STRC_c_lo a) + j * k, k))
  else []

/-- Channel c lies in the slab. -/
def State.inSlab (s : State) (c : Nat) : Bool := decide (s.chBase ≤ c ∧ c < s.chBase + s.slabCh)

/-- The enabled causes: 0 and 1 always, 2 to 9 by AL_FLGEN. -/
def FlagCfg.mask (c : FlagCfg) : Nat := (c.flgen % 1024) ||| 3

/-- Appends one record to the flag log of round n, or counts it lost (R74). -/
def State.logFlag (s : State) (n : Nat) (rec : Bytes) : State :=
  let k := smapGet 0 s.al.flogN n
  if k < s.flogCap then
    let s := s.setBytes (s.slabBase n + s.sampleArea + s.planeArea + s.tpArea + 32 * k) rec
    { s with al := { s.al with flogN := smapSet 0 s.al.flogN n (k + 1) } }
  else
    let s := s.when (smapGet 0 s.al.flogLost n = 0) (·.fire 87)
    let s := { s with al := { s.al with flogLost := smapSet 0 s.al.flogLost n (smapGet 0 s.al.flogLost n + 1) } }
    (s.inc (R.AL_CNT 8)).flag R.AL_STATUS_flog_ovf

/-- A flag-log record (Table 3-3). -/
def flagRecord (a first num causes g m1 rflags : Nat) (st : GrStat) : Bytes :=
  leBytes 2 a ++ leBytes 2 first ++ leBytes 2 num ++ leBytes 2 causes ++ leBytes 2 g ++ leBytes 1 m1 ++ leBytes 1 rflags
    ++ leBytes 4 st.s1x ++ leBytes 4 st.s1y ++ leBytes 6 st.s2x ++ leBytes 6 st.s2y

/-- Round n has a slab that is being written. -/
def State.writes (s : State) (n : Nat) : Bool := s.al.open_.contains n && !s.al.noSlab.contains n

/-- Writes 0 into the sample positions of a granule that no placed packet covers (R66). -/
def State.zeroFill (s : State) (n g a c : Nat) : State :=
  let lo := s.slotLo n g
  s.fold (List.range (s.slotHi n g - lo)) (fun s t =>
    if (s.covering a c (lo + t)).any (·.placed) then s
    else s.setBytes (s.slabBase n + s.sampleOff a 0 (c - s.chBase) (lo + t - s.roundSc n)) (zeros (2 * s.width)))

/-- The pair-divergent slots of a range in a granule: the peer holds them and they are not placed here (R80). -/
def State.divergent (s : State) (n g a first num : Nat) : List Nat :=
  (s.al.peerHas.filter (fun p =>
    let sc := p.1 / 16777216
    p.2 && decide (p.1 / 4096 % 4096 = a ∧ first ≤ p.1 % 4096 ∧ p.1 % 4096 < first + num) &&
      decide (sc < s.slotHi n g ∧ s.slotLo n g < sc + 2 ^ s.strF n (R.IN_STRB_spc_log2 a)) &&
      !((s.slotMark p.1).any (·.placed)))).map Prod.fst

/-- One packet range of a closing granule: zero-fill, flag bits, counters and log records. -/
def State.closeRange (s : State) (n g a first num : Nat) : State :=
  let chans := ((List.range num).map (· + first)).filter s.inSlab
  if chans.isEmpty then s
  else
    let cfg := s.flagCfg n
    let range := chans.foldl (fun x c => x ||| s.lossCauses n g a c ||| s.upstreamCauses n g a c) 0
    let per := chans.map (fun c => (c, s.channelCauses n g a c))
    let flagged (x : Nat) : Bool := (range ||| x) &&& cfg.mask != 0
    let div := s.divergent n g a first num
    let wr := s.writes n
    let s := s.incBy (R.AL_CNT 4) (if range.testBit 0 then chans.length else 0)
    let s := s.incBy (R.AL_CNT 5) (if range.testBit 1 then chans.length else 0)
    let s := s.incBy (R.AL_CNT 6) (per.filter (fun p => flagged p.2.1)).length
    let s := s.incBy (R.AL_CNT 11) (div.filter (fun k => decide (s.slotLo n g ≤ k / 16777216))).length
    let s := s.when (!div.isEmpty) (fun s => { s with al := { s.al with divs := (s.al.divs ++ [(⟨n, a, first, num, g⟩ : DivSlot)]).dedup } })
    if !wr then s
    else
      let s := s.fold per (fun s p =>
        (s.zeroFill n g a p.1).setFlagBit (s.slabBase n) a (p.1 - s.chBase) g (flagged p.2.1))
      let any := per.any (fun p => flagged p.2.1)
      let detected := range != 0 || per.any (fun p => p.2.1 != 0)
      if any || (cfg.flgen.testBit 16 && detected) then
        let rf := (if any then 1 else 0) + (if div.isEmpty then 0 else 2)
        let s := s.logFlag n (flagRecord a first num range g (s.slotHi n g - s.slotLo n g - 1) rf default)
        s.fold (per.filter (fun p => p.2.1 != 0)) (fun s p =>
          let st := smapGet default s.al.stats (granKey n g a p.1)
          let rf := (if flagged p.2.1 then 1 else 0) + (if p.2.2 then 4 else 0) + (if st.m = 0 then 8 else 0)
          s.logFlag n (flagRecord a p.1 1 p.2.1 g (st.m - 1) rf st))
      else s

/-- The channels of the slab that stream a does not provide in round n: flagged without a log record (Table 3-2). -/
def State.closeAbsent (s : State) (n g a : Nat) : State :=
  let rs := s.ranges n a
  let chans := ((List.range s.slabCh).map (· + s.chBase)).filter (fun c => !rs.any (fun r => decide (r.1 ≤ c ∧ c < r.1 + r.2)))
  let s := (s.incBy (R.AL_CNT 7) chans.length).incBy (R.AL_CNT 6) chans.length
  if s.writes n then s.fold chans (fun s c => s.setFlagBit (s.slabBase n) a (c - s.chBase) g true) else s

/-- GRANULE_CLOSE: slot g of round n closes for every stream and channel. (DEDUCED: log entry 68.) -/
def State.closeGranule (s : State) (n g : Nat) : State :=
  let s :=
    if s.slotLo n g < s.slotHi n g then
      s.fold s.slabStreams (fun s a => (s.fold (s.ranges n a) (fun s r => s.closeRange n g a r.1 r.2)).closeAbsent n g a)
    else if s.writes n then
      s.fold s.slabStreams (fun s a => s.fold (List.range s.slabCh) (fun s j => s.setFlagBit (s.slabBase n) a j g false))
    else s
  let mine (k : Nat) : Bool := k / 16777216 = n * 131072 + g
  let al := s.al
  { s with al := {
      al with
      closed := smapSet 0 al.closed n (g + 1), anyClosed := true, stats := al.stats.filter (fun p => !mine p.1),
      uflags := al.uflags.filter (fun p => !mine p.1) } }

/-! ## Sealing (R63, R76) -/

/-- Copies the total-power bank of round n into the slab. -/
def State.copyPower (s : State) (n : Nat) : State :=
  s.fold (List.range (512 * s.blocks * s.tpBins)) (fun s k =>
    let r := smapGet default s.al.tp ((n % 2) * 4194304 + k)
    s.setBytes (s.slabBase n + s.sampleArea + s.planeArea + 16 * k) (leBytes 6 r.x ++ leBytes 6 r.y ++ leBytes 4 r.n))

/-- SLAB_SEAL: round n's last granule has closed. The groups, the Board, the Beam Array and the output gate learn it;
with no slab only TPW follows. -/
def State.sealRound (s : State) (n : Nat) : State :=
  let wr := s.writes n
  let al := s.al
  let keep := al.marks.filter (fun p => decide (s.roundSc (n + 1) < p.1 / 16777216 + 8192))
  let s := { s with al := {
      al with
      open_ := al.open_.filter (· ≠ n), closed := smapSet 0 al.closed n 0, marks := keep,
      peerHas := al.peerHas.filter (fun p => decide (s.roundSc (n + 1) < p.1 / 16777216 + 8192)) } }
  let s := { s with ot := { s.ot with sealed := s.ot.sealed ++ (if wr then [8 * n + 3, 8 * n + 4] else [8 * n + 3]) } }
  if wr then
    let s := ((s.copyPower n).wq R.AL_SEALED n).fire 81
    let s := s.when (!s.timeMode) State.toUnsync
    ((s.groupsSeal n).boardSeal n).beamSeal n
  else s

/-! ## Capture (R77 to R79) -/

/-- A freeze request is refused. -/
def State.freezeRefuse (s : State) (r : Nat) : State := (s.wr R.AL_CAPSTAT_result r).inc (R.AL_CNT 12)

/-- An accepted freeze is cancelled (R81). -/
def State.freezeCancel (s : State) : State :=
  ((({ s with al := { s.al with freeze := none } }).wr R.AL_CAPSTAT_pending 0).wr R.AL_CAPSTAT_result 7).inc (R.AL_CNT 12)

/-- A freeze request for round m (R77); answers whether it was accepted. -/
def State.freezeRound (s : State) (m : Nat) : State × Bool :=
  let late := decide (m + 2 < s.al.nextStart)
  let gone := decide (m < s.al.first) || s.al.noSlab.contains m
    || (!s.on R.AL_CTL_en && decide (s.al.nextStart ≤ m) && s.begun m)
  let r :=
    if s.on R.AL_STATUS_cap_held || s.al.freeze.isSome then some 2
    else if late then some 3
    else if !s.on R.AL_CTL_cap_en then some 4
    else if s.on R.AL_STATUS_endgame then some 5
    else if gone then some 6
    else none
  match r with
  | some r => (s.freezeRefuse r, false)
  | none =>
    let sel := (s.rd R.OT_CAPA_a_lo, s.rd R.OT_CAPA_a_num, s.rd R.OT_CAPC_c_lo, s.rd R.OT_CAPB_c_num)
    let s := { s with al := { s.al with freeze := some m }, ot := { s.ot with capSel := sel } }
    ((s.wr R.AL_CAPSTAT_result 1).wr R.AL_CAPSTAT_pending 1, true)

/-- CAPTURE_SUBSTITUTION (R77): position p goes to the capture buffer, and the buffer of round m is held. -/
def State.substitute (s : State) (m p : Nat) : State :=
  let old := s.posBuf p
  let new := s.rd R.AL_STATUS_cap_buf
  let s := s.wr (if p = 0 then R.AL_STATUS_pos0_buf else R.AL_STATUS_pos1_buf) new
  let s := ((s.wr R.AL_STATUS_cap_buf old).wr R.AL_STATUS_cap_held 1).wq R.AL_CAPHELD m
  (({ s with al := { s.al with freeze := none }, ot := { s.ot with sealed := s.ot.sealed ++ [8 * m + 5] } }).wr
    R.AL_CAPSTAT_pending 0).fire 85

/-! ## Ingest starts a round (R26, R64) -/

/-- Rounds with unfinished work whose slab shares its rotation position with round n. -/
def State.victims (s : State) (n : Nat) : List Nat :=
  (s.bd.queue ++ s.bd.live ++ s.ba.queue ++ s.ba.round.toList).dedup.filter (fun m => m < n ∧ m % 2 = n % 2)

/-- INGEST_ROUND_START: ingest starts to write round n into its buffer. `jump`: the horizon jumped (R409). -/
def State.ingestStart (s : State) (n : Nat) (jump : Bool) : State :=
  let resumed : Bool := match s.al.resume with
    | some r => decide (r ≤ n)
    | none => false
  let s := s.when resumed (fun s => ({ s with al := { s.al with resume := none, first := n } }).wr R.AL_STATUS_endgame 0 |>.wr R.AL_STATUS_active 1)
  let wr := !s.on R.AL_STATUS_endgame
  let s := s.shadowReuse n (fun t => t = 3 || (t = 4 && wr))
  let s :=
    if wr then
      s.fold (s.victims n) (fun s m =>
        let b := s.boardOverrun m
        let a := b.1.beamOverrun m
        if (b.2 || a.2) && !jump then a.1.paceFail m else a.1)
    else s
  let s := match s.al.freeze with
    | some m =>
      if wr && decide (m + 2 ≤ n) && m % 2 = n % 2 then s.substitute m (n % 2)
      else if !wr && m = n then s.freezeCancel else s
    | none => s
  let al := s.al
  { s with al := {
      al with
      nextStart := n + 1, open_ := al.open_ ++ [n], closed := smapSet 0 al.closed n 0,
      flogN := smapSet 0 al.flogN n 0, flogLost := smapSet 0 al.flogLost n 0,
      tp := al.tp.filter (fun p => p.1 / 4194304 ≠ n % 2),
      noSlab := al.noSlab.filter (fun m => n < m + 4) ++ (if wr then [] else [n]) } }

/-- A round that the horizon passed whole (R409). (DEDUCED: log entry 62.) -/
def State.skipRound (s : State) (n : Nat) : State :=
  let s := { s with al := { s.al with nextStart := n + 1, noSlab := s.al.noSlab ++ [n] } }
  let s := (s.inc (R.AL_CNT 13)).planSkip n
  let s := s.when (s.al.freeze = some n) (·.freezeCancel)
  if s.on R.AL_STATUS_endgame then s
  else
    let s := s.groupsSeal n
    let s := if (s.bdState = 1 ∨ s.bdState = 2) ∧ !(s.bd.queue.isEmpty && s.bd.live.isEmpty) then s.boardSeal n
      else s.groupsRoundDone n
    if s.ba.queue.isEmpty && s.ba.round.isNone then if s.beamOn then (s.shedBeams n).beamOver n else s else s.beamSeal n

/-! ## Moving the horizon (R61 to R63, R409) -/

/-- Closes the granules of an open round whose end the horizon has reached, and seals the round with its last. -/
def State.closeRound (s : State) (h n : Nat) : State :=
  let s := s.fold (List.range s.gSlots) (fun s g =>
    if smapGet 0 s.al.closed n = g ∧ s.slotHi n g ≤ h then s.closeGranule n g else s)
  if s.gSlots ≤ smapGet 0 s.al.closed n then (s.boundariesTo (n + 1)).sealRound n else s

/-- In time mode ingest starts the next round once its boundary is reached, unless the horizon has passed it whole or the round
two before it is still open. `jump`: several boundaries were reached at once (R409), as they are when the next boundary is
reached too; answers whether a round was started. -/
def State.startOne (s : State) (t : Nat) (jump : Bool) : State × Bool :=
  let n := s.al.nextStart
  let passed : Bool := match s.candidateAt t with
    | some h => decide (s.roundSc (n + 1) ≤ max h s.horizon)
    | none => false
  if s.on R.AL_CTL_en && s.timeMode && s.reachedAt n t && !passed && !s.al.open_.any (fun m => decide (m + 2 ≤ n)) then
    ((s.boundariesTo n).ingestStart n (jump || s.reachedAt (n + 1) t), true)
  else (s, jump)

/-- Every round that is due to start when the counter stands at t, at most two. -/
def State.startDue (s : State) (t : Nat) (jump : Bool) : State :=
  let r := s.startOne t jump
  (r.1.startOne t r.2).1

/-- H := max(H, h): granules close, slabs seal, rounds passed whole are skipped and every boundary reached is acted
on. (DEDUCED: log entry 58.) -/
def State.advanceTo (s : State) (h : Nat) : State :=
  if h ≤ s.horizon then s
  else
    let s := s.wq R.AL_HORIZ h
    if s.on R.AL_CTL_en then
      let s := s.fold s.al.open_ (fun s n => s.closeRound h n)
      let r := (s.roundOf h).getD 0
      let n0 := s.al.nextStart
      if n0 < r then
        let s := s.fold ((List.range (r - n0)).map (· + n0)) (fun s n => (s.boundariesTo (n + 1)).skipRound n)
        ((s.boundariesTo r).ingestStart r true).passBoundaries
      else s.passBoundaries
    else s.passBoundaries

/-- H moves to its candidate when the counter stands at t, then due rounds start. A smaller W that takes effect on the way
moves H again (R67). (DEDUCED: log entry 58.) -/
def State.moveTo (s : State) (t : Nat) : State :=
  let once (s : State) : State :=
    match s.candidateAt t with
    | some h => s.advanceTo h
    | none => s
  let n0 := s.al.nextStart
  let s := once (once s)
  s.startDue t (decide (n0 + 1 < s.al.nextStart))

/-! ## Placing packets (R64, R65) -/

/-- The oldest open span (R64). -/
def State.oldestSpan (s : State) : Nat := max (s.horizon / 256) (s.roundSc s.al.first / 256)

/-- How the sample at an SC stands: its granule is open, closed (late), or its round is not being written (early). -/
inductive Standing where
  | open_ | late | early
  deriving DecidableEq, Repr

/-- How the sample at an SC stands. -/
def State.standing (s : State) (sc : Nat) : Standing :=
  match s.roundOf sc with
  | none => .late
  | some n =>
    if s.al.nextStart ≤ n then .early
    else if s.al.open_.contains n ∧ smapGet 0 s.al.closed n ≤ s.gSlot n sc then .open_ else .late

/-- Repair runs: enabled, a unit of a pair, in time mode (R80). -/
def State.repairOn (s : State) : Bool := s.on R.AL_RPRCTL_en && s.csState != 0 && s.timeMode

/-- How a packet's sample at an SC stands: once a unit has sent the last SPAN message of a span, further packets of that
span from its own ingest are late (R211). -/
def State.stands (s : State) (x : Accepted) (sc : Nat) : Standing :=
  if s.repairOn && !x.repair && decide (sc / 256 < s.al.sentSpan) then .late else s.standing sc

/-- re² + im². -/
def power (x : Int × Int) : Nat := (x.1 * x.1 + x.2 * x.2).toNat

/-- Adds a sample pair to its granule's statistics and to its total-power record (R71, R75). -/
def State.sumSample (s : State) (n g a c : Nat) (x y : Int × Int) : State :=
  let k := granKey n g a c
  let st := smapGet default s.al.stats k
  let px := power x
  let py := power y
  let st' : GrStat := ⟨st.m + 1, st.s1x + px, st.s1y + py, st.s2x + px * px, st.s2y + py * py⟩
  let b := (n % 2) * 4194304 + a * s.tpBins + (c - s.chBase) / 2 ^ s.tpLog2
  let r := smapGet default s.al.tp b
  let r' : TpRec := ⟨r.x + px, r.y + py, r.n + 1⟩
  { s with al := { s.al with stats := smapSet default s.al.stats k st', tp := smapSet default s.al.tp b r' } }

/-- The sample bytes of a packet: sample t, channel index i, both polarisations (R41). -/
def Accepted.at (x : Accepted) (w t i : Nat) : Bytes := (x.raw.drop (32 + (t * x.chCount + i) * 2 * w)).take (2 * w)

/-- Places one sample of a packet at the address of its stream, channel and SC (R57). -/
def State.placeSample (s : State) (x : Accepted) (t i : Nat) : State :=
  let sc := x.sc + t
  let c := x.firstCh + i
  if s.stands x sc = .open_ ∧ x.stream < 512 * s.blocks ∧ s.inSlab c then
    let n := (s.roundOf sc).getD 0
    let bs := x.at s.width t i
    let s := s.when (s.writes n) (fun s =>
      s.setBytes (s.slabBase n + s.sampleOff x.stream 0 (c - s.chBase) (sc - s.roundSc n)) bs)
    s.sumSample n (s.gSlot n sc) x.stream c (sampleParts s.width (bs.take s.width)) (sampleParts s.width (bs.drop s.width))
  else s

/-- The uflags of a packet reach every open granule it covers (R69). -/
def State.noteUflags (s : State) (x : Accepted) : State :=
  s.fold (List.range x.spc) (fun s t =>
    if s.stands x (x.sc + t) = .open_ then
      let n := (s.roundOf (x.sc + t)).getD 0
      s.fold (List.range x.chCount) (fun s i =>
        let k := granKey n (s.gSlot n (x.sc + t)) x.stream (x.firstCh + i)
        { s with al := { s.al with uflags := smapSet 0 s.al.uflags k (smapGet 0 s.al.uflags k ||| x.uflags % 16) } })
    else s)

/-- The packet lies inside the statistics ring (R64). -/
def State.inRing (s : State) (x : Accepted) : Bool := decide ((x.sc + x.spc - 1) / 256 < s.oldestSpan + s.al.gOpen)

/-- In majority mode ingest starts each round, in order, up to the last that a packet's samples lie in (R64). -/
def State.startFor (s : State) (x : Accepted) : State :=
  match s.roundOf (x.sc + x.spc - 1) with
  | none => s
  | some m =>
    let n0 := s.al.nextStart
    s.fold ((List.range (m + 1 - n0)).map (· + n0)) (fun s n => (s.boundariesTo n).ingestStart n false)

/-- A packet that reaches alignment while AL_CTL.en = 1 (R64, R65). (DEDUCED: log entry 60.) (DESIGN CHOICE: log entry 177: one that
failed its payload CRC counts as late or early like a valid one.) -/
def State.placePacket (s : State) (x : Accepted) : State :=
  let inRing := s.inRing x
  let s := s.when (inRing && !s.timeMode) (·.startFor x)
  let st := (List.range x.spc).map (fun t => s.stands x (x.sc + t))
  let out := decide (512 * s.blocks ≤ x.stream) || (List.range x.chCount).any (fun i => !s.inSlab (x.firstCh + i))
  let s := s.when out (·.inc (R.AL_CNT 14))
  if !inRing || st.contains .early then s.inc (R.AL_CNT 1)
  else if !st.contains .open_ then (s.inc (R.AL_CNT 0)).inc (R.AL_STRLATE x.stream)
  else
    let k := slotKey x.stream x.firstCh x.sc
    let old := s.slotMark k
    if old.any (·.placed) then if x.corrupt then s else s.inc (R.AL_CNT 2)
    else
      let s := s.when (st.contains .late) (fun s => (s.inc (R.AL_CNT 0)).inc (R.AL_STRLATE x.stream))
      let s := s.noteUflags x
      let mark : SlotRec := ⟨!x.corrupt, x.spc, x.chCount, x.raw⟩
      let s' := { s with al := { s.al with marks := smapSet none s.al.marks k (some mark) } }
      if x.corrupt then s'
      else
        let s := s'.when old.isSome (·.inc (R.AL_CNT 3))
        let s := s.when x.repair (·.inc (R.AL_CNT 9))
        s.fold (List.range x.spc) (fun s t => s.fold (List.range x.chCount) (fun s i => s.placeSample x t i))

/-- P_a of R62 takes in a sample packet of the unit's own ingest. -/
def State.noteReach (s : State) (x : Accepted) : State :=
  if x.repair then s
  else { s with al := { s.al with pa := smapSet 0 s.al.pa x.stream (max (smapGet 0 s.al.pa x.stream) (x.sc + x.spc + 1)) } }

/-- An accepted packet reaches alignment: it is judged by the horizon and the rounds as they stood at its stamp (R63), before
it moves the horizon itself. (DEDUCED: log entry 59.) -/
def State.alignPacket (s : State) (x : Accepted) : State :=
  let s := if s.timeMode then s.moveTo x.stamp else s
  let s := if s.on R.AL_CTL_en then s.placePacket x else s
  (s.noteReach x).moveTo x.stamp

/-- PACKET_PLACE: the oldest accepted packet reaches alignment. -/
def State.placeNext (s : State) : State :=
  match s.ul.alignQ with
  | [] => s
  | x :: r => State.alignPacket { s with ul := { s.ul with alignQ := r } } x

/-- Every packet accepted so far reaches alignment, oldest first. -/
def State.placeAll (s : State) : State := s.fold s.ul.alignQ (fun s _ => s.placeNext)

/-- HORIZON_ADVANCE: packets stamped before now reach alignment, and H moves to its candidate. (DEDUCED: log entry 59.) -/
def State.moveHorizon (s : State) : State :=
  let s := s.placeAll
  s.moveTo s.tb.t

/-- Packets that wait when alignment starts came while it was off: they move P_a and nothing else (R81). -/
def State.dropAccepted (s : State) : State :=
  let t := s.fold s.ul.alignQ (fun s x => s.noteReach x)
  { t with ul := { t.ul with alignQ := [] } }

/-- INGEST_ROUND_START as a command: in time mode the next round starts once its boundary is reached; in majority mode
when the oldest accepted packet is the first of it inside the ring. -/
def State.ingestNext (s : State) : State :=
  if s.timeMode then
    let s := s.placeAll
    s.startDue s.tb.t false
  else
    match s.ul.alignQ with
    | x :: _ => if s.on R.AL_CTL_en && s.inRing x then s.startFor x else s
    | [] => s

/-! ## Starting and stopping (R55, R60, R81) -/

/-- c_pkt_min: the smallest c_pkt of the enabled streams of the table in force, or 1 (R64). -/
def State.pktMin (s : State) : Nat :=
  let n := s.nextRound - 1
  let l := ((List.range 4096).filter (s.strOn n)).map (fun a => s.strF n (R.IN_STRB_c_pkt a))
  match l with
  | [] => 1
  | x :: r => r.foldl min x

/-- AL_CTL.en written 1: the lowest reason for refusal (R60). -/
def State.alignReason (s : State) : Option Nat :=
  let ring := s.ringSize s.pktMin s.gOpenOf
  let rs := s.slabRanges ring
  if anyOverlap rs || rs.any (fun r => decide (s.hbmSize < r.1 + r.2)) then some 1
  else if decide (s.hbmSize < s.occupancy ring s.openGroups s.beamOn) then some 2
  else none

/-- ALIGNMENT_ENABLE (R55, R60, R81). (DEDUCED: log entry 63.) (DEDUCED: log entry 64.) -/
def State.alignEnable (s : State) : State :=
  match s.alignReason with
  | some r => ((s.wr R.AL_CTL_en 0).wr R.AL_STATUS_cfg_reason r).flag R.AL_STATUS_cfg_err
  | none =>
    let s := s.dropAccepted
    let s := if s.on R.AL_STATUS_cap_held then s
      else ((s.wr R.AL_STATUS_pos0_buf 0).wr R.AL_STATUS_pos1_buf 1).wr R.AL_STATUS_cap_buf 2
    let m := s.pktMin
    let g := s.gOpenOf
    let first := if s.horizon < s.origin then 0 else (s.horizon - s.origin) / s.roundLen + 1
    let s := (s.wq R.AL_SLABSIZE s.slabSize).wq R.AL_RINGSIZE (s.ringSize m g)
    let s := s.wr R.AL_TPCTL_tp_log2 s.tpLog2
    let s := match s.al.freeze with
      | some m => if m < first then s.freezeCancel else s
      | none => s
    let al := s.al
    ({ s with al := {
        al with
        cPktMin := m, gOpen := g, first := first, nextStart := first, open_ := [], closed := [], anyClosed := false,
        noSlab := [], marks := [], stats := [], uflags := [], tp := [], flogN := [], flogLost := [], peerHas := [],
        sentSpan := s.horizon / 256 } }).wr R.AL_STATUS_active (if s.on R.AL_STATUS_endgame then 0 else 1)

/-- Unsealed rounds are discarded, with a pending freeze of one of them or of a round not yet written (R81). -/
def State.discardOpen (s : State) (stop : Bool) : State :=
  let open_ := s.al.open_
  let s := match s.al.freeze with
    | some m => if open_.contains m || (stop && decide (s.al.nextStart ≤ m)) then s.freezeCancel else s
    | none => s
  { s with al := { s.al with noSlab := s.al.noSlab ++ open_.filter (fun n => !s.al.noSlab.contains n) } }

/-- ALIGNMENT_DISABLE (R81). -/
def State.alignDisable (s : State) : State :=
  let s := s.discardOpen true
  ({ s with al := { s.al with open_ := [], closed := [], marks := [], stats := [], uflags := [] } }).wr R.AL_STATUS_active 0

/-- Endgame entry: slab writing stops at once (R81). (DEDUCED: log entry 66.) -/
def State.alignEndgame (s : State) : State := ((s.discardOpen false).wr R.AL_STATUS_endgame 1).wr R.AL_STATUS_active 0

/-- FREEZE_COMMAND (R77). -/
def State.freezeCommand (s : State) : State :=
  let m := if s.on R.AL_CAPCTL_tgt then s.rq R.AL_CAPRND else s.hRound
  (s.freezeRound m).1

/-- The freeze task of the event fabric (R77, R79): in time mode the round of the event's arrival or the round before it, in
majority mode the round containing H. The active of a pair tells its peer the round it names. (DESIGN CHOICE: log entry 178: an
event in round 0 with sel = 1 names round 0.) -/
def State.freezeTask (s : State) : State :=
  if s.on R.AL_CAPCTL_ev_en && (s.isActive || s.csState = 0) then
    let n := (s.roundOf (scAt s.tb.epoch s.tb.t).toNat).getD 0
    let m := if !s.timeMode then s.hRound else if s.on R.AL_CAPCTL_sel then n - 1 else n
    let r := s.freezeRound m
    if r.2 && s.isActive then r.1.castSend 11 (leBytes 8 m) else r.1
  else s

/-! ## Repair between units (R80) -/

/-- The packet slots of a span in ring order: stream, first channel and SC of every packet range of the enabled
streams whose packets start in the span. -/
def State.spanSlots (s : State) (m : Nat) : List (List Nat) :=
  let n := (s.roundOf (256 * m)).getD 0
  (s.slabStreams.filter (s.strOn n)).flatMap (fun a =>
    (s.ranges n a).map (fun r =>
      let spc := 2 ^ s.strF n (R.IN_STRB_spc_log2 a)
      ((List.range 256).map (fun t => 256 * m + t)).filter (· % spc = 0) |>.map (slotKey a r.1)))

/-- One 32-byte arrival bitmap: bit i = the i-th packet slot of the range in the span is placed. -/
def State.arrivalMap (s : State) (keys : List Nat) : Bytes :=
  leBytes 32 (keys.zipIdx.foldl (fun x k => if (s.slotMark k.1).any (·.placed) then x + 2 ^ k.2 else x) 0)

/-- Splits a list into pieces. -/
def pieces {α : Type} (k : Nat) : Nat → List α → List (List α)
  | 0, _ => []
  | f + 1, l => if l.isEmpty then [] else l.take k :: pieces k f (l.drop k)

/-- REPAIR_BITMAP_SEND (R80): the next span still open whose instant TAI(span end) + W − lead has come. -/
def State.bitmapSend (s : State) : State :=
  let m := max s.al.sentSpan (s.horizon / 256)
  let due : Int := taiOf s.tb.epoch (256 * (m + 1)) + ((s.win : Int) - s.rd R.AL_RPRCTL_lead_us) * 1000 * 2 ^ 48
  if s.repairOn && decide (due ≤ s.tb.t) then
    let s := { s with al := { s.al with sentSpan := m + 1 } }
    let recs := s.spanSlots m
    s.fold ((pieces 256 recs.length recs).zipIdx) (fun s p =>
      s.castSend 6 (leBytes 8 m ++ leBytes 4 (p.2 * 256) ++ leBytes 2 p.1.length ++ zeros 2
        ++ p.1.flatMap s.arrivalMap))
  else s

/-- SPAN_RECEIVE (R80): the peer's bitmaps are noted, and the slots it holds and this unit lacks are requested. -/
def State.spanTake (s : State) (body : Bytes) : State :=
  if s.repairOn then
    let m := leAt body 0 8
    let slots := ((s.spanSlots m).drop (leAt body 8 4)).take (leAt body 12 2)
    let held := slots.zipIdx.flatMap (fun q =>
      let bits := leAt body (16 + 32 * q.2) 32
      (q.1.zipIdx.filter (fun k => bits.testBit k.2)).map Prod.fst)
    let lack := held.filter (fun k => !((s.slotMark k).any (·.placed)) && (s.standing (k / 16777216) = .open_))
    let s := { s with al := { s.al with peerHas := held.foldl (fun x k => smapSet false x k true) s.al.peerHas } }
    s.fold (pieces 680 lack.length lack) (fun s l =>
      s.castSend 7 (l.flatMap (fun k => leBytes 2 (k / 4096 % 4096) ++ leBytes 2 (k % 4096) ++ leBytes 8 (k / 16777216))))
  else s

/-- RPRQ_RECEIVE (R80): every requested slot this unit holds is sent. -/
def State.rprqTake (s : State) (body : Bytes) : State :=
  if s.repairOn then
    s.fold (List.range (body.length / 12)) (fun s i =>
      let k := slotKey (leAt body (12 * i) 2) (leAt body (12 * i + 2) 2) (leAt body (12 * i + 4) 8)
      match s.slotMark k with
      | some r => if r.placed then (s.castSend 8 r.raw).inc (R.AL_CNT 10) else s
      | none => s)
  else s

end Sys2Proof.Machine
end

