-- ==== Sys2Proof/Machine/Time.lean ====
section
/-! DEFINITION. Tirran: the time quality code (R244), steps and the time epoch (R249 to R254), the SC epoch (R255,
R256), trigger comparators (R260, R261) and capture units (R262). -/

namespace Sys2Proof.Machine

/-! ## References as the timebase sees them (Table 10-1) -/

/-- Types of reference slots. -/
inductive RefType where
  | f | p | n | l
  deriving DecidableEq, Repr

/-- The type of slot r. -/
def refType (r : Nat) : RefType := if r < 2 then .f else if r < 4 then .p else if r < 6 then .n else .l

/-- The selected slot; none in free run. -/
def State.refSel (s : State) : Option Nat := if s.rd R.REF_STATUS_sel < 8 then some (s.rd R.REF_STATUS_sel) else none

/-- REF_STATr.state: 0 = DISABLED; 1 = LATCHED; 2 = INVALID; 3 = QUALIFYING; 4 = QUALIFIED; 5 = SUSPECT. -/
def State.refState (s : State) (r : Nat) : Nat := s.rd (R.REF_STAT_state r)

/-- Table 10-4. -/
def State.quality (s : State) : Nat :=
  if !s.on R.TB_STATUS_set && !s.on R.TB_STATUS_lost then 5
  else
    match s.refSel with
    | none => 4
    | some r =>
      if s.on R.REF_STATUS_xo_lost || s.on R.TB_STATUS_lost then 4
      else if s.on R.REF_STATUS_slewing || !s.on R.REF_STATUS_locked then 2
      else if refType r = .n then 3
      else if s.refState r = 5 || (List.range 8).any (fun q => s.on (R.REF_CFG_en q) &&
          decide (s.rd (R.REF_CFG_pri q) < s.rd (R.REF_CFG_pri r))) then 1
      else 0

/-- The time quality code follows Table 10-4; a change fires E088 and makes a TIM report due (R177, R311). -/
def State.setQuality (s : State) : State :=
  let q := s.quality
  if s.rd R.REF_STATUS_tq = q then s
  else { ((s.wr R.REF_STATUS_tq q).fire 88) with ot := { s.ot with timDue := true } }

/-! ## The trim (R248, R253) -/

/-- INC for a trim r in units of 10^-12, to the nearest 2^-48 ns. -/
def incOf (r : Rat) : Nat := ((0x1400000000000 * (10 ^ 12 + r) * 2 + 10 ^ 12) / (2 * 10 ^ 12)).floor.toNat

/-- Gives the trim a value. -/
def State.setTrim (s : State) (r : Rat) : State :=
  (s.wq R.TB_INC (incOf r)).wr R.TB_STATUS_trim_act (if r = 0 then 0 else 1)

/-- r = clamp(−φ / τ, −r_max, r_max) in units of 10^-12 for an offset in ps. (DEDUCED: log entry 119.) -/
def State.trimFor (s : State) (phi : Int) : Rat :=
  let m : Rat := (s.rd R.TB_TRIM_max : Nat)
  max (-m) (min m ((-phi : Int) / (s.rd R.TB_TRIM_tau_s : Nat)))

/-- What slot r's monitor holds. -/
def State.refSlot (s : State) (r : Nat) : RefSlot := smapGet default s.rf.slot r

/-- The last time offset of a slot in ps. -/
def State.refOffset (s : State) (r : Nat) : Int := (s.refSlot r).off

/-! ## Comparators (R260, R261) -/

/-- Target and period of comparator k in units of 10 ps. -/
def State.trgTarget (s : State) (k : Nat) : Nat :=
  (s.rq (R.TB_TRGS k) * 1000000000 + s.rd (R.TB_TRGNS_ns k)) * 100 + s.rd (R.TB_TRGFR_fr k)
def State.trgPeriod (s : State) (k : Nat) : Nat :=
  (s.rd (R.TB_TRGPERS_s k) * 1000000000 + s.rd (R.TB_TRGPERNS_ns k)) * 100

/-- Moves comparator k's target. -/
def State.setTarget (s : State) (k x : Nat) : State :=
  ((s.wq (R.TB_TRGS k) (x / 100000000000)).wr (R.TB_TRGNS_ns k) (x / 100 % 1000000000)).wr (R.TB_TRGFR_fr k) (x % 100)

/-- The counter has reached an instant in units of 10 ps. -/
def State.past (s : State) (x : Nat) : Bool := decide (x * 2 ^ 48 ≤ s.tb.t * 100)

/-- Names of the output pins of R260. -/
def outPin (o : Nat) : String := ["SYNC_OUT0", "SYNC_OUT1", "SYNC_OUT2", "SYNC_OUT3", "PPS_OUT"].getD o "PPS_OUT"

/-- Output pin o carries the OR of the pulses routed to it. -/
def State.outHigh (s : State) (o : Nat) : Bool := s.tb.pulse.any (fun k => (s.rd (R.TB_TRGCTL_out k)).testBit o)

/-- The set of pulses that are on changes; the pins that change are driven. -/
def State.setPulses (s : State) (l : List Nat) : State :=
  let s' := { s with tb := { s.tb with pulse := l } }
  s'.fold (List.range 5) (fun x o =>
    if s.outHigh o = s'.outHigh o then x else x.emit (.pin (outPin o) (s'.outHigh o != s.on (R.TB_OUTDLY_inv o))))

/-- COMPARATOR_FIRE: the pulse, the event, fired and late, and the next target. -/
def State.trgFire (s : State) (k : Nat) (late : Bool) : State :=
  let s := (s.setPulses (s.tb.pulse.filter (· ≠ k) ++ [k])).fire k
  let s := s.flag (R.TB_TRGCTL_fired k)
  let s := s.when late (fun s => ((s.flag (R.TB_TRGCTL_late k)).inc (R.TB_CNT 2)).fire 189)
  if s.on (R.TB_TRGCTL_periodic k) then s.setTarget k (s.trgTarget k + s.trgPeriod k) else s.wr (R.TB_TRGCTL_arm k) 0

/-- The target of comparator k has come or lies within 1 µs (R260). -/
def State.dueSoon (s : State) (k : Nat) : Bool := decide (s.trgTarget k * nsUnit ≤ s.tb.t * 100 + 100000 * nsUnit)

/-- COMPARATOR_ARM: refused with period 0 when periodic; at once and late when the target is at most 1 µs ahead. -/
def State.trgArm (s : State) (k : Nat) : State :=
  if s.on (R.TB_TRGCTL_periodic k) && s.trgPeriod k = 0 then s.wr (R.TB_TRGCTL_arm k) 0
  else
    let s := { (s.wr (R.TB_TRGCTL_arm k) 1) with tb := { s.tb with trgFirst := smapSet 0 s.tb.trgFirst k (s.trgTarget k) } }
    if s.dueSoon k then s.trgFire k true else s

/-- What a step does to an armed comparator (R261). `fwd`: the counter moved forward. (DEDUCED: log entry 117.) -/
def State.trgStep (s : State) (k : Nat) (fwd : Bool) : State :=
  if !s.on (R.TB_TRGCTL_arm k) then s
  else if s.on (R.TB_TRGCTL_periodic k) && s.on (R.TB_TRGCTL_align k) then
    let first := smapGet 0 s.tb.trgFirst k
    let per := s.trgPeriod k
    let now := s.tb.t * 100 / 2 ^ 48
    let next := if now < first ∨ per = 0 then first else first + ((now - first) / per + 1) * per
    let old := s.trgTarget k
    let s := s.incBy (R.TB_TRGSKIP k) (if old < next ∧ per ≠ 0 then (next - old) / per else 0)
    s.setTarget k next
  else if fwd && s.past (s.trgTarget k) then s.trgFire k true
  else s

/-! ## Capture units (R262) -/

/-- A stamp joins the queue of unit k. `fine`: the TDC's 20 ps steps beyond the counter. -/
def State.stamp (s : State) (k fine : Nat) (rise : Bool) : State :=
  let q := smapGet [] s.tb.capQ k
  if 16 ≤ q.length then ((s.flag (R.TB_CAPSTAT_ovf k)).inc (R.TB_CNT 3)).fire 188
  else
    let x := s.tb.t * 50 / nsUnit + fine
    let st : CapStamp := ⟨x / 50000000000, x / 50 % 1000000000, x % 50 * 20, s.rd R.TB_STATUS_epoch, rise⟩
    let s := { s with tb := { s.tb with capQ := smapSet [] s.tb.capQ k (q ++ [st]) } }
    s.wr (R.TB_CAPSTAT_fill k) (q.length + 1)

/-- CAPTURE_EDGE: an edge on an EVIO pin reaches every unit that selects it. -/
def State.captureEdge (s : State) (pin fine : Nat) (rise : Bool) : State :=
  s.fold (List.range 16) (fun s k =>
    let e := s.rd (R.TB_CAPCTL_edge k)
    if !s.on (R.TB_CAPCTL_src k) && s.rd (R.TB_CAPCTL_pin k) = pin && (if rise then e.testBit 0 else e.testBit 1) then
      s.stamp k fine rise else s)

/-- A capture unit's task input (Table 15-2). -/
def State.captureTask (s : State) (k fine : Nat) : State := if s.on (R.TB_CAPCTL_src k) then s.stamp k fine true else s

/-- CAPTURE_STAMP_READ: the read of TB_CAPSk_LO takes the oldest stamp and latches its fields; an empty unit keeps them. (DEDUCED: log entry 118.) -/
def State.stampRead (s : State) (k : Nat) : State :=
  match smapGet [] s.tb.capQ k with
  | [] => s
  | x :: r =>
    let s := { s with tb := { s.tb with capQ := smapSet [] s.tb.capQ k r } }
    let s := (s.wq (R.TB_CAPS k) x.s).wr (R.TB_CAPNS_ns k) x.ns
    let s := ((s.wr (R.TB_CAPX_epoch k) x.ep).wr (R.TB_CAPX_edge k) (if x.rise then 0 else 1)).wr (R.TB_CAPX_ps k) x.ps
    s.wr (R.TB_CAPSTAT_fill k) r.length

/-! ## The SC epoch (R255, R256) -/

/-- The time epoch increments: E089 fires and a TIM report is due. -/
def State.nextEpoch (s : State) : State :=
  { ((s.wr R.TB_STATUS_epoch (s.rd R.TB_STATUS_epoch + 1)).fire 89) with ot := { s.ot with timDue := true } }

/-- A mapping is in force: the registers at 0x00A0 to 0x00BC show it. -/
def State.showEpoch (s : State) (m : ScMap) : State :=
  let s := { s with tb := { s.tb with epoch := m } }
  let t := m.tE.toNat
  (((s.wq R.TB_SCEF_SC m.sE).wq R.TB_SCEF_TS (t / 1000000000)).wr R.TB_SCEF_TNS_v (t % 1000000000)).wq R.TB_SCEF_PER m.p

/-- The mapping that a commit brings, numbered by the present time epoch, is in force and valid. -/
def State.takeEpoch (s : State) (m : ScMap) : State :=
  (((s.showEpoch { m with ep := s.rd R.TB_STATUS_epoch }).wr R.TB_STATUS_sce_valid 1).wr R.TB_SCECTL_result 2)

/-- A commit with no valid SC epoch applies at once (R255): it governs every round not yet begun, and of the rounds that have
begun, that of H among them, those that no SC epoch governs. -/
def State.epochNow (s : State) (m : ScMap) : State :=
  let s := s.placeAll
  let h := max s.nextRound (s.hRound + 1)
  let s := (s.nextEpoch).takeEpoch m
  let m' := s.tb.epoch
  let old := if s.tb.maps.isEmpty then [(0, none)] else s.tb.maps
  let maps := ((old.filter (fun p => p.1 < h)).map (fun p => (p.1, some (p.2.getD m')))) ++ [(h, some m')]
  ({ s with tb := { s.tb with maps := maps } }).moveHorizon.passBoundaries

/-- A commit bound to boundary n applies: it governs round n and every later round. -/
def State.epochAt (s : State) (n : Nat) (m : ScMap) : State :=
  let s := (s.takeEpoch m).wr R.TB_STATUS_sce_pend 0
  let maps := (s.tb.maps.filter (fun p => p.1 < n)) ++ [(n, some s.tb.epoch)]
  { s with tb := { s.tb with maps := maps, sce := none } }

/-- The values a commit takes, or its lowest refusal (R256). (DESIGN CHOICE: log entry 173: a TB_SCETNS of
1,000,000,000 or more is taken, its excess carried into seconds.) -/
def State.epochCommit (s : State) : State :=
  let port := (s.ulp (s.rd R.TB_SCECTL_port)).tim
  let src := s.on R.TB_SCECTL_src
  let p := s.rq R.TB_SCEPER
  let m : ScMap := if src then ⟨port.sc, (port.epS : Int) * 1000000000 + port.epNs, p, 0⟩
    else ⟨s.rq R.TB_SCESC, ((s.rq R.TB_SCETS * 1000000000 + s.rd R.TB_SCETNS_ns : Nat) : Int), p, 0⟩
  let bnd := s.bindTo (s.on R.TB_SCECTL_tgt) (s.rq R.TB_SCETGT)
  let valid := s.sceValid
  let r := if p = 0 then some 3 else if src && !port.tflags.testBit 0 then some 4 else if s.tb.sce.isSome then some 5
    else if bnd.isNone then some 6 else none
  match r with
  | some x => s.wr R.TB_SCECTL_result x
  | none =>
    if valid then
      let n := bnd.getD 0
      let s := { s with tb := { s.tb with sce := some (n, m) } }
      ((s.wr R.TB_SCECTL_result 1).wr R.TB_STATUS_sce_pend 1).wq R.TB_SCEBND n
    else s.epochNow m

/-- SC_EPOCH_INVALIDATE: sce_valid clears at once; rounds not yet begun are governed by no SC epoch. -/
def State.epochInvalidate (s : State) : State :=
  if s.sceValid then
    let n := s.nextRound
    let maps : List (Nat × Option ScMap) := s.tb.maps.filter (fun p => p.1 < n) ++ [(n, none)]
    let s := { (s.placeAll) with tb := { s.placeAll.tb with maps := maps } }
    (s.wr R.TB_STATUS_sce_valid 0).moveHorizon
  else s

/-! ## Steps (R249 to R254) -/

/-- The counter as seconds would stand after a step of mode 0 or 1, in whole ns. -/
def State.stepReason (s : State) (mode : Nat) (add sec : Int) (bnd : Option Nat) : Option Nat :=
  let neg := if mode < 2 then decide ((s.nowNs : Int) + add < 0) else decide (sec < 0)
  let isP : Bool := match s.refSel with
    | some r => refType r = .p
    | none => false
  let timed : Bool := match s.refSel with
    | some r => refType r != .f
    | none => false
  if neg then some 3
  else if s.tb.step.isSome then some 4
  else if bnd.isNone then some 5
  else if (mode = 1 && !timed) || (mode = 3 && (s.sceValid || !isP)) then some 6
  else none

/-- Rounds an offset in ps to whole ns, to nearest. -/
def psToNs (x : Int) : Int := (2 * x + 1000) / 2000

/-- TIME_STEP_REQUEST (R254). -/
def State.stepRequest (s : State) : State :=
  let mode := s.rd R.TB_STEPCTL_mode
  let sec := toSigned 64 (s.rq R.TB_STEPS)
  let ns := s.rd R.TB_STEPNS_ns
  let add : Int := match mode, s.refSel with
    | 0, _ => sec * 1000000000 + ns
    | 1, some r => -(psToNs (s.refOffset r))
    | _, _ => 0
  let bnd := s.bindTo (s.on R.TB_STEPCTL_tgt) (s.rq R.TB_STEPTGT)
  match s.stepReason mode add sec bnd with
  | some x => s.wr R.TB_STEPCTL_result x
  | none =>
    let b := if s.sceValid then bnd else none
    let st : TimeStep := ⟨b, mode, add, sec.toNat, ns⟩
    let s := { s with tb := { s.tb with step := some st } }
    ((s.wr R.TB_STEPCTL_result 1).wr R.TB_STATUS_step_pend 1).wq R.TB_STEPBND (b.getD 0)

/-- The time that a step leaves in the counter. -/
def State.steppedTo (s : State) (st : TimeStep) : Int :=
  if st.mode < 2 ∨ st.mode = 4 then (s.tb.t : Int) + st.add * (nsUnit : Nat)
  else ((st.s * 1000000000 + (if st.mode = 2 then st.ns else 0)) * nsUnit : Nat)

/-- With TB_SCECTL.follow, t_e moves with a step of `ns`, for the rounds from n onward. -/
def State.epochFollows (s : State) (n : Nat) (ns : Int) : State :=
  if s.on R.TB_SCECTL_follow && s.sceValid then
    let m : ScMap := { s.tb.epoch with tE := s.tb.epoch.tE + ns, ep := s.rd R.TB_STATUS_epoch }
    let s := s.showEpoch m
    { s with tb := { s.tb with maps := (s.tb.maps.filter (fun p => p.1 < n)) ++ [(n, some m)] } }
  else s

/-- An SC epoch bound to the same boundary as a step takes effect with it. -/
def State.epochWith (s : State) (bnd : Option Nat) : State :=
  match s.tb.sce with
  | some (b, m) => if bnd = some b then s.epochAt b m else s
  | none => s

/-- The selected reference's offset lies within the threshold after a step of `ns`. -/
def State.discEnds (s : State) (r : Nat) (ns : Int) : Bool :=
  s.on R.TB_STATUS_disc && decide ((s.refOffset r + ns * 1000).natAbs ≤ s.rd R.TB_STEPTHR_thr_us * 1000000)

/-- A step within the threshold of the selected reference's offset ends TB_STATUS.disc. -/
def State.discSettles (s : State) (ns : Int) : State :=
  match s.refSel with
  | some r => if s.discEnds r ns then s.wr R.TB_STATUS_disc 0 else s
  | none => s

/-- Instants of the counter that the DPLL keeps move with a step, and so does its zero. -/
def State.loopStepped (s : State) (d : Int) : State :=
  let mv (t : Nat) : Nat := ((t : Int) + d).toNat
  { s with rf := { s.rf with
      slewAt := mv s.rf.slewAt, zeroAt := mv s.rf.zeroAt, zero := s.rf.zero + d * 1000 / (nsUnit : Nat)
      ys := s.rf.ys.map (fun p => (((p.1 : Int) + d / (nsUnit : Nat)).toNat, p.2)) } }

/-- What a step does to the counter, the epochs, disc and the comparators (R251). -/
def State.stepCounter (s : State) (st : TimeStep) : State :=
  let t' : Int := s.steppedTo st
  let d : Int := t' - s.tb.t
  let dNs : Int := d / (nsUnit : Nat)
  let s := State.loopStepped { s with tb := { s.tb with t := t'.toNat, t2 := t'.toNat, step := none } } d
  let s := (s.nextEpoch).inc (R.TB_CNT 0)
  let s := ((s.flag R.TB_STATUS_step_ev).wr R.TB_STATUS_step_pend 0).wr R.TB_STEPCTL_result 2
  let s := ((s.epochFollows (st.bnd.getD s.nextRound) dNs).epochWith st.bnd)
  let s := if s.on R.TB_STATUS_set || s.on R.TB_STATUS_lost || 2 ≤ st.mode then
      (s.wr R.TB_STATUS_set 1).wr R.TB_STATUS_lost 0 else s
  let s := s.discSettles dNs
  s.fold (List.range 16) (fun s k => s.trgStep k (decide (0 < d)))

/-- A step at its application instant: after the packets that came before it, before the boundaries that it passes. -/
def State.stepNow (s : State) (st : TimeStep) : State :=
  ((s.placeAll.stepCounter st).setQuality.moveHorizon).passBoundaries

/-- TIME_STEP_APPLY: the pending step's instant has come; mode 3 waits for the edge of its reference. -/
def State.stepApply (s : State) : State :=
  match s.tb.step with
  | some st =>
    if st.mode = 3 then s
    else
      match st.bnd with
      | none => s.stepNow st
      | some n => if s.reached n then (s.boundariesTo n).stepNow st else s
  | none => s

/-- SC_EPOCH_APPLY: the bound commit's boundary is reached; a step bound to the same boundary applies first, and the commit with
it (R251). -/
def State.epochApply (s : State) : State :=
  match s.tb.sce with
  | some (n, m) =>
    if s.reached n then
      let s := s.placeAll.boundariesTo n
      match s.tb.step with
      | some st => if st.bnd = some n then s.stepNow st else (((s.nextEpoch).epochAt n m).moveHorizon).passBoundaries
      | none => (((s.nextEpoch).epochAt n m).moveHorizon).passBoundaries
    else s
  | none => s

/-- AUTOMATIC_STEP (R250): the counter goes to the reference's time, at its application instant; mode 4 marks it. -/
def State.autoStep (s : State) (r : Nat) : State :=
  if s.tb.step.isSome then s
  else
    let b := if s.sceValid then some s.nextRound else none
    let st : TimeStep := ⟨b, 4, -(psToNs (s.refOffset r)), 0, 0⟩
    let s := { s with tb := { s.tb with step := some st } }
    let s := (s.wr R.TB_STATUS_step_pend 1).wq R.TB_STEPBND (b.getD 0)
    if b.isNone then s.stepNow st else s

/-- One tick of the timebase clock (R246): both copies advance by INC. (DEDUCED: log entry 122.) -/
def State.tickClock (s : State) : State :=
  let i := s.rq R.TB_INC
  let t := s.tb.t + i
  let s' := { s with tb := { s.tb with t := t, t2 := s.tb.t2 + i } }
  s'.when (s.taiS != t / nsUnit / 1000000000) (·.fire 91)

/-- TAI_SECOND_ROLLOVER: the ticks up to the one that passes the next whole second elapse. (DESIGN CHOICE: log entry 120.) -/
def State.toNextSecond (s : State) : State :=
  let i := max 1 (s.rq R.TB_INC)
  let goal := (s.taiS + 1) * 1000000000 * nsUnit
  let k := ceilDiv (goal - s.tb.t) i
  ({ s with tb := { s.tb with t := s.tb.t + k * i, t2 := s.tb.t2 + k * i } }).fire 91

/-- The ticks up to the first that reaches an instant elapse. -/
def State.elapseTo (s : State) (goal : Nat) : State :=
  let i := max 1 (s.rq R.TB_INC)
  let k := ceilDiv (goal - s.tb.t) i
  let s' := { s with tb := { s.tb with t := s.tb.t + k * i, t2 := s.tb.t2 + k * i } }
  s'.when (s.taiS != s'.taiS) (·.fire 91)

/-- COMPARATOR_FIRE as a command: the ticks up to the target of an armed comparator elapse, and it fires (R260). -/
def State.trgReach (s : State) (k : Nat) : State :=
  if s.on (R.TB_TRGCTL_arm k) then
    let s' := if s.past (s.trgTarget k) then s else s.elapseTo (ceilDiv (s.trgTarget k * 2 ^ 48) 100)
    s'.trgFire k false
  else s

/-- TRIGGER_PULSE_END: TB_TRGWID_k after it began, the pulse of comparator k ends. -/
def State.trgPulseEnd (s : State) (k : Nat) : State := s.setPulses (s.tb.pulse.filter (· ≠ k))

/-- The counter goes LOST (Table 11-1). -/
def State.timeLost (s : State) : State :=
  if s.on R.TB_STATUS_set then ((s.wr R.TB_STATUS_set 0).wr R.TB_STATUS_lost 1).setQuality else s

/-- An event of Table 8-4 that leads to ENDGAME: resign, the timebase declared lost, Endgame cause 3. -/
def State.fatalFault (s : State) : State :=
  if s.rd R.IG_STATUS_hstate = 4 then s
  else
    let s := s.resignFault.toUnsync
    ((s.timeLost).setHstate 3).setCause 3 true

/-- The copies of the counter disagree (R247). -/
def State.raiseCounter (s : State) : State :=
  (((s.flag R.TB_STATUS_cnt_err).inc (R.TB_CNT 4)).health 8 0 3 0 s.curRound).fatalFault

/-- The comparison of the two copies after a tick: a disagreement that is not reported yet is raised. (DEDUCED: log entry 189.) -/
def State.compareCopies (s : State) : State :=
  s.when (s.tb.t ≠ s.tb.t2 && !s.on R.TB_STATUS_cnt_err) State.raiseCounter

/-- COUNTER_DISAGREE (R247): the copies differ by `delta` units. -/
def State.counterDisagree (s : State) (delta : Int) : State :=
  let s := { s with tb := { s.tb with t2 := ((s.tb.t : Int) + delta).toNat } }
  s.when (s.tb.t ≠ s.tb.t2) State.raiseCounter

end Sys2Proof.Machine
end

