-- ==== Sys2Proof/Machine/Refs.lean ====
section
/-! DEFINITION. Reference selection: monitors and disqualification (R229 to R234), selection and switching (R235 to R239),
XO_IN (R240), cross-comparison (R241 to R243) and what offset samples do to the counter (R250, R252, R253). -/

namespace Sys2Proof.Machine

/-! ## The slots -/

def State.setRefSlot (s : State) (r : Nat) (x : RefSlot) : State :=
  { s with rf := { s.rf with slot := smapSet default s.rf.slot r x } }

/-- A reference may be selected (R234). -/
def State.selectable (s : State) (r : Nat) : Bool := s.refState r = 4 || s.refState r = 5

/-- The automatic rule of R235: the highest priority, then the lowest slot. -/
def State.bestRef (s : State) : Option Nat :=
  let c := (List.range 8).filter s.selectable
  c.find? (fun r => c.all (fun q => decide (s.rd (R.REF_CFG_pri r) ≤ s.rd (R.REF_CFG_pri q))))

/-! ## The DCO's offset y (R226, R236, R238, R239), in units of 10^-18 -/

/-- x limited to ±lim. -/
def clampTo (lim x : Int) : Int := max (-lim) (min lim x)

/-- y lies within ±200 ppm (R226). -/
def limitY (y : Int) : Int := clampTo (200 * 10 ^ 12) y

/-- How far y may have moved since the slew began: REF_SLEW.rate times the time passed (R238). -/
def State.slewRoom (s : State) : Int :=
  ((s.rd R.REF_SLEW_rate * 1000000 * (s.tb.t - s.rf.slewAt) / (1000000000 * nsUnit) : Nat) : Int)

/-- The present y: REF_DCO, moved toward the goal while a slew runs. -/
def State.yNow (s : State) : Int :=
  let y := toSigned 64 (s.rq R.REF_DCO)
  if s.on R.REF_STATUS_slewing then y + clampTo s.slewRoom (s.rf.goal - y) else y

/-- REF_DCO takes a value, and no slew runs. -/
def State.holdY (s : State) (y : Int) : State := (s.wq R.REF_DCO (ofSigned 64 y)).wr R.REF_STATUS_slewing 0

/-- A slew from the present y toward `goal` begins (R238). -/
def State.startSlew (s : State) (goal : Int) : State :=
  let s := s.holdY s.yNow
  { (s.wr R.REF_STATUS_slewing 1) with rf := { s.rf with slewAt := s.tb.t, goal := goal } }

/-- y after a normal event of the selected reference joins those of the last second. -/
def State.keepY (s : State) : State :=
  { s with rf := { s.rf with ys := (s.nowNs, s.yNow) :: s.rf.ys.filter (fun p => decide (s.nowNs < p.1 + 1000000000)) } }

/-- The mean of y over the last second of normal events (R236); the present y while a slew runs, or without such an event. (DESIGN
CHOICE: log entry 111.) -/
def State.meanY (s : State) : Int :=
  let l := (s.rf.ys.filter (fun p => decide (s.nowNs < p.1 + 1000000000))).map Prod.snd
  if s.on R.REF_STATUS_slewing || l.isEmpty then s.yNow else l.sum / (l.length : Int)

/-- The loop filter acts on an event of slot r with a time offset in ps. (DESIGN CHOICE: log entry 111.) -/
def State.loopMove (s : State) (r : Nat) (err : Int) : State :=
  let q := Config.loopFilter (s.rd (R.REF_BW_bw r)) s.rf.integ s.yNow err
  let s := s.wq R.REF_DCO (ofSigned 64 (limitY q.1))
  { s with rf := { s.rf with integ := q.2 } }

/-- The DPLL is no longer locked (R227). -/
def State.unlock (s : State) : State := (s.wr R.REF_STATUS_locked 0).setQuality

/-! ## Master discontinuity and trim (R252, R253) -/

/-- MASTER_DISCONTINUITY: the samples are masked, the trim is 0 and the DPLL is not locked until it clears. -/
def State.discBegin (s : State) : State :=
  if s.on R.TB_STATUS_disc then s
  else
    let s := ((s.wr R.TB_STATUS_disc 1).flag R.TB_STATUS_disc_ev).inc (R.TB_CNT 1)
    (s.setTrim 0).unlock

/-- The step threshold in ps. -/
def State.stepThr (s : State) : Nat := s.rd R.TB_STEPTHR_thr_us * 1000000

/-- An offset in ps stands beyond the step threshold on the selected type N or L reference, with the counter SET. -/
def State.isDisc (s : State) (r : Nat) (phi : Int) : Bool :=
  s.refSel = some r && (refType r = .n || refType r = .l) && s.on R.TB_STATUS_set && decide (s.stepThr < phi.natAbs)

/-- What the trim has moved the counter by, in ps, since the DPLL's zero was last brought up to date. -/
def State.trimmed (s : State) : Int :=
  let inc : Int := s.rq R.TB_INC
  ((s.tb.t - s.rf.zeroAt : Nat) : Int) * (inc - 0x1400000000000) * 1000 / (inc * (nsUnit : Nat))

/-- The DPLL's zero follows the trim, so that the trim moves neither y nor the lock (R253). (DEDUCED: log entry 190.) -/
def State.moveZero (s : State) : State :=
  { s with rf := { s.rf with zero := s.rf.zero + s.trimmed, zeroAt := s.tb.t } }

/-- What a normal offset sample of slot r does: it is reported, and on the selected slot it begins or ends a
discontinuity, is held to the lock limit (R227) and sets the trim. -/
def State.offsetSample (s : State) (r : Nat) (phi : Int) : State :=
  let s := (s.wq (R.REF_POFF r) (ofSigned 64 phi)).setRefSlot r { s.refSlot r with off := phi }
  if s.refSel != some r then s
  else if s.isDisc r phi then s.discBegin
  else
    let s := s.when (s.on R.TB_STATUS_disc) (·.wr R.TB_STATUS_disc 0)
    let s := { s with rf := { s.rf with phase := phi - s.rf.zero } }
    let s := s.when (s.on R.REF_STATUS_locked && decide (s.rd R.REF_SLEW_lock_ns * 1000 ≤ s.rf.phase.natAbs)) State.unlock
    if s.on R.REF_STATUS_locked then s.setTrim (s.trimFor phi) else s

/-! ## Switching (R235 to R239) -/

/-- The selection changes. -/
def State.noteSwitch (s : State) : State := ((s.flag R.REF_STATUS_switch_ev).inc (R.REF_CNT 0)).fire 90

/-- REFERENCE_SWITCH to slot r (R238): the counter is not stepped; the DPLL takes the offset of r as its zero and y slews to
the rate of r. -/
def State.switchTo (s : State) (r : Nat) : State :=
  if s.refSel = some r then s
  else
    let s := ((s.wr R.REF_STATUS_sel r).wr R.REF_STATUS_freerun 0).noteSwitch
    let s := ((s.startSlew (limitY (Config.refRate s.fresh))).tick).wr R.REF_STATUS_locked 0
    let s := { s with rf := { s.rf with zero := s.refOffset r, zeroAt := s.tb.t, phase := 0, freq := 0, ys := [] } }
    let s := (s.wr R.TB_STATUS_disc 0).when (refType r = .f) (·.setTrim 0)
    let s := if s.isDisc r (s.refOffset r) then s.discBegin else s
    s.setQuality

/-- The offset that free run goes to (R239). -/
def State.freeGoal (s : State) : Int := if s.on R.REF_CTL_hold then s.rf.held else 0

/-- In free run y slews to its goal, unless it stands there (R239). -/
def State.freeSlew (s : State) : State := if s.yNow = s.freeGoal then s.holdY s.yNow else s.startSlew s.freeGoal

/-- Free run (R239). -/
def State.freeRun (s : State) : State :=
  let was := s.refSel.isSome
  let s := (s.wr R.REF_STATUS_sel 15).wr R.REF_STATUS_freerun 1
  let s := s.when was (·.noteSwitch)
  let s := (s.wr R.REF_STATUS_locked 0).freeSlew
  ((s.wr R.TB_STATUS_disc 0).setTrim 0).setQuality

/-- The selected reference stopped being selectable (R236): y holds the mean of the last second and the next is selected. -/
def State.fallBack (s : State) : State :=
  let y := s.meanY
  let s := if s.on R.REF_STATUS_slewing then s else s.holdY y
  let s := { s with rf := { s.rf with held := y } }
  match s.bestRef with
  | some r => s.switchTo r
  | none => s.freeRun

/-- MANUAL_SELECT: slot r is selected, or the write is refused because r is not selectable (R235). -/
def State.manualSelect (s : State) (r : Nat) : State :=
  if s.selectable r then ((s.wr R.REF_CTL_manual 1).wr R.REF_CTL_msel r).switchTo r else s.flag R.REF_STATUS_cmd_err

/-- The automatic step that Table 11-1 gives a counter UNSET or LOST when the selected type N or L reference reaches
QUALIFIED (R250). -/
def State.stepOnQualified (s : State) (r : Nat) : State :=
  if s.refSel = some r && (refType r = .n || refType r = .l) && s.on R.TB_CTL_auto_step && !s.on R.TB_STATUS_set
      && !s.on R.REF_STATUS_xo_lost then s.autoStep r else s

/-! ## The selector's windows (R245) -/

/-- The order of an event in its window: its class, and the slot within it. -/
def SelEvent.order : SelEvent → Nat × Nat
  | .disqualify r _ => (0, r)
  | .qualify r => (1, r)
  | .trust r => (1, r)
  | .enable r => (2, r)
  | .disable r => (2, r)
  | .clear r => (2, r)
  | .select _ m => (2, m)

/-- The events of a window in the order in which they are applied. -/
def selOrder (l : List SelEvent) : List SelEvent :=
  (List.range 3).flatMap (fun c => (List.range 16).flatMap (fun r => l.filter (fun e => e.order = (c, r))))

/-- The selection is judged anew after slots ceased to be selectable: once, from those that remain. -/
def State.reselect (s : State) : State :=
  match s.refSel with
  | some r => if s.selectable r then s.setQuality else s.fallBack
  | none => s.setQuality

/-- What an event of a window does to its slot and the selection (Table 10-3); the selection after disqualifications is judged
when all of the window are done. -/
def State.applySel (s : State) : SelEvent → State
  | .disqualify r reason =>
    let latched := reason = 2 ∨ reason = 3
    if s.selectable r then
      let s := (s.wr (R.REF_STAT_reason r) reason).inc (R.REF_DISQ r)
      let s := s.wr (R.REF_STAT_state r) (if latched then 1 else 2)
      s.when latched (·.health 9 r 1 reason s.curRound)
    else s
  | .qualify r =>
    if s.refState r ≠ 3 || s.on R.REF_STATUS_xo_lost then s
    else
      let s := (s.wr (R.REF_STAT_state r) 4).setRefSlot r { s.refSlot r with age := 0 }
      let s := if s.refSel.isNone then
          match s.bestRef with
          | some b => s.switchTo b
          | none => s
        else s.setQuality
      s.stepOnQualified r
  | .trust r => if s.refState r = 5 then ((s.wr (R.REF_STAT_state r) 4).setQuality).stepOnQualified r else s
  | .enable r =>
    if s.refState r = 0 then
      (((s.wr (R.REF_STAT_state r) 2).wr (R.REF_STAT_streak r) 0).setRefSlot r default).setQuality
    else s
  | .disable r => ((s.wr (R.REF_STAT_state r) 0).setRefSlot r default).reselect
  | .clear r => if s.refState r = 1 then s.wr (R.REF_STAT_state r) 2 else s
  | .select true m => s.manualSelect m
  | .select false m => (s.wr R.REF_CTL_manual 0).wr R.REF_CTL_msel m

/-- SELECTOR WINDOW: the events of a window are applied in the order of R245. -/
def State.closeWindow (s : State) : State :=
  let l := selOrder s.rf.events
  let s := { s with rf := { s.rf with events := [] } }
  let s := (s.fold (l.filter (fun e => e.order.1 = 0)) State.applySel).reselect
  s.fold (l.filter (fun e => e.order.1 ≠ 0)) State.applySel

/-- The number of the present window of 1 µs. -/
def State.selWindow (s : State) : Nat := s.nowNs / 1000

/-- The window is over once the counter has left it. (DESIGN CHOICE: log entry 191.) -/
def State.selCheck (s : State) : State := if s.rf.events = [] ∨ s.rf.window = s.selWindow then s else s.closeWindow

/-- An event falls in the present window. -/
def State.noteSel (s : State) (e : SelEvent) : State :=
  let s := s.selCheck
  { s with rf := { s.rf with events := s.rf.events ++ [e], window := s.selWindow } }

/-! ## Monitors -/

/-- DISQUALIFICATION (R231, Table 10-3): a slot in QUALIFYING goes to INVALID; one that may be selected waits for the
selector's window. -/
def State.disqualify (s : State) (r reason : Nat) : State :=
  if s.selectable r then s.noteSel (.disqualify r reason)
  else if s.refState r = 3 then (s.wr (R.REF_STAT_reason r) reason).wr (R.REF_STAT_state r) 2
  else s

/-- A normal event of slot r with a time offset in ps (Table 10-3): the streak ends, INVALID goes to QUALIFYING, and the loop
filter acts while the DPLL is locked (R226). (DEDUCED: log entry 192.) -/
def State.refNormal (s : State) (r : Nat) (err : Int) : State :=
  let s := (s.wr (R.REF_STAT_streak r) 0).when (s.refState r = 2 && !s.on R.REF_STATUS_xo_lost) (·.wr (R.REF_STAT_state r) 3)
  if s.refSel = some r && !s.on R.REF_STATUS_slewing && !s.on R.TB_STATUS_disc then
    (s.when (s.on R.REF_STATUS_locked) (·.loopMove r err)).keepY
  else s

/-- A normal event of slot r that carries an offset sample. -/
def State.timedEvent (s : State) (r : Nat) (phi : Int) : State :=
  let s := s.moveZero
  (s.refNormal r (phi - s.rf.zero)).offsetSample r phi

/-- An anomaly (R230, R231). (DEDUCED: log entry 113.) -/
def State.refAnomaly (s : State) (r : Nat) : State :=
  let k := min 3 (s.rd (R.REF_STAT_streak r) + 1)
  let s := (s.inc (R.REF_ANOM r)).wr (R.REF_STAT_streak r) k
  let s := s.setRefSlot r { s.refSlot r with clean := 0 }
  if s.refState r = 3 then s.wr (R.REF_STAT_state r) 2
  else if k = 3 then s.disqualify r (if 3 ≤ (s.refSlot r).qbad then 5 else 1)
  else s

/-- Nominal periods of Table 10-2 in 20 ps steps: 5, 10 and 100 MHz. -/
def nominal20 (fnom : Nat) : Nat := if fnom = 0 then 10000 else if fnom = 1 then 5000 else 500

/-- An edge of type F slot r, `interval` 20 ps steps after the edge before; its offset is compared modulo one cycle (R227). -/
def State.edgeF (s : State) (r interval : Nat) : State :=
  let x := s.refSlot r
  let n := nominal20 (s.rd (R.REF_CFG_fnom r))
  let s := s.setRefSlot r { x with seen := true }
  if x.seen && decide (4 * interval < 3 * n ∨ 5 * n < 4 * interval) then s.refAnomaly r
  else s.refNormal r (if x.seen then ((interval : Int) - n) * 20 else 0)

/-- An edge of type P slot r: its expected instant is one second after the normal edge before. -/
def State.edgeP (s : State) (r interval fine : Nat) : State :=
  let x := s.refSlot r
  let d := x.since + interval
  let tol := s.rd (R.REF_TOL_tol_ns r) * 50
  let sec := 50000000000
  if x.seen && decide (d + tol < sec ∨ sec + tol < d) then
    (s.setRefSlot r { x with since := if s.refState r = 2 then 0 else d }).refAnomaly r
  else
    let s := s.setRefSlot r { x with seen := true, since := 0 }
    let ps := s.tb.t * 1000 / nsUnit % 1000000000000 + 20 * fine
    s.timedEvent r (if 500000000000 < ps then (ps : Int) - 1000000000000 else ps)

/-- REFERENCE_EDGE (R230): a rising edge of a type F or P slot, `interval` 20 ps steps of the DCO after the edge before,
`fine` 20 ps steps past the counter. A pending step of mode 3 applies at the next rising edge of the selected type P
reference (R254). (DEDUCED: log entry 114.) -/
def State.refEdge (s : State) (r interval fine : Nat) : State :=
  if s.refState r = 0 ∨ 4 ≤ r then s
  else if refType r = .f then s.edgeF r interval
  else
    let mine := s.refSel = some r
    let s := s.edgeP r interval fine
    match s.tb.step with
    | some st => if st.mode = 3 ∧ mine then s.stepNow st else s
    | none => s

/-- REFERENCE_EVENT_TIMEOUT: no event came in the time of Table 10-2. -/
def State.refTimeout (s : State) (r : Nat) : State := if s.refState r = 0 then s else s.refAnomaly r

/-- An offset sample of a type N or L slot (R230): normal, masked as an anomaly, or part of a discontinuity, which ends once
samples lie within the threshold again (R252). `bad`: the packet's quality is 4 or more. (DESIGN CHOICE: log entry 112.) -/
def State.refSample (s : State) (r : Nat) (phi : Int) (bad : Bool) : State :=
  if s.refState r = 0 then s
  else
    let x := s.refSlot r
    let s := s.setRefSlot r { x with qbad := if bad then x.qbad + 1 else 0 }
    let back : Bool := s.on R.TB_STATUS_disc && s.refSel = some r
    let far := !x.hist.isEmpty && !back &&
      decide ((s.rd (R.REF_TOL_tol_ns r) * 1000 : Nat) < (phi - Config.filteredOffset x.hist).natAbs)
    if !bad && s.isDisc r phi then s.offsetSample r phi
    else if bad || far then s.refAnomaly r
    else
      let s := s.setRefSlot r { s.refSlot r with hist := (phi :: if back then [] else x.hist).take 16 }
      s.timedEvent r phi

/-- REFERENCE_QUALIFIED (R234): qual_s has passed with no anomaly. -/
def State.refQualified (s : State) (r : Nat) : State := if s.refState r = 3 then s.noteSel (.qualify r) else s

/-- HARD_WINDOW_GATE (R233): a gate measured the reference's fractional offset from XO_IN, in units of 10^-12; on the selected
reference its distance from y is held to the lock limit (R227). (DEDUCED: log entry 116.) -/
def State.refGate (s : State) (r : Nat) (off : Int) : State :=
  if s.refState r = 0 then s
  else
    let s := s.when (s.refSel = some r) (fun s =>
      let s := { s with rf := { s.rf with freq := off * 1000000 - s.yNow } }
      s.when (s.on R.REF_STATUS_locked && decide (1000000000 ≤ s.rf.freq.natAbs)) State.unlock)
    if s.rd R.REF_XOWIN_win_ppm * 1000000 < off.natAbs then s.disqualify r 2 else s

/-- REVERT_WAIT_EXPIRY (R237): slot r has stayed QUALIFIED for wait_s. -/
def State.refRevert (s : State) (r : Nat) : State :=
  match s.refSel with
  | some q =>
    if s.on R.REF_CTL_revert && s.refState r = 4 && (decide (s.rd (R.REF_CFG_pri r) < s.rd (R.REF_CFG_pri q))
      || (s.on R.REF_CTL_manual && s.rd R.REF_CTL_msel = r)) then s.switchTo r else s
  | none => s

/-- The last offsets of the selected reference lie below the limits of R227. -/
def State.mayLock (s : State) (r : Nat) : Bool :=
  decide (s.rf.freq.natAbs < 1000000000) && (refType r = .f || decide (s.rf.phase.natAbs < s.rd R.REF_SLEW_lock_ns * 1000))

/-- DPLL_LOCK (R227). -/
def State.dpllLock (s : State) : State :=
  match s.refSel with
  | some r =>
    if s.on R.REF_STATUS_slewing || s.on R.TB_STATUS_disc || s.on R.REF_STATUS_xo_lost || !s.mayLock r then s
    else (s.wr R.REF_STATUS_locked 1).setQuality
  | none => s

/-- SLEW_COMPLETE (R238, R239): y has come, at the rate limit, within 10^-11 of the goal; free run holds the goal itself. -/
def State.slewDone (s : State) : State :=
  if s.on R.REF_STATUS_slewing && decide ((s.rf.goal - s.yNow).natAbs < 10000000) then
    (s.holdY (if s.refSel.isSome then s.yNow else s.rf.goal)).setQuality
  else s

/-- REF_CFG_r written, its en before being `was` (Table 10-3); a priority may change the time quality code (R244). -/
def State.refConfigured (s : State) (r : Nat) (was : Bool) : State :=
  let en := s.on (R.REF_CFG_en r)
  let s := if en && !was then s.noteSel (.enable r) else if was && !en then s.noteSel (.disable r) else s
  s.setQuality

/-- REFERENCE_LATCH_CLEAR. -/
def State.refClear (s : State) (mask : Nat) : State :=
  s.fold ((List.range 8).filter (fun r => mask.testBit r)) (fun s r => s.noteSel (.clear r))

/-- A port leaves its up state: its type N (`eth`) or L slots are disqualified for reason 4 (R231). -/
def State.refPortDown (s : State) (eth : Bool) (p : Nat) : State :=
  s.fold (if eth then [4, 5] else [6, 7]) (fun s r =>
    if s.rd (R.REF_CFG_port r) = p && s.refState r != 0 then s.disqualify r 4 else s)

/-! ## Cross-comparison (R241 to R243) -/

/-- The comparison window of slot r in s. -/
def State.cmpWindow (s : State) (r : Nat) : Nat :=
  if refType r = .f ∨ refType r = .p then s.rd R.REF_XCMP_win_s else s.rd R.REF_XCMP2_nl_win_s

/-- Whether slot r's window is the longer of the two kinds. -/
def State.pairDiff (s : State) (short long : List Int) (i j : Nat) : Int :=
  let w := max (s.cmpWindow i) (s.cmpWindow j)
  let l := if w = s.rd R.REF_XCMP_win_s ∧ (w ≠ s.rd R.REF_XCMP2_nl_win_s ∨ i < 4) then short else long
  l.getD i 0 - l.getD j 0

/-- A pair disagrees. -/
def State.disagrees (s : State) (short long : List Int) (i j : Nat) : Bool :=
  let d : Nat := (s.pairDiff short long i j).natAbs
  decide (1000 * s.rd R.REF_XCMP_thr < d)

/-- An outlier is disqualified (R241); a pair disagreed in this second (R243). -/
def State.markOutlier (s : State) (r : Nat) : State :=
  let s := { s with rf := { s.rf with calm := 0 } }
  ((s.flag R.REF_STATUS_drift_ev).inc (R.REF_CNT 1)).disqualify r 3

/-- A second in which no pair disagreed: after a full window of `w` seconds of them the disagreement ends (R243). -/
def State.calmSecond (s : State) (w : Nat) : State :=
  let c := s.rf.calm + 1
  let s := { s with rf := { s.rf with calm := c } }
  if s.on R.REF_STATUS_disagree && Nat.ble w c then
    let s := s.fold ((List.range 8).filter (fun r => s.refState r = 5)) (fun s r => s.noteSel (.trust r))
    s.wr R.REF_STATUS_disagree 0
  else s

/-- One second's measurements are taken in: means are reported and the times in state advance. -/
def State.takeMeans (s : State) (short long : List Int) : State :=
  s.fold (List.range 8) (fun s r =>
    if s.refState r = 0 then s
    else
      let x := s.refSlot r
      let a := if s.selectable r then x.age + 1 else 0
      let s := s.setRefSlot r { x with clean := x.clean + 1, age := a }
      s.wq (R.REF_FOFF r) (ofSigned 64 ((if r < 4 then short else long).getD r 0)))

/-- The participants of R241. -/
def State.participants (s : State) : List Nat :=
  (List.range 8).filter (fun r => s.selectable r && Nat.ble (s.cmpWindow r) (s.refSlot r).age)

/-- The outlier of R241 among the participants. -/
def outlierOf (parts : List Nat) (dis : Nat → Nat → Bool) : Option Nat :=
  parts.find? (fun i =>
    let o := parts.filter (fun j => j != i)
    Nat.ble 2 o.length && o.all (dis i) && o.all (fun a => o.all (fun b => a == b || !dis a b)))

/-- The outlier of two that a tie-breaker tells apart (R243). -/
def tieBreak (bad breakers : List Nat) (dis : Nat → Nat → Bool) : Option Nat :=
  match bad with
  | [i, j] => breakers.findSome? (fun k =>
      if !dis k i && dis k j then some j else if !dis k j && dis k i then some i else none)
  | _ => none

/-- Type N slots that may act as tie-breakers (R243). -/
def State.breakers (s : State) (parts : List Nat) : List Nat :=
  [4, 5].filter (fun r => s.on (R.REF_CFG_en r) && !parts.contains r && Nat.ble (s.cmpWindow r) (s.refSlot r).clean)

/-- A disagreement that no outlier explains (R243). -/
def State.raiseDisagree (s : State) (bad : List Nat) : State :=
  let s := { s with rf := { s.rf with calm := 0 } }
  let s := s.when (!s.on R.REF_STATUS_disagree) (·.inc (R.REF_CNT 2))
  let s := (s.wr R.REF_STATUS_disagree 1).flag R.REF_STATUS_disagree_ev
  (s.fold bad (fun s r => s.wr (R.REF_STAT_state r) 5)).setQuality

/-- CROSS_COMPARISON_UPDATE, every 1 s: each slot's mean fractional frequency against the DCO in units of 10^-15, over
REF_XCMP.win_s (`short`) and over REF_XCMP2.nl_win_s (`long`). -/
def State.crossCompare (s0 : State) (short long : List Int) : State :=
  let s := s0.takeMeans short long
  let parts := s.participants
  let dis := fun i j => s.disagrees short long i j
  let bad := parts.filter (fun i => parts.any (fun j => i != j && dis i j))
  match outlierOf parts dis with
  | some r => s.markOutlier r
  | none =>
    if bad.isEmpty then s.calmSecond (parts.foldl (fun a r => max a (s.cmpWindow r)) (s.rd R.REF_XCMP_win_s))
    else
      match tieBreak bad (s.breakers parts) dis with
      | some r => s.markOutlier r
      | none => s.raiseDisagree bad

/-! ## XO_IN (R240) -/

/-- XO_IN_LOST, but for the ports: every enabled reference is INVALID, no reference is selected, the timebase is lost. -/
def State.xoLost (s : State) : State :=
  if s.on R.REF_STATUS_xo_lost then s
  else
    let s := s.wr R.REF_STATUS_xo_lost 1
    let s := { s with rf := { s.rf with held := s.yNow } }
    let s := s.fold (List.range 8) (fun s r => if s.refState r = 0 then s else s.wr (R.REF_STAT_state r) 2)
    ((s.freeRun).health 8 0 3 0 s.curRound).fatalFault

/-- XO_IN_RETURN: the DPLL restarts in free run. -/
def State.xoReturn (s : State) : State :=
  if s.on R.REF_STATUS_xo_lost then (s.wr R.REF_STATUS_xo_lost 0).freeRun else s

/-- What follows whenever the counter has advanced: its copies are compared and the selector's window may be over. -/
def State.ticked (s : State) : State := s.compareCopies.selCheck

end Sys2Proof.Machine
end

