-- ==== Sys2Proof/Machine/Ulp.lean ====
section
/-! DEFINITION. Uhlain ports: port states (R29, R33, R36, Table 2-4), the receiving side from codewords to accepted
packets (R30 to R51), the transmitting side (R44, R45, R52 to R54, R147) and stream-table commits (R49). -/

namespace Sys2Proof.Machine

/-! ## Ports; CST is port 16 and has CS_PORTCTL and CS_PORTSTAT (R198) -/

/-- A status or control field of a port. -/
def portField (p : Nat) (f : Nat → FRef) (g : FRef) : FRef := if p < 16 then f p else g

/-- Counts an event of a port in a counter of Table 2-11; CST has the first four (CS_CELLCNT). -/
def State.portCount (s : State) (p i : Nat) : State :=
  if p < 16 then s.inc (R.IN_CNT p i) else if i < 4 then s.inc (R.CS_CELLCNT i) else s

/-- The configured lanes as a mask. -/
def State.laneMask (s : State) (p : Nat) : Nat := 2 ^ s.portLanes p - 1

/-- IN_CTL.en or a port changed: IN_STATUS.active. -/
def State.showActive (s : State) : State :=
  s.wr R.IN_STATUS_active (if s.on R.IN_CTL_en && s.on R.IN_STATUS_port_up then 1 else 0)

/-- The credit limit a port advertises (R44). -/
def State.creditLimit (s : State) (p : Nat) : Nat := if s.portUp p then (s.ulp p).rxLimit else 0

/-- seal_sc of Table 2-10: the end of the latest closed granule. -/
def State.sealSc (s : State) : Nat :=
  if s.al.anyClosed then
    let h := s.horizon
    max (h / 256 * 256) (match s.roundOf h with
      | some n => s.roundSc n
      | none => 0)
  else 0

/-- H_d of a port's domain; 0 without a domain. -/
def State.claimSeen (s : State) (p : Nat) : Nat :=
  if p < 16 && s.on (R.IN_PORTCTL_dom_en p) then s.rq (R.IN_DOMCLM (s.rd (R.IN_PORTCTL_dom p))) else 0

/-- The body of a status cell (Table 2-10). (DESIGN CHOICE: log entry 46.) -/
def State.statusBody (s : State) (p : Nat) : Bytes :=
  leBytes 1 (s.rd (portField p R.IN_PORTSTAT_lane_lock R.CS_PORTSTAT_lane_lock)) ++ leBytes 1 (s.rd (portState p))
    ++ leBytes 2 (s.creditLimit p) ++ leBytes 4 (s.ulp p).cwUncorr ++ leBytes 8 (if p < 16 then s.sealSc else 0)
    ++ leBytes 8 (s.claimSeen p) ++ leBytes 8 Config.serial.toNat ++ zeros 220

/-- STATUS_CELL_SEND (R53) on an enabled port. -/
def State.statusSend (s : State) (p : Nat) : State :=
  if s.rd (portState p) = 0 then s else (s.idleFill p).sendCell p 6 (s.statusBody p)

/-- ALIGNMENT_CELL_SEND (R33): one alignment cell on each configured lane. -/
def State.alignSend (s : State) (p : Nat) : State :=
  if s.rd (portState p) = 0 then s
  else
    let l := s.portLanes p
    s.fold (List.range l) (fun s i => s.sendUncounted p i 1 (leBytes 1 i ++ leBytes 1 l ++ leBytes 8 Config.serial.toNat))

/-- The locked lanes of a port change: a status cell follows (R53). -/
def State.setLanes (s : State) (p mask : Nat) : State :=
  let f := portField p R.IN_PORTSTAT_lane_lock R.CS_PORTSTAT_lane_lock
  if s.rd f = mask % 16 then s else (s.wr f mask).statusSend p

/-- A port's state changes: IN_STATUS shows which ULPs are UP, E186 fires when one enters or leaves UP, and a status cell
follows (R53). -/
def State.setPort (s : State) (p x : Nat) : State :=
  let was := s.portUp p
  let s := s.wr (portState p) x
  let s := if p < 16 && was != (x == 3) then
      ((s.wr R.IN_STATUS_port_up (setBit (s.rd R.IN_STATUS_port_up) p (x == 3))).showActive).fire 186
    else if p < 16 then s
    else s.wr R.CS_STATUS_cst_up (if x = 3 then 1 else 0)
  s.statusSend p

/-- A port enters TRAINING: nothing is known of its alignment cells. -/
def State.train (s : State) (p : Nat) : State :=
  (s.setUlp p { s.ulp p with alAt := [], alMiss := [] }).setPort p 1

/-- What leaving UP does (R35, R36): the packet in progress is counted in partial and discarded, and a link reference on
the port is disqualified. -/
def State.leaveUp (s : State) (p : Nat) : State :=
  if s.portUp p then
    let s := s.when (s.ulp p).pkt.isSome (·.portCount p 17)
    let s := s.setUlp p { s.ulp p with pkt := none, overlap := [], laneQ := [], rxSkip := 0 }
    if p < 16 then s.refPortDown false p else s.when (s.on R.CS_CTL_en) (·.inc (R.CS_CNT 2))
  else s

/-- PORT_ENABLE: en written 1 on a port that is DISABLED or DOWN starts training; a DISABLED port starts to send, with slot
0, idle and alignment cells (Table 2-4). (DESIGN CHOICE: log entry 167.) -/
def State.portStart (s : State) (p : Nat) : State :=
  if s.rd (portState p) = 0 then
    let s := s.setLanes p 0
    ((s.setUlp p { s.ulp p with txSlot := 0, claimDue := false }).train p).alignSend p
  else if s.rd (portState p) = 4 then (s.setLanes p 0).train p
  else s

/-- PORT_DISABLE (Table 2-4). -/
def State.portStop (s : State) (p : Nat) : State :=
  if s.rd (portState p) = 0 then s
  else
    let s := (s.leaveUp p).wr (portField p R.IN_PORTSTAT_lane_lock R.CS_PORTSTAT_lane_lock) 0
    let s := s.setUlp p { s.ulp p with pkt := none, alAt := [], alMiss := [], claimDue := false }
    s.setPort p 0

/-- PORT_LINK_LOSS: `mask` lanes remain locked (Table 2-4). (DEDUCED: log entry 47.) -/
def State.portLoss (s : State) (p mask : Nat) : State :=
  if s.portUp p then
    let s := (s.leaveUp p).flag (portField p R.IN_PORTSTAT_went_down R.CS_PORTSTAT_went_down)
    let s := s.wr (portField p R.IN_PORTSTAT_lane_lock R.CS_PORTSTAT_lane_lock) mask
    if s.on (portField p R.IN_PORTCTL_auto_retrain R.CS_PORTCTL_auto_retrain) then s.train p else s.setPort p 4
  else s.setLanes p mask

/-- LANES_LOCKED: the lanes that are locked; with all configured lanes a training port begins deskew, and an UP port
without one of them has lost the link (Table 2-4). -/
def State.lanesLocked (s : State) (p mask : Nat) : State :=
  let got := mask &&& s.laneMask p
  if s.rd (portState p) = 0 || s.on R.REF_STATUS_xo_lost then s
  else if s.portUp p && got != s.laneMask p then s.portLoss p got
  else
    let s := s.setLanes p got
    if s.rd (portState p) = 1 && got == s.laneMask p then s.setPort p 2 else s

/-- The configured lanes that are locked are not all of them. -/
def State.laneOpen (s : State) (p : Nat) : Bool :=
  s.rd (portField p R.IN_PORTSTAT_lane_lock R.CS_PORTSTAT_lane_lock) &&& s.laneMask p != s.laneMask p

/-- TRAINING_TIMEOUT: 100 ms in TRAINING with a lane not locked sets train_timeout. (DESIGN CHOICE: log entry 168: no counter
of Table 2-11 is named for it, and none counts.) -/
def State.trainTimeout (s : State) (p : Nat) : State :=
  if s.rd (portState p) = 1 && s.laneOpen p then
    s.flag (portField p R.IN_PORTSTAT_train_timeout R.CS_PORTSTAT_train_timeout)
  else s

/-- A port enters UP: counts of the cell and control layers start anew (R44). -/
def State.enterUp (s : State) (p : Nat) : State :=
  let x := s.ulp p
  let s := s.setUlp p { x with
    rxSeq := 0, pkt := none, overlap := [], laneQ := [], rxSlot := 0, rxSkip := 0, ctlSent := 0, ctlRcvd := 0, upLimit := none, rxLimit := 16 }
  (s.wr (portField p R.IN_PORTSTAT_up_rx_status R.CS_PORTSTAT_up_rx_status) 0).setPort p 3

/-- DESKEW_COMPLETE: alignment cells are found on all configured lanes (R33, Table 2-4). -/
def State.deskewDone (s : State) (p : Nat) : State :=
  let at_ := (List.range (s.portLanes p)).map (fun l => smapGet 0 (s.ulp p).alAt l)
  if s.rd (portState p) = 2 && !at_.contains 0 then
    let skew := at_.foldl max 0 - at_.foldl min (at_.headD 0)
    let s := s.wr (portField p R.IN_PORTSTAT_skew R.CS_PORTSTAT_skew) (min skew 255)
    if skew ≤ 200 then s.enterUp p
    else (s.flag (portField p R.IN_PORTSTAT_skew_err R.CS_PORTSTAT_skew_err)).train p
  else s

/-- DESKEW_TIMEOUT: 10 ms in DESKEW without alignment cells on every configured lane. -/
def State.deskewTimeout (s : State) (p : Nat) : State :=
  if s.rd (portState p) = 2 && (List.range (s.portLanes p)).any (fun l => smapGet 0 (s.ulp p).alAt l == 0) then
    (s.flag (portField p R.IN_PORTSTAT_deskew_tmo R.CS_PORTSTAT_deskew_tmo)).train p
  else s

/-- A cell on a lane meets what an uncorrectable codeword still discards there (R30): whether it is discarded. -/
def State.overlapped (s : State) (p lane : Nat) : Bool × State :=
  let x := s.ulp p
  let k := smapGet 0 x.overlap lane
  if k = 0 then (false, s) else (true, s.setUlp p { x with overlap := smapSet 0 x.overlap lane (k - 1) })

/-- ALIGNMENT_CELL_RECEIVE on a lane at an instant in ns (R33). In DESKEW a cell whose body names the lane is found; in UP
the third cell in a row that is missing or out of place takes the port down; a cell discarded under R30 is missing. -/
def State.alignTake (s : State) (p lane : Nat) (inPlace : Bool) (at_ns : Nat) (body : Bytes) : State :=
  if s.portLanes p ≤ lane then s
  else
    let inPlace := inPlace && !(s.overlapped p lane).1
    let s := (s.overlapped p lane).2
    let x := s.ulp p
    if s.rd (portState p) = 2 then
      if byteAt body 0 = lane then s.setUlp p { x with alAt := smapSet 0 x.alAt lane (at_ns + 1) } else s
    else if s.portUp p then
      let k := if inPlace then 0 else smapGet 0 x.alMiss lane + 1
      let s := s.setUlp p { x with alMiss := smapSet 0 x.alMiss lane k }
      if 3 ≤ k then s.portLoss p (s.rd (portField p R.IN_PORTSTAT_lane_lock R.CS_PORTSTAT_lane_lock)) else s
    else s

/-! ## Receiving packets (Tables 2-9, 2-5 to 2-8) -/

/-- Cells a packet of a length fills. -/
def cellsOf (len : Nat) : Nat := ceilDiv (max 1 len) 252

/-- Cells of a port's ingest buffer in use (R51). (DEDUCED: log entry 54.) -/
def State.bufUsed (s : State) (p : Nat) : Nat :=
  ((s.ul.alignQ.filter (fun x => x.port = p && !x.repair)).map (fun x => cellsOf x.raw.length)).sum

/-- A packet finds no space (R51). -/
def State.bufferFull (s : State) (p : Nat) : State :=
  (((s.inc (R.IN_CNT p 5)).flag R.IN_STATUS_buf_ovr).health 7 p 1 0 s.curRound).fire 99

/-- A header that fails rule R40, when `bytes` are all the cells carry. -/
def badSample (bs : Bytes) : Bool :=
  let num := leAt bs 8 2
  let spc := leAt bs 20 2
  let len := leAt bs 22 2
  let fmt := byteAt bs 10
  decide (4096 ≤ leAt bs 4 2 ∨ 4096 ≤ leAt bs 6 2 ∨ 8192 ≤ num ∨ 16 ≤ byteAt bs 11 ∨ 2 ≤ fmt ∨ num = 0
    ∨ 4096 < leAt bs 6 2 + num ∨ 8192 < len ∨ len ≠ num * spc * (if fmt = 0 then 2 else 4) ∨ bs.length ≠ 36 + len)
    || !((List.range 14).any (fun i => spc = 2 ^ i)) || decide (leAt bs 12 8 % max 1 spc ≠ 0)

/-- Check 8: the packet's format and layout match the stream table of round n (R48). -/
def State.layoutMatches (s : State) (n : Nat) (bs : Bytes) : Bool :=
  let a := leAt bs 4 2
  decide (byteAt bs 10 = s.rd R.IN_CTL_fmt ∧ leAt bs 8 2 = s.strF n (R.IN_STRB_c_pkt a)
    ∧ leAt bs 20 2 = 2 ^ s.strF n (R.IN_STRB_spc_log2 a)) && (s.ranges n a).any (fun r => r.1 = leAt bs 6 2)

/-- Check 7: a port is bound to stream a in the table of round n. -/
def State.portBound (s : State) (n a p : Nat) : Bool :=
  s.strF n (R.IN_STRA_port a) = p || (s.strF n (R.IN_STRA_alt_en a) = 1 && s.strF n (R.IN_STRA_alt_port a) = p)

/-- Check 9 (R47). -/
def State.claimOk (s : State) (p : Nat) (bs : Bytes) : Bool :=
  !s.on (R.IN_PORTCTL_dom_en p) || leAt bs 24 4 = s.rq (R.IN_DOMCLM (s.rd (R.IN_PORTCTL_dom p))) % 2 ^ 32

/-- The round whose stream table judges an SC: the one that contains it, or round 0 below the origin. (DEDUCED: log entry 53.) -/
def State.tableRound (s : State) (sc : Nat) : Nat := (s.roundOf sc).getD 0

/-- The first of checks 5 to 9 that a sample packet fails, as the index of its counter. -/
def State.sampleCheck (s : State) (p : Nat) (bs : Bytes) : Option Nat :=
  let a := leAt bs 4 2
  let n := s.tableRound (leAt bs 12 8)
  if badSample bs then some 8
  else if !s.on R.IN_CTL_en || !s.strOn n a then some 9
  else if !s.portBound n a p then some 10
  else if !s.layoutMatches n bs then some 11
  else if !s.claimOk p bs then some 12
  else none

/-- A sample packet that has passed checks 1 to 9 goes to alignment (R50); `port` is where it was received and `arr` what the
counter stood at when its last cell came. -/
def State.acceptSample (s : State) (p : Nat) (bs : Bytes) (repair : Bool) (arr : Nat) : State :=
  let a := leAt bs 4 2
  let sc := leAt bs 12 8
  let len := leAt bs 22 2
  let bad := crc32c ((bs.drop 32).take len) != leAt bs (32 + len) 4
  let x : Accepted :=
    ⟨p, a, leAt bs 6 2, leAt bs 8 2, byteAt bs 10, byteAt bs 11, sc, leAt bs 20 2, bad, repair, if bad then [] else bs,
      arr⟩
  { s with ul := { s.ul with alignQ := s.ul.alignQ ++ [x] } }

/-- A sample packet after check 4. -/
def State.sampleTake (s : State) (p : Nat) (bs : Bytes) (arr : Nat) : State :=
  match s.sampleCheck p bs with
  | some i => s.inc (R.IN_CNT p i)
  | none =>
    let len := leAt bs 22 2
    let s := (s.inc (R.IN_CNT p 4)).when (crc32c ((bs.drop 32).take len) != leAt bs (32 + len) 4) (·.inc (R.IN_CNT p 13))
    s.acceptSample p bs false arr

/-- Bytes that must be 0. -/
def allZero (bs : Bytes) : Bool := bs.all (· = 0)

/-- The offset sample of type L slot r in ps (R229), for a timing packet that arrived at an instant of the counter. -/
def State.linkOffset (s : State) (r : Nat) (arr : Nat) (bs : Bytes) : Int :=
  let send : Int := ((leAt bs 36 6 * 1000000000 + leAt bs 42 4 : Nat) : Int) * 1000
  ((arr * 1000 / nsUnit : Nat) : Int) - send - toSigned 32 (s.rd (R.REF_LDLY_dly_ps (r - 6)))

/-- A timing packet reaches the link references of its port (R229, R230). -/
def State.linkEvent (s : State) (p arr : Nat) (bs : Bytes) : State :=
  let bad := decide (4 ≤ byteAt bs 6)
  s.fold [6, 7] (fun s r =>
    if s.rd (R.REF_CFG_port r) = p && s.refState r != 0 then
      if (byteAt bs 7).testBit 1 then s.refSample r (s.linkOffset r arr bs) bad
      else
        let x := s.refSlot r
        let s := s.setRefSlot r { x with qbad := if bad then x.qbad + 1 else 0 }
        if bad then s.refAnomaly r else s.refNormal r 0
    else s)

/-- A timing packet after check 4 (R43), whose first symbol arrived when the counter stood at `arr`. Time quality codes 6 to
15 are reserved (Table 0-6). -/
def State.timingTake (s : State) (p : Nat) (bs : Bytes) (arr : Nat) : State :=
  if bs.length ≠ 64 ∨ 6 ≤ byteAt bs 6 ∨ 4 ≤ byteAt bs 7 ∨ !(allZero ((bs.drop 26).take 2)) ∨ !(allZero ((bs.drop 46).take 14)) then
    s.inc (R.IN_CNT p 8)
  else
    let s := s.inc (R.IN_CNT p 16)
    let ns := arr / nsUnit
    let snap : TimSnap :=
      ⟨leAt bs 8 8, leAt bs 16 6, leAt bs 22 4, ns / 1000000000, ns % 1000000000, byteAt bs 7⟩
    let s := if byteAt bs 7 % 4 = 0 then s else s.setUlp p { s.ulp p with tim := snap }
    s.linkEvent p arr bs

/-- The receive slots of a port change: IN_STATUS.ctl_rx and IN_PORTSTATn.ctl_rx_cnt. -/
def State.setSlots (s : State) (p occ : Nat) : State :=
  let s := s.setUlp p { s.ulp p with rxOcc := occ }
  let s := s.wr (R.IN_PORTSTAT_ctl_rx_cnt p) ((List.range 16).countP (fun i => occ.testBit i))
  s.wr R.IN_STATUS_ctl_rx (if (List.range 16).any (fun q => (s.ulp q).rxOcc != 0) then 1 else 0)

/-- A HOST_MSG goes to the lowest free receive slot (R45). -/
def State.placeMessage (s : State) (p : Nat) (bs : Bytes) : State :=
  let occ := (s.ulp p).rxOcc
  match lowest 16 (fun i => !occ.testBit i) with
  | some i =>
    let s := s.fold (List.range 63) (fun s w => s.setWord (R.IN_RXSLOT p i w) (BitVec.ofNat 32 (leAt bs (4 * w) 4)))
    s.setSlots p (setBit occ i true)
  | none => s.inc (R.IN_CNT p 14)

/-- A control packet after check 4 (R44, R45, ECHO_RESPONSE). (DEDUCED: log entry 49.) (DESIGN CHOICE: log entry 169: one that
fails a field rule counts in drop_field also when it came without credit.) -/
def State.controlTake (s : State) (p : Nat) (bs : Bytes) : State :=
  let op := byteAt bs 4
  let blen := byteAt bs 5
  let x := s.ulp p
  let noCredit := decide (x.ctlRcvd = x.rxLimit)
  let s := if noCredit then s else s.setUlp p { x with ctlRcvd := (x.ctlRcvd + 1) % 65536 }
  if bs.length ≠ 252 ∨ 240 < blen ∨ (op ≠ 1 ∧ op ≠ 2 ∧ op ≠ 16) then s.inc (R.IN_CNT p 8)
  else if noCredit then s.inc (R.IN_CNT p 14)
  else if op = 1 then
    let y := s.ulp p
    s.setUlp p { y with txQ := y.txQ ++ [.echo (leAt bs 6 2) (leBytes 1 blen ++ (bs.drop 8).take 240)] }
  else if op = 16 then s.placeMessage p bs
  else s

/-- A claim packet after check 4 (R46). -/
def State.claimTake (s : State) (p : Nat) (bs : Bytes) : State :=
  if bs.length ≠ 32 ∨ !(allZero ((bs.drop 6).take 2)) ∨ !(allZero ((bs.drop 24).take 4)) then s.inc (R.IN_CNT p 8)
  else if !s.on (R.IN_PORTCTL_dom_en p) then s
  else
    let d := s.rd (R.IN_PORTCTL_dom p)
    let c := leAt bs 8 8
    let ser := leAt bs 16 8
    let h := s.rq (R.IN_DOMCLM d)
    if h < c then
      { (s.wq (R.IN_DOMCLM d) c) with ul := { s.ul with domSer := smapSet 0 s.ul.domSer d (ser + 1) } }
    else
      let s := s.inc (R.IN_CNT p 15)
      let by_ := smapGet 0 s.ul.domSer d
      if c = h ∧ by_ ≠ 0 ∧ by_ ≠ ser + 1 then s.flag (R.IN_PORTSTAT_claim_conflict p) else s

/-- The bytes that a packet's header CRC covers: 28, 60, 248 and 28 by type. -/
def headLen (typ : Nat) : Nat := if typ = 1 then 60 else if typ = 2 then 248 else 28

/-- A packet received whole on a ULP passes the checks of Table 2-9 in order (R50). -/
def State.packetTake (s : State) (p : Nat) (bs : Bytes) (arr : Nat) : State :=
  if !s.portUp p then s
  else if 4096 < s.bufUsed p + cellsOf bs.length then s.bufferFull p
  else
    let typ := byteAt bs 3
    let k := headLen typ
    if leAt bs 0 2 ≠ 0x4C55 ∨ byteAt bs 2 ≠ 1 ∨ 3 < typ then s.inc (R.IN_CNT p 6)
    else if crc32c (bs.take k) ≠ leAt bs k 4 then s.inc (R.IN_CNT p 7)
    else if typ = 0 then s.sampleTake p bs arr
    else if typ = 1 then s.timingTake p bs arr
    else if typ = 2 then s.controlTake p bs
    else s.claimTake p bs

/-- What the counter stood at a number of ticks ago. -/
def State.ago (s : State) (ticks : Nat) : Nat := s.tb.t - ticks * s.rq R.TB_INC

/-! ## Receiving cells (R30, R31, R34, R35) -/

/-- A status cell of the upstream (R53): its credit limit is used. -/
def State.statusTake (s : State) (p : Nat) (body : Bytes) : State :=
  if s.portUp p then
    let s := s.setUlp p { s.ulp p with upLimit := some (leAt body 2 2), upStat := body }
    s.wr (portField p R.IN_PORTSTAT_up_rx_status R.CS_PORTSTAT_up_rx_status) 1
  else s

/-- A cell of 256 bytes, in port order, on a port that is UP; a packet that its last cell completes is answered. (DEDUCED: log entry 48.) -/
def State.cellTake (s : State) (p : Nat) (cell : Bytes) : State × Option Bytes :=
  if !s.portUp p then (s, none)
  else
    let x := s.ulp p
    if crc8 (cell.take 3) ≠ byteAt cell 3 then (s.portCount p 2, none)
    else
      let kind := byteAt cell 0 % 8
      let seq := byteAt cell 2
      let body := (cell.drop 4).take (min 252 (byteAt cell 1))
      if kind = 0 ∨ kind = 1 ∨ kind = 7 then (s, none)
      else
        let gap := x.rxSeq != 0 && decide (x.rxSeq % 256 ≠ seq)
        let s := s.when gap (·.portCount p 3)
        let prog := if gap then none else x.pkt
        let x : UlPort := { s.ulp p with rxSeq := seq + 1, rxSkip := 0, pkt := prog }
        let s := s.setUlp p x
        if kind = 6 then (s.statusTake p (cell.drop 4), none)
        else if kind = 2 then (s.setUlp p { x with pkt := some body }, none)
        else if kind = 5 then (s.setUlp p { x with pkt := none }, some body)
        else
          match prog with
          | none => (s.portCount p 20, none)
          | some bs =>
            if kind = 3 then (s.setUlp p { x with pkt := some (bs ++ body) }, none)
            else (s.setUlp p { x with pkt := none }, some (bs ++ body))

/-- Puts a received cell, with what the counter stood at when it came, or none for a discarded one, at the end of its
lane's queue. -/
def State.queueCell (s : State) (p lane : Nat) (c : Option (Bytes × Nat)) : State :=
  let x := s.ulp p
  s.setUlp p { x with laneQ := smapSet [] x.laneQ lane (smapGet [] x.laneQ lane ++ [c]) }

/-- The cell of the port's next slot, when its lane has one (R32: slot k comes from lane k mod l), and the state without it. -/
def State.nextCell (s : State) (p : Nat) : Option (Option (Bytes × Nat) × State) :=
  let x := s.ulp p
  let lane := x.rxSlot % s.portLanes p
  match smapGet [] x.laneQ lane with
  | [] => none
  | c :: r => some (c, s.setUlp p { x with laneQ := smapSet [] x.laneQ lane r, rxSlot := x.rxSlot + 1 })

/-- A counted cell was lost. -/
def State.skipCell (s : State) (p : Nat) : State := s.setUlp p { s.ulp p with rxSkip := (s.ulp p).rxSkip + 1 }

/-- No cell still to come is known to be discarded, and none was lost since the last counted cell. -/
def State.rxClean (s : State) (p : Nat) : Bool :=
  (s.ulp p).rxSkip == 0 && (List.range (s.portLanes p)).all (fun l => smapGet 0 (s.ulp p).overlap l == 0)

/-- The cells of a packet that a command brings whole take their slots and are counted (R31, R32). -/
def State.countCells (s : State) (p len : Nat) : State :=
  let x := s.ulp p
  s.setUlp p { x with
    pkt := none, rxSlot := x.rxSlot + cellsOf len,
    rxSeq := if x.rxSeq = 0 then 0 else (x.rxSeq - 1 + cellsOf len) % 256 + 1 }

/-- A counted cell of what a command brings whole, in the port's next slot: it may be discarded under R30. -/
def State.wholeCell (s : State) (p kind : Nat) (body : Bytes) : State × Option Bytes :=
  let x := s.ulp p
  let r := (s.setUlp p { x with rxSlot := x.rxSlot + 1 }).overlapped p (x.rxSlot % s.portLanes p)
  if r.1 then (r.2.skipCell p, none) else r.2.cellTake p (cellBytes kind ((x.rxSeq + x.rxSkip) % 256) body)

/-- The cells of a packet one by one: the packet, if no cell of it was lost. -/
def State.wholeCells (s : State) (p : Nat) (bs : Bytes) : State × Option Bytes :=
  let cs := chunks bs.length bs
  cs.zipIdx.foldl (fun r c => r.1.wholeCell p (cellKind cs.length c.2) c.1) (s, none)

/-- A whole packet arrives on a ULP, its first symbol `ticks` ticks ago. (DEDUCED: log entry 52.) -/
def State.packetArrive (s : State) (p : Nat) (bs : Bytes) (ticks : Nat) : State :=
  if !s.portUp p then s
  else if s.rxClean p then (s.countCells p bs.length).packetTake p bs (s.ago ticks)
  else
    match s.wholeCells p bs with
    | (t, some b) => t.packetTake p b (s.ago ticks)
    | (t, none) => t

/-- STATUS_CELL_RECEIVE as a command: the counted cell and its body. -/
def State.statusArrive (s : State) (p : Nat) (body : Bytes) : State :=
  if !s.portUp p then s
  else if s.rxClean p then
    let x := s.ulp p
    (s.setUlp p { x with rxSlot := x.rxSlot + 1, rxSeq := if x.rxSeq = 0 then 0 else x.rxSeq % 256 + 1 }).statusTake p body
  else (s.wholeCell p 6 body).1

/-- CODEWORD_RECEIVE on a locked lane (R30): `outcome` 0 = no errors; 1 = corrected; 2 or more = uncorrectable, with the
cells that overlap it and no earlier uncorrectable codeword of the lane, at most 4. (DEDUCED: log entry 171.) -/
def State.codeword (s : State) (p lane outcome overlap : Nat) : State :=
  if !(s.rd (portField p R.IN_PORTSTAT_lane_lock R.CS_PORTSTAT_lane_lock)).testBit lane then s
  else if outcome = 0 then s
  else if outcome = 1 then s.portCount p 0
  else
    let x := s.ulp p
    (s.setUlp p { x with
      cwUncorr := (x.cwUncorr + 1) % 2 ^ 32,
      overlap := if s.portUp p then smapSet 0 x.overlap lane (smapGet 0 x.overlap lane + min 4 overlap) else x.overlap
      }).portCount p 1

/-! ## Sending (R44, R52, R54) -/

/-- A header common to Uhlain packets. -/
def packetHead (typ : Nat) : Bytes := [0x55, 0x4C, 0x01, BitVec.ofNat 8 typ]

/-- Credit allows a control packet (R44). -/
def State.mayControl (s : State) (p : Nat) : Bool :=
  s.portUp p && (match (s.ulp p).upLimit with
    | some l => l != (s.ulp p).ctlSent
    | none => false)

/-- Traffic of higher precedence than a class waits on a port (R52: 4 = timing packets, 5 = control, 6 = sample): a claim
packet that is due, or a control packet that has credit. (DEDUCED: log entry 170.) -/
def State.mustWait (s : State) (p cls : Nat) : Bool :=
  (s.ulp p).claimDue || (decide (5 < cls) && s.mayControl p && !(s.ulp p).txQ.isEmpty)

/-- The claim number has changed: a claim packet is due on every ULP that is UP (R54). -/
def State.claimNews (s : State) : State :=
  s.fold ((List.range 16).filter s.portUp) (fun s p => s.setUlp p { s.ulp p with claimDue := true })

/-- CLAIM_PACKET_SEND (Table 2-8). (DEDUCED: log entry 50.) -/
def State.claimSend (s : State) (p : Nat) : State :=
  if s.portUp p && decide (p < 16) then
    let s := s.setUlp p { s.ulp p with claimDue := false }
    let b := packetHead 3 ++ leBytes 2 Config.serial.toNat ++ zeros 2 ++ leBytes 8 (s.rq R.CS_CLAIM)
      ++ leBytes 8 Config.serial.toNat ++ zeros 4
    s.sendPacket p (b ++ leBytes 4 (crc32c b))
  else s

/-- TIMING_PACKET_SEND (Table 2-6): the SC epoch, when one is valid, and the send time, when the counter is SET. -/
def State.timingSend (s : State) (p : Nat) : State :=
  if s.portUp p && decide (p < 16) && s.on R.IN_CTL_tim_rate && !s.mustWait p 4 then
    let ok := s.sceValid
    let set := s.on R.TB_STATUS_set
    let m := s.tb.epoch
    let te := m.tE.toNat
    let g (x : Nat) : Nat := if ok then x else 0
    let h (x : Nat) : Nat := if set then x else 0
    let b := packetHead 1 ++ leBytes 2 Config.serial.toNat ++ leBytes 1 (s.rd R.REF_STATUS_tq)
      ++ leBytes 1 (g 1 + h 2) ++ leBytes 8 (g m.sE) ++ leBytes 6 (g (te / 1000000000)) ++ leBytes 4 (g (te % 1000000000))
      ++ zeros 2 ++ leBytes 8 (g (rateOf m)) ++ leBytes 6 (h s.taiS) ++ leBytes 4 (h s.taiNs) ++ zeros 14
    s.sendPacket p (b ++ leBytes 4 (crc32c b))
  else s

/-- CONTROL_TX_QUEUE: bits of IN_CTLTXn written 1 queue their slots. -/
def State.controlQueue (s : State) (p mask : Nat) : State :=
  s.fold (List.range 16) (fun s i =>
    if mask.testBit i && !((s.rd (R.IN_CTLTX_send p)).testBit i) then
      let x := s.ulp p
      (s.setUlp p { x with txQ := x.txQ ++ [.slot i] }).wr (R.IN_CTLTX_send p) (setBit (s.rd (R.IN_CTLTX_send p)) i true)
    else s)

/-- CONTROL_PACKET_SEND: the oldest queued control packet leaves when credit allows (R44, R45). (DESIGN CHOICE:
log entry 172: byte 4 of the packet lies at offset 4 of the slot window.) -/
def State.controlSend (s : State) (p : Nat) : State :=
  let x := s.ulp p
  if !s.mayControl p || s.mustWait p 5 then s
  else
    let send (s : State) (b : Bytes) : State := (s.sendPacket p (b ++ leBytes 4 (crc32c b))).inc (R.IN_CNT p 19)
    match x.txQ with
    | [] => s
    | .slot i :: r =>
      let body := (List.range 61).flatMap (fun w => leBytes 4 (s.word (R.IN_TXSLOT p i w)).toNat)
      let b := packetHead 2 ++ body.take 2 ++ leBytes 2 x.cseq ++ body.drop 4
      let s := s.setUlp p { x with txQ := r, ctlSent := (x.ctlSent + 1) % 65536, cseq := (x.cseq + 1) % 65536 }
      send (s.wr (R.IN_CTLTX_send p) (setBit (s.rd (R.IN_CTLTX_send p)) i false)) b
    | .echo q body :: r =>
      let b := packetHead 2 ++ [0x02] ++ body.take 1 ++ leBytes 2 q ++ body.drop 1
      send (s.setUlp p { x with txQ := r, ctlSent := (x.ctlSent + 1) % 65536 }) b

/-- CONTROL_SLOT_FREE: occupied slots that IN_CTLFREEn names are freed and advance the limit (R44). -/
def State.slotFree (s : State) (p mask : Nat) : State :=
  let occ := (s.ulp p).rxOcc
  let hit := (List.range 16).filter (fun i => mask.testBit i && occ.testBit i)
  if hit.isEmpty then s
  else
    let s := s.setSlots p (hit.foldl (fun m i => setBit m i false) occ)
    let x := s.ulp p
    (s.setUlp p { x with rxLimit := (x.rxLimit + hit.length) % 65536 }).statusSend p

/-- CLAIM_DOMAIN_RESET (R46): refused while a port of a named domain is not DISABLED; answers whether it was accepted. (DEDUCED: log entry 51.) -/
def State.domainReset (s : State) (mask : Nat) : State × Bool :=
  let busy := (List.range 16).any (fun p =>
    s.on (R.IN_PORTCTL_dom_en p) && mask.testBit (s.rd (R.IN_PORTCTL_dom p)) && s.rd (portState p) != 0)
  if busy then (s, false)
  else
    (s.fold ((List.range 16).filter (fun d => mask.testBit d)) (fun s d =>
      { (s.wq (R.IN_DOMCLM d) 0) with ul := { s.ul with domSer := smapSet 0 s.ul.domSer d 0 } }), true)

/-! ## Voltage beams on Uhlain (R54, R147) -/

/-- The sample of beam-pol j at an SC as port p sends it: its value, 0 when it is not listed, and whether it was
limited. -/
def State.ulpSample (s : State) (p b pol c sc : Nat) : (Int × Int) × Bool :=
  let n := s.tableRound sc
  match (streamEntries (s.baCfg n) p b).find? (fun v => cfgField (s.baCfg n) (R.BA_VLSTA_j v) = 2 * b + pol) with
  | some v =>
    let q := smapGet (0, 0, 0) s.ba.volt (voltKey n v c (sc - s.roundSc n))
    ((q.1, q.2.1), q.2.2 = 2)
  | none => ((0, 0), false)

/-- Every round a packet covers is released and no failed channel-set lies in it (R147, R152). -/
def State.voltReady (s : State) (sc spc first cp : Nat) : Bool :=
  (List.range spc).all (fun t => match s.roundOf (sc + t) with
    | some n => s.ba.vdone.contains n && (List.range cp).all (fun i => !s.isBad n (first + i) (sc + t - s.roundSc n + 1))
    | none => false)

/-- The next packet of beam b on port p: its SC, first channel, channels, samples and format. -/
def State.nextVoltage (s : State) (p b : Nat) : Option (Nat × Nat × Nat × Nat × Nat × Nat) :=
  let pos := smapGet 0 s.ba.vpos (p * 2048 + b)
  let cand := s.ba.vdone.flatMap (fun n =>
    let c := s.baCfg n
    let spc := 2 ^ cfgField c R.BA_VPKT_spc_log2
    let cp := max 1 (cfgField c R.BA_VPKT_c_pkt)
    let lo := roundUp (s.roundSc n) spc
    match streamEntries c p b with
    | [] => []
    | v :: _ =>
      let num := ceilDiv (s.roundSc (n + 1) - lo) spc
      (List.range num).flatMap (fun i => (List.range (cfgField c R.BA_VCH_vc_num / cp)).map (fun j =>
        (lo + i * spc, j, cfgField c R.BA_VCH_vc_lo + j * cp, cp, spc, cfgField c (R.BA_VLSTA_fmt v)))))
  cand.find? (fun q => decide (pos < q.1 * 4096 + q.2.1 + 1) && s.voltReady q.1 q.2.2.2.2.1 q.2.2.1 q.2.2.2.1)

/-- A unit sends its voltage beams on Uhlain port p (Table 9-3, R224). (DEDUCED: log entry 56.) -/
def State.mayVoltage (s : State) (p sc : Nat) : Bool :=
  s.csState = 0 || (s.csState = 3 && !s.awaits (ulpStream p))
    || (s.csState = 5 && !s.cs.handed.contains (ulpStream p) && decide (sc < s.roundSc (s.cs.hand.getD 0)))

/-- VOLTAGE_PACKET_SEND (R54, R147): the next sample packet of beam b on port p. -/
def State.voltageSend (s : State) (p b : Nat) : State :=
  if !(s.hasBeam && s.portUp p && decide (p < 16) && s.on (R.IN_PORTCTL_tx_en p)) || s.mustWait p 6 then s
  else
    match s.nextVoltage p b with
    | none => s
    | some (sc, j, first, cp, spc, fmt) =>
      if !s.mayVoltage p sc then s
      else
        let cells := (List.range spc).flatMap (fun t => (List.range cp).flatMap (fun i =>
          [s.ulpSample p b 0 (first + i) (sc + t), s.ulpSample p b 1 (first + i) (sc + t)]))
        let cfg := s.baCfg (s.tableRound sc)
        let has (pol : Nat) : Bool := (streamEntries cfg p b).any (fun v => cfgField cfg (R.BA_VLSTA_j v) = 2 * b + pol)
        let uf := (if cells.any Prod.snd then 1 else 0) + (if has 0 then 0 else 4) + (if has 1 then 0 else 8)
        let pay := cells.flatMap (fun q => quantBytes fmt q.1)
        let h := packetHead 0 ++ leBytes 2 b ++ leBytes 2 first ++ leBytes 2 cp ++ leBytes 1 fmt ++ leBytes 1 uf
          ++ leBytes 8 sc ++ leBytes 2 spc ++ leBytes 2 pay.length ++ leBytes 4 (s.rq R.CS_CLAIM % 2 ^ 32)
        let s := s.sendPacket p (h ++ leBytes 4 (crc32c h) ++ pay ++ leBytes 4 (crc32c pay))
        ({ s with ba := { s.ba with vpos := smapSet 0 s.ba.vpos (p * 2048 + b) (sc * 4096 + j + 1) } }).inc (R.IN_CNT p 18)

/-! ## Stream-table commits (R37, R49) -/

/-- The shadow stream table: the words of IN_STRA, IN_STRB and IN_STRC. -/
def State.streamShadow (s : State) : SMap Word :=
  s.csr.filter (fun p => decide ((0x108000 ≤ p.1 ∧ p.1 < 0x110000) ∨ (0x120000 ≤ p.1 ∧ p.1 < 0x124000)))

/-- The lowest of reasons 1 to 6 and 11 for which entry a of the shadow is invalid. -/
def State.entryReason (s : State) (a : Nat) : Option Nat :=
  let num := s.rd (R.IN_STRB_c_num a)
  let k := s.rd (R.IN_STRB_c_pkt a)
  let port := s.rd (R.IN_STRA_port a)
  let alt := s.rd (R.IN_STRA_alt_port a)
  let altEn := s.on (R.IN_STRA_alt_en a)
  if num = 0 then some 1
  else if 4096 < s.rd (R.IN_STRC_c_lo a) + num then some 2
  else if k = 0 ∨ num % k ≠ 0 then some 3
  else if 8192 < k * 2 ^ s.rd (R.IN_STRB_spc_log2 a) * (2 * s.width) then some 4
  else if !s.on (R.IN_PORTCTL_en port) || (altEn && !s.on (R.IN_PORTCTL_en alt)) then some 5
  else if altEn && alt == port then some 6
  else if s.on R.AL_CTL_en && decide (k < s.al.cPktMin) then some 11
  else none

/-- The streams of the shadow charged to port p (R37). -/
def State.chargedTo (s : State) (p : Nat) (on : List Nat) : List Nat :=
  on.filter (fun a => s.rd (R.IN_STRA_port a) = p || (s.on (R.IN_STRA_alt_en a) && s.rd (R.IN_STRA_alt_port a) = p))

/-- The load that the shadow puts on port p, cells a second (R37). -/
def State.streamLoad (s : State) (p : Nat) (on : List Nat) : Rat :=
  ((s.chargedTo p on).map (fun a =>
    cellLoad s.chRate (s.rd (R.IN_STRB_c_num a)) (s.rd (R.IN_STRB_c_pkt a)) (2 ^ s.rd (R.IN_STRB_spc_log2 a)) (2 * s.width))).sum

/-- The reason and stream for which the shadow is refused (R49). (DEDUCED: log entry 55.) -/
def State.streamReason (s : State) : Option (Nat × Nat) :=
  let on := (List.range 4096).filter (fun a => s.on (R.IN_STRA_en a))
  let at_ (r : Nat) : Option Nat := on.find? (fun a => s.entryReason a = some r)
  let low := [1, 2, 3, 4, 5, 6].findSome? (fun r => (at_ r).map (fun a => (r, a)))
  let full := (List.range 16).find? (fun p => !loadFits (s.portLanes p) (s.streamLoad p on))
  let load := full.map (fun p => (7, (s.chargedTo p on).headD 0))
  match low with
  | some x => some x
  | none =>
    if s.chRate ≠ 0 ∧ load.isSome then load
    else if s.on R.IN_STRCMT_tgt && s.begun (s.rq R.IN_STRTGT) then some (8, 0)
    else if s.chRate = 0 ∧ !on.isEmpty then some (9, 0)
    else if s.on R.IN_STATUS_str_pending then some (10, 0)
    else (at_ 11).map (fun a => (11, a))

/-- STREAM_TABLE_COMMIT (R49). -/
def State.streamCommit (s : State) : State :=
  match s.streamReason with
  | some (r, a) => ((s.wr R.IN_STRERR_reason r).wr R.IN_STRERR_stream a).flag R.IN_STRERR_err
  | none =>
    let n := (s.bindTo (s.on R.IN_STRCMT_tgt) (s.rq R.IN_STRTGT)).getD 0
    let s := { s with ul := { s.ul with tables := bindRound s.ul.tables n s.streamShadow } }
    ((s.wq R.IN_STRBND n).wr R.IN_STATUS_str_pending 1).bindChange n .streams

end Sys2Proof.Machine
end

