-- ==== Sys2Proof/Machine/Ptp.lean ====
section
/-! DEFINITION. IEEE 1588 (R155, R257 to R259): message layouts and the best master clock algorithm as the standard has
them, time stamps and their corrections, offset and path delay, and what a port sends. -/

namespace Sys2Proof.Machine

def State.ptp (s : State) (p : Nat) : PtPort := smapGet default s.pt.port p

def State.setPtp (s : State) (p : Nat) (x : PtPort) : State :=
  { s with pt := { s.pt with port := smapSet default s.pt.port p x } }

/-- ET_PTPPSTATn.state: 1 = INITIALIZING; 2 = FAULTY; 3 = DISABLED; 4 = LISTENING; 5 = PRE_MASTER; 6 = MASTER; 7 = PASSIVE; 8 = UNCALIBRATED; 9 = SLAVE. -/
def State.ptpState (s : State) (p : Nat) : Nat := s.rd (R.ET_PTPPSTAT_state p)

/-- The port takes part in IEEE 1588: an ordinary clock has one port (R257). (DESIGN CHOICE: log entry 199: it is the lowest
that is enabled.) -/
def State.ptpOn (s : State) (p : Nat) : Bool :=
  s.on R.ET_PTPCTL_en && s.on (R.ET_PTPPCTL_en p)
    && (s.on R.ET_PTPCTL_bc || (List.range p).all (fun q => !s.on (R.ET_PTPPCTL_en q)))

/-- A PRE_MASTER port whose qualification timeout has passed is MASTER. -/
def State.ptpQualify (s : State) (p : Nat) : State :=
  if s.ptpState p = 5 && decide ((s.ptp p).qualAt ≤ s.tb.t) then s.wr (R.ET_PTPPSTAT_state p) 6 else s

/-! ## Time stamps (R259), in ps -/

/-- Table 11-2: egress and ingress corrections by speed. -/
def stampFix (speed : Nat) : Int × Int :=
  if speed = 0 then (41600, -67200) else if speed = 1 then (52800, -88000) else (73600, -129600)

/-- The counter in ps. -/
def psOf (t : Nat) : Int := (t * 1000 / nsUnit : Nat)

/-- The ingress stamp of a message that reached the MAC `ticks` ticks ago. -/
def State.ingress (s : State) (p ticks : Nat) : Int :=
  psOf (s.tb.t - ticks * s.rq R.TB_INC) + (stampFix (s.rd (R.ET_PORTCTL_speed p))).2 - toSigned 32 (s.rd (R.ET_PTPRXADJ_v p))

/-- The egress stamp of a message that leaves now. -/
def State.egress (s : State) (p : Nat) : Int :=
  psOf s.tb.t + (stampFix (s.rd (R.ET_PORTCTL_speed p))).1 + toSigned 32 (s.rd (R.ET_PTPTXADJ_v p))

/-- A correctionField in ps. -/
def corrPs (c : Nat) : Int := toSigned 64 c * 1000 / 65536

/-- A correctionField's bytes from ps. -/
def corrBytes (x : Int) : Bytes := beBytes 8 (ofSigned 64 (x * 65536 / 1000))

/-- A Timestamp's ten bytes, and what is left below 1 ns. -/
def stampBytes (x : Int) : Bytes × Int :=
  let ns := (x / 1000).toNat
  (beBytes 6 (ns / 1000000000) ++ beBytes 4 (ns % 1000000000), x % 1000)

/-- A Timestamp in ps. -/
def stampPs (bs : Bytes) (o : Nat) : Int := ((beAt bs o 6 * 1000000000 + beAt bs (o + 6) 4 : Nat) : Int) * 1000

/-! ## Sending -/

/-- The identity of port p: clockIdentity and port number. -/
def State.portId (s : State) (p : Nat) : Nat := s.rq R.ET_PTPID * 65536 + p + 1

/-- A message header (34 bytes). (PRESUMED: log entry 123.) -/
def State.ptpHead (s : State) (p typ len flags : Nat) (corr : Int) (seq ctrl logInt : Nat) : Bytes :=
  beBytes 1 typ ++ beBytes 1 2 ++ beBytes 2 len ++ beBytes 1 (s.rd R.ET_PTPCTL_domain) ++ zeros 1 ++ beBytes 2 flags
    ++ corrBytes corr ++ zeros 4 ++ beBytes 10 (s.portId p) ++ beBytes 2 seq ++ beBytes 1 ctrl ++ beBytes 1 logInt

/-- A signed 4-bit interval field as a byte. -/
def logByte (x : Nat) : Nat := ofSigned 8 (toSigned 4 x)

/-- The frame of a message from port p by its transport, with the multicast addresses of the standard. -/
def State.ptpFrame (s : State) (p : Nat) (event peer : Bool) (msg : Bytes) : Bytes :=
  let src := beBytes 6 (s.rq (R.ET_MAC p))
  let port := if event then 319 else 320
  let udp := beBytes 2 port ++ beBytes 2 port ++ beBytes 2 (8 + msg.length)
  let ttl := if peer then 1 else s.rd R.OT_CTL_ttl
  if s.rd (R.ET_PTPPCTL_transport p) = 0 then
    beBytes 6 (if peer then 0x0180C200000E else 0x011B19000000) ++ src ++ beBytes 2 0x88F7 ++ msg
  else if s.rd (R.ET_PTPPCTL_transport p) = 1 then
    let addrs := beBytes 4 (s.word (R.ET_IP4 p)).toNat ++ beBytes 4 (if peer then 0xE000006B else 0xE0000181)
    let h (c : Nat) : Bytes := beBytes 1 0x45 ++ zeros 1 ++ beBytes 2 (28 + msg.length) ++ zeros 2 ++ beBytes 2 0x4000
      ++ beBytes 1 ttl ++ beBytes 1 17 ++ beBytes 2 c ++ addrs
    beBytes 6 (if peer then 0x01005E00006B else 0x01005E000181) ++ src ++ beBytes 2 0x0800 ++ h (inetSum (h 0)) ++ udp ++ zeros 2 ++ msg
  else
    let a := (List.range 4).flatMap (fun w => beBytes 4 (s.word (R.ET_IP6 p w)).toNat)
    let d := beBytes 2 (if peer then 0xFF02 else 0xFF0E) ++ zeros 12 ++ beBytes 2 (if peer then 0x006B else 0x0181)
    let sum := inetSum (a ++ d ++ beBytes 4 (8 + msg.length) ++ beBytes 4 17 ++ udp ++ zeros 2 ++ msg)
    beBytes 6 (if peer then 0x33330000006B else 0x333300000181) ++ src ++ beBytes 2 0x86DD ++ beBytes 4 0x60000000
      ++ beBytes 2 (8 + msg.length) ++ beBytes 1 17 ++ beBytes 1 ttl ++ a ++ d ++ udp ++ beBytes 2 (if sum = 0 then 65535 else sum) ++ msg

/-- A message leaves port p. -/
def State.ptpSend (s : State) (p : Nat) (event peer : Bool) (msg : Bytes) : State :=
  s.etherSend p (s.ptpFrame p event peer msg)

/-- SYNC_SEND on a MASTER port: one-step, or two-step with its Follow_Up. -/
def State.syncSend (s : State) (p : Nat) : State :=
  let s := s.ptpQualify p
  if s.ptpOn p && s.ptpState p = 6 && s.ethUp p then
    let x := s.ptp p
    let t := stampBytes (s.egress p)
    let li := logByte (s.rd (R.ET_PTPPCTL_log_sync p))
    let s := (s.setPtp p { x with sSeq := (x.sSeq + 1) % 65536 }).inc (R.ET_PTPCNT p 2)
    if s.on (R.ET_PTPPCTL_one_step p) then s.ptpSend p true false (s.ptpHead p 0 44 0 t.2 x.sSeq 0 li ++ t.1)
    else
      let s := s.ptpSend p true false (s.ptpHead p 0 44 0x0200 0 x.sSeq 0 li ++ zeros 10)
      s.ptpSend p false false (s.ptpHead p 8 44 0 t.2 x.sSeq 2 li ++ t.1)
  else s

/-- DELAY_REQ_SEND on a SLAVE or UNCALIBRATED port of the delay request-response profile. -/
def State.dreqSend (s : State) (p : Nat) : State :=
  if s.ptpOn p && (s.ptpState p = 9 || s.ptpState p = 8) && s.ethUp p && !s.on R.ET_PTPCTL_profile then
    let x := s.ptp p
    let asym := toSigned 32 (s.rd (R.ET_PTPASYM_v p))
    let s' := s.setPtp p { x with dSeq := (x.dSeq + 1) % 65536, dreq := some (x.dSeq, s.egress p) }
    s'.ptpSend p true false (s.ptpHead p 1 44 0 (-asym) x.dSeq 1 0x7F ++ zeros 10)
  else s

/-- PDELAY_REQ_SEND on a port of the peer-to-peer profile. -/
def State.preqSend (s : State) (p : Nat) : State :=
  if s.ptpOn p && s.ethUp p && s.on R.ET_PTPCTL_profile then
    let x := s.ptp p
    let asym := toSigned 32 (s.rd (R.ET_PTPASYM_v p))
    let s' := s.setPtp p { x with pSeq := (x.pSeq + 1) % 65536, preq := some (x.pSeq, s.egress p), presp := none }
    s'.ptpSend p true true (s.ptpHead p 2 54 0 (-asym) x.pSeq 5 0x7F ++ zeros 20)
  else s

/-! ## The grandmaster's data (R258) -/

/-- The selected reference is a NET slot whose port is in SLAVE: that port. -/
def State.netPort (s : State) : Option Nat :=
  match s.refSel with
  | some r =>
    let p := s.rd (R.REF_CFG_port r)
    if refType r = .n && s.ptpState p = 9 then some p else none
  | none => none

/-- clockClass by the time quality code. -/
def State.clockClass (s : State) : Nat :=
  let q := s.rd R.REF_STATUS_tq
  if q = 2 then 7 else if q = 4 then 52 else if q = 5 then 248 else 6

/-- The data set the device announces as grandmaster. -/
def State.ownData (s : State) : AnnRec :=
  ⟨s.portId 0, 2, s.rd R.ET_PTPCTL_prio1, s.clockClass, s.rd R.ET_PTPCLK_acc, s.rd R.ET_PTPCLK_var, s.rd R.ET_PTPCTL_prio2,
    s.rq R.ET_PTPID, 0, s.rd R.ET_PTPCLK_tsrc, s.rd R.ET_PTPUTC_off, 8 + (if s.on R.ET_PTPUTC_valid then 4 else 0)⟩

/-- The data set that MASTER ports announce: the parent's grandmaster on a boundary clock that follows a NET slot. -/
def State.announced (s : State) : AnnRec :=
  match s.netPort with
  | some p =>
    match (s.ptp p).parent with
    | some src =>
      match (s.ptp p).foreign.find? (fun a => a.src = src) with
      | some a => if s.on R.ET_PTPCTL_bc then { a with steps := a.steps + 1 } else s.ownData
      | none => s.ownData
    | none => s.ownData
  | none => s.ownData

/-- ANNOUNCE_SEND on a MASTER port. -/
def State.announceSend (s : State) (p : Nat) : State :=
  let s := s.ptpQualify p
  if s.ptpOn p && s.ptpState p = 6 && s.ethUp p then
    let x := s.ptp p
    let a := s.announced
    let b := zeros 10 ++ beBytes 2 a.utc ++ zeros 1 ++ beBytes 1 a.p1 ++ beBytes 1 a.cls ++ beBytes 1 a.acc ++ beBytes 2 a.var
      ++ beBytes 1 a.p2 ++ beBytes 8 a.gm ++ beBytes 2 a.steps ++ beBytes 1 a.tsrc
    let s' := s.setPtp p { x with aSeq := (x.aSeq + 1) % 65536 }
    s'.ptpSend p false false (s.ptpHead p 11 64 a.flags 0 x.aSeq 5 (logByte (s.rd (R.ET_PTPPCTL_log_ann p))) ++ b)
  else s

/-! ## The best master clock algorithm -/

/-- Lexicographic order. -/
def lexLt : List Nat → List Nat → Bool
  | a :: x, b :: y => decide (a < b) || (a == b && lexLt x y)
  | _, _ => false

/-- A data set's rank: the lower is the better. Equal grandmasters are told apart by steps and sender. -/
def AnnRec.rank (a : AnnRec) : List Nat := [a.p1, a.cls, a.acc, a.var, a.p2, a.gm, a.steps, a.src]

/-- The best of a list of records. -/
def bestRec (l : List AnnRec) : Option AnnRec := l.find? (fun a => l.all (fun b => !lexLt b.rank a.rank))

/-- Erbest: the best qualified foreign master of a port. -/
def State.erBest (s : State) (p : Nat) : Option AnnRec :=
  bestRec ((s.ptp p).foreign.filter (fun a => decide (2 ≤ a.seen ∧ a.steps < 255)))

/-- The data set D0 as the algorithm compares it: class 248 while the device follows a NET slot. -/
def State.d0 (s : State) : AnnRec := if s.netPort.isSome then { s.ownData with cls := 248 } else s.ownData

/-- The state the algorithm gives port p, and its parent. `ebest`: the best record of all ports, with its port. `gone`: the
announce receipt timeout passed on it. A port that is not up initialises, or is faulty once it has been up. (PRESUMED: log
entry 193.) -/
def State.decide1 (s : State) (p : Nat) (ebest : Option (Nat × AnnRec)) (gone : Bool) : Nat × Option Nat :=
  let cur := if s.ptpState p < 4 then 4 else s.ptpState p
  let er := s.erBest p
  let d := s.d0
  if !s.ptpOn p then (3, none)
  else if !s.ethUp p then (if s.ptpState p = 3 ∨ s.ptpState p = 1 then 1 else 2, none)
  else if s.rd (R.ET_PTPPCTL_role p) = 1 then (6, none)
  else if s.rd (R.ET_PTPPCTL_role p) = 2 then
    match er with
    | some a => (9, some a.src)
    | none => (4, none)
  else
    match er with
    | none =>
      if cur = 4 ∧ !gone then (4, none) else (6, none)
    | some a =>
      if d.cls < 128 then if lexLt d.rank a.rank then (6, none) else (7, none)
      else
        match ebest with
        | some (q, b) =>
          if lexLt d.rank b.rank then (6, none)
          else if q = p then (9, some a.src)
          else if b.gm = a.gm then (7, none) else (5, none)
        | none => (6, none)

/-- The qualification timeout of a port beside a better master: the clock's steps removed and one more announce intervals, in
units of the counter. (PRESUMED: log entry 193.) -/
def State.qualTime (s : State) (p : Nat) : Nat :=
  let steps := ((bestRec (((List.range 8).filter s.ptpOn).filterMap s.erBest)).map AnnRec.steps).getD 0 + 1
  let log := toSigned 4 (s.rd (R.ET_PTPPCTL_log_ann p))
  (steps + 1) * (if log < 0 then 1000000000 / 2 ^ (-log).toNat else 1000000000 * 2 ^ log.toNat) * nsUnit

/-- Port p takes its state: a new parent starts in UNCALIBRATED, and a port that is to be MASTER beside a better master waits in
PRE_MASTER. -/
def State.ptpMove (s : State) (p : Nat) (d : Nat × Option Nat) : State :=
  let x := s.ptp p
  if d.1 = 9 then
    if x.parent = d.2 ∧ (s.ptpState p = 8 ∨ s.ptpState p = 9) then s
    else
      let keep := s.on R.ET_PTPCTL_profile
      let s := s.setPtp p { x with
        parent := d.2, sync := none, last := none, dreq := none, mpd := if keep then x.mpd else [] }
      s.wr (R.ET_PTPPSTAT_state p) 8
  else
    let fgn := if d.1 < 4 then [] else x.foreign
    let y := { x with parent := none, sync := none, last := none, dreq := none, foreign := fgn }
    if d.1 = 5 then
      if s.ptpState p = 5 ∨ s.ptpState p = 6 then s.setPtp p y
      else (s.setPtp p { y with qualAt := s.tb.t + s.qualTime p }).wr (R.ET_PTPPSTAT_state p) 5
    else (s.setPtp p y).wr (R.ET_PTPPSTAT_state p) d.1

/-- Master selection runs on every port. -/
def State.ptpSelect (s : State) (gone : Option Nat) : State :=
  let s := s.fold (List.range 8) (·.ptpQualify ·)
  let all := ((List.range 8).filter s.ptpOn).filterMap (fun p => (s.erBest p).map (fun a => (p, a)))
  let eb := all.find? (fun q => all.all (fun r => !lexLt (r.2.rank ++ [r.1]) (q.2.rank ++ [q.1])))
  let ds := (List.range 8).map (fun p => (p, s.decide1 p eb (gone = some p)))
  s.fold ds (fun s d => s.ptpMove d.1 d.2)

/-- ANNOUNCE_RECEIPT_TIMEOUT: the port forgets its foreign masters and selection runs again. -/
def State.announceTimeout (s : State) (p : Nat) : State :=
  if s.ptpOn p then (s.setPtp p { s.ptp p with foreign := [] }).ptpSelect (some p) else s

/-! ## Receiving -/

/-- meanPathDelay: the mean over the last 16 exchanges. -/
def State.meanDelay (s : State) (p : Nat) : Option Int :=
  match (s.ptp p).mpd with
  | [] => none
  | l => some (l.sum / l.length)

/-- A path delay joins the last 16. -/
def State.noteDelay (s : State) (p : Nat) (d : Int) : State :=
  let x := s.ptp p
  let s := s.setPtp p { x with mpd := (d :: x.mpd).take 16 }
  s.wq (R.ET_PTPMPD p) (ofSigned 64 ((s.meanDelay p).getD 0))

/-- A completed exchange: offsetFromMaster, in SLAVE offered to the type N slots of the port (R258). -/
def State.offerOffset (s : State) (p : Nat) : State :=
  match (s.ptp p).last, s.meanDelay p with
  | some (t1, t2), some d =>
    let off := t2 - t1 - d
    let s := (s.wq (R.ET_PTPOFF p) (ofSigned 64 off)).wr (R.ET_PTPPSTAT_state p) 9
    s.fold [4, 5] (fun s r =>
      if s.rd (R.REF_CFG_port r) = p && s.refState r != 0 then s.refSample r off false else s)
  | _, _ => s

/-- A Sync's times are complete: `t1` is its origin time with corrections. -/
def State.syncDone (s : State) (p : Nat) (t1 t2 : Int) : State :=
  let t1' := t1 + toSigned 32 (s.rd (R.ET_PTPASYM_v p))
  (s.setPtp p { s.ptp p with last := some (t1', t2), sync := none }).offerOffset p

/-- A message's sender. -/
def srcOf (m : Bytes) : Nat := beAt m 20 10

/-- A message's sequence number. -/
def seqOf (m : Bytes) : Nat := beAt m 30 2

/-- The port follows the sender of a message. -/
def State.fromParent (s : State) (p : Nat) (m : Bytes) : Bool :=
  (s.ptpState p = 8 || s.ptpState p = 9) && (s.ptp p).parent == some (srcOf m)

/-- Sync. -/
def State.takeSync (s : State) (p : Nat) (m : Bytes) (ticks : Nat) : State :=
  let s := s.inc (R.ET_PTPCNT p 0)
  if !s.fromParent p m then s
  else
    let t2 := s.ingress p ticks
    let c := corrPs (beAt m 8 8)
    if (byteAt m 6).testBit 1 then s.setPtp p { s.ptp p with sync := some (seqOf m, t2, c) }
    else s.syncDone p (stampPs m 34 + c) t2

/-- Follow_Up. -/
def State.takeFollowUp (s : State) (p : Nat) (m : Bytes) : State :=
  match (s.ptp p).sync with
  | some (q, t2, c) =>
    if s.fromParent p m && q = seqOf m then s.syncDone p (stampPs m 34 + c + corrPs (beAt m 8 8)) t2 else s
  | none => s

/-- Delay_Req on a MASTER port: answered with Delay_Resp. -/
def State.takeDelayReq (s : State) (p : Nat) (m : Bytes) (ticks : Nat) : State :=
  if s.ptpState p = 6 then
    let t := stampBytes (s.ingress p ticks)
    s.ptpSend p false false (s.ptpHead p 9 54 0 (corrPs (beAt m 8 8) - t.2) (seqOf m) 3 (logByte (s.rd (R.ET_PTPPCTL_log_dreq p)))
      ++ t.1 ++ beBytes 10 (srcOf m))
  else s

/-- Delay_Resp: completes a delay exchange. -/
def State.takeDelayResp (s : State) (p : Nat) (m : Bytes) : State :=
  match (s.ptp p).dreq, (s.ptp p).last with
  | some (q, t3), some (t1, t2) =>
    if s.fromParent p m && q = seqOf m && beAt m 44 10 = s.portId p then
      let t4 := stampPs m 34 - corrPs (beAt m 8 8)
      ((s.setPtp p { s.ptp p with dreq := none }).noteDelay p (((t2 - t1) + (t4 - t3)) / 2)).offerOffset p
    else s
  | _, _ => s

/-- Pdelay_Req: answered with Pdelay_Resp and, in two-step, Pdelay_Resp_Follow_Up. -/
def State.takePdelayReq (s : State) (p : Nat) (m : Bytes) (ticks : Nat) : State :=
  let t2 := s.ingress p ticks
  let t3 := s.egress p
  let c := corrPs (beAt m 8 8)
  let id := beBytes 10 (srcOf m)
  if s.on (R.ET_PTPPCTL_one_step p) then
    s.ptpSend p true true (s.ptpHead p 3 54 0 (c + (t3 - t2)) (seqOf m) 5 0x7F ++ zeros 10 ++ id)
  else
    let a := stampBytes t2
    let b := stampBytes t3
    let s := s.ptpSend p true true (s.ptpHead p 3 54 0x0200 (-a.2) (seqOf m) 5 0x7F ++ a.1 ++ id)
    s.ptpSend p false true (s.ptpHead p 10 54 0 (c + b.2) (seqOf m) 5 0x7F ++ b.1 ++ id)

/-- Pdelay_Resp: one-step completes the exchange. -/
def State.takePdelayResp (s : State) (p : Nat) (m : Bytes) (ticks : Nat) : State :=
  match (s.ptp p).preq with
  | some (q, t1) =>
    if q = seqOf m && beAt m 44 10 = s.portId p then
      let t4 := s.ingress p ticks
      let c := corrPs (beAt m 8 8) + toSigned 32 (s.rd (R.ET_PTPASYM_v p))
      if (byteAt m 6).testBit 1 then s.setPtp p { s.ptp p with presp := some (q, stampPs m 34 - c, t4) }
      else (s.setPtp p { s.ptp p with preq := none }).noteDelay p ((t4 - t1 - c) / 2)
    else s
  | none => s

/-- Pdelay_Resp_Follow_Up: completes a peer delay exchange. -/
def State.takePdelayFollow (s : State) (p : Nat) (m : Bytes) : State :=
  match (s.ptp p).preq, (s.ptp p).presp with
  | some (q, t1), some (q', t2, t4) =>
    if q = seqOf m && q' = seqOf m && beAt m 44 10 = s.portId p then
      let t3 := stampPs m 34 + corrPs (beAt m 8 8)
      (s.setPtp p { s.ptp p with preq := none, presp := none }).noteDelay p (((t4 - t1) - (t3 - t2)) / 2)
    else s
  | _, _ => s

/-- Announce: the foreign master's record is updated and selection runs. -/
def State.takeAnnounce (s : State) (p : Nat) (m : Bytes) : State :=
  let s := s.inc (R.ET_PTPCNT p 1)
  let src := srcOf m
  if src / 65536 = s.rq R.ET_PTPID then s
  else
    let x := s.ptp p
    let k := ((x.foreign.find? (fun a => a.src = src)).map AnnRec.seen).getD 0
    let a : AnnRec := ⟨src, min 2 (k + 1), byteAt m 47, byteAt m 48, byteAt m 49, beAt m 50 2, byteAt m 52, beAt m 53 8,
      beAt m 61 2, byteAt m 63, beAt m 44 2, byteAt m 7⟩
    (s.setPtp p { x with foreign := x.foreign.filter (fun b => b.src ≠ src) ++ [a] }).ptpSelect none

/-- The shortest a message of a type is. -/
def ptpLen (typ : Nat) : Nat :=
  if typ = 0 ∨ typ = 1 ∨ typ = 8 then 44 else if typ = 11 then 64 else 54

/-- A message that reached port p: of a supported type, version and domain it is accepted; otherwise it is counted in
drop_other (R257). -/
def State.ptpTake (s : State) (p : Nat) (m : Bytes) (ticks : Nat) : State :=
  let typ := byteAt m 0 % 16
  let p2p := s.on R.ET_PTPCTL_profile
  let known : Bool := typ = 0 || typ = 8 || typ = 11 || (if p2p then typ = 2 || typ = 3 || typ = 10 else typ = 1 || typ = 9)
  if !s.ptpOn p then s.inc (R.ET_CNT p 2)
  else if !known || byteAt m 1 % 16 != 2 || byteAt m 4 != s.rd R.ET_PTPCTL_domain || decide (m.length < ptpLen typ) then
    s.inc (R.ET_PTPCNT p 3)
  else
    let s := s.inc (R.ET_CNT p 1)
    if typ = 0 then s.takeSync p m ticks
    else if typ = 1 then s.takeDelayReq p m ticks
    else if typ = 2 then s.takePdelayReq p m ticks
    else if typ = 3 then s.takePdelayResp p m ticks
    else if typ = 8 then s.takeFollowUp p m
    else if typ = 9 then s.takeDelayResp p m
    else if typ = 10 then s.takePdelayFollow p m
    else s.takeAnnounce p m

/-- A message arrives on an Ethernet port that is up. (DEDUCED: log entry 124.) -/
def State.ptpArrive (s : State) (p : Nat) (m : Bytes) (ticks : Nat) : State :=
  if s.ethUp p then s.ptpTake p m ticks else s

/-- The IEEE 1588 message in a frame, by the transport of its port; none when the frame holds none. -/
def State.ptpIn (s : State) (p : Nat) (f : Bytes) : Option Bytes :=
  let et := beAt f 12 2
  let tr := s.rd (R.ET_PTPPCTL_transport p)
  let port (x : Nat) : Bool := x = 319 || x = 320
  if et = 0x88F7 ∧ tr = 0 then some (f.drop 14)
  else if et = 0x0800 ∧ tr = 1 ∧ byteAt f 23 = 17 then
    let o := 14 + byteAt f 14 % 16 * 4
    if port (beAt f (o + 2) 2) then some (f.drop (o + 8)) else none
  else if et = 0x86DD ∧ tr = 2 ∧ byteAt f 20 = 17 ∧ port (beAt f 56 2) then some (f.drop 62)
  else none

/-- ETHERNET_FRAME_RECEIVE (R155): `f` from the destination address to the end of the payload; codewords corrected and
uncorrectable since the last frame. -/
def State.etherTake (s : State) (p : Nat) (fcsOk : Bool) (f : Bytes) (ticks corr uncorr : Nat) : State :=
  if !s.ethUp p then s
  else
    let s := (s.incBy (R.ET_CNT p 5) corr).incBy (R.ET_CNT p 6) uncorr
    if !fcsOk then s.inc (R.ET_CNT p 4)
    else if beAt f 12 2 = 0x8808 then s.inc (R.ET_CNT p 3)
    else
      match s.ptpIn p f with
      | some m => s.ptpTake p m ticks
      | none => s.inc (R.ET_CNT p 2)

/-- ETH_ALIGNMENT_LOSS with what follows for IEEE 1588 and type N references (R155, R231). -/
def State.ethLost (s : State) (p : Nat) : State :=
  if s.ethUp p then ((s.ethLoss p).ptpSelect none).refPortDown true p else s

/-- ETH_LINK_UP. -/
def State.ethRise (s : State) (p : Nat) : State := (s.ethUpNow p).ptpSelect none

end Sys2Proof.Machine
end

