-- ==== Sys2Proof/Machine/Hbm.lean ====
section
/-! DEFINITION. HBM: transaction slots (R279), service order and promotion (R281, R282), refresh and temperature (R284
to R286), neighbour refresh (R287, R288), errors and what they do (R289, R290), scrubbing and sparing (R291, R292),
training (R293). Memory contents never depend on when a request is served. -/

namespace Sys2Proof.Machine

def State.hchan (s : State) (st c : Nat) : HbmChan := smapGet default s.hm.chan (st * 32 + c)

def State.setHchan (s : State) (st c : Nat) (x : HbmChan) : State :=
  { s with hm := { s.hm with chan := smapSet default s.hm.chan (st * 32 + c) x } }

def State.hstk (s : State) (st : Nat) : HbmStack := smapGet default s.hm.stk st

def State.setHstk (s : State) (st : Nat) (x : HbmStack) : State :=
  { s with hm := { s.hm with stk := smapSet default s.hm.stk st x } }

/-- HM_STKs.state: 0 = absent; 1 = training; 2 = ready; 3 = self-refresh; 4 = retraining; 5 = failed. -/
def State.stkState (s : State) (st : Nat) : Nat := s.rd (R.HM_STK_state st)

/-- Stack and channel of an HBM address (R278). -/
def State.hbmPlace (s : State) (x : Nat) : Nat × Nat :=
  if s.stacks = 4 then (getBits x 12 2, getBits x 14 5) else (getBits x 12 3, getBits x 15 5)

/-- A row of a stack as one number: channel, pseudo-channel, bank and row. -/
def rowId (chan pc bank row : Nat) : Nat := ((chan % 32 * 2 + pc % 2) * 32 + bank % 32) * 2 ^ 32 + row % 2 ^ 32

/-! ## Transaction slots (R279) -/

/-- Table 13-2. -/
def slotShare (cls : Nat) : Nat := [32, 256, 384, 768, 128, 64].getD cls 0

/-- Requests in the slots of a stack. -/
def State.slotsOf (s : State) (st : Nat) : List HbmReq := (List.range 32).flatMap (fun c => (s.hchan st c).queue)

/-- A request of a class finds a slot: a reserved one, or one of the shared pool. -/
def State.slotFor (s : State) (st cls : Nat) : Bool :=
  let l := s.slotsOf st
  let used (k : Nat) : Nat := (l.filter (fun r => r.cls = k)).length
  let shared := ((List.range 6).map (fun k => used k - slotShare k)).sum
  decide (used cls < slotShare cls ∨ shared < 416)

/-- A request comes to a channel: it takes a slot, or waits at its source. -/
def State.admitReq (s : State) (st c : Nat) (r : HbmReq) : State :=
  if s.slotFor st r.cls then
    let x := s.hchan st c
    let s := s.setHchan st c { x with queue := x.queue ++ [r] }
    s.wr (R.HM_STKHW_slot_hw st) (max (s.rd (R.HM_STKHW_slot_hw st)) (s.slotsOf st).length)
  else
    let k := s.hstk st
    s.setHstk st { k with waiting := k.waiting ++ [(c, r)] }

/-- Requests that wait take the slots that have become free, oldest first. -/
def State.admitWaiting (s : State) (st : Nat) : State :=
  let l := (s.hstk st).waiting
  (s.setHstk st { s.hstk st with waiting := [] }).fold l (fun s p => s.admitReq st p.1 p.2)

/-! ## What an error does (R289, R290) -/

/-- A row is due to be spared (R292). -/
def State.dueSpare (s : State) (st row origin : Nat) : State :=
  let k := s.hstk st
  if k.spareQ.any (fun q => q.1 = row) || k.spared.contains row || k.copy.any (fun q => q.1 = row) then s
  else s.setHstk st { k with spareQ := k.spareQ ++ [(row, origin)] }

/-- A corrected word. -/
def State.eccCorrected (s : State) (st row : Nat) : State :=
  (((s.inc (R.HM_CNT st 0)).flag R.HM_STATUS_ce).health 6 st 0 (row % 65536) s.curRound)

/-- An uncorrectable word: counted, latched behind HM_ERR, poisoned, its row due to be spared; E187. (DEDUCED: log entry 132.) -/
def State.eccPoisoned (s : State) (st chan cls bank row pc col word : Nat) : State :=
  let s := ((s.inc (R.HM_CNT st 1)).flag R.HM_STATUS_ue).health 6 st 2 (row % 65536) s.curRound
  let w := 2 ^ 31 + cls % 8 * 2 ^ 28 + st % 8 * 2 ^ 25 + chan % 32 * 2 ^ 20 + pc % 2 * 2 ^ 19 + bank % 32 * 2 ^ 14 + col % 256 * 2 ^ 6
  let s := { s with hm := { s.hm with err := (w, row, s.curRound), poison := smapSet false s.hm.poison word true } }
  (s.dueSpare st (rowId chan pc bank row) 2).fire 187

/-- A segment containing a poisoned word is withheld: its sequence number stays unused. -/
def State.withhold (s : State) (st stream inst seg : Nat) : State :=
  match s.ot.insts.find? (fun x => x.stream = stream && x.inst = inst) with
  | some x =>
    if decide (seg < x.segs) && !smapGet false x.sent seg then (s.inc (R.HM_CNT st 2)).markSent x seg else s
  | none => s

/-- POISON_REACTION (Table 13-3). -/
def State.poisonReact (s : State) (st : Nat) : HbmUse → State
  | .board => if s.bd.cur.isSome then { s with bd := { s.bd with poison := true } } else s
  | .beam => if s.ba.round.isSome then { s with ba := { s.ba with poison := true, fail := some 0 } } else s
  | .drain g area c a b =>
    let old := s.wgtGet g area c a b
    ((s.recPut g area c a b (s.recGet g area c a b) sentinel).noteMark g old sentinel false).impair s.curRound
  | .detect x w b h => (s.spoilDet (detKey x w b h)).impair s.curRound
  | .output stream inst seg => s.withhold st stream inst seg
  | .staging p b =>
    match s.nextVoltage p b with
    | some (sc, j, _, _, _, _) =>
      ({ s with ba := { s.ba with vpos := smapSet 0 s.ba.vpos (p * 2048 + b) (sc * 4096 + j + 1) } }).inc (R.HM_CNT st 2)
    | none => s
  | .master _ => { s with resp := ⟨[], true⟩ }

/-! ## Service (R281, R282, R287) -/

/-- Bytes that promoted requests may take in 1 µs of a channel: 64,000 bytes of bursts, budget of 64 (R282). (DEDUCED: log entry 130.) -/
def State.promBytes (s : State) : Nat := s.rd R.HM_PROMO_budget * 1000

/-- Promoted bytes served in the last 1 µs. -/
def State.promUsed (s : State) (x : HbmChan) : Nat := ((x.prom.filter (fun p => s.nowNs < p.1 + 1000)).map Prod.snd).sum

/-- No maintenance command may issue within 10 µs after a run of R285 (R286). -/
def State.maintFree (s : State) (x : HbmChan) : Bool := x.runEnd == 0 || decide (x.runEnd + 10000 ≤ s.nowNs)

/-- The request a channel serves next among those whose bank is ready (R281). -/
def State.pickReq (s : State) (x : HbmChan) (ready : List Nat) : Option HbmReq :=
  let l := x.queue.filter (fun r => ready.contains r.bank && (!r.nbr || s.maintFree x))
  let c0 := l.find? (fun r => r.cls = 0)
  let pr := l.find? (fun r => r.promoted && decide (s.promUsed x + r.bytes ≤ s.promBytes))
  let own := [1, 2, 3, 4, 5].findSome? (fun k =>
    match l.find? (fun r => r.cls = k && r.promoted) with
    | some r => some r
    | none => l.find? (fun r => r.cls = k))
  match c0, pr with
  | some r, _ => some r
  | none, some r => some r
  | none, none => own

/-- NEIGHBOUR_REFRESH (R287, R288): an activate of a row may schedule a refresh of its neighbours. (DEDUCED: log entry 131.) -/
def State.neighbour (s : State) (st c bank row draw : Nat) : State :=
  if !s.on R.HM_CTL_nr_en then s
  else
    let k := s.rd R.HM_CTL_nr_k
    let r : HbmReq := ⟨0, bank, row, 0, none, s.nowNs, false, true⟩
    if s.hm.trngFb then
      let x := s.hchan st c
      let n := smapGet 0 x.acts bank + 1
      let hit := decide (2 ^ k ≤ n)
      let s := s.setHchan st c { x with acts := smapSet 0 x.acts bank (if hit then 0 else n) }
      if hit then s.admitReq st c r else s
    else if draw % 2 ^ k = 0 then s.admitReq st c r
    else s

/-- One request leaves its slot and is done. -/
def State.serveReq (s : State) (st c : Nat) (r : HbmReq) (v : HbmService) : State :=
  let x := s.hchan st c
  let pr := if r.promoted then x.prom.filter (fun p => s.nowNs < p.1 + 1000) ++ [(s.nowNs, r.bytes)] else x.prom
  let s := s.setHchan st c { x with queue := x.queue.erase r, prom := pr }
  let s := s.admitWaiting st
  if r.nbr then s.inc (R.HM_CNT st 3)
  else
    let s := if v.act then s.neighbour st c r.bank r.row v.draw else s
    match r.use with
    | none => s
    | some u =>
      if v.ecc = 0 then s
      else if v.ecc = 1 then s.eccCorrected st r.row
      else (s.eccPoisoned st c r.cls r.bank r.row v.pc v.col v.word).poisonReact st u

/-- HBM_REQUEST_SERVE: requests come to a channel, and at its command opportunity it serves one whose bank is ready. On
a stack that failed training every access is answered as poisoned (R293). -/
def State.hbmServe (s : State) (st c : Nat) (new : List HbmArrival) (ready : List Nat) (v : HbmService) : State :=
  if s.stkState st = 5 then s.fold new (fun s a => match a.use with
    | some u => s.poisonReact st u
    | none => s)
  else if s.stkState st ≠ 2 then s
  else
    let s := s.fold new (fun s a => s.admitReq st c ⟨a.cls, a.bank, a.row, a.bytes, a.use, s.nowNs, false, false⟩)
    let x := s.hchan st c
    if s.nowNs < x.block then s
    else
      match s.pickReq x ready with
      | some r => s.serveReq st c r v
      | none => s

/-- The age limit of a class in ns; C0 has none (R282). -/
def State.ageLimit (s : State) (cls : Nat) : Option Nat :=
  if cls = 1 then some (s.rd R.HM_AGE0_c1 * 100) else if cls = 2 then some (s.rd R.HM_AGE0_c2 * 100)
  else if cls = 3 then some (s.rd R.HM_AGE1_c3 * 100) else if cls = 4 then some (s.rd R.HM_AGE1_c4 * 100)
  else if cls = 5 then some (s.rd R.HM_AGE2_c5 * 100) else none

/-- A request has waited longer than its class's age limit. -/
def State.overAge (s : State) (r : HbmReq) : Bool :=
  match s.ageLimit r.cls with
  | some a => !r.promoted && decide (r.arr + a < s.nowNs)
  | none => false

/-- AGE_PROMOTION: the requests of a channel over their age limit are promoted. -/
def State.agePromote (s : State) (st c : Nat) : State :=
  let x := s.hchan st c
  let n := (x.queue.filter s.overAge).length
  (s.setHchan st c { x with queue := x.queue.map (fun r => if s.overAge r then { r with promoted := true } else r) }).incBy
    (R.HM_CNT st 5) n

/-! ## Refresh and temperature (R284 to R286) -/

/-- The allowance of owed intervals. -/
def State.allowed (s : State) (st : Nat) : Nat :=
  if s.on (R.HM_STK_hot st) then min (s.rd R.HM_CTL_pp_max) 4 else s.rd R.HM_CTL_pp_max

/-- HM_STKs.owed_max. -/
def State.showOwed (s : State) (st : Nat) : State :=
  s.wr (R.HM_STK_owed_max st) (min 8 (((List.range 32).map (fun c => (s.hchan st c).owed)).foldl max 0))

/-- REFRESH_DUE: a channel's tREFI has elapsed. `paid`: the controller found banks that no waiting request needs and
paid one interval per bank. An all-bank refresh follows when the owed count reaches the allowance. -/
def State.refreshDue (s : State) (st c : Nat) (paid : Bool) : State :=
  if s.stkState st ≠ 2 then s
  else
    let x := s.hchan st c
    let o := x.owed + 1
    let x' : HbmChan :=
      if !s.maintFree x then { x with owed := o }
      else if paid then { x with owed := o - 1 }
      else if s.allowed st ≤ o then { x with owed := o - 1, block := max x.block (s.nowNs + 400) }
      else { x with owed := o }
    (s.setHchan st c x').showOwed st

/-- A stack becomes hot: every channel pays what it owes at once and a row copy is abandoned (R285). -/
def State.stackHot (s : State) (st : Nat) : State :=
  let s := s.fold (List.range 32) (fun s c =>
    let x := s.hchan st c
    let e := max x.block s.nowNs + 400 * x.owed
    if x.owed = 0 then s else s.setHchan st c { x with owed := 0, block := e, runEnd := e })
  let k := s.hstk st
  let s := match k.copy with
    | some r => s.setHstk st { k with copy := none, spareQ := r :: k.spareQ }
    | none => s
  let s := ((s.wr (R.HM_STK_hot st) 1).wr R.HM_STATUS_hot (setBit (s.rd R.HM_STATUS_hot) st true)).inc (R.HM_CNT st 4)
  s.showOwed st

/-- A stack becomes cool. -/
def State.stackCool (s : State) (st : Nat) : State :=
  (s.wr (R.HM_STK_hot st) 0).wr R.HM_STATUS_hot (setBit (s.rd R.HM_STATUS_hot) st false)

/-- HBM_TEMPERATURE_READ in °C. -/
def State.hbmTemp (s : State) (st temp : Nat) : State :=
  if s.stkState st = 0 ∨ s.stkState st = 3 then s
  else
    let s := s.wr (R.HM_STK_temp_c st) (min temp 255)
    let k := s.hstk st
    let hot := s.on (R.HM_STK_hot st)
    if !hot && decide (s.rd R.HM_TCTL_hot_c ≤ temp) then (s.setHstk st { k with cool := 0 }).stackHot st
    else if temp + s.rd R.HM_TCTL_hyst_c ≤ s.rd R.HM_TCTL_hot_c then
      let start := if k.cool = 0 then s.nowNs + 1 else k.cool
      let s := s.setHstk st { k with cool := start }
      if hot && decide (s.rd R.HM_TCTL_hold_ms * 1000000 ≤ s.nowNs + 1 - start) then s.stackCool st else s
    else s.setHstk st { k with cool := 0 }

/-! ## The random generator (R288) -/

/-- TRNG_HEALTH_FAIL. -/
def State.trngFail (s : State) : State :=
  if s.hm.trngFb then s
  else
    let s := { s with hm := { s.hm with trngFb := true } }
    (s.flag R.HM_STATUS_trng_fb).health 6 0 1 0 s.curRound

/-- TRNG_RETRY: the generator is tested again and passes or not. -/
def State.trngRetry (s : State) (passes : Bool) : State :=
  if s.hm.trngFb && passes then
    let clear := s.hm.chan.map (fun p => (p.1, { p.2 with acts := [] }))
    ({ s with hm := { s.hm with trngFb := false, chan := clear.filter (fun p => p.2 ≠ default) } }).wr R.HM_STATUS_trng_fb 0
  else s

/-! ## Scrubbing and sparing (R291, R292) -/

/-- SCRUB_READ of a word in scrub pass `pass`: 0 = no error; 1 = corrected, written back unless a write was accepted since;
2 = uncorrectable, left poisoned. -/
def State.scrubRead (s : State) (st c bank row pc col word pass outcome : Nat) (newer : Bool) : State :=
  if !s.on R.HM_CTL_scrub_en || s.stkState st != 2 || !s.maintFree (s.hchan st c) then s
  else if outcome = 0 then s
  else if outcome = 1 then
    let s := (s.eccCorrected st row).when (!newer) (·.inc (R.HM_CNT st 6))
    let k := s.hstk st
    let id := rowId c pc bank row
    let seen := smapGet [] k.ceRows id
    let seen := if seen.contains pass then seen else seen ++ [pass]
    let s := s.setHstk st { k with ceRows := smapSet [] k.ceRows id seen }
    if 3 ≤ seen.length then s.dueSpare st id 2 else s
  else s.eccPoisoned st c 0 bank row pc col word

/-- ROW_SPARE: the Arbiter starts to copy the oldest row due; with no spare left it stays in use. -/
def State.rowSpare (s : State) (st : Nat) : State :=
  let k := s.hstk st
  match k.copy, k.spareQ with
  | none, (id, origin) :: rest =>
    let c := id / 2 ^ 32 / 64
    if s.stkState st ≠ 2 || !s.maintFree (s.hchan st c) || s.ig.arbDown then s
    else if 64 ≤ s.rd (R.HM_STKSP_spares_used st) then
      (s.setHstk st { k with spareQ := rest }).wr (R.HM_STK_spare_out st) 1
    else
      let x := s.hchan st c
      (s.setHstk st { k with copy := some (id, origin), spareQ := rest }).setHchan st c { x with block := max x.block s.nowNs + 200 }
  | _, _ => s

/-- Detail and row of a sparing's repair-log record (Table 18-8). -/
def spareDetail (id : Nat) : Nat × Nat := (id / 2 ^ 32 % 2048 * 32, id % 2 ^ 32)

/-- A row is in a spare from now on. -/
def State.useSpare (s : State) (st id : Nat) : State :=
  let k := s.hstk st
  (s.setHstk st { k with copy := none, spared := k.spared ++ [id], ceRows := smapSet [] k.ceRows id [] }).wr
    (R.HM_STKSP_spares_used st) (s.rd (R.HM_STKSP_spares_used st) + 1)

/-- ROW_COPY_COMPLETE: the row is remapped, counted and recorded in the repair log. -/
def State.rowCopied (s : State) (st : Nat) : State :=
  match (s.hstk st).copy with
  | some (id, origin) => ((s.useSpare st id).inc (R.HM_CNT st 7)).logRepair 2 st (spareDetail id).1 (spareDetail id).2 origin
  | none => s

/-- PHY_CENTRING of one channel blocks it for at most 200 ns (R293). -/
def State.phyCentre (s : State) (st c : Nat) : State :=
  let x := s.hchan st c
  if s.stkState st = 2 && s.maintFree x then s.setHchan st c { x with block := max x.block (s.nowNs + 200) } else s

/-- HBM_TRAINING_DONE: the stack is ready, or failed. -/
def State.trainingDone (s : State) (st : Nat) (ok : Bool) : State :=
  if s.stkState st = 1 ∨ s.stkState st = 4 then
    let s := s.wr (R.HM_STK_state st) (if ok then 2 else 5)
    { s with hm := { s.hm with retrain := s.hm.retrain.filter (· ≠ st) } }
  else s

end Sys2Proof.Machine
end

