-- ==== Sys2Proof/Machine/Asp.lean ====
section
/-! DEFINITION. The Auxiliary Signal Processors: instructions, delay slots, repeats, interrupts, streams and core control
(chapter 16). -/

namespace Sys2Proof.Machine

/-! ## Registers and memories -/

/-- A core's state. -/
def State.core (s : State) (n : Nat) : SpCore := smapGet default s.sp.core n

/-- Gives a core a state. -/
def State.setCore (s : State) (n : Nat) (c : SpCore) : State :=
  { s with sp := { s.sp with core := smapSet default s.sp.core n c } }

/-- The core's state number (SP_STAT.state): 0 RESET, 1 STOPPED, 2 RUNNING, 3 WAITING, 4 FAULT, 5 SUSPENDED. -/
def State.spState (s : State) (n : Nat) : Nat := s.rd (R.SP_STAT_state n)

/-- The register's number in the window, in the bank in use (ST.bank). -/
def State.spReg (s : State) (n i : Nat) : Nat := i + 64 * s.rd (R.SP_STAT_bank n)

/-- The newest value of a register of the bank in use. -/
def State.spGet (s : State) (n i : Nat) : Nat := smapGet 0 (s.core n).reg (s.spReg n i)

/-- What a consumer in a register's delay slots reads: the value from before the producer (R328). -/
def State.spView (s : State) (n view i : Nat) : Nat :=
  let r := s.spReg n i
  match (s.core n).late.find? (fun l => l.view = view && l.reg = r) with
  | some l => l.old
  | none => smapGet 0 (s.core n).reg r

/-- Writes a register with no delay slot: consumers see it at once. -/
def State.spSet (s : State) (n i v : Nat) : State :=
  let c := s.core n
  let r := s.spReg n i
  s.setCore n { c with
    reg := smapSet 0 c.reg r v
    late := c.late.filter (fun l => l.reg ≠ r) }

/-- Writes a register that consumers of one kind see `slots` instructions later. (DEDUCED: log entry 137.) -/
def State.spLate (s : State) (n view slots i v : Nat) : State :=
  let c := s.core n
  let r := s.spReg n i
  let e : AspLate := ⟨view, r, smapGet 0 c.reg r, slots + 1⟩
  s.setCore n { c with
    reg := smapSet 0 c.reg r v
    late := c.late ++ [e] }

/-- A register's value as other consumers than those in the delay slots of the view 0 load read it. -/
def State.spD (s : State) (n : Nat) (d : Fin 16) : Nat := s.spView n 0 d.val

/-- A signed value of w bits. -/
def signed (w x : Nat) : Int := if x < 2 ^ (w - 1) then (x : Int) else (x : Int) - 2 ^ w

/-- A data register as a signed number. -/
def State.spInt (s : State) (n : Nat) (d : Fin 16) : Int := signed 32 (s.spD n d)

/-- A word of a core's memories: P from 0, X from 0x8000, Y from 0xC000. -/
def State.spWord (s : State) (n w : Nat) : Nat := (smapGet 0 s.sp.mem (n * 65536 + w)).toNat

/-- Writes a word of a core's memories. -/
def State.setSpWord (s : State) (n w v : Nat) : State :=
  { s with sp := { s.sp with mem := smapSet 0 s.sp.mem (n * 65536 + w) (BitVec.ofNat 32 v) } }

/-- The low w bits of a fresh free value, and the value taken. -/
def State.spFree (s : State) (w : Nat) : Nat × State := ((Config.freeBits s.fresh).toNat % 2 ^ w, s.tick)

/-! ## One instruction -/

/-- What an instruction, or an iteration of a repeat, comes to: it executed; it waits for a word or for space; it waits for
the external window (write or read, address, data); or it faulted with a code of R342. -/
inductive AspOut where
  | done (s : State)
  | wait
  | extern (write : Bool) (addr data : Nat)
  | fault (code : Nat)

/-- What an instruction does: from the state, the word the external window answered with, if it has, and the iteration. -/
abbrev AspBody := State → Option Nat → Nat → AspOut

/-- True while the core executes: RUNNING, or STOPPED within a step, and no external access outstanding. -/
def State.spRuns (s : State) (n : Nat) : Bool :=
  (s.spState n = 2 || (s.core n).stepping) && (s.core n).ext.isNone

/-- An accepting boundary (R329). -/
def SpCore.accepting (c : SpCore) : Bool := c.br.isNone && c.rpt.isNone && c.ext.isNone

/-- A fault (R342): the core stops at the instruction. -/
def State.spFault (s : State) (n code : Nat) : State :=
  let s := s.setCore n { s.core n with
    stepping := false
    stopReq := false
    susReq := false
    ext := none }
  (((s.wr (R.SP_STAT_state n) 4).wr (R.SP_STAT_fcode n) code)).flag ⟨R.SP_FAULT, n, 1⟩

/-- Empties a core's FIFOs and latched headers. -/
def State.spEmpty (s : State) (n : Nat) : State :=
  s.setCore n { s.core n with
    inQ := []
    outQ := []
    hdrNew := [] }

/-- What a boundary brings about: a stop, a suspension or the end of a step takes effect at an accepting one (R329). -/
def State.spBoundary (s : State) (n : Nat) : State :=
  let c := s.core n
  if !c.accepting then s
  else if c.stepping then s.setCore n { c with stepping := false }
  else if c.stopReq then (s.setCore n { c with stopReq := false, susReq := false }).wr (R.SP_STAT_state n) 1
  else if c.susReq then ((s.setCore n { c with susReq := false }).wr (R.SP_STAT_state n) 5).spEmpty n
  else s

/-- One instruction has executed: delay slots run down, and it is counted. -/
def State.spTicked (s : State) (n : Nat) : State :=
  let c := s.core n
  let late := (c.late.map (fun l => { l with left := l.left - 1 })).filter (fun l => l.left ≠ 0)
  (s.setCore n { c with late := late }).inc (R.SP_CNT n 0)

/-- The next program counter, and the end of a branch's delay slots (R328, R333). -/
def State.spAdvance (s : State) (n : Nat) : State :=
  let c := s.core n
  let next := (s.rd (R.SP_PC_pc n) + 1) % 32768
  let s :=
    match c.br with
    | none => s.wr (R.SP_PC_pc n) next
    | some b =>
      if 1 < b.left then (s.setCore n { c with br := some { b with left := b.left - 1 } }).wr (R.SP_PC_pc n) next
      else
        let s := s.setCore n { c with br := none }
        if b.reti then (s.wr (R.SP_PC_pc n) c.rpc).wr (R.SP_STAT_bank n) 0
        else s.wr (R.SP_PC_pc n) (b.target.getD next)
  s.spBoundary n

/-- The iterations of one instruction: `k` remain, the next is number `t` of the command. -/
def aspTurns (body : AspBody) (i : Instr) (n : Nat) (rep : Bool) : Nat → Nat → Option Nat → State → State
  | 0, _, _, s => (s.when rep (fun s => s.setCore n { s.core n with rpt := none })).spAdvance n
  | k + 1, t, x, s =>
    let keep (s : State) : State := s.when rep (fun s => s.setCore n { s.core n with rpt := some (k + 1) })
    match body s x t with
    | .done s => aspTurns body i n rep k (t + 1) none (s.spTicked n)
    | .wait => keep s
    | .extern w a d =>
      let e : AspExt := ⟨w, a, d, i⟩
      let s := keep s
      s.setCore n { s.core n with ext := some e }
    | .fault c => s.spFault n c

/-- The target of a repeat comes from the repeat cache, or enters it (R331). -/
def State.spCache (s : State) (n : Nat) : State :=
  let c := s.core n
  let pc := s.rd (R.SP_PC_pc n)
  s.setCore n { c with cache := (pc :: c.cache.filter (· ≠ pc)).take 16 }

/-- A core executes an instruction; `ctl` marks class 0x0 and RPT, which fault in a delay slot and as a repeat's target
(R328, R330). (DESIGN CHOICE: log entry 136.) -/
def State.aspExec (s : State) (n : Nat) (ctl : Bool) (i : Instr) (body : AspBody) : State :=
  if s.spRuns n then
    let c := s.core n
    if ctl && !(c.br.isNone && c.rpt.isNone) then s.spFault n 2
    else
      match c.rpt with
      | none => aspTurns body i n false 1 0 none s
      | some k => aspTurns body i n true k 0 none (s.spCache n)
  else s

/-! ## Flags and results (R327) -/

/-- Reduces an exact result to w bits: the value, and whether it left the range. -/
def reduceTo (w : Nat) (sat : Bool) (x : Int) : Nat × Bool :=
  let hi : Int := 2 ^ (w - 1) - 1
  let lo : Int := -(2 ^ (w - 1))
  let out := decide (x < lo ∨ hi < x)
  let y : Int := if out && sat then (if x < lo then lo else hi) else x
  ((y % 2 ^ w).toNat, out)

/-- ST takes a value that a flag test sees at once. -/
def State.spStatusSet (s : State) (n v : Nat) : State :=
  let c := s.core n
  let r := s.spReg n 41
  s.setCore n { c with
    reg := smapSet 0 c.reg r v
    late := c.late.filter (fun l => !(l.reg = r && l.view = 4)) }

/-- ST with the flags an arithmetic result leaves; `acc` marks an accumulator destination. -/
def flagWord (st : Nat) (acc v z neg c : Bool) : Nat :=
  let st := setBit (setBit (setBit (setBit st 0 z) 1 neg) 2 c) 3 v
  let st := if v then setBit st 4 true else st
  if v && acc then setBit st 5 true else st

/-- Sets the flags after an arithmetic result. -/
def State.spFlags (s : State) (n : Nat) (acc v z neg c : Bool) : State :=
  s.spStatusSet n (flagWord (s.spGet n 41) acc v z neg c)

/-- A flag the spec does not define after this instruction. (DESIGN CHOICE: log entry 139.) -/
def State.spFreeBit (s : State) : Bool × State := ((s.spFree 1).1 = 1, s.tick)

/-- The same flags, seen by a flag test one instruction later (Table 16-6): the producer is a multiply-accumulate. -/
def State.spFlagsLate (s : State) (n : Nat) (v z neg c : Bool) : State :=
  s.spLate n 4 1 41 (flagWord (s.spGet n 41) true v z neg c)

/-! ## Operand addresses (R324) -/

/-- A pointer stepped by `step`, within its buffer when the modifier's length is not 0. (DEDUCED: log entry 140.) -/
def stepPtr (p m : Nat) (step : Int) : Nat :=
  let l := m / 65536
  if l = 0 then (((p : Int) + step) % 65536).toNat
  else
    let b := l * (p / l)
    (b + (((p : Int) - b + step) % l).toNat) % 65536

/-- An operand's address, and the pointer's new value when the mode changes it; none for mode 7. -/
def State.spAddr (s : State) (n : Nat) (o : AspMem) : Option (Nat × Option Nat) :=
  let p := s.spView n 1 (16 + o.ptr)
  let m := s.spView n 1 (24 + o.ptr)
  let inc := signed 16 (m % 65536)
  match o.mode.val with
  | 0 => some (p, none)
  | 1 => some (p, some (stepPtr p m 1))
  | 2 => some (p, some (stepPtr p m (-1)))
  | 3 => some (p, some (stepPtr p m inc))
  | 4 => some (p, some (stepPtr p m (-inc)))
  | 5 => some (stepPtr p m inc, none)
  | 6 => some (stepPtr p m (-inc), none)
  | _ => none

/-- Post-modifies a pointer: its next use sees it. -/
def State.spBump (s : State) (n : Nat) (o : AspMem) (p : Option Nat) : State :=
  match p with
  | none => s
  | some v => s.spSet n (16 + o.ptr) v

/-- The device address behind a Y address of the external window (R339). -/
def State.spWindow (s : State) (n a : Nat) : Nat := s.rq (R.SP_XWIN n) + 4 * (a - 0x4000)

/-- What a memory read comes to: a word, a wait for the external window, or a fault. -/
inductive AspRead where
  | word (v : Nat)
  | extern (addr : Nat)
  | fault (code : Nat)

/-- A read of space X (0), Y (1) or P (2). -/
def State.spRead (s : State) (n space a : Nat) (x : Option Nat) : AspRead :=
  if space = 0 then (if a < 0x4000 then .word (s.spWord n (0x8000 + a)) else .fault 3)
  else if space = 1 then
    if a < 0x4000 then .word (s.spWord n (0xC000 + a))
    else if a < 0x8000 then
      match x with
      | some v => .word v
      | none => .extern (s.spWindow n a)
    else .fault 3
  else if a < 0x8000 then .word (s.spWord n a)
  else .word ((Config.freeBits s.fresh).toNat % 2 ^ 32)

/-- The ECC of the words read in iteration t: an uncorrectable word faults, a corrected one is counted (R323, R340). -/
def State.spEcc (s : State) (n t : Nat) (e : AspEcc) : Option State :=
  if e.turn = t ∧ e.kind = 2 then none
  else if e.turn = t ∧ e.kind = 1 then some ((s.inc (R.SP_CNT n 4)).flag (R.SP_STAT_ce n))
  else some s

/-! ## Control (class 0x0) and repeat -/

/-- A branch is taken or not after two delay slots. -/
def State.spBranch (s : State) (n : Nat) (target : Option Nat) (reti : Bool) : State :=
  let b : AspBranch := ⟨target, 3, reti⟩
  s.setCore n { s.core n with br := some b }

/-- The condition of a BRcc; none when the number is reserved. -/
def State.spCond (s : State) (n : Nat) (c : Nat) : Option Bool :=
  let st := s.spView n 4 41
  let f (i : Nat) : Bool := getBits st i 1 = 1
  match c with
  | 0 => some true
  | 1 => some (f 0)
  | 2 => some (!f 0)
  | 3 => some (f 1)
  | 4 => some (!f 1)
  | 5 => some (f 3)
  | 6 => some (!f 3)
  | 7 => some (f 2)
  | 8 => some (!f 2)
  | _ => none

/-- BR and BRcc. -/
def aspBranchBody (n : Nat) (cond target : Nat) : AspBody := fun s _ _ =>
  match s.spCond n cond with
  | none => .fault 1
  | some t => .done (s.spBranch n (if t then some target else none) false)

/-- CALL pushes the address after its delay slots; a ninth nested one faults (R333). -/
def aspCallBody (n target : Nat) : AspBody := fun s _ _ =>
  let c := s.core n
  if 8 ≤ c.stack.length then .fault 6
  else
    let s := s.setCore n { c with stack := (s.rd (R.SP_PC_pc n) + 3) % 32768 :: c.stack }
    .done (s.spBranch n (some target) false)

/-- RET pops; with the stack empty it faults (R333). -/
def aspRetBody (n : Nat) : AspBody := fun s _ _ =>
  match (s.core n).stack with
  | [] => .fault 6
  | t :: r => .done ((s.setCore n { s.core n with stack := r }).spBranch n (some t) false)

/-- LOOPNZ decrements LC and branches while it is not zero. -/
def aspLoopBody (n target : Nat) : AspBody := fun s _ _ =>
  let lc := (s.spView n 2 40 + 65535) % 65536
  let s := s.spSet n 40 lc
  .done (s.spBranch n (if lc = 0 then none else some target) false)

/-- WAIT: no instruction executes until an interrupt is accepted (Table 16-8). -/
def aspWaitBody (n : Nat) : AspBody := fun s _ _ =>
  .done (s.when (s.spState n = 2) (·.wr (R.SP_STAT_state n) 3))

/-- EI and DI: interrupt acceptance sees the change two instructions later. -/
def aspEnableBody (n : Nat) (on : Bool) : AspBody := fun s _ _ =>
  .done (s.spLate n 5 2 41 (setBit (s.spGet n 41) 6 on))

/-- RETI returns after its delay slots to RPC and the main bank (R333). -/
def aspRetiBody (n : Nat) : AspBody := fun s _ _ => .done (s.spBranch n none true)

/-- SIG raises event output o of the core: producer 48 + 2n + o. -/
def aspSigBody (n o : Nat) : AspBody := fun s _ _ => .done (s.fire (48 + 2 * n + o))

/-- HINT sets the core's bit of SP_HINT and fires interrupt source 48 + n. -/
def aspHintBody (n : Nat) : AspBody := fun s _ _ => .done ((s.flag ⟨R.SP_HINT, n, 1⟩).irq (48 + n))

/-- RPT: the count is that of the field plus 1, or LC, which must be 1–4,096. -/
def aspRptBody (n : Nat) (count : Option (BitVec 12)) : AspBody := fun s _ _ =>
  let k := (count.map (fun c => c.toNat + 1)).getD (s.spGet n 40)
  if k = 0 ∨ 4096 < k then .fault 7
  else .done (s.setCore n { s.core n with rpt := some k })

/-! ## Moves (classes 0x2, 0x3, 0xB) -/

/-- A register's window number and width; none for a special register. -/
def regPlace : AspReg → Option (Nat × Nat)
  | .d i => some (i.val, 32)
  | .p i => some (16 + i.val, 16)
  | .m i => some (24 + i.val, 32)
  | .a i => some (32 + i.val, 40)
  | .lc => some (40, 16)
  | .st => some (41, 16)
  | _ => none

/-- ST as software reads it: bit 12 a repeat in progress, bit 11 the bank (Table 16-3). -/
def State.spStatus (s : State) (n : Nat) : Nat :=
  putBits (putBits (s.spGet n 41) 12 1 (if (s.core n).rpt.isSome then 1 else 0)) 11 1 (s.rd (R.SP_STAT_bank n))

/-- A register that a move or field instruction reads: its value and width. -/
def State.spSource (s : State) (n : Nat) (r : AspReg) : Option (Nat × Nat) :=
  match r with
  | .st => some (s.spStatus n, 16)
  | .d i => some (s.spD n i, 32)
  | _ => (regPlace r).map (fun p => (s.spGet n p.1, p.2))

/-- A register written by a move (Table 16-6): a pointer or modifier is seen by address generation two instructions later,
LC by LOOPNZ one later, ST by interrupt acceptance two later. (DEDUCED: log entry 138.) -/
def State.spMoveTo (s : State) (n : Nat) (r : AspReg) (v : Nat) : State :=
  match r with
  | .p i => s.spLate n 1 2 (16 + i.val) (v % 2 ^ 16)
  | .m i => s.spLate n 1 2 (24 + i.val) (v % 2 ^ 32)
  | .lc => s.spLate n 2 1 40 (v % 2 ^ 16)
  | .st => (s.spLate n 5 2 41 (v % 2 ^ 11)).spStatusSet n (v % 2 ^ 11)
  | .rpc => s.setCore n { s.core n with rpc := v % 2 ^ 15 }
  | _ =>
    match (regPlace r) with
    | some (i, w) => s.spSet n i (v % 2 ^ w)
    | none => s

/-- MOVI: one half of a register. -/
def aspMoviBody (n : Nat) (dst : AspReg) (high : Bool) (imm : BitVec 16) : AspBody := fun s _ _ =>
  match (regPlace dst) with
  | none => .fault 1
  | some (i, _) => .done (s.spMoveTo n dst (putBits (s.spGet n i) (if high then 16 else 0) 16 imm.toNat))

/-- The stream an output port drives: its destination number, ASP or buffer, and input port. -/
def State.outDst (s : State) (n k : Nat) : Nat × Nat × Nat :=
  (s.rd (R.SP_OUTCFG_dst n k), s.rd (R.SP_OUTCFG_idx n k), s.rd (R.SP_OUTCFG_port n k))

/-- A word goes to OUTk (R338); none while the FIFO is full. -/
def State.outPush (s : State) (n k w : Nat) : Option State :=
  let (d, i, p) := s.outDst n k
  let q := smapGet [] (s.core n).outQ k
  if d = 0 then some s
  else if d = 2 ∧ s.rd (R.SP_INCFGA_src i p) ≠ 2 then some (s.inc (R.SP_CNT n 2))
  else if 1024 ≤ q.length then none
  else some (s.setCore n { s.core n with outQ := smapSet [] (s.core n).outQ k (q ++ [w]) })

/-- A value moved to a wider place: the spec does not state the upper bits. -/
def State.spWiden (s : State) (v from' to' : Nat) : Nat × State :=
  if from' < to' then (v + 2 ^ from' * (s.spFree (to' - from')).1, s.tick) else (v, s)

/-- A value goes to the destination of a MOV. -/
def State.spPut (s : State) (n : Nat) (dst : AspReg) (v w : Nat) (load : Bool) : AspOut :=
  match dst with
  | .reserved => .fault 1
  | .inp _ => .fault 1
  | .hmsg => .fault 1
  | .out k =>
    let (v, s) := s.spWiden v w 32
    match s.outPush n k.val (v % 2 ^ 32) with
    | none => .wait
    | some s => .done s
  | .d i =>
    let (v, s) := s.spWiden v w 32
    .done (if load then s.spLate n 0 1 i.val (v % 2 ^ 32) else s.spSet n i.val (v % 2 ^ 32))
  | .rpc => .done (s.spMoveTo n .rpc v)
  | r =>
    let (v, s) := s.spWiden v w (((regPlace r).map Prod.snd).getD 16)
    .done (s.spMoveTo n r v)

/-- MOV (class 0x3). -/
def aspMovBody (n : Nat) (dst src : AspReg) : AspBody := fun s _ _ =>
  match src with
  | .reserved => .fault 1
  | .out _ => .fault 1
  | .hmsg => s.spPut n dst (s.rd (R.SP_HMSG_msg n)) 32 false
  | .rpc => s.spPut n dst (s.core n).rpc 16 false
  | .inp k =>
    match smapGet [] (s.core n).inQ k.val with
    | [] => match dst with
      | .reserved => .fault 1
      | .inp _ => .fault 1
      | .hmsg => .fault 1
      | _ => .wait
    | w :: rest =>
      (s.setCore n { s.core n with inQ := smapSet [] (s.core n).inQ k.val rest }).spPut n dst w 32 true
  | r =>
    match s.spSource n r with
    | none => .fault 1
    | some (v, w) => s.spPut n dst v w false

/-- MODP: a pointer steps within its buffer (R324). -/
def aspModpBody (n : Nat) (ptr : Fin 8) (step : BitVec 16) : AspBody := fun s _ _ =>
  .done (s.spMoveTo n (.p ptr) (stepPtr (s.spGet n (16 + ptr)) (s.spGet n (24 + ptr)) step.toInt))

/-- EXT: a bit field, zero-extended; bits beyond the source register are not stated. -/
def aspExtBody (n : Nat) (dst src : AspReg) (pos width1 : Nat) : AspBody := fun s _ _ =>
  match (regPlace dst), s.spSource n src with
  | some _, some (v, w) =>
    let (v, s) := s.spWiden v w (max w (pos + width1 + 1))
    .done (s.spMoveTo n dst (getBits v pos (width1 + 1)))
  | _, _ => .fault 1

/-- INS: the low bits of the source at a place of the destination. -/
def aspInsBody (n : Nat) (dst src : AspReg) (pos width1 : Nat) : AspBody := fun s _ _ =>
  match s.spSource n dst, s.spSource n src with
  | some (old, _), some (v, w) =>
    let (v, s) := s.spWiden v w (max w (width1 + 1))
    .done (s.spMoveTo n dst (putBits old pos (width1 + 1) v))
  | _, _ => .fault 1

/-! ## Loads and stores (class 0x4) -/

/-- LOAD: one delay slot. -/
def aspLoadBody (n : Nat) (y : Bool) (op : AspMem) (dst : Fin 16) (e : AspEcc) : AspBody := fun s x t =>
  match s.spAddr n op with
  | none => .fault 1
  | some (a, p) =>
    match s.spRead n (if y then 1 else 0) a x with
    | .fault c => .fault c
    | .extern d => .extern false d 0
    | .word v =>
      match s.spEcc n t e with
      | none => .fault 5
      | some s => .done ((s.spLate n 0 1 dst.val v).spBump n op p)

/-- STORE. -/
def aspStoreBody (n : Nat) (y : Bool) (op : AspMem) (src : Fin 16) : AspBody := fun s x _ =>
  match s.spAddr n op with
  | none => .fault 1
  | some (a, p) =>
    let v := s.spD n src
    if a < 0x4000 then .done ((s.setSpWord n ((if y then 0xC000 else 0x8000) + a) v).spBump n op p)
    else if y && decide (a < 0x8000) then
      match x with
      | some _ => .done (s.spBump n op p)
      | none => .extern true (s.spWindow n a) v
    else .fault 3

/-! ## ALU (classes 0x5 and 0x6) -/

/-- The operations of the ALU. -/
inductive AluOp where
  | add | sub | and | or | xor | shl | shr | asr | min | max | abs | neg | cmp
  deriving DecidableEq, Repr

/-- A signed number from a bit pattern of 32. -/
def bits32 (x : Nat) : Int := signed 32 (x % 2 ^ 32)

/-- The exact result; none where the spec states none (a shift amount outside 0–31). -/
def aluExact (o : AluOp) (a b : Int) : Option Int :=
  let ua := (a % 2 ^ 32).toNat
  let ub := (b % 2 ^ 32).toNat
  let amount : Bool := decide (0 ≤ b ∧ b < 32)
  match o with
  | .add => some (a + b)
  | .sub => some (a - b)
  | .cmp => some (a - b)
  | .and => some (bits32 (Nat.land ua ub))
  | .or => some (bits32 (Nat.lor ua ub))
  | .xor => some (bits32 (Nat.xor ua ub))
  | .shl => if amount then some (a * 2 ^ b.toNat) else none
  | .shr => if amount then some (bits32 (ua / 2 ^ b.toNat)) else none
  | .asr => if amount then some (a / 2 ^ b.toNat) else none
  | .min => some (min a b)
  | .max => some (max a b)
  | .abs => some (if a < 0 then -a else a)
  | .neg => some (-a)

/-- The second source of an ALU instruction. -/
def State.spSrc (s : State) (n : Nat) : AspSrc → Int
  | .reg i => s.spInt n i
  | .imm x => x.toInt

/-- An ALU instruction: the result reduced to 32 bits, and the flags. The carry is defined for ADD alone. -/
def aspAluBody (n : Nat) (o : AluOp) (sat : Bool) (dst : Option (Fin 16)) (a : Fin 16) (b : AspSrc) : AspBody := fun s _ _ =>
  let x := s.spInt n a
  let y := s.spSrc n b
  let (r, v, s) : Nat × Bool × State :=
    match aluExact o x y with
    | some e => ((reduceTo 32 sat e).1, (reduceTo 32 sat e).2, s)
    | none =>
      let (r, s) := s.spFree 32
      let (v, s) := s.spFreeBit
      (r, v, s)
  let (c, s) : Bool × State :=
    if o = .add then (decide (2 ^ 32 ≤ (x % 2 ^ 32).toNat + (y % 2 ^ 32).toNat), s) else s.spFreeBit
  let s := s.spFlags n false v (r = 0) (decide (2 ^ 31 ≤ r)) c
  match dst with
  | none => .done s
  | some d => .done (s.spSet n d.val r)

/-! ## Multiply and accumulate (classes 0x7–0xA) -/

/-- An accumulator as a signed number; MOVA, ADDA and SHA see a multiply-accumulate one instruction later. -/
def State.spAcc (s : State) (n : Nat) (a : Nat) : Int := signed 40 (s.spView n 3 (32 + a))

/-- The newest value of an accumulator. -/
def State.spAccNew (s : State) (n : Nat) (a : Nat) : Int := signed 40 (s.spGet n (32 + a))

/-- A half of a data register. -/
def State.spHalf (s : State) (n : Nat) (h : AspHalf) : Int :=
  signed 16 (getBits (s.spD n h.reg) (if h.high then 16 else 0) 16)

/-- MPY, MAC and MSU: `f` makes the exact new accumulator from the old one and the product. -/
def aspMulBody (n : Nat) (f : Int → Int → Int) (sat : Bool) (acc : Fin 4) (a b : AspHalf) (par : AspPar) (e : AspEcc) : AspBody :=
  fun s x t =>
  match s.spAddr n par.op with
  | none => .fault 1
  | some (ad, p) =>
    match s.spRead n (if par.y then 1 else 0) ad x with
    | .fault c => .fault c
    | .extern d => .extern false d 0
    | .word w =>
      match s.spEcc n t e with
      | none => .fault 5
      | some s =>
        let r := reduceTo 40 sat (f (s.spAccNew n acc) (s.spHalf n a * s.spHalf n b))
        let s := s.spLate n 3 1 (32 + acc) r.1
        let (c, s) := s.spFreeBit
        let s := s.spFlagsLate n r.2 (r.1 = 0) (decide (2 ^ 39 ≤ r.1)) c
        .done ((s.spLate n 0 1 par.dst.val w).spBump n par.op p)

/-- The parts of a complex word. -/
def complexParts (w : Nat) : Int × Int := (signed 16 (getBits w 16 16), signed 16 (w % 65536))

/-- The two part sums of x · h, or of x · conj(h) (R326). -/
def complexProduct (conj : Bool) (x h : Nat) : Int × Int :=
  let (xr, xi) := complexParts x
  let (hr, hi) := complexParts h
  let hi := if conj then -hi else hi
  (xr * hr - xi * hi, xr * hi + xi * hr)

/-- A complex product enters an accumulator pair; whether a part left its range. -/
def State.spPair (s : State) (n : Nat) (sat : Bool) (a : Nat) (p : Int × Int) : State × Bool :=
  let r := reduceTo 40 sat (s.spAccNew n a + p.1)
  let i := reduceTo 40 sat (s.spAccNew n (a + 1) + p.2)
  ((s.spLate n 3 1 (32 + a) r.1).spLate n 3 1 (32 + a + 1) i.1, r.2 || i.2)

/-- The flags after accumulations into the accumulators listed; n and c are not defined for several parts. -/
def State.spPairFlags (s : State) (n : Nat) (v : Bool) (accs : List Nat) : State :=
  let z := accs.all (fun a => s.spGet n (32 + a) = 0)
  let (neg, s) := s.spFreeBit
  let (c, s) := s.spFreeBit
  s.spFlagsLate n v z neg c

/-- CMAC: Aa:Aa+1 += x · h. -/
def aspCmacBody (n : Nat) (sat conj : Bool) (pair : Fin 2) (x : AspMem) (hp : Bool) (h : AspMem) (e : AspEcc) : AspBody :=
  fun s w t =>
  if x.ptr = h.ptr then .fault 1
  else
    match s.spAddr n x, s.spAddr n h with
    | some (xa, xp), some (ha, hpn) =>
      match s.spRead n 0 xa none, s.spRead n (if hp then 2 else 1) ha w with
      | .fault c, _ => .fault c
      | _, .fault c => .fault c
      | .word xv, .word hv =>
        match s.spEcc n t e with
        | none => .fault 5
        | some s =>
          let s := s.when hp (·.tick)
          let a := 2 * pair.val
          let (s, v) := s.spPair n sat a (complexProduct conj xv hv)
          .done (((s.spPairFlags n v [a, a + 1]).spBump n x xp).spBump n h hpn)
      | _, .extern d => .extern false d 0
      | .extern d, _ => .extern false d 0
    | _, _ => .fault 1

/-- CMAC2: A0:A1 += x · h and A2:A3 += y · h. -/
def aspCmac2Body (n : Nat) (sat conj : Bool) (x y h : AspMem) (e : AspEcc) : AspBody :=
  fun s w t =>
  if x.ptr = h.ptr ∨ x.ptr = y.ptr ∨ y.ptr = h.ptr then .fault 1
  else
    match s.spAddr n x, s.spAddr n y, s.spAddr n h with
    | some (xa, xp), some (ya, yp), some (ha, hp) =>
      match s.spRead n 0 xa none, s.spRead n 1 ya w, s.spRead n 2 ha none with
      | .fault c, _, _ => .fault c
      | _, .fault c, _ => .fault c
      | .word xv, .word yv, .word hv =>
        match s.spEcc n t e with
        | none => .fault 5
        | some s =>
          let s := s.tick
          let (s, v0) := s.spPair n sat 0 (complexProduct conj xv hv)
          let (s, v1) := s.spPair n sat 2 (complexProduct conj yv hv)
          let s := s.spPairFlags n (v0 || v1) [0, 1, 2, 3]
          .done (((s.spBump n x xp).spBump n y yp).spBump n h hp)
      | _, .extern d, _ => .extern false d 0
      | _, _, _ => .fault 3
    | _, _, _ => .fault 1

/-- A right shift that rounds half to even. -/
def shiftEven (x : Int) (sh : Nat) : Int :=
  let q := x / 2 ^ sh
  let r := x % 2 ^ sh
  if 2 * r < 2 ^ sh then q
  else if 2 * r > 2 ^ sh then q + 1
  else if sh = 0 then q
  else if q % 2 = 0 then q else q + 1

/-- MOVA: accumulators shifted right, rounded, and placed in a data register (R326). -/
def aspMovaBody (n : Nat) (sat : Bool) (dst : Fin 16) (a : Fin 4) (b : Option (Fin 4)) (sh : Nat) : AspBody := fun s _ _ =>
  let x := shiftEven (s.spAcc n a) sh
  let (r, v) : Nat × Bool :=
    match b with
    | none => reduceTo 32 sat x
    | some b =>
      let h := reduceTo 16 sat x
      let l := reduceTo 16 sat (shiftEven (s.spAcc n b) sh)
      (h.1 * 65536 + l.1, h.2 || l.2)
  let (c, s) := s.spFreeBit
  .done ((s.spFlags n false v (r = 0) (decide (2 ^ 31 ≤ r)) c).spSet n dst.val r)

/-- CLRA: the accumulators of the mask become 0. -/
def aspClraBody (n : Nat) (mask : BitVec 4) : AspBody := fun s _ _ =>
  let s := s.fold [0, 1, 2, 3] (fun s a => s.when (mask.getLsbD a) (·.spSet n (32 + a) 0))
  let (c, s) := s.spFreeBit
  .done (s.spFlags n true false true false c)

/-- ADDA: an accumulator becomes the sum of two. -/
def aspAddaBody (n : Nat) (sat : Bool) (dst a b : Fin 4) : AspBody := fun s _ _ =>
  let x := s.spAcc n a
  let y := s.spAcc n b
  let r := reduceTo 40 sat (x + y)
  let c := decide (2 ^ 40 ≤ (x % 2 ^ 40).toNat + (y % 2 ^ 40).toNat)
  .done ((s.spFlags n true r.2 (r.1 = 0) (decide (2 ^ 39 ≤ r.1)) c).spSet n (32 + dst) r.1)

/-- SHA: an accumulator shifted. -/
def aspShaBody (n : Nat) (sat : Bool) (a : Fin 4) (left : Bool) (sh : Nat) : AspBody := fun s _ _ =>
  let x := s.spAcc n a
  let r := reduceTo 40 sat (if left then x * 2 ^ sh else x / 2 ^ sh)
  let (c, s) := s.spFreeBit
  .done ((s.spFlags n true r.2 (r.1 = 0) (decide (2 ^ 39 ≤ r.1)) c).spSet n (32 + a) r.1)

/-! ## The external window (R339) -/

/-- What a waiting instruction does when its access has completed. -/
def aspResume (n : Nat) : Instr → Option AspBody
  | .aspLoad _ y op dst e => some (aspLoadBody n y op dst e)
  | .aspStore _ y op src => some (aspStoreBody n y op src)
  | .aspMpy _ sat acc a b par e => some (aspMulBody n (fun _ p => p) sat acc a b par e)
  | .aspMac _ sat acc a b par e => some (aspMulBody n (fun x p => x + p) sat acc a b par e)
  | .aspMsu _ sat acc a b par e => some (aspMulBody n (fun x p => x - p) sat acc a b par e)
  | .aspCmac _ sat conj pair x hp h e => some (aspCmacBody n sat conj pair x hp h e)
  | .aspCmac2 _ sat conj x y h e => some (aspCmac2Body n sat conj x y h e)
  | _ => none

/-- The access has completed with a word, or with an error response, which faults the core (R339). (DEDUCED: log entry 141.) -/
def State.aspExternDone (s : State) (n : Nat) (x : AspExt) (answer : Option Nat) : State :=
  let s := s.setCore n { s.core n with ext := none }
  match answer, aspResume n x.instr with
  | some w, some body => aspTurns body x.instr n (s.core n).rpt.isSome ((s.core n).rpt.getD 1) 0 (some w) s
  | some _, none => s
  | none, _ => s.spFault n 4

/-! ## Interrupts (R332, R333) -/

/-- True while interrupt i of core n is pending. -/
def State.spPending (s : State) (n i : Nat) : Bool :=
  let c := s.core n
  match i with
  | 1 => s.rd (R.EV_TSTAT_pending (80 + n)) ≠ 0
  | 2 => !c.hdrNew.isEmpty || (List.range 4).any (fun k =>
      s.rd (R.SP_INCFGA_src n k) ≠ 0 && decide (s.rd (R.SP_INCFGA_thr n k) ≤ (smapGet [] c.inQ k).length))
  | 3 => (List.range 4).any (fun k => decide (s.rd (R.SP_OUTCFG_thr n k) + (smapGet [] c.outQ k).length ≤ 1024))
  | _ => c.hmsg

/-- INTERRUPT_ACCEPT: at an accepting boundary the core takes the pending unmasked interrupt with the lowest number. -/
def State.aspInterrupt (s : State) (n : Nat) : State :=
  let c := s.core n
  let st := s.spView n 5 41
  if (s.spState n = 2 ∨ s.spState n = 3) ∧ c.accepting = true ∧ s.rd (R.SP_STAT_bank n) = 0 ∧ getBits st 6 1 = 1 then
    match [1, 2, 3, 4].find? (fun i => getBits st (6 + i) 1 = 1 && s.spPending n i) with
    | none => s
    | some i =>
      let s := s.when (i = 1) (fun s => s.wr (R.EV_TSTAT_pending (80 + n)) (s.rd (R.EV_TSTAT_pending (80 + n)) - 1))
      let s := s.setCore n { c with
        rpc := s.rd (R.SP_PC_pc n)
        hdrNew := if i = 2 then [] else c.hdrNew
        hmsg := if i = 4 then false else c.hmsg }
      let s := ((s.wr (R.SP_STAT_bank n) 1).wr (R.SP_PC_pc n) (4 * i)).inc (R.SP_CNT n 3)
      s.wr (R.SP_STAT_state n) 2
  else s

/-! ## Streams (R336 to R338) -/

/-- Core n takes stream words: it is RUNNING or WAITING (R343). -/
def State.spTakes (s : State) (n : Nat) : Bool := s.spState n = 2 || s.spState n = 3

/-- The words of an output port of a core go to an input port with source 2 while there is room. -/
def State.streamMove (s : State) (n k m p : Nat) : State :=
  let q := smapGet [] (s.core m).outQ p
  let have' := smapGet [] (s.core n).inQ k
  let x := min q.length (4096 - have'.length)
  let s := s.setCore m { s.core m with outQ := smapSet [] (s.core m).outQ p (q.drop x) }
  s.setCore n { s.core n with inQ := smapSet [] (s.core n).inQ k (have' ++ q.take x) }

/-- One sample of a voltage entry as stream words: one word for 4+4 and 8+8, two for raw (R336). -/
def sampleWords (f : Nat) (x : Int × Int) : List Nat :=
  if f = 2 then [(x.1 % 2 ^ 32).toNat, (x.2 % 2 ^ 32).toNat]
  else [(x.1 % 65536).toNat * 65536 + (x.2 % 65536).toNat]

/-- A part of a stream word that no channel-set wrote: a free value. -/
def staleSample (f fresh i : Nat) : List Nat :=
  (List.range (if f = 2 then 2 else 1)).map (fun j => (Config.freeBits (fresh + (i * 2 + j + 1) * 2 ^ 40)).toNat % 2 ^ 32)

/-- The samples of entry v in round n that the port takes, in order: time outer, channel inner. Channels that are invalid
or incomplete are 0. -/
def State.streamWords (s : State) (n k r v : Nat) : List Nat :=
  let cf := s.baCfg r
  let f := cfgField cf (R.BA_VLSTA_fmt v)
  let lo := cfgField cf R.BA_VCH_vc_lo
  let c0 := s.rd (R.SP_INCFGB_chsel n k)
  let num := s.portChans n k r
  (List.range s.roundLen).flatMap (fun t => (List.range num).flatMap (fun x =>
    let c := lo + c0 + x
    let q := smapGet (0, 0, 0) s.ba.volt (voltKey r v c t)
    if s.isBad r c s.roundLen then sampleWords f (0, 0)
    else if q.2.2 = 0 then staleSample f s.fresh (t * num + x)
    else sampleWords f (q.1, q.2.1)))

/-- The header of entry v of round r (Table 16-7). -/
def State.streamHeader (s : State) (n k r v : Nat) : List Nat :=
  let cf := s.baCfg r
  let lo := cfgField cf R.BA_VCH_vc_lo
  let num := cfgField cf R.BA_VCH_vc_num
  let bad := (List.range num).any (fun x => s.isBad r (lo + x) s.roundLen)
  let lim := (List.range s.roundLen).any (fun t => (List.range num).any (fun x =>
    (smapGet (0, 0, 0) s.ba.volt (voltKey r v (lo + x) t)).2.2 = 2))
  let h := (if bad then 1 else 0) + (if lim then 2 else 0) + (if smapGet false (s.core n).dropped k then 4 else 0)
  [0xB5 * 2 ^ 24 + h * 2 ^ 16 + cfgField cf (R.BA_VLSTA_fmt v) * 2 ^ 8 + v, r % 2 ^ 32, s.roundSc r % 2 ^ 32,
   (lo + s.rd (R.SP_INCFGB_chsel n k)) % 4096 * 2 ^ 16 + s.portChans n k r]

/-- The next delivery a port owes: the oldest staged round and the lowest entry not yet delivered whole, and the words
of it delivered. -/
def State.streamNext (s : State) (n k : Nat) : Option (Nat × Nat × Nat) :=
  let (key, w) := smapGet (0, 0) (s.core n).pos k
  let all := s.ba.vdone.flatMap (fun r => (s.portEntries n k r).map (fun v => (r, v)))
  match all.find? (fun x => 64 * x.1 + x.2 + 1 = key && decide (w < s.portWords n k x.1 x.2)) with
  | some x => some (x.1, x.2, w)
  | none => (all.find? (fun x => decide (key < 64 * x.1 + x.2 + 1))).map (fun x => (x.1, x.2, 0))

/-- Voltage-beam words enter an input FIFO while there is room: the next entry's header, latched or queued, and samples. -/
def State.streamDeliver (s : State) (n k : Nat) : State :=
  match s.streamNext n k with
  | none => s
  | some (r, v, w) =>
    let latched := s.on (R.SP_INCFGA_hdr n k)
    let h := s.streamHeader n k r v
    let s :=
      if w = 0 then
        let c := s.core n
        s.setCore n { c with
          hdr := if latched then smapSet [] c.hdr k h else c.hdr
          hdrNew := if latched then c.hdrNew.filter (· ≠ k) ++ [k] else c.hdrNew
          dropped := smapSet false c.dropped k false }
      else s
    let words := (if latched then [] else h) ++ s.streamWords n k r v
    let q := smapGet [] (s.core n).inQ k
    let x := min (words.length - w) (4096 - q.length)
    let s := s.setCore n { s.core n with
      inQ := smapSet [] (s.core n).inQ k (q ++ (words.drop w).take x)
      pos := smapSet (0, 0) (s.core n).pos k (64 * r + v + 1, w + x) }
    s.tick

/-- ASP_STREAM_DELIVERY: words come to input port k of core n (R336 to R338). -/
def State.aspStream (s : State) (n k : Nat) : State :=
  if s.spTakes n then
    match s.rd (R.SP_INCFGA_src n k) with
    | 1 => s.streamDeliver n k
    | 2 =>
      match (List.range 64).find? (fun x => s.rd (R.SP_OUTCFG_dst (x / 4) (x % 4)) = 2
          && s.rd (R.SP_OUTCFG_idx (x / 4) (x % 4)) = n && s.rd (R.SP_OUTCFG_port (x / 4) (x % 4)) = k) with
      | none => s
      | some x => s.streamMove n k (x / 4) (x % 4)
    | _ => s
  else s

/-! ## Core control (R341) -/

/-- A core reset: the memories and the pending count of T(80 + n) stay. (DEDUCED: log entry 142.) -/
def State.aspReset (s : State) (n : Nat) : State :=
  let c : SpCore := default
  let s := s.setCore n { c with
    pos := (s.core n).pos
    dropped := (s.core n).dropped }
  (((s.wr (R.SP_STAT_state n) 0).wr (R.SP_STAT_bank n) 0).wr (R.SP_STAT_fcode n) 0).wr (R.SP_PC_pc n) 0

/-- SP_CTL.rst is released: the core waits at PC 0. -/
def State.aspRelease (s : State) (n : Nat) : State :=
  if s.spState n = 0 then (s.wr (R.SP_STAT_state n) 1).wr (R.SP_PC_pc n) 0 else s

/-- SP_CTL.run written 1: a STOPPED core starts, not in Endgame. -/
def State.aspRun (s : State) (n : Nat) : State :=
  if s.spState n = 1 ∧ (s.core n).stepping = false ∧ s.ck.eg = 0 then s.wr (R.SP_STAT_state n) 2 else s

/-- SP_CTL.run written 0: the core stops at the next accepting boundary. -/
def State.aspStop (s : State) (n : Nat) : State :=
  if s.spState n = 2 ∨ s.spState n = 3 then (s.setCore n { s.core n with stopReq := true }).spBoundary n
  else if s.spState n = 5 then s.wr (R.SP_STAT_state n) 1
  else s

/-- SP_CTL.step: a STOPPED core executes to the next accepting boundary, not in Endgame. -/
def State.aspStep (s : State) (n : Nat) : State :=
  if s.spState n = 1 ∧ s.ck.eg = 0 then s.setCore n { s.core n with stepping := true } else s

/-- A write of SP_CTL: reset, release, run or stop, and step. -/
def State.aspControl (s : State) (n v : Nat) : State :=
  if getBits v 2 1 = 1 then s.aspReset n
  else
    let s := s.aspRelease n
    let s := if getBits v 0 1 = 1 then s.aspRun n else s.aspStop n
    s.when (getBits v 3 1 = 1) (·.aspStep n)

/-- Endgame entry: a running core is suspended at its next accepting boundary. -/
def State.aspSuspend (s : State) (n : Nat) : State :=
  if s.spTakes n then (s.setCore n { s.core n with susReq := true }).spBoundary n else s

/-- Endgame exit: a suspended core resumes. -/
def State.aspResumeRun (s : State) (n : Nat) : State :=
  let s := s.setCore n { s.core n with susReq := false }
  if s.spState n = 5 then (s.wr (R.SP_STAT_state n) 2).flag (R.SP_STAT_eg_resume n) else s

/-- HOST_MESSAGE: a host write of SP_HMSG makes interrupt 4 pending. -/
def State.aspMessage (s : State) (n : Nat) (v : Word) : State :=
  let s := s.setWord (R.SP_HMSG n) v
  s.setCore n { s.core n with hmsg := true }

end Sys2Proof.Machine
end

