-- ==== Sys2Proof/Machine/Events.lean ====
section
/-! DEFINITION. The event fabric: gates, channels, task inputs, relays and the EVIO pins (chapter 15). -/

namespace Sys2Proof.Machine

/-- The names of the EVIO balls. -/
def evioPin (p : Nat) : String :=
  ["EVIO0", "EVIO1", "EVIO2", "EVIO3", "EVIO4", "EVIO5", "EVIO6", "EVIO7", "EVIO8", "EVIO9", "EVIO10", "EVIO11", "EVIO12",
   "EVIO13", "EVIO14", "EVIO15"].getD p "EVIO15"

/-- Gate signal Gg now (Table 15-3). -/
def State.gate (s : State) (g : Nat) : Bool :=
  if g < 16 then (if s.on (R.EV_IO_dir g) then s.ev.drive.testBit g else s.ev.level.testBit g)
  else if g = 16 then s.csState = 0 || s.csState = 3
  else if g = 17 then decide (s.rd R.REF_STATUS_tq ≤ 1)
  else if g = 18 then s.ck.eg = 0
  else if g = 19 then s.on R.AL_STATUS_cap_held
  else if g = 20 then s.bdState = 2
  else if g = 21 then s.baState = 2
  else if g < 24 then false
  else (s.rd R.EV_SWGATE_g).testBit (g - 24)

/-- The gates as EV_GATES shows them. -/
def State.gateWord (s : State) : Nat := (List.range 32).foldl (fun m g => if s.gate g then m + 2 ^ g else m) 0

/-- A counting task input (Table 15-2); the others are level inputs. -/
def taskCounts (t : Nat) : Bool := decide (t < 16 ∨ (36 ≤ t ∧ t < 40) ∨ 80 ≤ t)

/-- The task input acts on a unit that is stopped (R322): the Board and captures in Endgame, an ASP core that is STOPPED,
SUSPENDED or in FAULT (R343). -/
def State.taskIdle (s : State) (t : Nat) : Bool :=
  if t = 33 ∨ t = 34 then s.ck.eg != 0
  else if 80 ≤ t then
    let c := s.spState (t - 80)
    c = 1 || c = 4 || c = 5
  else false

/-- A task input overruns (R319). -/
def State.taskOver (s : State) (t : Nat) : State :=
  ((s.flag (R.EV_TSTAT_overrun t)).flag R.EV_STATUS_overrun).inc (R.EV_CNT 2)

/-- An event reaches a task input with its hop count (R319, R322). -/
def State.taskArrive (s : State) (t hop : Nat) : State :=
  let n := s.rd (R.EV_TSTAT_pending t)
  if s.taskIdle t then s.inc (R.EV_CNT 3)
  else if (if taskCounts t then 3 else 1) ≤ n then s.taskOver t
  else
    let s := s.wr (R.EV_TSTAT_pending t) (n + 1)
    s.when (decide (36 ≤ t ∧ t < 40)) (fun s =>
      { s with ev := { s.ev with hops := smapSet [] s.ev.hops t (smapGet [] s.ev.hops t ++ [hop]) } })

/-- Conditions 1 to 3 of R313 as they stand in `e`: fabric and channel on, group enabled, gate open. -/
def State.chanOpen (e : State) (c : Nat) : Bool :=
  e.on R.EV_CTL_en && e.on (R.EV_CHCFG_en c) && (e.rd R.EV_GRPEN_en).testBit (c / 8)
    && (!e.on (R.EV_CHCFG_gen c) || (e.gate (e.rd (R.EV_CHCFG_gsel c)) != e.on (R.EV_CHCFG_ginv c)))

/-- An event enters channel c, judged as everything stood in `e` at the instant of entry (R313). The lists collect the groups
that delivered events enable and disable. -/
def State.chanEnter (e : State) (hop c : Nat) (x : State × List Nat × List Nat) : State × List Nat × List Nat :=
  let (s, on, off) := x
  let dst := e.rd (R.EV_CHCFG_dst c)
  let kind := e.rd (R.EV_CHCFG_dkind c)
  if !e.chanOpen c then x
  else if 4 ≤ hop then (((s.flag (R.EV_CHSTAT_loop c)).flag R.EV_STATUS_loop).inc (R.EV_CNT 0), on, off)
  else if kind = 0 && (e.rd (R.EV_TSEC_sec (dst / 32))).testBit (dst % 32) && !e.on (R.EV_CHOWN_sec c) then
    (((s.flag (R.EV_CHSTAT_sec_drop c)).flag R.EV_STATUS_sec_drop).inc (R.EV_CNT 1), on, off)
  else
    let s := s.inc (R.EV_CHCNT c)
    if kind = 0 then (s.taskArrive dst (hop + 1), on, off)
    else if kind = 1 then (s, on ++ [dst % 16], off)
    else (s, on, off ++ [dst % 16])

/-- An event enters every channel whose src names it. -/
def State.eventEnter (e : State) (x : State × List Nat × List Nat) (ev : Nat × Nat) : State × List Nat × List Nat :=
  ((List.range 128).filter (fun c => e.rd (R.EV_CHCFG_src c) = ev.1)).foldl (fun x c => e.chanEnter ev.2 c x) x

/-- EVENT_DELIVERY: the oldest fired event, and `more` events after it that fired at the same instant, enter their
channels. Enables and disables of a group that meet resolve to disabled (R314). (DEDUCED: log entry 133.) -/
def State.deliverEvents (s : State) (more : Nat) : State :=
  let evs := s.evq.take (more + 1)
  let s0 := { s with evq := s.evq.drop (more + 1) }
  let (s, on, off) := evs.foldl s.eventEnter (s0, [], [])
  let m := on.foldl (fun m g => setBit m g true) (s.rd R.EV_GRPEN_en)
  s.wr R.EV_GRPEN_en (off.foldl (fun m g => setBit m g false) m)

/-- A relay executes: it fires E100 + k with the delivered hop count (R318). -/
def State.relay (s : State) (k : Nat) : State :=
  match smapGet [] s.ev.hops (36 + k) with
  | [] => s
  | h :: r => { s with
      ev := { s.ev with hops := smapSet [] s.ev.hops (36 + k) r }
      evq := s.evq ++ [(100 + k, h)] }

/-- An output pin takes a level. -/
def State.evioDrive (s : State) (p : Nat) (b : Bool) : State :=
  if s.ev.drive.testBit p = b then s
  else ({ s with ev := { s.ev with drive := setBit s.ev.drive p b } }).emit (.pin (evioPin p) b)

/-- T40 + p drives output pin p under its mode (R321). (DEDUCED: log entry 135.) -/
def State.evioAction (s : State) (p : Nat) : State :=
  if s.on (R.EV_IO_dir p) then
    let mode := s.rd (R.EV_IO_omode p)
    let s := { s with ev := { s.ev with pulse := s.ev.pulse.filter (· ≠ p) ++ (if mode = 0 then [p] else []) } }
    s.evioDrive p (if mode = 1 then !s.ev.drive.testBit p else decide (mode ≠ 3))
  else s

/-- EVIO_PULSE_END: width ns after the last execution the pulse falls. -/
def State.evioPulseEnd (s : State) (p : Nat) : State :=
  if s.ev.pulse.contains p then
    ({ s with ev := { s.ev with pulse := s.ev.pulse.filter (· ≠ p) } }).evioDrive p false
  else s

/-- EVIO_EDGE: an input pin changes its level and holds it for `held` ns. A pulse narrower than the filter is rejected and
counted; a selected edge fires E016 + p (R321). -/
def State.evioEdge (s : State) (p : Nat) (rise : Bool) (held : Nat) : State :=
  if s.on (R.EV_IO_dir p) ∨ s.ev.level.testBit p = rise then s
  else if held < s.rd (R.EV_IO_filt p) then s.inc (R.EV_CNT 4)
  else
    let s := { s with ev := { s.ev with level := setBit s.ev.level p rise } }
    s.when ((s.rd (R.EV_IO_edge p)).testBit (if rise then 0 else 1)) (·.fire (16 + p))

/-- True while an enabled channel names E016 + p or T40 + p: a write of dir is refused (R321). -/
def State.evioNamed (s : State) (p : Nat) : Bool :=
  (List.range 128).any (fun c => s.on (R.EV_CHCFG_en c) &&
    (s.rd (R.EV_CHCFG_src c) = 16 + p || (s.rd (R.EV_CHCFG_dkind c) = 0 && s.rd (R.EV_CHCFG_dst c) = 40 + p)))

/-- A pending event is taken (R319); none pending: nothing. (DEDUCED: log entry 134.) -/
def State.taskTake (s : State) (t : Nat) (act : State → State) : State :=
  let n := s.rd (R.EV_TSTAT_pending t)
  if n = 0 then s else act (s.wr (R.EV_TSTAT_pending t) (n - 1))

end Sys2Proof.Machine
end

