-- ==== Sys2Proof/Machine/Audio.lean ====
section
/-! DEFINITION. The listening post and the AES3 ports: monitor buffers, fades, frames and channel status (chapter 17). -/

namespace Sys2Proof.Machine

/-- The frame rate: 48 or 96 kHz. -/
def State.auRate (s : State) : Nat := if s.on R.AU_CTL_fs then 96000 else 48000

/-- The fill of buffer m. -/
def State.auFill (s : State) (m : Nat) : Nat := (smapGet [] s.au.queue m).length

/-- A channel takes a state (AU_CHSTAT.state): 0 SILENT, 1 RAMPING, 2 PLAYING, 3 FADING. -/
def State.auState (s : State) (m : Nat) : Nat := s.rd (R.AU_CHSTAT_state m)

/-- Steps 3 and 4 of an overrun (R357): the oldest words go until the fill is tgt, and the channel ramps. -/
def State.auRefill (s : State) (m : Nat) : State :=
  let q := smapGet [] s.au.queue m
  let x := q.length - s.rd (R.AU_CHCFG_tgt m)
  let s := (s.auSetQ m (q.drop x)).incBy (R.AU_CNT m 1) x
  (s.auFlush m false).wr (R.AU_CHSTAT_state m) 1

/-- The words of a monitor buffer. -/
def auSize : Nat := 16384

/-- A word joins the queue and the ring storage of buffer m. -/
def State.auStore (s : State) (m w : Nat) : State :=
  let p := smapGet 0 s.au.place m
  let s := { s with au := { s.au with
    ring := smapSet 0 s.au.ring (m * auSize + p) (BitVec.ofNat 32 w)
    place := smapSet 0 s.au.place m ((p + 1) % auSize) } }
  s.auSetQ m (smapGet [] s.au.queue m ++ [w])

/-- A word arrives with the buffer full (R357). -/
def State.auOverrun (s : State) (m : Nat) : State :=
  let s := ((s.inc (R.AU_CNT m 1)).flag (R.AU_CHSTAT_overrun m)).flag R.AU_STATUS_overrun
  let s := s.auFlush m true
  let s := if s.auState m == 1 || s.auState m == 2 then s.wr (R.AU_CHSTAT_state m) 3 else s
  if smapGet 0 s.au.gain m == 0 then s.auRefill m else s

/-- A word arrives at buffer m (R345, R357). -/
def State.auAppend (s : State) (m w : Nat) : State :=
  if s.on R.AU_CTL_en && s.auSilenced (m / 2) then s
  else if smapGet false s.au.flush m then s.inc (R.AU_CNT m 1)
  else if Nat.ble auSize (s.auFill m) then s.auOverrun m
  else s.auStore m w

/-- The ASP output port that names buffer m. -/
def State.auPort (s : State) (m : Nat) : Option Nat :=
  (List.range 64).find? (fun x => s.rd (R.SP_OUTCFG_dst (x / 4) (x % 4)) = 1 && s.rd (R.SP_OUTCFG_idx (x / 4) (x % 4)) = m)

/-- BUFFER_WORD_APPEND: the oldest word of the ASP port that names the buffer, or a word written over the crossbar
(R338, R346). -/
def State.auWord (s : State) (m : Nat) (x : Option Word) : State :=
  match x with
  | some w => if s.rd (R.AU_CHCFG_src m) = 2 then s.auAppend m w.toNat else s
  | none =>
    match s.auPort m with
    | none => s
    | some p =>
      let n := p / 4
      let k := p % 4
      match smapGet [] (s.core n).outQ k with
      | [] => s
      | w :: rest =>
        let s := s.setCore n { s.core n with outQ := smapSet [] (s.core n).outQ k rest }
        if s.rd (R.AU_CHCFG_src m) = 1 then s.auAppend m w else s.inc (R.SP_CNT n 2)

/-! ## Fades (R356) -/

/-- The transition a channel makes at the start of a frame. -/
def State.auTurn (s : State) (m : Nat) : State :=
  let st := s.auState m
  if (st = 1 ∨ st = 2) ∧ s.auFill m ≤ s.rd (R.AU_CHLO_lo m) then
    (((s.wr (R.AU_CHSTAT_state m) 3).inc (R.AU_CNT m 0)).flag (R.AU_CHSTAT_underrun m)).flag R.AU_STATUS_underrun
  else if st = 0 ∧ s.rd (R.AU_CHCFG_tgt m) ≤ s.auFill m then s.wr (R.AU_CHSTAT_state m) 1
  else s

/-- x · g / F, rounded half to even. -/
def gainSample (x : Int) (g f : Nat) : Int :=
  let p := x * g
  let q := p / (f : Int)
  let r := p % (f : Int)
  if 2 * r < f then q else if (f : Int) < 2 * r then q + 1 else if q % 2 = 0 then q else q + 1

/-- A word's sample with gain, and its validity bit (R347, R353). -/
def wordSample (w g f : Nat) : Int × Bool := (gainSample (signed 24 (w / 256 % 2 ^ 24)) g f, w % 2 = 1)

/-- What channel m sends in a frame: sample and validity bit, and the state after (R356, R357). -/
def State.auChannel (s : State) (m : Nat) : State × Int × Bool :=
  if s.auSilenced (m / 2) then (s.auQuiet m, 0, true)
  else
    let s := s.auTurn m
    let f := max 1 (s.rd (R.AU_CHCFG_fade m))
    let q := smapGet [] s.au.queue m
    let st := s.auState m
    let g := if st = 2 then f else smapGet 0 s.au.gain m
    let out : Int × Bool :=
      match q with
      | w :: _ => wordSample w g f
      | [] => (0, true)
    if st = 0 then (s, 0, true)
    else if st = 3 then
      let s := (s.auSetQ m q.tail).auSetG m (g - 1)
      if g ≤ 1 then
        ((if smapGet false s.au.flush m then s.auRefill m else s.wr (R.AU_CHSTAT_state m) 0), out.1, out.2)
      else (s, out.1, out.2)
    else if st = 1 then
      let s := (s.auSetQ m q.tail).auSetG m (min f (g + 1))
      (s.when (decide (f ≤ g + 1)) (·.wr (R.AU_CHSTAT_state m) 2), out.1, out.2)
    else ((s.auSetQ m q.tail).auSetG m f, out.1, out.2)

/-! ## Channel status and subframes (R351 to R355) -/

/-- The CRCC of AES3: x^8 + x^4 + x^3 + x^2 + 1 from all ones, least significant bit first. -/
def crcc (bs : Bytes) : Nat :=
  bs.foldl (fun c b =>
    (List.range 8).foldl (fun c _ => if c % 2 = 1 then Nat.xor (c / 2) 0xB8 else c / 2) (Nat.xor c b.toNat)) 0xFF

/-- The local sample address of a block that begins now (R355); without an SC epoch the spec states no value. -/
def State.auLocal (s : State) : Nat :=
  if s.sceValid then ((scAt s.tb.epoch s.tb.t - toSigned 32 (s.rd R.AU_SAOFF_off)) % 2 ^ 32).toNat
  else (Config.freeBits s.fresh).toNat % 2 ^ 32

/-- The index in its second of the frame that starts now. -/
def State.auIndex (s : State) : Nat := s.taiNs * s.auRate / 1000000000

/-- The time-of-day sample address (R355). -/
def State.auTod (s : State) : Nat := ((s.taiS % 86400) * s.auRate + s.auIndex) % 2 ^ 32

/-- The frame clock is locked: the lock bit of channel status (Table 17-3). -/
def State.auLocked (s : State) : Bool :=
  if s.on R.AU_CTL_clk then s.rd R.AU_STATUS_ref_state = 2 else decide (s.rd R.REF_STATUS_tq ≤ 3)

/-- The channel-status block of a block that begins now (Table 17-3), in the numbering and codes of AES3. (DEDUCED: log entry 145.) -/
def State.auStatus (s : State) : Bytes :=
  let fs96 := s.on R.AU_CTL_fs
  let b0 := 0x05 + (if s.auLocked then 0 else 0x20) + (if fs96 then 0 else 0x80)
  let b22 := (if s.sceValid then 0 else 0x40) + (if 4 ≤ s.rd R.REF_STATUS_tq then 0x80 else 0)
  let bs := [BitVec.ofNat 8 b0, 0x08, 0x2C, 0] ++ [if fs96 then 0x10 else 0, 0] ++ leBytes 4 (s.rd R.AU_ORIG_orig) ++ zeros 4
    ++ leBytes 4 s.auLocal ++ leBytes 4 s.auTod ++ [BitVec.ofNat 8 b22]
  bs ++ [BitVec.ofNat 8 (crcc bs)]

/-- A subframe's 32 time slots, slot i in bit i. The preamble's code stands in slots 0–3: X = 0, Y = 1, Z = 2. (PRESUMED: log entry 144.) -/
def subframe (pre : Nat) (x : Int) (v c : Bool) : BitVec 32 :=
  let body := pre + (x % 2 ^ 24).toNat * 16 + (if v then 2 ^ 28 else 0) + (if c then 2 ^ 30 else 0)
  let ones := ((List.range 27).filter (fun i => body.testBit (4 + i))).length
  BitVec.ofNat 32 (body + (if ones % 2 = 1 then 2 ^ 31 else 0))

/-- Bit f of the channel-status block. -/
def statusBit (bs : Bytes) (f : Nat) : Bool := (bs.getD (f / 8) 0).getLsbD (f % 8)

/-- The frame's place in its block, and the state at the frame's instant: on the timebase the ticks up to the next frame
instant elapse (R348); on the reference the count goes on (R349). -/
def State.auInstant (s : State) : State × Nat :=
  if s.on R.AU_CTL_clk && s.au.onRef then
    ({ s with au := { s.au with blk := (s.au.blk + 1) % 192 } }, s.au.blk)
  else
    let k := s.auIndex + 1
    let s := (s.elapseTo (s.taiS * 1000000000 * nsUnit + ceilDiv (k * 1000000000) s.auRate * nsUnit)).ticked
    let f := s.auIndex % 192
    ({ s with au := { s.au with blk := (f + 1) % 192 } }, f)

/-- Output o sends a frame. -/
def State.auOutput (s : State) (f o : Nat) : State :=
  let (s, xa, va) := s.auChannel (2 * o)
  let (s, xb, vb) := s.auChannel (2 * o + 1)
  let c := statusBit s.au.status f
  s.emit (.aes3 o (subframe (if f = 0 then 2 else 0) xa va c) (subframe 1 xb vb c))

/-- AES3_FRAME: with the listening post on, every output sends a frame. -/
def State.aesFrame (s : State) : State :=
  if s.on R.AU_CTL_en && s.hasBeam then
    let (s, f) := s.auInstant
    let s := if f = 0 ∨ s.au.status = [] then ({ s with au := { s.au with status := s.auStatus } }).tick else s
    s.fold (List.range 8) (fun s o => s.auOutput f o)
  else s

/-! ## The reference input (Table 17-2) -/

/-- AU_CTL.clk is written with en = 0: the timebase, or a new measurement of AES3_REF. -/
def State.auClock (s : State) (ref : Bool) : State :=
  let s := { s with au := { s.au with
    onRef := false
    inRange := false } }
  (s.wr R.AU_CTL_clk (if ref then 1 else 0)).wr R.AU_STATUS_ref_state (if ref then 1 else 0)

/-- AES3_REF is lost (Table 17-2): the rate is held and the state is ACQUIRE. -/
def State.auLost (s : State) : State :=
  if s.rd R.AU_STATUS_ref_state = 2 then
    let s := { s with au := { s.au with inRange := false } }
    (s.flag R.AU_STATUS_ref_lost).wr R.AU_STATUS_ref_state 1
  else s

/-- AES3_REF_MEASURE: 1 s of measurement gives the offset from fs in units of 10^-9. -/
def State.auMeasure (s : State) (off : Int) : State :=
  let st := s.rd R.AU_STATUS_ref_state
  if st = 1 ∨ st = 2 then
    let ok := decide (off.natAbs ≤ s.rd R.AU_REFCTL_range_ppm * 1000)
    let s := s.wr R.AU_REFOFF_off (off % 2 ^ 32).toNat
    if ok then { s with au := { s.au with inRange := true } }
    else if st = 2 then s.auLost
    else
      let s := { s with au := { s.au with
        inRange := false
        onRef := false } }
      (s.flag R.AU_STATUS_ref_refused).wr R.AU_STATUS_ref_state 3
  else s

/-- AES3_REF_LOCK: the buffer has held 4 frames for 1 s. -/
def State.auLock (s : State) : State :=
  if s.rd R.AU_STATUS_ref_state = 1 ∧ s.au.inRange = true then
    ({ s with au := { s.au with onRef := true } }).wr R.AU_STATUS_ref_state 2
  else s

end Sys2Proof.Machine
end

