-- ==== Sys2Proof/Machine/Castling.lean ====
section
/-! DEFINITION. Paired operation: the lease, the claim, messages, digests, joining and handover (chapter 9). -/

namespace Sys2Proof.Machine

/-- The unit's state changes; the AES3 outputs follow (Table 9-3). -/
def State.setCast (s : State) (x : Nat) : State := (s.wr R.CS_STATUS_state x).auCheck

/-! ## Taking and losing the lease -/

/-- On taking the lease, held frames below the last watermark received are discarded (R217). (DEDUCED: log entry 110.) -/
def State.discardCovered (s : State) : State :=
  s.fold (s.ot.insts.filter (fun x => x.typ < 6)) (fun s x =>
    match x.first with
    | none => s
    | some f =>
      let n := min x.segs (smapGet 0 s.cs.peerWm x.stream - f)
      s.fold (List.range n) (fun s i =>
        match s.ot.insts.find? (sameInst x) with
        | some y => s.markSent y i
        | none => s))

/-- The held instances of a stream take their numbers from `f` on (R217, R221, R224); those that `old` names are dropped.
(DEDUCED: log entry 105.) -/
def State.numberHeld (s : State) (stream f : Nat) (old : Inst → Bool) : State :=
  let mine := s.ot.insts.filter (fun x => x.stream = stream && x.first.isNone)
  let s := { s with ot := { s.ot with insts := s.ot.insts.filter (fun x => !(x.stream = stream && x.first.isNone)) } }
  let s := { (s.wq (R.OT_SEQ stream) f) with cs := { s.cs with numbered := smapSet 0 s.cs.numbered stream (f + 1) } }
  s.fold mine (fun s x => if old x then s.instDone x else s.numberInst x)

/-- On taking the lease, instances held without a number take the next numbers of their streams, at or above the last watermark.
(DESIGN CHOICE: log entry 188.) -/
def State.numberRest (s : State) : State :=
  s.fold ((s.ot.insts.filter (fun x => x.typ < 6 && x.first.isNone)).map Inst.stream).dedup (fun s st =>
    s.numberHeld st (max (s.rq (R.OT_SEQ st)) (smapGet 0 s.cs.peerWm st)) (fun _ => false))

/-- Uhlain port p resumes its voltage beams at an SC. -/
def State.ulpResume (s : State) (p sc : Nat) : State :=
  { s with ba := { s.ba with vpos := (s.ulpBeams p).foldl (fun m b => smapSet 0 m (p * 2048 + b) (sc * 4096)) s.ba.vpos } }

/-- On taking the lease, voltage beams resume on Uhlain from the first held packet whose SC the last watermark did not cover
(R217). -/
def State.resumeVoltage (s : State) : State :=
  s.fold s.ulpSources (fun s p => s.ulpResume p (smapGet 0 s.cs.peerWm (ulpStream p)))

/-- A unit claims the lease (R205): C := H + 1, a LEASE message, E095, and claim packets, before any payload.
(DESIGN CHOICE: log entry 100.) -/
def State.claimLease (s : State) (sole : Bool) : State :=
  let c := s.rq R.CS_HCLAIM + 1
  let s := (((s.wq R.CS_CLAIM c).wq R.CS_HCLAIM c).flag R.CS_STATUS_took_ev).inc (R.CS_CNT 3)
  let s := (s.wr R.CS_STATUS_sole (if sole then 1 else 0)).wr R.CS_STATUS_prep 0
  let s := { s with cs := { s.cs with
    waiting := false
    guard := false
    joined := none
    acked := true } }
  let s := (((s.setCast 3).sendLease false false 0).fire 95).claimNews
  s.fold ((List.range 16).filter (fun p => s.on (R.IN_PORTCTL_tx_en p))) (fun s p => s.claimSend p)

/-- A unit takes the lease (R205, R217): it claims it and, outside a handover, goes on with what it holds. -/
def State.takeLease (s : State) (sole : Bool) : State :=
  let s := s.claimLease sole
  if s.cs.hand.isSome then s else s.numberRest.discardCovered.resumeVoltage

/-- The active fences itself (R203): payload stops. -/
def State.fence (s : State) : State :=
  let s := { s with cs := { s.cs with
    hand := none
    handed := [] } }
  ((((s.wr R.CS_STATUS_sole 0).setCast 4).flag R.CS_STATUS_fenced_ev).inc (R.CS_CNT 4)).fire 96

/-! ## Joining (R220 to R222) -/

/-- The Pair Map digest, and the weight digests, 0 for a set not verified (R143). (DEDUCED: log entry 109.) -/
def State.weightDig (s : State) (x : Nat) : Nat :=
  if x = 0 then (if s.on R.BA_STATUS_unv_a then 0 else s.rq R.BA_WDIG_A)
  else if s.on R.BA_STATUS_unv_b then 0 else s.rq R.BA_WDIG_B

/-- S_e of the SC epoch in force; 0 without one. -/
def State.epochStart (s : State) : Nat := if s.sceValid then s.tb.epoch.sE else 0

/-- The bitstream hash a message carries: bits [63:0]. -/
def State.hash64 (s : State) : Nat := (s.word (R.CF_CFGHASH 0)).toNat + (s.word (R.CF_CFGHASH 1)).toNat * 2 ^ 32

/-- The Pair Map digest, 0 while it is not computed (R113, R220). (DEDUCED: log entry 109.) -/
def State.mapDig (s : State) : Nat := if s.on R.AG_STATUS_dig_busy then 0 else s.rq R.AG_PMDIG

/-- The body of a JOIN message (Table 9-2). -/
def State.joinBody (s : State) : Bytes :=
  leBytes 4 (s.rd R.CF_EPOCH_epoch) ++ leBytes 2 (s.rd R.TB_STATUS_epoch) ++ leBytes 1 (s.rd R.CS_CTL_prep) ++ zeros 1
    ++ leBytes 8 s.hash64 ++ leBytes 8 s.epochStart ++ leBytes 8 s.mapDig ++ leBytes 8 (s.weightDig 0)
    ++ leBytes 8 (s.weightDig 1) ++ leBytes 4 (s.rd R.TOP_ID_code)

/-- The unit sends JOIN and is unsynchronised. -/
def State.sendJoin (s : State) : State :=
  let s := { s with cs := { s.cs with waiting := false, joined := none } }
  ((s.wr R.CS_STATUS_prep 0).setCast 1).castSend 9 s.joinBody

/-- The weight sets that this unit uses now or will from a bound round. -/
def State.setsUsed (s : State) : List Nat := if s.beamOn then [0, 1].filter s.setBusy else []

/-- The answer to a JOIN: the first failing reason of R220, 9 when prepared, 0 when accepted. -/
def State.joinResult (s : State) (body : Bytes) : Nat :=
  let prep := byteAt body 6 = 1
  let r1 := leAt body 0 4 ≠ s.rd R.CF_EPOCH_epoch
  let r2 := leAt body 8 8 ≠ s.hash64
  let soft := r1 ∨ r2
  if soft ∧ ¬ prep then (if r1 then 1 else 2)
  else if leAt body 48 4 ≠ s.rd R.TOP_ID_code then 3
  else if leAt body 4 2 ≠ s.rd R.TB_STATUS_epoch then 4
  else if leAt body 16 8 ≠ s.epochStart then 5
  else if s.mapDig = 0 ∨ leAt body 24 8 ≠ s.mapDig then 6
  else if s.setsUsed.any (fun x => s.weightDig x == 0 || leAt body (32 + 8 * x) 8 != s.weightDig x) then 7
  else if s.csState ≠ 3 then 8
  else if soft then 9 else 0

/-- JOIN_RECEIVE (R220). -/
def State.joinTake (s : State) (body : Bytes) : State :=
  let r := s.joinResult body
  let s := { s with cs := { s.cs with peerPrep := decide (r = 9) } }
  s.castSend 10 (leBytes 1 r ++ zeros 7)

/-- The first round written in the unit's own slab. -/
def State.firstWritten (s : State) : Nat := if s.on R.AL_CTL_en then s.al.first else s.nextRound

/-- JRES_RECEIVE (R220, R221): an accepted joiner starts fresh. (DEDUCED: log entry 104.) -/
def State.jresTake (s : State) (body : Bytes) : State :=
  if s.csState = 1 then
    let r := byteAt body 0
    let s := s.wr R.CS_STATUS_jreason (r % 16)
    if r = 0 ∨ r = 9 then
      let s := s.wr R.CS_STATUS_prep (if r = 9 then 1 else 0)
      let s := (s.joinGroups s.firstWritten).beamVoidBefore s.firstWritten
      { s with cs := { s.cs with
        joined := some s.firstWritten
        freshG := []
        matched := []
        matchN := []
        numbered := []
        firstSeq := [] } }
    else s
  else s

/-- JOIN_SYNC_REACHED (R222): a joiner that meets the conditions becomes a synchronised standby. -/
def State.joinCheck (s : State) : State :=
  let streams := s.sourceStreams.filter (· < 195)
  if s.csState = 1 && s.cs.joined.isSome && !s.on R.CS_STATUS_prep
      && s.openGroups.all (fun g => s.cs.freshG.contains g)
      && streams.all (fun st => s.cs.matched.contains st && smapGet 0 s.cs.numbered st != 0
        && decide (smapGet 0 s.cs.numbered st ≤ smapGet 0 s.cs.peerWm st + 1)) then
    s.setCast 2
  else s

/-! ## Digests (R214) -/

/-- Two digests of one frame are compared. -/
def State.digCompare (s : State) (stream : Nat) (own peer : DigRec) : State :=
  if own.div || peer.div then s.inc (R.CS_CNT 8)
  else if own.dig = peer.dig then
    let k := stream * 2 ^ 64 + own.first
    let n := smapGet 0 s.cs.matchN k + 1
    let s := { s with cs := { s.cs with matchN := smapSet 0 s.cs.matchN k n } }
    let s := s.when (n = own.segs && !s.cs.matched.contains stream) (fun s =>
      { s with cs := { s.cs with matched := s.cs.matched ++ [stream] } })
    s.inc (R.CS_CNT 6)
  else
    let s := ((s.inc (R.CS_CNT 6)).inc (R.CS_CNT 7)).flag R.CS_STATUS_dig_mis
    ((s.health 14 0 2 stream s.curRound).fire 97).toUnsync

/-- A digest of this unit, or of the peer, meets its counterpart or waits for it. -/
def State.digNote (s : State) (stream seq : Nat) (x : DigRec) (mine : Bool) : State :=
  let k := stream * 2 ^ 64 + seq
  let cs := s.cs
  if mine then
    match smapFind cs.peerDig k with
    | some y => ({ s with cs := { cs with peerDig := smapErase cs.peerDig k } }).digCompare stream x y
    | none => { s with cs := { cs with ownDig := smapInsert k x (smapErase cs.ownDig k) } }
  else
    match smapFind cs.ownDig k with
    | some y => ({ s with cs := { cs with ownDig := smapErase cs.ownDig k } }).digCompare stream y x
    | none => { s with cs := { cs with peerDig := smapInsert k x (smapErase cs.peerDig k) } }

/-- The unsent instances that castling no longer needs: reported, and neither sent nor held (Table 9-3, R216). -/
def State.pruneReported (s : State) : State :=
  let drop := (s.csState = 1 && !s.on R.CS_STATUS_prep) || s.csState = 4
  s.fold (s.ot.insts.filter (fun x => x.typ < 6 && x.first.isSome && s.digested x && (x.unsent.isNone || drop)))
    (fun s x =>
      let gone := x.unsent.isNone
      let s := { s with ot := { s.ot with insts := s.ot.insts.filter (fun z => !(sameInst z x)) } }
      if gone then s else s.instDone x)

/-- DIGEST_SEND (R214): up to 1,000 digests of the oldest instance that has digests not yet sent. -/
def State.digestSend (s : State) : State :=
  if s.csState = 0 ∧ ¬ s.on R.CS_CTL_en then s
  else
    match s.ot.insts.find? (fun x => x.typ < 6 && x.first.isSome && decide (x.digs < x.segs)) with
    | none => s
    | some x =>
      let f := x.first.getD 0
      let n := min 1000 (x.segs - x.digs)
      let digs := (List.range n).map (fun i => s.frameDigest x (x.digs + i))
      let s := s.castSend 4 (leBytes 2 x.stream ++ leBytes 2 (if x.div then 1 else 0) ++ leBytes 4 n ++ leBytes 8 x.inst
        ++ leBytes 8 (f + x.digs) ++ digs.flatMap (leBytes 8))
      let s := s.fold digs.zipIdx (fun s d =>
        let r : DigRec := ⟨d.1, x.div, f, x.segs⟩
        s.digNote x.stream (f + x.digs + d.2) r true)
      let s := { s with ot := { s.ot with insts := s.ot.insts.map (fun y => if sameInst y x then { y with digs := x.digs + n } else y) } }
      s.pruneReported.joinCheck

/-- A digest record names an instance: a joiner, or a standby with a new stream, takes its first sequence number (R221). -/
def State.digestFirst (s : State) (stream inst first : Nat) : State :=
  let k := stream * 2 ^ 64 + inst
  let seen := smapGet 0 s.cs.firstSeq k
  let s := { s with cs := { s.cs with firstSeq := if seen = 0 then smapSet 0 s.cs.firstSeq k (first + 1) else s.cs.firstSeq } }
  if (s.csState = 1 ∨ s.csState = 2) ∧ s.cs.joined.isSome ∧ ¬ s.on R.CS_STATUS_prep ∧ smapGet 0 s.cs.numbered stream = 0 ∧ seen = 0 then
    match s.ot.insts.find? (fun x => x.stream = stream && x.first.isNone) with
    | some x => if x.inst = inst then s.numberHeld stream first (fun _ => false) else s
    | none => s
  else s

/-- The streams that a handover hands, those of the Uhlain ports last (R224). -/
def State.handStreams (s : State) : List Nat := s.sourceStreams.filter (· < 195) ++ s.ulpSources.map ulpStream

/-- A stream is handed to the prepared unit (R224), which takes the lease at the first. -/
def State.takeHanded (s : State) (stream next : Nat) : State :=
  let b := s.roundSc (s.cs.hand.getD 0)
  let s := if stream < 65536 then s.numberHeld stream next (fun x => decide (x.scStart < b)) else s.ulpResume (stream - 65536) next
  let s := { s with cs := { s.cs with handed := s.cs.handed ++ [stream] } }
  let s := if s.csState = 3 then s else s.takeLease false
  let all := s.handStreams.all (fun st => s.cs.handed.contains st)
  s.when all (fun s => { s with cs := { s.cs with
    hand := none
    handed := [] } })

/-- DIGEST_RECEIVE (R214, R221, R224). -/
def State.digestTake (s : State) (body : Bytes) : State :=
  let stream := leAt body 0 2
  let div := leAt body 2 2 % 2 = 1
  let n := min 1000 (leAt body 4 4)
  let first := leAt body 16 8
  if n = 0 then
    if s.cs.hand.isSome && (s.csState = 3 || (s.csState = 1 && s.on R.CS_STATUS_prep)) then s.takeHanded (namedStream stream) first else s
  else
    let s := s.digestFirst stream (leAt body 8 8) first
    let s := s.fold (List.range n) (fun s i =>
      let r : DigRec := ⟨leAt body (24 + 8 * i) 8, div, 0, 0⟩
      s.digNote stream (first + i) r false)
    s.joinCheck

/-! ## Watermarks (R215, R216) -/

/-- WMARK_SEND: the active's watermarks. -/
def State.wmarkSend (s : State) : State := if s.isActive then s.castSend 3 s.wmarkBody else s

/-- WMARK_RECEIVE: a standby discards what the active has sent. -/
def State.wmarkTake (s : State) (body : Bytes) : State :=
  if s.isActive then s
  else
    let wm := (List.range (body.length / 16)).foldl (fun m i => smapSet 0 m (namedStream (leAt body (16 * i) 2)) (leAt body (16 * i + 8) 8)) s.cs.peerWm
    let s := { s with cs := { s.cs with
      peerWm := wm
      wmAt := s.nowNs + 1 } }
    let s := s.when (s.csState = 2) (fun s =>
      s.forget (s.ot.insts.filter (fun x => x.typ < 6 && s.covered x && s.digested x)))
    s.joinCheck

/-! ## Lease messages, pins and timers (R200 to R206) -/

/-- A standby takes the lease on a resignation (R202). -/
def State.onResign (s : State) : State := if s.csState = 2 then s.takeLease false else s

/-- The pins have not moved since the last LEASE or renewal: one lease path is lost (R204). (DEDUCED: log entry 103.) -/
def State.pinsCheck (s : State) : State :=
  let stuck := !s.cs.pinSeen && s.on R.CS_STATUS_pins_ok
  let s := { s with cs := { s.cs with pinSeen := false } }
  s.when stuck (fun s => (s.wr R.CS_STATUS_pins_ok 0).inc (R.CS_CNT 2))

/-- LEASE_RECEIVE (R201, R206, Table 9-4); `claim` is the message's claim and `h` the highest seen before it. -/
def State.leaseTake (s : State) (claim h : Nat) (body : Bytes) : State :=
  if claim < h then s.inc (R.CS_CNT 5)
  else
    let c := s.rq R.CS_CLAIM
    let flags := byteAt body 15
    let s := { s with cs := { s.cs with peerState := byteAt body 14 } }
    let s :=
      match s.csState with
      | 0 => if s.cs.waiting then s.sendJoin else s
      | 3 => if c < claim ∨ (c = claim ∧ Config.serial.toNat < s.rq R.CS_PEERSN) then s.fence else s
      | 4 => if c < claim then s.sendJoin else s
      | _ => s
    let s := s.when (s.csState = 1 && s.on R.CS_STATUS_prep && flags.testBit 1) (fun s =>
      { s with cs := { s.cs with hand := some (leAt body 24 8) } })
    let s := s.when (flags.testBit 0 && !flags.testBit 1) State.onResign
    if s.csState = 1 ∨ s.csState = 2 ∨ s.csState = 4 then
      s.pinsCheck.castSend 2 (leBytes 8 (leAt body 0 8) ++ leBytes 1 s.csState ++ zeros 7)
    else s

/-- ACK_RECEIVE (R201): an acknowledgment of the active's lease. -/
def State.ackTake (s : State) (body : Bytes) : State :=
  let s := { s with cs := { s.cs with
    ackSeq := leAt body 0 8
    acked := true
    peerState := byteAt body 8 } }
  s.when (s.csState = 3) (·.wr R.CS_STATUS_sole 0)

/-- LEASE_PIN_TRANSITION (R200): `gap` ns since the last transition of LEASE_IN. -/
def State.pinEdge (s : State) (gap : Nat) : State :=
  if s.on R.CS_CTL_en then
    let s := (s.wr R.CS_STATUS_pins_ok 1)
    let s := { s with cs := { s.cs with pinSeen := true } }
    if s.isActive then
      let s := { s with cs := { s.cs with acked := true } }
      s.when (s.csState = 3) (·.wr R.CS_STATUS_sole 0)
    else if gap ≤ 1000 ∧ s.csState = 2 then s.onResign
    else s.pinToggle
  else s

/-- LEASE_RENEWAL (R201): a LEASE message and a transition of LEASE_OUT. -/
def State.leaseRenew (s : State) : State :=
  if s.isActive then
    let s := (s.when (!s.cs.acked) (·.inc (R.CS_CNT 1))).pinsCheck
    let s := ({ s with cs := { s.cs with acked := false } }).inc (R.CS_CNT 0)
    (s.sendLease false (s.csState = 5) (s.cs.hand.getD 0)).pinToggle
  else s

/-- LEASE_EXPIRY (R202): a synchronised standby starts its guard. (DEDUCED: log entry 102.) -/
def State.leaseExpire (s : State) : State :=
  if s.csState = 2 then { s with cs := { s.cs with guard := true } } else s

/-- GUARD_EXPIRY (R202): the standby takes the lease. -/
def State.guardExpire (s : State) : State := if s.csState = 2 ∧ s.cs.guard = true then s.takeLease true else s

/-- ACK_TIMEOUT (R203): an active without sole fences. -/
def State.ackExpire (s : State) : State := if s.csState = 3 ∧ ¬ s.on R.CS_STATUS_sole then s.fence else s

/-- CST_LINK_TIMEOUT (R204): the link has been down for lease_us. -/
def State.linkExpire (s : State) : State := if s.portUp 16 then s else s.toUnsync

/-- PLAN_TIMEOUT (R210): no PLAN for round n came in time; the unit admits its own. -/
def State.planExpire (s : State) (n : Nat) : State :=
  if s.csState = 2 ∧ (s.planOf n).isNone ∧ n ≤ s.rq R.AL_SEALED ∧ s.ck.next ≤ n then
    ((s.inc (R.CS_CNT 10)).toUnsync).admitOwn n
  else s

/-- LEASE_WAIT_EXPIRY (R209). -/
def State.waitExpire (s : State) : State := if s.cs.waiting then s.takeLease true else s

/-! ## Plans, repairs and freezes -/

/-- PLAN_RECEIVE (R210, R274, R275): a standby admits the active's plan, the active notes the peer's allowance. -/
def State.planTake (s : State) (body : Bytes) : State :=
  let n := leAt body 0 8
  let rec' := (body.drop 8).take 40
  if byteAt rec' 0 = 1 then
    if s.isActive then { s with ck := { s.ck with peer := smapSet 0 s.ck.peer n (leAt rec' 16 4 + 1) } } else s
  else if s.csState = 2 ∧ (s.planOf n).isNone ∧ s.ck.next ≤ n then
    (s.setCause 4 ((byteAt rec' 3).testBit 0)).admitMirrored n rec'
  else s

/-- RPKT_RECEIVE (R80): checks 3 to 6, 8 and 10 of Table 2-9; the peer has applied the claim check. -/
def State.rpktTake (s : State) (bs : Bytes) : State :=
  let ok := leAt bs 0 2 = 0x4C55 ∧ byteAt bs 2 = 1 ∧ byteAt bs 3 = 0 ∧ crc32c (bs.take 28) = leAt bs 28 4 ∧ badSample bs = false
    ∧ s.on R.IN_CTL_en ∧ s.strOn (s.tableRound (leAt bs 12 8)) (leAt bs 4 2)
    ∧ s.layoutMatches (s.tableRound (leAt bs 12 8)) bs
  if s.repairOn ∧ ok then s.acceptSample 16 bs true s.tb.t else s

/-- FREEZE_RECEIVE (R79): the active's freeze, as a command with tgt = 1. -/
def State.freezeTake (s : State) (body : Bytes) : State :=
  if s.isActive then s else (s.freezeRound (leAt body 0 8)).1

/-! ## Messages -/

/-- A castling message that arrived whole: its type, claim and body when its header and CRC hold. -/
def castParse (bs : Bytes) : Option (Nat × Nat × Bytes) :=
  let n := leAt bs 4 2
  if leAt bs 0 2 = 0x4354 ∧ byteAt bs 2 = 1 ∧ bs.length = 20 + n ∧ crc32c (bs.take (16 + n)) = leAt bs (16 + n) 4 then
    some (byteAt bs 3, leAt bs 8 8, (bs.drop 16).take n)
  else none

/-- What a message of each type does (Table 9-2). -/
def State.castAct (s : State) (msg claim h : Nat) (body : Bytes) : State :=
  match msg with
  | 1 => s.leaseTake claim h body
  | 2 => s.ackTake body
  | 3 => s.wmarkTake body
  | 4 => s.digestTake body
  | 5 => s.planTake body
  | 6 => s.spanTake body
  | 7 => s.rprqTake body
  | 8 => s.rpktTake body
  | 9 => s.joinTake body
  | 10 => s.jresTake body
  | 11 => s.freezeTake body
  | _ => s

/-- A castling message arrives (R205): H rises with its claim. `serial`: the sender's serial, which LEASE and JOIN make
known and no body of Table 9-2 carries. (DEDUCED: log entry 101.) -/
def State.castTake (s : State) (bs : Bytes) (serial : Option Nat) : State :=
  if !s.on R.CS_CTL_en then s
  else
    match castParse bs with
    | none => s.inc (R.CS_CNT 12)
    | some (msg, claim, body) =>
      let h := s.rq R.CS_HCLAIM
      let s := s.wq R.CS_HCLAIM (max h claim)
      let s := match serial with
        | some x => if msg = 1 ∨ msg = 9 then s.wq R.CS_PEERSN x else s
        | none => s
      s.castAct msg claim h body

/-- A message of the type a command names arrives on the CST port while it is UP. -/
def State.castArrive (s : State) (msg : Nat) (bs : Bytes) (serial : Option Nat) : State :=
  if s.portUp 16 ∧ byteAt bs 3 = msg then s.castTake bs serial else s

/-! ## Host commands (Table 9-4) -/

/-- A command or write is refused. -/
def State.csRefuse (s : State) : State := s.flag R.CS_STATUS_cmd_err

/-- CASTLING_ENABLE: CS_CTL.en is written 1. -/
def State.castEnable (s : State) : State :=
  if s.csState = 0 then
    if s.on R.CS_CTL_take then { s with cs := { s.cs with waiting := true } } else s.sendJoin
  else s

/-- The unit becomes UNPAIRED; messages stop and the pins idle. -/
def State.castStop (s : State) : State :=
  let s := { s with cs := { s.cs with
    waiting := false
    guard := false
    joined := none
    hand := none
    handed := [] } }
  ((((s.wr R.CS_CTL_en 0).wr R.CS_STATUS_sole 0).wr R.CS_STATUS_prep 0).wr R.CS_STATUS_pins_ok 0).setCast 0

/-- RESIGN, CS_CMD op 1 (R219). -/
def State.castResign (s : State) : State :=
  if s.csState = 3 then
    if s.cs.peerState = 2 then ((s.resignNow false 2).wr R.CS_STATUS_sole 0).auCheck else (s.inc (R.CS_CNT 11)).csRefuse
  else s.csRefuse

/-- TAKE_AS_SOLE, CS_CMD op 2. -/
def State.castSole (s : State) : State :=
  if s.csState = 1 ∨ s.csState = 2 ∨ s.csState = 4 then
    State.takeLease { s with cs := { s.cs with hand := none, handed := [] } } true
  else s.csRefuse

/-- JOIN, CS_CMD op 4. -/
def State.castJoin (s : State) : State := if s.csState = 1 then s.sendJoin else s.csRefuse

/-! ## Handover (R224) -/

/-- No instance of a stream before round b is still to come. -/
def State.streamEnds (s : State) (b st : Nat) : Bool :=
  let sc := s.roundSc b
  let past : Bool := decide (b ≤ s.rq R.AL_SEALED + 1) && decide (sc ≤ s.horizon)
  let noInst := !(s.ot.insts.any (fun x => x.stream = st && decide (x.scStart < sc) && (x.unsent.isSome || x.first.isNone)))
  let noBeam := !((s.ba.queue ++ (match s.ba.round with
    | some n => [n]
    | none => [])).any (· < b)) && !(s.ba.due.any (fun x => decide (x.scStart < sc)))
  let noGroup := !((s.grp st).ints.any (fun y => decide (y.r0 < b)) || s.ag.closed.any (fun p => p.1 = st && decide (p.2.r0 < b) && !p.2.rel))
  let noRound := !(s.ot.sealed.any (fun k => decide (k / 8 < b) && (k % 8 != 5 || s.on R.OT_CAPA_en)))
  past && noInst && (if st < 63 then noGroup else if st < 192 then noBeam else noRound)

/-- The voltage packets below S_b have left Uhlain port p. -/
def State.voltageEnds (s : State) (b p : Nat) : Bool :=
  (s.ulpBeams p).all (fun j =>
    match s.nextVoltage p j with
    | some q => decide (s.roundSc b ≤ q.1)
    | none => true) && s.streamEnds b 128

/-- One DIGEST header hands a stream: count 0 and its next sequence number, for a Uhlain port the SC of the handover. -/
def State.handStream (s : State) (b st : Nat) : State :=
  let next := if st < 65536 then s.rq (R.OT_SEQ st) else s.roundSc b
  let s := s.castSend 4 (leBytes 2 (wireStream st) ++ zeros 2 ++ leBytes 4 0 ++ zeros 8 ++ leBytes 8 next)
  { s with cs := { s.cs with handed := s.cs.handed ++ [st] } }

/-- STREAM_HANDED (R224): every stream whose last instance before b has left is handed, the Uhlain ports last; when all are,
the unit resigns. (DEDUCED: log entry 106.) -/
def State.handCheck (s : State) : State :=
  if s.csState = 5 then
    let b := s.cs.hand.getD 0
    let todo (s : State) (l : List Nat) : List Nat := l.filter (fun st => !(s.cs.handed.contains st))
    let frames := s.cs.toHand.filter (· < 65536)
    let s := s.fold ((todo s frames).filter (s.streamEnds b)) (fun s st => s.handStream b st)
    let s := s.when (todo s frames).isEmpty (fun s =>
      s.fold ((todo s s.cs.toHand).filter (fun st => s.voltageEnds b (st - 65536))) (fun s st => s.handStream b st))
    if (todo s s.cs.toHand).isEmpty then
      let s := (s.resignNow true 1).wr R.CS_STATUS_sole 0
      ({ s with cs := { s.cs with
        hand := none
        handed := []
        joined := none } }).auCheck
    else s
  else s

/-- HAND_OVER, CS_CMD op 5. -/
def State.castHand (s : State) : State :=
  if s.csState = 3 ∧ s.cs.peerState = 1 ∧ s.cs.peerPrep = true then
    let b := s.rq R.CS_HOTGT
    let s := { s with cs := { s.cs with
      hand := some b
      handed := []
      toHand := s.handStreams } }
    ((s.setCast 5).sendLease false true b).handCheck
  else s.csRefuse

end Sys2Proof.Machine
end

