-- ==== Sys2Proof/Machine/Fabric.lean ====
section
/-! DEFINITION. The crossbar's own records (R295 to R303), the Arbiter mailbox (R310), the DMA channels' start and abort
(R304) and PCIe errors (R307). -/

namespace Sys2Proof.Machine

/-! ## The address map (Table 14-2) and the paths (Table 14-4) -/

/-- The target and the offset in it of a device address; none where no row of Table 14-2 covers it (R295). -/
def targetOf (a : Nat) : Option (Nat × Nat) :=
  if a < 0x6000000000 then some (0, a)
  else if a < 0x6002000000 then some (2, a - 0x6000000000)
  else if 0x6100000000 ≤ a ∧ a < 0x6100400000 then some (3, a - 0x6100000000)
  else if 0x6200000000 ≤ a ∧ a < 0x6220000000 then some (4, a - 0x6200000000)
  else if 0x6300000000 ≤ a ∧ a < 0x6310000000 then some (1, a - 0x6300000000)
  else if 0x6400000000 ≤ a ∧ a < 0x6400100000 then some (5, a - 0x6400000000)
  else if 0x6500000000 ≤ a ∧ a < 0x6500010000 then some (7, a - 0x6500000000)
  else none

/-- The device address of an offset in the CSR space. -/
def csrAddr (a : Nat) : Nat := 0x6300000000 + a

/-- Table 14-4: the targets master m has a path to. -/
def pathList (m : Nat) : List Nat :=
  if m = 0 then [0, 1, 2, 7]
  else if m = 1 then [0, 1, 2, 3, 4, 5, 6, 7]
  else if m < 18 then [0, 1, 3, 5]
  else if m = 18 then [0, 2, 3, 4, 5, 6]
  else [0, 1, 7]

/-- Table 14-4: a path exists. -/
def hasPath (m t : Nat) : Bool := (pathList m).contains t

/-- R298: the secure attribute of a master, of the channel for the DMA engine. -/
def State.secure (s : State) (m ch : Nat) : Bool :=
  if m = 1 ∨ m = 19 then true
  else if m = 18 then s.on (R.XB_DMACTL_sec ch)
  else (s.rd R.XB_MATTR_sec).testBit m

/-- The counter of a violation kind (Table 14-11). -/
def violCounter (kind : Nat) : Nat := [0, 0, 1, 2, 3, 4, 7, 8].getD kind 8

/-- A violation is counted by its kind, and latched when none is (XB_VIOL). (DEDUCED: log entry 20.) -/
def State.xbViol (s : State) (kind m target : Nat) (write : Bool) (addr : Nat) : State :=
  let s := s.inc (R.XB_CNT (violCounter kind))
  if s.on R.XB_VIOL_valid then s
  else
    let s := (((s.wr R.XB_VIOL_kind kind).wr R.XB_VIOL_master m).wr R.XB_VIOL_target target).wr R.XB_VIOL_write
      (if write then 1 else 0)
    ({ s with xb := { s.xb with violAdr := addr } }).flag R.XB_VIOL_valid

/-- A violation at an address that no target covers (kind 5): the spec states no target for it. (DESIGN CHOICE: log entry 21.) -/
def State.xbUnmapped (s : State) (m : Nat) (write : Bool) (addr : Nat) : State :=
  (s.xbViol 5 m (Config.freeBits s.fresh).toNat write addr).tick

/-- An error response. -/
def State.errResp (s : State) : State := { s with resp := ⟨[], true⟩ }

/-- A response without error. -/
def State.okResp (s : State) (bs : Bytes) : State := { s with resp := ⟨bs, false⟩ }

/-- The part of R303 that outlives the bursts: the port is quiesced, bursts finished for the master are counted, and its
latches of R18 are cleared. (DEDUCED: log entry 38.) -/
def State.masterReset (s : State) (m bursts : Nat) : State :=
  let s := s.wr R.XB_MRST_quiesced (setBit (s.rd R.XB_MRST_quiesced) m true)
  ({ s with latch := smapErase s.latch m }).incBy (R.XB_CNT 5) bursts

/-- The master's reset is released: its port accepts requests again. -/
def State.masterRelease (s : State) (m : Nat) : State :=
  s.wr R.XB_MRST_quiesced (setBit (s.rd R.XB_MRST_quiesced) m false)

/-- The master's port is quiesced. -/
def State.quiesced (s : State) (m : Nat) : Bool := (s.rd R.XB_MRST_quiesced).testBit m

/-! ## The Arbiter mailbox (R310) -/

/-- Bytes of the mailbox. -/
def State.mbxBytes (s : State) (o n : Nat) : Bytes := memGet s.xb.mbx o n

/-- The request of a slot: op, len, tag and payload (Table 14-9). -/
structure MbxReq where
  slot : Nat
  op : Nat
  len : Nat
  tag : Nat
  payload : Bytes
  secure : Bool
  deriving DecidableEq, Repr

/-- Reads the request of a slot; a payload longer than 480 bytes is not one (Table 14-9). (DESIGN CHOICE: log entry 11.) -/
def State.mbxRead (s : State) (slot : Nat) (sec : Bool) : MbxReq :=
  let h := s.mbxBytes (1024 * slot) 32
  let len := leAt h 2 2
  ⟨slot, leAt h 0 2, len, leAt h 4 4, s.mbxBytes (1024 * slot + 32) (min len 480), sec⟩

/-- The Arbiter writes a response, clears the slot's busy bit and fires source 32. -/
def State.mbxRespond (s : State) (slot status : Nat) (payload : Bytes) : State :=
  let o := 1024 * slot
  let tag := s.mbxBytes (o + 4) 4
  let bs := tag ++ leBytes 2 status ++ leBytes 2 payload.length ++ zeros 24 ++ payload
  let s := { s with xb := { s.xb with mbx := memPut s.xb.mbx (o + 512) bs, mbxQ := s.xb.mbxQ.drop 1 } }
  (s.wr R.XB_MBXBUSY_busy (setBit (s.rd R.XB_MBXBUSY_busy) slot false)).irq 32

/-- Tables 14-10, 18-5 and 19-6: the opcodes. -/
def mbxKnown (op : Nat) : Bool :=
  [1, 2, 0x10, 0x11, 0x20, 0x21, 0x22, 0x23, 0x24, 0x25, 0x26, 0x27, 0x30, 0x31, 0x32, 0x33].contains op

/-- Requests at the head of the queue that the Arbiter answers at once: an unknown op, status 2, and a length beyond
Table 14-9, refused. -/
def State.mbxSettle : Nat → State → State
  | 0, s => s
  | k + 1, s =>
    match s.xb.mbxQ with
    | [] => s
    | (slot, sec) :: _ =>
      let r := s.mbxRead slot sec
      if s.ig.arbDown then s
      else if !mbxKnown r.op then State.mbxSettle k (s.mbxRespond slot 2 [])
      else if 480 < r.len then State.mbxSettle k (s.mbxRespond slot 1 [])
      else s

/-- Answers the request in progress and goes on to the next. (DEDUCED: log entry 42.) -/
def State.mbxAnswer (s : State) (r : MbxReq) (status : Nat) (payload : Bytes) : State :=
  State.mbxSettle 16 (s.mbxRespond r.slot status payload)

/-- The request the Arbiter has in hand: the oldest doorbell's, while the Arbiter runs and no full load is in progress. -/
def State.mbxHead (s : State) : Option MbxReq :=
  match s.xb.mbxQ with
  | [] => none
  | (slot, sec) :: _ => if s.ig.arbDown ∨ s.cf.loading.isSome then none else some (s.mbxRead slot sec)

/-- Acts on the request in hand when it is of the op named. -/
def State.mbxOp (s : State) (op : Nat) (act : State → MbxReq → State) : State :=
  match s.mbxHead with
  | none => s
  | some r => if r.op = op then act s r else s

/-- MAILBOX_DOORBELL: a slot's request is queued, or ignored and counted while its busy bit is 1. -/
def State.doorbell (s : State) (slot : Nat) (sec : Bool) : State :=
  if (s.rd R.XB_MBXBUSY_busy).testBit slot then s.inc (R.XB_CNT 6)
  else
    let s := s.wr R.XB_MBXBUSY_busy (setBit (s.rd R.XB_MBXBUSY_busy) slot true)
    State.mbxSettle 16 { s with xb := { s.xb with mbxQ := s.xb.mbxQ ++ [(slot, sec)] } }

/-- A restart of the Arbiter: the request in progress gets status 3, and queued requests are kept. -/
def State.mbxRestart (s : State) : State :=
  match s.xb.mbxQ with
  | [] => s
  | (slot, _) :: _ => s.mbxRespond slot 3 []

/-- MAILBOX_ECHO (op 0x0001). -/
def State.mbxEcho (s : State) : State := s.mbxOp 1 (fun s r => s.mbxAnswer r 0 r.payload)

/-- What the 12 bytes after the version hold in the answer to op 0x0002: the spec does not state them. -/
def State.freeBytes (s : State) (n : Nat) : Bytes :=
  (List.range n).map (fun i => (Config.freeBits (s.fresh + i)).setWidth 8)

/-- FIRMWARE_VERSION (op 0x0002): a response of 16 bytes, the version of TOP_FW first. -/
def State.mbxVersion (s : State) : State :=
  s.mbxOp 2 (fun s r =>
    let bs := leBytes 4 (s.rd R.TOP_FW_ver) ++ s.freeBytes 12
    ({ s with fresh := s.fresh + 12 }).mbxAnswer r 0 bs)

/-! ## DMA channels (R304) -/

/-- The state of a DMA channel: 0 idle, 1 running, 2 done, 3 error, 4 aborted. -/
def State.dmaState (s : State) (c : Nat) : Nat := s.rd (R.XB_DMASTAT_state c)

/-- DMA_GO: starts a channel that is not running at XB_DMADESC_c, and marks a running one. -/
def State.dmaGo (s : State) (c : Nat) : State :=
  if s.dmaState c = 1 then s.wr (R.XB_DMASTAT_pend c) 1
  else if s.quiesced 18 then s
  else
    let s := s.wq (R.XB_DMACUR c) (s.rq (R.XB_DMADESC c) % 2 ^ 40)
    ((s.wr (R.XB_DMASTAT_err c) 0).wr (R.XB_DMASTAT_pend c) 0).wr (R.XB_DMASTAT_state c) 1

/-- DMA_ABORT: bursts in flight end, nothing is written back. -/
def State.dmaAbort (s : State) (c : Nat) : State :=
  if s.dmaState c = 1 then (s.wr (R.XB_DMASTAT_pend c) 0).wr (R.XB_DMASTAT_state c) 4 else s

/-- Every channel is aborted and idle (function-level reset, Table 19-4). -/
def State.dmaIdle (s : State) : State :=
  s.fold (List.range 8) (fun s c => s.setWord (R.XB_DMASTAT c) 0)

/-! ## PCIe errors (R307) -/

/-- A completer abort. -/
def State.peAbort (s : State) : State := (s.flag R.PE_ERR_ca).inc (R.PE_CNT 0)

/-- An unsupported request. -/
def State.peUnsupported (s : State) : State := (s.flag R.PE_ERR_ur).inc (R.PE_CNT 1)

/-- A PCIe reset (Table 19-4): master M0, MSI-X table and pending bits, PE_MSIMAP and PE_WIN. -/
def State.pcieCore (s : State) : State :=
  let s := s.fold (List.range 80) (fun s i => s.setWord (R.PE_MSIMAP i) 0)
  let s := s.wq R.PE_WIN 0
  { s with pe := { s.pe with lastMsg := [], table := [], pendBit := [] } }

end Sys2Proof.Machine
end

