-- ==== Sys2Proof/Machine/Integrity.lean ====
section
/-! DEFINITION. Duplicated adders (R191), requested tests and maintenance (R194), health transitions and shutdown (R195),
the Arbiter's restart (R196), and entering and leaving Endgame (R275 to R277, R294). -/

namespace Sys2Proof.Machine

/-! ## Duplicated adders (R191) -/

/-- ADDER_MISMATCH: the addition is repeated; when the copies then agree a transient is counted; `again`: the repetition
disagrees too, and the record or beam output is marked and the unit faulty. -/
def State.adderMismatch (s : State) (unit : Nat) (again : Bool) (site : AddSite) : State :=
  let n := s.curRound
  if !again then (s.inc (R.IG_CNT 7)).health 4 unit 0 0 n
  else
    let s := match site with
      | .record g area c a b =>
        let old := s.wgtGet g area c a b
        (s.recPut g area c a b (s.recGet g area c a b) sentinel).noteMark g old sentinel false
      | .detect x w b h => s.spoilDet (detKey x w b h)
      | .combine t =>
        if s.ba.round.isSome then State.suppress { s with ba := { s.ba with poison := true } } t else s
    let s := { s with ig := { s.ig with faulty := if s.ig.faulty.contains unit then s.ig.faulty else s.ig.faulty ++ [unit] } }
    ((s.inc (R.IG_CNT 8)).health 4 unit 2 0 n).impair n

/-! ## Tests and maintenance (R194) -/

/-- In the maintenance state, or a synchronised standby: the right column of Table 8-3. -/
def State.testFree (s : State) : Bool := s.on R.IG_CTL_maint || s.csState = 2

/-- A request names a unit that exists. (DEDUCED: log entry 97.) -/
def State.testUnit (s : State) (op u : Nat) : Bool :=
  if op = 2 then s.hasBeam
  else if op = 3 then u < 8 && (s.stkState u = 2 || s.stkState u = 5)
  else if op = 4 ∨ op = 5 then decide (u ≤ 25)
  else true

/-- A requested test starts: the Board test waits for the first marker, the others run at once. -/
def State.testBegin (s : State) (op u : Nat) : State :=
  let s := { s with ig := { s.ig with test := some (op, u, 0) } }
  let s := (s.wr R.IG_STATUS_test_busy 1).wr R.IG_TESTRES_result (if op = 1 then 1 else 2)
  if op = 3 then
    ({ s with hm := { s.hm with retrain := s.hm.retrain ++ [u] } }).wr (R.HM_STK_state u) 4
  else s

/-- A write of IG_TESTREQ (Table 8-3): other op codes are ignored. -/
def State.testRequest (s : State) (op u : Nat) : State :=
  if op = 0 ∨ 5 < op then s
  else if s.ig.test.isSome then s.wr R.IG_TESTRES_result 6
  else if !s.testUnit op u then s.wr R.IG_TESTRES_result 7
  else if decide (2 ≤ op ∧ op ≤ 4) && !s.testFree then s.wr R.IG_TESTRES_result 5
  else s.testBegin op u

/-- TEST_COMPLETE: a Board test completes once its 1,024 steps are done. (DEDUCED: log entry 99.) -/
def State.testComplete (s : State) (passed : Bool) : State :=
  match s.ig.test with
  | none => s
  | some (op, u, k) =>
    if op = 1 ∧ k < 1024 then s
    else
      let s := { s with ig := { s.ig with test := none } }
      let s := (s.wr R.IG_STATUS_test_busy 0).wr R.IG_TESTRES_result (if passed then 3 else 4)
      let s := s.when (op == 2 && !passed) (·.inc (R.IG_CNT 9))
      s.when (op == 3) (·.trainingDone u passed)

/-- MAINTENANCE_REQUEST: IG_CTL.maint written. -/
def State.maintRequest (s : State) (on : Bool) : State :=
  if !on then s.wr R.IG_CTL_maint 0
  else if s.on R.IG_CTL_maint then s
  else if (s.bdState = 0 || s.bdState = 4) && (s.baState = 0 || s.baState = 3) && !s.isActive then s.wr R.IG_CTL_maint 1
  else s.flag R.IG_STATUS_maint_ref

/-! ## Health (R195) -/

/-- A tile row or column is degraded (Table 8-4). -/
def State.anyDegraded (s : State) : Bool := (List.range 24).any (fun x => s.on (R.IG_LINE_degraded x))

/-- HEALTH_RECOVERY: 64 rounds have begun since the last event that impairs. (DEDUCED: log entry 96.) -/
def State.healthRecover (s : State) : State :=
  if s.rd R.IG_STATUS_hstate = 2 ∧ s.ig.impaired + 64 ≤ s.nextRound then
    ({ s with ig := { s.ig with impaired := 0 } }).setHstate (if s.anyDegraded then 1 else 0)
  else s

/-- FAULT_CLEAR (Table 8-4): the fault has cleared and the counter is SET again. -/
def State.faultClear (s : State) : State :=
  if s.rd R.IG_STATUS_hstate = 3 ∧ s.tb.t = s.tb.t2 ∧ ¬ s.on R.REF_STATUS_xo_lost ∧ ¬ s.ig.arbDown ∧ s.on R.TB_STATUS_set then
    s.setCause 3 false
  else s

/-- SHUTDOWN: resign, every rail off but the always-on domain, FAULT_N low. -/
def State.shutdown (s : State) : State :=
  if s.rd R.IG_STATUS_hstate = 4 then s
  else
    let s := (s.resignFault.toUnsync).setHstate 4
    let s := s.fold (List.range 4) (fun s k => s.setWord (R.IO_RAIL k) 0)
    (s.wr R.IO_STATUS_fault_n 0).emit (.pin "FAULT_N" false)

/-! ## The Arbiter's restart (R196, R385) -/

/-- The Arbiter is stopped and restarts: master M1 resets, the request in progress gets status 3, a full load in progress
fails. (DEDUCED: log entry 98.) -/
def State.arbiterStop (s : State) : State :=
  if s.ig.arbDown then s
  else
    let s := { s with ig := { s.ig with arbDown := true } }
    let s := match s.cf.loading with
      | some _ =>
        (({ s with cf := { s.cf with loading := none } }).wr R.CF_STATUS_cfg_state 3).inc (R.CF_CNT 2)
      | none => s
    let s := ((s.wr R.IG_STATUS_seq_act 1).masterReset 1 0).mbxRestart
    (s.flag R.MG_RSTCAUSE_arb).health 10 0 1 0 s.curRound

/-- ARBITER_RESTART_DONE. -/
def State.arbiterBack (s : State) : State :=
  if s.ig.arbDown then
    let s := { s with ig := { s.ig with arbDown := false } }
    State.mbxSettle 16 ((s.wr R.IG_STATUS_seq_act 0).masterRelease 1)
  else s

/-- ARBITER_RESTART_TIMEOUT: the restart has not completed within 100 ms. (DEDUCED: log entry 162.) -/
def State.arbiterLost (s : State) : State :=
  if s.ig.arbDown then (s.health 10 0 3 0 s.curRound).fatalFault else s

/-! ## Endgame (R275 to R277) -/

/-- Every fitted stack. -/
def State.stackList (s : State) : List Nat := List.range s.stacks

/-- The Board and the Beam Array halt, slabs stop, integrations and beam products are void, and the ASPs are suspended:
what Endgame entry and Adjournment share. -/
def State.haltAll (s : State) : State :=
  let s := ((s.voidAll.boardHalt).beamHalt).beamVoid
  let s := (State.alignEndgame { s with al := { s.al with resume := none } }).wr R.OT_STATUS_endgame 1
  s.fold (List.range 16) (fun s n => s.aspSuspend n)

/-- ENDGAME_ENTRY: a cause is in force (Table 12-5). (DEDUCED: log entry 121.) -/
def State.endgameEnter (s : State) : State :=
  if s.rd R.CK_STATUS_eg_cause = 0 ∨ s.ck.eg ≠ 0 then s
  else
    let s := { (s.haltAll) with ck := { (s.haltAll).ck with eg := 1, fit := 0 } }
    ((((s.setPoint 0).inc (R.CK_CNT 4)).fire 92)).auCheck

/-- SELF_REFRESH_ENTRY_DONE: every stack in service is in self-refresh (Table 13-4). -/
def State.selfRefreshIn (s : State) : State :=
  if s.ck.eg ≠ 1 then s
  else
    let s := s.fold s.stackList (fun s st => if s.stkState st = 2 ∨ s.stkState st = 1 then s.wr (R.HM_STK_state st) 3 else s)
    let s := (s.wr R.HM_STATUS_selfref 1).wr R.CK_STATUS_endgame 1
    { s with ck := { s.ck with eg := 2 } }

/-- ENDGAME_EXIT: no cause remains; the stacks are told to leave self-refresh. -/
def State.endgameLeave (s : State) : State :=
  if s.ck.eg = 2 ∧ s.rd R.CK_STATUS_eg_cause = 0 then { s with ck := { s.ck with eg := 3 } } else s

/-- The stacks are out of self-refresh with nothing owed; a stack is hot when its temperature says so (R285, R294). -/
def State.stacksOut (s : State) (temps : List Nat) : State :=
  let s := s.fold s.stackList (fun s st =>
    if s.stkState st = 3 then
      let s := s.fold (List.range 32) (fun s c => s.setHchan st c { s.hchan st c with owed := 0, block := 0 })
      let s := (s.wr (R.HM_STK_state st) 2).showOwed st
      let t := temps.getD st (s.rd (R.HM_STK_temp_c st))
      let s := (s.wr (R.HM_STK_temp_c st) (min t 255)).stackCool st
      s.when (decide (s.rd R.HM_TCTL_hot_c ≤ t)) (·.stackHot st)
    else s)
  s.wr R.HM_STATUS_selfref 0

/-- Work resumes with the first round that begins after the exit: slabs, groups, the Board, the Beam Array and the ASPs
(R81, R98, R130, R343). -/
def State.workResumes (s : State) : State :=
  let r := s.nextRound
  let s := (s.wr R.OT_STATUS_endgame 0).resumeGroups r
  let s := s.when (s.bdState = 4) (·.setBd 1)
  let s := s.when (s.baState = 3 && s.on R.BA_CTL_en) (·.wr R.BA_STATUS_state 1)
  let s := if s.on R.AL_CTL_en then { s with al := { s.al with resume := some r } } else s.wr R.AL_STATUS_endgame 0
  s.fold (List.range 16) (fun s n => s.aspResumeRun n)

/-- SELF_REFRESH_EXIT_DONE: CK_STATUS.endgame clears, E093 fires and work resumes; a cleared fault returns to NORMAL. -/
def State.selfRefreshOut (s : State) (temps : List Nat) : State :=
  if s.ck.eg ≠ 3 then s
  else
    let s := (s.stacksOut temps).wr R.CK_STATUS_endgame 0
    let s := { s with ck := { s.ck with eg := 0, l4 := 0 } }
    let s := (s.fire 93).workResumes
    s.when (s.rd R.IG_STATUS_hstate = 3 && !s.cause 3) (·.setHstate 0)

end Sys2Proof.Machine
end

