-- ==== Sys2Proof/Machine/Csr.lean ====
section
/-! DEFINITION. Writing a register: pairs and latches (R18), ownership (R17, R300), guarded fields (R408), ranges (R407),
access codes (R16), and what a write of each register does. -/

namespace Sys2Proof.Machine

/-! ## Reports of a refused write (R407, R408) -/

/-- How a refused write is reported: in XB_VIOL by kind, in a flag its chapter names, or as a reason in AL_STATUS. -/
inductive Denial where
  | viol (kind : Nat)
  | flag (f : FRef)
  | reason (n : Nat)
  deriving DecidableEq, Repr

/-- Makes the report of a refused write by master m at CSR offset a. -/
def State.deny (s : State) (m a : Nat) : Denial → State
  | .viol k => s.xbViol k m 1 true (csrAddr a)
  | .flag f => s.flag f
  | .reason n => (s.wr R.AL_STATUS_cfg_reason n).flag R.AL_STATUS_cfg_err

/-- The denial's report, if there is one. -/
def State.denyOpt (s : State) (m a : Nat) : Option Denial → State
  | none => s
  | some d => s.deny m a d

/-! ## Fields and masks -/

/-- The bits of a field as a mask. -/
def Fld.mask (f : Fld) : Nat := (2 ^ (f.hi + 1 - f.lo) - 1) <<< f.lo

/-- The bits of a register with access codes chosen by a test. -/
def Reg.bits (r : Reg) (p : Fld → Bool) : Nat := r.flds.foldl (fun n f => if p f then n ||| f.mask else n) 0

/-- The bits of x that are not in a mask. -/
def without (x mask : Nat) : Nat := x ^^^ (x &&& mask)

/-- The bits of y in a mask, of x elsewhere. -/
def blend (x y mask : Nat) : Nat := without x mask ||| (y &&& mask)

/-! ## Ownership (R300, R316) -/

/-- The owner of an event channel as a master: the host, the Arbiter or ASPn. (DEDUCED: log entry 29.) -/
def State.chanOwner (s : State) (c : Nat) : Nat :=
  match s.rd (R.EV_CHOWN_cls c) with
  | 0 => 0
  | 1 => 1
  | _ => 2 + s.rd (R.EV_CHOWN_asp c)

/-- Master m may write a field: one the Arbiter owns, or one of an event channel that m owns; `load`: a load has owner
rights (R367). -/
def State.owns (s : State) (m : Nat) (load : Bool) (l : Loc) (f : Fld) : Bool :=
  match f.acc with
  | .arb => load || m == 1
  | .own => load || m == s.chanOwner (l.idx.headD 0)
  | _ => true

/-- A field that a write sets, by anyone or by its owner. -/
def Fld.sets (f : Fld) : Bool := f.acc = .rw || f.acc = .arb || f.acc = .own

/-! ## Guarded fields (R408) -/

/-- Every bit of a register. -/
def allBits : Nat := 2 ^ 64 - 1

/-- A core's program counter, windows and stream settings may be written (R341, R344). -/
def State.spOpen (s : State) (n : Nat) : Bool := s.spState n = 0 || s.spState n = 1

/-- The bits of a register that its state forbids changing, and how a change is reported. (DEDUCED: log entry 15.) (DEDUCED: log entry 24.) -/
def State.guards (s : State) (l : Loc) : Nat × Denial :=
  let i := l.idx.headD 0
  let hold (c : Bool) (mask : Nat) (d : Denial) : Nat × Denial := (if c then mask else 0, d)
  match l.reg.id with
  | .IN_CTL => hold (s.on R.IN_CTL_en) 0x2 (.viol 7)
  | .IN_PORTCTL => hold (s.on (R.IN_PORTCTL_en i)) 0x6 (.viol 7)
  | .IN_TXSLOT => hold ((s.rd (R.IN_CTLTX_send i)).testBit (l.idx.getD 1 0)) allBits (.viol 7)
  | .AL_CTL => hold (s.on R.AL_CTL_en) 0x2 (.flag R.AL_STATUS_wr_refused)
  | .AL_ROUNDLEN | .AL_ORIGIN | .AL_SLABGEO | .AL_BUF_BASE =>
    hold (s.on R.AL_CTL_en) allBits (.flag R.AL_STATUS_wr_refused)
  | .AG_GCFG | .AG_GLEN | .AG_GCH | .AG_GSTART | .AG_GBASE0 | .AG_GBASE1 | .AG_GTILE =>
    hold (s.gState i != 0) allBits (.flag R.AG_STATUS_wr_refused)
  | .BA_CFG | .BA_CH | .BA_SCHED | .BA_TASK | .BA_WBASE_A | .BA_WBASE_B | .BA_STGBASE =>
    hold (s.on R.BA_CTL_en) allBits (.viol 7)
  | .OT_SEQ => hold (s.on R.OT_CTL_en) allBits (.viol 7)
  | .ET_PTPPCTL => hold (s.on (R.ET_PTPPCTL_en i)) (allBits - 1) (.viol 7)
  | .ET_PTPASYM | .ET_PTPTXADJ | .ET_PTPRXADJ => hold (s.on (R.ET_PTPPCTL_en i)) allBits (.viol 7)
  | .ET_PTPID => hold (s.on R.ET_PTPCTL_en) allBits (.viol 7)
  | .CS_LEASE => hold (s.on R.CS_CTL_en) allBits (.flag R.CS_STATUS_cmd_err)
  | .REF_CFG => hold (s.on (R.REF_CFG_en i)) 0xFFFC00 (.flag R.REF_STATUS_cmd_err)
  | .REF_LDLY => hold (s.on (R.REF_CFG_en (6 + i))) allBits (.flag R.REF_STATUS_cmd_err)
  | .XB_DMADESC => hold (s.dmaState i = 1) allBits (.viol 7)
  | .EV_CHOWN => hold (s.on (R.EV_CHCFG_en i)) allBits (.viol 3)
  | .EV_IO => hold (s.evioNamed i) 0x1 (.viol 7)
  | .SP_PC | .SP_WIN => hold (!s.spOpen i) allBits (.viol 7)
  | .SP_INCFGA | .SP_INCFGB | .SP_OUTCFG => hold (!s.spOpen i) allBits (.flag (R.SP_STAT_cfg_ref i))
  | .AU_CTL => hold (s.on R.AU_CTL_en) 0x6 (.viol 7)
  | .AU_CHCFG => hold (s.on (R.AU_OUTCTL_en (i / 2))) allBits (.flag R.AU_STATUS_cfg_ref)
  | _ => (0, .viol 7)

/-! ## Values outside a field's range (R407) -/

/-- A value lies outside the ranges its field states; the reset value is always accepted. -/
def Fld.outside (f : Fld) (reset new : Nat) : Bool :=
  let w := f.hi + 1 - f.lo
  let x := getBits new f.lo w
  f.sets && !f.ranges.isEmpty && x != getBits reset f.lo w && !f.ranges.any (fun r => decide (r.1 ≤ x ∧ x ≤ r.2))

/-- How a value outside its range is reported: as its chapter says, or as kind 6. -/
def rangeDenial (l : Loc) : Denial :=
  match l.reg.id with
  | .AL_ROUNDLEN | .AL_SLABGEO | .AL_BUF_BASE | .AL_RING_BASE | .AL_HMASK_A | .AL_HMASK_B => .reason 4
  | .AL_WIN => .reason 3
  | .CK_CAP => .flag R.CK_STATUS_cmd_err
  | .REF_CTL | .REF_BW => .flag R.REF_STATUS_cmd_err
  | .SP_INCFGA | .SP_INCFGB | .SP_OUTCFG => .flag (R.SP_STAT_cfg_ref (l.idx.headD 0))
  | _ => .viol 6

/-- W in µs keeps R23: at most min(4 ms, D / 25). (DEDUCED: log entry 18.) -/
def State.winFits (s : State) (w : Nat) : Bool :=
  decide (10 ≤ w ∧ w ≤ 4000) && (s.roundDur = 0 || decide ((w : Rat) * 25 ≤ s.roundDur * 1000000))

/-- Table 10-1: the bandwidth range of slot r in 0.1 mHz. -/
def refBwRange (r : Nat) : Nat × Nat :=
  if r < 2 then (1000, 1000000) else if r < 4 then (10, 10000) else if r < 6 then (5, 1000) else (10000, 10000000)

/-- The slot that shares slot r's kind of port: NET0 and NET1, LNK0 and LNK1. -/
def refTwin (r : Nat) : Nat := if r % 2 = 0 then r + 1 else r - 1

/-- An ASP output port other than (n, k) sends to listening-post buffer b. -/
def State.bufferNamed (s : State) (n k b : Nat) : Bool :=
  (List.range 64).any (fun x => decide (x ≠ 4 * n + k) && s.rd (R.SP_OUTCFG_dst (x / 4) (x % 4)) = 1
    && s.rd (R.SP_OUTCFG_idx (x / 4) (x % 4)) = b)

/-- A rule refuses the value `new` for a register that holds `old`, beyond the ranges of its fields. -/
def State.breaks (s : State) (l : Loc) (old new : Nat) : Bool :=
  let i := l.idx.headD 0
  match l.reg.id with
  | .AL_WIN => new % 8192 != 500 && !s.winFits (new % 8192)
  | .AL_SLABGEO => decide (4096 < new % 4096 + getBits new 12 13)
  | .AL_BUF_BASE | .AL_RING_BASE | .AL_HMASK_A | .AL_HMASK_B | .AG_GBASE0 | .AG_GBASE1 | .BA_WBASE_A | .BA_WBASE_B
  | .BA_STGBASE | .MG_CTXBASE => new % 4096 != 0
  | .AL_RPRCTL =>
    let lead := getBits new 4 12
    lead != 100 && !decide (10 ≤ lead ∧ lead + 10 ≤ s.win)
  | .REF_BW =>
    let r := refBwRange i
    new % 2 ^ 24 != refDefaultBw i && !decide (r.1 ≤ new % 2 ^ 24 ∧ new % 2 ^ 24 ≤ r.2)
  | .REF_CFG => (i = 4 || i = 5) && decide (7 < getBits new 12 4)
  | .EV_CHCFG => getBits new 29 2 = 0 && decide (95 < getBits new 22 7)
  | .SP_INCFGA => !s.hasBeam && new % 4 == 1
  | .SP_OUTCFG =>
    new % 4 == 1 && (!s.hasBeam || s.bufferNamed i (l.idx.getD 1 0) (getBits new 8 4)) && new != old
  | _ => false

/-- REF_CFG would give NET0 and NET1, or LNK0 and LNK1, one port (R228). (DEDUCED: log entry 17.) -/
def State.samePort (s : State) (l : Loc) (old new : Nat) : Bool :=
  let i := l.idx.headD 0
  l.reg.id = .REF_CFG && decide (4 ≤ i) && getBits new 12 4 != getBits old 12 4
    && getBits new 12 4 == s.rd (R.REF_CFG_port (refTwin i))

/-- Why a write that would leave `new` in a register is refused whole; none when it is not. (DEDUCED: log entry 16.) (DEDUCED: log entry 30.) -/
def State.badWrite (s : State) (l : Loc) (old new : Nat) : Option Denial :=
  if s.samePort l old new then some (.flag R.REF_STATUS_cmd_err)
  else if l.reg.flds.any (fun f => f.outside l.reset64 new) || s.breaks l old new then some (rangeDenial l)
  else none

/-! ## Registers whose write does more than store -/

/-- The levels of the trigger outputs follow TB_TRGCTL.out and TB_OUTDLY.inv: pins that change are driven. -/
def State.drivePins (s old : State) : State :=
  s.fold (List.range 5) (fun x o =>
    let lvl (y : State) : Bool := y.outHigh o != y.on (R.TB_OUTDLY_inv o)
    if lvl old = lvl s then x else x.emit (.pin (outPin o) (lvl s)))

/-- The flag settings that the registers hold (R70). -/
def State.flagRegs (s : State) : FlagCfg :=
  ⟨(s.word R.AL_FLGEN_enable.a).toNat, (s.word R.AL_SKLO_lo.a).toNat, (s.word R.AL_SKHI_hi.a).toNat,
    s.rd R.AL_SKCTL_m_min, (s.word R.AL_HMASKCTL_en.a).toNat % 4⟩

/-- FLAG settings bind to the next round boundary (R70). -/
def State.bindFlags (s : State) : State :=
  let n := s.nextRound
  (({ s with al := { s.al with flg := bindRound s.al.flg n s.flagRegs } }).bindChange n .flags).notePending

/-- WINDOW_CHANGE binds to the next round boundary (R67). -/
def State.bindWindow (s : State) : State := (s.bindChange s.nextRound (.win (s.rd R.AL_WIN_win_us))).notePending

/-- A region load of a kind that awaits boundary n (R372). -/
def State.loadBinds (s : State) (kind n : Nat) : Bool :=
  match s.cf.pending with
  | some p => p.kind = kind && p.bound = n && !p.started
  | none => false

/-- PAIRING_TABLE_COMMIT (R104): the shadow table is validated for the slab geometry in force and bound. -/
def State.pairingCommit (s : State) : State :=
  let cnt := s.rd R.BD_PTCMT_cnt
  let t := (List.range (min cnt 32)).map (fun e => (s.word (R.BD_PTBL_r e).a).toNat)
  let bnd := s.bindTo (s.on R.BD_PTCMT_tgt) (s.rq R.BD_PTTGT)
  let refuse (r : Nat) : State := (s.wr R.BD_STATUS_tbl_reason r).flag R.BD_STATUS_tbl_err
  match if 32 < cnt then some 1 else tableReason s.blocks t with
  | some r => refuse r
  | none =>
    match bnd with
    | none => if s.on R.BD_STATUS_tbl_pending then refuse 6 else refuse 8
    | some n =>
      if s.on R.BD_STATUS_tbl_pending || s.loadBinds 2 n then refuse 6
      else
        let s := { s with bd := { s.bd with tables := bindRound s.bd.tables n ⟨s.blocks, t⟩ } }
        ((s.wq R.BD_PTBND n).wr R.BD_STATUS_tbl_pending 1).bindChange n .pairing

/-- A commit of the beam configuration or weights meets a BEAM region load bound to the same boundary (R372). -/
def State.beamHeld (s : State) (tgt : Bool) (round : Nat) : Bool :=
  match s.bindTo tgt round with
  | some n => s.loadBinds 4 n
  | none => false

/-- ENDGAME_REQUEST and ENDGAME_CLEAR (Table 12-5): a write of CK_CTL with eg_req or eg_clr. -/
def State.endgameWrite (s : State) (req clr : Bool) : State :=
  if !req && !clr then s
  else
    match s.bindTo (s.on R.CK_CTL_tgt) (s.rq R.CK_EGTGT) with
    | none => s.flag R.CK_STATUS_cmd_err
    | some n =>
      let s := s.when req (fun s => { s with ck := { s.ck with egReq := some n } })
      let s := s.when clr (fun s => { s with ck := { s.ck with egClr := some n } })
      s.wr R.CK_STATUS_eg_pending 1

/-- PORT_ENABLE and PORT_DISABLE: a port's control register has been written. -/
def State.portWritten (s : State) (p : Nat) (en : Bool) : State :=
  (if en then s.portStart p else s.portStop p).showActive

/-- ETH_PORT_CONTROL_WRITE, with what a port that leaves up brings (R231, R257). -/
def State.ethWritten (s : State) (p : Nat) (v : Word) : State :=
  let up := s.ethUp p
  let s := s.ethControl p v
  s.when (up && !s.ethUp p) (fun s => (s.ptpSelect (some p)).refPortDown true p)

/-- LEAVE, CS_CMD op 3 and CS_CTL.en written 0 (Table 9-4). -/
def State.castLeave (s : State) : State := if s.isActive then s.csRefuse else s.castStop

/-- Master M19 is in reset while CS_CTL.en = 0 (R303): what a change of en means to its port. -/
def State.agentPort (s : State) (was : Bool) : State :=
  if s.on R.CS_CTL_en then s.masterRelease 19 else if was then s.masterReset 19 0 else s

/-- CASTLING_ENABLE and CASTLING_DISABLE: CS_CTL has been written; `was` is en before. -/
def State.castWritten (s : State) (was : Bool) : State :=
  let s := if s.on R.CS_CTL_en then (if was then s else s.castEnable)
    else if was then (if s.isActive then (s.wr R.CS_CTL_en 1).csRefuse else s.castStop) else s
  (s.agentPort was).auCheck

/-- CS_CMD: op 1 RESIGN, 2 TAKE_AS_SOLE, 3 LEAVE, 4 JOIN, 5 HAND_OVER. (DEDUCED: log entry 108.) -/
def State.castCommand (s : State) (op : Nat) : State :=
  match op with
  | 1 => s.castResign
  | 2 => s.castSole
  | 3 => (s.castLeave).agentPort (s.on R.CS_CTL_en)
  | 4 => s.castJoin
  | 5 => s.castHand
  | _ => s

/-- ASP_RUN, ASP_STOP, ASP_STEP and ASP_RESET: a write of SP_CTL, which also resets and releases the crossbar port of
the core (R303). (DEDUCED: log entry 45.) -/
def State.aspWritten (s : State) (n raw : Nat) : State :=
  let s := s.aspControl n raw
  if getBits raw 2 1 = 1 then s.masterReset (2 + n) 0 else s.masterRelease (2 + n)

/-- A write of the register window (SP_WIN): the accumulators take two places, ST ignores bits 12 and 11. -/
def State.spWinWrite (s : State) (n i v : Nat) : State :=
  let b := i / 64 * 64
  let k := i % 64
  let c := s.core n
  let put (r x : Nat) : State :=
    s.setCore n { c with
      reg := smapSet 0 c.reg (b + r) x
      late := c.late.filter (fun l => l.reg ≠ b + r) }
  if k < 16 then put k (v % 2 ^ 32)
  else if k < 24 then put k (v % 2 ^ 16)
  else if k < 32 then put k (v % 2 ^ 32)
  else if k < 36 then put k (putBits (smapGet 0 c.reg (b + k)) 0 32 v)
  else if k < 40 then put (k - 4) (putBits (smapGet 0 c.reg (b + k - 4)) 32 8 v)
  else if k = 40 then put 40 (v % 2 ^ 16)
  else if k = 41 then put 41 (putBits (v % 2 ^ 16) 11 2 0)
  else s

/-- AUDIO_CLOCK_SELECT and the rest of AU_CTL; `was` is clk before. -/
def State.auWritten (s : State) (was : Bool) : State :=
  let s := if s.on R.AU_CTL_clk = was then s else s.auClock (s.on R.AU_CTL_clk)
  s.auCheck

/-- REF_CTL written (R235, R239): hold and revert are taken at once and, in free run, hold gives y its goal; manual and msel are
the selector's (R245). (DEDUCED: log entry 115.) -/
def State.refControl (s : State) (v : Nat) : State :=
  let t := s.setWord R.REF_CTL_manual.a (BitVec.ofNat 32 v)
  let manual := t.on R.REF_CTL_manual
  let msel := t.rd R.REF_CTL_msel
  let t := (t.wr R.REF_CTL_manual (s.rd R.REF_CTL_manual)).wr R.REF_CTL_msel (s.rd R.REF_CTL_msel)
  let t := t.when (t.refSel.isNone && t.on R.REF_CTL_hold != s.on R.REF_CTL_hold) State.freeSlew
  if manual || s.on R.REF_CTL_manual || msel != s.rd R.REF_CTL_msel then t.noteSel (.select manual msel) else t

/-- The PE_WIN rule (R306). -/
def State.winWrite (s : State) (raw : Nat) : State :=
  if raw % 2 ^ 30 = 0 ∧ raw + 2 ^ 36 ≤ s.hbmSize then s.wq R.PE_WIN raw else s.flag R.PE_ERR_win

/-- Registers whose writes have a rule of their own from judging to storing; none for the others. `raw` is what was
written, `new` what the access codes would leave. (DEDUCED: log entry 25.) (DEDUCED: log entry 26.) -/
def State.ownWrite (s : State) (l : Loc) (base raw old new : Nat) : Option State :=
  let i := l.idx.headD 0
  match l.reg.id with
  | .IN_CTLTX => some (s.controlQueue i raw)
  | .AG_CTL => some (s.pmMode (new % 2))
  | .OT_SEQ => some (s.seqSet i new)
  | .OT_RTCTL => some (if new = old then s else s.routeWrite i (BitVec.ofNat 32 new))
  | .OT_EPCTL | .OT_EPPORT | .OT_EPIP =>
    some (if new = old then s else s.endpointWrite i base (BitVec.ofNat 32 new))
  | .OT_EPMAC => some (if new = old then s else if s.epUsed i then s.otRefuse 6 else s.wq base new)
  | .ET_PORTCTL => some (s.ethWritten i (BitVec.ofNat 32 new))
  | .REF_CTL => some (s.refControl new)
  | .SP_WIN => some (s.spWinWrite i (l.idx.getD 1 0) new)
  | .PE_WIN => some (s.winWrite raw)
  | _ => none

/-- What a write does once its value stands in the register: `raw` is what was written, `old` what stood before, `was` the
state before. A write of AL_ROUNDLEN or AL_ORIGIN moves every boundary. (DEDUCED: log entry 69.) -/
def State.wrote (s was : State) (m : Nat) (l : Loc) (raw old : Nat) : State :=
  let i := l.idx.headD 0
  let one (b : Nat) : Bool := raw.testBit b
  match l.reg.id with
  | .IN_CTL => s.showActive
  | .IN_STRCMT => s.when (one 0) (·.streamCommit)
  | .IN_DOMRST =>
    let r := s.domainReset (raw % 65536)
    if r.2 then r.1 else s.xbViol 7 m 1 true (csrAddr R.IN_DOMRST_reset.a)
  | .IN_PORTCTL => s.portWritten i (one 0)
  | .IN_CTLFREE => s.slotFree i (raw % 65536)
  | .AL_CTL =>
    if s.on R.AL_CTL_en then (if was.on R.AL_CTL_en then s else s.alignEnable)
    else if was.on R.AL_CTL_en then s.alignDisable else s
  | .AL_WIN => s.bindWindow
  | .AL_ROUNDLEN | .AL_ORIGIN => { s with rnd := s.frontRound }
  | .AL_FLGEN | .AL_SKLO | .AL_SKHI | .AL_SKCTL | .AL_HMASKCTL => s.bindFlags
  | .AL_CAPCTL => (s.when (one 1) (·.captureRelease)).when (one 0) (·.freezeCommand)
  | .BD_CTL =>
    let s := if one 0 then s.boardEnable else s.boardDisable
    (s.when (one 2) (·.requestDrain)).when (one 1) (·.boardHalt)
  | .BD_PTCMT => s.when (one 0) (·.pairingCommit)
  | .BD_RMAP => s.when (decide (old % 128 ≠ s.rd (R.BD_RMAP_out i))) (·.wr (R.BD_RMAP_pend i) 1)
  | .BD_FMAP => s.when (decide (old % 128 ≠ s.rd (R.BD_FMAP_out i))) (·.wr (R.BD_FMAP_pend i) 1)
  | .AG_CMD => s.groupCmd raw
  | .AG_PMCMT => s.when (one 0) (·.pmCommit)
  | .BA_CTL =>
    let s := if one 0 then s.beamEnable (was.on R.BA_CTL_en) else s.beamDisable
    s.when (one 1) (·.beamHalt)
  | .BA_BCMT =>
    s.when (one 0) (fun s => if s.beamHeld (s.on R.BA_BCMT_tgt) (s.rq R.BA_BTGT) then s.baErr 9 0 else s.beamCommit)
  | .BA_WSEL =>
    if one 0 && s.beamHeld (s.on R.BA_WSEL_tgt) (s.rq R.BA_WTGT) then (s.weightSelect false (one 4) (one 5)).baErr 9 0
    else s.weightSelect (one 0) (one 4) (one 5)
  | .ET_PTPCTL | .ET_PTPPCTL => s.ptpSelect none
  | .IG_CTL =>
    let s := ((s.wr R.IG_CTL_maint (was.rd R.IG_CTL_maint))).maintRequest (one 0)
    s.when (one 1) (·.faultClear)
  | .IG_TESTREQ => s.testRequest (raw % 16) (getBits raw 8 8)
  | .CS_CTL => s.castWritten (was.on R.CS_CTL_en)
  | .CS_CMD => s.castCommand (raw % 8)
  | .CS_PORTCTL => s.portWritten 16 (one 0)
  | .REF_CMD => s.refClear (raw % 256)
  | .REF_CFG => s.refConfigured i (was.on (R.REF_CFG_en i))
  | .TB_STEPCTL => s.when (one 0) (·.stepRequest)
  | .TB_SCECTL => (s.when (one 1) (·.epochInvalidate)).when (one 0) (·.epochCommit)
  | .TB_TRGCTL => (if s.on (R.TB_TRGCTL_arm i) && !was.on (R.TB_TRGCTL_arm i) then s.trgArm i else s).drivePins was
  | .TB_OUTDLY => s.drivePins was
  | .CK_CTL => s.endgameWrite (one 1) (one 2)
  | .HM_CTL => s.when (one 24) (fun s => s.trngRetry s.hm.trngGood)
  | .XB_MBXDB => s.doorbell (raw % 16) (s.secure m 0)
  | .XB_DMACTL => (s.when (one 2) (·.dmaAbort i)).when (one 1) (·.dmaGo i)
  | .EV_HOSTEV => s.fold ((List.range 16).filter one) (fun s k => s.fire (32 + k))
  | .EV_IO =>
    s.when (s.on (R.EV_IO_dir i) && !was.on (R.EV_IO_dir i)) (fun s => s.emit (.pin (evioPin i) (s.ev.drive.testBit i)))
  | .SP_CTL => s.aspWritten i raw
  | .SP_HMSG => s.aspMessage i (BitVec.ofNat 32 raw)
  | .AU_CTL => s.auWritten (was.on R.AU_CTL_clk)
  | .AU_OUTCTL => s.auCheck
  | .MG_CTL => s.when (one 1) (·.wr R.MG_STATUS_pm_unv 0)
  | _ => s

/-! ## The write itself -/

/-- Bits of a register that read one value always, and that value: XB_MATTR bits 1 and 19 (R298), and on PK-8192-C tx_en of
IN_PORTCTL (Table 2-2) and CK_COEF2.e_ba (Table 12-1). (DESIGN CHOICE: log entry 175.) -/
def State.fixedBits (s : State) (l : Loc) : Nat × Nat :=
  match l.reg.id with
  | .XB_MATTR => (0x80002, 0x80002)
  | .IN_PORTCTL => if s.part = .c then (0x200, 0) else (0, 0)
  | .CK_COEF => if s.part = .c && l.idx.headD 0 == 2 then (0xFFFFFFFF, 0) else (0, 0)
  | _ => (0, 0)

/-- A register's value with its fixed bits. -/
def State.hard (s : State) (l : Loc) (v : Nat) : Nat := blend v (s.fixedBits l).2 (s.fixedBits l).1

/-- What a write of `raw` would leave in a register that holds `old`: fields set by their owners, guarded bits kept, W1C
bits cleared, W1S bits set (R16, R17, R408). -/
def State.merged (s : State) (m : Nat) (load : Bool) (l : Loc) (old raw : Nat) : Nat :=
  let want := blend old raw (l.reg.bits (fun f => f.sets && s.owns m load l f))
  let g := if load then 0 else (s.guards l).1
  let kept := blend want old g
  s.hard l (without kept (raw &&& l.reg.bits (fun f => f.acc = .w1c)) ||| (raw &&& l.reg.bits (fun f => f.acc = .w1s)))

/-- The write changes a field that its master does not own (R300). -/
def State.foreign (s : State) (m : Nat) (load : Bool) (l : Loc) (old raw : Nat) : Bool :=
  ((old ^^^ raw) &&& l.reg.bits (fun f => f.sets && !s.owns m load l f)) != 0

/-- The write would change a guarded bit in a state that forbids it (R408). (DEDUCED: log entry 27.) -/
def State.barred (s : State) (m : Nat) (load : Bool) (l : Loc) (old raw : Nat) : Bool :=
  !load && (blend old raw (l.reg.bits (fun f => f.sets && s.owns m load l f)) ^^^ old) &&& (s.guards l).1 != 0

/-- A register's value: both words of a pair. -/
def State.stored (s : State) (l : Loc) (base : Nat) : Nat := if l.reg.pair then s.rq base else (s.word base).toNat

/-- Gives a register its value. -/
def State.store (s : State) (l : Loc) (base v : Nat) : State :=
  if l.reg.pair then s.wq base v else s.setWord base (BitVec.ofNat 32 v)

/-- A write of a whole register at CSR offset `base` (its _LO half for a pair); `a` is the offset accessed. (DEDUCED: log entry 14.) -/
def State.regWrite (s : State) (m : Nat) (load : Bool) (l : Loc) (a base raw : Nat) : State :=
  let old := s.hard l (s.stored l base)
  let new := s.merged m load l old raw
  let t := s.when (s.foreign m load l old raw) (·.deny m a (.viol 3))
  let t := t.when (s.barred m load l old raw) (·.deny m a (s.guards l).2)
  match s.badWrite l old new with
  | some d => t.deny m a d
  | none =>
    match t.ownWrite l base raw old new with
    | some u => u
    | none => (t.store l base new).wrote s m l raw old

/-- A pending region load holds a register off (R372): its records name it and another master writes it. (DEDUCED: log entry 19.) -/
def State.held (s : State) (base : Nat) (pair : Bool) : Bool :=
  match s.cf.pending with
  | some p => p.recs.any (fun r => r.1 = base || (pair && r.1 = base + 4))
  | none => false

/-- The latches of a master (R18). -/
def State.latchOf (s : State) (m : Nat) : Latch := smapGet default s.latch m

/-- Sets the latches of a master. -/
def State.setLatch (s : State) (m : Nat) (x : Latch) : State := { s with latch := smapSet default s.latch m x }

/-- The register stands on a unit that the ordering code lacks (R2, R3): it reads 0 and discards writes. (DEDUCED: log entry 23.) -/
def State.absent (s : State) (a : Nat) (l : Loc) : Bool :=
  (!s.hasBeam && (a / 0x100000 = 5 || a / 0x100000 = 17))
    || (s.part = .m && decide (4 ≤ l.idx.headD 0)
      && (l.reg.id = .HM_STK || l.reg.id = .HM_STKSP || l.reg.id = .HM_STKHW || l.reg.id = .HM_CNT))

/-- A region is unusable after a failed full load (R367): its registers take no write but a load's.
(DESIGN CHOICE: log entry 197.) -/
def State.unusable (s : State) (a : Nat) : Bool :=
  s.rd R.CF_STATUS_cfg_state = 3 && [1, 2, 3, 4, 5, 6, 7, 17].contains (a / 0x100000)

/-- A write of one word of the CSR space by a master, or by a load: reserved space discards it (R19), a _LO half is held
and a _HI half commits both (R18). -/
def State.csrCore (s : State) (m : Nat) (load : Bool) (a : Nat) (v : Word) : State :=
  match locate a with
  | none => s
  | some l =>
    if s.absent a l || (!load && s.unusable a) then s
    else
      let base := if l.hi then a - 4 else a
      let lt := s.latchOf m
      if l.reg.pair && !l.hi then s.setLatch m { lt with wr := some (base, v) }
      else
        let lo := match lt.wr with
          | some (b, x) => if b = base then x.toNat else 0
          | none => 0
        let raw := if l.hi then lo + v.toNat * 2 ^ 32 else v.toNat
        let s := if l.hi then s.setLatch m { lt with wr := none } else s
        if !load && m != 1 && s.held base l.reg.pair then s.flag R.CF_STATUS_wr_held
        else s.regWrite m load l a base raw

end Sys2Proof.Machine
end

