-- ==== Sys2Proof/Machine/CsrRead.lean ====
section
/-! DEFINITION. Reading a register: values that follow other state, snapshots (RL), counters that clear (RC) and the pair
latches (R16, R18, R19); and the access checks of the CSR space (R296 to R299, R303, R378). -/

namespace Sys2Proof.Machine

/-! ## Registers whose value follows other state -/

/-- One bit as a number. -/
def bitOf (b : Bool) (i : Nat) : Nat := if b then 2 ^ i else 0

/-- TOP_ID: the silicon revision and what the ordering code fits (R1 to R3). -/
def State.topId (s : State) : Nat :=
  let code := match s.part with
    | .x => 0
    | .c => 1
    | .m => 2
  Config.silicon.toNat * 2 ^ 24 + s.stacks * 256 + bitOf s.hasBeam 7 + bitOf s.hasBeam 6 + code

/-- Mask copy x is selected, or bound to a round that has not sealed, while AL_CTL.en = 1 (R72). -/
def State.maskBusy (s : State) (x : Nat) : Bool :=
  let live := s.al.open_ ++ [s.nextRound, s.nextRound - 1]
  s.on R.AL_CTL_en && (s.rd R.AL_HMASKCTL_sel = x || live.any (fun n => (s.flagCfg n).hmask % 2 = x)
    || s.al.flg.any (fun p => decide (s.nextRound ≤ p.1) && p.2.hmask % 2 == x))

/-- µs since the last WMARK (CS_WMAGE), saturating. -/
def State.wmarkAge (s : State) : Nat := if s.cs.wmAt = 0 then 0xFFFF else min 0xFFFF ((s.nowNs + 1 - s.cs.wmAt) / 1000)

/-- The register window of a core (SP_WIN), in RESET and STOPPED. -/
def State.spWinRead (s : State) (n i : Nat) : Nat :=
  let b := i / 64 * 64
  let k := i % 64
  let get (r : Nat) : Nat := smapGet 0 (s.core n).reg (b + r)
  if !s.spOpen n then 0
  else if k < 32 then get k
  else if k < 36 then get k % 2 ^ 32
  else if k < 40 then (signed 8 (getBits (get (k - 4)) 32 8) % 2 ^ 32).toNat
  else if k = 40 then get 40
  else if k = 41 then putBits (putBits (get 41) 12 1 (if (s.core n).rpt.isSome then 1 else 0)) 11 1 (s.rd (R.SP_STAT_bank n))
  else 0

/-- The value of a register: what stands in it, with the fields that follow other state. Both words of a pair. -/
def State.regValue (s : State) (l : Loc) (base : Nat) : Nat :=
  let i := l.idx.headD 0
  let k := l.idx.getD 1 0
  let v := s.hard l (s.stored l base)
  match l.reg.id with
  | .TOP_ID => s.topId
  | .IN_STATUS => putBits v 0 1 (if s.on R.IN_CTL_en && s.on R.IN_STATUS_port_up then 1 else 0)
  | .AL_STATUS => putBits v 1 1 (if s.timeMode then 0 else 1)
  | .AL_HMASKCTL => putBits (putBits v 3 1 (if s.maskBusy 0 then 1 else 0)) 4 1 (if s.maskBusy 1 then 1 else 0)
  | .AG_GSIZE => s.groupSize i
  | .BA_STATUS => putBits (putBits v 10 1 (if s.setBusy 0 then 1 else 0)) 11 1 (if s.setBusy 1 then 1 else 0)
  | .BA_WSIZE => s.wsetSize
  | .BA_STGSIZE => s.stgSize s.beamShadow (cfgClasses s.beamShadow)
  | .OT_STATUS => putBits v 0 1 (if s.on R.OT_CTL_en && (List.range 8).any s.ethUp then 1 else 0)
  | .OT_RTGNT => s.grantMB i
  | .OT_RTSTAT => s.segSize i + bitOf (s.routeOver i) 16 + bitOf (s.routeUsed i) 17
  | .CS_WMAGE => s.wmarkAge
  | .REF_DCO => ofSigned 64 s.yNow
  | .CK_CAPEFF => s.capEff.floor.toNat
  | .HM_STATUS => putBits v 0 8 (2 ^ s.stacks - 1)
  | .HM_ERR => s.hm.err.1
  | .EV_GATES => s.gateWord
  | .SP_WIN => s.spWinRead i k
  | .SP_INSTAT => (smapGet [] (s.core i).inQ k).length
  | .SP_OUTSTAT => (smapGet [] (s.core i).outQ k).length
  | .AU_STATUS => putBits v 2 1 (if s.auHeld then 1 else 0)
  | .AU_CHSTAT => putBits v 0 15 (s.auFill i)
  | _ => v

/-! ## Snapshots -/

/-- The timing snapshot of a port reaches its registers (R43). -/
def State.latchTiming (s : State) (p : Nat) : State :=
  let t := (s.ulp p).tim
  ((((s.wq (R.IN_TIMSC p) t.sc).wq (R.IN_TIMEPS p) t.epS).wr (R.IN_TIMEPNS_v p) t.epNs).wq (R.IN_TIMARRS p) t.arrS).wr
    (R.IN_TIMARRNS_v p) t.arrNs

/-- The latest plan's record and round reach CK_PLAN and CK_ROUND (R271). (DEDUCED: log entry 129.) -/
def State.latchPlan (s : State) : State :=
  match s.ck.plans.foldl (fun (b : Option Plan) p => match b with
    | some q => if q.round ≤ p.round then some p else some q
    | none => some p) none with
  | none => s
  | some p =>
    (s.fold (List.range 10) (fun s w => s.wr (R.CK_PLAN_bytes w) (leAt p.record (4 * w) 4))).wq R.CK_ROUND p.round

/-- The header last latched of a stream port reaches its registers (R337). -/
def State.latchHeader (s : State) (n k : Nat) : State :=
  s.fold (List.range 4) (fun s w => s.wr (R.SP_INHDR_word n k w) ((smapGet [] (s.core n).hdr k).getD w 0))

/-- What a read of a register latches before it answers. -/
def State.snap (s : State) (l : Loc) : State :=
  let i := l.idx.headD 0
  if l.hi then s
  else
    match l.reg.id with
    | .IN_TIMSC => s.latchTiming i
    | .IG_FIX =>
      let (kind, f, r, q, n) := s.ig.fix
      ((((s.wr R.IG_FIX_kind kind).wr R.IG_FIX_pfile f).wr R.IG_FIX_prank r).wr R.IG_FIXQ_q q).wq R.IG_FIXRND n
    | .TB_NOWS => ((s.wq R.TB_NOWS (s.taiS % 2 ^ 48)).wr R.TB_NOWNS_v s.taiNs).wq R.TB_NOWFR s.taiFr
    | .TB_CAPS => s.stampRead i
    | .CK_PLAN => if i = 0 then s.latchPlan else s
    | .HM_ERR => ((s.wr R.HM_ERRROW_row s.hm.err.2.1).wq R.HM_ERRRND s.hm.err.2.2)
    | .XB_VIOL => s.wq R.XB_VIOLADR s.xb.violAdr
    | .SP_INHDR => if l.idx.getD 2 0 = 0 then s.latchHeader i (l.idx.getD 1 0) else s
    | _ => s

/-- A read of one word of the CSR space by a master: the state it leaves, and the word. -/
def State.csrRead (s : State) (m a : Nat) : State × Word :=
  match locate a with
  | none => (s, 0)
  | some l =>
    if s.absent a l then (s, 0)
    else
      let lt := s.latchOf m
      if l.hi then
        (s, match lt.rd with
          | some (b, h) => if b = a - 4 then h else 0
          | none => 0)
      else
        let s := s.snap l
        let v := s.regValue l a
        let s := if l.reg.pair then s.setLatch m { lt with rd := some (a, BitVec.ofNat 32 (v / 2 ^ 32)) } else s
        let rc := l.reg.bits (fun f => f.acc = .rc)
        (if rc = 0 then s else s.setWord a (BitVec.ofNat 32 (without v rc)), BitVec.ofNat 32 v)

/-! ## Access checks -/

/-- Before Ready the host reaches only blocks TOP_, MG_, CF_ and PE_ (R378). (DEDUCED: log entry 43.) -/
def State.hostReach (s : State) (a : Nat) : Bool :=
  s.on R.MG_STATUS_ready || [0x00, 0x12, 0x13, 0x14].contains (a / 0x100000)

/-- An error response of the crossbar; to the host it is also a completer abort (R307). -/
def State.failTo (s : State) (m : Nat) : State := (s.when (m == 0) State.peAbort).errResp

/-- The answer to an access of the CSR space that does not reach it: the master's port is quiesced (R303), no path (R297),
alignment (R296), the host before Ready (R378), security (R299). None when it does. -/
def State.csrDenied (s : State) (m a : Nat) (write : Bool) : Option State :=
  if s.quiesced m then some s
  else if !hasPath m 1 then some ((s.xbViol 1 m 1 write (csrAddr a)).failTo m)
  else if a % 4 ≠ 0 then some ((s.xbViol 4 m 1 write (csrAddr a)).failTo m)
  else if m = 0 && !s.hostReach a then some (s.failTo m)
  else if write && !s.secure m 0 && (s.rd R.XB_CSRSEC_blk).testBit (a / 0x100000) then
    some ((s.xbViol 2 m 1 write (csrAddr a)).failTo m)
  else none

/-- A 4-byte read of the CSR space: REGISTER_READ, PAIR_LO_READ, COUNTER_READ, SNAPSHOT_READ. -/
def State.readWord (s : State) (m a : Nat) : State :=
  match s.csrDenied m a false with
  | some s => s
  | none =>
    let r := s.csrRead m a
    r.1.okResp (leBytes 4 r.2.toNat)

end Sys2Proof.Machine
end

