-- ==== Sys2Proof/Machine/Config.lean ====
section
/-! DEFINITION. Configuration bitstreams (R359 to R374), the configuration store (R364), keys (R363), run-time repair and
the repair log (R375 to R377), region resets (R384), and the whole register write. -/

namespace Sys2Proof.Machine

/-! ## The configuration store (R364) -/

/-- Bytes of the store. -/
def State.stGet (s : State) (o n : Nat) : Bytes := memGet s.cf.store o n

/-- A little-endian number in the store. -/
def State.stNum (s : State) (o n : Nat) : Nat := leNat (s.stGet o n)

/-- Writes the store. -/
def State.stPut (s : State) (o : Nat) (bs : Bytes) : State :=
  { s with cf := { s.cf with store := memPut s.cf.store o bs } }

/-- Where slot k starts, and its system area. -/
def slotBase (k : Nat) : Nat := k * 0x8000000
def sysBase (k : Nat) : Nat := k * 0x8000000 + 0x7F00000

/-- The largest container: 127 MiB. -/
def maxContainer : Nat := 127 * 2 ^ 20

/-- CF_SLOTs.state. -/
def State.slotState (s : State) (k : Nat) : Nat := s.rd (R.CF_SLOT_state k)

/-! ## Containers (R360 to R363) -/

/-- A section of a container: its table entry and its header (Table 18-4); `off` is its offset in the store. -/
structure Sec where
  kind : Nat
  off : Nat
  logic : Nat
  nrec : Nat
  blob : Nat
  digest : Bytes
  deriving DecidableEq, Repr, Inhabited

/-- Bytes of a section. -/
def Sec.len (x : Sec) : Nat := 16 + x.logic + 8 * x.nrec + x.blob

/-- Header fields of the container in slot k (Table 18-3). -/
def State.ctKind (s : State) (k : Nat) : Nat := s.stNum (slotBase k + 6) 1
def State.ctKey (s : State) (k : Nat) : Nat := s.stNum (slotBase k + 7) 1
def State.ctParts (s : State) (k : Nat) : Nat := s.stNum (slotBase k + 8) 4
def State.ctEpoch (s : State) (k : Nat) : Nat := s.stNum (slotBase k + 12) 4
def State.ctLen (s : State) (k : Nat) : Nat := s.stNum (slotBase k + 16) 8
def State.ctNsec (s : State) (k : Nat) : Nat := s.stNum (slotBase k + 24) 4
def State.ctSig (s : State) (k : Nat) : Nat := s.stNum (slotBase k + 28) 4
def State.ctBase (s : State) (k : Nat) : Bytes := s.stGet (slotBase k + 32) 48

/-- The sections of the container in slot k. -/
def State.sections (s : State) (k : Nat) : List Sec :=
  (List.range (min 16 (s.ctNsec k))).map (fun i =>
    let e := slotBase k + 128 + 64 * i
    let o := slotBase k + s.stNum (e + 8) 8
    { kind := s.stNum e 1, off := o, logic := s.stNum o 4, nrec := s.stNum (o + 4) 4, blob := s.stNum (o + 8) 4,
      digest := s.stGet (e + 16) 48 })

/-- The register records of a section: CSR offset and value. -/
def State.secRecords (s : State) (x : Sec) : List (Nat × Nat) :=
  (List.range x.nrec).map (fun i =>
    let o := x.off + 16 + x.logic + 8 * i
    (s.stNum o 4, s.stNum (o + 4) 4))

/-- The blob of a section. -/
def State.secBlob (s : State) (x : Sec) : Bytes := s.stGet (x.off + 16 + x.logic + 8 * x.nrec) x.blob

/-- Reason 1: magic, version, ckind, nsec, sig_off or length invalid. (DEDUCED: log entry 147.) -/
def State.ctMalformed (s : State) (k : Nat) : Bool :=
  let b := slotBase k
  let sig := s.ctSig k
  s.stGet b 4 != [0x46, 0x4C, 0x47, 0x4E] || s.stNum (b + 4) 2 != 1 || decide (1 < s.ctKind k)
    || decide (s.ctNsec k < 1 ∨ 16 < s.ctNsec k) || (s.ctKind k = 1 && s.ctNsec k != 1)
    || decide (maxContainer < s.ctLen k) || s.ctLen k != sig + 128 || decide (sig < 128 + 64 * s.ctNsec k)
    || (s.sections k).any (fun x => (x.off - b) % 4096 != 0 || decide (b + sig < x.off + x.len)
      || (decide (8 ≤ x.kind) && x.logic != 0))

/-- The ordering code as a bit of `parts`. -/
def State.partBit (s : State) : Nat :=
  match s.part with
  | .x => 0
  | .c => 1
  | .m => 2

/-- Section kinds a part takes (Tables 18-1 and 18-2). -/
def State.kindAllowed (s : State) (kind : Nat) : Bool :=
  (decide (kind ≤ 6) || kind = 8 || kind = 9) && (s.hasBeam || (kind != 4 && kind != 6))

/-- Section kinds a full container must carry (Table 18-1). -/
def State.kindsNeeded (s : State) : List Nat := if s.hasBeam then [0, 1, 2, 3, 4, 5, 6, 8] else [0, 1, 2, 3, 5, 8]

/-- Reason 2: the part, or a section kind. -/
def State.ctWrongPart (s : State) (k : Nat) : Bool :=
  let kinds := (s.sections k).map Sec.kind
  !(s.ctParts k).testBit s.partBit || kinds.any (fun x => !s.kindAllowed x)
    || (if s.ctKind k = 0 then s.kindsNeeded.any (fun x => !kinds.contains x) else kinds.any (fun x => decide (6 < x)))

/-- Public key n as a point. -/
def State.keyPoint (s : State) (n : Nat) : Nat × Nat :=
  let v := if n = 0 then Config.aqdalKey.toNat else smapGet 0 s.cf.keys n
  (v % 2 ^ 384, v / 2 ^ 384)

/-- Key n is programmed and not revoked. -/
def State.keyUsable (s : State) (n : Nat) : Bool :=
  decide (n < 4) && (s.rd R.CF_KEYS_prog).testBit n && !(s.rd R.CF_KEYS_revoked).testBit n

/-- The signature of the container in slot k verifies (R362). -/
def State.ctSigned (s : State) (k : Nat) : Bool :=
  let b := slotBase k
  let sig := b + s.ctSig k
  ecdsaOk (s.keyPoint (s.ctKey k)) (s.stNum sig 48) (s.stNum (sig + 48) 48) (sha384 (s.stGet b (s.ctSig k)))

/-- The lowest reason for which the container in slot k fails verification (R363, Table 18-6). (DEDUCED: log entry 146.) -/
def State.ctReason (s : State) (k : Nat) : Option Nat :=
  if s.ctMalformed k then some 1
  else if s.ctWrongPart k then some 2
  else if (s.sections k).any (fun x => sha384 (s.stGet x.off x.len) != x.digest) then some 3
  else if s.keyUsable (s.ctKey k) && !s.ctSigned k then some 4
  else if !s.keyUsable (s.ctKey k) then some 5
  else none

/-- The registers that a section's records may name (R361, Table 18-2). -/
def recordAllowed (kind a : Nat) : Bool :=
  match locate a with
  | none => false
  | some l =>
    let b := a / 0x100000
    match kind with
    | 0 => b = 1
    | 1 => b = 2
    | 2 => b = 3
    | 3 => b = 4
    | 4 => b = 5
    | 5 => b = 6 || b = 7
    | 6 => b = 17
    | 8 => decide (8 ≤ b ∧ b ≤ 15) || decide (19 ≤ b ∧ b ≤ 21)
    | 9 => [RegId.SP_XWIN, .SP_INCFGA, .SP_INCFGB, .SP_OUTCFG, .SP_HMSG].contains l.reg.id
    | _ => false

/-- Reason 13: a record outside its section's blocks, or to an unassigned register. -/
def State.badRecords (s : State) (x : Sec) : Bool := (s.secRecords x).any (fun r => !recordAllowed x.kind r.1)

/-! ## Answers and slot registers -/

/-- A configuration operation is refused with a reason of Table 18-6. -/
def State.cfRefuse (s : State) (r : MbxReq) (reason : Nat) : State :=
  let s := (s.wr R.CF_STATUS_result reason).when (decide (3 ≤ reason ∧ reason ≤ 5)) (·.inc (R.CF_CNT 3))
  s.mbxAnswer r 1 [BitVec.ofNat 8 reason]

/-- A refusal for which Table 18-6 states no reason: the reason is a free value. -/
def State.cfRefuseFree (s : State) (r : MbxReq) : State :=
  State.cfRefuse s.tick r ((Config.freeBits s.fresh).toNat % 16)

/-- A configuration operation is done. -/
def State.cfDone (s : State) (r : MbxReq) : State := s.mbxAnswer r 0 []

/-- The slot an operation names. -/
def MbxReq.slotArg (r : MbxReq) : Nat := byteAt r.payload 0

/-- A slot named in the load record is in use (R366). -/
def State.slotInUse (s : State) (k : Nat) : Bool := s.cf.record.contains k

/-- CF_SLOTs.in_use follows the load record. -/
def State.showRecord (s : State) : State :=
  s.fold (List.range 4) (fun s k => s.wr (R.CF_SLOT_in_use k) (if s.slotInUse k then 1 else 0))

/-- What CF_SLOTs shows of the container in slot k. -/
def State.showSlot (s : State) (k : Nat) : State :=
  let s := ((s.wr (R.CF_SLOT_key_id k) (s.ctKey k)).wr (R.CF_SLOT_ckind k) (s.ctKind k)).wr (R.CF_SLOTEP_epoch k) (s.ctEpoch k)
  s.wr (R.CF_SLOTLEN_len_kib k) (ceilDiv (s.ctLen k) 1024)

/-- CONTAINER_WRITE, op 0x0020: the container is copied from HBM into the slot and verified. -/
def State.containerWrite (s : State) : State := s.mbxOp 0x20 (fun s r =>
  let k := r.slotArg
  let src := leAt r.payload 4 8
  let len := leAt r.payload 12 8
  if 3 < k then s.cfRefuseFree r
  else if maxContainer < len then s.cfRefuse r 1
  else if s.slotInUse k ∨ s.hbmSize < src + len then s.cfRefuse r 6
  else
    let s := (s.stPut (slotBase k) (s.bytes src len)).incBy (R.CF_SLOTWR_writes k).a 1
    let s := s.showSlot k
    match if s.ctLen k ≠ len then some 1 else s.ctReason k with
    | some x => (s.wr (R.CF_SLOT_state k) 4).cfRefuse r x
    | none => (s.wr (R.CF_SLOT_state k) 2).cfDone r)

/-- A slot is verified again: a failure leaves it BAD. -/
def State.reverify (s : State) (k : Nat) : State × Option Nat :=
  match if s.slotState k = 0 then some 1 else s.ctReason k with
  | some x => (s.when (s.slotState k != 0) (·.wr (R.CF_SLOT_state k) 4), some x)
  | none => (s.when (s.slotState k != 3) (·.wr (R.CF_SLOT_state k) 2), none)

/-- CONTAINER_VERIFY, op 0x0021. (DEDUCED: log entry 148.) -/
def State.containerVerify (s : State) : State := s.mbxOp 0x21 (fun s r =>
  if 3 < r.slotArg then s.cfRefuseFree r
  else
    match s.reverify r.slotArg with
    | (s, some x) => s.cfRefuse r x
    | (s, none) => s.cfDone r)

/-- SLOT_EMPTY, op 0x0022. -/
def State.slotEmpty (s : State) : State := s.mbxOp 0x22 (fun s r =>
  if 3 < r.slotArg then s.cfRefuseFree r
  else if s.slotInUse r.slotArg then s.cfRefuse r 6
  else (s.wr (R.CF_SLOT_state r.slotArg) 0).cfDone r)

/-- SLOT_MARK_GOOD, op 0x0025: requires a VERIFIED slot (R366). -/
def State.slotMarkGood (s : State) : State := s.mbxOp 0x25 (fun s r =>
  if r.slotArg ≤ 3 ∧ s.slotState r.slotArg = 2 then (s.wr (R.CF_SLOT_state r.slotArg) 3).cfDone r
  else s.cfRefuseFree r)

/-- KEY_PROGRAM, op 0x0026 with tgt = 0: X then Y of the key, each little-endian. (PRESUMED: log entry 152.) -/
def State.keyProgram (s : State) : State := s.mbxOp 0x26 (fun s r =>
  let n := byteAt r.payload 0
  if byteAt r.payload 1 ≠ 0 then s
  else if !r.secure then s.cfRefuseFree r
  else if 3 < n ∨ (s.rd R.CF_KEYS_prog).testBit n then s.cfRefuse r 5
  else
    let s := { s with cf := { s.cf with keys := smapSet 0 s.cf.keys n (leAt r.payload 8 96) } }
    (s.wr R.CF_KEYS_prog (setBit (s.rd R.CF_KEYS_prog) n true)).cfDone r)

/-- KEY_REVOKE, op 0x0026 with tgt = 1. -/
def State.keyRevoke (s : State) : State := s.mbxOp 0x26 (fun s r =>
  let n := byteAt r.payload 0
  if byteAt r.payload 1 = 0 then s
  else if !r.secure ∨ byteAt r.payload 1 ≠ 1 then s.cfRefuseFree r
  else if 3 < n ∨ !(s.rd R.CF_KEYS_prog).testBit n then s.cfRefuse r 5
  else (s.wr R.CF_KEYS_revoked (setBit (s.rd R.CF_KEYS_revoked) n true)).cfDone r)

/-! ## Applying sections (R361, R367, R371) -/

/-- Register records are applied in order, with owner rights and without the guards of R408 (R367, R370). -/
def State.applyRecords (s : State) (recs : List (Nat × Nat)) : State :=
  s.fold recs (fun s r => s.csrCore 1 true r.1 (BitVec.ofNat 32 r.2))

/-- The pairing table that the shadow holds, if it is valid for the slab geometry (R90). -/
def State.shadowTable (s : State) : Option PairTable :=
  let cnt := s.rd R.BD_PTCMT_cnt
  let t := (List.range (min cnt 32)).map (fun e => (s.word (R.BD_PTBL_r e).a).toNat)
  if 32 < cnt ∨ (tableReason s.blocks t).isSome then none else some ⟨s.blocks, t⟩

/-- A register whose value waits for a commit: the stream table, the pairing table, the beam configuration. -/
def shadowed (kind a : Nat) : Bool :=
  match kind with
  | 0 => decide ((0x108000 ≤ a ∧ a < 0x110000) ∨ (0x120000 ≤ a ∧ a < 0x124000))
  | 2 =>
    match locate a with
    | some l => l.reg.id = .BD_PTBL || l.reg.id = .BD_PTCMT
    | none => false
  | 4 => isBeamShadow a
  | _ => false

/-- The records name a register whose value waits for a commit. -/
def namesShadow (kind : Nat) (recs : List (Nat × Nat)) : Bool := recs.any (fun r => shadowed kind r.1)

/-- The records of a section have been applied: the tables they hold are valid as a commit would find them (R370). -/
def State.commitsValid (s : State) (kind : Nat) (recs : List (Nat × Nat)) : Bool :=
  let task : Bool := recs.any (fun r => match locate r.1 with
    | some l => l.reg.id = .BA_TASK
    | none => false)
  match kind with
  | 2 => !namesShadow 2 recs || s.shadowTable.isSome
  | 4 => (!task || s.taskValid) && (!namesShadow 4 recs || (s.beamReason s.beamShadow).isNone)
  | _ => true

/-- The settings that the records of a load have given come into force from round n on (R104, R371). -/
def State.inForce (s : State) (kind n : Nat) (recs : List (Nat × Nat)) : State :=
  if kind ≠ 1 && !namesShadow kind recs then s
  else
  match kind with
  | 0 => { s with ul := { s.ul with tables := bindRound s.ul.tables n s.streamShadow } }
  | 1 =>
    { s with al := { s.al with
      flg := bindRound s.al.flg n s.flagRegs
      winOff := (s.rd R.AL_WIN_win_us : Int) - 500 } }
  | 2 =>
    match s.shadowTable with
    | some t =>
      let s := { s with bd := { s.bd with tables := bindRound s.bd.tables n t } }
      s.showTable n
    | none => s
  | 4 =>
    if (s.beamReason s.beamShadow).isNone then { s with ba := { s.ba with cfgs := bindRound s.ba.cfgs n s.beamShadow } } else s
  | _ => s

/-- The Pair Map image of a section (R361): entries that are not 0, by u × 4096 + v. -/
def mapImage (bs : Bytes) : SMap (BitVec 16) :=
  (List.range 16777216).filterMap (fun k =>
    let e := BitVec.ofNat 16 (leAt bs (2 * k) 2)
    if e = 0 then none else some (k, e))

/-- The Pair Map is loaded in direct mode; its digest is due. -/
def State.loadMap (s : State) (bs : Bytes) : State :=
  State.pmDigestDue { s with ag := { s.ag with pm := mapImage bs, pmOld := [] } }

/-- An image of the ASP blob (R361). -/
structure AspImage where
  core : Nat
  space : Nat
  run : Bool
  first : Nat
  words : List Nat
  pc : Nat
  deriving DecidableEq, Repr

/-- Parses the ASP blob, at most `fuel` images. -/
def aspImages : Nat → Bytes → List AspImage
  | 0, _ => []
  | k + 1, bs =>
    if bs.length < 16 then []
    else
      let n := leAt bs 8 4
      let img : AspImage :=
        { core := byteAt bs 0, space := byteAt bs 1, run := (byteAt bs 2).testBit 0, first := leAt bs 4 4,
          words := (List.range n).map (fun i => leAt bs (16 + 4 * i) 4), pc := leAt bs 12 4 }
      img :: aspImages k (bs.drop (16 + 4 * n))

/-- First word and size in words of an ASP memory: P, X, Y (Table 16-4). -/
def spaceOf (x : Nat) : Nat × Nat := if x = 0 then (0, 0x8000) else if x = 1 then (0x8000, 0x4000) else (0xC000, 0x4000)

/-- An image is written into a core's memory; words beyond the memory are not. -/
def State.loadImage (s : State) (x : AspImage) : State :=
  if 15 < x.core ∨ 2 < x.space then s
  else
    let (b, n) := spaceOf x.space
    s.fold (List.range x.words.length) (fun s i =>
      if x.first + i < n then s.setSpWord x.core (b + x.first + i) (x.words.getD i 0) else s)

/-- Step 5 of R367: a core with images is STOPPED at its start PC, or RUNNING; others stay in RESET. -/
def State.startCore (s : State) (imgs : List AspImage) (n : Nat) : State :=
  let mine := imgs.filter (fun x => x.core = n)
  if mine.isEmpty then s
  else
    let pc := ((mine.filter (fun x => x.space = 0)).getLast?.map AspImage.pc).getD 0
    ((s.wr (R.SP_STAT_state n) (if mine.any AspImage.run then 2 else 1)).wr (R.SP_PC_pc n) pc).wr (R.SP_CTL_run n)
      (if mine.any AspImage.run then 1 else 0)

/-- Every ASP core is reset. -/
def State.resetCores (s : State) : State := s.fold (List.range 16) (fun s n => s.aspReset n)

/-- The ASP section: images and records while every core is in RESET (R344, R367, R388). -/
def State.loadAsps (s : State) (secs : List Sec) : State :=
  let mine := secs.filter (fun x => x.kind = 9)
  let imgs := mine.flatMap (fun x => aspImages 4096 (s.secBlob x))
  let s := s.fold imgs (fun s x => s.loadImage x)
  let s := s.fold mine (fun s x => s.applyRecords (s.secRecords x))
  s.fold (List.range 16) (fun s n => s.startCore imgs n)

/-- CF_CFGHASH: the SHA-384 of the ten digests in kind order (R368). -/
def State.setHash (s : State) : State :=
  let bs := (List.range 10).flatMap (fun k => leBytes 48 (smapGet 0 s.cf.digs k))
  let h := sha384 bs
  s.fold (List.range 12) (fun s w => s.wr (R.CF_CFGHASH_bytes w) (leAt h (4 * w) 4))

/-- The configuration epoch from round n on (R368). -/
def State.setCfgEpoch (s : State) (n ep : Nat) : State :=
  let s := s.wr R.CF_EPOCH_epoch ep
  { s with cf := { s.cf with epochs := bindRound s.cf.epochs n ep } }

/-! ## Full load (R367) -/

/-- The device is not quiesced for a full load. -/
def State.notQuiesced (s : State) : Bool :=
  s.on R.IN_CTL_en || s.on R.AL_CTL_en || s.on R.BD_CTL_en || s.on R.BA_CTL_en || s.on R.OT_CTL_en || s.on R.AU_CTL_en
    || !s.openGroups.isEmpty

/-- The lowest reason for which op 0x0023 is refused once the container has verified. -/
def State.fullReason (s : State) (k : Nat) : Option Nat :=
  if s.ctKind k ≠ 0 then some 1
  else if s.notQuiesced then some 7
  else if (s.sections k).any s.badRecords then some 13
  else if s.csState ≠ 0 then some 15
  else none

/-- The steps of R367 after the logic images. The Pair Map image must be valid (R109): the second part is false when a
step fails. -/
def State.applyFull (s : State) (k : Nat) : State × Bool :=
  let secs := s.sections k
  let s := s.resetCores
  let s := s.fold (secs.filter (fun x => x.kind = 8)) (fun s x => s.applyRecords (s.secRecords x))
  let asp := s.loadAsps secs
  let recs (kind : Nat) : List (Nat × Nat) := (secs.filter (fun x => x.kind = kind)).flatMap s.secRecords
  let s := asp.fold (List.range 7) (fun s kind => s.applyRecords (recs kind))
  let s := s.fold (List.range 7) (fun s kind => s.inForce kind 0 (recs kind))
  let maps := (secs.filter (fun x => x.kind = 3 ∧ x.blob ≠ 0)).map s.secBlob
  let ok := maps.all (fun bs => bs.length = 2 ^ 25 && s.mapValid (mapImage bs))
  let s := s.fold maps (fun s bs => s.loadMap bs)
  let digs := secs.foldl (fun d x => smapSet 0 d x.kind (leNat x.digest)) ([] : SMap Nat)
  let s := { s with cf := { s.cf with
    digs := digs
    record := [k]
    epochs := [] } }
  (((s.setHash).setCfgEpoch 0 (s.ctEpoch k)).showRecord, ok)

/-- A layout that a load brings, with the groups given, keeps R24. -/
def State.loadFits (s : State) (groups : List Nat) : Bool :=
  let cls := cfgClasses (s.baCfg s.nextRound)
  s.layoutFits (s.ringSize s.pktMin s.gOpenOf) groups (s.hasBeam && cls != 0) cls

/-- A full container leaves valid tables, and R24 holds for its layout with every group it defines.
(DESIGN CHOICE: log entry 196.) -/
def State.fullFits (s : State) (k : Nat) : Bool :=
  let t := (s.applyFull k).1
  (s.sections k).all (fun x => t.commitsValid x.kind (s.secRecords x)) && t.loadFits (groupList.filter (fun g => decide (1 ≤ t.rd (R.AG_GLEN_len g))))

/-- FULL_LOAD, op 0x0023: the container is verified again and the load begins. -/
def State.fullLoad (s : State) : State := s.mbxOp 0x23 (fun s r =>
  let k := r.slotArg
  if 3 < k then s.cfRefuseFree r
  else
    match s.reverify k with
    | (s, some x) => s.cfRefuse r x
    | (s, none) =>
      match s.fullReason k with
      | some x => s.cfRefuse r x
      | none =>
        if s.fullFits k then ({ s with cf := { s.cf with loading := some k } }).wr R.CF_STATUS_cfg_state 1
        else s.cfRefuseFree r)

/-- What a completed or failed full load leaves in CF_STATUS. -/
def State.endFull (s : State) (k : Nat) (ok : Bool) : State × Bool :=
  let s := { s with cf := { s.cf with loading := none } }
  let (t, good) := s.applyFull k
  if ok && good then
    (((t.wr R.CF_STATUS_cfg_state 2).wr R.CF_STATUS_src_slot k).inc (R.CF_CNT 0), true)
  else ((s.wr R.CF_STATUS_cfg_state 3).inc (R.CF_CNT 2), false)

/-- FULL_LOAD_COMPLETE: the load takes effect and the request is answered. (DEDUCED: log entry 149.) -/
def State.fullComplete (s : State) (ok : Bool) : State :=
  match s.cf.loading, s.xb.mbxQ with
  | some k, (slot, sec) :: _ =>
    let r := s.mbxRead slot sec
    match s.endFull k ok with
    | (s, true) => s.cfDone r
    | (s, false) => (s.tick).mbxAnswer r 1 [(Config.freeBits s.fresh).setWidth 8]
  | _, _ => s

/-! ## Region load (R369 to R373) -/

/-- Load time in µs of a compute region (Table 18-7). -/
def loadTime (kind : Nat) : Nat := if kind = 2 ∨ kind = 4 then 2000 else if kind = 3 then 1000 else 0

/-- A commit of the region's registers is pending (reason 12). -/
def State.commitPending (s : State) (kind : Nat) : Bool :=
  match kind with
  | 0 => s.on R.IN_STATUS_str_pending
  | 1 => s.on R.AL_STATUS_w_pending || s.on R.AL_HMASKCTL_pending
  | 2 => s.on R.BD_STATUS_tbl_pending
  | 3 => s.on R.AG_STATUS_pm_pending
  | 4 => s.on R.BA_STATUS_w_pending || s.on R.BA_STATUS_b_pending
  | _ => false

/-- R370: a record of a region load must not change this word. -/
def State.frozenWord (s : State) (l : Loc) : Nat :=
  let i := l.idx.headD 0
  match l.reg.id with
  | .IN_PORTCTL => 0x6
  | .AL_SLABGEO | .AL_BUF_BASE | .AL_ROUNDLEN | .AL_ORIGIN => allBits
  | .AG_GCFG | .AG_GLEN | .AG_GCH | .AG_GSTART | .AG_GBASE0 | .AG_GBASE1 | .AG_GTILE => if s.gState i != 0 then allBits else 0
  | .BA_WBASE_A | .BA_WBASE_B | .BA_STGBASE => allBits
  | .OT_RTCTL => if s.routeUsed i then allBits else 0
  | .OT_EPCTL | .OT_EPPORT | .OT_EPMAC | .OT_EPIP =>
    if (List.range 256).any (fun r => s.routeUsed r && (s.routeEps r).contains i) then allBits else 0
  | .ET_PORTCTL =>
    if (List.range 256).any (fun r => s.routeUsed r && (s.routePorts r).contains i) then 0x7 else 0
  | _ => 0

/-- A record would change what R370 keeps: of the stream table both the one in force and one pending. -/
def State.changes (s : State) (r : Nat × Nat) : Bool :=
  if shadowed 0 r.1 then (s.rnd :: s.ul.tables.map Prod.fst).any (fun n => decide (s.rnd ≤ n) && s.strWord n r.1 != r.2)
  else
    match locate r.1 with
    | some l => ((s.word r.1).toNat ^^^ r.2) &&& s.frozenWord l != 0
    | none => false

/-- Reason 14: a forbidden change in a region load (R370). -/
def State.forbidden (s : State) (x : Sec) : Bool :=
  (s.secRecords x).any s.changes
  || (x.kind = 3 && x.blob != 0 && !s.openGroups.isEmpty && mapImage (s.secBlob x) != s.ag.pm)

/-- The lowest reason for which op 0x0024 is refused once the container has verified. -/
def State.regionReason (s : State) (k : Nat) (x : Sec) (bound : Option Nat) : Option Nat :=
  let hash := (List.range 12).flatMap (fun w => leBytes 4 (s.word (R.CF_CFGHASH_bytes w).a).toNat)
  if s.ctKind k ≠ 1 then some 1
  else if s.ctBase k ≠ hash then some 8
  else if s.cf.pending.isSome then some 9
  else if bound.isNone then some 10
  else if s.roundDur ≠ 0 ∧ s.roundDur * 1000000 < ((loadTime x.kind : Nat) : Rat) * 25 then some 11
  else if s.commitPending x.kind then some 12
  else if s.badRecords x then some 13
  else if s.forbidden x then some 14
  else none

/-- A region load takes effect from its boundary on: its records, digest, hash and epoch, and the load record. -/
def State.regionTake (s : State) (p : RegionLoad) : State :=
  let s := s.applyRecords p.recs
  let s := if p.kind = 0 then s else s.inForce p.kind p.bound p.recs
  let s := if p.kind = 3 ∧ p.blob ≠ [] then s.loadMap p.blob else s
  let s := { s with cf := { s.cf with
    digs := smapSet 0 s.cf.digs p.kind p.digest
    record := s.cf.record ++ [p.slot] } }
  ((s.setHash).setCfgEpoch p.bound p.epoch).showRecord

/-- A region load leaves valid tables, and R24 holds for the layout with the groups in use. (DESIGN CHOICE: log entry 196.) -/
def State.regionFits (s : State) (p : RegionLoad) : Bool :=
  let t := s.regionTake p
  t.commitsValid p.kind p.recs && t.loadFits s.openGroups

/-- REGION_LOAD, op 0x0024: bound to a boundary, or refused. -/
def State.regionLoad (s : State) : State := s.mbxOp 0x24 (fun s r =>
  let k := r.slotArg
  let bound := s.bindTo (byteAt r.payload 1 = 1) (leAt r.payload 4 8)
  if 3 < k then s.cfRefuseFree r
  else
    match s.reverify k with
    | (s, some x) => s.cfRefuse r x
    | (s, none) =>
      match (s.sections k).head? with
      | none => s.cfRefuse r 1
      | some x =>
        match s.regionReason k x bound with
        | some y => s.cfRefuse r y
        | none =>
          let b := bound.getD 0
          let p : RegionLoad :=
            { slot := k, kind := x.kind, bound := b, epoch := s.ctEpoch k, digest := leNat x.digest,
              recs := s.secRecords x, blob := s.secBlob x, started := false }
          if s.regionFits p then
            let s := { s with cf := { s.cf with pending := some p } }
            (((s.wr R.CF_STATUS_rl_pending 1).wr R.CF_STATUS_rl_kind x.kind).wq R.CF_RLBND b).cfDone r
          else s.cfRefuseFree r)

/-- The region's work for the rounds before b is over (Table 18-7): none of them is still to seal, waits or runs. -/
def State.regionClear (s : State) (kind b : Nat) : Bool :=
  let past (l : List Nat) : Bool := l.all (fun n => decide (b ≤ n))
  match kind with
  | 2 | 3 => past s.al.open_ && past s.bd.live && past s.bd.queue
  | 4 => past s.al.open_ && past s.ba.queue && past s.ba.round.toList
  | _ => true

/-- REGION_LOAD_APPLY: at its instant the region becomes unavailable. -/
def State.regionApply (s : State) : State :=
  match s.cf.pending with
  | some p =>
    if s.reached p.bound && s.regionClear p.kind p.bound && !p.started then
      let s := { s with cf := { s.cf with pending := some { p with started := true } } }
      s.when (p.kind = 6) (fun s => s.fold (List.range 16) (fun s m => s.auQuiet m))
    else s
  | none => s

/-- The pending load is over. -/
def State.regionOver (s : State) : State :=
  ({ s with cf := { s.cf with pending := none } }).wr R.CF_STATUS_rl_pending 0

/-- REGION_LOAD_COMPLETE: applied, or the previous image restored (R373). -/
def State.regionComplete (s : State) (ok : Bool) : State :=
  match s.cf.pending with
  | some p =>
    if !p.started then s
    else if ok then ((s.regionOver).regionTake p).inc (R.CF_CNT 1)
    else
      let s := (((s.regionOver).flag R.CF_STATUS_rl_fail).inc (R.CF_CNT 2)).health 10 0 2 0 s.curRound
      (s.resignFault).toUnsync
  | none => s

/-- Adjournment cancels a pending load (R372). -/
def State.regionCancel (s : State) : State :=
  if s.cf.pending.isSome then (s.regionOver).flag R.CF_STATUS_rl_cancel else s

/-! ## Region reset (R384) -/

/-- The CSR blocks of a region (Table 18-2). -/
def regionBlocks (r : Nat) : List Nat :=
  match r with
  | 0 => [1]
  | 1 => [2]
  | 2 => [3]
  | 3 => [4]
  | 4 => [5]
  | 5 => [6, 7]
  | _ => [17]

/-- The sequence numbers of OT_SEQ are never lowered between power-on resets (R168). -/
def isSeq (a : Nat) : Bool := decide (0x601000 ≤ a ∧ a < 0x601640)

/-- A region is idle. -/
def State.regionIdle (s : State) (r : Nat) : Bool :=
  match r with
  | 0 => !s.on R.IN_CTL_en
  | 1 => !s.on R.AL_CTL_en
  | 2 => s.bdState = 0
  | 3 => s.openGroups.isEmpty
  | 4 => s.baState = 0
  | 5 => !s.on R.OT_CTL_en
  | _ => !s.on R.AU_CTL_en

/-- The region's logic state goes to its power-on value; the Pair Map is kept. -/
def State.regionState (s : State) (r : Nat) : State :=
  match r with
  | 0 => { s with ul := State.reset.ul }
  | 1 => { s with al := State.reset.al, bound := s.bound.filter (fun p => match p.2 with
      | .win _ => false
      | .flags => false
      | _ => true) }
  | 2 => { s with bd := State.reset.bd, bound := s.bound.filter (fun p => p.2 != .pairing) }
  | 3 => { s with ag := { State.reset.ag with pm := s.ag.pm } }
  | 4 => { s with ba := State.reset.ba, bound := s.bound.filter (fun p => p.2 != .weights && p.2 != .beams) }
  | 5 => { s with ot := State.reset.ot, pt := State.reset.pt }
  | _ => { s with au := State.reset.au }

/-- Board lines in force in the repair log are taken out again: a reset does not undo a repair. -/
def State.keepLines (s old : State) : State :=
  s.fold lineList (fun s x =>
    if old.on (lineRepaired x) then ((s.wr (lineRepaired x) 1).wr (lineOut x) (old.rd (lineOut x))).wr (linePend x) 1 else s)

/-- REGION_RESET of one region. (DEDUCED: log entry 150.) -/
def State.regionReset (s : State) (r : Nat) : State :=
  if !s.regionIdle r then s.flag R.MG_STATUS_rst_ref
  else
    let old := s
    let s := s.regionState r
    let s := { s with csr := s.csr.filter (fun p => !(regionBlocks r).contains (p.1 / 0x100000) || isSeq p.1) }
    let secs := (s.cf.record.flatMap s.sections).filter (fun x => x.kind = r)
    let recs := secs.flatMap s.secRecords
    let s := (s.applyRecords recs).inForce r 0 recs
    if r = 2 then s.keepLines old else s

/-! ## The repair log (R375 to R377) -/

/-- Places of the ring. -/
def logPlaces : Nat := 65536

/-- Where a place of the ring stands: slots 1 and 2. -/
def logOff (i : Nat) : Nat := if i < 32768 then sysBase 1 + 32 * i else sysBase 2 + 32 * (i - 32768)

/-- The bytes of a record (Table 18-8). -/
def LogRec.bytes (x : LogRec) : Bytes :=
  let b := leBytes 1 x.kind ++ leBytes 1 x.unit ++ leBytes 2 x.detail ++ leBytes 4 x.row ++ leBytes 4 x.seq
    ++ leBytes 8 x.round ++ leBytes 6 x.taiS ++ leBytes 2 x.origin
  b ++ leBytes 4 (crc32c b)

/-- The record at a place; none for an empty place, whose CRC fails. -/
def State.logAt (s : State) (i : Nat) : Option LogRec :=
  let b := s.stGet (logOff i) 32
  if leAt b 28 4 = crc32c (b.take 28) then
    some { kind := leAt b 0 1, unit := leAt b 1 1, detail := leAt b 2 2, row := leAt b 4 4, seq := leAt b 8 4,
           round := leAt b 12 8, taiS := leAt b 20 6, origin := leAt b 26 2 }
  else none

/-- The repairs in force: kind, unit, detail and row. -/
def State.repairs (s : State) : List (Nat × Nat × Nat × Nat) :=
  (lineList.filter (fun x => s.on (lineRepaired x))).map (fun x => (1, x, s.rd (lineOut x), 0))
    ++ (List.range 8).flatMap (fun st => (s.hstk st).spared.map (fun id => (2, st, (spareDetail id).1, (spareDetail id).2)))

/-- CF_LOG0.active: the repairs in force. -/
def State.showActiveRepairs (s : State) : State := s.wr R.CF_LOG0_active s.repairs.length

/-- Writes a record at the next place of the ring; `bad` places fail their read-back first and count as empty. (DEDUCED: log entry 151.) -/
def State.logWrite (s : State) (x : LogRec) (bad : Nat) : State :=
  let head := s.rd R.CF_LOG0_head
  let start := if (s.logAt head).isSome then head + 1 else head
  let place := (start + bad) % logPlaces
  let s := s.fold (List.range bad) (fun s i => s.stPut (logOff ((start + i) % logPlaces)) (zeros 32))
  let s := s.when (bad != 0) (·.flag R.CF_STATUS_log_warn)
  let seq := (s.rd R.CF_LOG1_seq + 1) % 2 ^ 32
  let y : LogRec := { x with seq := seq }
  let s := ((s.stPut (logOff place) y.bytes).wr R.CF_LOG0_head place).wr R.CF_LOG1_seq seq
  ({ s with cf := { s.cf with since := s.cf.since + 1 } }).inc (R.CF_CNT 4)

/-- CHECKPOINT: a record of kind 5 and a copy of each repair in force (R376). -/
def State.checkpoint (s : State) : State :=
  let mk (kind unit detail row origin : Nat) : LogRec := ⟨kind, unit, detail, row, 0, s.curRound, s.taiS, origin⟩
  let l := s.repairs
  let s := s.logWrite (mk 5 0 0 0 3) 0
  let s := s.fold l (fun s p => s.logWrite (mk p.1 p.2.1 p.2.2.1 p.2.2.2 3) 0)
  { s with cf := { s.cf with since := 0 } }

/-- REPAIR_LOG_APPEND: the oldest event due is recorded. -/
def State.logAppend (s : State) (bad : Nat) : State :=
  match s.cf.logDue with
  | [] => s
  | x :: rest =>
    if s.ig.arbDown then s
    else
      let s := ({ s with cf := { s.cf with logDue := rest } }).logWrite x (min bad (logPlaces - 1))
      (s.when (decide (57344 ≤ s.cf.since)) State.checkpoint).showActiveRepairs

/-- The id of a spared row from its record. -/
def spareId (detail row : Nat) : Nat := (detail / 32) * 2 ^ 32 + row

/-- A record of the log takes effect again: repairs without copying, and clearings. -/
def State.replayRecord (s : State) (x : LogRec) : State :=
  match x.kind with
  | 1 => if x.unit < 24 then ((s.wr (lineRepaired x.unit) 1).wr (lineOut x.unit) x.detail).wr (linePend x.unit) 1 else s
  | 2 | 3 =>
    let id := spareId x.detail x.row
    if x.unit < 8 ∧ !((s.hstk x.unit).spared.contains id) then s.useSpare x.unit id else s
  | 4 =>
    let id := spareId x.detail x.row
    if x.unit < 24 ∧ s.on (lineRepaired x.unit) ∧ x.row = 0 ∧ s.rd (lineOut x.unit) = x.detail then
      s.wr (lineRepaired x.unit) 0
    else if x.unit < 8 ∧ (s.hstk x.unit).spared.contains id then
      let k := s.hstk x.unit
      (s.setHstk x.unit { k with spared := k.spared.filter (· ≠ id) }).wr (R.HM_STKSP_spares_used x.unit)
        (s.rd (R.HM_STKSP_spares_used x.unit) - 1)
    else s
  | _ => s

/-- REPAIR_REPLAY at Opening (R376): every valid record in the order of seq. -/
def State.logReplay (s : State) : State :=
  let places := (((smapKeys s.cf.store).filter (fun o => decide (sysBase 1 ≤ o))).map (fun o =>
    if o < sysBase 1 + 2 ^ 20 then (o - sysBase 1) / 32 else if sysBase 2 ≤ o ∧ o < sysBase 2 + 2 ^ 20
      then 32768 + (o - sysBase 2) / 32 else 0)).eraseDups
  let recs := (places.filterMap s.logAt).mergeSort (fun a b => decide (a.seq ≤ b.seq))
  (s.fold recs (fun s x => s.replayRecord x)).showActiveRepairs

/-- REPAIR_CLEAR, op 0x0027 (R377): a Board line by its position, or the oldest sparing of a channel and bank. -/
def State.repairClear (s : State) : State := s.mbxOp 0x27 (fun s r =>
  let kind := byteAt r.payload 0
  let unit := byteAt r.payload 1
  let pos := leAt r.payload 2 2
  if kind = 3 then s.cfRefuse r 14
  else if !s.on R.IG_CTL_maint then s.cfRefuse r 15
  else if kind = 1 ∧ unit < 24 ∧ s.on (lineRepaired unit) ∧ s.rd (lineOut unit) = pos then
    (((s.wr (lineRepaired unit) 0).logRepair 4 unit pos 0 1).showActiveRepairs).cfDone r
  else
    match if kind = 2 ∧ unit < 8 then (s.hstk unit).spared.find? (fun id => (spareDetail id).1 = pos) else none with
    | some id =>
      let k := s.hstk unit
      let s := (s.setHstk unit { k with spared := k.spared.filter (· ≠ id) }).wr (R.HM_STKSP_spares_used unit)
        (s.rd (R.HM_STKSP_spares_used unit) - 1)
      (((s.wr (R.HM_STK_spare_out unit) 0).logRepair 4 unit pos (spareDetail id).2 1).showActiveRepairs).cfDone r
    | none => s.cfRefuseFree r)

/-- BOARD_LINE_REPAIR_REQUEST, op 0x0010: a repair under R193. -/
def State.lineRequest (s : State) : State := s.mbxOp 0x10 (fun s r =>
  let x := byteAt r.payload 0
  let pos := byteAt r.payload 1
  if 23 < x ∨ 64 < pos then s.mbxAnswer r 1 [] else (s.repairLine x pos 1).mbxAnswer r 0 [])

/-- HBM_ROW_SPARE_REQUEST, op 0x0011: a sparing under R292. -/
def State.rowRequest (s : State) : State := s.mbxOp 0x11 (fun s r =>
  let st := byteAt r.payload 0
  let c := byteAt r.payload 1
  let pc := byteAt r.payload 2
  let bank := byteAt r.payload 3
  if s.stacks ≤ st ∨ 31 < c ∨ 1 < pc ∨ 31 < bank then s.mbxAnswer r 1 []
  else (s.dueSpare st (rowId c pc bank (leAt r.payload 4 4)) 1).mbxAnswer r 0 [])

/-! ## The boot record (Table 19-3) -/

/-- A copy of the boot record: pref, good and count; none when its magic or CRC fails. -/
def State.bootCopy (s : State) (i : Nat) : Option (Nat × Nat × Nat) :=
  let b := s.stGet (sysBase 0 + 16 * i) 16
  if b.take 4 = [0x42, 0x52, 0x45, 0x43] ∧ leAt b 12 4 = crc32c (b.take 12) then
    some (leAt b 4 1 % 4, leAt b 5 1, leAt b 8 4)
  else none

/-- The copy in force and which it is; pref 0 and no good slot when neither is valid. -/
def State.bootRec (s : State) : (Nat × Nat × Nat) × Nat :=
  match s.bootCopy 0, s.bootCopy 1 with
  | some x, some y => if x.2.2 < y.2.2 then (y, 1) else (x, 0)
  | some x, none => (x, 0)
  | none, some y => (y, 1)
  | none, none => ((0, 0xFF, 0), 1)

/-- MG_BOOT shows the record. -/
def State.showBoot (s : State) : State :=
  let x := (s.bootRec).1
  (s.wr R.MG_BOOT_pref x.1).wr R.MG_BOOT_good (if x.2.1 < 4 then x.2.1 else 0xF)

/-- The Arbiter writes the copy that is not in force. -/
def State.bootWrite (s : State) (pref good : Nat) : State :=
  let x := s.bootRec
  let b : Bytes := [0x42, 0x52, 0x45, 0x43] ++ leBytes 1 pref ++ leBytes 1 good ++ zeros 2 ++ leBytes 4 ((x.1.2.2 + 1) % 2 ^ 32)
  (s.stPut (sysBase 0 + 16 * (1 - x.2)) (b ++ leBytes 4 (crc32c b))).showBoot

/-- BOOT_PREF_SET, op 0x0032: the slot must be GOOD. -/
def State.bootPref (s : State) : State := s.mbxOp 0x32 (fun s r =>
  let k := r.slotArg
  if k ≤ 3 ∧ s.slotState k = 3 then (s.bootWrite k (s.bootRec).1.2.1).mbxAnswer r 0 [] else s.mbxAnswer r 1 [])

/-- WATCHDOG_PERIOD_SET, op 0x0033: secure requesters only, 10 to 10,000 ms. -/
def State.watchdogPeriod (s : State) : State := s.mbxOp 0x33 (fun s r =>
  let p := leAt r.payload 0 2
  if r.secure = true ∧ 10 ≤ p ∧ p ≤ 10000 then (s.wr R.MG_WDOG_period_ms p).mbxAnswer r 0 [] else s.mbxAnswer r 1 [])

/-! ## The whole register write -/

/-- A write of one word that has passed the access checks; a write of MG_RRST resets regions. -/
def State.csrWrite (s : State) (m a : Nat) (v : Word) : State :=
  if a = R.MG_RRST_rst.a then
    s.fold ((List.range 7).filter (fun r => v.getLsbD r && (s.hasBeam || (r != 4 && r != 6)))) (fun s r => s.regionReset r)
  else s.csrCore m false a v

/-- A 4-byte write of the CSR space by a master: REGISTER_WRITE and every command that writes a register. -/
def State.writeWord (s : State) (m a : Nat) (v : Word) : State :=
  match s.csrDenied m a true with
  | some s => s
  | none => (s.csrWrite m a v).okResp []

/-- A write of a 64-bit pair, _LO then _HI (R18). -/
def State.writePair (s : State) (m a : Nat) (v : BitVec 64) : State :=
  (s.writeWord m a (v.setWidth 32)).writeWord m (a + 4) ((v >>> 32).setWidth 32)

end Sys2Proof.Machine
end

