-- ==== Sys2Proof/Machine/Opening.lean ====
section
/-! DEFINITION. Opening (R378 to R382), the resets of Table 19-4, Adjournment and the exit from it (R386 to R389), and the
digests that settle a returning unit. -/

namespace Sys2Proof.Machine

/-! ## Off -/

/-- The device takes no command of its core: VIN is absent, it is adjourned, or it is shut down. (DEDUCED: log entry 6.) -/
def State.off (s : State) : Bool := !s.mg.vin || s.on R.MG_STATUS_adjourned || s.rd R.IG_STATUS_hstate = 4

/-- Tj forbids the exit from SHUTDOWN (Table 20-8). -/
def State.tooHot (s : State) : Bool := s.rd R.IG_STATUS_hstate = 4 && decide (95 * 8 ≤ s.tj)

/-! ## What a reset keeps (Table 19-4) -/

/-- Registers of the configuration store and the keys, which every reset keeps. -/
def storeKept (a : Nat) : Bool :=
  a == R.CF_KEYS_prog.a || (decide ((R.CF_SLOT_state 0).a ≤ a) && decide (a ≤ R.CF_LOG1_seq.a))

/-- Registers of the always-on domain that a RESET_N reset keeps: the SC epoch, C and H, OT_SEQ, IG_LAST and MG_RSTCAUSE. (DEDUCED: log entry 156.) -/
def alwaysOn (a : Nat) : Bool :=
  (decide (R.TB_SCEF_SC ≤ a) && decide (a ≤ R.TB_SCEF_PER + 4)) || (decide (R.CS_CLAIM ≤ a) && decide (a ≤ R.CS_HCLAIM + 4))
    || isSeq a || a == R.IG_LAST_last_hstate.a || a == R.MG_RSTCAUSE_por.a

/-- The state after power-on reset, with what it keeps: the configuration store, the keys and the repair log. -/
def State.powerReset (s : State) : State :=
  { State.reset with
    pending := s.pending
    part := s.part
    out := s.out
    fresh := s.fresh
    csr := s.csr.filter (fun p => storeKept p.1)
    cf := { State.reset.cf with store := s.cf.store, keys := s.cf.keys }
    pe := { State.reset.pe with perst := s.pe.perst }
    mg := { s.mg with tries := 0, image := [], digs := none } }

/-- The state after a RESET_N reset: as after power-on, with the always-on domain kept and hstate written to IG_LAST. (DESIGN CHOICE: log entry 28.) -/
def State.coldReset (s : State) : State :=
  let t := s.powerReset
  let t := { t with
    csr := s.csr.filter (fun p => storeKept p.1 || alwaysOn p.1)
    tb := { t.tb with
      t := s.tb.t
      t2 := s.tb.t2
      epoch := s.tb.epoch
      maps := if s.on R.TB_STATUS_sce_valid then [(0, some s.tb.epoch)] else [] }
    io := { t.io with ir := s.io.ir, boundary := s.io.boundary } }
  let t := ((t.wr R.TB_STATUS_set (s.rd R.TB_STATUS_set)).wr R.TB_STATUS_epoch (s.rd R.TB_STATUS_epoch)).wr
    R.TB_STATUS_sce_valid (s.rd R.TB_STATUS_sce_valid)
  let t := t.wr R.IG_LAST_last_hstate (s.rd R.IG_STATUS_hstate)
  State.setQuality { t with rnd := t.nextRound }

/-! ## Opening (Table 19-2) -/

/-- The step reached. -/
def State.setStep (s : State) (k : Nat) : State := s.wr R.MG_STATUS_step k

/-- Step 9: Ready. -/
def State.openReady (s : State) (ms : Nat) : State :=
  (((s.setStep 9).wr R.MG_STATUS_ready 1).wr R.MG_OPENT_ms ms).fire 94

/-- The Arbiter writes the slot that was loaded into the boot record, and MG_BOOT shows it. -/
def State.bootedFrom (s : State) (k : Nat) : State :=
  (s.bootWrite (s.bootRec).1.1 k).wr R.MG_BOOT_loaded k

/-- Steps 8 and 9: the repair log, the Pair Map digest, and the self-test of R381. -/
def State.openChecks (s : State) : State :=
  let s := ((s.wr R.MG_STATUS_noconf 0).logReplay).pmDigestDue
  let s := s.pmDigestDone sha384
  let s := s.fold s.mg.env.lines (fun s l => if l.1 < 24 ∧ l.2 ≤ 64 then s.repairLine l.1 l.2 0 else s)
  let s := s.when (s.hasBeam && !s.mg.env.beamOk) (·.degrade)
  let s := (s.setStep 8).showBoot
  let s := s.when (s.rd R.CF_STATUS_cfg_state = 2) (fun s => s.bootedFrom (s.rd R.CF_STATUS_src_slot))
  s.openReady s.mg.env.ms

/-- A slot qualifies for a load at step 7 (R380). -/
def State.bootable (s : State) (k : Nat) : Bool := decide (k < 4) && s.slotState k = 3 && s.ctKind k = 0

/-- The slots that Opening tries, in order (R380). -/
def State.bootOrder (s : State) : List Nat :=
  let x := (s.bootRec).1
  let first := [x.1].filter s.bootable
  let second := [x.2.1].filter (fun k => k != x.1 && s.bootable k)
  first ++ second ++ (List.range 4).filter (fun k => s.bootable k && k != x.1 && k != x.2.1)

/-- One load attempt of the Opening after a new verification; the second part is true when the load succeeded. A container
that fails verification leaves its slot BAD. (DEDUCED: log entry 157.) -/
def State.bootTry (s : State) (k : Nat) : State × Bool :=
  match s.reverify k with
  | (s, some _) => (s, false)
  | (s, none) =>
    let ok := s.mg.env.images.getD s.mg.tries true && !(s.sections k).any s.badRecords && s.fullFits k
    let s := { s with mg := { s.mg with tries := s.mg.tries + 1 } }
    s.endFull k ok

/-- The attempts of R380 until one succeeds, at most two. -/
def State.bootTries : List Nat → State → State × Bool
  | [], s => (s, false)
  | k :: rest, s =>
    if 2 ≤ s.mg.tries then (s, false)
    else
      match s.bootTry k with
      | (s, true) => (s, true)
      | (s, false) => State.bootTries rest s

/-- Step 7: the configuration is loaded from a boot slot, or the device stays with noconf. -/
def State.openLoad (s : State) : State :=
  let s := (s.setStep 7).showBoot
  match State.bootTries s.bootOrder s with
  | (s, true) => s.openChecks
  | (s, false) => s.wr R.MG_STATUS_noconf 1

/-- Steps 5 and 6: every fitted stack trains or fails, and is filled with zeros with valid ECC. -/
def State.openStacks (s : State) : State :=
  let s := s.fold s.stackList (fun s st => (s.wr (R.HM_STK_state st) 1).trainingDone st (s.mg.env.trained.getLsbD st))
  State.openLoad (State.setStep { s with mem := [] } 6)

/-- The most that is read of a firmware image in the boot flash: 8 MiB (R402). -/
def flashMost : Nat := 8388608

/-- The firmware image is read: with BOOT_SPI high from address 0 of the boot flash by a quad-output fast read with 4-byte
address, else from the store without driving an SPI ball (R379, R402). -/
def State.readFirmware (s : State) : State :=
  if s.on R.IO_STATUS_boot_spi then
    ((s.emit (.pin "SPI_CS_N" false)).emit (.spiRead 0x6C 0 (min s.mg.env.fwBytes flashMost))).emit (.pin "SPI_CS_N" true)
  else s

/-- The image that was read verifies under key 0: what the environment says of it, and an image that does not fit the flash
read does not. (DESIGN CHOICE: log entry 198.) -/
def State.firmwareOk (s : State) : Bool :=
  s.mg.env.fwOk && (!s.on R.IO_STATUS_boot_spi || decide (s.mg.env.fwBytes ≤ flashMost))

/-- Step 4: the Arbiter firmware is verified and runs, or the device waits for another image (R379). -/
def State.openFirmware (s : State) : State :=
  let s := (s.setStep 4).readFirmware
  if s.firmwareOk then (s.wr R.TOP_FW_ver s.mg.env.fwVer.toNat).openStacks else s.wr R.MG_STATUS_fw_fail 1

/-- Step 3: the timebase in free run, and SYNC_OUT and PPS_OUT driven low (R398); it waits for XO_IN. -/
def State.openTime (s : State) : State :=
  let s := s.setStep 3
  if !s.mg.xo then s.wr R.MG_STATUS_xo_wait 1
  else
    let s := (s.wr R.MG_STATUS_xo_wait 0).setQuality
    (s.fold (List.range 5) (fun s o => s.emit (.pin (outPin o) false))).openFirmware

/-- Steps 1 and 2: the always-on domain and the rails; RESET_N low holds Opening at step 1 (R396). (DESIGN CHOICE: log entry 154.) -/
def State.openStart (s : State) : State :=
  let s := (s.setStep 1).wr R.IO_STATUS_smb_addr s.mg.env.smbAddr.toNat
  let s := s.emit (.pin "FAULT_N" true)
  if s.mg.resetLow then s else (s.setStep 2).openTime

/-- POWER_ON: VIN rises above 10.8 V after being below 10.0 V. It leaves SHUTDOWN only below 95 °C. (DEDUCED: log entry 155.) -/
def State.powerOn (s : State) (o : Opening) : State :=
  let s := { s with mg := { s.mg with vin := true, env := o, resetLow := o.resetLow, xo := o.xo } }
  if s.tooHot then s
  else
    let hot := s.rd R.IG_STATUS_hstate = 4
    let s := (s.powerReset).wr R.IO_STATUS_boot_spi (if o.bootSpi then 1 else 0)
    (s.when hot (·.wr R.MG_RSTCAUSE_shutdown 1)).openStart

/-- POWER_LOSS: VIN falls below 10.0 V and every rail is off. -/
def State.powerLoss (s : State) : State := { s with mg := { s.mg with vin := false } }

/-- A RESET_N-equivalent reset with its cause; Opening runs again. -/
def State.restart (s : State) (cause : FRef) (o : Opening) : State :=
  let hot := s.rd R.IG_STATUS_hstate = 4
  let spi := s.rd R.IO_STATUS_boot_spi
  let s := ({ s with mg := { s.mg with env := o, xo := o.xo } }).coldReset
  let s := (s.wr cause 1).wr R.IO_STATUS_boot_spi spi
  (s.when hot (·.wr R.MG_RSTCAUSE_shutdown 1)).openStart

/-- RESET_N_ASSERT: RESET_N has been low for 1 µs. -/
def State.resetN (s : State) (o : Opening) : State :=
  if !s.mg.vin ∨ s.tooHot then s
  else ({ s with mg := { s.mg with resetLow := o.resetLow } }).restart R.MG_RSTCAUSE_reset_n o

/-- RESET_N_RELEASE: an Opening held at step 1 continues. -/
def State.resetNHigh (s : State) : State :=
  let was := s.mg.resetLow
  let s := { s with mg := { s.mg with resetLow := false } }
  if was ∧ s.mg.vin ∧ s.rd R.MG_STATUS_step = 1 then (s.setStep 2).openTime else s

/-- RESET_REQUEST, op 0x0031: the response is written, then the reset of RESET_N. -/
def State.resetRequest (s : State) (o : Opening) : State := s.mbxOp 0x31 (fun s r =>
  (s.mbxAnswer r 0 []).restart R.MG_RSTCAUSE_mbx o)

/-- XO_IN_RETURN: an Opening that waits at step 3 continues; in service the timebase runs again (R240). -/
def State.xoBack (s : State) : State :=
  let s := { s with mg := { s.mg with xo := true } }
  if s.on R.MG_STATUS_xo_wait then s.openTime else if s.off then s else s.xoReturn

/-- The SerDes of the Uhlain, CST and Ethernet ports lose lock (R240). -/
def State.serdesLost (s : State) : State :=
  let s := s.fold (List.range 17) (fun s p => s.portLoss p 0)
  s.fold (List.range 8) (fun s p => s.ethLost p)

/-- XO_IN_LOST (R240). -/
def State.xoGone (s : State) : State :=
  let s := { s with mg := { s.mg with xo := false } }
  if s.off ∨ s.on R.MG_STATUS_xo_wait then s else (s.xoLost).serdesLost

/-- FULL_LOAD_COMPLETE; an Opening that had no configuration continues at step 8 (R380). -/
def State.fullLoadDone (s : State) (ok : Bool) : State :=
  let s' := s.fullComplete ok
  if s.on R.MG_STATUS_noconf && s.cf.loading.isSome && s'.rd R.CF_STATUS_cfg_state = 2 then s'.openChecks else s'

/-! ## PCIe resets (Table 19-4) -/

/-- PCIE_RESET: PERST_N, a hot reset or a link down; after a PERST_N reset the link waits for PERST_N_RELEASE. -/
def State.pcieReset (s : State) (perst : Bool) (link : PcieLink) : State :=
  let s := (s.masterReset 0 0).pcieCore
  if perst then
    let s := { s with pe := { s.pe with perst := true } }
    s.setWord R.PE_LINK_width.a 0
  else ((s.wr R.PE_LINK_speed link.speed).wr R.PE_LINK_width link.width).masterRelease 0

/-- PERST_N_RELEASE: the endpoint trains its link, once step 5 of Opening has been reached. -/
def State.perstHigh (s : State) (link : PcieLink) : State :=
  let s := { s with pe := { s.pe with perst := false } }
  if s.off then s else ((s.wr R.PE_LINK_speed link.speed).wr R.PE_LINK_width link.width).masterRelease 0

/-- FUNCTION_LEVEL_RESET: as a PCIe reset, and master M18 with its DMA channels. -/
def State.functionReset (s : State) : State :=
  let s := ((s.masterReset 0 0).pcieCore).masterReset 18 0
  ((s.dmaIdle).masterRelease 0).masterRelease 18

/-! ## Adjournment (R386, R387) -/

/-- Bits of a register that the core rail holds and no context saves: counters, latched values, W1C bits, and the status
of the ports, the mailbox, the DMA channels, the event fabric, the ASPs and the listening post. -/
def lostBits (l : Loc) : Nat :=
  let b := l.reg.off / 0x100000
  let ro := [1, 7, 14, 15, 16, 17, 20].contains b && !([RegId.IN_STATUS, .IN_STRBND, .IN_STRERR].contains l.reg.id)
  l.reg.bits (fun f => f.acc == .rc || f.acc == .rl || f.acc == .w1c || (f.acc == .ro && ro))

/-- The registers after the core rail has been off and the context is back. -/
def State.contextWords (s : State) : State :=
  s.fold (s.csr.filter (fun p => !([0x12, 0x13, 0x15].contains (p.1 / 0x100000)) && p.1 != R.IG_LAST_last_hstate.a)) (fun s p =>
    match locate p.1 with
    | some l =>
      let sh := if l.hi then 32 else 0
      s.setWord p.1 (BitVec.ofNat 32 (blend (s.word p.1).toNat (l.reset64 >>> sh) ((lostBits l) >>> sh)))
    | none => s)

/-- What the core holds besides registers and is neither in the always-on domain nor in the context. (DEDUCED: log entry 160.) -/
def State.coreOff (s : State) : State :=
  { s with
    latch := []
    evq := []
    ul := { s.ul with port := [], domSer := [], alignQ := [] }
    bd := { s.bd with
      queue := []
      cur := none
      drains := 0
      halting := false
      reruns := []
      plies := []
      round := none
      live := [] }
    ot := { s.ot with insts := s.ot.insts.filter Inst.inArea, sealed := [], timDue := false, last := [], turn := [], deficit := [] }
    ba := { s.ba with due := [], dig := [] }
    cs := { (default : CsState) with mseq := s.cs.mseq, leaseSeq := s.cs.leaseSeq }
    tb := { s.tb with sce := none, step := none, pulse := [], capQ := [] }
    pt := default
    ck := { s.ck with
      plans := []
      eg := 0
      l4 := 0
      fit := 0
      egReq := none
      egClr := none
      settling := false
      work := none
      peer := [] }
    pe := { s.pe with lastMsg := [], table := [], pendBit := [] }
    xb := default
    ev := { s.ev with hops := [], drive := 0, pulse := [] }
    sp := default
    au := State.reset.au }

/-- The balls that Adjournment drives low: SYNC_OUT, PPS_OUT, the AES3 outputs and the EVIO outputs (R398, R399, R400). -/
def State.pinsLow (s : State) : State :=
  let s := s.fold (List.range 5) (fun s o => s.emit (.pin (outPin o) false))
  let s := s.fold (List.range 8) (fun s o => s.emit (.pin ("AES3_OUT" ++ toString o) false))
  s.fold (List.range 16) (fun s p => if s.on (R.EV_IO_dir p) then s.emit (.pin (evioPin p) false) else s)

/-- The entry of Table 19-5, once it has been accepted. (DESIGN CHOICE: log entry 161.) -/
def State.adjourn (s : State) : State :=
  let en := s.rd R.CS_CTL_en
  let s := if s.isActive ∧ s.cs.peerState = 2 then s.resignNow false 1 else s
  let s := (s.castStop).wr R.CS_CTL_en en
  let s := (s.haltAll).regionCancel
  let s := s.fold s.stackList (fun s st => if s.stkState st = 2 ∨ s.stkState st = 1 then s.wr (R.HM_STK_state st) 3 else s)
  let s := s.wr R.HM_STATUS_selfref 1
  let s := { s with mg := { s.mg with digs := some (s.rq R.AG_PMDIG, s.rq R.BA_WDIG_A, s.rq R.BA_WDIG_B) } }
  let s := (s.resetCores).fold (List.range 16) (fun s k => s.wr (R.TB_TRGCTL_arm k) 0)
  let s := s.pinsLow
  let s := s.fold (List.range 17) (fun s p => s.portStop p)
  let s := s.fold (List.range 8) (fun s p => s.setEth p 0)
  let s := s.when (s.bdState ≠ 0) (·.setBd 4)
  let s := s.when (s.baState ≠ 0) (fun s => s.wr R.BA_STATUS_state (if s.on R.BA_CTL_en then 3 else 0))
  let s := (s.coreOff).setWord R.PE_LINK_width.a 0
  let s := s.masterReset 0 0
  (s.wr R.MG_STATUS_ready 0).wr R.MG_STATUS_adjourned 1

/-- ADJOURNMENT, op 0x0030: refused while a full load is in progress or the unit is HANDING. -/
def State.adjournment (s : State) : State := s.mbxOp 0x30 (fun s r =>
  if s.cf.loading.isSome ∨ s.csState = 5 then s.mbxAnswer r 1 [] else (s.mbxRespond r.slot 0 []).adjourn)

/-! ## The exit from Adjournment (R388, R389) -/

/-- The configuration is applied again from the load record after a lost context, with the Pair Map kept in retention: the
full load, then each region load in record order. -/
def State.reapply (s : State) (record : List Nat) : State :=
  match record with
  | [] => s
  | k :: regions =>
    let pm := s.ag.pm
    let t := ((s.applyFull k).1.wr R.CF_STATUS_cfg_state 2).wr R.CF_STATUS_src_slot k
    let t := t.fold regions (fun s k =>
      match (s.sections k).head? with
      | some x => s.regionTake ⟨k, x.kind, s.nextRound, s.ctEpoch k, leNat x.digest, s.secRecords x, s.secBlob x, true⟩
      | none => s)
    { t with ag := { t.ag with pm := pm, pmOld := [] } }

/-- The state after a context has been discarded: the power-on values outside the always-on domain, HBM and Pair Map
kept, and the configuration of the load record. -/
def State.lostContext (s : State) : State :=
  let t := s.coldReset
  let t := { t with
    mem := s.mem
    hm := s.hm
    ag := { t.ag with pm := s.ag.pm }
    mg := { t.mg with digs := s.mg.digs } }
  let t := t.fold s.stackList (fun t st =>
    (t.setWord (R.HM_STK st) (s.word (R.HM_STK st))).setWord (R.HM_STKSP_spares_used st).a (s.word (R.HM_STKSP_spares_used st).a))
  let t := (((t.setWord R.TOP_FW_ver.a (s.word R.TOP_FW_ver.a)).setWord R.IO_STATUS_smb_addr.a (s.word R.IO_STATUS_smb_addr.a)).wr
    R.IG_STATUS_hstate (s.rd R.IG_STATUS_hstate)).wq R.AG_PMDIG (s.rq R.AG_PMDIG)
  let t := ((t.setWord R.IG_LAST_last_hstate.a (s.word R.IG_LAST_last_hstate.a)).wq R.TB_INC (s.rq R.TB_INC)).wq R.REF_DCO (s.rq R.REF_DCO)
  (t.reapply s.cf.record).flag R.MG_STATUS_ctx_lost

/-- The context is restored: ASP images and records come anew from the kind 9 section of the load record. (DEDUCED: log entry 159.) -/
def State.keptContext (s : State) : State :=
  let s := s.contextWords
  s.loadAsps ((s.cf.record.take 1).flatMap s.sections)

/-- The Pair Map and both weight sets await their digests (R389). -/
def State.doubtDigests (s : State) : State :=
  let s := (s.wr R.MG_STATUS_pm_unv 1).pmDigestDue
  if s.hasBeam then
    let s := ((s.wr R.BA_STATUS_unv_a 1).wr R.BA_STATUS_unv_b 1).wr R.BA_STATUS_dig_busy 1
    { s with ba := { s.ba with dig := [0, 1] } }
  else s

/-- References start again from INVALID, the code is 4 until one is selected, and the timebase runs free. -/
def State.timeAgain (s : State) : State :=
  let s := s.fold (List.range 8) (fun s r => if s.on (R.REF_CFG_en r) then s.wr (R.REF_STAT_state r) 2 else s)
  ({ s with rf := State.reset.rf }).freeRun

/-- Ports that are enabled train again, and castling restarts with take = 0. -/
def State.linksAgain (s : State) : State :=
  let s := s.fold (List.range 17) (fun s p => if s.on (portField p R.IN_PORTCTL_en R.CS_PORTCTL_en) then s.portStart p else s)
  let s := s.fold (List.range 8) (fun s p => if s.on (R.ET_PORTCTL_en p) then s.setEth p 1 else s)
  if s.on R.CS_CTL_en then (s.wr R.CS_CTL_take 0).castEnable else s

/-- An exit from Adjournment: rails, stacks, configuration, context, repairs, Ready. When the logic images of the load
record do not load, the device stays at step 7 without a configuration. (DEDUCED: log entry 158.) -/
def State.wake (s : State) (w : Wake) : State :=
  if !s.mg.vin ∨ !s.on R.MG_STATUS_adjourned then s
  else
    let s := (s.wr R.MG_STATUS_adjourned 0).wr R.MG_RSTCAUSE_wake (s.rd R.MG_RSTCAUSE_wake ||| w.events.toNat)
    let s := s.stacksOut w.temps
    if !w.images ∧ s.cf.record ≠ [] then
      let t := (({ s with cf := { s.cf with record := [] } }).lostContext).doubtDigests
      (((t.wr R.CF_STATUS_cfg_state 3).inc (R.CF_CNT 2)).setStep 7).wr R.MG_STATUS_noconf 1
    else
      let s := if w.ctxOk then s.keptContext else s.lostContext
      let s := ((s.logReplay).doubtDigests).timeAgain
      let s := { s with ck := { s.ck with next := s.nextRound } }
      let s := (s.linksAgain).workResumes
      let s := s.when (!s.pe.perst) (·.masterRelease 0)
      s.openReady w.ms

/-- WAKE_TIME: the counter reaches MG_WAKETIME, whose en bit is 1. -/
def State.wakeAtTime (s : State) (w : Wake) : State :=
  let x := s.rq R.MG_WAKETIME
  if x / 2 ^ 63 = 1 ∧ s.on R.MG_STATUS_adjourned then
    let goal := (x % 2 ^ 48) * 1000000000 * nsUnit
    (s.when (decide (s.tb.t < goal)) (fun s => (s.elapseTo goal).ticked)).wake w
  else s

/-- PAIR_MAP_DIGEST_DONE: a digest equal to the one kept at entry clears pm_unv (R389). -/
def State.pmDigestReady (s : State) : State :=
  let due := s.on R.AG_STATUS_dig_busy
  let s := s.pmDigestDone sha384
  match s.mg.digs with
  | some d => if due ∧ s.rq R.AG_PMDIG = d.1 then s.wr R.MG_STATUS_pm_unv 0 else s
  | none => s

/-- WEIGHT_DIGEST_DONE: a set whose digest equals the one kept at entry is cleared of its mark (R389). -/
def State.weightDigestReady (s : State) : State :=
  let l := s.ba.dig
  let s := s.weightDigest sha384
  match s.mg.digs, l with
  | some d, 0 :: _ => if s.rq R.BA_WDIG_A = d.2.1 then s.wr R.BA_STATUS_unv_a 0 else s
  | some d, _ :: _ => if s.rq R.BA_WDIG_B = d.2.2 then s.wr R.BA_STATUS_unv_b 0 else s
  | _, _ => s

end Sys2Proof.Machine
end

