-- ==== Sys2Proof/Machine/Electrical.lean ====
section
/-! DEFINITION. VIN, the rails and the core temperature (R392, R395, R406), the SMBus port (R401) and the test access port
(R403). -/

namespace Sys2Proof.Machine

/-! ## VIN and the rails (R392, R395) -/

/-- The measured VIN in mV and input current in 10 mA. -/
def State.noteVin (s : State) (mv cma : Nat) : State := (s.wr R.IO_VIN_vin (min mv 65535)).wr R.IO_VIN_iin (min cma 65535)

/-- VIN_LOW: VIN has been below 10.7 V for 100 µs. -/
def State.vinLow (s : State) (mv cma : Nat) : State :=
  if !s.mg.vin then s
  else
    let s := s.noteVin mv cma
    if mv < 10700 then ((s.wr R.IO_STATUS_vin_low 1).flag R.IO_STATUS_vin_low_ev).health 11 0 1 0 s.curRound else s

/-- VIN_RECOVER: VIN has been at or above 10.8 V for 100 µs. -/
def State.vinBack (s : State) (mv cma : Nat) : State :=
  if !s.mg.vin then s
  else
    let s := s.noteVin mv cma
    if 10800 ≤ mv then s.wr R.IO_STATUS_vin_low 0 else s

/-- OVERVOLTAGE: VIN has been above 13.8 V for 10 µs. -/
def State.vinOver (s : State) (mv cma : Nat) : State :=
  if !s.mg.vin then s
  else
    let s := s.noteVin mv cma
    if 13800 < mv then ((s.flag R.IO_STATUS_ovp_ev).health 11 0 3 0 s.curRound).shutdown else s

/-- Table 12-3: the core voltage of a point in mV. -/
def pointMv (v : Nat) : Nat :=
  [550, 570, 590, 610, 630, 650, 670, 695, 720, 740, 760, 780, 800, 815, 830, 850].getD v 720

/-- Table 20-5: the set point of a rail in mV and its current limit in 0.1 A; rail 4 is the always-on rail. -/
def State.railLimits (s : State) (k : Nat) : Nat × Nat :=
  [(pointMv (s.rd R.CK_STATUS_vpoint), 3000), (900, 900), (1100, 1400), (800, 500), (800, 20)].getD k (800, 20)

/-- The rail is outside its limits: more than 8 % from its set point, or above its current limit. -/
def State.railOut (s : State) (k mv amps : Nat) : Bool :=
  let x := s.railLimits k
  decide (mv * 100 < x.1 * 92 ∨ x.1 * 108 < mv * 100 ∨ x.2 < amps)

/-- REGULATOR_EXCURSION: a rail has read mv and amps for 10 µs. (DEDUCED: log entry 95.) (DEDUCED: log entry 163.) -/
def State.railExcursion (s : State) (k mv amps : Nat) : State :=
  if !s.mg.vin then s
  else
    let out := s.railOut k mv amps
    let s := s.when (decide (k < 4)) (fun s => (s.wr (R.IO_RAIL_mv k) (min mv 65535)).wr (R.IO_RAIL_amps k) (min amps 65535))
    if out then (s.health 11 0 3 0 s.curRound).shutdown else s

/-! ## Core temperature (R406) -/

/-- A temperature in 0.125 °C as a register holds it. -/
def tempBits (t : Int) : Nat := (BitVec.ofInt 16 t).toNat

/-- The sensors read, and IO_TJ names the hottest, the lowest index first. -/
def State.noteTemps (s : State) (temps : List Int) : State :=
  let s := s.fold ((temps.take 64).zipIdx) (fun s x => s.wr (R.IO_TSENSE_tj x.2) (tempBits x.1))
  let t (i : Nat) : Int := toSigned 16 (s.rd (R.IO_TSENSE_tj i))
  let hot := (List.range 64).foldl (fun h i => if t h < t i then i else h) 0
  (s.wr R.IO_TJ_sensor hot).wr R.IO_TJ_tj (tempBits (t hot))

/-- THERMAL_SENSOR_UPDATE: the sensors update; from step 2 of Opening on, 105 °C is an Endgame cause and 110 °C a shutdown. -/
def State.thermalUpdate (s : State) (temps : List Int) : State :=
  if !s.mg.vin then s
  else
    let s := s.noteTemps temps
    if s.off ∨ s.rd R.MG_STATUS_step < 2 then s
    else if 110 * 8 ≤ s.tj then (s.health 12 (s.rd R.IO_TJ_sensor) 3 0 s.curRound).shutdown
    else if 105 * 8 ≤ s.tj ∧ !s.cause 2 then
      (((s.health 12 (s.rd R.IO_TJ_sensor) 2 0 s.curRound).resignFault).toUnsync).setCause 2 true
    else s

/-- THERMAL_CAUSE_CLEAR: Tj has been below thr_c − 3 °C for 1 s (Table 12-5). -/
def State.thermalClear (s : State) : State :=
  if s.tj < ((s.ck.set.thrC : Int) - 3) * 8 then s.setCause 2 false else s

/-! ## SMBus (R401) -/

/-- The device answers over SMBus: it has VIN and is past step 1 of Opening. -/
def State.smbOn (s : State) : Bool := s.mg.vin && decide (1 ≤ s.rd R.MG_STATUS_step)

/-- Only blocks 0x00, 0x13 and 0x15 are reached: adjourned, shut down, or before step 4. -/
def State.smbNarrow (s : State) : Bool := s.off || decide (s.rd R.MG_STATUS_step < 4)

/-- A block that SMBus reads reach. -/
def State.smbReads (s : State) (a : Nat) : Bool :=
  (if s.smbNarrow then [0x00, 0x13, 0x15] else [0x00, 0x08, 0x0C, 0x13, 0x15]).contains (a / 0x100000) && a % 4 = 0

/-- The offset advances by 4 after an access. -/
def State.smbNext (s : State) : State := { s with io := { s.io with smbOff := (s.io.smbOff + 4) % 2 ^ 28 } }

/-- A command that carries a PEC byte with another value is discarded; `pec` is false then. (DEDUCED: log entry 164.) -/
def State.smbTake (s : State) (pec : Bool) (act : State → State) : State :=
  if !s.smbOn then s else if pec then act s else s.emit .smbusNak

/-- SMBUS_SET_OFFSET, command 0x01. -/
def State.smbSet (s : State) (pec : Bool) (bs : Bytes) : State := s.smbTake pec (fun s =>
  if bs.length = 4 ∧ leNat bs < 2 ^ 28 then { s with io := { s.io with smbOff := leNat bs } } else s)

/-- SMBUS_READ, command 0x02: a refused read returns 0. -/
def State.smbRead (s : State) (pec : Bool) : State := s.smbTake pec (fun s =>
  if s.smbReads s.io.smbOff then
    let r := s.csrRead 1 s.io.smbOff
    (r.1.emit (.smbus (leBytes 4 r.2.toNat))).smbNext
  else ((s.flag R.IO_STATUS_smb_ref).emit (.smbus (zeros 4))).smbNext)

/-- SMBUS_WRITE, command 0x03: writes reach block 0x15 only, as non-secure accesses. -/
def State.smbWrite (s : State) (pec : Bool) (bs : Bytes) : State := s.smbTake pec (fun s =>
  let a := s.io.smbOff
  if bs.length ≠ 4 then s
  else if a / 0x100000 = 0x15 ∧ a % 4 = 0 ∧ !(s.rd R.XB_CSRSEC_blk).testBit 0x15 then
    (s.csrCore 1 false a (BitVec.ofNat 32 (leNat bs))).smbNext
  else (s.flag R.IO_STATUS_smb_ref).smbNext)

/-- SMBUS_WAKE, command 0x10: ignored when not adjourned. -/
def State.smbWake (s : State) (pec : Bool) (w : Wake) : State := s.smbTake pec (fun s => s.wake w)

/-- SMBUS_FIRMWARE_APPEND, command 0x11: while fw_fail is set the bytes are appended; `verified` carries the version when the
image then verifies, and Opening goes on. -/
def State.smbFirmware (s : State) (pec : Bool) (bs : Bytes) (verified : Option Word) : State := s.smbTake pec (fun s =>
  if s.on R.MG_STATUS_fw_fail ∧ 1 ≤ bs.length ∧ bs.length ≤ 32 then
    let s := { s with mg := { s.mg with image := s.mg.image ++ bs } }
    match verified with
    | some v =>
      let s := { s with mg := { s.mg with image := [] } }
      ((s.wr R.MG_STATUS_fw_fail 0).wr R.TOP_FW_ver v.toNat).openStacks
    | none => s
  else s)

/-- SMBUS_ALERT_RESPONSE: SMB_ALERT_N is released. -/
def State.smbAlertAnswer (s : State) : State :=
  if s.smbOn && s.io.alert then ({ s with io := { s.io with alert := false } }).emit (.pin "SMB_ALERT_N" true) else s

/-! ## Test access port (R403) -/

/-- An instruction is loaded and its data register captured. (DEDUCED: log entry 165.) -/
def State.jtagLoad (s : State) (ir : JtagIr) (reg : String) (bits : Nat) : State :=
  if s.mg.vin then ({ s with io := { s.io with ir := ir } }).emit (.jtag reg bits) else s

/-- BYPASS: the one-bit bypass register captures 0. -/
def State.jtagBypass (s : State) : State := s.jtagLoad .bypass "BYPASS" 0

/-- The 32-bit identification register: version, part number 0x8192, manufacturer, and 1. -/
def idcode : Nat :=
  Config.jtagVersion.toNat * 2 ^ 28 + 0x8192 * 2 ^ 12 + Config.jtagMaker.toNat * 2 + 1

/-- SAMPLE/PRELOAD: the balls are captured, and the boundary register is preloaded. -/
def State.jtagSample (s : State) (pins preload : Nat) : State :=
  if s.mg.vin then
    State.jtagLoad { s with io := { s.io with boundary := preload } } .sample "BOUNDARY" pins
  else s

/-- EXTEST and its two forms for AC-coupled lanes: the boundary register drives the balls only while RESET_N is low. -/
def State.jtagTest (s : State) (ir : JtagIr) (pins preload : Nat) : State :=
  if s.mg.resetLow then
    if s.mg.vin then State.jtagLoad { s with io := { s.io with boundary := preload } } ir "BOUNDARY" pins else s
  else s.jtagBypass

/-- HIGHZ and CLAMP take effect only while RESET_N is low; both select the bypass register. -/
def State.jtagHold (s : State) (ir : JtagIr) : State := if s.mg.resetLow then s.jtagLoad ir "BYPASS" 0 else s.jtagBypass

/-- TRST_N low: Test-Logic-Reset selects the identification register. -/
def State.jtagReset (s : State) : State := { s with io := { s.io with ir := .idcode } }

/-- When RESET_N goes high, an instruction that only takes effect while it is low acts as BYPASS. -/
def State.jtagRelease (s : State) : State :=
  if [JtagIr.extest, .extestPulse, .extestTrain, .highz, .clamp].contains s.io.ir then
    { s with io := { s.io with ir := .bypass } }
  else s

/-- RESET_N_RELEASE, with what it means to the test access port. -/
def State.resetNRelease (s : State) : State := (s.jtagRelease).resetNHigh

end Sys2Proof.Machine
end

