-- ==== Sys2Proof/Machine/Xbar.lean ====
section
/-! DEFINITION. Accesses over the crossbar to every target (R295 to R303), PCIe requests (R305 to R308), the DMA engine's
descriptors (R304), external-window completions (R339) and the execution of task inputs (R319). -/

namespace Sys2Proof.Machine

/-! ## Bursts -/

/-- Bytes a burst covers. -/
def opLen : XbOp → Nat
  | .read n => n
  | .write d => d.length

/-- A burst writes. -/
def opWrites : XbOp → Bool
  | .read _ => false
  | .write _ => true

/-- Bytes merged into old ones under their byte enables. -/
def mergeBytes (old : Bytes) (d : List (Option Byte)) : Bytes := (old.zip d).map (fun x => x.2.getD x.1)

/-- What an access comes to: the state, and the bytes read, or none for an error response. -/
abbrev Answer := State × Option Bytes

/-! ## HBM (T0) -/

/-- The stack that holds an address takes requests. -/
def State.stackTakes (s : State) (x : Nat) : Bool :=
  let k := s.stkState (s.hbmPlace x).1
  k = 2 || k = 4

/-- The 32-byte words that n bytes from address a touch. -/
def wordsOf (a n : Nat) : List Nat := (List.range ((a + n + 31) / 32 - a / 32)).map (fun i => a / 32 + i)

/-- The byte enables of 32-byte word w in a write from address a. -/
def wordEnables (a : Nat) (d : List (Option Byte)) (w : Nat) : List Bool :=
  (List.range 32).map (fun i => if 32 * w + i < a then false else ((d.getD (32 * w + i - a) none).isSome))

/-- A write of HBM: a word written whole loses its poison; a write of part of a poisoned word reads it, and that word
keeps its bytes. The second part is false when a poisoned word was met (R290). -/
def State.hbmWrite (s : State) (a : Nat) (d : List (Option Byte)) : State × Bool :=
  let ws := (wordsOf a d.length).filter (fun w => (wordEnables a d w).any id)
  let whole := ws.filter (fun w => (wordEnables a d w).all id)
  let bad := ws.filter (fun w => smapGet false s.hm.poison w && !whole.contains w)
  let s := { s with hm := { s.hm with poison := s.hm.poison.filter (fun p => !whole.contains p.1) } }
  let s := s.fold (d.zipIdx) (fun s x =>
    match x.1 with
    | some b => if bad.contains ((a + x.2) / 32) then s else s.setByte (a + x.2) b
    | none => s)
  (s, bad.isEmpty)

/-- An access to HBM: refused in Endgame (R276) and from a stack that is not ready (R293). (DEDUCED: log entry 41.) -/
def State.accessHbm (s : State) (x : Nat) (op : XbOp) : Answer :=
  if s.hbmSize ≤ x ∨ s.ck.eg ≠ 0 ∨ !s.stackTakes x then (s, none)
  else
    match op with
    | .read n =>
      if (wordsOf x n).any (fun w => smapGet false s.hm.poison w) then (s, none) else (s, some (s.bytes x n))
    | .write d =>
      match s.hbmWrite x d with
      | (s, true) => (s, some [])
      | (s, false) => (s, none)

/-! ## The other targets -/

/-- An access to the CSR space: one word of 4 bytes, aligned, all enables set (R296). -/
def State.accessCsr (s : State) (m a : Nat) (op : XbOp) : Answer :=
  let bad := (s.xbViol 4 m 1 (opWrites op) (csrAddr a), none)
  match op with
  | .read n =>
    if n = 4 ∧ a % 4 = 0 then
      let r := s.csrRead m a
      (r.1, some (leBytes 4 r.2.toNat))
    else bad
  | .write d =>
    if d.length = 4 ∧ a % 4 = 0 ∧ d.all Option.isSome then
      (s.csrWrite m a (BitVec.ofNat 32 (leNat (d.map (fun b => b.getD 0)))), some [])
    else bad

/-- The bytes of the Pair Map: entry (u, v) at (u × 4096 + v) × 2 (R108). -/
def State.mapByte (s : State) (o : Nat) : Byte :=
  BitVec.ofNat 8 ((smapGet 0 s.ag.pm (o / 2)).toNat / 256 ^ (o % 2))

/-- An access to the Pair Map (R110): writes only in direct mode, by entries of 16 bits. -/
def State.accessMap (s : State) (o : Nat) (op : XbOp) : Answer :=
  match op with
  | .read n => (s, some ((List.range n).map (fun i => s.mapByte (o + i))))
  | .write d =>
    if !s.on R.AG_CTL_pm_direct then (s, none)
    else
      (s.fold (d.zipIdx) (fun s x =>
        match x.1 with
        | some b =>
          let k := o + x.2
          let old := (smapGet 0 s.ag.pm (k / 2)).toNat
          (s.pmDirect (k / 2 / 4096) (k / 2 % 4096) (BitVec.ofNat 16 (putBits old (8 * (k % 2)) 8 b.toNat))).1
        | none => s), some [])

/-- The core and word of an offset in the ASP memories (Table 16-4): P from word 0, X from 0x8000, Y from 0xC000. -/
def aspPlace (o : Nat) : Nat × Nat := (o / 0x40000, o % 0x40000 / 4)

/-- An access to ASP memory (R340): P memory is written only in RESET and STOPPED, and a write drops its entry from the
repeat cache (R331). (DEDUCED: log entry 143.) -/
def State.accessAsp (s : State) (o : Nat) (op : XbOp) : Answer :=
  let (n, w) := aspPlace o
  match op with
  | .read k =>
    (s, some ((List.range k).map (fun i =>
      let p := aspPlace (o + i)
      BitVec.ofNat 8 (s.spWord p.1 p.2 / 256 ^ ((o + i) % 4)))))
  | .write d =>
    if w < 0x8000 && !s.spOpen n then (s.flag (R.SP_STAT_pwr_ref n), none)
    else
      (s.fold (d.zipIdx) (fun s x =>
        match x.1 with
        | some b =>
          let p := aspPlace (o + x.2)
          let s := s.setSpWord n p.2 (putBits (s.spWord n p.2) (8 * ((o + x.2) % 4)) 8 b.toNat)
          s.setCore n { s.core n with cache := (s.core n).cache.filter (· ≠ p.2) }
        | none => s), some [])

/-- An access to the configuration store (R364, R365). -/
def State.accessStore (s : State) (o : Nat) (op : XbOp) : Answer :=
  match op with
  | .read n => (s, some (s.stGet o n))
  | .write d => (s.stPut o (mergeBytes (s.stGet o d.length) d), some [])

/-- An access to a listening-post buffer (R345, R346): a read returns the ring; each 4-byte write appends a word when the
channel's source is the crossbar. (DEDUCED: log entry 40.) -/
def State.accessPost (s : State) (o : Nat) (op : XbOp) : Answer :=
  let m := o / 0x10000
  match op with
  | .read n =>
    (s, some ((List.range n).map (fun i =>
      BitVec.ofNat 8 ((smapGet 0 s.au.ring (m * auSize + (o + i) % 0x10000 / 4)).toNat / 256 ^ ((o + i) % 4)))))
  | .write d =>
    let first := (4 - o % 4) % 4
    (s.fold (List.range ((d.length - first) / 4)) (fun s i =>
      let g := (d.drop (first + 4 * i)).take 4
      if g.all Option.isSome then s.auWord m (some (BitVec.ofNat 32 (leNat (g.map (fun b => b.getD 0))))) else s), some [])

/-- An access to the Arbiter mailbox (R310). (DEDUCED: log entry 31.) -/
def State.accessMbx (s : State) (o : Nat) (op : XbOp) : Answer :=
  match op with
  | .read n => (s, some (s.mbxBytes o n))
  | .write d => ({ s with xb := { s.xb with mbx := memPut s.xb.mbx o (mergeBytes (s.mbxBytes o d.length) d) } }, some [])

/-! ## An access (R295 to R301) -/

/-- A non-secure write that R299 refuses. -/
def State.secRefused (s : State) (t o : Nat) (op : XbOp) : Bool :=
  match op with
  | .read _ => false
  | .write d =>
    t = 4 || (t = 1 && (s.rd R.XB_CSRSEC_blk).testBit (o / 0x100000))
      || (t = 7 && (d.zipIdx).any (fun x => x.1.isSome && decide (512 ≤ (o + x.2) % 1024)))

/-- The host reaches a target before Ready: CSR blocks TOP_, MG_, CF_ and PE_, and the mailbox (R378). -/
def State.hostTarget (s : State) (t o : Nat) : Bool := s.on R.MG_STATUS_ready || t = 7 || (t = 1 && s.hostReach o)

/-- A burst of a master whose port is open: 1 to 1,024 bytes within one 1 KiB block. (DEDUCED: log entry 22.) -/
def State.access (s : State) (m ch a : Nat) (op : XbOp) : Answer :=
  match targetOf a with
  | none => (s.xbUnmapped m (opWrites op) a, none)
  | some (t, o) =>
    if !hasPath m t then (s.xbViol 1 m t (opWrites op) a, none)
    else if (opLen op) = 0 ∨ 1024 < a % 1024 + (opLen op) then (s.xbViol 4 m t (opWrites op) a, none)
    else if m = 0 && !s.hostTarget t o then (s, none)
    else if !s.secure m ch && s.secRefused t o op then (s.xbViol 2 m t (opWrites op) a, none)
    else
      match t with
      | 0 => s.accessHbm o op
      | 1 => s.accessCsr m o op
      | 2 => s.accessMap o op
      | 3 => s.accessAsp o op
      | 4 => s.accessStore o op
      | 5 => s.accessPost o op
      | _ => s.accessMbx o op

/-- The response reaches the master; to the host an error is also a completer abort (R307). -/
def Answer.respond (x : Answer) (m : Nat) : State :=
  match x.2 with
  | some bs => x.1.okResp bs
  | none => x.1.failTo m

/-- ECC or parity fails on an access (Tables 8-1 and 8-4): it transfers nothing, and it is counted in health source 7.
(DESIGN CHOICE: log entry 195.) -/
def State.busError (s : State) : State := s.health 7 0 1 0 s.curRound

/-- CROSSBAR_BURST: one burst of a master; a quiesced port accepts none (R303). `ecc`: its ECC or parity fails.
(DEDUCED: log entry 44.) -/
def State.burst (s : State) (m ch a : Nat) (op : XbOp) (ecc : Bool) : State :=
  if s.quiesced m then s else if ecc then s.busError.failTo m else Answer.respond (s.access m ch a op) m

/-- MASTER_RESET: the leading beats that targets have accepted take effect, then the master's reset (R303). -/
def State.resetMaster (s : State) (m : Nat) (lead : List XbLead) (bursts : Nat) : State :=
  let s := if s.quiesced m then s else s.fold lead (fun s x => (s.access m 0 x.addr.toNat (.write x.data)).1)
  s.masterReset m bursts

/-! ## PCIe requests (R305 to R309) -/

/-- The bursts a request becomes: split at 1 KiB blocks. -/
def splitOp : Nat → Nat → XbOp → List (Nat × XbOp)
  | 0, _, _ => []
  | f + 1, a, op =>
    if (opLen op) = 0 then []
    else
      let k := min (opLen op) (1024 - a % 1024)
      match op with
      | .read n => (a, .read k) :: splitOp f (a + k) (.read (n - k))
      | .write d => (a, .write (d.take k)) :: splitOp f (a + k) (.write (d.drop k))

/-- The bursts of a request by the host, until one is answered with an error. -/
def hostBursts : List (Nat × XbOp) → Answer → Answer
  | [], x => x
  | (a, op) :: rest, (s, acc) =>
    match s.access 0 0 a op with
    | (s, some bs) => hostBursts rest (s, acc.map (· ++ bs))
    | (s, none) => (s, none)

/-- A request of the host to a device address. -/
def State.hostAccess (s : State) (a : Nat) (op : XbOp) : State :=
  Answer.respond (hostBursts (splitOp ((opLen op) + 1) a op) (s, some [])) 0

/-- A write of one word of the MSI-X table: a vector that is no longer masked sends its pending message (R309). -/
def State.msixWrite (s : State) (k : Nat) (v : Word) : State :=
  let s := { s with pe := { s.pe with table := smapSet (if k % 4 = 3 then 1 else 0) s.pe.table k v } }
  let n := k / 4
  if smapGet false s.pe.pendBit n && !s.msixMasked n then
    State.msix { s with pe := { s.pe with pendBit := smapSet false s.pe.pendBit n false } } n
  else s

/-- A byte of the MSI-X table, and of the pending-bit array. -/
def State.msixByte (s : State) (o : Nat) : Byte := BitVec.ofNat 8 (s.msixWord (o / 16) (o / 4 % 4) / 256 ^ (o % 4))
def State.pbaByte (s : State) (o : Nat) : Byte :=
  (List.range 8).foldl (fun b i => if smapGet false s.pe.pendBit (8 * o + i) then b ||| BitVec.ofNat 8 (2 ^ i) else b) 0

/-- A request to the MSI-X table. -/
def State.msixAccess (s : State) (o : Nat) (op : XbOp) : State :=
  match op with
  | .read n => s.okResp ((List.range n).map (fun i => s.msixByte (o + i)))
  | .write d =>
    let ks := (List.range 1024).filter (fun k => (List.range 4).any (fun i => decide (o ≤ 4 * k + i) && (d.getD (4 * k + i - o) none).isSome))
    (s.fold ks (fun s k =>
      let old := (List.range 4).map (fun i => s.msixByte (4 * k + i))
      let new := (List.range 4).map (fun i => if o ≤ 4 * k + i then d.getD (4 * k + i - o) none else none)
      s.msixWrite k (BitVec.ofNat 32 (leNat (mergeBytes old new))))).okResp []

/-- A write to the doorbell page (R308): 4-byte locations; the value matters to the mailbox doorbell only. -/
def State.bell (s : State) (o v : Nat) : State :=
  if o % 8 = 0 ∧ o < 0x40 then s.dmaGo (o / 8)
  else if o = 0x100 then s.doorbell (v % 16) (s.secure 0 0)
  else if o % 8 = 0 ∧ 0x200 ≤ o ∧ o < 0x280 then s.fire (32 + (o - 0x200) / 8)
  else s

/-- A request to the doorbell page; the locations are write-only and read 0. Before Ready only the mailbox doorbell is
reached. (DEDUCED: log entry 33.) -/
def State.bellAccess (s : State) (o : Nat) (op : XbOp) : State :=
  if !s.on R.MG_STATUS_ready ∧ o ≠ 0x100 then s.failTo 0
  else
    match op with
    | .read n => s.okResp (zeros n)
    | .write d =>
      if d.length = 4 ∧ o % 4 = 0 ∧ d.all Option.isSome then (s.bell o (leNat (d.map (fun b => b.getD 0)))).okResp []
      else s.okResp []

/-- PCIE_REQUEST: a memory request of the host to a BAR (Tables 14-6 and 14-7). (DEDUCED: log entry 34.) -/
def State.pcieRequest (s : State) (bar : PcieBar) (o : Nat) (op : XbOp) : State :=
  if s.quiesced 0 then s
  else
    let fits (lo n : Nat) : Bool := decide (lo ≤ o ∧ o + (opLen op) ≤ lo + n)
    match bar with
    | .bar0 => if fits 0 0x10000000 then Answer.respond (s.access 0 0 (csrAddr o) op) 0 else s.peUnsupported.errResp
    | .bar2 => if fits 0 0x1000000000 then s.hostAccess (s.rq R.PE_WIN + o) op else s.peUnsupported.errResp
    | .bar4 =>
      if fits 0 0x2000000 then s.hostAccess (0x6000000000 + o) op
      else if fits 0x2000000 0x1000 then s.bellAccess (o - 0x2000000) op
      else if fits 0x2010000 0x10000 then s.hostAccess (0x6500000000 + (o - 0x2010000)) op
      else if fits 0x2020000 0x1000 then
        if s.on R.MG_STATUS_ready then s.msixAccess (o - 0x2020000) op else s.failTo 0
      else if fits 0x2021000 0x20 then
        match op with
        | .read n =>
          if s.on R.MG_STATUS_ready then s.okResp ((List.range n).map (fun i => s.pbaByte (o - 0x2021000 + i))) else s.failTo 0
        | .write _ => s.okResp []
      else s.peUnsupported.errResp

/-! ## DMA descriptors (R304) -/

/-- A channel stops with an error: the descriptor is marked when it can be written, and source 24 + c and E170 + c fire. -/
def State.dmaFail (s : State) (c err ctl : Nat) (mark : Bool) : State :=
  let cur := s.rq (R.XB_DMACUR c)
  let s := if mark then
      (s.access 18 c cur (.write ((leBytes 4 (putBits ctl 28 4 10)).map some))).1
    else s
  let s := ((s.wr (R.XB_DMASTAT_state c) 3).wr (R.XB_DMASTAT_err c) err).wr (R.XB_DMASTAT_pend c) 0
  (s.irq (24 + c)).fire (170 + c)

/-- The cause of a failed access: 4 where no path exists, else 1. -/
def dmaCause (a : Nat) : Nat :=
  match targetOf a with
  | some (t, _) => if hasPath 18 t then 1 else 4
  | none => 1

/-- Host memory writes of at most 512 bytes each. -/
def State.hostPut (s : State) (a : Nat) (bs : Bytes) : State :=
  s.fold (List.range (ceilDiv bs.length 512)) (fun s i => s.emit (.hostWrite (a + 512 * i) ((bs.drop (512 * i)).take 512)))

/-- Copies the rest of a descriptor's bytes burst by burst; the second part is the error cause, if any. `host` carries what
host memory answers, when it is the source. -/
def dmaCopy : Nat → Nat → Option Bytes → Bool → Nat → Nat → Nat → State → State × Option Nat
  | 0, _, _, _, _, _, _, s => (s, none)
  | f + 1, c, host, toHost, src, dst, len, s =>
    if len = 0 then (s, none)
    else
      let k := min len (min (if host.isSome then 1024 else 1024 - src % 1024) (if toHost then 1024 else 1024 - dst % 1024))
      let got : Answer := match host with
        | some bs => (s, some (bs.take k))
        | none => s.access 18 c src (.read k)
      match got with
      | (s, none) => (s, some (dmaCause src))
      | (s, some bs) =>
        let put : Answer := if toHost then (s.hostPut dst bs, some []) else s.access 18 c dst (.write (bs.map some))
        match put with
        | (s, none) => (s, some (dmaCause dst))
        | (s, some _) => dmaCopy f c (host.map (·.drop k)) toHost (src + k) (dst + k) (len - k) s

/-- The next descriptor: read after the write-back; at the end of the chain an append mark reads it once more. -/
def State.dmaNext (s : State) (c ctl : Nat) : State :=
  let cur := s.rq (R.XB_DMACUR c)
  match s.access 18 c (cur + 24) (.read 8) with
  | (s, none) => s.dmaFail c (dmaCause (cur + 24)) ctl true
  | (s, some bs) =>
    let next := leNat bs % 2 ^ 40
    if next ≠ 0 then s.wq (R.XB_DMACUR c) next
    else if s.on (R.XB_DMASTAT_pend c) then
      let s := s.wr (R.XB_DMASTAT_pend c) 0
      match s.access 18 c (cur + 24) (.read 8) with
      | (s, none) => s.dmaFail c (dmaCause (cur + 24)) ctl true
      | (s, some bs) =>
        let again := leNat bs % 2 ^ 40
        if again ≠ 0 then s.wq (R.XB_DMACUR c) again else s.wr (R.XB_DMASTAT_state c) 2
    else s.wr (R.XB_DMASTAT_state c) 2

/-- A descriptor's bytes have been copied: it is written back and counted, interrupt and event fire, and the chain goes on. (DEDUCED: log entry 37.) -/
def State.dmaDone (s : State) (c ctl : Nat) : State :=
  let cur := s.rq (R.XB_DMACUR c)
  match s.access 18 c cur (.write ((leBytes 4 (putBits ctl 28 4 9)).map some)) with
  | (s, none) => s.dmaFail c (dmaCause cur) ctl false
  | (s, some _) =>
    let s := (s.inc (R.XB_DMADONE c)).fire (170 + c)
    (s.when (ctl.testBit 2) (·.irq (24 + c))).dmaNext c ctl

/-- DMA_DESCRIPTOR_COMPLETE: the descriptor in progress of a running channel. `hostData` and `hostError` say what host
memory answers when it is the source; `ecc`: ECC or parity fails on a burst of it. (DESIGN CHOICE: log entry 35.)
(DEDUCED: log entry 36.) -/
def State.dmaStep (s : State) (c : Nat) (hostData : Bytes) (hostError ecc : Bool) : State :=
  if s.dmaState c ≠ 1 ∨ s.quiesced 18 then s
  else
    let cur := s.rq (R.XB_DMACUR c)
    if cur % 32 ≠ 0 then s.dmaFail c 3 0 false
    else
      match s.access 18 c cur (.read 32) with
      | (s, none) => s.dmaFail c (dmaCause cur) 0 false
      | (s, some d) =>
        let ctl := leAt d 0 4
        let len := leAt d 4 4
        let fromHost := ctl.testBit 0
        let toHost := ctl.testBit 1
        let src := leAt d 8 8
        let dst := leAt d 16 8
        if len < 4 ∨ 16777216 < len ∨ len % 4 ≠ 0 then s.dmaFail c 2 ctl true
        else if ecc then s.busError.dmaFail c 1 ctl true
        else if fromHost ∧ (hostError ∨ hostData.length ≠ len) then s.dmaFail c 1 ctl true
        else
          match dmaCopy (len + 1) c (if fromHost then some hostData else none) toHost src dst len s with
          | (s, some e) => s.dmaFail c e ctl true
          | (s, none) => s.dmaDone c ctl

/-! ## External window (R339) -/

/-- EXTERNAL_ACCESS_COMPLETE: the core's access as master M(2 + n), and the instruction that waits for it. -/
def State.externComplete (s : State) (n : Nat) : State :=
  match (s.core n).ext with
  | none => s
  | some x =>
    if s.quiesced (2 + n) then s
    else
      let op : XbOp := if x.write then .write ((leBytes 4 x.data).map some) else .read 4
      let r := s.access (2 + n) 0 x.addr op
      r.1.aspExternDone n x (r.2.map leNat)

/-! ## Task inputs (R319) -/

/-- The action of a task input (Table 15-2); `fine` is what a capture's TDC adds. -/
def State.taskAct (s : State) (t fine : Nat) : State :=
  if t < 16 then s.captureTask t fine
  else if t < 32 then s.trgArm (t - 16)
  else if t = 32 then s.freezeTask
  else if t = 33 then s.captureRelease
  else if t = 34 then s.requestDrain
  else if t = 35 then (s.hltSend).timSend s.tb.t
  else if t < 40 then s.relay (t - 36)
  else if t < 56 then s.evioAction (t - 40)
  else if t < 64 then s.dmaGo (t - 56)
  else if t < 80 then s.irq t
  else s

/-- TASK_EXECUTE: a task input takes one pending event; T80 to T95 are taken by the ASP cores' interrupts. (DEDUCED: log entry 39.) -/
def State.taskExecute (s : State) (t fine : Nat) : State :=
  if 80 ≤ t then s else s.taskTake t (fun s => s.taskAct t fine)

end Sys2Proof.Machine
end

