-- ==== Sys2Proof/Machine/Cmd.lean ====
section
/-! DEFINITION. What the meanings of the commands share. -/

namespace Sys2Proof.Machine

/-- A command that needs the device's core: it changes nothing while the core is off (no VIN, Adjournment, SHUTDOWN). -/
def State.does (s : State) (f : State → State) : Host.Outcome State Fault Refusal := .next (if s.off then s else f s)

/-- A written word with one of its fields given a value: the command bit that makes a write the command of its row. -/
def force (v : Word) (f : FRef) (x : Nat) : Word := BitVec.ofNat 32 (putBits v.toNat f.lo f.w x)

/-- A cell in port order, and what the packet it completes brings (R34, R35). -/
def State.cellPacket (s : State) (p : Nat) (cell : Bytes) (arr : Nat) : State :=
  match s.cellTake p cell with
  | (s, some bs) => if p < 16 then s.packetTake p bs arr else s.castTake bs none
  | (s, none) => s

/-- Takes at most n cells in port order from the lanes (R32). -/
def drainCells : Nat → State → Nat → State
  | 0, s, _ => s
  | n + 1, s, p => match s.nextCell p with
    | none => s
    | some (none, t) => drainCells n (t.skipCell p) p
    | some (some (cell, arr), t) => drainCells n (t.cellPacket p cell arr) p

/-- CELL_RECEIVE: a cell arrives on a lane and waits there for the cells of earlier slots (R32); a cell that an uncorrectable
codeword overlaps is discarded, but keeps its slot (R30). An alignment cell has a row of its own. (DEDUCED: log entry 48.) -/
def State.cellArrive (s : State) (p lane : Nat) (cell : Bytes) (ticks : Nat) : State :=
  let kind := byteAt cell 0 % 8
  if !s.portUp p || decide (s.portLanes p ≤ lane) || kind == 1 then s
  else
    let r := s.overlapped p lane
    let c : Option (Bytes × Nat) :=
      if r.1 then (if kind = 0 ∨ kind = 7 then some (cellBytes 0 0 [], 0) else none) else some (cell, s.ago ticks)
    let s := r.2.queueCell p lane c
    drainCells ((List.range 4).map (fun l => (smapGet [] (s.ulp p).laneQ l).length)).sum s p

/-- The time counter runs: from step 3 of Opening, in Adjournment and in SHUTDOWN too. -/
def State.clockRuns (s : State) : Bool := s.mg.vin && decide (3 ≤ s.rd R.MG_STATUS_step)

/-- The event of a second's passage does not reach a core that is off. -/
def State.clockQuiet (s t : State) : State := if s.off then { t with evq := s.evq } else t

/-- TAI_SECOND_ROLLOVER (R246). -/
def State.secondPasses (s : State) : State := if s.clockRuns then s.clockQuiet s.toNextSecond.ticked else s

/-- One tick of the time counter. -/
def State.idleTick (s : State) : State := if s.clockRuns then s.clockQuiet s.tickClock.ticked else s

end Sys2Proof.Machine
end

