-- ==== Sys2Proof/Machine/CmdAccess.lean ====
section
/-! DEFINITION. Register accesses (R15 to R19, R407, R408): writes, pairs, counters and snapshots. One definition for each command. -/

namespace Sys2Proof.Machine

/-- REGISTER_WRITE (R407): A host or master write to a CSR that has no row of its own; the device applies the range, reserved-bit, guarded-field and ownership checks and writes the accepted fields. -/
def execRegisterWrite (m : Fin 20) (a : BitVec 28) (v : Word) (s : State) : Host.Outcome State Fault Refusal :=
  s.does (fun s => s.writeWord m a.toNat v)

/-- PAIR_LO_WRITE (R18): A write to the _LO half of a 64-bit pair is held per master until the matching _HI write. -/
def execPairLoWrite (m : Fin 20) (a : BitVec 28) (v : Word) (s : State) : Host.Outcome State Fault Refusal :=
  s.does (fun s => s.writeWord m a.toNat v)

/-- PAIR_HI_WRITE (R18): A write to the _HI half commits both halves in one update, or commits 0 as the low half when no matching _LO is held. -/
def execPairHiWrite (m : Fin 20) (a : BitVec 28) (v : Word) (s : State) : Host.Outcome State Fault Refusal :=
  s.does (fun s => s.writeWord m a.toNat v)

/-- PAIR_LO_READ (R18): A read of _LO returns bits [31:0] and latches bits [63:32] per master for the next _HI read of the same pair. -/
def execPairLoRead (m : Fin 20) (a : BitVec 28) (s : State) : Host.Outcome State Fault Refusal :=
  s.does (fun s => s.readWord m a.toNat)

/-- COUNTER_READ (R16): A read of an RC counter returns its value and clears it, carrying any simultaneous increment into the new value. -/
def execCounterRead (m : Fin 20) (a : BitVec 28) (s : State) : Host.Outcome State Fault Refusal :=
  s.does (fun s => s.readWord m a.toNat)

/-- SNAPSHOT_READ (R16): A read of a latching RL register captures a snapshot of its register group. -/
def execSnapshotRead (m : Fin 20) (a : BitVec 28) (s : State) : Host.Outcome State Fault Refusal :=
  s.does (fun s => s.readWord m a.toNat)

/-- PLAN_RECORD_READ (R271): A read of CK_PLAN0 copies the latest plan record and its round into CK_PLAN0 to CK_PLAN9 and CK_ROUND. -/
def execPlanRecordRead (m : Fin 20) (s : State) : Host.Outcome State Fault Refusal :=
  s.does (fun s => s.readWord m (R.CK_PLAN 0))

/-- TIME_READ (R247): A read of TB_NOWS_LO latches the seconds, nanoseconds and fraction of the time counter at one tick. -/
def execTimeRead (m : Fin 20) (s : State) : Host.Outcome State Fault Refusal :=
  s.does (fun s => s.readWord m R.TB_NOWS)

end Sys2Proof.Machine
end

