-- ==== Sys2Proof/Machine/CmdAlign.lean ====
section
/-! DEFINITION. Round boundaries, the horizon, placing packets, and alignment (R25, R26, R58 to R82). One definition for each command. -/

namespace Sys2Proof.Machine

/-- ROUND_BOUNDARY (R25): A round boundary is reached: every change bound to it takes effect for the rounds from it onward. -/
def execRoundBoundary (s : State) : Host.Outcome State Fault Refusal :=
  s.does (fun s => (s.passBoundaries.moveHorizon).handCheck.joinCheck)

/-- INGEST_ROUND_START (R26): Ingest starts writing round n+1 into the slab buffer freed by round n-1, at t0 in time mode or on the first packet of the round in majority mode. -/
def execIngestRoundStart (s : State) : Host.Outcome State Fault Refusal :=
  s.does (fun s => s.ingestNext)

/-- HORIZON_ADVANCE (R62): The device raises the horizon H to the time-mode or majority-mode candidate, never lowering it. -/
def execHorizonAdvance (s : State) : Host.Outcome State Fault Refusal :=
  s.does (fun s => (s.moveHorizon).handCheck.joinCheck)

/-- PACKET_PLACE (R64): Alignment places the samples of an accepted packet by stream, channel and SC, discarding late samples and dropping early or duplicate packets. -/
def execPacketPlace (s : State) : Host.Outcome State Fault Refusal :=
  s.does (fun s => s.placeNext)

/-- ALIGNMENT_ENABLE (R81): Writing AL_CTL.en = 1 validates buffers and occupancy and starts slabs with the first round after H. -/
def execAlignmentEnable (m : Fin 20) (v : Word) (s : State) : Host.Outcome State Fault Refusal :=
  s.does (fun s => s.writeWord m R.AL_CTL_en.a (force v R.AL_CTL_en 1))

/-- ALIGNMENT_DISABLE (R81): Writing AL_CTL.en = 0 discards unsealed rounds and cancels a pending freeze of a discarded round. -/
def execAlignmentDisable (m : Fin 20) (v : Word) (s : State) : Host.Outcome State Fault Refusal :=
  s.does (fun s => s.writeWord m R.AL_CTL_en.a (force v R.AL_CTL_en 0))

/-- WINDOW_CHANGE (R67): A write to AL_WIN is validated and bound to a round boundary, after which H moves to the new candidate. -/
def execWindowChange (m : Fin 20) (v : Word) (s : State) : Host.Outcome State Fault Refusal :=
  s.does (fun s => s.writeWord m R.AL_WIN_win_us.a v)

/-- FREEZE_COMMAND (R77): Writing AL_CAPCTL.freeze requests a freeze of a round, accepted or refused with a result code. -/
def execFreezeCommand (m : Fin 20) (v : Word) (s : State) : Host.Outcome State Fault Refusal :=
  s.does (fun s => s.writeWord m R.AL_CAPCTL_freeze.a (force v R.AL_CAPCTL_freeze 1))

/-- CAPTURE_RELEASE (R78): Writing AL_CAPCTL.release releases the held capture, or does nothing when none is held. -/
def execCaptureRelease (m : Fin 20) (v : Word) (s : State) : Host.Outcome State Fault Refusal :=
  s.does (fun s => s.writeWord m R.AL_CAPCTL_release.a (force v R.AL_CAPCTL_release 1))

/-- REPAIR_BITMAP_SEND (R80): At span end plus W minus lead_us the unit sends the span's arrival bitmaps to the peer in SPAN messages. -/
def execRepairBitmapSend (s : State) : Host.Outcome State Fault Refusal :=
  s.does (fun s => s.bitmapSend)

end Sys2Proof.Machine
end

