-- ==== Sys2Proof/Machine/CmdAsp.lean ====
section
/-! DEFINITION. The auxiliary signal processors (R323 to R344). One definition for each command. -/

namespace Sys2Proof.Machine

/-- NOP (R326): The ASP instruction NOP does nothing for one instruction time. -/
def execAspNop (core : Fin 16) (s : State) : Host.Outcome State Fault Refusal :=
  s.does (fun s => s.aspExec core true (.aspNop core) (fun s _ _ => .done s))

/-- BR (R328): BR branches to its target after two delay slots. -/
def execAspBr (core : Fin 16) (target : BitVec 15) (s : State) : Host.Outcome State Fault Refusal :=
  s.does (fun s => s.aspExec core true (.aspBr core target) (aspBranchBody core 0 target.toNat))

/-- BRCC (R328): BRcc branches when its condition holds, after two delay slots. -/
def execAspBrcc (core : Fin 16) (cond : AspCond) (target : BitVec 15) (s : State) : Host.Outcome State Fault Refusal :=
  s.does (fun s => s.aspExec core true (.aspBrcc core cond target) (aspBranchBody core cond target.toNat))

/-- CALL (R333): CALL pushes the return address onto the call stack and branches, faulting on overflow. -/
def execAspCall (core : Fin 16) (target : BitVec 15) (s : State) : Host.Outcome State Fault Refusal :=
  s.does (fun s => s.aspExec core true (.aspCall core target) (aspCallBody core target.toNat))

/-- RET (R333): RET pops the call stack and returns, faulting on underflow. -/
def execAspRet (core : Fin 16) (s : State) : Host.Outcome State Fault Refusal :=
  s.does (fun s => s.aspExec core true (.aspRet core) (aspRetBody core))

/-- RETI (R333): RETI returns from an interrupt to RPC in the primary bank after two delay slots. -/
def execAspReti (core : Fin 16) (s : State) : Host.Outcome State Fault Refusal :=
  s.does (fun s => s.aspExec core true (.aspReti core) (aspRetiBody core))

/-- LOOPNZ (R326): LOOPNZ decrements LC and branches while it is not zero. -/
def execAspLoopnz (core : Fin 16) (target : BitVec 15) (s : State) : Host.Outcome State Fault Refusal :=
  s.does (fun s => s.aspExec core true (.aspLoopnz core target) (aspLoopBody core target.toNat))

/-- WAIT (R341): WAIT stops execution until an interrupt is accepted. -/
def execAspWait (core : Fin 16) (s : State) : Host.Outcome State Fault Refusal :=
  s.does (fun s => s.aspExec core true (.aspWait core) (aspWaitBody core))

/-- EI (R332): EI enables interrupts. -/
def execAspEi (core : Fin 16) (s : State) : Host.Outcome State Fault Refusal :=
  s.does (fun s => s.aspExec core true (.aspEi core) (aspEnableBody core true))

/-- DI (R332): DI disables interrupts. -/
def execAspDi (core : Fin 16) (s : State) : Host.Outcome State Fault Refusal :=
  s.does (fun s => s.aspExec core true (.aspDi core) (aspEnableBody core false))

/-- SIG (R335): SIG fires the core's event output producer. -/
def execAspSig (core : Fin 16) (o : Fin 2) (s : State) : Host.Outcome State Fault Refusal :=
  s.does (fun s => s.aspExec core true (.aspSig core o) (aspSigBody core o))

/-- HINT (R335): HINT sets SP_HINT bit n and fires the core's host interrupt source. -/
def execAspHint (core : Fin 16) (s : State) : Host.Outcome State Fault Refusal :=
  s.does (fun s => s.aspExec core true (.aspHint core) (aspHintBody core))

/-- RPT (R330): RPT executes the next instruction a count of times, uninterruptibly. -/
def execAspRpt (core : Fin 16) (count : Option (BitVec 12)) (s : State) : Host.Outcome State Fault Refusal :=
  s.does (fun s => s.aspExec core true (.aspRpt core count) (aspRptBody core count))

/-- MOVI (R326): MOVI writes a 16-bit immediate into half of a register. -/
def execAspMovi (core : Fin 16) (dst : AspReg) (high : Bool) (imm : BitVec 16) (s : State) : Host.Outcome State Fault Refusal :=
  s.does (fun s => s.aspExec core false (.aspMovi core dst high imm) (aspMoviBody core dst high imm))

/-- MOV (R326): MOV moves between registers, special registers and stream ports, waiting on an empty input or full output. -/
def execAspMov (core : Fin 16) (dst src : AspReg) (s : State) : Host.Outcome State Fault Refusal :=
  s.does (fun s => s.aspExec core false (.aspMov core dst src) (aspMovBody core dst src))

/-- MODP (R324): MODP steps a pointer, wrapping within its circular buffer. -/
def execAspModp (core : Fin 16) (ptr : Fin 8) (step : BitVec 16) (s : State) : Host.Outcome State Fault Refusal :=
  s.does (fun s => s.aspExec core false (.aspModp core ptr step) (aspModpBody core ptr step))

/-- LOAD (R326): A load reads a word from X or Y space, through the external window when addressed there. -/
def execAspLoad (core : Fin 16) (y : Bool) (op : AspMem) (dst : Fin 16) (ecc : AspEcc) (s : State) : Host.Outcome State Fault Refusal :=
  s.does (fun s => s.aspExec core false (.aspLoad core y op dst ecc) (aspLoadBody core y op dst ecc))

/-- STORE (R326): A store writes a word to X or Y space, through the external window when addressed there. -/
def execAspStore (core : Fin 16) (y : Bool) (op : AspMem) (src : Fin 16) (s : State) : Host.Outcome State Fault Refusal :=
  s.does (fun s => s.aspExec core false (.aspStore core y op src) (aspStoreBody core y op src))

/-- ADD (R327): ADD adds two registers or a register and immediate, saturating or wrapping by S. -/
def execAspAdd (core : Fin 16) (sat : Bool) (dst a : Fin 16) (b : AspSrc) (s : State) : Host.Outcome State Fault Refusal :=
  s.does (fun s => s.aspExec core false (.aspAdd core sat dst a b) (aspAluBody core .add sat (some dst) a b))

/-- SUB (R327): SUB subtracts, saturating or wrapping by S. -/
def execAspSub (core : Fin 16) (sat : Bool) (dst a : Fin 16) (b : AspSrc) (s : State) : Host.Outcome State Fault Refusal :=
  s.does (fun s => s.aspExec core false (.aspSub core sat dst a b) (aspAluBody core .sub sat (some dst) a b))

/-- AND (R327): AND forms the bitwise and. -/
def execAspAnd (core : Fin 16) (sat : Bool) (dst a : Fin 16) (b : AspSrc) (s : State) : Host.Outcome State Fault Refusal :=
  s.does (fun s => s.aspExec core false (.aspAnd core sat dst a b) (aspAluBody core .and sat (some dst) a b))

/-- OR (R327): OR forms the bitwise or. -/
def execAspOr (core : Fin 16) (sat : Bool) (dst a : Fin 16) (b : AspSrc) (s : State) : Host.Outcome State Fault Refusal :=
  s.does (fun s => s.aspExec core false (.aspOr core sat dst a b) (aspAluBody core .or sat (some dst) a b))

/-- XOR (R327): XOR forms the bitwise exclusive or. -/
def execAspXor (core : Fin 16) (sat : Bool) (dst a : Fin 16) (b : AspSrc) (s : State) : Host.Outcome State Fault Refusal :=
  s.does (fun s => s.aspExec core false (.aspXor core sat dst a b) (aspAluBody core .xor sat (some dst) a b))

/-- SHL (R327): SHL shifts left. -/
def execAspShl (core : Fin 16) (sat : Bool) (dst a : Fin 16) (b : AspSrc) (s : State) : Host.Outcome State Fault Refusal :=
  s.does (fun s => s.aspExec core false (.aspShl core sat dst a b) (aspAluBody core .shl sat (some dst) a b))

/-- SHR (R327): SHR shifts right logically. -/
def execAspShr (core : Fin 16) (sat : Bool) (dst a : Fin 16) (b : AspSrc) (s : State) : Host.Outcome State Fault Refusal :=
  s.does (fun s => s.aspExec core false (.aspShr core sat dst a b) (aspAluBody core .shr sat (some dst) a b))

/-- ASR (R327): ASR shifts right arithmetically. -/
def execAspAsr (core : Fin 16) (sat : Bool) (dst a : Fin 16) (b : AspSrc) (s : State) : Host.Outcome State Fault Refusal :=
  s.does (fun s => s.aspExec core false (.aspAsr core sat dst a b) (aspAluBody core .asr sat (some dst) a b))

/-- MIN (R327): MIN takes the smaller operand. -/
def execAspMin (core : Fin 16) (sat : Bool) (dst a : Fin 16) (b : AspSrc) (s : State) : Host.Outcome State Fault Refusal :=
  s.does (fun s => s.aspExec core false (.aspMin core sat dst a b) (aspAluBody core .min sat (some dst) a b))

/-- MAX (R327): MAX takes the larger operand. -/
def execAspMax (core : Fin 16) (sat : Bool) (dst a : Fin 16) (b : AspSrc) (s : State) : Host.Outcome State Fault Refusal :=
  s.does (fun s => s.aspExec core false (.aspMax core sat dst a b) (aspAluBody core .max sat (some dst) a b))

/-- ABS (R327): ABS takes the magnitude, saturating or wrapping by S. -/
def execAspAbs (core : Fin 16) (sat : Bool) (dst a : Fin 16) (s : State) : Host.Outcome State Fault Refusal :=
  s.does (fun s => s.aspExec core false (.aspAbs core sat dst a) (aspAluBody core .abs sat (some dst) a (.reg a)))

/-- NEG (R327): NEG negates, saturating or wrapping by S. -/
def execAspNeg (core : Fin 16) (sat : Bool) (dst a : Fin 16) (s : State) : Host.Outcome State Fault Refusal :=
  s.does (fun s => s.aspExec core false (.aspNeg core sat dst a) (aspAluBody core .neg sat (some dst) a (.reg a)))

/-- CMP (R327): CMP compares operands and sets the flags. -/
def execAspCmp (core : Fin 16) (sat : Bool) (a : Fin 16) (b : AspSrc) (s : State) : Host.Outcome State Fault Refusal :=
  s.does (fun s => s.aspExec core false (.aspCmp core sat a b) (aspAluBody core .cmp sat none a b))

/-- MPY (R327): MPY multiplies register halves into an accumulator with one parallel load. -/
def execAspMpy (core : Fin 16) (sat : Bool) (acc : Fin 4) (a b : AspHalf) (par : AspPar) (ecc : AspEcc) (s : State) : Host.Outcome State Fault Refusal :=
  s.does (fun s => s.aspExec core false (.aspMpy core sat acc a b par ecc) (aspMulBody core (fun _ p => p) sat acc a b par ecc))

/-- MAC (R327): MAC adds a product of halves into an accumulator with one parallel load. -/
def execAspMac (core : Fin 16) (sat : Bool) (acc : Fin 4) (a b : AspHalf) (par : AspPar) (ecc : AspEcc) (s : State) : Host.Outcome State Fault Refusal :=
  s.does (fun s => s.aspExec core false (.aspMac core sat acc a b par ecc) (aspMulBody core (fun x p => x + p) sat acc a b par ecc))

/-- MSU (R327): MSU subtracts a product of halves from an accumulator with one parallel load. -/
def execAspMsu (core : Fin 16) (sat : Bool) (acc : Fin 4) (a b : AspHalf) (par : AspPar) (ecc : AspEcc) (s : State) : Host.Outcome State Fault Refusal :=
  s.does (fun s => s.aspExec core false (.aspMsu core sat acc a b par ecc) (aspMulBody core (fun x p => x - p) sat acc a b par ecc))

/-- CMAC (R326): CMAC adds a complex product x·h, or x·conj(h), into an accumulator pair. -/
def execAspCmac (core : Fin 16) (sat conj : Bool) (pair : Fin 2) (x : AspMem) (hp : Bool) (h : AspMem) (ecc : AspEcc) (s : State) : Host.Outcome State Fault Refusal :=
  s.does (fun s => s.aspExec core false (.aspCmac core sat conj pair x hp h ecc) (aspCmacBody core sat conj pair x hp h ecc))

/-- CMAC2 (R326): CMAC2 adds x·h into A0:A1 and y·h into A2:A3. -/
def execAspCmac2 (core : Fin 16) (sat conj : Bool) (x y h : AspMem) (ecc : AspEcc) (s : State) : Host.Outcome State Fault Refusal :=
  s.does (fun s => s.aspExec core false (.aspCmac2 core sat conj x y h ecc) (aspCmac2Body core sat conj x y h ecc))

/-- MOVA (R326): MOVA shifts accumulators right with half-even rounding into a data register. -/
def execAspMova (core : Fin 16) (sat : Bool) (dst : Fin 16) (a : Fin 4) (b : Option (Fin 4)) (sh : Fin 32) (s : State) : Host.Outcome State Fault Refusal :=
  s.does (fun s => s.aspExec core false (.aspMova core sat dst a b sh) (aspMovaBody core sat dst a b sh))

/-- CLRA (R326): CLRA clears accumulators. -/
def execAspClra (core : Fin 16) (mask : BitVec 4) (s : State) : Host.Outcome State Fault Refusal :=
  s.does (fun s => s.aspExec core false (.aspClra core mask) (aspClraBody core mask))

/-- ADDA (R326): ADDA adds accumulators. -/
def execAspAdda (core : Fin 16) (sat : Bool) (dst a b : Fin 4) (s : State) : Host.Outcome State Fault Refusal :=
  s.does (fun s => s.aspExec core false (.aspAdda core sat dst a b) (aspAddaBody core sat dst a b))

/-- SHA (R326): SHA shifts an accumulator. -/
def execAspSha (core : Fin 16) (sat : Bool) (a : Fin 4) (left : Bool) (sh : Fin 32) (s : State) : Host.Outcome State Fault Refusal :=
  s.does (fun s => s.aspExec core false (.aspSha core sat a left sh) (aspShaBody core sat a left sh))

/-- EXT (R326): EXT extracts a bit field. -/
def execAspExt (core : Fin 16) (dst src : AspReg) (pos width1 : Fin 32) (s : State) : Host.Outcome State Fault Refusal :=
  s.does (fun s => s.aspExec core false (.aspExt core dst src pos width1) (aspExtBody core dst src pos width1))

/-- INS (R326): INS inserts a bit field. -/
def execAspIns (core : Fin 16) (dst src : AspReg) (pos width1 : Fin 32) (s : State) : Host.Outcome State Fault Refusal :=
  s.does (fun s => s.aspExec core false (.aspIns core dst src pos width1) (aspInsBody core dst src pos width1))

/-- INTERRUPT_ACCEPT (R333): At an accepting boundary the core accepts the lowest pending enabled interrupt, saving RPC and switching to the shadow bank. -/
def execInterruptAccept (core : Fin 16) (s : State) : Host.Outcome State Fault Refusal :=
  s.does (fun s => s.aspInterrupt core)

/-- EXTERNAL_ACCESS_COMPLETE (R339): An external-window access completes and the waiting core continues, or faults on an error response. -/
def execExternalAccessComplete (core : Fin 16) (s : State) : Host.Outcome State Fault Refusal :=
  s.does (fun s => s.externComplete core)

/-- ASP_STREAM_DELIVERY (R336): Voltage-beam words or another core's output words enter an input FIFO, with headers latched or queued. -/
def execAspStreamDelivery (core : Fin 16) (port : Fin 4) (s : State) : Host.Outcome State Fault Refusal :=
  s.does (fun s => s.aspStream core port)

/-- ASP_RUN (R341): Writing SP_CTLn.run = 1 starts a STOPPED core at SP_PCn. -/
def execAspRun (m : Fin 20) (core : Fin 16) (v : Word) (s : State) : Host.Outcome State Fault Refusal :=
  s.does (fun s => s.writeWord m (R.SP_CTL_run core).a (force v (R.SP_CTL_run core) 1))

/-- ASP_STOP (R341): Writing SP_CTLn.run = 0 stops the core at the next accepting boundary. -/
def execAspStop (m : Fin 20) (core : Fin 16) (v : Word) (s : State) : Host.Outcome State Fault Refusal :=
  s.does (fun s => s.writeWord m (R.SP_CTL_run core).a (force v (R.SP_CTL_run core) 0))

/-- ASP_STEP (R341): Writing SP_CTLn.step executes a stopped core to the next accepting boundary. -/
def execAspStep (m : Fin 20) (core : Fin 16) (v : Word) (s : State) : Host.Outcome State Fault Refusal :=
  s.does (fun s => s.writeWord m (R.SP_CTL_step core).a (force v (R.SP_CTL_step core) 1))

/-- ASP_RESET (R341): Writing SP_CTLn.rst resets the core, its banks, stack, FIFOs and pending interrupts. -/
def execAspReset (m : Fin 20) (core : Fin 16) (v : Word) (s : State) : Host.Outcome State Fault Refusal :=
  s.does (fun s => s.writeWord m (R.SP_CTL_rst core).a (force v (R.SP_CTL_rst core) 1))

/-- HOST_MESSAGE (R332): A host write of SP_HMSGn makes interrupt 4 pending. -/
def execHostMessage (m : Fin 20) (core : Fin 16) (v : Word) (s : State) : Host.Outcome State Fault Refusal :=
  s.does (fun s => s.writeWord m (R.SP_HMSG core) v)

end Sys2Proof.Machine
end

