-- ==== Sys2Proof/Machine/CmdAudio.lean ====
section
/-! DEFINITION. The listening post and the AES3 ports (R345 to R358). One definition for each command. -/

namespace Sys2Proof.Machine

/-- AES3_FRAME (R356): At each frame instant each monitor channel takes a word by its fade state and the outputs send a subframe pair. -/
def execAes3Frame (s : State) : Host.Outcome State Fault Refusal :=
  s.does (fun s => s.aesFrame)

/-- BUFFER_WORD_APPEND (R357): A word from an ASP port or a crossbar write is appended to a monitor buffer, or dropped on overrun. -/
def execBufferWordAppend (ch : Fin 16) (x : Option Word) (s : State) : Host.Outcome State Fault Refusal :=
  s.does (fun s => s.auWord ch x)

/-- AUDIO_CLOCK_SELECT (R349): A write of AU_CTL.clk selects the timebase or starts acquiring AES3_REF. -/
def execAudioClockSelect (m : Fin 20) (v : Word) (s : State) : Host.Outcome State Fault Refusal :=
  s.does (fun s => s.writeWord m R.AU_CTL_clk.a v)

/-- AES3_REF_MEASURE (R349): After 1 s of measurement AES3_REF is steered toward or refused as out of range. -/
def execAes3RefMeasure (off : Int) (s : State) : Host.Outcome State Fault Refusal :=
  s.does (fun s => s.auMeasure off)

/-- AES3_REF_LOCK (R349): The elastic buffer has held 4 frames for 1 s and the frame clock becomes LOCKED. -/
def execAes3RefLock (s : State) : Host.Outcome State Fault Refusal :=
  s.does (fun s => s.auLock)

/-- AES3_REF_LOSS (R349): AES3_REF loses preambles for 3 frames or leaves range; lock is lost and the rate held. -/
def execAes3RefLoss (s : State) : Host.Outcome State Fault Refusal :=
  s.does (fun s => s.auLost)

end Sys2Proof.Machine
end

