-- ==== Sys2Proof/Machine/CmdBeam.lean ====
section
/-! DEFINITION. The Beam Array (R133 to R153). One definition for each command. -/

namespace Sys2Proof.Machine

/-- BEAM_ARRAY_ENABLE (R140): Writing BA_CTL.en = 1 checks the task table, weights and slab and moves the Beam Array to WAIT, or refuses with cfg_reason. -/
def execBeamArrayEnable (m : Fin 20) (v : Word) (s : State) : Host.Outcome State Fault Refusal :=
  s.does (fun s => s.writeWord m R.BA_CTL_en.a (force v R.BA_CTL_en 1))

/-- BEAM_ARRAY_DISABLE (R140): Writing BA_CTL.en = 0 lets the Beam Array finish the round in progress and go to IDLE. -/
def execBeamArrayDisable (m : Fin 20) (v : Word) (s : State) : Host.Outcome State Fault Refusal :=
  s.does (fun s => s.writeWord m R.BA_CTL_en.a (force v R.BA_CTL_en 0))

/-- BEAM_ARRAY_HALT (R140): Writing BA_CTL.halt stops the Beam Array after the step in progress and reports unfinished channel-sets incomplete. -/
def execBeamArrayHalt (m : Fin 20) (v : Word) (s : State) : Host.Outcome State Fault Refusal :=
  s.does (fun s => s.writeWord m R.BA_CTL_halt.a (force v R.BA_CTL_halt 1))

/-- BEAM_ROUND_START (R140): Once slab n has sealed and beam work is admitted, the Beam Array starts channel-set 0 of round n, or applies shedding when not admitted. -/
def execBeamRoundStart (s : State) : Host.Outcome State Fault Refusal :=
  s.does (fun s => s.beamStart)

/-- CHANNEL_SET_COMPLETE (R140): A channel-set completes its checks; the next starts, or a re-run, and the round's work goes to the release gate after the last. -/
def execChannelSetComplete (rate minRate : Nat) (s : State) : Host.Outcome State Fault Refusal :=
  s.does (fun s => s.setComplete rate minRate)

/-- BEAM_CHECK_MISMATCH (R190): A slice's checker comparison fails; the sample periods from there are suppressed and the channel-set is re-run or made invalid. -/
def execBeamCheckMismatch (x : SliceCheck) (s : State) : Host.Outcome State Fault Refusal :=
  s.does (fun s => s.beamMismatch x.slice x.slot x.t x.cols x.chk)

/-- WEIGHT_SET_SWITCH (R142): Writing BA_WSEL.commit binds a switch of the active weight set to a round, or refuses it. -/
def execWeightSetSwitch (m : Fin 20) (v : Word) (s : State) : Host.Outcome State Fault Refusal :=
  s.does (fun s => s.writeWord m R.BA_WSEL_commit.a (force v R.BA_WSEL_commit 1))

/-- WEIGHT_SET_CONFIRM (R143): Writing BA_WSEL.confirm_a or confirm_b clears the unverified mark of that set. -/
def execWeightSetConfirm (m : Fin 20) (v : Word) (s : State) : Host.Outcome State Fault Refusal :=
  s.does (fun s => s.writeWord m R.BA_WSEL_commit.a v)

/-- WEIGHT_DIGEST_DONE (R143): The recomputation of a weight set's digest completes, clearing dig_busy and, on a match, the unverified mark. -/
def execWeightDigestDone (s : State) : Host.Outcome State Fault Refusal :=
  s.does (fun s => s.weightDigestReady)

/-- BEAM_CONFIG_COMMIT (R145): Writing BA_BCMT.commit validates the shadow beam configuration and binds it to a round, or refuses it. -/
def execBeamConfigCommit (m : Fin 20) (v : Word) (s : State) : Host.Outcome State Fault Refusal :=
  s.does (fun s => s.writeWord m R.BA_BCMT_commit.a (force v R.BA_BCMT_commit 1))

end Sys2Proof.Machine
end

