-- ==== Sys2Proof/Machine/CmdBoard.lean ====
section
/-! DEFINITION. The Board (R83 to R107). One definition for each command. -/

namespace Sys2Proof.Machine

/-- BOARD_ENABLE (R105): Writing BD_CTL.en = 1 moves the Board from IDLE to WAIT, or from HALTED to WAIT, or refuses with tbl_reason 7. -/
def execBoardEnable (m : Fin 20) (v : Word) (s : State) : Host.Outcome State Fault Refusal :=
  s.does (fun s => s.writeWord m R.BD_CTL_en.a (force v R.BD_CTL_en 1))

/-- BOARD_DISABLE (R98): Writing BD_CTL.en = 0 lets the Board finish the round in progress and go to IDLE. -/
def execBoardDisable (m : Fin 20) (v : Word) (s : State) : Host.Outcome State Fault Refusal :=
  s.does (fun s => s.writeWord m R.BD_CTL_en.a (force v R.BD_CTL_en 0))

/-- BOARD_HALT (R98): Writing BD_CTL.halt places a ply marker, stops the feeders, drains and reports unrun passes incomplete. -/
def execBoardHalt (m : Fin 20) (v : Word) (s : State) : Host.Outcome State Fault Refusal :=
  s.does (fun s => s.writeWord m R.BD_CTL_halt.a (force v R.BD_CTL_halt 1))

/-- DRAIN_REQUEST (R95): Writing BD_CTL.drain places an extra ply marker at the next sample boundary, or merges with one already due. -/
def execDrainRequest (m : Fin 20) (v : Word) (s : State) : Host.Outcome State Fault Refusal :=
  s.does (fun s => s.writeWord m R.BD_CTL_drain.a (force v R.BD_CTL_drain 1))

/-- BOARD_ROUND_START (R92): Once slab n has sealed, its plan is admitted and earlier passes are done, the Board issues pass 0 of round n. -/
def execBoardRoundStart (s : State) : Host.Outcome State Fault Refusal :=
  s.does (fun s => s.boardStart)

/-- PLY_MARKER_ISSUE (R94): The feeders place a ply marker between passes; the next pass, or a re-run, starts behind it, and pending remaps take effect. -/
def execPlyMarkerIssue (t : Nat) (s : State) : Host.Outcome State Fault Refusal :=
  s.does (fun s => s.placeMarker t)

/-- MARKER_RELEASE (R97): A marker held at a cell whose next bank is still draining proceeds once the drain finishes. -/
def execMarkerRelease (s : State) : Host.Outcome State Fault Refusal :=
  s.does (fun s => s.markerRelease)

/-- FEEDER_WAIT_END (R100): The array, stopped because a feeder had no sample, resumes when every feeder can issue. -/
def execFeederWaitEnd (s : State) : Host.Outcome State Fault Refusal :=
  s.does (fun s => s.feederWait)

/-- PASS_END (R101): The ply marker of a pass leaves the last cell, and the closed ply enters the drain path. -/
def execPassEnd (rate minRate : Nat) (s : State) : Host.Outcome State Fault Refusal :=
  s.does (fun s => s.passEnd rate minRate)

/-- PLY_STATUS_FINAL (R187): The residuals of a ply are classified and the ply gets status pass, corrected, re-run or invalid, releasing its results to accumulation. -/
def execPlyStatusFinal (f : PlyFaults) (s : State) : Host.Outcome State Fault Refusal :=
  s.does (fun s => s.plyFinal f)

/-- DRAIN_COMPLETE (R96): A marker has left the last cell and the last drain write of its ply is acknowledged. -/
def execDrainComplete (s : State) : Host.Outcome State Fault Refusal :=
  s.does (fun s => s.drainDone.joinCheck)

/-- PAIRING_TABLE_COMMIT (R104): Writing BD_PTCMT.commit validates the shadow pairing table and binds it to a round, or refuses it. -/
def execPairingTableCommit (m : Fin 20) (v : Word) (s : State) : Host.Outcome State Fault Refusal :=
  s.does (fun s => s.writeWord m R.BD_PTCMT_commit.a (force v R.BD_PTCMT_commit 1))

/-- REMAP_WRITE (R103): A write of out in BD_RMAP or BD_FMAP becomes pending until the next ply marker. -/
def execRemapWrite (m : Fin 20) (x : Fin 24) (v : Word) (s : State) : Host.Outcome State Fault Refusal :=
  s.does (fun s => s.writeWord m (lineOut x).a v)

end Sys2Proof.Machine
end

