-- ==== Sys2Proof/Machine/CmdCastling.lean ====
section
/-! DEFINITION. Paired operation (R198 to R224). One definition for each command. -/

namespace Sys2Proof.Machine

/-- LEASE_RECEIVE (R206): A LEASE message renews the lease, acknowledges it, or raises H and fences a unit with a lower claim. -/
def execLeaseReceive (message : Bytes) (serial : BitVec 64) (s : State) : Host.Outcome State Fault Refusal :=
  s.does (fun s => (s.castArrive 1 message (some serial.toNat)).handCheck)

/-- ACK_RECEIVE (R201): An ACK message counts as an acknowledgment of the active's lease. -/
def execAckReceive (message : Bytes) (s : State) : Host.Outcome State Fault Refusal :=
  s.does (fun s => (s.castArrive 2 message none).handCheck)

/-- WMARK_RECEIVE (R215): A WMARK message updates the peer's watermarks, letting the standby discard covered shadow frames. -/
def execWmarkReceive (message : Bytes) (s : State) : Host.Outcome State Fault Refusal :=
  s.does (fun s => s.castArrive 3 message none)

/-- DIGEST_RECEIVE (R214): A DIGEST message's digests are compared with the unit's own, and a mismatch makes a standby unsynchronised. -/
def execDigestReceive (message : Bytes) (s : State) : Host.Outcome State Fault Refusal :=
  s.does (fun s => s.castArrive 4 message none)

/-- PLAN_RECEIVE (R210): A PLAN message admits the active's plan on the standby, or carries the peer's allowance report. -/
def execPlanReceive (message : Bytes) (s : State) : Host.Outcome State Fault Refusal :=
  s.does (fun s => s.castArrive 5 message none)

/-- SPAN_RECEIVE (R211): A SPAN message gives the peer's arrival bitmaps; the unit requests missing slots in RPRQ messages. -/
def execSpanReceive (message : Bytes) (s : State) : Host.Outcome State Fault Refusal :=
  s.does (fun s => s.castArrive 6 message none)

/-- RPRQ_RECEIVE (R80): An RPRQ message lists slots the peer lacks; the unit sends an RPKT for each slot it holds. -/
def execRprqReceive (message : Bytes) (s : State) : Host.Outcome State Fault Refusal :=
  s.does (fun s => s.castArrive 7 message none)

/-- RPKT_RECEIVE (R80): An RPKT message carries a placed sample packet, which is checked and placed while its granule is open. -/
def execRpktReceive (message : Bytes) (s : State) : Host.Outcome State Fault Refusal :=
  s.does (fun s => s.castArrive 8 message none)

/-- JOIN_RECEIVE (R220): The active checks a JOIN against its own configuration and answers with JRES. -/
def execJoinReceive (message : Bytes) (serial : BitVec 64) (s : State) : Host.Outcome State Fault Refusal :=
  s.does (fun s => s.castArrive 9 message (some serial.toNat))

/-- JRES_RECEIVE (R220): A JRES message accepts or refuses the unit's join and sets jreason. -/
def execJresReceive (message : Bytes) (s : State) : Host.Outcome State Fault Refusal :=
  s.does (fun s => s.castArrive 10 message none)

/-- FREEZE_RECEIVE (R79): A FREEZE message from the active is applied as a freeze command with tgt = 1 for the named round. -/
def execFreezeReceive (message : Bytes) (s : State) : Host.Outcome State Fault Refusal :=
  s.does (fun s => s.castArrive 11 message none)

/-- LEASE_PIN_TRANSITION (R200): A transition on LEASE_IN is a renewal or acknowledgment, or with a second within 1 µs a resignation; a non-active unit mirrors it. -/
def execLeasePinTransition (gap : Nat) (s : State) : Host.Outcome State Fault Refusal :=
  s.does (fun s => s.pinEdge gap)

/-- LEASE_RENEWAL (R201): Every lease_us/10 the active sends a LEASE message and a pin transition at once. -/
def execLeaseRenewal (s : State) : Host.Outcome State Fault Refusal :=
  s.does (fun s => s.leaseRenew)

/-- WMARK_SEND (R215): Every 10 µs, and at resignation, the active sends its watermark for every stream. -/
def execWmarkSend (s : State) : Host.Outcome State Fault Refusal :=
  s.does (fun s => s.wmarkSend)

/-- DIGEST_SEND (R214): Within 20 µs of forming a frame's digest, the unit sends it in a DIGEST message. -/
def execDigestSend (s : State) : Host.Outcome State Fault Refusal :=
  s.does (fun s => s.digestSend)

/-- LEASE_EXPIRY (R202): No renewal arrives for lease_us; a synchronised standby starts its guard before taking the lease. -/
def execLeaseExpiry (s : State) : Host.Outcome State Fault Refusal :=
  s.does (fun s => s.leaseExpire)

/-- GUARD_EXPIRY (R202): The guard ends; the standby takes the lease with C := H + 1 and starts sending its held frames. -/
def execGuardExpiry (s : State) : Host.Outcome State Fault Refusal :=
  s.does (fun s => s.guardExpire)

/-- ACK_TIMEOUT (R203): No acknowledgment arrives for lease_us; an active without sole fences within 1 µs. -/
def execAckTimeout (s : State) : Host.Outcome State Fault Refusal :=
  s.does (fun s => s.ackExpire)

/-- CST_LINK_TIMEOUT (R204): The castling link has been down for lease_us; a synchronised standby becomes unsynchronised. -/
def execCstLinkTimeout (s : State) : Host.Outcome State Fault Refusal :=
  s.does (fun s => s.linkExpire)

/-- PLAN_TIMEOUT (R210): No PLAN for round n arrives by the seal plus 100 µs; the standby becomes unsynchronised and admits its own plan. -/
def execPlanTimeout (n : Nat) (s : State) : Host.Outcome State Fault Refusal :=
  s.does (fun s => s.planExpire n)

/-- CASTLING_ENABLE (R209): Writing CS_CTL.en = 1 takes the lease as sole unit or sends JOIN, as take selects. -/
def execCastlingEnable (m : Fin 20) (v : Word) (s : State) : Host.Outcome State Fault Refusal :=
  s.does (fun s => s.writeWord m R.CS_CTL_en.a (force v R.CS_CTL_en 1))

/-- CASTLING_DISABLE (R209): Writing CS_CTL.en = 0 stops castling messages and makes the unit UNPAIRED, refused while ACTIVE. -/
def execCastlingDisable (m : Fin 20) (v : Word) (s : State) : Host.Outcome State Fault Refusal :=
  s.does (fun s => s.writeWord m R.CS_CTL_en.a (force v R.CS_CTL_en 0))

/-- RESIGN (R219): CS_CMD op 1 makes the active stop payload, send a final WMARK and resign by message and pins. -/
def execCastResign (m : Fin 20) (s : State) : Host.Outcome State Fault Refusal :=
  s.does (fun s => s.writeWord m R.CS_CMD_op.a 1)

/-- TAKE_AS_SOLE (R209): CS_CMD op 2 makes the unit take the lease as sole unit. -/
def execTakeAsSole (m : Fin 20) (s : State) : Host.Outcome State Fault Refusal :=
  s.does (fun s => s.writeWord m R.CS_CMD_op.a 2)

/-- LEAVE (R209): CS_CMD op 3 stops castling and makes a non-active unit UNPAIRED. -/
def execCastLeave (m : Fin 20) (s : State) : Host.Outcome State Fault Refusal :=
  s.does (fun s => s.writeWord m R.CS_CMD_op.a 3)

/-- JOIN (R220): CS_CMD op 4 sends a JOIN to the active. -/
def execCastJoin (m : Fin 20) (s : State) : Host.Outcome State Fault Refusal :=
  s.does (fun s => s.writeWord m R.CS_CMD_op.a 4)

/-- HAND_OVER (R224): CS_CMD op 5 starts a handover at round CS_HOTGT to a prepared peer and enters HANDING. -/
def execHandOver (m : Fin 20) (s : State) : Host.Outcome State Fault Refusal :=
  s.does (fun s => s.writeWord m R.CS_CMD_op.a 5)

/-- LEASE_WAIT_EXPIRY (R209): lease_us after CS_CTL.en is written 1 with take = 1 and no LEASE received, the unit takes the lease as sole unit and becomes ACTIVE. -/
def execLeaseWaitExpiry (s : State) : Host.Outcome State Fault Refusal :=
  s.does (fun s => s.waitExpire)

end Sys2Proof.Machine
end

