-- ==== Sys2Proof/Machine/CmdConfig.lean ====
section
/-! DEFINITION. Configuration bitstreams, keys and the repair log (R359 to R377). One definition for each command. -/

namespace Sys2Proof.Machine

/-- CONTAINER_WRITE (R366): Mailbox op 0x0020 writes a container into a slot and verifies it. -/
def execContainerWrite (s : State) : Host.Outcome State Fault Refusal :=
  s.does (fun s => s.containerWrite)

/-- CONTAINER_VERIFY (R363): Mailbox op 0x0021 verifies a slot's container again. -/
def execContainerVerify (s : State) : Host.Outcome State Fault Refusal :=
  s.does (fun s => s.containerVerify)

/-- SLOT_EMPTY (R366): Mailbox op 0x0022 marks a slot EMPTY, refused for a slot in use. -/
def execSlotEmpty (s : State) : Host.Outcome State Fault Refusal :=
  s.does (fun s => s.slotEmpty)

/-- FULL_LOAD (R367): Mailbox op 0x0023 starts a full load of a container when the unit is quiesced and unpaired. -/
def execFullLoad (s : State) : Host.Outcome State Fault Refusal :=
  s.does (fun s => s.fullLoad)

/-- FULL_LOAD_COMPLETE (R367): A full load completes or fails, setting the configuration state, epoch, hash and load record. -/
def execFullLoadComplete (ok : Bool) (s : State) : Host.Outcome State Fault Refusal :=
  s.does (fun s => s.fullLoadDone ok)

/-- REGION_LOAD (R369): Mailbox op 0x0024 validates a region container and binds its load to a round boundary. -/
def execRegionLoad (s : State) : Host.Outcome State Fault Refusal :=
  s.does (fun s => s.regionLoad)

/-- REGION_LOAD_APPLY (R371): At its instant the bound region load starts and the region becomes unavailable. -/
def execRegionLoadApply (s : State) : Host.Outcome State Fault Refusal :=
  s.does (fun s => s.regionApply)

/-- REGION_LOAD_COMPLETE (R373): A region load completes, updating epoch and hash, or fails and restores the previous image. -/
def execRegionLoadComplete (ok : Bool) (s : State) : Host.Outcome State Fault Refusal :=
  s.does (fun s => s.regionComplete ok)

/-- SLOT_MARK_GOOD (R366): Mailbox op 0x0025 marks a VERIFIED slot GOOD. -/
def execSlotMarkGood (s : State) : Host.Outcome State Fault Refusal :=
  s.does (fun s => s.slotMarkGood)

/-- KEY_PROGRAM (R363): Mailbox op 0x0026 with tgt 0 programs a public key once. -/
def execKeyProgram (s : State) : Host.Outcome State Fault Refusal :=
  s.does (fun s => s.keyProgram)

/-- KEY_REVOKE (R363): Mailbox op 0x0026 with tgt 1 revokes a key. -/
def execKeyRevoke (s : State) : Host.Outcome State Fault Refusal :=
  s.does (fun s => s.keyRevoke)

/-- REPAIR_CLEAR (R377): Mailbox op 0x0027 clears a repair in the maintenance state and logs it. -/
def execRepairClear (s : State) : Host.Outcome State Fault Refusal :=
  s.does (fun s => s.repairClear)

/-- REPAIR_LOG_APPEND (R375): The Arbiter appends a repair-log record and reads it back, writing a checkpoint when due. -/
def execRepairLogAppend (bad : Nat) (s : State) : Host.Outcome State Fault Refusal :=
  s.does (fun s => s.logAppend bad)

end Sys2Proof.Machine
end

