-- ==== Sys2Proof/Machine/CmdElectrical.lean ====
section
/-! DEFINITION. VIN, the rails, temperature, SMBus and the test access port (R392 to R403). One definition for each command. -/

namespace Sys2Proof.Machine

/-- VIN_LOW (R392): VIN stays below 10.7 V for 100 µs; vin_low is set and a health record raised. -/
def execVinLow (mv cma : Nat) (s : State) : Host.Outcome State Fault Refusal :=
  .next (s.vinLow mv cma)

/-- VIN_RECOVER (R392): VIN stays at or above 10.8 V for 100 µs and vin_low clears. -/
def execVinRecover (mv cma : Nat) (s : State) : Host.Outcome State Fault Refusal :=
  .next (s.vinBack mv cma)

/-- OVERVOLTAGE (R392): VIN stays above 13.8 V for 10 µs and the device enters SHUTDOWN. -/
def execOvervoltage (mv cma : Nat) (s : State) : Host.Outcome State Fault Refusal :=
  .next (s.vinOver mv cma)

/-- REGULATOR_EXCURSION (R395): A rail stays outside its limit for 10 µs and the device enters SHUTDOWN. -/
def execRegulatorExcursion (rail : Fin 5) (mv amps : Nat) (s : State) : Host.Outcome State Fault Refusal :=
  .next (s.railExcursion rail mv amps)

/-- THERMAL_SENSOR_UPDATE (R406): Every 100 µs the core junction sensors update and the hottest drives the thermal reactions. -/
def execThermalSensorUpdate (temps : List Int) (s : State) : Host.Outcome State Fault Refusal :=
  .next (s.thermalUpdate temps)

/-- SMBUS_SET_OFFSET (R401): SMBus command 0x01 sets the CSR offset. -/
def execSmbusSetOffset (pec : Bool) (data : Bytes) (s : State) : Host.Outcome State Fault Refusal :=
  .next (s.smbSet pec data)

/-- SMBUS_READ (R401): SMBus command 0x02 reads the register at the offset if allowed and advances it. -/
def execSmbusRead (pec : Bool) (s : State) : Host.Outcome State Fault Refusal :=
  .next (s.smbRead pec)

/-- SMBUS_WRITE (R401): SMBus command 0x03 writes the register at the offset if allowed and advances it. -/
def execSmbusWrite (pec : Bool) (data : Bytes) (s : State) : Host.Outcome State Fault Refusal :=
  .next (s.smbWrite pec data)

/-- SMBUS_WAKE (R401): SMBus command 0x10 wakes the device from Adjournment. -/
def execSmbusWake (pec : Bool) (w : Wake) (s : State) : Host.Outcome State Fault Refusal :=
  .next (s.smbWake pec w)

/-- SMBUS_FIRMWARE_APPEND (R401): SMBus command 0x11 appends to the replacement firmware image while fw_fail is set. -/
def execSmbusFirmwareAppend (pec : Bool) (data : Bytes) (verified : Option Word) (s : State) : Host.Outcome State Fault Refusal :=
  .next (s.smbFirmware pec data verified)

/-- SMBUS_ALERT_RESPONSE (R401): A read of the Alert Response Address releases SMB_ALERT_N. -/
def execSmbusAlertResponse (s : State) : Host.Outcome State Fault Refusal :=
  .next (s.smbAlertAnswer)

/-- BYPASS (R403): JTAG BYPASS selects the bypass register. -/
def execJtagBypass (s : State) : Host.Outcome State Fault Refusal :=
  .next (s.jtagBypass)

/-- IDCODE (R403): JTAG IDCODE selects the identification register. -/
def execJtagIdcode (s : State) : Host.Outcome State Fault Refusal :=
  .next (s.jtagLoad .idcode "IDCODE" idcode)

/-- SAMPLE_PRELOAD (R403): JTAG SAMPLE/PRELOAD samples and preloads the boundary register. -/
def execJtagSamplePreload (pins preload : Nat) (s : State) : Host.Outcome State Fault Refusal :=
  .next (s.jtagSample pins preload)

/-- EXTEST (R403): JTAG EXTEST drives the boundary register while RESET_N is low, otherwise acts as BYPASS. -/
def execJtagExtest (pins preload : Nat) (s : State) : Host.Outcome State Fault Refusal :=
  .next (s.jtagTest .extest pins preload)

/-- EXTEST_PULSE (R403): JTAG EXTEST_PULSE tests AC lanes while RESET_N is low, otherwise acts as BYPASS. -/
def execJtagExtestPulse (pins preload : Nat) (s : State) : Host.Outcome State Fault Refusal :=
  .next (s.jtagTest .extestPulse pins preload)

/-- EXTEST_TRAIN (R403): JTAG EXTEST_TRAIN tests AC lanes with trains while RESET_N is low, otherwise acts as BYPASS. -/
def execJtagExtestTrain (pins preload : Nat) (s : State) : Host.Outcome State Fault Refusal :=
  .next (s.jtagTest .extestTrain pins preload)

/-- HIGHZ (R403): JTAG HIGHZ floats outputs while RESET_N is low, otherwise acts as BYPASS. -/
def execJtagHighz (s : State) : Host.Outcome State Fault Refusal :=
  .next (s.jtagHold .highz)

/-- CLAMP (R403): JTAG CLAMP holds outputs from the boundary register while RESET_N is low, otherwise acts as BYPASS. -/
def execJtagClamp (s : State) : Host.Outcome State Fault Refusal :=
  .next (s.jtagHold .clamp)

/-- TEST_LOGIC_RESET (R403): TRST_N low holds the test access port in Test-Logic-Reset. -/
def execTestLogicReset (s : State) : Host.Outcome State Fault Refusal :=
  .next (s.jtagReset)

end Sys2Proof.Machine
end

