-- ==== Sys2Proof/Machine/CmdEnergy.lean ====
section
/-! DEFINITION. The Chess Clock, Endgame and core temperature (R263 to R277, R406). One definition for each command. -/

namespace Sys2Proof.Machine

/-- PLAN_ADMISSION (R270): The Chess Clock updates trims, predicts energy and rate, and admits the highest level that fits the allowance for round n. -/
def execPlanAdmission (n : Nat) (s : State) : Host.Outcome State Fault Refusal :=
  s.does (fun s => s.planAdmit n)

/-- ENERGY_COUNT_UPDATE (R263): Every 10 µs each region's energy counter adds its weighted event counts. -/
def execEnergyCountUpdate (bd ba : Nat) (rest rails : List Nat) (s : State) : Host.Outcome State Fault Refusal :=
  s.does (fun s => s.energyUpdate bd ba rest rails)

/-- PACE_CHECK (R272): Every 1 ms the steps completed are compared with the work due and the core point is raised when behind. -/
def execPaceCheck (steps : Nat) (s : State) : Host.Outcome State Fault Refusal :=
  s.does (fun s => s.paceCheck steps)

/-- VOLTAGE_POINT_SETTLE (R265): A change of core voltage point settles within 20 µs. -/
def execVoltagePointSettle (s : State) : Host.Outcome State Fault Refusal :=
  s.does (fun s => s.settlePoint)

/-- ENDGAME_REQUEST (R275): Writing CK_CTL.eg_req binds a host Endgame request to a round boundary, or refuses it. -/
def execEndgameRequest (m : Fin 20) (v : Word) (s : State) : Host.Outcome State Fault Refusal :=
  s.does (fun s => s.writeWord m R.CK_CTL_eg_req.a (force v R.CK_CTL_eg_req 1))

/-- ENDGAME_CLEAR (R275): Writing CK_CTL.eg_clr binds the clearing of Endgame cause 0 to a round boundary, or refuses it. -/
def execEndgameClear (m : Fin 20) (v : Word) (s : State) : Host.Outcome State Fault Refusal :=
  s.does (fun s => s.writeWord m R.CK_CTL_eg_clr.a (force v R.CK_CTL_eg_clr 1))

/-- ENDGAME_ENTRY (R277): The device enters Endgame: arrays halt, slabs stop, integrations void, HBM self-refreshes and the core drops to point 0. -/
def execEndgameEntry (s : State) : Host.Outcome State Fault Refusal :=
  s.does (fun s => s.endgameEnter)

/-- ENDGAME_EXIT (R277): No Endgame cause remains; the stacks leave self-refresh and work resumes with the next round. -/
def execEndgameExit (s : State) : Host.Outcome State Fault Refusal :=
  s.does (fun s => s.endgameLeave)

/-- THERMAL_CAUSE_CLEAR (R275): Tj has stayed below thr_c minus 3 °C for 1 s and Endgame cause 2 clears. -/
def execThermalCauseClear (s : State) : Host.Outcome State Fault Refusal :=
  s.does (fun s => s.thermalClear)

end Sys2Proof.Machine
end

