-- ==== Sys2Proof/Machine/CmdEvents.lean ====
section
/-! DEFINITION. The event fabric (R311 to R322). One definition for each command. -/

namespace Sys2Proof.Machine

/-- HOST_EVENT (R311): A write of EV_HOSTEV or a host-event doorbell fires producer E032 + i. -/
def execHostEvent (m : Fin 20) (i : Fin 16) (s : State) : Host.Outcome State Fault Refusal :=
  s.does (fun s => s.writeWord m R.EV_HOSTEV_fire.a (BitVec.ofNat 32 (2 ^ i.val)))

/-- EVENT_DELIVERY (R313): A fired event enters its channels and is delivered to a task input or group change, or dropped. -/
def execEventDelivery (more : Nat) (s : State) : Host.Outcome State Fault Refusal :=
  s.does (fun s => s.deliverEvents more)

/-- TASK_EXECUTE (R319): A task input takes one pending event and performs its action. -/
def execTaskExecute (t : Fin 96) (fine : Nat) (s : State) : Host.Outcome State Fault Refusal :=
  s.does (fun s => s.taskExecute t fine)

/-- EVIO_EDGE (R321): A filtered selected edge on an EVIO input fires its producer. -/
def execEvioEdge (p : Fin 16) (rise : Bool) (held : Nat) (s : State) : Host.Outcome State Fault Refusal :=
  s.does (fun s => s.evioEdge p rise held)

/-- EVIO_PULSE_END (R321): An EVIO output pulse falls width ns after its last execution. -/
def execEvioPulseEnd (p : Fin 16) (s : State) : Host.Outcome State Fault Refusal :=
  s.does (fun s => s.evioPulseEnd p)

/-- CHANNEL_CONFIG_WRITE (R313): A write to EV_CHCFGc by the channel's owner sets the channel, refusing dkind 3 or a bad destination. -/
def execChannelConfigWrite (m : Fin 20) (c : Fin 128) (v : Word) (s : State) : Host.Outcome State Fault Refusal :=
  s.does (fun s => s.writeWord m (R.EV_CHCFG c) v)

/-- CHANNEL_OWNER_WRITE (R316): The Arbiter's write to EV_CHOWNc sets owner and security, discarded while the channel is enabled. -/
def execChannelOwnerWrite (m : Fin 20) (c : Fin 128) (v : Word) (s : State) : Host.Outcome State Fault Refusal :=
  s.does (fun s => s.writeWord m (R.EV_CHOWN c) v)

end Sys2Proof.Machine
end

