-- ==== Sys2Proof/Machine/CmdFabric.lean ====
section
/-! DEFINITION. The crossbar, PCIe, the DMA engine and the Arbiter mailbox (R295 to R310). One definition for each command. -/

namespace Sys2Proof.Machine

/-- CROSSBAR_BURST (R301): A master's burst is granted on a target port and completes, or is refused with an error response and a violation kind. -/
def execCrossbarBurst (m : Fin 20) (ch : Fin 8) (a : BitVec 40) (b : XbBurst) (s : State) : Host.Outcome State Fault Refusal :=
  s.does (fun s => s.burst m ch a.toNat b.op b.ecc)

/-- MASTER_RESET (R303): A master's reset asserts; its bursts are finished or drained on its behalf and its port quiesces. -/
def execMasterReset (m : Fin 20) (lead : List XbLead) (bursts : Nat) (s : State) : Host.Outcome State Fault Refusal :=
  s.does (fun s => s.resetMaster m lead bursts)

/-- DMA_GO (R304): XB_DMACTLc.go or the channel's doorbell starts an idle DMA channel or sets its pending mark. -/
def execDmaGo (m : Fin 20) (c : Fin 8) (v : Word) (s : State) : Host.Outcome State Fault Refusal :=
  s.does (fun s => s.writeWord m (R.XB_DMACTL_go c).a (force v (R.XB_DMACTL_go c) 1))

/-- DMA_ABORT (R304): XB_DMACTLc.abort finishes bursts in flight and stops the channel as aborted. -/
def execDmaAbort (m : Fin 20) (c : Fin 8) (v : Word) (s : State) : Host.Outcome State Fault Refusal :=
  s.does (fun s => s.writeWord m (R.XB_DMACTL_abort c).a (force v (R.XB_DMACTL_abort c) 1))

/-- DMA_DESCRIPTOR_COMPLETE (R304): A DMA descriptor's copy completes; status is written back and the next descriptor is read or the chain ends. -/
def execDmaDescriptorComplete (c : Fin 8) (hostData : Bytes) (x : DmaErrors) (s : State) : Host.Outcome State Fault Refusal :=
  s.does (fun s => s.dmaStep c hostData x.host x.ecc)

/-- PE_WIN_WRITE (R306): A write to PE_WIN moves the BAR2 window, discarded when misaligned or beyond the HBM capacity. -/
def execPeWinWrite (m : Fin 20) (v : BitVec 64) (s : State) : Host.Outcome State Fault Refusal :=
  s.does (fun s => s.writePair m R.PE_WIN v)

/-- PCIE_REQUEST (R307): A PCIe request to a BAR is translated to a crossbar access, with error responses returned as completer abort. -/
def execPcieRequest (bar : PcieBar) (offset : BitVec 36) (op : XbOp) (s : State) : Host.Outcome State Fault Refusal :=
  s.does (fun s => s.pcieRequest bar offset.toNat op)

/-- MAILBOX_DOORBELL (R310): A mailbox doorbell queues a slot's request for the Arbiter, ignored when the slot is busy. -/
def execMailboxDoorbell (m : Fin 20) (v : Word) (s : State) : Host.Outcome State Fault Refusal :=
  s.does (fun s => s.writeWord m R.XB_MBXDB_slot.a v)

/-- MAILBOX_ECHO (R310): Mailbox op 0x0001 returns the request payload. -/
def execMailboxEcho (s : State) : Host.Outcome State Fault Refusal :=
  s.does (fun s => s.mbxEcho)

/-- FIRMWARE_VERSION (R310): Mailbox op 0x0002 returns the firmware version. -/
def execFirmwareVersion (s : State) : Host.Outcome State Fault Refusal :=
  s.does (fun s => s.mbxVersion)

/-- BOARD_LINE_REPAIR_REQUEST (R193): Mailbox op 0x0010 asks the Arbiter to repair a Board line. -/
def execBoardLineRepairRequest (s : State) : Host.Outcome State Fault Refusal :=
  s.does (fun s => s.lineRequest)

/-- HBM_ROW_SPARE_REQUEST (R292): Mailbox op 0x0011 asks the Arbiter to spare an HBM row. -/
def execHbmRowSpareRequest (s : State) : Host.Outcome State Fault Refusal :=
  s.does (fun s => s.rowRequest)

end Sys2Proof.Machine
end

