-- ==== Sys2Proof/Machine/CmdGroups.lean ====
section
/-! DEFINITION. Accumulation groups and the Pair Map (R108 to R132). One definition for each command. -/

namespace Sys2Proof.Machine

/-- GROUP_OPEN (R121): AG_CMD op OPEN checks the group's definition and resources and arms the group at its start round, or refuses with a reason. -/
def execGroupOpen (m : Fin 20) (v : Word) (s : State) : Host.Outcome State Fault Refusal :=
  s.does (fun s => s.writeWord m R.AG_CMD_op.a (force v R.AG_CMD_op 1))

/-- GROUP_CLOSE (R122): AG_CMD op CLOSE binds the end of the integration in progress to a round. -/
def execGroupClose (m : Fin 20) (v : Word) (s : State) : Host.Outcome State Fault Refusal :=
  s.does (fun s => s.writeWord m R.AG_CMD_op.a (force v R.AG_CMD_op 2))

/-- GROUP_ABORT (R122): AG_CMD op ABORT binds the discard of the integration in progress to a round. -/
def execGroupAbort (m : Fin 20) (v : Word) (s : State) : Host.Outcome State Fault Refusal :=
  s.does (fun s => s.writeWord m R.AG_CMD_op.a (force v R.AG_CMD_op 3))

/-- PAIR_MAP_COMMIT (R111): Writing AG_PMCMT.commit validates the journal and binds it to a round, or refuses it with a reason. -/
def execPairMapCommit (m : Fin 20) (v : Word) (s : State) : Host.Outcome State Fault Refusal :=
  s.does (fun s => s.writeWord m R.AG_PMCMT_commit.a (force v R.AG_PMCMT_commit 1))

/-- PAIR_MAP_APPLY (R112): Between the last lookup of round b-1 and the first of round b the device applies the bound journal and records taints. -/
def execPairMapApply (s : State) : Host.Outcome State Fault Refusal :=
  s.does (fun s => s.pmApply)

/-- PAIR_MAP_DIRECT_WRITE (R110): A write to the Pair Map through T2 takes effect in direct mode and completes with an error response in journal mode. -/
def execPairMapDirectWrite (m : Fin 20) (row col : Fin 4096) (x : BitVec 16) (s : State) : Host.Outcome State Fault Refusal :=
  s.does (fun s => s.burst m 0 (0x6000000000 + 2 * (row.val * 4096 + col.val)) (.write ((leBytes 2 x.toNat).map some)) false)

/-- PAIR_MAP_DIGEST_DONE (R113): The recomputation of the Pair Map digest completes and AG_PMDIG and dig_busy are updated. -/
def execPairMapDigestDone (s : State) : Host.Outcome State Fault Refusal :=
  s.does (fun s => s.pmDigestReady)

end Sys2Proof.Machine
end

