-- ==== Sys2Proof/Machine/CmdHbm.lean ====
section
/-! DEFINITION. The HBM subsystem (R278 to R294). One definition for each command. -/

namespace Sys2Proof.Machine

/-- HBM_REQUEST_SERVE (R281): At a channel's command opportunity the controller serves a ready request by class and promotion order. -/
def execHbmRequestServe (st : Fin 8) (c : Fin 32) (arrivals : List HbmArrival) (ready : List Nat) (sv : HbmService) (s : State) : Host.Outcome State Fault Refusal :=
  s.does (fun s => s.hbmServe st c arrivals ready sv)

/-- AGE_PROMOTION (R282): A request waiting longer than its class's age limit is promoted. -/
def execAgePromotion (st : Fin 8) (c : Fin 32) (s : State) : Host.Outcome State Fault Refusal :=
  s.does (fun s => s.agePromote st c)

/-- REFRESH_DUE (R284): A channel's tREFI elapses; it owes another interval and issues an all-bank refresh when the allowance is reached. -/
def execRefreshDue (st : Fin 8) (c : Fin 32) (paid : Bool) (s : State) : Host.Outcome State Fault Refusal :=
  s.does (fun s => s.refreshDue st c paid)

/-- HBM_TEMPERATURE_READ (R285): Every 100 µs a stack's temperature is read; a stack turning hot pays its owed refreshes at once. -/
def execHbmTemperatureRead (st : Fin 8) (temp : BitVec 8) (s : State) : Host.Outcome State Fault Refusal :=
  s.does (fun s => s.hbmTemp st temp.toNat)

/-- TRNG_HEALTH_FAIL (R288): The random generator fails its health test and neighbour refresh falls back to counters. -/
def execTrngHealthFail (s : State) : Host.Outcome State Fault Refusal :=
  s.does (fun s => s.trngFail)

/-- TRNG_RETRY (R288): Writing HM_CTL.trng_retry retests the generator and ends the fallback when it passes. -/
def execTrngRetry (m : Fin 20) (v : Word) (passes : Bool) (s : State) : Host.Outcome State Fault Refusal :=
  s.does (fun s => State.writeWord { s with hm := { s.hm with trngGood := passes } } m R.HM_CTL_trng_retry.a (force v R.HM_CTL_trng_retry 1))

/-- SCRUB_READ (R291): The scrubber reads a word and writes corrected data back unless a newer write intervened. -/
def execScrubRead (st : Fin 8) (c : Fin 32) (bank row pc col word pass : Nat) (outcome : Fin 3) (newer : Bool) (s : State) : Host.Outcome State Fault Refusal :=
  s.does (fun s => s.scrubRead st c bank row pc col word pass outcome newer)

/-- ROW_SPARE (R292): The Arbiter copies a failing row to a spare and remaps it. -/
def execRowSpare (st : Fin 8) (s : State) : Host.Outcome State Fault Refusal :=
  s.does (fun s => s.rowSpare st)

/-- ROW_COPY_COMPLETE (R292): A row copy to a spare completes and waiting requests to the row proceed. -/
def execRowCopyComplete (st : Fin 8) (s : State) : Host.Outcome State Fault Refusal :=
  s.does (fun s => s.rowCopied st)

/-- PHY_CENTRING (R293): Every 1 ms a controller repeats read and write centring on one channel. -/
def execPhyCentring (st : Fin 8) (c : Fin 32) (s : State) : Host.Outcome State Fault Refusal :=
  s.does (fun s => s.phyCentre st c)

/-- HBM_TRAINING_DONE (R293): Full training of a stack completes, or the stack is marked failed. -/
def execHbmTrainingDone (st : Fin 8) (ok : Bool) (s : State) : Host.Outcome State Fault Refusal :=
  s.does (fun s => s.trainingDone st ok)

/-- SELF_REFRESH_ENTRY_DONE (R294): Accepted requests complete, banks precharge and the stacks enter self-refresh with clocks stopped. -/
def execSelfRefreshEntryDone (s : State) : Host.Outcome State Fault Refusal :=
  s.does (fun s => s.selfRefreshIn)

/-- SELF_REFRESH_EXIT_DONE (R294): Clocks relock and the stacks leave self-refresh with short centring and postponement reset. -/
def execSelfRefreshExitDone (temps : List Nat) (s : State) : Host.Outcome State Fault Refusal :=
  s.does (fun s => s.selfRefreshOut temps)

end Sys2Proof.Machine
end

