-- ==== Sys2Proof/Machine/CmdIngest.lean ====
section
/-! DEFINITION. Uhlain ingest and the links (R28 to R57). One definition for each command. -/

namespace Sys2Proof.Machine

/-- SAMPLE_PACKET_RECEIVE (R50): A sample packet received whole on a Uhlain port passes the ordered receive checks and goes to alignment or is dropped and counted. -/
def execSamplePacketReceive (p : Fin 16) (packet : Bytes) (s : State) : Host.Outcome State Fault Refusal :=
  s.does (fun s => s.packetArrive p packet 0)

/-- TIMING_PACKET_RECEIVE (R43): A timing packet is time-stamped on arrival, latched into the port's timing snapshot and offered to a link reference. -/
def execTimingPacketReceive (p : Fin 16) (packet : Bytes) (ticks : Nat) (s : State) : Host.Outcome State Fault Refusal :=
  s.does (fun s => s.packetArrive p packet ticks)

/-- CONTROL_PACKET_RECEIVE (R45): A control packet is checked against credit; ECHO_REQ is answered and HOST_MSG is placed in the lowest free receive slot. -/
def execControlPacketReceive (p : Fin 16) (packet : Bytes) (s : State) : Host.Outcome State Fault Refusal :=
  s.does (fun s => s.packetArrive p packet 0)

/-- CLAIM_PACKET_RECEIVE (R46): A claim packet raises H_d of its domain when higher, or is counted stale, setting claim_conflict on an equal claim from another serial. -/
def execClaimPacketReceive (p : Fin 16) (packet : Bytes) (s : State) : Host.Outcome State Fault Refusal :=
  s.does (fun s => s.packetArrive p packet 0)

/-- STATUS_CELL_RECEIVE (R53): A status cell from the upstream updates its advertised credit limit and the port status record. -/
def execStatusCellReceive (p : Fin 17) (body : Bytes) (s : State) : Host.Outcome State Fault Refusal :=
  s.does (fun s => s.statusArrive p body)

/-- ALIGNMENT_CELL_RECEIVE (R33): An alignment cell on a lane is used for deskew and for checking that the lane's alignment cells are in place. -/
def execAlignmentCellReceive (p : Fin 17) (lane : Fin 4) (inPlace : Bool) (ns : Nat) (body : Bytes) (s : State) : Host.Outcome State Fault Refusal :=
  s.does (fun s => s.alignTake p lane inPlace ns body)

/-- PORT_ENABLE (R36): Writing IN_PORTCTLn.en = 1 starts training on the configured lanes and moves the port to TRAINING. -/
def execPortEnable (m : Fin 20) (p : Fin 17) (v : Word) (s : State) : Host.Outcome State Fault Refusal :=
  s.does (fun s => s.writeWord m (portField p R.IN_PORTCTL_en R.CS_PORTCTL_en).a (force v (portField p R.IN_PORTCTL_en R.CS_PORTCTL_en) 1))

/-- PORT_DISABLE (R36): Writing IN_PORTCTLn.en = 0 stops transmit at the next packet end, discards receive in progress and moves the port to DISABLED. -/
def execPortDisable (m : Fin 20) (p : Fin 17) (v : Word) (s : State) : Host.Outcome State Fault Refusal :=
  s.does (fun s => s.writeWord m (portField p R.IN_PORTCTL_en R.CS_PORTCTL_en).a (force v (portField p R.IN_PORTCTL_en R.CS_PORTCTL_en) 0))

/-- LANES_LOCKED (R36): All configured lanes lock within the training time, and the port begins deskew. -/
def execLanesLocked (p : Fin 17) (lanes : BitVec 4) (s : State) : Host.Outcome State Fault Refusal :=
  s.does (fun s => s.lanesLocked p lanes.toNat)

/-- TRAINING_TIMEOUT (R36): 100 ms elapse in TRAINING with a lane unlocked; train_timeout is set and training continues. -/
def execTrainingTimeout (p : Fin 17) (s : State) : Host.Outcome State Fault Refusal :=
  s.does (fun s => s.trainTimeout p)

/-- DESKEW_COMPLETE (R36): Alignment cells are found on all lanes; within the skew limit the port goes UP, otherwise back to TRAINING with skew_err. -/
def execDeskewComplete (p : Fin 17) (s : State) : Host.Outcome State Fault Refusal :=
  s.does (fun s => s.deskewDone p)

/-- DESKEW_TIMEOUT (R36): 10 ms pass in DESKEW without alignment cells on every lane; deskew_tmo is set and training restarts. -/
def execDeskewTimeout (p : Fin 17) (s : State) : Host.Outcome State Fault Refusal :=
  s.does (fun s => s.deskewTimeout p)

/-- PORT_LINK_LOSS (R36): An UP port loses lane lock or alignment cells, discards the packet in progress and goes to TRAINING or DOWN. -/
def execPortLinkLoss (p : Fin 17) (lanes : BitVec 4) (s : State) : Host.Outcome State Fault Refusal :=
  s.does (fun s => s.portLoss p lanes.toNat)

/-- STATUS_CELL_SEND (R53): The device sends a status cell every 4,096 cell slots and within 1 µs of a change of lanes_locked, state or credit limit. -/
def execStatusCellSend (p : Fin 17) (s : State) : Host.Outcome State Fault Refusal :=
  s.does (fun s => s.statusSend p)

/-- ALIGNMENT_CELL_SEND (R33): Every 16,384 cell slots the device sends an alignment cell on all configured lanes at once. -/
def execAlignmentCellSend (p : Fin 17) (s : State) : Host.Outcome State Fault Refusal :=
  s.does (fun s => s.alignSend p)

/-- CLAIM_PACKET_SEND (R54): The device sends its claim packet at each change of its claim number and every 10 ms. -/
def execClaimPacketSend (p : Fin 16) (s : State) : Host.Outcome State Fault Refusal :=
  s.does (fun s => s.claimSend p)

/-- TIMING_PACKET_SEND (R54): The device sends timing packets carrying its SC epoch at the rate of IN_CTL.tim_rate. -/
def execTimingPacketSend (p : Fin 16) (s : State) : Host.Outcome State Fault Refusal :=
  s.does (fun s => s.timingSend p)

/-- CONTROL_TX_QUEUE (R44): Writing a bit of IN_CTLTXn.send queues the transmit slot for sending as a control packet. -/
def execControlTxQueue (m : Fin 20) (p : Fin 16) (v : Word) (s : State) : Host.Outcome State Fault Refusal :=
  s.does (fun s => s.writeWord m (R.IN_CTLTX_send p).a v)

/-- CONTROL_PACKET_SEND (R44): A queued control packet leaves when credit allows, and the slot's send bit clears. -/
def execControlPacketSend (p : Fin 16) (s : State) : Host.Outcome State Fault Refusal :=
  s.does (fun s => s.controlSend p)

/-- CONTROL_SLOT_FREE (R44): Writing IN_CTLFREEn frees occupied receive slots and advances the advertised credit limit. -/
def execControlSlotFree (m : Fin 20) (p : Fin 16) (v : Word) (s : State) : Host.Outcome State Fault Refusal :=
  s.does (fun s => s.writeWord m (R.IN_CTLFREE_free p).a v)

/-- VOLTAGE_PACKET_SEND (R147): A voltage-beam sample packet is sent on an Uhlain transmit port once both rounds it covers are released. -/
def execVoltagePacketSend (p : Fin 16) (b : Nat) (s : State) : Host.Outcome State Fault Refusal :=
  s.does (fun s => (s.voltageSend p b).handCheck)

/-- STREAM_TABLE_COMMIT (R49): Writing IN_STRCMT.commit validates the shadow stream table and binds it to a round, or refuses it with a reason. -/
def execStreamTableCommit (m : Fin 20) (v : Word) (s : State) : Host.Outcome State Fault Refusal :=
  s.does (fun s => s.writeWord m R.IN_STRCMT_commit.a (force v R.IN_STRCMT_commit 1))

/-- CLAIM_DOMAIN_RESET (R46): Writing IN_DOMRST sets H_d of each named domain to 0, refused while a port of the domain is not DISABLED. -/
def execClaimDomainReset (m : Fin 20) (v : Word) (s : State) : Host.Outcome State Fault Refusal :=
  s.does (fun s => s.writeWord m R.IN_DOMRST_reset.a v)

/-- CODEWORD_RECEIVE (R30): An RS(544,514) codeword is decoded on a locked Uhlain or CST lane; it counts in cw_corr when corrected, or it counts in cw_uncorr and every cell that overlaps it is discarded. -/
def execCodewordReceive (p : Fin 17) (lane : Fin 4) (outcome : Fin 3) (overlap : Nat) (s : State) : Host.Outcome State Fault Refusal :=
  s.does (fun s => s.codeword p lane outcome overlap)

/-- CELL_RECEIVE (R35): A counted cell arrives that fails hcrc, breaks the seq order or has no packet in progress; the device discards it, or discards the packet in progress and resyncs at the next first or only cell, and counts it. -/
def execCellReceive (p : Fin 17) (lane : Fin 4) (cell : CellIn) (s : State) : Host.Outcome State Fault Refusal :=
  s.does (fun s => s.cellArrive p lane cell.bytes cell.ticks)

end Sys2Proof.Machine
end

