-- ==== Sys2Proof/Machine/CmdIntegrity.lean ====
section
/-! DEFINITION. Integrity, requested tests, health states and the Arbiter (R188 to R197). One definition for each command. -/

namespace Sys2Proof.Machine

/-- ADDER_MISMATCH (R191): A duplicated adder pair disagrees; the addition is repeated once, then marked invalid and the unit faulty on a second mismatch. -/
def execAdderMismatch (unit : Nat) (again : Bool) (site : AddSite) (s : State) : Host.Outcome State Fault Refusal :=
  s.does (fun s => s.adderMismatch unit again site)

/-- BOARD_TEST_REQUEST (R194): IG_TESTREQ op 1 starts an immediate Board test that rotates at every pass marker. -/
def execBoardTestRequest (m : Fin 20) (unit : BitVec 8) (s : State) : Host.Outcome State Fault Refusal :=
  s.does (fun s => s.writeWord m R.IG_TESTREQ_op.a (BitVec.ofNat 32 (unit.toNat * 256 + 1)))

/-- BEAM_TEST_REQUEST (R194): IG_TESTREQ op 2 runs the Beam Array known-vector test, refused in service. -/
def execBeamTestRequest (m : Fin 20) (unit : BitVec 8) (s : State) : Host.Outcome State Fault Refusal :=
  s.does (fun s => s.writeWord m R.IG_TESTREQ_op.a (BitVec.ofNat 32 (unit.toNat * 256 + 2)))

/-- HBM_RETRAIN_REQUEST (R194): IG_TESTREQ op 3 fully retrains an HBM stack, refused in service. -/
def execHbmRetrainRequest (m : Fin 20) (unit : BitVec 8) (s : State) : Host.Outcome State Fault Refusal :=
  s.does (fun s => s.writeWord m R.IG_TESTREQ_op.a (BitVec.ofNat 32 (unit.toNat * 256 + 3)))

/-- SERDES_RECALIBRATE_REQUEST (R194): IG_TESTREQ op 4 recalibrates every lane of a SerDes port, refused in service. -/
def execSerdesRecalibrateRequest (m : Fin 20) (unit : BitVec 8) (s : State) : Host.Outcome State Fault Refusal :=
  s.does (fun s => s.writeWord m R.IG_TESTREQ_op.a (BitVec.ofNat 32 (unit.toNat * 256 + 4)))

/-- LANE_CALIBRATE_REQUEST (R194): IG_TESTREQ op 5 calibrates a lane unused by its port's mode. -/
def execLaneCalibrateRequest (m : Fin 20) (unit : BitVec 8) (s : State) : Host.Outcome State Fault Refusal :=
  s.does (fun s => s.writeWord m R.IG_TESTREQ_op.a (BitVec.ofNat 32 (unit.toNat * 256 + 5)))

/-- TEST_COMPLETE (R194): A requested test or calibration completes and IG_TESTRES reports passed or failed. -/
def execTestComplete (passed : Bool) (s : State) : Host.Outcome State Fault Refusal :=
  s.does (fun s => s.testComplete passed)

/-- MAINTENANCE_REQUEST (R194): Writing IG_CTL.maint enters or leaves the maintenance state, refused unless the arrays are idle and the unit is not active. -/
def execMaintenanceRequest (m : Fin 20) (v : Word) (s : State) : Host.Outcome State Fault Refusal :=
  s.does (fun s => s.writeWord m R.IG_CTL_maint.a v)

/-- FAULT_CLEAR (R195): Writing IG_CTL.fclr = 1 leaves a fault Endgame when the cause has cleared and the timebase has relocked. -/
def execFaultClear (m : Fin 20) (v : Word) (s : State) : Host.Outcome State Fault Refusal :=
  s.does (fun s => s.writeWord m R.IG_CTL_fclr.a (force v R.IG_CTL_fclr 1))

/-- HEALTH_RECOVERY (R195): After 64 consecutive rounds without an impairing event the health state returns to NORMAL or DEGRADED. -/
def execHealthRecovery (s : State) : Host.Outcome State Fault Refusal :=
  s.does (fun s => s.healthRecover)

/-- ARBITER_LOCKSTEP_FAULT (R196): The Arbiter's two cores disagree; it is stopped and restarted from its firmware while the safety sequencer acts. -/
def execArbiterLockstepFault (s : State) : Host.Outcome State Fault Refusal :=
  s.does (fun s => s.arbiterStop)

/-- ARBITER_RESTART_DONE (R196): The Arbiter restart completes and the Arbiter resumes its duties. -/
def execArbiterRestartDone (s : State) : Host.Outcome State Fault Refusal :=
  s.does (fun s => s.arbiterBack)

/-- ARBITER_RESTART_TIMEOUT (R196): An Arbiter restart not complete within 100 ms leads to resignation and Endgame. -/
def execArbiterRestartTimeout (s : State) : Host.Outcome State Fault Refusal :=
  s.does (fun s => s.arbiterLost)

/-- COUNTER_DISAGREE (R247): The two time counter copies disagree; cnt_err is set, the counter becomes LOST and the device enters Endgame. -/
def execCounterDisagree (delta : Int) (s : State) : Host.Outcome State Fault Refusal :=
  s.does (fun s => s.counterDisagree delta)

end Sys2Proof.Machine
end

