-- ==== Sys2Proof/Machine/CmdOpening.lean ====
section
/-! DEFINITION. Opening, resets and Adjournment (R378 to R389, R396). One definition for each command. -/

namespace Sys2Proof.Machine

/-- POWER_ON (R378): VIN rises above 10.8 V after being below 10.0 V and Opening runs its steps to Ready. -/
def execPowerOn (o : Opening) (s : State) : Host.Outcome State Fault Refusal :=
  .next (s.powerOn o)

/-- POWER_LOSS (R392): VIN falls below 10.0 V and every rail turns off. -/
def execPowerLoss (s : State) : Host.Outcome State Fault Refusal :=
  .next (s.powerLoss)

/-- RESET_N_ASSERT (R383): RESET_N low for 1 µs resets everything outside the always-on domain and reruns Opening. -/
def execResetNAssert (o : Opening) (s : State) : Host.Outcome State Fault Refusal :=
  .next (s.resetN o)

/-- RESET_N_RELEASE (R396): RESET_N goes high and an Opening held at step 1 continues. -/
def execResetNRelease (s : State) : Host.Outcome State Fault Refusal :=
  .next (s.resetNRelease)

/-- PCIE_RESET (R383): PERST_N, hot reset or link down resets master M0 and the PCIe core. -/
def execPcieReset (perst : Bool) (link : PcieLink) (s : State) : Host.Outcome State Fault Refusal :=
  s.does (fun s => s.pcieReset perst link)

/-- FUNCTION_LEVEL_RESET (R383): A function-level reset resets as a PCIe reset and aborts the DMA channels. -/
def execFunctionLevelReset (s : State) : Host.Outcome State Fault Refusal :=
  s.does (fun s => s.functionReset)

/-- REGION_RESET (R384): Writing MG_RRST resets an idle region and reapplies its register records, or refuses. -/
def execRegionReset (m : Fin 20) (v : Word) (s : State) : Host.Outcome State Fault Refusal :=
  s.does (fun s => s.writeWord m R.MG_RRST_rst.a v)

/-- WATCHDOG_KICK (R385): Writing MG_WDOG.kick = 0x5A refreshes the Arbiter watchdog. -/
def execWatchdogKick (m : Fin 20) (v : Word) (s : State) : Host.Outcome State Fault Refusal :=
  s.does (fun s => s.writeWord m R.MG_WDOG_kick.a (force v R.MG_WDOG_kick 0x5A))

/-- WATCHDOG_EXPIRY (R385): The watchdog is not refreshed within its period and the Arbiter restarts. -/
def execWatchdogExpiry (s : State) : Host.Outcome State Fault Refusal :=
  s.does (fun s => if s.on R.MG_CTL_wd_en then s.arbiterStop else s)

/-- PAIR_MAP_CONFIRM (R389): Writing MG_CTL.pm_confirm clears pm_unv. -/
def execPairMapConfirm (m : Fin 20) (s : State) : Host.Outcome State Fault Refusal :=
  s.does (fun s => s.writeWord m R.MG_CTL_pm_confirm.a (BitVec.ofNat 32 (2 + s.rd R.MG_CTL_wd_en)))

/-- ADJOURNMENT (R386): Mailbox op 0x0030 enters Adjournment: resign, halt, self-refresh, save context and power down. -/
def execAdjournment (s : State) : Host.Outcome State Fault Refusal :=
  s.does (fun s => s.adjournment)

/-- RESET_REQUEST (R383): Mailbox op 0x0031 performs a RESET_N-equivalent reset after the response. -/
def execResetRequest (o : Opening) (s : State) : Host.Outcome State Fault Refusal :=
  s.does (fun s => s.resetRequest o)

/-- BOOT_PREF_SET (R380): Mailbox op 0x0032 sets the preferred boot slot to a GOOD slot. -/
def execBootPrefSet (s : State) : Host.Outcome State Fault Refusal :=
  s.does (fun s => s.bootPref)

/-- WATCHDOG_PERIOD_SET (R385): Mailbox op 0x0033 sets the watchdog period for secure requesters. -/
def execWatchdogPeriodSet (s : State) : Host.Outcome State Fault Refusal :=
  s.does (fun s => s.watchdogPeriod)

/-- WAKE_PIN (R388): WAKE_N low for 1 µs ends Adjournment and restores configuration and context to Ready. -/
def execWakePin (w : Wake) (s : State) : Host.Outcome State Fault Refusal :=
  .next (s.wake w)

/-- WAKE_TIME (R388): The counter reaches MG_WAKETIME with en set and Adjournment ends. -/
def execWakeTime (w : Wake) (s : State) : Host.Outcome State Fault Refusal :=
  .next (s.wakeAtTime w)

/-- PERST_N_RELEASE (R378): The release of PERST_N lets the PCIe endpoint begin link training within 20 ms, or after step 5 of Opening when that step comes later. -/
def execPerstNRelease (link : PcieLink) (s : State) : Host.Outcome State Fault Refusal :=
  .next (s.perstHigh link)

end Sys2Proof.Machine
end

