-- ==== Sys2Proof/Machine/CmdOutput.lean ====
section
/-! DEFINITION. Output frames and the Ethernet ports (R154 to R187). One definition for each command. -/

namespace Sys2Proof.Machine

/-- RELEASE_GATE_PASS (R178): An instance whose contributing work is final passes the release gate and its frames become sendable. -/
def execReleaseGatePass (typ : Fin 6) (s : State) : Host.Outcome State Fault Refusal :=
  s.does (fun s => (s.gatePass typ).handCheck)

/-- FRAME_SEND (R162): A port's scheduler sends the next frame by precedence and reserved rate, advancing the stream's watermark. -/
def execFrameSend (p : Fin 8) (first : Nat) (s : State) : Host.Outcome State Fault Refusal :=
  s.does (fun s => (s.frameSend p first).handCheck)

/-- HLT_REPORT (R176): The device sends an HLT instance every OT_HLT.period ms and within 100 µs of a health state change. -/
def execHltReport (s : State) : Host.Outcome State Fault Refusal :=
  s.does (fun s => s.hltReport)

/-- TIM_REPORT (R177): The device sends a TIM report at each second or tenth of a second and on a change of time quality or epoch. -/
def execTimReport (s : State) : Host.Outcome State Fault Refusal :=
  s.does (fun s => s.timReport)

/-- ETHERNET_FRAME_RECEIVE (R155): A received Ethernet frame is passed to IEEE 1588 when it is a PTP message, or discarded and counted. -/
def execEthernetFrameReceive (p : Fin 8) (fcsOk : Bool) (frame : Bytes) (ticks corr uncorr : Nat) (s : State) : Host.Outcome State Fault Refusal :=
  s.does (fun s => s.etherTake p fcsOk frame ticks corr uncorr)

/-- ETH_ALIGNMENT_LOSS (R155): An Ethernet port loses PCS alignment, records went_down and retrains without host action. -/
def execEthAlignmentLoss (p : Fin 8) (s : State) : Host.Outcome State Fault Refusal :=
  s.does (fun s => s.ethLost p)

/-- ETH_LINK_UP (R155): An Ethernet port completes training and enters the up state. -/
def execEthLinkUp (p : Fin 8) (s : State) : Host.Outcome State Fault Refusal :=
  s.does (fun s => s.ethRise p)

/-- ROUTE_WRITE (R161): A write to OT_RTCTL_r is checked against port, endpoint and grant rules and applied or refused. -/
def execRouteWrite (m : Fin 20) (r : Fin 256) (v : Word) (s : State) : Host.Outcome State Fault Refusal :=
  s.does (fun s => s.writeWord m (R.OT_RTCTL r) v)

/-- ENDPOINT_WRITE (R161): A write to an endpoint entry is applied only while no enabled route uses it. -/
def execEndpointWrite (m : Fin 20) (e : Fin 256) (w : Fin 8) (v : Word) (s : State) : Host.Outcome State Fault Refusal :=
  s.does (fun s => s.writeWord m (R.OT_EPCTL e + 4 * w.val) v)

/-- ETH_PORT_CONTROL_WRITE (R161): A write to ET_PORTCTLn.speed or en is refused while a route in use includes the port. -/
def execEthPortControlWrite (m : Fin 20) (p : Fin 8) (v : Word) (s : State) : Host.Outcome State Fault Refusal :=
  s.does (fun s => s.writeWord m (R.ET_PORTCTL p) v)

/-- SEQUENCE_SET (R167): A write to OT_SEQ_s sets a stream's next sequence number, refused when it would lower it. -/
def execSequenceSet (m : Fin 20) (st : Fin 200) (v : BitVec 64) (s : State) : Host.Outcome State Fault Refusal :=
  s.does (fun s => s.writePair m (R.OT_SEQ st) v)

end Sys2Proof.Machine
end

