-- ==== Sys2Proof/Machine/CmdRefs.lean ====
section
/-! DEFINITION. Reference selection and the DPLL (R225 to R245). One definition for each command. -/

namespace Sys2Proof.Machine

/-- REFERENCE_EDGE (R230): An event of a reference is checked by its monitor and fed to the phase detector unless anomalous. -/
def execReferenceEdge (r : Fin 8) (interval fine : Nat) (s : State) : Host.Outcome State Fault Refusal :=
  s.does (fun s => s.refEdge r interval fine)

/-- REFERENCE_EVENT_TIMEOUT (R230): An expected reference event does not arrive in time and counts as an anomaly or loss of signal. -/
def execReferenceEventTimeout (r : Fin 8) (s : State) : Host.Outcome State Fault Refusal :=
  s.does (fun s => s.refTimeout r)

/-- REFERENCE_QUALIFIED (R234): A reference has been anomaly-free for qual_s with the hard window met and becomes QUALIFIED. -/
def execReferenceQualified (r : Fin 8) (s : State) : Host.Outcome State Fault Refusal :=
  s.does (fun s => s.refQualified r)

/-- HARD_WINDOW_GATE (R233): At the end of each gate the reference's frequency is compared with XO_IN against the hard window. -/
def execHardWindowGate (r : Fin 8) (off : Int) (s : State) : Host.Outcome State Fault Refusal :=
  s.does (fun s => s.refGate r off)

/-- CROSS_COMPARISON_UPDATE (R241): Every second the references are compared; an outlier is disqualified or disagreeing references become SUSPECT. -/
def execCrossComparisonUpdate (short long : List Int) (s : State) : Host.Outcome State Fault Refusal :=
  s.does (fun s => s.crossCompare short long)

/-- REVERT_WAIT_EXPIRY (R237): A higher-ranked reference has been QUALIFIED for wait_s with revert on, and the device switches back to it. -/
def execRevertWaitExpiry (r : Fin 8) (s : State) : Host.Outcome State Fault Refusal :=
  s.does (fun s => s.refRevert r)

/-- DPLL_LOCK (R227): Frequency and time offset have held within limits for 10/bw seconds and the DPLL becomes locked. -/
def execDpllLock (s : State) : Host.Outcome State Fault Refusal :=
  s.does (fun s => s.dpllLock)

/-- SLEW_COMPLETE (R238): The DCO slew reaches a frequency offset below 1e-11 and the loop filter takes over. -/
def execSlewComplete (s : State) : Host.Outcome State Fault Refusal :=
  s.does (fun s => s.slewDone)

/-- XO_IN_LOST (R240): The ring oscillator sees XO_IN stop or leave tolerance; the timebase is lost and Endgame follows. -/
def execXoInLost (s : State) : Host.Outcome State Fault Refusal :=
  .next (s.xoGone)

/-- XO_IN_RETURN (R240): XO_IN returns; xo_lost clears, the DPLL restarts in free run and references requalify. -/
def execXoInReturn (s : State) : Host.Outcome State Fault Refusal :=
  .next (s.xoBack)

/-- REFERENCE_ENABLE (R234): Writing REF_CFGr.en = 1 starts the reference's monitors in state INVALID. -/
def execReferenceEnable (m : Fin 20) (r : Fin 8) (v : Word) (s : State) : Host.Outcome State Fault Refusal :=
  s.does (fun s => s.writeWord m (R.REF_CFG_en r).a (force v (R.REF_CFG_en r) 1))

/-- REFERENCE_DISABLE (R234): Writing REF_CFGr.en = 0 disables the reference, switching away when it is selected. -/
def execReferenceDisable (m : Fin 20) (r : Fin 8) (v : Word) (s : State) : Host.Outcome State Fault Refusal :=
  s.does (fun s => s.writeWord m (R.REF_CFG_en r).a (force v (R.REF_CFG_en r) 0))

/-- REFERENCE_LATCH_CLEAR (R234): Writing a bit of REF_CMD.clr returns a LATCHED reference to INVALID. -/
def execReferenceLatchClear (m : Fin 20) (v : Word) (s : State) : Host.Outcome State Fault Refusal :=
  s.does (fun s => s.writeWord m R.REF_CMD_clr.a v)

/-- MANUAL_SELECT (R235): A write of REF_CTL.msel or manual = 1 selects a reference manually, refused when it is not selectable. -/
def execManualSelect (m : Fin 20) (v : Word) (s : State) : Host.Outcome State Fault Refusal :=
  s.does (fun s => s.writeWord m R.REF_CTL_manual.a (force v R.REF_CTL_manual 1))

end Sys2Proof.Machine
end

