-- ==== Sys2Proof/Machine/CmdTime.lean ====
section
/-! DEFINITION. The timebase, IEEE 1588, comparators and capture units (R246 to R262). One definition for each command. -/

namespace Sys2Proof.Machine

/-- TAI_SECOND_ROLLOVER (R246): The time counter's nanoseconds reach 10^9 and seconds advance by one. -/
def execTaiSecondRollover (s : State) : Host.Outcome State Fault Refusal :=
  .next (s.secondPasses)

/-- TIME_STEP_REQUEST (R254): Writing TB_STEPCTL.go requests a step in the selected mode, bound to an instant or refused with a result. -/
def execTimeStepRequest (m : Fin 20) (v : Word) (s : State) : Host.Outcome State Fault Refusal :=
  s.does (fun s => s.writeWord m R.TB_STEPCTL_go.a (force v R.TB_STEPCTL_go 1))

/-- TIME_STEP_APPLY (R251): At its application instant a step is added to the counter, the time epoch increments and t_e may move. -/
def execTimeStepApply (s : State) : Host.Outcome State Fault Refusal :=
  s.does (fun s => (s.stepApply).passBoundaries)

/-- SC_EPOCH_COMMIT (R256): Writing TB_SCECTL.commit validates an SC epoch and applies it at once or binds it to a round, or refuses it. -/
def execScEpochCommit (m : Fin 20) (v : Word) (s : State) : Host.Outcome State Fault Refusal :=
  s.does (fun s => s.writeWord m R.TB_SCECTL_commit.a (force v R.TB_SCECTL_commit 1))

/-- SC_EPOCH_APPLY (R256): A committed SC epoch takes effect, increments the time epoch and governs its rounds. -/
def execScEpochApply (s : State) : Host.Outcome State Fault Refusal :=
  s.does (fun s => (s.epochApply).passBoundaries)

/-- SC_EPOCH_INVALIDATE (R256): Writing TB_SCECTL.inval clears sce_valid and puts alignment into majority mode. -/
def execScEpochInvalidate (m : Fin 20) (v : Word) (s : State) : Host.Outcome State Fault Refusal :=
  s.does (fun s => s.writeWord m R.TB_SCECTL_inval.a (force v R.TB_SCECTL_inval 1))

/-- SYNC_RECEIVE (R258): A PTP Sync message is time-stamped and, with its exchange, yields an offset sample for a slave port. -/
def execSyncReceive (p : Fin 8) (message : Bytes) (ticks : Nat) (s : State) : Host.Outcome State Fault Refusal :=
  s.does (fun s => s.ptpArrive p message ticks)

/-- FOLLOW_UP_RECEIVE (R257): A PTP Follow_Up supplies the precise origin time of a two-step Sync. -/
def execFollowUpReceive (p : Fin 8) (message : Bytes) (s : State) : Host.Outcome State Fault Refusal :=
  s.does (fun s => s.ptpArrive p message 0)

/-- DELAY_REQ_RECEIVE (R257): A PTP Delay_Req on a master port is time-stamped and answered with Delay_Resp. -/
def execDelayReqReceive (p : Fin 8) (message : Bytes) (ticks : Nat) (s : State) : Host.Outcome State Fault Refusal :=
  s.does (fun s => s.ptpArrive p message ticks)

/-- DELAY_RESP_RECEIVE (R257): A PTP Delay_Resp completes a delay exchange and updates meanPathDelay. -/
def execDelayRespReceive (p : Fin 8) (message : Bytes) (s : State) : Host.Outcome State Fault Refusal :=
  s.does (fun s => s.ptpArrive p message 0)

/-- PDELAY_REQ_RECEIVE (R257): A PTP Pdelay_Req is time-stamped and answered with Pdelay_Resp and, in two-step, Pdelay_Resp_Follow_Up. -/
def execPdelayReqReceive (p : Fin 8) (message : Bytes) (ticks : Nat) (s : State) : Host.Outcome State Fault Refusal :=
  s.does (fun s => s.ptpArrive p message ticks)

/-- PDELAY_RESP_RECEIVE (R257): A PTP Pdelay_Resp supplies times of a peer delay exchange. -/
def execPdelayRespReceive (p : Fin 8) (message : Bytes) (ticks : Nat) (s : State) : Host.Outcome State Fault Refusal :=
  s.does (fun s => s.ptpArrive p message ticks)

/-- PDELAY_RESP_FOLLOW_UP_RECEIVE (R257): A PTP Pdelay_Resp_Follow_Up completes a peer delay exchange. -/
def execPdelayRespFollowUpReceive (p : Fin 8) (message : Bytes) (s : State) : Host.Outcome State Fault Refusal :=
  s.does (fun s => s.ptpArrive p message 0)

/-- ANNOUNCE_RECEIVE (R257): A PTP Announce message feeds the best master clock algorithm and port states. -/
def execAnnounceReceive (p : Fin 8) (message : Bytes) (s : State) : Host.Outcome State Fault Refusal :=
  s.does (fun s => s.ptpArrive p message 0)

/-- ANNOUNCE_RECEIPT_TIMEOUT (R257): No Announce arrives within announceReceiptTimeout and the port re-runs master selection. -/
def execAnnounceReceiptTimeout (p : Fin 8) (s : State) : Host.Outcome State Fault Refusal :=
  s.does (fun s => s.announceTimeout p)

/-- SYNC_SEND (R257): A master port sends Sync, one-step or two-step, at its sync interval. -/
def execSyncSend (p : Fin 8) (s : State) : Host.Outcome State Fault Refusal :=
  s.does (fun s => s.syncSend p)

/-- ANNOUNCE_SEND (R258): A master port sends Announce with its grandmaster data at its announce interval. -/
def execAnnounceSend (p : Fin 8) (s : State) : Host.Outcome State Fault Refusal :=
  s.does (fun s => s.announceSend p)

/-- DELAY_REQ_SEND (R257): A slave port sends Delay_Req at its minimum interval. -/
def execDelayReqSend (p : Fin 8) (s : State) : Host.Outcome State Fault Refusal :=
  s.does (fun s => s.dreqSend p)

/-- PDELAY_REQ_SEND (R257): A port in the peer-to-peer profile sends Pdelay_Req at its interval. -/
def execPdelayReqSend (p : Fin 8) (s : State) : Host.Outcome State Fault Refusal :=
  s.does (fun s => s.preqSend p)

/-- COMPARATOR_ARM (R260): Writing TB_TRGCTLk.arm = 1 arms a comparator, firing at once late when its target is within 1 µs. -/
def execComparatorArm (m : Fin 20) (k : Fin 16) (v : Word) (s : State) : Host.Outcome State Fault Refusal :=
  s.does (fun s => s.writeWord m (R.TB_TRGCTL_arm k).a (force v (R.TB_TRGCTL_arm k) 1))

/-- COMPARATOR_FIRE (R260): The counter reaches an armed comparator's target; it pulses its pins, fires its producer and disarms or advances. -/
def execComparatorFire (k : Fin 16) (s : State) : Host.Outcome State Fault Refusal :=
  s.does (fun s => (s.trgReach k).ticked)

/-- TRIGGER_PULSE_END (R260): A comparator's output pulse ends after TB_TRGWIDk ns. -/
def execTriggerPulseEnd (k : Fin 16) (s : State) : Host.Outcome State Fault Refusal :=
  s.does (fun s => s.trgPulseEnd k)

/-- CAPTURE_EDGE (R262): A selected EVIO edge is time-stamped by a capture unit, or dropped when its queue is full. -/
def execCaptureEdge (pin : Fin 16) (fine : Nat) (rise : Bool) (s : State) : Host.Outcome State Fault Refusal :=
  s.does (fun s => s.captureEdge pin fine rise)

/-- CAPTURE_STAMP_READ (R262): A read of TB_CAPSk_LO removes the oldest stamp and latches its remaining fields. -/
def execCaptureStampRead (m : Fin 20) (k : Fin 16) (s : State) : Host.Outcome State Fault Refusal :=
  s.does (fun s => s.readWord m (R.TB_CAPS k))

end Sys2Proof.Machine
end

