-- ==== Sys2Proof/Machine/Dispatch.lean ====
section
/-! DEFINITION. One arm for each command: a direct call of its meaning. -/

namespace Sys2Proof.Machine

def exec (i : Instr) (s : State) : Host.Outcome State Fault Refusal :=
  match i with
  | .registerWrite a0 a1 a2 => Sys2Proof.Machine.execRegisterWrite a0 a1 a2 s
  | .pairLoWrite a0 a1 a2 => Sys2Proof.Machine.execPairLoWrite a0 a1 a2 s
  | .pairHiWrite a0 a1 a2 => Sys2Proof.Machine.execPairHiWrite a0 a1 a2 s
  | .pairLoRead a0 a1 => Sys2Proof.Machine.execPairLoRead a0 a1 s
  | .counterRead a0 a1 => Sys2Proof.Machine.execCounterRead a0 a1 s
  | .snapshotRead a0 a1 => Sys2Proof.Machine.execSnapshotRead a0 a1 s
  | .planRecordRead a0 => Sys2Proof.Machine.execPlanRecordRead a0 s
  | .timeRead a0 => Sys2Proof.Machine.execTimeRead a0 s
  | .roundBoundary => Sys2Proof.Machine.execRoundBoundary s
  | .ingestRoundStart => Sys2Proof.Machine.execIngestRoundStart s
  | .horizonAdvance => Sys2Proof.Machine.execHorizonAdvance s
  | .packetPlace => Sys2Proof.Machine.execPacketPlace s
  | .samplePacketReceive a0 a1 => Sys2Proof.Machine.execSamplePacketReceive a0 a1 s
  | .timingPacketReceive a0 a1 a2 => Sys2Proof.Machine.execTimingPacketReceive a0 a1 a2 s
  | .controlPacketReceive a0 a1 => Sys2Proof.Machine.execControlPacketReceive a0 a1 s
  | .claimPacketReceive a0 a1 => Sys2Proof.Machine.execClaimPacketReceive a0 a1 s
  | .statusCellReceive a0 a1 => Sys2Proof.Machine.execStatusCellReceive a0 a1 s
  | .alignmentCellReceive a0 a1 a2 a3 a4 => Sys2Proof.Machine.execAlignmentCellReceive a0 a1 a2 a3 a4 s
  | .portEnable a0 a1 a2 => Sys2Proof.Machine.execPortEnable a0 a1 a2 s
  | .portDisable a0 a1 a2 => Sys2Proof.Machine.execPortDisable a0 a1 a2 s
  | .lanesLocked a0 a1 => Sys2Proof.Machine.execLanesLocked a0 a1 s
  | .trainingTimeout a0 => Sys2Proof.Machine.execTrainingTimeout a0 s
  | .deskewComplete a0 => Sys2Proof.Machine.execDeskewComplete a0 s
  | .deskewTimeout a0 => Sys2Proof.Machine.execDeskewTimeout a0 s
  | .portLinkLoss a0 a1 => Sys2Proof.Machine.execPortLinkLoss a0 a1 s
  | .statusCellSend a0 => Sys2Proof.Machine.execStatusCellSend a0 s
  | .alignmentCellSend a0 => Sys2Proof.Machine.execAlignmentCellSend a0 s
  | .claimPacketSend a0 => Sys2Proof.Machine.execClaimPacketSend a0 s
  | .timingPacketSend a0 => Sys2Proof.Machine.execTimingPacketSend a0 s
  | .controlTxQueue a0 a1 a2 => Sys2Proof.Machine.execControlTxQueue a0 a1 a2 s
  | .controlPacketSend a0 => Sys2Proof.Machine.execControlPacketSend a0 s
  | .controlSlotFree a0 a1 a2 => Sys2Proof.Machine.execControlSlotFree a0 a1 a2 s
  | .voltagePacketSend a0 a1 => Sys2Proof.Machine.execVoltagePacketSend a0 a1 s
  | .streamTableCommit a0 a1 => Sys2Proof.Machine.execStreamTableCommit a0 a1 s
  | .claimDomainReset a0 a1 => Sys2Proof.Machine.execClaimDomainReset a0 a1 s
  | .alignmentEnable a0 a1 => Sys2Proof.Machine.execAlignmentEnable a0 a1 s
  | .alignmentDisable a0 a1 => Sys2Proof.Machine.execAlignmentDisable a0 a1 s
  | .windowChange a0 a1 => Sys2Proof.Machine.execWindowChange a0 a1 s
  | .freezeCommand a0 a1 => Sys2Proof.Machine.execFreezeCommand a0 a1 s
  | .captureRelease a0 a1 => Sys2Proof.Machine.execCaptureRelease a0 a1 s
  | .repairBitmapSend => Sys2Proof.Machine.execRepairBitmapSend s
  | .boardEnable a0 a1 => Sys2Proof.Machine.execBoardEnable a0 a1 s
  | .boardDisable a0 a1 => Sys2Proof.Machine.execBoardDisable a0 a1 s
  | .boardHalt a0 a1 => Sys2Proof.Machine.execBoardHalt a0 a1 s
  | .drainRequest a0 a1 => Sys2Proof.Machine.execDrainRequest a0 a1 s
  | .boardRoundStart => Sys2Proof.Machine.execBoardRoundStart s
  | .plyMarkerIssue a0 => Sys2Proof.Machine.execPlyMarkerIssue a0 s
  | .markerRelease => Sys2Proof.Machine.execMarkerRelease s
  | .feederWaitEnd => Sys2Proof.Machine.execFeederWaitEnd s
  | .passEnd a0 a1 => Sys2Proof.Machine.execPassEnd a0 a1 s
  | .plyStatusFinal a0 => Sys2Proof.Machine.execPlyStatusFinal a0 s
  | .drainComplete => Sys2Proof.Machine.execDrainComplete s
  | .pairingTableCommit a0 a1 => Sys2Proof.Machine.execPairingTableCommit a0 a1 s
  | .remapWrite a0 a1 a2 => Sys2Proof.Machine.execRemapWrite a0 a1 a2 s
  | .groupOpen a0 a1 => Sys2Proof.Machine.execGroupOpen a0 a1 s
  | .groupClose a0 a1 => Sys2Proof.Machine.execGroupClose a0 a1 s
  | .groupAbort a0 a1 => Sys2Proof.Machine.execGroupAbort a0 a1 s
  | .pairMapCommit a0 a1 => Sys2Proof.Machine.execPairMapCommit a0 a1 s
  | .pairMapApply => Sys2Proof.Machine.execPairMapApply s
  | .pairMapDirectWrite a0 a1 a2 a3 => Sys2Proof.Machine.execPairMapDirectWrite a0 a1 a2 a3 s
  | .pairMapDigestDone => Sys2Proof.Machine.execPairMapDigestDone s
  | .beamArrayEnable a0 a1 => Sys2Proof.Machine.execBeamArrayEnable a0 a1 s
  | .beamArrayDisable a0 a1 => Sys2Proof.Machine.execBeamArrayDisable a0 a1 s
  | .beamArrayHalt a0 a1 => Sys2Proof.Machine.execBeamArrayHalt a0 a1 s
  | .beamRoundStart => Sys2Proof.Machine.execBeamRoundStart s
  | .channelSetComplete a0 a1 => Sys2Proof.Machine.execChannelSetComplete a0 a1 s
  | .beamCheckMismatch a0 => Sys2Proof.Machine.execBeamCheckMismatch a0 s
  | .weightSetSwitch a0 a1 => Sys2Proof.Machine.execWeightSetSwitch a0 a1 s
  | .weightSetConfirm a0 a1 => Sys2Proof.Machine.execWeightSetConfirm a0 a1 s
  | .weightDigestDone => Sys2Proof.Machine.execWeightDigestDone s
  | .beamConfigCommit a0 a1 => Sys2Proof.Machine.execBeamConfigCommit a0 a1 s
  | .releaseGatePass a0 => Sys2Proof.Machine.execReleaseGatePass a0 s
  | .frameSend a0 a1 => Sys2Proof.Machine.execFrameSend a0 a1 s
  | .hltReport => Sys2Proof.Machine.execHltReport s
  | .timReport => Sys2Proof.Machine.execTimReport s
  | .ethernetFrameReceive a0 a1 a2 a3 a4 a5 => Sys2Proof.Machine.execEthernetFrameReceive a0 a1 a2 a3 a4 a5 s
  | .ethAlignmentLoss a0 => Sys2Proof.Machine.execEthAlignmentLoss a0 s
  | .ethLinkUp a0 => Sys2Proof.Machine.execEthLinkUp a0 s
  | .routeWrite a0 a1 a2 => Sys2Proof.Machine.execRouteWrite a0 a1 a2 s
  | .endpointWrite a0 a1 a2 a3 => Sys2Proof.Machine.execEndpointWrite a0 a1 a2 a3 s
  | .ethPortControlWrite a0 a1 a2 => Sys2Proof.Machine.execEthPortControlWrite a0 a1 a2 s
  | .sequenceSet a0 a1 a2 => Sys2Proof.Machine.execSequenceSet a0 a1 a2 s
  | .adderMismatch a0 a1 a2 => Sys2Proof.Machine.execAdderMismatch a0 a1 a2 s
  | .boardTestRequest a0 a1 => Sys2Proof.Machine.execBoardTestRequest a0 a1 s
  | .beamTestRequest a0 a1 => Sys2Proof.Machine.execBeamTestRequest a0 a1 s
  | .hbmRetrainRequest a0 a1 => Sys2Proof.Machine.execHbmRetrainRequest a0 a1 s
  | .serdesRecalibrateRequest a0 a1 => Sys2Proof.Machine.execSerdesRecalibrateRequest a0 a1 s
  | .laneCalibrateRequest a0 a1 => Sys2Proof.Machine.execLaneCalibrateRequest a0 a1 s
  | .testComplete a0 => Sys2Proof.Machine.execTestComplete a0 s
  | .maintenanceRequest a0 a1 => Sys2Proof.Machine.execMaintenanceRequest a0 a1 s
  | .faultClear a0 a1 => Sys2Proof.Machine.execFaultClear a0 a1 s
  | .healthRecovery => Sys2Proof.Machine.execHealthRecovery s
  | .arbiterLockstepFault => Sys2Proof.Machine.execArbiterLockstepFault s
  | .arbiterRestartDone => Sys2Proof.Machine.execArbiterRestartDone s
  | .arbiterRestartTimeout => Sys2Proof.Machine.execArbiterRestartTimeout s
  | .counterDisagree a0 => Sys2Proof.Machine.execCounterDisagree a0 s
  | .leaseReceive a0 a1 => Sys2Proof.Machine.execLeaseReceive a0 a1 s
  | .ackReceive a0 => Sys2Proof.Machine.execAckReceive a0 s
  | .wmarkReceive a0 => Sys2Proof.Machine.execWmarkReceive a0 s
  | .digestReceive a0 => Sys2Proof.Machine.execDigestReceive a0 s
  | .planReceive a0 => Sys2Proof.Machine.execPlanReceive a0 s
  | .spanReceive a0 => Sys2Proof.Machine.execSpanReceive a0 s
  | .rprqReceive a0 => Sys2Proof.Machine.execRprqReceive a0 s
  | .rpktReceive a0 => Sys2Proof.Machine.execRpktReceive a0 s
  | .joinReceive a0 a1 => Sys2Proof.Machine.execJoinReceive a0 a1 s
  | .jresReceive a0 => Sys2Proof.Machine.execJresReceive a0 s
  | .freezeReceive a0 => Sys2Proof.Machine.execFreezeReceive a0 s
  | .leasePinTransition a0 => Sys2Proof.Machine.execLeasePinTransition a0 s
  | .leaseRenewal => Sys2Proof.Machine.execLeaseRenewal s
  | .wmarkSend => Sys2Proof.Machine.execWmarkSend s
  | .digestSend => Sys2Proof.Machine.execDigestSend s
  | .leaseExpiry => Sys2Proof.Machine.execLeaseExpiry s
  | .guardExpiry => Sys2Proof.Machine.execGuardExpiry s
  | .ackTimeout => Sys2Proof.Machine.execAckTimeout s
  | .cstLinkTimeout => Sys2Proof.Machine.execCstLinkTimeout s
  | .planTimeout a0 => Sys2Proof.Machine.execPlanTimeout a0 s
  | .castlingEnable a0 a1 => Sys2Proof.Machine.execCastlingEnable a0 a1 s
  | .castlingDisable a0 a1 => Sys2Proof.Machine.execCastlingDisable a0 a1 s
  | .castResign a0 => Sys2Proof.Machine.execCastResign a0 s
  | .takeAsSole a0 => Sys2Proof.Machine.execTakeAsSole a0 s
  | .castLeave a0 => Sys2Proof.Machine.execCastLeave a0 s
  | .castJoin a0 => Sys2Proof.Machine.execCastJoin a0 s
  | .handOver a0 => Sys2Proof.Machine.execHandOver a0 s
  | .referenceEdge a0 a1 a2 => Sys2Proof.Machine.execReferenceEdge a0 a1 a2 s
  | .referenceEventTimeout a0 => Sys2Proof.Machine.execReferenceEventTimeout a0 s
  | .referenceQualified a0 => Sys2Proof.Machine.execReferenceQualified a0 s
  | .hardWindowGate a0 a1 => Sys2Proof.Machine.execHardWindowGate a0 a1 s
  | .crossComparisonUpdate a0 a1 => Sys2Proof.Machine.execCrossComparisonUpdate a0 a1 s
  | .revertWaitExpiry a0 => Sys2Proof.Machine.execRevertWaitExpiry a0 s
  | .dpllLock => Sys2Proof.Machine.execDpllLock s
  | .slewComplete => Sys2Proof.Machine.execSlewComplete s
  | .xoInLost => Sys2Proof.Machine.execXoInLost s
  | .xoInReturn => Sys2Proof.Machine.execXoInReturn s
  | .referenceEnable a0 a1 a2 => Sys2Proof.Machine.execReferenceEnable a0 a1 a2 s
  | .referenceDisable a0 a1 a2 => Sys2Proof.Machine.execReferenceDisable a0 a1 a2 s
  | .referenceLatchClear a0 a1 => Sys2Proof.Machine.execReferenceLatchClear a0 a1 s
  | .manualSelect a0 a1 => Sys2Proof.Machine.execManualSelect a0 a1 s
  | .taiSecondRollover => Sys2Proof.Machine.execTaiSecondRollover s
  | .timeStepRequest a0 a1 => Sys2Proof.Machine.execTimeStepRequest a0 a1 s
  | .timeStepApply => Sys2Proof.Machine.execTimeStepApply s
  | .scEpochCommit a0 a1 => Sys2Proof.Machine.execScEpochCommit a0 a1 s
  | .scEpochApply => Sys2Proof.Machine.execScEpochApply s
  | .scEpochInvalidate a0 a1 => Sys2Proof.Machine.execScEpochInvalidate a0 a1 s
  | .syncReceive a0 a1 a2 => Sys2Proof.Machine.execSyncReceive a0 a1 a2 s
  | .followUpReceive a0 a1 => Sys2Proof.Machine.execFollowUpReceive a0 a1 s
  | .delayReqReceive a0 a1 a2 => Sys2Proof.Machine.execDelayReqReceive a0 a1 a2 s
  | .delayRespReceive a0 a1 => Sys2Proof.Machine.execDelayRespReceive a0 a1 s
  | .pdelayReqReceive a0 a1 a2 => Sys2Proof.Machine.execPdelayReqReceive a0 a1 a2 s
  | .pdelayRespReceive a0 a1 a2 => Sys2Proof.Machine.execPdelayRespReceive a0 a1 a2 s
  | .pdelayRespFollowUpReceive a0 a1 => Sys2Proof.Machine.execPdelayRespFollowUpReceive a0 a1 s
  | .announceReceive a0 a1 => Sys2Proof.Machine.execAnnounceReceive a0 a1 s
  | .announceReceiptTimeout a0 => Sys2Proof.Machine.execAnnounceReceiptTimeout a0 s
  | .syncSend a0 => Sys2Proof.Machine.execSyncSend a0 s
  | .announceSend a0 => Sys2Proof.Machine.execAnnounceSend a0 s
  | .delayReqSend a0 => Sys2Proof.Machine.execDelayReqSend a0 s
  | .pdelayReqSend a0 => Sys2Proof.Machine.execPdelayReqSend a0 s
  | .comparatorArm a0 a1 a2 => Sys2Proof.Machine.execComparatorArm a0 a1 a2 s
  | .comparatorFire a0 => Sys2Proof.Machine.execComparatorFire a0 s
  | .triggerPulseEnd a0 => Sys2Proof.Machine.execTriggerPulseEnd a0 s
  | .captureEdge a0 a1 a2 => Sys2Proof.Machine.execCaptureEdge a0 a1 a2 s
  | .captureStampRead a0 a1 => Sys2Proof.Machine.execCaptureStampRead a0 a1 s
  | .planAdmission a0 => Sys2Proof.Machine.execPlanAdmission a0 s
  | .energyCountUpdate a0 a1 a2 a3 => Sys2Proof.Machine.execEnergyCountUpdate a0 a1 a2 a3 s
  | .paceCheck a0 => Sys2Proof.Machine.execPaceCheck a0 s
  | .voltagePointSettle => Sys2Proof.Machine.execVoltagePointSettle s
  | .endgameRequest a0 a1 => Sys2Proof.Machine.execEndgameRequest a0 a1 s
  | .endgameClear a0 a1 => Sys2Proof.Machine.execEndgameClear a0 a1 s
  | .endgameEntry => Sys2Proof.Machine.execEndgameEntry s
  | .endgameExit => Sys2Proof.Machine.execEndgameExit s
  | .thermalCauseClear => Sys2Proof.Machine.execThermalCauseClear s
  | .hbmRequestServe a0 a1 a2 a3 a4 => Sys2Proof.Machine.execHbmRequestServe a0 a1 a2 a3 a4 s
  | .agePromotion a0 a1 => Sys2Proof.Machine.execAgePromotion a0 a1 s
  | .refreshDue a0 a1 a2 => Sys2Proof.Machine.execRefreshDue a0 a1 a2 s
  | .hbmTemperatureRead a0 a1 => Sys2Proof.Machine.execHbmTemperatureRead a0 a1 s
  | .trngHealthFail => Sys2Proof.Machine.execTrngHealthFail s
  | .trngRetry a0 a1 a2 => Sys2Proof.Machine.execTrngRetry a0 a1 a2 s
  | .scrubRead a0 a1 a2 a3 a4 a5 a6 a7 a8 a9 => Sys2Proof.Machine.execScrubRead a0 a1 a2 a3 a4 a5 a6 a7 a8 a9 s
  | .rowSpare a0 => Sys2Proof.Machine.execRowSpare a0 s
  | .rowCopyComplete a0 => Sys2Proof.Machine.execRowCopyComplete a0 s
  | .phyCentring a0 a1 => Sys2Proof.Machine.execPhyCentring a0 a1 s
  | .hbmTrainingDone a0 a1 => Sys2Proof.Machine.execHbmTrainingDone a0 a1 s
  | .selfRefreshEntryDone => Sys2Proof.Machine.execSelfRefreshEntryDone s
  | .selfRefreshExitDone a0 => Sys2Proof.Machine.execSelfRefreshExitDone a0 s
  | .crossbarBurst a0 a1 a2 a3 => Sys2Proof.Machine.execCrossbarBurst a0 a1 a2 a3 s
  | .masterReset a0 a1 a2 => Sys2Proof.Machine.execMasterReset a0 a1 a2 s
  | .dmaGo a0 a1 a2 => Sys2Proof.Machine.execDmaGo a0 a1 a2 s
  | .dmaAbort a0 a1 a2 => Sys2Proof.Machine.execDmaAbort a0 a1 a2 s
  | .dmaDescriptorComplete a0 a1 a2 => Sys2Proof.Machine.execDmaDescriptorComplete a0 a1 a2 s
  | .peWinWrite a0 a1 => Sys2Proof.Machine.execPeWinWrite a0 a1 s
  | .pcieRequest a0 a1 a2 => Sys2Proof.Machine.execPcieRequest a0 a1 a2 s
  | .mailboxDoorbell a0 a1 => Sys2Proof.Machine.execMailboxDoorbell a0 a1 s
  | .mailboxEcho => Sys2Proof.Machine.execMailboxEcho s
  | .firmwareVersion => Sys2Proof.Machine.execFirmwareVersion s
  | .boardLineRepairRequest => Sys2Proof.Machine.execBoardLineRepairRequest s
  | .hbmRowSpareRequest => Sys2Proof.Machine.execHbmRowSpareRequest s
  | .hostEvent a0 a1 => Sys2Proof.Machine.execHostEvent a0 a1 s
  | .eventDelivery a0 => Sys2Proof.Machine.execEventDelivery a0 s
  | .taskExecute a0 a1 => Sys2Proof.Machine.execTaskExecute a0 a1 s
  | .evioEdge a0 a1 a2 => Sys2Proof.Machine.execEvioEdge a0 a1 a2 s
  | .evioPulseEnd a0 => Sys2Proof.Machine.execEvioPulseEnd a0 s
  | .channelConfigWrite a0 a1 a2 => Sys2Proof.Machine.execChannelConfigWrite a0 a1 a2 s
  | .channelOwnerWrite a0 a1 a2 => Sys2Proof.Machine.execChannelOwnerWrite a0 a1 a2 s
  | .aspNop a0 => Sys2Proof.Machine.execAspNop a0 s
  | .aspBr a0 a1 => Sys2Proof.Machine.execAspBr a0 a1 s
  | .aspBrcc a0 a1 a2 => Sys2Proof.Machine.execAspBrcc a0 a1 a2 s
  | .aspCall a0 a1 => Sys2Proof.Machine.execAspCall a0 a1 s
  | .aspRet a0 => Sys2Proof.Machine.execAspRet a0 s
  | .aspReti a0 => Sys2Proof.Machine.execAspReti a0 s
  | .aspLoopnz a0 a1 => Sys2Proof.Machine.execAspLoopnz a0 a1 s
  | .aspWait a0 => Sys2Proof.Machine.execAspWait a0 s
  | .aspEi a0 => Sys2Proof.Machine.execAspEi a0 s
  | .aspDi a0 => Sys2Proof.Machine.execAspDi a0 s
  | .aspSig a0 a1 => Sys2Proof.Machine.execAspSig a0 a1 s
  | .aspHint a0 => Sys2Proof.Machine.execAspHint a0 s
  | .aspRpt a0 a1 => Sys2Proof.Machine.execAspRpt a0 a1 s
  | .aspMovi a0 a1 a2 a3 => Sys2Proof.Machine.execAspMovi a0 a1 a2 a3 s
  | .aspMov a0 a1 a2 => Sys2Proof.Machine.execAspMov a0 a1 a2 s
  | .aspModp a0 a1 a2 => Sys2Proof.Machine.execAspModp a0 a1 a2 s
  | .aspLoad a0 a1 a2 a3 a4 => Sys2Proof.Machine.execAspLoad a0 a1 a2 a3 a4 s
  | .aspStore a0 a1 a2 a3 => Sys2Proof.Machine.execAspStore a0 a1 a2 a3 s
  | .aspAdd a0 a1 a2 a3 a4 => Sys2Proof.Machine.execAspAdd a0 a1 a2 a3 a4 s
  | .aspSub a0 a1 a2 a3 a4 => Sys2Proof.Machine.execAspSub a0 a1 a2 a3 a4 s
  | .aspAnd a0 a1 a2 a3 a4 => Sys2Proof.Machine.execAspAnd a0 a1 a2 a3 a4 s
  | .aspOr a0 a1 a2 a3 a4 => Sys2Proof.Machine.execAspOr a0 a1 a2 a3 a4 s
  | .aspXor a0 a1 a2 a3 a4 => Sys2Proof.Machine.execAspXor a0 a1 a2 a3 a4 s
  | .aspShl a0 a1 a2 a3 a4 => Sys2Proof.Machine.execAspShl a0 a1 a2 a3 a4 s
  | .aspShr a0 a1 a2 a3 a4 => Sys2Proof.Machine.execAspShr a0 a1 a2 a3 a4 s
  | .aspAsr a0 a1 a2 a3 a4 => Sys2Proof.Machine.execAspAsr a0 a1 a2 a3 a4 s
  | .aspMin a0 a1 a2 a3 a4 => Sys2Proof.Machine.execAspMin a0 a1 a2 a3 a4 s
  | .aspMax a0 a1 a2 a3 a4 => Sys2Proof.Machine.execAspMax a0 a1 a2 a3 a4 s
  | .aspAbs a0 a1 a2 a3 => Sys2Proof.Machine.execAspAbs a0 a1 a2 a3 s
  | .aspNeg a0 a1 a2 a3 => Sys2Proof.Machine.execAspNeg a0 a1 a2 a3 s
  | .aspCmp a0 a1 a2 a3 => Sys2Proof.Machine.execAspCmp a0 a1 a2 a3 s
  | .aspMpy a0 a1 a2 a3 a4 a5 a6 => Sys2Proof.Machine.execAspMpy a0 a1 a2 a3 a4 a5 a6 s
  | .aspMac a0 a1 a2 a3 a4 a5 a6 => Sys2Proof.Machine.execAspMac a0 a1 a2 a3 a4 a5 a6 s
  | .aspMsu a0 a1 a2 a3 a4 a5 a6 => Sys2Proof.Machine.execAspMsu a0 a1 a2 a3 a4 a5 a6 s
  | .aspCmac a0 a1 a2 a3 a4 a5 a6 a7 => Sys2Proof.Machine.execAspCmac a0 a1 a2 a3 a4 a5 a6 a7 s
  | .aspCmac2 a0 a1 a2 a3 a4 a5 a6 => Sys2Proof.Machine.execAspCmac2 a0 a1 a2 a3 a4 a5 a6 s
  | .aspMova a0 a1 a2 a3 a4 a5 => Sys2Proof.Machine.execAspMova a0 a1 a2 a3 a4 a5 s
  | .aspClra a0 a1 => Sys2Proof.Machine.execAspClra a0 a1 s
  | .aspAdda a0 a1 a2 a3 a4 => Sys2Proof.Machine.execAspAdda a0 a1 a2 a3 a4 s
  | .aspSha a0 a1 a2 a3 a4 => Sys2Proof.Machine.execAspSha a0 a1 a2 a3 a4 s
  | .aspExt a0 a1 a2 a3 a4 => Sys2Proof.Machine.execAspExt a0 a1 a2 a3 a4 s
  | .aspIns a0 a1 a2 a3 a4 => Sys2Proof.Machine.execAspIns a0 a1 a2 a3 a4 s
  | .interruptAccept a0 => Sys2Proof.Machine.execInterruptAccept a0 s
  | .externalAccessComplete a0 => Sys2Proof.Machine.execExternalAccessComplete a0 s
  | .aspStreamDelivery a0 a1 => Sys2Proof.Machine.execAspStreamDelivery a0 a1 s
  | .aspRun a0 a1 a2 => Sys2Proof.Machine.execAspRun a0 a1 a2 s
  | .aspStop a0 a1 a2 => Sys2Proof.Machine.execAspStop a0 a1 a2 s
  | .aspStep a0 a1 a2 => Sys2Proof.Machine.execAspStep a0 a1 a2 s
  | .aspReset a0 a1 a2 => Sys2Proof.Machine.execAspReset a0 a1 a2 s
  | .hostMessage a0 a1 a2 => Sys2Proof.Machine.execHostMessage a0 a1 a2 s
  | .aes3Frame => Sys2Proof.Machine.execAes3Frame s
  | .bufferWordAppend a0 a1 => Sys2Proof.Machine.execBufferWordAppend a0 a1 s
  | .audioClockSelect a0 a1 => Sys2Proof.Machine.execAudioClockSelect a0 a1 s
  | .aes3RefMeasure a0 => Sys2Proof.Machine.execAes3RefMeasure a0 s
  | .aes3RefLock => Sys2Proof.Machine.execAes3RefLock s
  | .aes3RefLoss => Sys2Proof.Machine.execAes3RefLoss s
  | .containerWrite => Sys2Proof.Machine.execContainerWrite s
  | .containerVerify => Sys2Proof.Machine.execContainerVerify s
  | .slotEmpty => Sys2Proof.Machine.execSlotEmpty s
  | .fullLoad => Sys2Proof.Machine.execFullLoad s
  | .fullLoadComplete a0 => Sys2Proof.Machine.execFullLoadComplete a0 s
  | .regionLoad => Sys2Proof.Machine.execRegionLoad s
  | .regionLoadApply => Sys2Proof.Machine.execRegionLoadApply s
  | .regionLoadComplete a0 => Sys2Proof.Machine.execRegionLoadComplete a0 s
  | .slotMarkGood => Sys2Proof.Machine.execSlotMarkGood s
  | .keyProgram => Sys2Proof.Machine.execKeyProgram s
  | .keyRevoke => Sys2Proof.Machine.execKeyRevoke s
  | .repairClear => Sys2Proof.Machine.execRepairClear s
  | .repairLogAppend a0 => Sys2Proof.Machine.execRepairLogAppend a0 s
  | .powerOn a0 => Sys2Proof.Machine.execPowerOn a0 s
  | .powerLoss => Sys2Proof.Machine.execPowerLoss s
  | .vinLow a0 a1 => Sys2Proof.Machine.execVinLow a0 a1 s
  | .vinRecover a0 a1 => Sys2Proof.Machine.execVinRecover a0 a1 s
  | .overvoltage a0 a1 => Sys2Proof.Machine.execOvervoltage a0 a1 s
  | .regulatorExcursion a0 a1 a2 => Sys2Proof.Machine.execRegulatorExcursion a0 a1 a2 s
  | .thermalSensorUpdate a0 => Sys2Proof.Machine.execThermalSensorUpdate a0 s
  | .resetNAssert a0 => Sys2Proof.Machine.execResetNAssert a0 s
  | .resetNRelease => Sys2Proof.Machine.execResetNRelease s
  | .pcieReset a0 a1 => Sys2Proof.Machine.execPcieReset a0 a1 s
  | .functionLevelReset => Sys2Proof.Machine.execFunctionLevelReset s
  | .regionReset a0 a1 => Sys2Proof.Machine.execRegionReset a0 a1 s
  | .watchdogKick a0 a1 => Sys2Proof.Machine.execWatchdogKick a0 a1 s
  | .watchdogExpiry => Sys2Proof.Machine.execWatchdogExpiry s
  | .pairMapConfirm a0 => Sys2Proof.Machine.execPairMapConfirm a0 s
  | .adjournment => Sys2Proof.Machine.execAdjournment s
  | .resetRequest a0 => Sys2Proof.Machine.execResetRequest a0 s
  | .bootPrefSet => Sys2Proof.Machine.execBootPrefSet s
  | .watchdogPeriodSet => Sys2Proof.Machine.execWatchdogPeriodSet s
  | .wakePin a0 => Sys2Proof.Machine.execWakePin a0 s
  | .wakeTime a0 => Sys2Proof.Machine.execWakeTime a0 s
  | .smbusSetOffset a0 a1 => Sys2Proof.Machine.execSmbusSetOffset a0 a1 s
  | .smbusRead a0 => Sys2Proof.Machine.execSmbusRead a0 s
  | .smbusWrite a0 a1 => Sys2Proof.Machine.execSmbusWrite a0 a1 s
  | .smbusWake a0 a1 => Sys2Proof.Machine.execSmbusWake a0 a1 s
  | .smbusFirmwareAppend a0 a1 a2 => Sys2Proof.Machine.execSmbusFirmwareAppend a0 a1 a2 s
  | .smbusAlertResponse => Sys2Proof.Machine.execSmbusAlertResponse s
  | .jtagBypass => Sys2Proof.Machine.execJtagBypass s
  | .jtagIdcode => Sys2Proof.Machine.execJtagIdcode s
  | .jtagSamplePreload a0 a1 => Sys2Proof.Machine.execJtagSamplePreload a0 a1 s
  | .jtagExtest a0 a1 => Sys2Proof.Machine.execJtagExtest a0 a1 s
  | .jtagExtestPulse a0 a1 => Sys2Proof.Machine.execJtagExtestPulse a0 a1 s
  | .jtagExtestTrain a0 a1 => Sys2Proof.Machine.execJtagExtestTrain a0 a1 s
  | .jtagHighz => Sys2Proof.Machine.execJtagHighz s
  | .jtagClamp => Sys2Proof.Machine.execJtagClamp s
  | .testLogicReset => Sys2Proof.Machine.execTestLogicReset s
  | .codewordReceive a0 a1 a2 a3 => Sys2Proof.Machine.execCodewordReceive a0 a1 a2 a3 s
  | .cellReceive a0 a1 a2 => Sys2Proof.Machine.execCellReceive a0 a1 a2 s
  | .leaseWaitExpiry => Sys2Proof.Machine.execLeaseWaitExpiry s
  | .perstNRelease a0 => Sys2Proof.Machine.execPerstNRelease a0 s

end Sys2Proof.Machine
end

