-- ==== Sys2Proof/WellFormed.lean ====
section
/-! DEFINITION. Which commands can come: the lengths and ranges that the spec gives to what a command carries and that its
type leaves open. A meaning is total and does not rest on them. -/

namespace Sys2Proof

/-- The lines of the Board are 0–23 (R192). -/
def PlyFaults.wf (f : PlyFaults) : Bool := f.kv.all (fun l => decide (l.1 < 24))

/-- A duplicated adder works on a record of a group below 63, on a detection profile below 2, or in the combiner. -/
def AddSite.wf : AddSite → Bool
  | .record g _ _ _ _ => decide (g < 63)
  | .detect p _ _ _ => decide (p < 2)
  | .combine _ => true

/-- An HBM request is of class 0–5 and names one of 32 banks (Table 13-3, R279). -/
def HbmArrival.wf (r : HbmArrival) : Bool := decide (r.cls ≤ 5) && decide (r.bank < 32)

/-- What a service finds: one of three error outcomes, in one of two pseudo-channels. -/
def HbmService.wf (v : HbmService) : Bool := decide (v.ecc ≤ 2) && decide (v.pc < 2)

/-- A burst moves at least one byte and at most `most` (R301: 1 KiB). -/
def XbOp.wf (most : Nat) : XbOp → Bool
  | .read n => decide (1 ≤ n) && decide (n ≤ most)
  | .write d => decide (1 ≤ d.length) && decide (d.length ≤ most)

/-- The self-test names lines 0–23 and one of 64 positions or the whole line. -/
def Opening.wf (o : Opening) : Bool := o.lines.all (fun l => decide (l.1 < 24) && decide (l.2 ≤ 64))

/-- At least one wake event ends an Adjournment (R388), and each of the 8 stacks has a temperature. -/
def Wake.wf (w : Wake) : Bool := decide (w.events ≠ 0) && decide (w.temps.length = 8)

/-- The link's speed code and width (PE_LINK). -/
def PcieLink.wf (l : PcieLink) : Bool := decide (l.speed ≤ 5) && decide (l.width ≤ 16)

/-- A command that can come. -/
def Instr.wf : Instr → Bool
  | .registerWrite _ _ _ => true
  | .pairLoWrite _ _ _ => true
  | .pairHiWrite _ _ _ => true
  | .pairLoRead _ _ => true
  | .counterRead _ _ => true
  | .snapshotRead _ _ => true
  | .planRecordRead _ => true
  | .timeRead _ => true
  | .roundBoundary => true
  | .ingestRoundStart => true
  | .horizonAdvance => true
  | .packetPlace => true
  | .samplePacketReceive _ _ => true
  | .timingPacketReceive _ _ _ => true
  | .controlPacketReceive _ _ => true
  | .claimPacketReceive _ _ => true
  | .statusCellReceive _ body => decide (body.length = 252)
  | .alignmentCellReceive _ _ _ _ body => decide (body.length = 252)
  | .portEnable _ _ _ => true
  | .portDisable _ _ _ => true
  | .lanesLocked _ _ => true
  | .trainingTimeout _ => true
  | .deskewComplete _ => true
  | .deskewTimeout _ => true
  | .portLinkLoss _ _ => true
  | .statusCellSend _ => true
  | .alignmentCellSend _ => true
  | .claimPacketSend _ => true
  | .timingPacketSend _ => true
  | .controlTxQueue _ _ _ => true
  | .controlPacketSend _ => true
  | .controlSlotFree _ _ _ => true
  | .voltagePacketSend _ _ => true
  | .streamTableCommit _ _ => true
  | .claimDomainReset _ _ => true
  | .alignmentEnable _ _ => true
  | .alignmentDisable _ _ => true
  | .windowChange _ _ => true
  | .freezeCommand _ _ => true
  | .captureRelease _ _ => true
  | .repairBitmapSend => true
  | .boardEnable _ _ => true
  | .boardDisable _ _ => true
  | .boardHalt _ _ => true
  | .drainRequest _ _ => true
  | .boardRoundStart => true
  | .plyMarkerIssue _ => true
  | .markerRelease => true
  | .feederWaitEnd => true
  | .passEnd _ _ => true
  | .plyStatusFinal f => f.wf
  | .drainComplete => true
  | .pairingTableCommit _ _ => true
  | .remapWrite _ _ _ => true
  | .groupOpen _ _ => true
  | .groupClose _ _ => true
  | .groupAbort _ _ => true
  | .pairMapCommit _ _ => true
  | .pairMapApply => true
  | .pairMapDirectWrite _ _ _ _ => true
  | .pairMapDigestDone => true
  | .beamArrayEnable _ _ => true
  | .beamArrayDisable _ _ => true
  | .beamArrayHalt _ _ => true
  | .beamRoundStart => true
  | .channelSetComplete _ _ => true
  | .beamCheckMismatch _ => true
  | .weightSetSwitch _ _ => true
  | .weightSetConfirm _ _ => true
  | .weightDigestDone => true
  | .beamConfigCommit _ _ => true
  | .releaseGatePass _ => true
  | .frameSend _ _ => true
  | .hltReport => true
  | .timReport => true
  | .ethernetFrameReceive _ _ _ _ _ _ => true
  | .ethAlignmentLoss _ => true
  | .ethLinkUp _ => true
  | .routeWrite _ _ _ => true
  | .endpointWrite _ _ _ _ => true
  | .ethPortControlWrite _ _ _ => true
  | .sequenceSet _ _ _ => true
  | .adderMismatch _ _ site => site.wf
  | .boardTestRequest _ _ => true
  | .beamTestRequest _ _ => true
  | .hbmRetrainRequest _ _ => true
  | .serdesRecalibrateRequest _ _ => true
  | .laneCalibrateRequest _ _ => true
  | .testComplete _ => true
  | .maintenanceRequest _ _ => true
  | .faultClear _ _ => true
  | .healthRecovery => true
  | .arbiterLockstepFault => true
  | .arbiterRestartDone => true
  | .arbiterRestartTimeout => true
  | .counterDisagree _ => true
  | .leaseReceive _ _ => true
  | .ackReceive _ => true
  | .wmarkReceive _ => true
  | .digestReceive _ => true
  | .planReceive _ => true
  | .spanReceive _ => true
  | .rprqReceive _ => true
  | .rpktReceive _ => true
  | .joinReceive _ _ => true
  | .jresReceive _ => true
  | .freezeReceive _ => true
  | .leasePinTransition _ => true
  | .leaseRenewal => true
  | .wmarkSend => true
  | .digestSend => true
  | .leaseExpiry => true
  | .guardExpiry => true
  | .ackTimeout => true
  | .cstLinkTimeout => true
  | .planTimeout _ => true
  | .castlingEnable _ _ => true
  | .castlingDisable _ _ => true
  | .castResign _ => true
  | .takeAsSole _ => true
  | .castLeave _ => true
  | .castJoin _ => true
  | .handOver _ => true
  | .referenceEdge _ _ _ => true
  | .referenceEventTimeout _ => true
  | .referenceQualified _ => true
  | .hardWindowGate _ _ => true
  | .crossComparisonUpdate _ _ => true
  | .revertWaitExpiry _ => true
  | .dpllLock => true
  | .slewComplete => true
  | .xoInLost => true
  | .xoInReturn => true
  | .referenceEnable _ _ _ => true
  | .referenceDisable _ _ _ => true
  | .referenceLatchClear _ _ => true
  | .manualSelect _ _ => true
  | .taiSecondRollover => true
  | .timeStepRequest _ _ => true
  | .timeStepApply => true
  | .scEpochCommit _ _ => true
  | .scEpochApply => true
  | .scEpochInvalidate _ _ => true
  | .syncReceive _ _ _ => true
  | .followUpReceive _ _ => true
  | .delayReqReceive _ _ _ => true
  | .delayRespReceive _ _ => true
  | .pdelayReqReceive _ _ _ => true
  | .pdelayRespReceive _ _ _ => true
  | .pdelayRespFollowUpReceive _ _ => true
  | .announceReceive _ _ => true
  | .announceReceiptTimeout _ => true
  | .syncSend _ => true
  | .announceSend _ => true
  | .delayReqSend _ => true
  | .pdelayReqSend _ => true
  | .comparatorArm _ _ _ => true
  | .comparatorFire _ => true
  | .triggerPulseEnd _ => true
  | .captureEdge _ _ _ => true
  | .captureStampRead _ _ => true
  | .planAdmission _ => true
  | .energyCountUpdate _ _ rest rails => decide (rest.length = 7) && decide (rails.length = 4)
  | .paceCheck _ => true
  | .voltagePointSettle => true
  | .endgameRequest _ _ => true
  | .endgameClear _ _ => true
  | .endgameEntry => true
  | .endgameExit => true
  | .thermalCauseClear => true
  | .hbmRequestServe _ _ arrivals ready sv => arrivals.all HbmArrival.wf && ready.all (fun b => decide (b < 32)) && sv.wf
  | .agePromotion _ _ => true
  | .refreshDue _ _ _ => true
  | .hbmTemperatureRead _ _ => true
  | .trngHealthFail => true
  | .trngRetry _ _ _ => true
  | .scrubRead _ _ bank _ pc _ _ _ _ _ => decide (bank < 32) && decide (pc < 2)
  | .rowSpare _ => true
  | .rowCopyComplete _ => true
  | .phyCentring _ _ => true
  | .hbmTrainingDone _ _ => true
  | .selfRefreshEntryDone => true
  | .selfRefreshExitDone temps => decide (temps.length = 8)
  | .crossbarBurst _ _ _ b => b.op.wf 1024
  | .masterReset _ lead _ => lead.all (fun l => decide (1 ≤ l.data.length) && decide (l.data.length ≤ 1024))
  | .dmaGo _ _ _ => true
  | .dmaAbort _ _ _ => true
  | .dmaDescriptorComplete _ _ _ => true
  | .peWinWrite _ _ => true
  | .pcieRequest _ _ op => op.wf 4096
  | .mailboxDoorbell _ _ => true
  | .mailboxEcho => true
  | .firmwareVersion => true
  | .boardLineRepairRequest => true
  | .hbmRowSpareRequest => true
  | .hostEvent _ _ => true
  | .eventDelivery _ => true
  | .taskExecute _ _ => true
  | .evioEdge _ _ _ => true
  | .evioPulseEnd _ => true
  | .channelConfigWrite _ _ _ => true
  | .channelOwnerWrite _ _ _ => true
  | .aspNop _ => true
  | .aspBr _ _ => true
  | .aspBrcc _ _ _ => true
  | .aspCall _ _ => true
  | .aspRet _ => true
  | .aspReti _ => true
  | .aspLoopnz _ _ => true
  | .aspWait _ => true
  | .aspEi _ => true
  | .aspDi _ => true
  | .aspSig _ _ => true
  | .aspHint _ => true
  | .aspRpt _ _ => true
  | .aspMovi _ _ _ _ => true
  | .aspMov _ _ _ => true
  | .aspModp _ _ _ => true
  | .aspLoad _ _ _ _ _ => true
  | .aspStore _ _ _ _ => true
  | .aspAdd _ _ _ _ _ => true
  | .aspSub _ _ _ _ _ => true
  | .aspAnd _ _ _ _ _ => true
  | .aspOr _ _ _ _ _ => true
  | .aspXor _ _ _ _ _ => true
  | .aspShl _ _ _ _ _ => true
  | .aspShr _ _ _ _ _ => true
  | .aspAsr _ _ _ _ _ => true
  | .aspMin _ _ _ _ _ => true
  | .aspMax _ _ _ _ _ => true
  | .aspAbs _ _ _ _ => true
  | .aspNeg _ _ _ _ => true
  | .aspCmp _ _ _ _ => true
  | .aspMpy _ _ _ _ _ _ _ => true
  | .aspMac _ _ _ _ _ _ _ => true
  | .aspMsu _ _ _ _ _ _ _ => true
  | .aspCmac _ _ _ _ _ _ _ _ => true
  | .aspCmac2 _ _ _ _ _ _ _ => true
  | .aspMova _ _ _ _ _ _ => true
  | .aspClra _ _ => true
  | .aspAdda _ _ _ _ _ => true
  | .aspSha _ _ _ _ _ => true
  | .aspExt _ _ _ _ _ => true
  | .aspIns _ _ _ _ _ => true
  | .interruptAccept _ => true
  | .externalAccessComplete _ => true
  | .aspStreamDelivery _ _ => true
  | .aspRun _ _ _ => true
  | .aspStop _ _ _ => true
  | .aspStep _ _ _ => true
  | .aspReset _ _ _ => true
  | .hostMessage _ _ _ => true
  | .aes3Frame => true
  | .bufferWordAppend _ _ => true
  | .audioClockSelect _ _ => true
  | .aes3RefMeasure _ => true
  | .aes3RefLock => true
  | .aes3RefLoss => true
  | .containerWrite => true
  | .containerVerify => true
  | .slotEmpty => true
  | .fullLoad => true
  | .fullLoadComplete _ => true
  | .regionLoad => true
  | .regionLoadApply => true
  | .regionLoadComplete _ => true
  | .slotMarkGood => true
  | .keyProgram => true
  | .keyRevoke => true
  | .repairClear => true
  | .repairLogAppend _ => true
  | .powerOn o => o.wf
  | .powerLoss => true
  | .vinLow _ _ => true
  | .vinRecover _ _ => true
  | .overvoltage _ _ => true
  | .regulatorExcursion _ _ _ => true
  | .thermalSensorUpdate temps => decide (temps.length = 64)
  | .resetNAssert o => o.wf
  | .resetNRelease => true
  | .pcieReset _ link => link.wf
  | .functionLevelReset => true
  | .regionReset _ _ => true
  | .watchdogKick _ _ => true
  | .watchdogExpiry => true
  | .pairMapConfirm _ => true
  | .adjournment => true
  | .resetRequest o => o.wf
  | .bootPrefSet => true
  | .watchdogPeriodSet => true
  | .wakePin w => w.wf
  | .wakeTime w => w.wf
  | .smbusSetOffset _ data => decide (data.length ≤ 32)
  | .smbusRead _ => true
  | .smbusWrite _ data => decide (data.length ≤ 32)
  | .smbusWake _ w => w.wf
  | .smbusFirmwareAppend _ data _ => decide (data.length ≤ 32)
  | .smbusAlertResponse => true
  | .jtagBypass => true
  | .jtagIdcode => true
  | .jtagSamplePreload _ _ => true
  | .jtagExtest _ _ => true
  | .jtagExtestPulse _ _ => true
  | .jtagExtestTrain _ _ => true
  | .jtagHighz => true
  | .jtagClamp => true
  | .testLogicReset => true
  | .codewordReceive _ _ _ overlap => decide (overlap ≤ 4)
  | .cellReceive _ _ cell => decide (cell.bytes.length = 256)
  | .leaseWaitExpiry => true
  | .perstNRelease link => link.wf

end Sys2Proof
end

