-- ==== Sys2Proof/Safety.lean ====
section
/-! DEFINITION. The terms in which the statements about the block are made: when a write or a read of a register reaches it,
what a write leaves in it, and what every state that the block can be in satisfies. -/

namespace Sys2Proof.Machine

/-- A write by master m at CSR address a reaches the register: the core is on, the access passes R296 to R299, R303 and
R378, no region load is pending (R372) and no failed load holds the register off (R367). -/
def State.writable (s : State) (m a : Nat) : Prop :=
  s.off = false ∧ s.csrDenied m a true = none ∧ s.cf.pending = none ∧ s.unusable a = false

/-- A read by master m at CSR address a reaches the register. -/
def State.readable (s : State) (m a : Nat) : Prop := s.off = false ∧ s.csrDenied m a false = none

/-- What a register holds before a write of it. -/
def State.before (s : State) (l : Loc) (a : Nat) : Nat := s.hard l (s.stored l a)

/-- The register at an address, as R16, R17, R18, R407 and R408 judge a write of it: no field of it belongs to another
master, no guarded field changes, no value leaves its range. -/
def State.accepts (s : State) (m a : Nat) (v : Word) : Prop :=
  ∃ l, locate a = some l ∧ l.reg.pair = false ∧ s.absent a l = false
    ∧ s.foreign m false l (s.before l a) v.toNat = false ∧ s.barred m false l (s.before l a) v.toNat = false
    ∧ s.badWrite l (s.before l a) (s.merged m false l (s.before l a) v.toNat) = none

/-- The state in which a write of a 32-bit register has left its value (R16): what `merged` makes of old and written. -/
def State.landed (s : State) (m a : Nat) (v : Word) : State :=
  match locate a with
  | some l => s.store l a (s.merged m false l (s.before l a) v.toNat)
  | none => s

/-- A write that reaches its register and is accepted whole. -/
def State.takes (s : State) (m a : Nat) (v : Word) : Prop := s.writable m a ∧ s.accepts m a v

/-- A packet that passes checks 1 to 4 of Table 2-9 (R39, R50) on port p: the port is UP and has room, the header is of
version 1 and the given type, and its CRC is right. -/
def State.headOk (s : State) (p : Nat) (bs : Bytes) (typ : Nat) : Prop :=
  s.portUp p = true ∧ s.bufUsed p + cellsOf bs.length ≤ 4096 ∧ leAt bs 0 2 = 0x4C55 ∧ byteAt bs 2 = 1
    ∧ byteAt bs 3 = typ ∧ crc32c (bs.take (headLen typ)) = leAt bs (headLen typ) 4

/-- The castling link brings a message of a type, with its claim and its body (R198, Table 9-1): CST is UP, castling is
enabled, and the message's head, length and CRC are right. -/
def State.hears (s : State) (bs : Bytes) (msg claim : Nat) (body : Bytes) : Prop :=
  s.portUp 16 = true ∧ s.on R.CS_CTL_en = true ∧ castParse bs = some (msg, claim, body)

/-- A PTP message of a type reaches the PTP engine of an Ethernet port (R257): the port is up and PTP runs on it, the message
is of version 2, of the device's domain, long enough, and of a type that the profile's delay mechanism uses. -/
def State.ptpHears (s : State) (p : Nat) (m : Bytes) (typ : Nat) : Prop :=
  s.ethUp p = true ∧ s.ptpOn p = true ∧ byteAt m 0 % 16 = typ ∧ byteAt m 1 % 16 = 2 ∧ byteAt m 4 = s.rd R.ET_PTPCTL_domain
    ∧ ptpLen typ ≤ m.length ∧ (typ ∈ [2, 3, 10] → s.on R.ET_PTPCTL_profile = true)
    ∧ (typ ∈ [1, 9] → s.on R.ET_PTPCTL_profile = false)

/-- A core that executes its next instruction outside a repeat and outside the delay slots of a branch (R328, R330). -/
def State.aspReady (s : State) (n : Nat) : Prop :=
  s.off = false ∧ s.spRuns n = true ∧ (s.core n).br = none ∧ (s.core n).rpt = none

/-- One instruction has executed: the program counter has advanced, the instruction is counted, HBM is as it was. -/
def State.aspWent (s t : State) (n : Nat) : Prop :=
  t.rd (R.SP_PC_pc n) = (s.rd (R.SP_PC_pc n) + 1) % 32768
    ∧ (t.word (R.SP_CNT n 0)).toNat = min ((s.word (R.SP_CNT n 0)).toNat + 1) 0xFFFFFFFF ∧ t.mem = s.mem

/-- No register of the core's bank but those listed has changed. -/
def State.aspKeeps (s t : State) (n : Nat) (l : List Nat) : Prop := ∀ i, i ∉ l → t.spGet n i = s.spGet n i

/-- What an ALU instruction with the exact result e leaves (R327): the result reduced to 32 bits in its destination, the flags,
and everything else of the core's registers. -/
def State.aluLeaves (s t : State) (n : Nat) (dst : Option (Fin 16)) (sat : Bool) (e : Int) (c : Bool) : Prop :=
  (∀ d, dst = some d → t.spGet n d.val = (reduceTo 32 sat e).1)
    ∧ t.spGet n 41 = flagWord (s.spGet n 41) false (reduceTo 32 sat e).2 (decide ((reduceTo 32 sat e).1 = 0))
      (decide (2 ^ 31 ≤ (reduceTo 32 sat e).1)) c
    ∧ s.aspKeeps t n (41 :: (dst.map Fin.val).toList) ∧ s.aspWent t n

/-- The memories of the block have their canonical form: HBM, the mailbox and the configuration store. -/
def State.memOk (s : State) : Prop := s.mem.wf = true ∧ Memory.wf s.xb.mbx = true ∧ Memory.wf s.cf.store = true

/-- Every command that waits is well formed. -/
def State.queueOk (s : State) : Prop := ∀ c ∈ s.pending, c.wf = true

end Sys2Proof.Machine
end

