-- ==== Sys2Proof/Certificates/Slice0/Obligations.lean ====
section
/-! DEFINITION. The statements for the provers. -/

open Sys2Proof Sys2Proof.Machine

/-- What moves a Uhlain or castling port between its states (the rows of Table 2-4, R36). With all configured lanes locked a
training port enters DESKEW; an UP port that lacks one of them is treated as one whose link is lost. 100 ms in TRAINING with a
lane not locked sets train_timeout and nothing else. In DESKEW, with alignment cells found on every configured lane, the port
shows the skew and enters UP up to 200 ns, and trains again with skew_err beyond; 10 ms without them set deskew_tmo and train
it again. The loss of an UP port's link ends its packet, sets went_down, and trains the port again with auto_retrain, else takes
it DOWN. The state field then reads the state it was given. -/
def Obligations.LinkStatesMove : Prop :=
  (∀ (s : State) (p : Fin 17), s.off = false →
    (∀ lanes : BitVec 4, s.rd (portState p) = 1 → s.on R.REF_STATUS_xo_lost = false →
      lanes.toNat &&& s.laneMask p = s.laneMask p →
      exec (.lanesLocked p lanes) s = .next ((s.setLanes p (s.laneMask p)).setPort p 2))
    ∧ (∀ lanes : BitVec 4, s.portUp p = true → s.on R.REF_STATUS_xo_lost = false →
      lanes.toNat &&& s.laneMask p ≠ s.laneMask p →
      exec (.lanesLocked p lanes) s = exec (.portLinkLoss p (BitVec.ofNat 4 (lanes.toNat &&& s.laneMask p))) s)
    ∧ (s.rd (portState p) = 1 → s.laneOpen p = true →
      exec (.trainingTimeout p) s = .next (s.flag (portField p R.IN_PORTSTAT_train_timeout R.CS_PORTSTAT_train_timeout)))
    ∧ (s.rd (portState p) = 2 → ∀ a : List Nat, a = (List.range (s.portLanes p)).map (fun l => smapGet 0 (s.ulp p).alAt l) →
      (0 ∉ a →
        exec (.deskewComplete p) s = .next (
          let skew := a.foldl max 0 - a.foldl min (a.headD 0)
          let s := s.wr (portField p R.IN_PORTSTAT_skew R.CS_PORTSTAT_skew) (min skew 255)
          if skew ≤ 200 then s.enterUp p
          else (s.flag (portField p R.IN_PORTSTAT_skew_err R.CS_PORTSTAT_skew_err)).train p))
      ∧ (0 ∈ a →
        exec (.deskewTimeout p) s
          = .next ((s.flag (portField p R.IN_PORTSTAT_deskew_tmo R.CS_PORTSTAT_deskew_tmo)).train p)))
    ∧ (∀ lanes : BitVec 4, s.portUp p = true →
      exec (.portLinkLoss p lanes) s = .next (
        let s := (s.leaveUp p).flag (portField p R.IN_PORTSTAT_went_down R.CS_PORTSTAT_went_down)
        let s := s.wr (portField p R.IN_PORTSTAT_lane_lock R.CS_PORTSTAT_lane_lock) lanes.toNat
        if s.on (portField p R.IN_PORTCTL_auto_retrain R.CS_PORTCTL_auto_retrain) then s.train p else s.setPort p 4)))
  ∧ (∀ (s : State) (p : Fin 17) (x : Nat), x < 8 → (s.setPort p x).rd (portState p) = x
      ∧ (s.train p).rd (portState p) = 1 ∧ (s.enterUp p).rd (portState p) = 3)

/-- What a packet does that is received whole on a ULP that is UP, of which no cell is lost, when it passes every check of
Table 2-9 that is made of its type (R39, R40, R43 to R48, R50). Its cells take their slots. A sample packet is counted and goes to
alignment with its header and its arrival. A timing packet is counted and, with an SC or a send time in it, becomes the
port's snapshot; it reaches the link references of the port, of which a port without one changes nothing. A control packet that
came with credit takes one: an ECHO_REQ queues its answer, a HOST_MSG goes to a receive slot, an ECHO_RESP does no more. A claim
packet of a domain raises H of the domain to a higher claim. -/
def Obligations.PacketsTaken : Prop :=
  (∀ (s : State) (p : Fin 16) (bs : Bytes), s.off = false → s.rxClean p = true →
    let c := s.countCells p bs.length
    (s.headOk p bs 0 → s.sampleCheck p bs = none →
      crc32c ((bs.drop 32).take (leAt bs 22 2)) = leAt bs (32 + leAt bs 22 2) 4 →
      exec (.samplePacketReceive p bs) s = .next (let d := c.inc (R.IN_CNT p 4)
        { d with ul := { d.ul with alignQ := s.ul.alignQ ++ [⟨p, leAt bs 4 2, leAt bs 6 2, leAt bs 8 2, byteAt bs 10,
            byteAt bs 11, leAt bs 12 8, leAt bs 20 2, false, false, bs, s.tb.t⟩] } }))
    ∧ (∀ ticks, s.headOk p bs 1 → bs.length = 64 → byteAt bs 6 < 6 → byteAt bs 7 < 4 → 0 < byteAt bs 7 →
      allZero ((bs.drop 26).take 2) = true → allZero ((bs.drop 46).take 14) = true →
      let ns := (s.tb.t - ticks * s.rq R.TB_INC) / nsUnit
      exec (.timingPacketReceive p bs ticks) s = .next (((c.inc (R.IN_CNT p 16)).setUlp p { c.ulp p with
          tim := ⟨leAt bs 8 8, leAt bs 16 6, leAt bs 22 4, ns / 1000000000, ns % 1000000000, byteAt bs 7⟩ }).linkEvent p
            (s.ago ticks) bs))
    ∧ (s.headOk p bs 2 → bs.length = 252 → byteAt bs 5 ≤ 240 → (s.ulp p).ctlRcvd ≠ (s.ulp p).rxLimit →
      let x := { c.ulp p with ctlRcvd := ((s.ulp p).ctlRcvd + 1) % 65536 }
      (byteAt bs 4 = 1 → exec (.controlPacketReceive p bs) s = .next ((c.setUlp p x).setUlp p { x with
          txQ := x.txQ ++ [.echo (leAt bs 6 2) (leBytes 1 (byteAt bs 5) ++ (bs.drop 8).take 240)] }))
      ∧ (byteAt bs 4 = 2 → exec (.controlPacketReceive p bs) s = .next (c.setUlp p x))
      ∧ (byteAt bs 4 = 16 → exec (.controlPacketReceive p bs) s = .next ((c.setUlp p x).placeMessage p bs)))
    ∧ (s.headOk p bs 3 → bs.length = 32 → allZero ((bs.drop 6).take 2) = true → allZero ((bs.drop 24).take 4) = true →
      s.on (R.IN_PORTCTL_dom_en p) = true → s.rq (R.IN_DOMCLM (s.rd (R.IN_PORTCTL_dom p))) < leAt bs 8 8 →
      let d := s.rd (R.IN_PORTCTL_dom p)
      exec (.claimPacketReceive p bs) s = .next { (c.wq (R.IN_DOMCLM d) (leAt bs 8 8)) with
        ul := { c.ul with domSer := smapSet 0 s.ul.domSer d (leAt bs 16 8 + 1) } }))
  ∧ (∀ (s : State) (p : Fin 16) (n arr : Nat) (bs : Bytes),
      (s.countCells p n).csr = s.csr ∧ (s.countCells p n).mem = s.mem ∧ (s.countCells p n).out = s.out
      ∧ ((s.countCells p n).ulp p).rxSlot = (s.ulp p).rxSlot + cellsOf n
      ∧ ((∀ r ∈ [6, 7], s.rd (R.REF_CFG_port r) ≠ p ∨ s.refState r = 0) → s.linkEvent p arr bs = s))

/-- What an UP port takes in below the packets, CST among them (R30, R32, R33, R35, R53). A corrected codeword of a locked lane
is counted; an uncorrectable one is counted, in the count that status cells carry too, and discards cells of its own lane. A cell whose slot comes later than one
not yet received waits on its lane; the cell of the next slot is taken: with a wrong hcrc it is counted and dropped; as the only
cell of a packet, in sequence, it is that packet. A status cell becomes the upstream's status. An alignment
cell in place clears its lane's run of misses; the third one missing in a row is the loss of the link. -/
def Obligations.CellsTaken : Prop :=
  ∀ (s : State) (p : Fin 17) (lane : Fin 4), s.off = false → s.portUp p = true →
    (∀ overlap, (s.rd (portField p R.IN_PORTSTAT_lane_lock R.CS_PORTSTAT_lane_lock)).testBit lane = true →
      exec (.codewordReceive p lane 0 overlap) s = .next s
      ∧ exec (.codewordReceive p lane 1 overlap) s = .next (s.portCount p 0)
      ∧ exec (.codewordReceive p lane 2 overlap) s = .next ((s.setUlp p { s.ulp p with
          cwUncorr := ((s.ulp p).cwUncorr + 1) % 2 ^ 32,
          overlap := smapSet 0 (s.ulp p).overlap lane (smapGet 0 (s.ulp p).overlap lane + min 4 overlap) }).portCount p 1))
    ∧ (∀ cell ticks, (lane : Nat) < s.portLanes p → byteAt cell 0 % 8 ≠ 1 → smapGet 0 (s.ulp p).overlap lane = 0 →
      ((s.ulp p).rxSlot % s.portLanes p ≠ lane → smapGet [] (s.ulp p).laneQ ((s.ulp p).rxSlot % s.portLanes p) = [] →
        exec (.cellReceive p lane ⟨cell, ticks⟩) s = .next (s.queueCell p lane (some (cell, s.ago ticks))))
      ∧ ((s.ulp p).rxSlot % s.portLanes p = lane → (∀ l < 4, smapGet [] (s.ulp p).laneQ l = []) →
        ∃ u : State, u.csr = s.csr ∧ u.mem = s.mem ∧ u.out = s.out ∧ (u.ulp p).rxSlot = (s.ulp p).rxSlot + 1
          ∧ (crc8 (cell.take 3) ≠ byteAt cell 3 → exec (.cellReceive p lane ⟨cell, ticks⟩) s = .next (u.portCount p 2))
          ∧ ((p : Nat) < 16 → crc8 (cell.take 3) = byteAt cell 3 → byteAt cell 0 % 8 = 5 →
              ((s.ulp p).rxSeq = 0 ∨ (s.ulp p).rxSeq % 256 = byteAt cell 2) →
              let x := { u.ulp p with rxSeq := byteAt cell 2 + 1, rxSkip := 0, pkt := (s.ulp p).pkt }
              exec (.cellReceive p lane ⟨cell, ticks⟩) s
                = .next (((u.setUlp p x).setUlp p { x with pkt := none }).packetTake p
                    ((cell.drop 4).take (min 252 (byteAt cell 1))) (s.ago ticks)))))
    ∧ (∀ body, s.rxClean p = true →
      let x := { s.ulp p with rxSlot := (s.ulp p).rxSlot + 1,
                              rxSeq := if (s.ulp p).rxSeq = 0 then 0 else (s.ulp p).rxSeq % 256 + 1 }
      exec (.statusCellReceive p body) s = .next (((s.setUlp p x).setUlp p { x with
          upLimit := some (leAt body 2 2), upStat := body }).wr
            (portField p R.IN_PORTSTAT_up_rx_status R.CS_PORTSTAT_up_rx_status) 1))
    ∧ (∀ inPlace ns body, (lane : Nat) < s.portLanes p → smapGet 0 (s.ulp p).overlap lane = 0 →
      let k := if inPlace = true then 0 else smapGet 0 (s.ulp p).alMiss lane + 1
      let t := s.setUlp p { s.ulp p with alMiss := smapSet 0 (s.ulp p).alMiss lane k }
      exec (.alignmentCellReceive p lane inPlace ns body) s = .next (if 3 ≤ k then
        t.portLoss p (s.rd (portField p R.IN_PORTSTAT_lane_lock R.CS_PORTSTAT_lane_lock)) else t))

/-- What a port sends (R31 to R34, R43 to R46, R52 to R54, R147, R208; Tables 2-3 and 2-6 to 2-8). An enabled port sends a status
cell as a counted cell of kind 6, and an alignment cell on every configured lane, uncounted. A claim packet carries C and
the serial number; a timing packet carries the SC epoch and the time, each only while it is valid; the oldest queued control
packet leaves within the upstream's credit, takes one, and frees its transmit slot; a stream of voltage beams sends its next packet
where the unit may transmit that sample, is counted, and moves on. What waits for traffic of higher precedence does not leave. How
the cells of a packet are laid out is said in CellsNumbered. -/
def Obligations.PortSends : Prop :=
  ∀ s : State, s.off = false →
    (∀ p : Fin 17, s.rd (portState p) ≠ 0 →
      exec (.statusCellSend p) s = .next ((s.idleFill p).sendCell p 6 (s.statusBody p))
      ∧ exec (.alignmentCellSend p) s = .next { s with out := s.out ++ (List.range (s.portLanes p)).map (fun i =>
          .cell p i (cellBytes 1 (s.ulp p).txSeq
            (leBytes 1 i ++ leBytes 1 (s.portLanes p) ++ leBytes 8 Config.serial.toNat))) })
    ∧ (∀ p : Fin 16, s.portUp p = true →
      ∃ bs, exec (.claimPacketSend p) s = .next ((s.setUlp p { s.ulp p with claimDue := false }).sendPacket p bs)
        ∧ bs.length = 32 ∧ leAt bs 0 2 = 0x4C55 ∧ byteAt bs 2 = 1 ∧ byteAt bs 3 = 3
        ∧ leAt bs 8 8 = s.rq R.CS_CLAIM % 2 ^ 64 ∧ leAt bs 16 8 = Config.serial.toNat
        ∧ leAt bs 28 4 = crc32c (bs.take 28))
    ∧ (∀ p : Fin 16, s.portUp p = true → s.on R.IN_CTL_tim_rate = true → s.mustWait p 4 = false →
      ∃ bs, exec (.timingPacketSend p) s = .next (s.sendPacket p bs)
        ∧ bs.length = 64 ∧ leAt bs 0 2 = 0x4C55 ∧ byteAt bs 2 = 1 ∧ byteAt bs 3 = 1 ∧ byteAt bs 6 = s.rd R.REF_STATUS_tq
        ∧ byteAt bs 7 = (if s.sceValid then 1 else 0) + (if s.on R.TB_STATUS_set then 2 else 0)
        ∧ leAt bs 8 8 = (if s.sceValid then s.tb.epoch.sE % 2 ^ 64 else 0)
        ∧ leAt bs 36 6 = (if s.on R.TB_STATUS_set then s.taiS % 2 ^ 48 else 0)
        ∧ leAt bs 42 4 = (if s.on R.TB_STATUS_set then s.taiNs % 2 ^ 32 else 0)
        ∧ leAt bs 60 4 = crc32c (bs.take 60))
    ∧ (∀ (p : Fin 16) rest, s.mayControl p = true → s.mustWait p 5 = false →
      (∀ i, (s.ulp p).txQ = .slot i :: rest → i < 16 →
        ∃ bs, exec (.controlPacketSend p) s = .next ((((s.setUlp p { s.ulp p with
              txQ := rest, ctlSent := ((s.ulp p).ctlSent + 1) % 65536, cseq := ((s.ulp p).cseq + 1) % 65536 }).wr
                (R.IN_CTLTX_send p) (setBit (s.rd (R.IN_CTLTX_send p)) i false)).sendPacket p bs).inc (R.IN_CNT p 19))
          ∧ bs.length = 252 ∧ leAt bs 0 2 = 0x4C55 ∧ byteAt bs 3 = 2 ∧ leAt bs 6 2 = (s.ulp p).cseq % 2 ^ 16
          ∧ leAt bs 248 4 = crc32c (bs.take 248))
      ∧ (∀ q body, (s.ulp p).txQ = .echo q body :: rest →
        ∃ bs, exec (.controlPacketSend p) s = .next (((s.setUlp p { s.ulp p with
              txQ := rest, ctlSent := ((s.ulp p).ctlSent + 1) % 65536 }).sendPacket p bs).inc (R.IN_CNT p 19))
          ∧ byteAt bs 3 = 2 ∧ byteAt bs 4 = 2 ∧ (body ≠ [] → leAt bs 6 2 = q % 2 ^ 16)))
    ∧ (∀ (p : Fin 16) b sc j first cp spc fmt, s.hasBeam = true → s.portUp p = true → s.on (R.IN_PORTCTL_tx_en p) = true →
      s.mustWait p 6 = false → s.nextVoltage p b = some (sc, j, first, cp, spc, fmt) → s.mayVoltage p sc = true →
      s.csState ≠ 5 →
      ∃ bs, exec (.voltagePacketSend p b) s = .next (State.inc { (s.sendPacket p bs) with
            ba := { s.ba with vpos := smapSet 0 s.ba.vpos (p * 2048 + b) (sc * 4096 + j + 1) } } (R.IN_CNT p 18))
        ∧ leAt bs 0 2 = 0x4C55 ∧ byteAt bs 3 = 0 ∧ leAt bs 4 2 = b % 2 ^ 16 ∧ leAt bs 6 2 = first % 2 ^ 16
        ∧ leAt bs 8 2 = cp % 2 ^ 16 ∧ leAt bs 12 8 = sc % 2 ^ 64 ∧ leAt bs 20 2 = spc % 2 ^ 16
        ∧ leAt bs 24 4 = s.rq R.CS_CLAIM % 2 ^ 32)
    ∧ (∀ p : Fin 16, s.portUp p = true → (s.ulp p).claimDue = true →
      exec (.timingPacketSend p) s = .next s ∧ exec (.controlPacketSend p) s = .next s
        ∧ ∀ b, s.csState ≠ 5 → exec (.voltagePacketSend p b) s = .next s)

/-- The writes that act on ports and stream tables, of a write that its register takes (Table 2-4, R36, R44 to R46, R49). PORT_ENABLE
takes a DISABLED or DOWN port to TRAINING and PORT_DISABLE any port to DISABLED; a transmit slot not yet queued goes to
the end of the port's queue; occupied receive slots that are named are freed, and the advertised limit advances by their
number; a table commit that no reason of R49 refuses binds the shadow to its round, and a refused one shows the reason and
the stream; a domain reset sets H of each named domain to 0 unless a port of one of them is not DISABLED. -/
def Obligations.PortWrites : Prop :=
  (∀ (s : State) (m : Fin 20) (v : Word),
    (∀ p : Fin 17, let f := portField p R.IN_PORTCTL_en R.CS_PORTCTL_en;
      (s.takes m f.a (force v f 1) → (s.rd (portState p) = 0 ∨ s.rd (portState p) = 4) →
        ∃ t : State, t = (s.landed m f.a (force v f 1)).portWritten p true ∧ exec (.portEnable m p v) s = .next (t.okResp [])
          ∧ t.rd (portState p) = 1 ∧ t.on f = true ∧ t.mem = s.mem)
      ∧ (s.takes m f.a (force v f 0) →
        ∃ t : State, t = (s.landed m f.a (force v f 0)).portWritten p false ∧ exec (.portDisable m p v) s = .next (t.okResp [])
          ∧ t.rd (portState p) = 0 ∧ t.on f = false ∧ t.mem = s.mem))
    ∧ (∀ p : Fin 16, s.takes m (R.IN_CTLTX_send p).a v →
      exec (.controlTxQueue m p v) s = .next ((s.controlQueue p v.toNat).okResp []))
    ∧ (∀ p : Fin 16, s.takes m (R.IN_CTLFREE_free p).a v →
      exec (.controlSlotFree m p v) s
        = .next (((s.landed m (R.IN_CTLFREE_free p).a v).slotFree p (v.toNat % 65536)).okResp []))
    ∧ (let w := force v R.IN_STRCMT_commit 1;
      s.takes m R.IN_STRCMT_commit.a w →
      exec (.streamTableCommit m v) s = .next (((s.landed m R.IN_STRCMT_commit.a w).streamCommit).okResp []))
    ∧ (s.takes m R.IN_DOMRST_reset.a v →
      (∀ p < 16, s.on (R.IN_PORTCTL_dom_en p) = true → v.toNat.testBit (s.rd (R.IN_PORTCTL_dom p)) = true →
        s.rd (portState p) = 0) →
      ∃ t, exec (.claimDomainReset m v) s = .next t ∧ t.mem = s.mem ∧ t.out = s.out
        ∧ (∀ d < 16, t.rq (R.IN_DOMCLM d) = if v.toNat.testBit d then 0 else s.rq (R.IN_DOMCLM d))))
  ∧ (∀ (s : State) (p i : Nat), i < 16 → s.controlQueue p (2 ^ i) = if (s.rd (R.IN_CTLTX_send p)).testBit i then s
      else (s.setUlp p { s.ulp p with txQ := (s.ulp p).txQ ++ [.slot i] }).wr (R.IN_CTLTX_send p)
        (setBit (s.rd (R.IN_CTLTX_send p)) i true))
  ∧ (∀ (s : State) (p mask : Nat),
      let hit := (List.range 16).filter (fun i => mask.testBit i && (s.ulp p).rxOcc.testBit i);
      (hit = [] → s.slotFree p mask = s)
      ∧ (hit ≠ [] → ∃ t : State, s.slotFree p mask = t.statusSend p ∧ (t.ulp p).rxLimit = ((s.ulp p).rxLimit + hit.length) % 65536
          ∧ ∀ i, (t.ulp p).rxOcc.testBit i = ((s.ulp p).rxOcc.testBit i && !(hit.contains i))))
  ∧ (∀ s : State, (∀ r a, s.streamReason = some (r, a) →
        s.streamCommit = ((s.wr R.IN_STRERR_reason r).wr R.IN_STRERR_stream a).flag R.IN_STRERR_err)
      ∧ (∀ n, s.streamReason = none → s.bindTo (s.on R.IN_STRCMT_tgt) (s.rq R.IN_STRTGT) = some n →
        ∃ t, s.streamCommit = t ∧ t.ul.tables = bindRound s.ul.tables n s.streamShadow ∧ t.rq R.IN_STRBND = n % 2 ^ 64
          ∧ t.rd R.IN_STATUS_str_pending = 1 ∧ t.bound = s.bound ++ [(n, .streams)] ∧ t.mem = s.mem))

/-- The writes that act on alignment, of a write that its register takes (R60, R67, R77, R78, R81). The enable is refused with the
lowest reason and en stays 0, or alignment starts at the first round after H with no round open; the disable closes every round and
clears active; a window binds to the next boundary; a freeze is refused while a capture is held or a freeze waits, and
otherwise, while alignment writes slabs with the capture buffer and round m is not too old nor without a slab, it waits for
round m; a release ends the held capture, with its instance in the output, and fires E086. -/
def Obligations.AlignWrites : Prop :=
  (∀ (s : State) (m : Fin 20) (v : Word),
    (let w := force v R.AL_CTL_en 1;
      s.takes m R.AL_CTL_en.a w → s.on R.AL_CTL_en = false →
      exec (.alignmentEnable m v) s = .next (((s.landed m R.AL_CTL_en.a w).alignEnable).okResp []))
    ∧ (let w := force v R.AL_CTL_en 0;
      s.takes m R.AL_CTL_en.a w → s.on R.AL_CTL_en = true →
      exec (.alignmentDisable m v) s = .next (((s.landed m R.AL_CTL_en.a w).alignDisable).okResp []))
    ∧ (s.takes m R.AL_WIN_win_us.a v →
      ∃ t, exec (.windowChange m v) s = .next t ∧ t.rd R.AL_WIN_win_us = v.toNat % 2 ^ 13
        ∧ t.bound = s.bound ++ [(s.nextRound, .win (v.toNat % 2 ^ 13))] ∧ t.rd R.AL_STATUS_w_pending = 1
        ∧ t.al = s.al ∧ t.mem = s.mem ∧ t.out = s.out)
    ∧ (let w := force v R.AL_CAPCTL_freeze 1;
      s.takes m R.AL_CAPCTL_freeze.a w → v.toNat.testBit 1 = false →
      exec (.freezeCommand m v) s = .next (((s.landed m R.AL_CAPCTL_freeze.a w).freezeCommand).okResp []))
    ∧ (let w := force v R.AL_CAPCTL_release 1;
      s.takes m R.AL_CAPCTL_release.a w → v.toNat.testBit 0 = false → s.on R.AL_STATUS_cap_held = true →
      ∃ t, exec (.captureRelease m v) s = .next t ∧ t.on R.AL_STATUS_cap_held = false ∧ (86, 0) ∈ t.evq
        ∧ t.ot.insts = s.ot.insts.filter (fun x => x.typ ≠ 5) ∧ t.al = s.al ∧ t.mem = s.mem ∧ t.out = s.out))
  ∧ (∀ s : State,
    (∀ r, s.alignReason = some r →
      s.alignEnable = ((s.wr R.AL_CTL_en 0).wr R.AL_STATUS_cfg_reason r).flag R.AL_STATUS_cfg_err)
    ∧ (s.alignReason = none →
      let n := if s.horizon < s.origin then 0 else (s.horizon - s.origin) / s.roundLen + 1;
      s.alignEnable.al.nextStart = n ∧ s.alignEnable.al.first = n ∧ s.alignEnable.al.open_ = []
        ∧ s.alignEnable.on R.AL_STATUS_active = !s.on R.AL_STATUS_endgame ∧ s.alignEnable.mem = s.mem)
    ∧ s.alignDisable.al.open_ = [] ∧ s.alignDisable.on R.AL_STATUS_active = false ∧ s.alignDisable.mem = s.mem
    ∧ (∃ m, s.freezeCommand = (s.freezeRound m).1 ∧ (s.on R.AL_CAPCTL_tgt = true → m = s.rq R.AL_CAPRND))
    ∧ (∀ m, (s.on R.AL_STATUS_cap_held = true ∨ s.al.freeze.isSome = true) →
      s.freezeRound m = (s.freezeRefuse 2, false))
    ∧ (∀ m, s.on R.AL_STATUS_cap_held = false → s.al.freeze = none → s.al.nextStart ≤ m + 2 →
      s.on R.AL_CTL_cap_en = true → s.on R.AL_STATUS_endgame = false → s.al.first ≤ m → m ∉ s.al.noSlab →
      s.on R.AL_CTL_en = true →
      (s.freezeRound m).1.al = { s.al with freeze := some m } ∧ (s.freezeRound m).1.rd R.AL_CAPSTAT_result = 1
        ∧ (s.freezeRound m).1.rd R.AL_CAPSTAT_pending = 1))

/-- The commands that move the horizon and place packets (R25, R26, R61 to R65, R80). ROUND_BOUNDARY acts on every boundary
reached, in order, and then on the horizon; each moves the front by one round, takes the changes bound up to it, and fires E080.
HORIZON_ADVANCE places the packets that came before now and moves H to its candidate. INGEST_ROUND_START, in time mode, starts the
rounds that are due; a round that starts is open and the next to start is the one after it. PACKET_PLACE takes the oldest accepted packet.
REPAIR_BITMAP_SEND, when the time of the next span still open has come, sends its bitmaps and moves on. -/
def Obligations.AlignRuns : Prop :=
  ∀ s : State,
    (s.off = false →
      exec .roundBoundary s = .next (s.passBoundaries.moveHorizon.handCheck).joinCheck
      ∧ exec .horizonAdvance s = .next (s.moveHorizon.handCheck).joinCheck
      ∧ (s.timeMode = true → exec .ingestRoundStart s = .next (s.placeAll.startDue s.placeAll.tb.t false))
      ∧ (∀ x rest, s.ul.alignQ = x :: rest →
        exec .packetPlace s = .next (State.alignPacket { s with ul := { s.ul with alignQ := rest } } x))
      ∧ (let m := max s.al.sentSpan (s.horizon / 256);
        s.repairOn = true →
        taiOf s.tb.epoch (256 * (m + 1)) + ((s.win : Int) - s.rd R.AL_RPRCTL_lead_us) * 1000 * 2 ^ 48 ≤ s.tb.t →
        ∃ t, exec .repairBitmapSend s = .next t ∧ t.al = { s.al with sentSpan := m + 1 } ∧ t.csr = s.csr ∧ t.mem = s.mem))
    ∧ (∀ n, (s.boundaryAt n).rnd = n + 1 ∧ (80, 0) ∈ (s.boundaryAt n).evq
        ∧ ∀ c ∈ (s.boundaryAt n).bound, n < c.1)
    ∧ (∀ n jump, (s.ingestStart n jump).al.nextStart = n + 1 ∧ n ∈ (s.ingestStart n jump).al.open_)
    ∧ (∀ x : Accepted, s.timeMode = true → s.alignPacket x =
        let t := s.moveTo x.stamp;
        ((if t.on R.AL_CTL_en then t.placePacket x else t).noteReach x).moveTo x.stamp)

/-- The writes that act on the Board, of a write that its register takes (Table 4-3, R95, R98, R103, R104). With alignment on and a valid
pairing table the enable takes an IDLE Board to WAIT, without them it is refused and en stays 0; it takes a HALTED Board to WAIT outside
Endgame, and any other state keeps. The disable takes WAIT, with its queue, and HALTED to IDLE, and a Board in RUN finishes its round.
A halt takes RUN to HALTING with a marker to come, and WAIT with no drain outstanding to HALTED. A drain request in RUN waits for a
marker. A table commit is refused for its count or table, for a pending commit or for a round begun, or else binds the table to its
round. A line's new position waits for a marker. -/
def Obligations.BoardWrites : Prop :=
  (∀ (s : State) (m : Fin 20) (v : Word),
    (∀ w L, w = force v R.BD_CTL_en 1 → L = s.landed m R.BD_CTL_en.a w → s.takes m R.BD_CTL_en.a w →
      v.toNat.testBit 1 = false → v.toNat.testBit 2 = false →
      (s.bdState = 0 → s.on R.AL_CTL_en = true → s.tableValid = true →
        exec (.boardEnable m v) s = .next ((L.setBd 1).okResp []))
      ∧ (s.bdState = 0 → (s.on R.AL_CTL_en = false ∨ s.tableValid = false) →
        exec (.boardEnable m v) s
          = .next ((((L.wr R.BD_CTL_en 0).wr R.BD_STATUS_tbl_reason 7).flag R.BD_STATUS_tbl_err).okResp []))
      ∧ (s.bdState = 4 → s.on R.CK_STATUS_endgame = false → exec (.boardEnable m v) s = .next ((L.setBd 1).okResp []))
      ∧ ((s.bdState = 1 ∨ s.bdState = 2 ∨ s.bdState = 3) → exec (.boardEnable m v) s = .next (L.okResp [])))
    ∧ (∀ w L, w = force v R.BD_CTL_en 0 → L = s.landed m R.BD_CTL_en.a w → s.takes m R.BD_CTL_en.a w →
      v.toNat.testBit 1 = false → v.toNat.testBit 2 = false →
      (s.bdState = 1 → exec (.boardDisable m v) s = .next (((L.setBd 0).dropQueue).okResp []))
      ∧ (s.bdState = 4 → exec (.boardDisable m v) s = .next ((L.setBd 0).okResp []))
      ∧ (s.bdState = 2 → exec (.boardDisable m v) s = .next (L.okResp [])))
    ∧ (∀ w L, w = force v R.BD_CTL_halt 1 → L = s.landed m R.BD_CTL_halt.a w → s.takes m R.BD_CTL_halt.a w →
      v.toNat.testBit 0 = true → v.toNat.testBit 2 = false →
      (s.bdState = 2 → s.bd.drains = 0 → exec (.boardHalt m v) s = .next ((((State.setBd (State.wr { L with
          bd := { L.bd with halting := true } } R.BD_STATUS_drain_busy 1) 3).inc (R.BD_CNT 5)).dropQueue).okResp []))
      ∧ (s.bdState = 1 → s.bd.plies = [] → s.bd.queue = [] → exec (.boardHalt m v) s
        = .next ((((L.inc (R.BD_CNT 5)).flag R.BD_STATUS_drain_done).setBd 4).okResp [])))
    ∧ (∀ w c, w = force v R.BD_CTL_drain 1 → s.takes m R.BD_CTL_drain.a w →
      v.toNat.testBit 0 = true → v.toNat.testBit 1 = false → s.bdState = 2 → s.bd.cur = some c →
      exec (.drainRequest m v) s = .next ((let L := s.landed m R.BD_CTL_drain.a w;
        let L := if s.bd.drains ≠ 0 ∨ s.bd.halting = true then L.inc (R.BD_CNT 2) else L;
        State.wr { L with bd := { L.bd with drains := s.bd.drains + 1 } } R.BD_STATUS_drain_busy 1).okResp []))
    ∧ (∀ w, w = force v R.BD_PTCMT_commit 1 → s.takes m R.BD_PTCMT_commit.a w →
      exec (.pairingTableCommit m v) s = .next (((s.landed m R.BD_PTCMT_commit.a w).pairingCommit).okResp []))
    ∧ (∀ x : Fin 24, s.takes m (lineOut x).a v →
      ∃ t, exec (.remapWrite m x v) s = .next t ∧ t.rd (lineOut x) = v.toNat % 128
        ∧ (v.toNat % 128 ≠ s.rd (lineOut x) → t.rd (linePend x) = 1) ∧ t.bd = s.bd ∧ t.mem = s.mem ∧ t.out = s.out))
  ∧ (∀ s : State,
    let cnt := s.rd R.BD_PTCMT_cnt;
    let es := (List.range cnt).map (fun e => (s.word (R.BD_PTBL_r e).a).toNat);
    let refused := fun r => (s.wr R.BD_STATUS_tbl_reason r).flag R.BD_STATUS_tbl_err;
    let bnd := s.bindTo (s.on R.BD_PTCMT_tgt) (s.rq R.BD_PTTGT);
    (32 < cnt → s.pairingCommit = refused 1)
    ∧ (cnt ≤ 32 → (∀ r, tableReason s.blocks es = some r → s.pairingCommit = refused r)
      ∧ (tableReason s.blocks es = none →
        (s.on R.BD_STATUS_tbl_pending = true → s.pairingCommit = refused 6)
        ∧ (s.on R.BD_STATUS_tbl_pending = false →
          (bnd = none → s.pairingCommit = refused 8)
          ∧ (∀ n, bnd = some n → s.loadBinds 2 n = false → s.pairingCommit = ((State.wq { s with
              bd := { s.bd with tables := bindRound s.bd.tables n ⟨s.blocks, es⟩ } } R.BD_PTBND n).wr
                R.BD_STATUS_tbl_pending 1).bindChange n .pairing)))))

/-- The commands of the Board's passes (R92, R94 to R97, R99 to R102, R186 to R189). The oldest sealed round that is ready starts from
WAIT; a marker due ends the pass in progress, one placed for a drain splits it, and one placed for a halt leaves no ply in progress; a
marker held behind a short ply and a wait of the feeders are counted; the oldest travelling ply is held at the end of its drain and the
rates are shown; the oldest held ply takes the status that its residuals give: with everything in order its results are handed over; invalid when
poisoned, or unlocatable in a re-run or with no re-run left; and run again when it is unlocatable and a re-run is left. The oldest ply
written is removed, counted, fires E083, and shows drain_done when it was asked for. -/
def Obligations.BoardRuns : Prop :=
  (∀ s : State, s.off = false →
    (∀ n, s.bdState = 1 → s.bd.cur = none → s.readyRound = some n → exec .boardRoundStart s = .next (s.startRound n true))
    ∧ (∀ (c : CurPly) t, s.bd.cur = some c → s.bd.halting = false → c.stop ≤ t → c.t0 ≤ c.stop → s.bd.drains = 0 →
      exec (.plyMarkerIssue t) s = .next ((s.closePly c c.stop false).boardTestStep.afterPass))
    ∧ (∀ (c : CurPly) t, s.bd.cur = some c → s.bd.halting = false → c.cut = none → t < c.stop → c.t0 ≤ t → s.bd.drains ≠ 0 →
      exec (.plyMarkerIssue t) s = .next (let u := (s.inc (R.BD_CNT 1)).closePly c t true;
        State.showPass { u with bd := { u.bd with cur := some { c with idx := c.idx + 1, t0 := t } } }))
    ∧ (∀ (c : CurPly) t, s.bd.cur = some c → s.bd.halting = true → c.cut = none → t < c.stop → c.t0 ≤ t →
      exec (.plyMarkerIssue t) s = .next (let u := (s.closePly c t true).abandon (fun _ => true);
        State.showPass { u with bd := { u.bd with cur := none } }))
    ∧ (∀ p q rest, s.bd.plies = p :: q :: rest → p.stage = .marker → p.t1 - p.t0 < 521 →
      exec .markerRelease s = .next (s.inc (R.BD_CNT 3)))
    ∧ (∀ c, s.bd.cur = some c → exec .feederWaitEnd s = .next (s.inc (R.BD_CNT 4)))
    ∧ (∀ p rate least, s.firstPly .marker = some p →
      exec (.passEnd rate least) s = .next (let u := s.movePly p { p with stage := .held };
        let u := if p.rerun = false ∧ p.t1 = s.roundLen ∧ p.cut = false then u.wq R.BD_PASSDONE (s.rq R.BD_PASSDONE + 1) else u;
        (u.wr R.BD_RATE_last_pass (min rate 65535)).wr R.BD_RATE_min_round (min least 65535)))
    ∧ (∀ p f, s.firstPly .held = some p → f.kv = [] →
      let r := s.residuals p f;
      let l := s.limCells p f;
      let u := s.movePly p { p with stage := .writing };
      exec (.plyStatusFinal f) s
        = .next ((if l = [] then u else (u.incBy (R.BD_CNT 8) l.length).flag R.BD_STATUS_limit).plyStatus p f r (classify r)))
    ∧ exec .drainComplete s = .next s.drainDone.joinCheck
    ∧ (∀ p, s.firstPly .writing = some p → s.bdState ≠ 3 → s.bd.live = [] → s.drainDone = (
      let u := ((State.inc { s with bd := { s.bd with plies := s.bd.plies.filter (fun x => x ≠ p) } } (R.BD_CNT 0)).fire 83);
      let u := if p.asked = true then u.flag R.BD_STATUS_drain_done else u;
      (u.wr R.BD_STATUS_drain_busy
        (if s.bd.drains ≠ 0 ∨ (∃ x ∈ s.bd.plies, x ≠ p ∧ x.asked = true) then 1 else 0)).settle)))
  ∧ (∀ (s : State) (p : Ply) (f : PlyFaults) (r : Resid) (v : Verdict),
    (p.poison = true → s.plyStatus p f r v = s.plyInvalid p f v)
    ∧ (p.poison = false → v.status = 2 →
      (p.rerun = true → s.plyStatus p f r v = s.plyInvalid p f v)
      ∧ (p.rerun = false →
        (s.rerunsDone p.round = true → s.plyStatus p f r v = (s.flag R.IG_STATUS_rr_limit).plyInvalid p f v)
        ∧ (s.rerunsDone p.round = false → s.plyStatus p f r v = s.orderRerun p r)))
    ∧ (p.poison = false → v.status ≠ 2 → v.kind = 0 → v.checker = false → p.rerun = false →
      s.plyStatus p f r v = (s.plyToGroups p f v v.status).noteFix p v))

/-- The group commands and the commit of the Pair Map journal, of a write that its register takes (R111, R120 to R122): each acts on the
group that AG_CMD names, and answers with a reason in AG_CMDRES. What the commands do is said in GroupCommandsAct, what the commit does
here: it is refused, in this order, for its count, for an entry that breaks R109 after the edits, for a full taint table, while a
journal waits, for a round begun, in direct mode; otherwise its edits wait for their round. -/
def Obligations.GroupWrites : Prop :=
  (∀ (s : State) (m : Fin 20) (v : Word),
    let g := getBits v.toNat 8 6;
    let tgt := decide (getBits v.toNat 4 1 = 1);
    (∀ w, w = force v R.AG_CMD_op 1 → s.takes m R.AG_CMD_op.a w →
      exec (.groupOpen m v) s = .next (((s.landed m R.AG_CMD_op.a w).groupOpen g).okResp []))
    ∧ (∀ w, w = force v R.AG_CMD_op 2 → s.takes m R.AG_CMD_op.a w →
      exec (.groupClose m v) s = .next (((s.landed m R.AG_CMD_op.a w).groupEnd g false tgt).okResp []))
    ∧ (∀ w, w = force v R.AG_CMD_op 3 → s.takes m R.AG_CMD_op.a w →
      exec (.groupAbort m v) s = .next (((s.landed m R.AG_CMD_op.a w).groupEnd g true tgt).okResp []))
    ∧ (∀ w, w = force v R.AG_PMCMT_commit 1 → s.takes m R.AG_PMCMT_commit.a w →
      exec (.pairMapCommit m v) s = .next (((s.landed m R.AG_PMCMT_commit.a w).pmCommit).okResp [])))
  ∧ (∀ s : State,
    let cnt := s.rd R.AG_PMCMT_cnt;
    let es := (List.range cnt).map (fun e => (s.rd (R.AG_PMJ0_row e), s.rd (R.AG_PMJ0_col e), s.rd (R.AG_PMJ1_value e)));
    let new := applyEdits s.ag.pm es;
    let bnd := s.bindTo (s.on R.AG_PMCMT_tgt) (s.rq R.AG_PMTGT);
    let room := fun b => s.ag.taints.length + (s.newTaints (s.applyTaints b es)).length;
    ((cnt = 0 ∨ 16384 < cnt) → s.pmCommit = s.pmRefuse 1 0 0 0)
    ∧ (0 < cnt → cnt ≤ 16384 →
      (s.mapValid new = false → ∃ r ∈ [2, 3, 4], ∃ e row col, s.pmCommit = s.pmRefuse r e row col)
      ∧ (s.mapValid new = true →
        (65536 < room (bnd.getD (s.rq R.AG_PMTGT)) → s.pmCommit = s.pmRefuse 5 0 0 0)
        ∧ (room (bnd.getD (s.rq R.AG_PMTGT)) ≤ 65536 →
          (s.ag.pmj ≠ none → s.pmCommit = s.pmRefuse 6 0 0 0)
          ∧ (s.ag.pmj = none →
            (bnd = none → s.pmCommit = s.pmRefuse 7 0 0 0)
            ∧ (∀ b, bnd = some b →
              (s.on R.AG_CTL_pm_direct = true → s.pmCommit = s.pmRefuse 8 0 0 0)
              ∧ (s.on R.AG_CTL_pm_direct = false → s.pmCommit = (State.wq { s with
                  ag := { s.ag with pmj := some (b, es) } } R.AG_PMBND b).wr R.AG_STATUS_pm_pending 1)))))))

/-- What a group command does once it is taken (R119 to R122). OPEN that no condition of R121 refuses arms the group at its start round
with integration 0; CLOSE and ABORT bind one command to one round and leave the group's state; a refused command shows its reason,
sets cmd_err, and changes nothing else: 1 for a group that does not exist, 8 for a round begun, 9 for OPEN of an open group and for CLOSE
and ABORT of one that is OFF, 10 when a command waits or the group is ENDING. -/
def Obligations.GroupCommandsAct : Prop :=
  ∀ (s : State) (g : Nat),
    ((∀ r, s.openReason g = some r → s.groupOpen g = s.cmdRes g r)
    ∧ (62 < g → s.openReason g = some 1) ∧ (g ≤ 62 → s.gState g ≠ 0 → s.openReason g = some 9)
    ∧ (s.openReason g = none → s.groupOpen g = (((s.setGrp g { (default : Grp) with s := s.rq (R.AG_GSTART g) }).wr
        (R.AG_GSTAT_state g) 1).wq (R.AG_GINT g) 0).cmdRes g 0))
    ∧ (∀ abort tgt, let bnd := s.bindTo tgt (s.rq R.AG_CMDTGT);
      (62 < g → s.groupEnd g abort tgt = s.cmdRes g 1)
      ∧ (g ≤ 62 → (bnd = none → s.groupEnd g abort tgt = s.cmdRes g 8)
        ∧ (∀ b, bnd = some b →
          (s.gState g = 0 → s.groupEnd g abort tgt = s.cmdRes g 9)
          ∧ (s.gState g ≠ 0 → ((s.grp g).cmd ≠ none ∨ s.gState g = 4) → s.groupEnd g abort tgt = s.cmdRes g 10)
          ∧ (s.gState g ≠ 0 → s.gState g ≠ 4 → (s.grp g).cmd = none → s.groupEnd g abort tgt
              = (((s.setGrp g { s.grp g with cmd := some (abort, b) }).wq R.AG_CMDBND b).cmdPending).cmdRes g 0))))
    ∧ (∀ r, r < 16 → g < 64 → (s.cmdRes g r).rd R.AG_CMDRES_reason = r ∧ (s.cmdRes g r).rd R.AG_CMDRES_group = g
        ∧ (s.cmdRes g r).on R.AG_CMDRES_valid = true ∧ (r ≠ 0 → (s.cmdRes g r).on R.AG_STATUS_cmd_err = true)
        ∧ (s.cmdRes g r).ag = s.ag ∧ (s.cmdRes g r).mem = s.mem)

/-- How the Pair Map changes (R110 to R113). At the round of a committed journal the map becomes the map with the edits, the journal waits
no more, and the digest is being formed; the digest, when done, is that of the map as it stands. A direct write in direct mode gives its one
entry the value written and changes no other entry, and is answered without error. -/
def Obligations.PairMapChanges : Prop :=
  ∀ s : State, s.off = false →
    (∀ b es, s.ag.pmj = some (b, es) → s.begun b = true →
      ∃ t, exec .pairMapApply s = .next t ∧ t.ag.pm = applyEdits s.ag.pm es ∧ t.ag.pmj = none
        ∧ t.ag.taints = s.ag.taints ++ s.newTaints (s.applyTaints b es)
        ∧ t.on R.AG_STATUS_pm_pending = false ∧ t.on R.AG_STATUS_dig_busy = true ∧ t.mem = s.mem ∧ t.out = s.out)
    ∧ (s.on R.AG_STATUS_dig_busy = true → s.mg.digs = none →
      exec .pairMapDigestDone s
        = .next ((s.wq R.AG_PMDIG (leNat ((sha384 (pmBytes s.ag.pm)).take 8))).wr R.AG_STATUS_dig_busy 0))
    ∧ (∀ (m : Fin 20) (u v : Fin 4096) (x : BitVec 16), hasPath m 2 = true → s.quiesced m = false →
      (m.val = 0 → s.on R.MG_STATUS_ready = true) → s.on R.AG_CTL_pm_direct = true →
      ∃ t, exec (.pairMapDirectWrite m u v x) s = .next t ∧ smapGet 0 t.ag.pm (u.val * 4096 + v.val) = x
        ∧ (∀ k, k ≠ u.val * 4096 + v.val → smapGet 0 t.ag.pm k = smapGet 0 s.ag.pm k)
        ∧ t.resp = ⟨[], false⟩ ∧ t.csr = s.csr ∧ t.mem = s.mem ∧ t.out = s.out)

/-- The writes that act on the Beam Array, of a write that its register takes (Table 6-2, R138, R141 to R143, R145). The enable of an IDLE
array is refused with its reason, en staying 0, or takes it to WAIT with nothing queued; outside Endgame it takes a HALTED array to
WAIT in the same way; a waiting one stays. The disable takes WAIT and HALTED to IDLE, with nothing queued, and a round in progress goes
on. A halt in WAIT or RUN takes the array to HALTED with no round and nothing queued. A write of BA_WSEL confirms and selects weight sets
as said in WeightSetsSwitch. A commit is refused with the reason of its shadow, or while a commit waits, or for a round begun, or
else binds the shadow to its round. -/
def Obligations.BeamWrites : Prop :=
  (∀ (s : State) (m : Fin 20) (v : Word),
    (∀ w L, w = force v R.BA_CTL_en 1 → L = s.landed m R.BA_CTL_en.a w → s.takes m R.BA_CTL_en.a w →
      v.toNat.testBit 1 = false →
      let start := (State.wr { L with ba := { L.ba with start := none, queue := [] } } R.BA_STATUS_state 1).okResp [];
      (s.baState = 0 → (L.baReason = none → exec (.beamArrayEnable m v) s = .next start)
        ∧ (∀ r, L.baReason = some r →
            exec (.beamArrayEnable m v) s = .next (((L.baRefuse r).wr R.BA_CTL_en 0).okResp [])))
      ∧ (s.baState = 3 → s.on R.CK_STATUS_endgame = false → L.baReason = none → exec (.beamArrayEnable m v) s = .next start)
      ∧ (s.baState = 1 → exec (.beamArrayEnable m v) s = .next (L.okResp [])))
    ∧ (∀ w L, w = force v R.BA_CTL_en 0 → L = s.landed m R.BA_CTL_en.a w → s.takes m R.BA_CTL_en.a w →
      v.toNat.testBit 1 = false →
      ((s.baState = 1 ∨ s.baState = 3) → exec (.beamArrayDisable m v) s
        = .next ((State.wr { L with ba := { L.ba with queue := [] } } R.BA_STATUS_state 0).okResp []))
      ∧ ((s.baState = 0 ∨ s.baState = 2) → exec (.beamArrayDisable m v) s = .next (L.okResp [])))
    ∧ (∀ w L, w = force v R.BA_CTL_halt 1 → L = s.landed m R.BA_CTL_halt.a w → s.takes m R.BA_CTL_halt.a w →
      v.toNat.testBit 0 = true → s.on R.BA_CTL_en = true → (s.baState = 1 ∨ s.baState = 2) →
      exec (.beamArrayHalt m v) s = .next (L.beamHalt.okResp []))
    ∧ (∀ w, w = force v R.BA_WSEL_commit 1 → s.takes m R.BA_WSEL_commit.a w →
      exec (.weightSetSwitch m v) s = .next (((s.landed m R.BA_WSEL_commit.a w).weightSelect
        true (v.toNat.testBit 4) (v.toNat.testBit 5)).okResp []))
    ∧ (s.takes m R.BA_WSEL_commit.a v → v.toNat.testBit 0 = false →
      exec (.weightSetConfirm m v) s
        = .next (((s.landed m R.BA_WSEL_commit.a v).weightSelect false (v.toNat.testBit 4) (v.toNat.testBit 5)).okResp []))
    ∧ (∀ w, w = force v R.BA_BCMT_commit 1 → s.takes m R.BA_BCMT_commit.a w →
      exec (.beamConfigCommit m v) s = .next (((s.landed m R.BA_BCMT_commit.a w).beamCommit).okResp [])))
  ∧ (∀ s : State,
    ((s.baState = 1 ∨ s.baState = 2) → s.beamHalt.baState = 3 ∧ s.beamHalt.ba.queue = [] ∧ s.beamHalt.ba.round = none)
    ∧ (∀ r i, s.beamReason s.beamShadow = some (r, i) → r ≠ 11 → s.beamCommit = s.baErr r i)
    ∧ (s.beamReason s.beamShadow = none →
      (s.on R.BA_STATUS_b_pending = true → s.beamCommit = s.baErr 9 0)
      ∧ (s.on R.BA_STATUS_b_pending = false → let bnd := s.bindTo (s.on R.BA_BCMT_tgt) (s.rq R.BA_BTGT);
        (bnd = none → s.beamCommit = s.baErr 10 0)
        ∧ (∀ n, bnd = some n → s.beamCommit = ((State.wq { s with
            ba := { s.ba with cfgs := bindRound s.ba.cfgs n s.beamShadow } } R.BA_BBND n).wr R.BA_STATUS_b_pending 1).bindChange
              n .beams))))

/-- What a write of BA_WSEL does to the weight sets (R142, R143). Confirming a set clears its unverified mark and changes no set. A switch is
refused while one waits, for a round begun, and to an unverified set; otherwise it binds the selected set to its round, shows the
round, and the set's digest is being formed. -/
def Obligations.WeightSetsSwitch : Prop :=
  ∀ s : State,
    s.weightSelect false true false = s.wr R.BA_STATUS_unv_a 0
    ∧ s.weightSelect false false true = s.wr R.BA_STATUS_unv_b 0
    ∧ (∀ a b, s.weightSelect true a b = (s.weightSelect false a b).weightSelect true false false)
    ∧ (s.on R.BA_STATUS_w_pending = true → s.weightSelect true false false = s.baErr 9 0)
    ∧ (s.on R.BA_STATUS_w_pending = false → let bnd := s.bindTo (s.on R.BA_WSEL_tgt) (s.rq R.BA_WTGT);
      (bnd = none → s.weightSelect true false false = s.baErr 10 0)
      ∧ (∀ n, bnd = some n → let x := s.rd R.BA_WSEL_sel;
        ((if x = 0 then s.on R.BA_STATUS_unv_a else s.on R.BA_STATUS_unv_b) = true →
          s.weightSelect true false false = s.baErr 12 0)
        ∧ ((if x = 0 then s.on R.BA_STATUS_unv_a else s.on R.BA_STATUS_unv_b) = false →
          s.weightSelect true false false = (((State.wq { s with
            ba := { s.ba with sets := bindRound s.ba.sets n x, dig := s.ba.dig ++ [x] } } R.BA_WBND n).wr
              R.BA_STATUS_w_pending 1).wr R.BA_STATUS_dig_busy 1).bindChange n .weights)))

/-- The commands of the Beam Array's rounds (R140, R143, R148, R190). From WAIT the oldest sealed round whose plan is admitted takes the
staging and is over when its plan admits no class, else it starts with the first two weight banks loaded. A comparison that differs marks
its slice and the first sample suppressed, one that does not changes nothing. A channel-set without a mark is staged and counted and the next one
begins; the first one with a mark, not poisoned and with a re-run left, is staged up to the mark and run again from it; with a mark
again it is invalid from there. A digest, when done, is that of the set it names. -/
def Obligations.BeamRuns : Prop :=
  ∀ s : State, s.off = false →
    (∀ n rest, s.baState = 1 → s.ba.queue = n :: rest → s.planOf n ≠ none → s.regionHolds [4] n = false →
      exec .beamRoundStart s = .next (let w := (s.takeStaging n).shedBeams n;
        if w.admitted n = 0 then w.beamOver n
        else
          let w := { w with ba := { w.ba with
            round := some n, cs := 0, t0 := 0, again := false, fail := none, failSl := 0, poison := false } }
          let w := (w.loadBank n 0).loadBank n 1;
          (((w.wq R.BA_ROUND n).wr R.BA_STATUS_active_set (w.wsetOf n)).wr R.BA_STATUS_state 2).startWork n))
    ∧ (∀ n (sl : Fin 16) d t cols chk, s.ba.round = some n → s.ba.t0 ≤ t → t < s.roundLen →
      (s.sliceDiffers n s.ba.cs sl d t cols chk = false → exec (.beamCheckMismatch ⟨sl, d, t, cols, chk⟩) s = .next s)
      ∧ (s.sliceDiffers n s.ba.cs sl d t cols chk = true → s.ba.fail = none →
        exec (.beamCheckMismatch ⟨sl, d, t, cols, chk⟩) s
          = .next { s with ba := { s.ba with failSl := sl, fail := some t } }))
    ∧ (∀ n rate least, s.ba.round = some n →
      let u := (s.wr R.BA_RATE_last_set (min rate 65535)).wr R.BA_RATE_min_round (min least 65535);
      (s.ba.fail = none → s.ba.again = false → exec (.channelSetComplete rate least) s
        = .next (((u.stageSet n s.ba.cs s.ba.t0 s.roundLen).inc (R.BA_CNT 0)).nextSet n))
      ∧ (∀ f, s.ba.fail = some f → let y := (u.stageSet n s.ba.cs s.ba.t0 f);
        (s.ba.again = false → s.ba.poison = false → (y.inc (R.BA_CNT 0)).rerunsDone n = false →
          exec (.channelSetComplete rate least) s = .next (let z := y.inc (R.BA_CNT 0);
            ((State.countRerun { z with ba := { z.ba with t0 := f, again := true, fail := none } } n).inc (R.BA_CNT 1)).inc
              (R.IG_CNT 5)))
        ∧ (s.ba.again = true → exec (.channelSetComplete rate least) s = .next (
            let z := { y with ba := { y.ba with bad := y.ba.bad ++ [(⟨n, y.baLo + s.ba.cs * y.setCh, y.setCh, f, true⟩ : BadSet)] } };
            ((((z.inc (R.BA_CNT 2)).inc (R.IG_CNT 6)).health 3 y.ba.failSl 2 0 n).impair n).nextSet n))))
    ∧ (∀ k rest, s.ba.dig = k :: rest → s.mg.digs = none → exec .weightDigestDone s = .next (s.weightDigest sha384))

/-- The writes of routes, endpoints, Ethernet ports and sequence numbers, of a write that its register takes (R154, R161, R167). A route not
in use takes an entry without ports; one in use keeps its entry and reports 1 when the write would change it. A word of an
endpoint that no enabled route uses takes its value, its MAC address with the write of its upper half; one in use keeps it and reports 6.
A change of an Ethernet port's speed or en is refused with 7 while a route in use includes the port, and else starts its training or
stops it. A sequence number is raised; whatever is written, it is never lowered. -/
def Obligations.OutputWrites : Prop :=
  (∀ (s : State) (m : Fin 20) (v : Word),
    (∀ r : Fin 256, s.takes m (R.OT_RTCTL r) v →
      let L := s.landed m (R.OT_RTCTL r) v;
      (s.routeUsed r = false → L.rd (R.OT_RTCTL_ports r) = 0 → exec (.routeWrite m r v) s = .next (L.okResp []))
      ∧ (s.routeUsed r = true → L.word (R.OT_RTCTL r) ≠ s.word (R.OT_RTCTL r) →
        exec (.routeWrite m r v) s = .next ((s.otRefuse 1).okResp [])))
    ∧ (∀ (e : Fin 256) (w : Fin 8), s.takes m (R.OT_EPCTL e + 4 * w) v →
      let L := s.landed m (R.OT_EPCTL e + 4 * w) v;
      (s.epUsed e = false → L.word (R.OT_EPCTL e + 4 * w) ≠ s.word (R.OT_EPCTL e + 4 * w) →
        exec (.endpointWrite m e w v) s = .next (L.okResp []))
      ∧ (s.epUsed e = true → L.word (R.OT_EPCTL e + 4 * w) ≠ s.word (R.OT_EPCTL e + 4 * w) →
        exec (.endpointWrite m e w v) s = .next ((s.otRefuse 6).okResp [])))
    ∧ (∀ e : Fin 256, s.writable m (R.OT_EPMAC e) → exec (.endpointWrite m e 2 v) s
        = .next ((s.setLatch m { s.latchOf m with wr := some (R.OT_EPMAC e, v) }).okResp []))
    ∧ (∀ (e : Fin 256) (lo : Word), s.writable m (R.OT_EPMAC e + 4) → (s.latchOf m).wr = some (R.OT_EPMAC e, lo) →
      s.epUsed e = false →
      ∃ t, exec (.endpointWrite m e 3 v) s = .next t ∧ t.mem = s.mem ∧ t.out = s.out
        ∧ t.rq (R.OT_EPMAC e) % 2 ^ 48 = (lo.toNat + v.toNat * 2 ^ 32) % 2 ^ 48)
    ∧ (∀ p : Fin 8, s.takes m (R.ET_PORTCTL p) v →
      exec (.ethPortControlWrite m p v) s
        = .next ((s.ethWritten p ((s.landed m (R.ET_PORTCTL p) v).word (R.ET_PORTCTL p))).okResp []))
    ∧ (∀ (st : Fin 200) (x : BitVec 64), s.writable m (R.OT_SEQ st) → s.writable m (R.OT_SEQ st + 4) →
      s.on R.OT_CTL_en = false → (st.val < 63 ∨ 64 ≤ st.val ∧ st.val < 66 ∨ 128 ≤ st.val ∧ st.val < 197) →
      s.rq (R.OT_SEQ st) ≤ x.toNat →
      ∃ t, exec (.sequenceSet m st x) s = .next t ∧ t.rq (R.OT_SEQ st) = x.toNat ∧ t.mem = s.mem ∧ t.out = s.out))
  ∧ (∀ (s : State) (p : Nat) (v : Word),
      let t := s.setWord (R.ET_PORTCTL p) v;
      let moves := s.rd (R.ET_PORTCTL_en p) ≠ t.rd (R.ET_PORTCTL_en p) ∨ s.rd (R.ET_PORTCTL_speed p) ≠ t.rd (R.ET_PORTCTL_speed p);
      let held := ∃ r < 256, s.routeUsed r = true ∧ p ∈ s.routePorts r;
      (¬ moves → s.ethControl p v = t)
      ∧ (moves → ¬ held → s.ethControl p v = t.setEth p (if t.on (R.ET_PORTCTL_en p) then 1 else 0))
      ∧ (moves → held → s.ethControl p v = ((t.wr (R.ET_PORTCTL_en p) (s.rd (R.ET_PORTCTL_en p))).wr (R.ET_PORTCTL_speed p)
          (s.rd (R.ET_PORTCTL_speed p))).otRefuse 7))
  ∧ (∀ (s : State) (st v : Nat), st < 200 → v < 2 ^ 64 → s.rq (R.OT_SEQ st) ≤ (s.seqSet st v).rq (R.OT_SEQ st))

/-- The commands of the output (R157, R162, R163, R167, R176 to R178). The oldest product that is due of a type passes the gate: it takes the header
fields of that moment and its sequence numbers, and is counted. A frame leaves on its port with its FCS, is counted there, and its segment is
marked. An HLT report is due OT_HLT.period after the last one, and a TIM report when the second or tenth of a second has changed; each
is numbered and stamped with its instant. -/
def Obligations.OutputRuns : Prop :=
  (∀ s : State, s.off = false →
    (∀ g y rest, s.ag.closed = (g, y) :: rest → y.rel = false →
      exec (.releaseGatePass 0) s = .next (s.releaseVis g y).handCheck)
    ∧ (∀ x rest, s.ba.due = x :: rest → x.typ = 1 →
      exec (.releaseGatePass 1) s = .next
        ((State.release { s with ba := { s.ba with due := rest } } { x with digs := 0 } (x.digs = 1)).handCheck))
    ∧ (∀ k rest, s.ot.sealed = k :: rest → k % 8 = 3 → s.on R.OT_TPW_en = true →
      exec (.releaseGatePass 3) s
        = .next ((State.releaseRound { s with ot := { s.ot with sealed := rest } } 3 (k / 8)).handCheck))
    ∧ (∀ (p : Fin 8) first x ot i q, s.nextInst p first = some (x, ot) → s.segFor x p = some i →
      s.routePorts x.route = [q] → s.ethUp q = true →
      exec (.frameSend p first) s = .next ((let u := { s with ot := ot };
        ((u.inc (R.ET_CNT q 0)).emit (.frame q (withFcs (u.ethFrame q (u.rd (R.OT_RTCTL_e0 x.route)) x.stream
          (u.deviceFrame x i))))).markSent x i).handCheck))
    ∧ (s.on R.OT_HLT_en = true → s.ot.hltAt + s.rd R.OT_HLT_period * 1000000 * nsUnit ≤ s.tb.t →
      ∃ t, exec .hltReport s = .next t ∧ t.ot.hltN = s.ot.hltN + 1 ∧ t.ot.hltAt = s.tb.t ∧ t.ig.hltDue = false ∧ t.mem = s.mem)
    ∧ (s.on R.OT_TIM_en = true → s.ot.timDue = false →
      let step := (if s.on R.OT_TIM_period then 100000000 else 1000000000) * nsUnit;
      (s.tb.t / step * step ≠ s.ot.timAt →
        ∃ t, exec .timReport s = .next t ∧ t.ot.timN = s.ot.timN + 1 ∧ t.ot.timAt = s.tb.t / step * step ∧ t.mem = s.mem)
      ∧ (s.tb.t / step * step = s.ot.timAt → exec .timReport s = .next s)))
  ∧ (∀ (s : State) (x : Inst) (invalid : Bool), x.typ < 6 → s.csState = 0 →
      s.release x invalid = (let x := s.stamped x;
        ((s.inc (R.OT_CNT 0)).when invalid (·.inc (R.OT_CNT 1))).numberInst x))
  ∧ (∀ (s : State) (x : Inst), (s.numberInst x).ot.insts = s.ot.insts ++ [{ x with first := some (s.rq (R.OT_SEQ x.stream)) }]
      ∧ (x.typ < 6 → (s.stamped x).tq = s.rd R.REF_STATUS_tq ∧ (s.stamped x).seg = s.segSize x.route))

/-- What an Ethernet port counts, and how it comes up and goes down (R154, R155, R231; Table 7-12). On a port that is up the codewords of
a received frame are counted, and the frame by its outcome: a bad check sequence, a PAUSE frame, a frame that is no PTP message of the port. A
port that is up and loses its alignment sets went_down, trains again, and takes its references with it; a training port comes up with
the lanes of its speed locked, while XO_IN is present. -/
def Obligations.EthernetPorts : Prop :=
  ∀ (s : State) (p : Fin 8), s.off = false →
    (∀ f ticks corr uncorr, s.ethUp p = true →
      let u := (s.incBy (R.ET_CNT p 5) corr).incBy (R.ET_CNT p 6) uncorr;
      exec (.ethernetFrameReceive p false f ticks corr uncorr) s = .next (u.inc (R.ET_CNT p 4))
      ∧ (beAt f 12 2 = 0x8808 → exec (.ethernetFrameReceive p true f ticks corr uncorr) s = .next (u.inc (R.ET_CNT p 3)))
      ∧ (beAt f 12 2 ≠ 0x8808 → u.ptpIn p f = none →
        exec (.ethernetFrameReceive p true f ticks corr uncorr) s = .next (u.inc (R.ET_CNT p 2))))
    ∧ (s.ethUp p = true →
      exec (.ethAlignmentLoss p) s
        = .next ((((s.setEth p 1).flag (R.ET_PORTSTAT_went_down p)).ptpSelect none).refPortDown true p))
    ∧ (s.rd (R.ET_PORTSTAT_state p) = 1 → s.on R.REF_STATUS_xo_lost = false →
      exec (.ethLinkUp p) s = .next (((s.setEth p 2).wr (R.ET_PORTSTAT_lane_lock p)
        (ethLanes (s.rd (R.ET_PORTCTL_speed p)))).ptpSelect none))

/-- R194, Table 8-3: a request of a test or calibration, of a write that IG_TESTREQ takes. With no other test in hand, a unit that
exists, and for ops 2 to 4 the maintenance state or a synchronised standby, it is in hand, test_busy is set and its result is 1 for op 1 and
2 for the others; an HBM stack that is retrained is in state 4. While another test is in hand its result is 6; of a unit that does
not exist it is 7; op 2 to 4 in service have 5. A test that completes is no longer in hand, clears test_busy and has result 3 passed or 4 failed;
a failed test of the Beam Array is counted, and a stack is done with its training. -/
def Obligations.TestsRequested : Prop :=
  (∀ (s : State) (m : Fin 20) (u : BitVec 8), s.ig.test = none →
    let taken := fun (op r : Nat) (L : State) =>
      (State.wr { L with ig := { L.ig with test := some (op, u.toNat, 0) } } R.IG_STATUS_test_busy 1).wr R.IG_TESTRES_result r;
    (∀ w L, w = BitVec.ofNat 32 (u.toNat * 256 + 1) → L = s.landed m R.IG_TESTREQ_op.a w → s.takes m R.IG_TESTREQ_op.a w →
      exec (.boardTestRequest m u) s = .next ((taken 1 1 L).okResp []))
    ∧ (∀ w L, w = BitVec.ofNat 32 (u.toNat * 256 + 2) → L = s.landed m R.IG_TESTREQ_op.a w → s.takes m R.IG_TESTREQ_op.a w →
      (s.hasBeam = true → s.testFree = true → exec (.beamTestRequest m u) s = .next ((taken 2 2 L).okResp []))
      ∧ (s.hasBeam = true → s.testFree = false →
          exec (.beamTestRequest m u) s = .next ((L.wr R.IG_TESTRES_result 5).okResp []))
      ∧ (s.hasBeam = false → exec (.beamTestRequest m u) s = .next ((L.wr R.IG_TESTRES_result 7).okResp [])))
    ∧ (∀ w L, w = BitVec.ofNat 32 (u.toNat * 256 + 3) → L = s.landed m R.IG_TESTREQ_op.a w → s.takes m R.IG_TESTREQ_op.a w →
      ((u.toNat < 8 ∧ (s.stkState u.toNat = 2 ∨ s.stkState u.toNat = 5)) →
        (s.testFree = true → exec (.hbmRetrainRequest m u) s = .next (let t := taken 3 2 L;
          (State.wr { t with hm := { t.hm with retrain := t.hm.retrain ++ [u.toNat] } } (R.HM_STK_state u.toNat) 4).okResp []))
        ∧ (s.testFree = false → exec (.hbmRetrainRequest m u) s = .next ((L.wr R.IG_TESTRES_result 5).okResp [])))
      ∧ (8 ≤ u.toNat → exec (.hbmRetrainRequest m u) s = .next ((L.wr R.IG_TESTRES_result 7).okResp [])))
    ∧ (∀ w L, w = BitVec.ofNat 32 (u.toNat * 256 + 4) → L = s.landed m R.IG_TESTREQ_op.a w → s.takes m R.IG_TESTREQ_op.a w →
      (u.toNat ≤ 25 → s.testFree = true → exec (.serdesRecalibrateRequest m u) s = .next ((taken 4 2 L).okResp []))
      ∧ (u.toNat ≤ 25 → s.testFree = false →
          exec (.serdesRecalibrateRequest m u) s = .next ((L.wr R.IG_TESTRES_result 5).okResp []))
      ∧ (25 < u.toNat → exec (.serdesRecalibrateRequest m u) s = .next ((L.wr R.IG_TESTRES_result 7).okResp [])))
    ∧ (∀ w L, w = BitVec.ofNat 32 (u.toNat * 256 + 5) → L = s.landed m R.IG_TESTREQ_op.a w → s.takes m R.IG_TESTREQ_op.a w →
      (u.toNat ≤ 25 → exec (.laneCalibrateRequest m u) s = .next ((taken 5 2 L).okResp []))
      ∧ (25 < u.toNat → exec (.laneCalibrateRequest m u) s = .next ((L.wr R.IG_TESTRES_result 7).okResp []))))
  ∧ (∀ (s : State) (m : Fin 20) (u : BitVec 8), s.ig.test ≠ none →
    let busy := fun (op : Nat) =>
      ((s.landed m R.IG_TESTREQ_op.a (BitVec.ofNat 32 (u.toNat * 256 + op))).wr R.IG_TESTRES_result 6).okResp [];
    let reached := fun (op : Nat) => s.takes m R.IG_TESTREQ_op.a (BitVec.ofNat 32 (u.toNat * 256 + op));
    (reached 1 → exec (.boardTestRequest m u) s = .next (busy 1))
    ∧ (reached 2 → exec (.beamTestRequest m u) s = .next (busy 2))
    ∧ (reached 3 → exec (.hbmRetrainRequest m u) s = .next (busy 3))
    ∧ (reached 4 → exec (.serdesRecalibrateRequest m u) s = .next (busy 4))
    ∧ (reached 5 → exec (.laneCalibrateRequest m u) s = .next (busy 5)))
  ∧ (∀ (s : State) op unit k passed, s.off = false → s.ig.test = some (op, unit, k) → (op = 1 → 1024 ≤ k) →
    let t := (State.wr { s with ig := { s.ig with test := none } } R.IG_STATUS_test_busy 0).wr
      R.IG_TESTRES_result (if passed then 3 else 4);
    (op = 2 → passed = false → exec (.testComplete passed) s = .next (t.inc (R.IG_CNT 9)))
    ∧ (op = 3 → exec (.testComplete passed) s = .next (t.trainingDone unit passed))
    ∧ (op ≠ 2 → op ≠ 3 → exec (.testComplete passed) s = .next t)
    ∧ (op = 2 → passed = true → exec (.testComplete passed) s = .next t))

/-- R191, R194 to R196, R247: the health of the device. Of a write that IG_CTL takes: maintenance is entered with both arrays at rest by a
unit that is not active, left by writing 0, and its request is otherwise refused with maint_ref; a fault clear in ENDGAME with equal counters, XO_IN,
the Arbiter and a SET counter clears the cause, and without one of them changes nothing. 64 rounds after the last impairing event, IMPAIRED becomes NORMAL, or
DEGRADED with a degraded line. A disagreement of the Arbiter's cores resets M1 and restarts the mailbox, its return releases M1, and an Arbiter that is late is a
fatal fault, as are counters that differ. An adder that agrees on repetition is a transient; one that does not is faulty, impairs
the round, and the record takes the sentinel, the detector is spoiled, or the beam sample is suppressed in a poisoned channel-set. -/
def Obligations.HealthMoves : Prop :=
  (∀ (s : State) (m : Fin 20) (v : Word),
    (∀ L, L = s.landed m R.IG_CTL_maint.a v → s.takes m R.IG_CTL_maint.a v → v.toNat.testBit 1 = false →
      let K := L.wr R.IG_CTL_maint (s.rd R.IG_CTL_maint);
      (v.toNat.testBit 0 = true → s.on R.IG_CTL_maint = false →
        ((s.bdState = 0 ∨ s.bdState = 4) → (s.baState = 0 ∨ s.baState = 3) → s.isActive = false →
          exec (.maintenanceRequest m v) s = .next ((K.wr R.IG_CTL_maint 1).okResp []))
        ∧ (((s.bdState ≠ 0 ∧ s.bdState ≠ 4) ∨ (s.baState ≠ 0 ∧ s.baState ≠ 3) ∨ s.isActive = true) →
          exec (.maintenanceRequest m v) s = .next ((K.flag R.IG_STATUS_maint_ref).okResp [])))
      ∧ (v.toNat.testBit 0 = false → exec (.maintenanceRequest m v) s = .next ((K.wr R.IG_CTL_maint 0).okResp [])))
    ∧ (∀ w L, w = force v R.IG_CTL_fclr 1 → L = s.landed m R.IG_CTL_fclr.a w → s.takes m R.IG_CTL_fclr.a w →
      v.toNat.testBit 0 = false → s.rd R.IG_STATUS_hstate = 3 →
      let K := (L.wr R.IG_CTL_maint (s.rd R.IG_CTL_maint)).wr R.IG_CTL_maint 0;
      (s.tb.t = s.tb.t2 → s.on R.REF_STATUS_xo_lost = false → s.ig.arbDown = false → s.on R.TB_STATUS_set = true →
        exec (.faultClear m v) s = .next ((K.setCause 3 false).okResp []))
      ∧ ((s.tb.t ≠ s.tb.t2 ∨ s.on R.REF_STATUS_xo_lost = true ∨ s.ig.arbDown = true ∨ s.on R.TB_STATUS_set = false) →
        exec (.faultClear m v) s = .next (K.okResp []))))
  ∧ (∀ s : State, s.off = false →
    (s.rd R.IG_STATUS_hstate = 2 → s.ig.impaired + 64 ≤ s.nextRound →
      exec .healthRecovery s
        = .next (State.setHstate { s with ig := { s.ig with impaired := 0 } } (if s.anyDegraded = true then 1 else 0)))
    ∧ (s.ig.arbDown = false → s.cf.loading = none →
      exec .arbiterLockstepFault s = .next (let t := State.wr { s with ig := { s.ig with arbDown := true } } R.IG_STATUS_seq_act 1;
        let t := (t.masterReset 1 0).mbxRestart;
        (t.flag R.MG_RSTCAUSE_arb).health 10 0 1 0 t.curRound))
    ∧ (s.ig.arbDown = true →
      exec .arbiterRestartDone s = .next (State.mbxSettle 16 ((State.wr { s with ig := { s.ig with arbDown := false } }
        R.IG_STATUS_seq_act 0).masterRelease 1))
      ∧ exec .arbiterRestartTimeout s = .next ((s.health 10 0 3 0 s.curRound).fatalFault))
    ∧ (∀ d : Int, d ≠ 0 → 0 ≤ (s.tb.t : Int) + d →
      exec (.counterDisagree d) s
        = .next (State.raiseCounter { s with tb := { s.tb with t2 := ((s.tb.t : Int) + d).toNat } }))
    ∧ s.raiseCounter = (((s.flag R.TB_STATUS_cnt_err).inc (R.TB_CNT 4)).health 8 0 3 0 s.curRound).fatalFault
    ∧ (∀ unit site,
      exec (.adderMismatch unit false site) s = .next ((s.inc (R.IG_CNT 7)).health 4 unit 0 0 s.curRound))
    ∧ (∀ unit, unit ∉ s.ig.faulty →
      let faulty := fun (x : State) =>
        ((State.inc { x with ig := { x.ig with faulty := s.ig.faulty ++ [unit] } } (R.IG_CNT 8)).health 4 unit 2 0
          s.curRound).impair s.curRound;
      (∀ g area c a b, exec (.adderMismatch unit true (.record g area c a b)) s = .next (faulty ((s.recPut g area c a b
          (s.recGet g area c a b) sentinel).noteMark g (s.wgtGet g area c a b) sentinel false)))
      ∧ (∀ x w b h, exec (.adderMismatch unit true (.detect x w b h)) s = .next (faulty (s.spoilDet (detKey x w b h))))
      ∧ (∀ t n, s.ba.round = some n →
        exec (.adderMismatch unit true (.combine t)) s
          = .next (faulty (State.suppress { s with ba := { s.ba with poison := true } } t)))))

/-- R80, R198, R201, R205, R206, R210, R211, R214, R215, R220, Tables 9-1, 9-2 and 9-4: what each castling message does that arrives whole with
castling enabled. Every one raises H to its claim, and LEASE and JOIN make the sender's serial known. A LEASE below H is only counted; another
one, as said second, makes a waiting unit join, fences an active with a lower claim, or with the same and a lower serial, makes a fenced one with a lower claim join, is
taken as a resignation by a synchronised standby, and is acknowledged by a unit that is not active. An ACK ends sole operation. A WMARK gives the peer's
watermarks and a standby drops what they cover. A DIGEST of no records hands a stream in a handover; its records are compared. PLAN, SPAN, RPRQ, RPKT, JOIN, JRES and FREEZE
act by their contents. A JOIN of a unit that does not ask to be prepared is answered with the first of R220's reasons that holds. -/
def Obligations.MessagesAct : Prop :=
  (∀ (s : State) (bs body : Bytes) (claim : Nat), s.off = false →
    let u := s.wq R.CS_HCLAIM (max (s.rq R.CS_HCLAIM) claim);
    (∀ serial : BitVec 64, s.hears bs 1 claim body → exec (.leaseReceive bs serial) s
        = .next ((u.wq R.CS_PEERSN serial.toNat).leaseTake claim (s.rq R.CS_HCLAIM) body).handCheck)
    ∧ (s.hears bs 2 claim body → exec (.ackReceive bs) s = .next (
        let t : State := { u with cs := { u.cs with ackSeq := leAt body 0 8, acked := true, peerState := byteAt body 8 } };
        (if s.csState = 3 then t.wr R.CS_STATUS_sole 0 else t).handCheck))
    ∧ (s.hears bs 3 claim body → s.isActive = false → exec (.wmarkReceive bs) s = .next (
        let t : State := { u with cs := { u.cs with wmAt := s.nowNs + 1, peerWm := (List.range (body.length / 16)).foldl (fun m i =>
          smapSet 0 m (namedStream (leAt body (16 * i) 2)) (leAt body (16 * i + 8) 8)) s.cs.peerWm } };
        State.joinCheck (if s.csState = 2 then t.forget (t.ot.insts.filter (fun x => x.typ < 6 && t.covered x && t.digested x))
          else t)))
    ∧ (s.hears bs 4 claim body → let n := min 1000 (leAt body 4 4);
        (n = 0 → s.cs.hand.isSome = true → (s.csState = 3 ∨ (s.csState = 1 ∧ s.on R.CS_STATUS_prep = true)) →
          exec (.digestReceive bs) s = .next (u.takeHanded (namedStream (leAt body 0 2)) (leAt body 16 8)))
        ∧ (n ≠ 0 → exec (.digestReceive bs) s = .next (State.joinCheck
            ((u.digestFirst (leAt body 0 2) (leAt body 8 8) (leAt body 16 8)).fold (List.range n) (fun s i =>
              s.digNote (leAt body 0 2) (leAt body 16 8 + i) ⟨leAt body (24 + 8 * i) 8, decide (leAt body 2 2 % 2 = 1), 0, 0⟩ false)))))
    ∧ (s.hears bs 5 claim body → let record := (body.drop 8).take 40;
        (byteAt record 0 = 1 → s.isActive = true → exec (.planReceive bs) s
          = .next { u with ck := { u.ck with peer := smapSet 0 u.ck.peer (leAt body 0 8) (leAt record 16 4 + 1) } })
        ∧ (byteAt record 0 ≠ 1 → s.csState = 2 → s.planOf (leAt body 0 8) = none → s.ck.next ≤ leAt body 0 8 →
          exec (.planReceive bs) s
            = .next ((u.setCause 4 ((byteAt record 3).testBit 0)).admitMirrored (leAt body 0 8) record)))
    ∧ (s.hears bs 6 claim body → s.repairOn = true → exec (.spanReceive bs) s = .next (u.spanTake body))
    ∧ (s.hears bs 7 claim body → s.repairOn = true → exec (.rprqReceive bs) s = .next (u.fold (List.range (body.length / 12)) (fun s i =>
        let k := slotKey (leAt body (12 * i) 2) (leAt body (12 * i + 2) 2) (leAt body (12 * i + 4) 8);
        if (s.slotMark k).any (fun r => r.placed) = true then
          (s.castSend 8 (((s.slotMark k).map (fun r => r.raw)).getD [])).inc (R.AL_CNT 10) else s)))
    ∧ (s.hears bs 8 claim body → s.repairOn = true → leAt body 0 2 = 0x4C55 → byteAt body 2 = 1 → byteAt body 3 = 0 →
        crc32c (body.take 28) = leAt body 28 4 → badSample body = false → s.on R.IN_CTL_en = true →
        s.strOn (s.tableRound (leAt body 12 8)) (leAt body 4 2) = true →
        s.layoutMatches (s.tableRound (leAt body 12 8)) body = true →
        exec (.rpktReceive bs) s = .next (u.acceptSample 16 body true s.tb.t))
    ∧ (∀ serial : BitVec 64, s.hears bs 9 claim body → exec (.joinReceive bs serial) s = .next (
        let t := u.wq R.CS_PEERSN serial.toNat;
        let r := t.joinResult body;
        State.castSend { t with cs := { t.cs with peerPrep := decide (r = 9) } } 10 (leBytes 1 r ++ zeros 7)))
    ∧ (s.hears bs 10 claim body → s.csState = 1 → let r := byteAt body 0;
        let v := u.wr R.CS_STATUS_jreason (r % 16);
        ((r = 0 ∨ r = 9) → exec (.jresReceive bs) s = .next (
          let t := v.wr R.CS_STATUS_prep (if r = 9 then 1 else 0);
          let t := (t.joinGroups t.firstWritten).beamVoidBefore t.firstWritten;
          { t with cs := { t.cs with
            joined := some t.firstWritten, freshG := [], matched := [], matchN := [], numbered := [], firstSeq := [] } }))
        ∧ (r ≠ 0 → r ≠ 9 → exec (.jresReceive bs) s = .next v))
    ∧ (s.hears bs 11 claim body → s.isActive = false →
        exec (.freezeReceive bs) s = .next (u.freezeRound (leAt body 0 8)).1))
  ∧ (∀ (s : State) (claim h : Nat) (body : Bytes),
    let t : State := { s with cs := { s.cs with peerState := byteAt body 14 } };
    let ack := fun (x : State) (st : Nat) => x.pinsCheck.castSend 2 (leBytes 8 (leAt body 0 8) ++ leBytes 1 st ++ zeros 7);
    let wins : Prop := s.rq R.CS_CLAIM < claim ∨ (s.rq R.CS_CLAIM = claim ∧ Config.serial.toNat < s.rq R.CS_PEERSN);
    (claim < h → s.leaseTake claim h body = s.inc (R.CS_CNT 5))
    ∧ (h ≤ claim →
      (s.csState = 0 → s.cs.waiting = false → s.leaseTake claim h body = t)
      ∧ (s.csState = 0 → s.cs.waiting = true → (byteAt body 15).testBit 1 = false → s.leaseTake claim h body = ack t.sendJoin 1)
      ∧ (s.csState = 2 → (byteAt body 15).testBit 0 = false → s.leaseTake claim h body = ack t 2)
      ∧ (s.csState = 2 → (byteAt body 15).testBit 0 = true → (byteAt body 15).testBit 1 = false →
        s.leaseTake claim h body = t.takeLease false)
      ∧ (s.csState = 3 → wins → s.leaseTake claim h body = ack t.fence 4)
      ∧ (s.csState = 3 → ¬ wins → s.leaseTake claim h body = t)
      ∧ (s.csState = 4 → s.rq R.CS_CLAIM < claim → (byteAt body 15).testBit 1 = false →
        s.leaseTake claim h body = ack t.sendJoin 1)
      ∧ (s.csState = 4 → claim ≤ s.rq R.CS_CLAIM → s.leaseTake claim h body = ack t 4)))
  ∧ (∀ (s : State) (body : Bytes), byteAt body 6 ≠ 1 →
    (leAt body 0 4 ≠ s.rd R.CF_EPOCH_epoch → s.joinResult body = 1)
    ∧ (leAt body 0 4 = s.rd R.CF_EPOCH_epoch →
      (leAt body 8 8 ≠ s.hash64 → s.joinResult body = 2)
      ∧ (leAt body 8 8 = s.hash64 →
        (leAt body 48 4 ≠ s.rd R.TOP_ID_code → s.joinResult body = 3)
        ∧ (leAt body 48 4 = s.rd R.TOP_ID_code →
          (leAt body 4 2 ≠ s.rd R.TB_STATUS_epoch → s.joinResult body = 4)
          ∧ (leAt body 4 2 = s.rd R.TB_STATUS_epoch →
            (leAt body 16 8 ≠ s.epochStart → s.joinResult body = 5)
            ∧ (leAt body 16 8 = s.epochStart →
              (leAt body 24 8 ≠ s.mapDig → s.joinResult body = 6)
              ∧ (leAt body 24 8 = s.mapDig → s.mapDig ≠ 0 →
                (∀ x ∈ s.setsUsed, s.weightDig x ≠ 0 ∧ leAt body (32 + 8 * x) 8 = s.weightDig x) →
                (s.csState ≠ 3 → s.joinResult body = 8) ∧ (s.csState = 3 → s.joinResult body = 0))))))))

/-- R200 to R205, R208, R214, R215, R217, Table 9-4: the lease. A transition of the pin is an acknowledgment to the active, and one of two within 1 µs a
resignation to a synchronised standby; any other unit answers it on its own pin. A renewal sends a LEASE and toggles the pin, and counts a missing acknowledgment; a
standby whose lease expires waits for its guard, and then takes the lease; no acknowledgment fences an active that is not sole; with the link
down, or without a round's plan, a synchronised standby is unsynchronised, without the shadow; a wait that ends takes the lease. Watermarks and digests of
the first instance not yet reported are sent. A unit that takes the lease claims one above the highest claim seen, is ACTIVE, shows took_ev, whether it is sole and that
it neither waits nor guards, and E095 has fired; outside a handover it numbers what it holds, discards what the peer has sent and resumes its voltage beams. -/
def Obligations.LeaseKept : Prop :=
  (∀ s : State, s.off = false →
    (∀ gap, s.on R.CS_CTL_en = true → let t : State := { s.wr R.CS_STATUS_pins_ok 1 with cs := { s.cs with pinSeen := true } };
      let acked : State := { t with cs := { t.cs with acked := true } };
      (s.csState = 3 → exec (.leasePinTransition gap) s = .next (acked.wr R.CS_STATUS_sole 0))
      ∧ (s.csState = 5 → exec (.leasePinTransition gap) s = .next acked)
      ∧ (s.csState = 2 → gap ≤ 1000 → exec (.leasePinTransition gap) s = .next (t.takeLease false))
      ∧ (s.isActive = false → (s.csState ≠ 2 ∨ 1000 < gap) → exec (.leasePinTransition gap) s = .next t.pinToggle))
    ∧ (s.isActive = true → exec .leaseRenewal s = .next (
        let t := (if s.cs.acked = true then s else s.inc (R.CS_CNT 1)).pinsCheck;
        let t := State.inc { t with cs := { t.cs with acked := false } } (R.CS_CNT 0);
        (t.sendLease false (t.csState = 5) (t.cs.hand.getD 0)).pinToggle))
    ∧ (s.isActive = true → exec .wmarkSend s = .next (s.castSend 3 s.wmarkBody))
    ∧ (∀ x f, s.on R.CS_CTL_en = true →
      s.ot.insts.find? (fun y => y.typ < 6 && y.first.isSome && decide (y.digs < y.segs)) = some x → x.first = some f →
      exec .digestSend s = .next (
        let n := min 1000 (x.segs - x.digs);
        let digs := (List.range n).map (fun i => s.frameDigest x (x.digs + i));
        let t := s.castSend 4 (leBytes 2 x.stream ++ leBytes 2 (if x.div = true then 1 else 0) ++ leBytes 4 n ++ leBytes 8 x.inst
          ++ leBytes 8 (f + x.digs) ++ digs.flatMap (leBytes 8));
        let t := t.fold digs.zipIdx (fun t d => t.digNote x.stream (f + x.digs + d.2) ⟨d.1, x.div, f, x.segs⟩ true);
        (State.pruneReported { t with ot := { t.ot with insts := t.ot.insts.map (fun y =>
          if sameInst y x = true then { y with digs := x.digs + n } else y) } }).joinCheck))
    ∧ (s.csState = 2 → exec .leaseExpiry s = .next { s with cs := { s.cs with guard := true } })
    ∧ (s.csState = 2 → s.cs.guard = true → exec .guardExpiry s = .next (s.takeLease true))
    ∧ (s.csState = 3 → s.on R.CS_STATUS_sole = false → exec .ackTimeout s = .next (
        let t := State.setCast (State.wr { s with cs := { s.cs with hand := none, handed := [] } } R.CS_STATUS_sole 0) 4;
        ((t.flag R.CS_STATUS_fenced_ev).inc (R.CS_CNT 4)).fire 96))
    ∧ (s.portUp 16 = false → exec .cstLinkTimeout s = .next s.toUnsync)
    ∧ (∀ n, s.csState = 2 → s.planOf n = none → n ≤ s.rq R.AL_SEALED → s.ck.next ≤ n →
      exec (.planTimeout n) s = .next (((s.inc (R.CS_CNT 10)).toUnsync).admitOwn n))
    ∧ (s.cs.waiting = true → exec .leaseWaitExpiry s = .next (s.takeLease true)))
  ∧ (∀ s : State,
    (s.csState = 2 → s.toUnsync.csState = 1 ∧ s.toUnsync.cs.joined = none ∧ s.toUnsync.cs.guard = false
      ∧ ∀ x ∈ s.toUnsync.ot.insts, 6 ≤ x.typ)
    ∧ (s.csState ≠ 2 → s.toUnsync = s)
    ∧ (∀ sole : Bool, let t := s.claimLease sole;
      t.rq R.CS_CLAIM = (s.rq R.CS_HCLAIM + 1) % 2 ^ 64 ∧ t.rq R.CS_HCLAIM = (s.rq R.CS_HCLAIM + 1) % 2 ^ 64
      ∧ t.csState = 3 ∧ t.on R.CS_STATUS_took_ev = true ∧ t.on R.CS_STATUS_sole = sole ∧ t.cs.guard = false
      ∧ t.cs.waiting = false ∧ (95, 0) ∈ t.evq ∧ t.mem = s.mem
      ∧ (s.cs.hand = none → s.takeLease sole = t.numberRest.discardCovered.resumeVoltage)
      ∧ (s.cs.hand ≠ none → s.takeLease sole = t)))

/-- R209, R219, R224, Table 9-4: the host's castling commands, of a write that its register takes. The enable makes an UNPAIRED unit wait for a lease or send
JOIN, as take says, and releases port M19; the disable makes a unit that is not active UNPAIRED and resets M19, and is refused to an active. RESIGN
of an ACTIVE unit resigns when the peer is synchronised, and is counted and refused when not; TAKE_AS_SOLE takes the lease in UNSYNC, SYNC and FENCED;
LEAVE makes a unit that is not active UNPAIRED; JOIN is sent in UNSYNC; HAND_OVER to a prepared peer starts the handover of every stream at round CS_HOTGT. In other
states each is refused. -/
def Obligations.CastlingWrites : Prop :=
  ∀ (s : State) (m : Fin 20) (v : Word),
    (∀ w L, w = force v R.CS_CTL_en 1 → L = s.landed m R.CS_CTL_en.a w → s.takes m R.CS_CTL_en.a w →
      s.on R.CS_CTL_en = false → s.csState = 0 →
      (L.on R.CS_CTL_take = true → exec (.castlingEnable m v) s
        = .next ((((State.masterRelease { L with cs := { L.cs with waiting := true } } 19)).auCheck).okResp []))
      ∧ (L.on R.CS_CTL_take = false → exec (.castlingEnable m v) s
        = .next (((L.sendJoin.masterRelease 19).auCheck).okResp [])))
    ∧ (∀ w L, w = force v R.CS_CTL_en 0 → L = s.landed m R.CS_CTL_en.a w → s.takes m R.CS_CTL_en.a w →
      s.on R.CS_CTL_en = true →
      (s.isActive = false → exec (.castlingDisable m v) s = .next (((L.castStop.masterReset 19 0).auCheck).okResp []))
      ∧ (s.isActive = true → exec (.castlingDisable m v) s
        = .next (((((L.wr R.CS_CTL_en 1).csRefuse).masterRelease 19).auCheck).okResp [])))
    ∧ (∀ L, L = s.landed m R.CS_CMD_op.a 1 → s.takes m R.CS_CMD_op.a 1 →
      (s.csState = 3 → s.cs.peerState = 2 → exec (.castResign m) s
        = .next (((((L.resignNow false 2).wr R.CS_STATUS_sole 0)).auCheck).okResp []))
      ∧ (s.csState = 3 → s.cs.peerState ≠ 2 → exec (.castResign m) s = .next (((L.inc (R.CS_CNT 11)).csRefuse).okResp []))
      ∧ (s.csState ≠ 3 → exec (.castResign m) s = .next (L.csRefuse.okResp [])))
    ∧ (∀ L, L = s.landed m R.CS_CMD_op.a 2 → s.takes m R.CS_CMD_op.a 2 →
      ((s.csState = 1 ∨ s.csState = 2 ∨ s.csState = 4) → exec (.takeAsSole m) s
        = .next ((State.takeLease { L with cs := { L.cs with hand := none, handed := [] } } true).okResp []))
      ∧ ((s.csState = 0 ∨ s.csState = 3 ∨ s.csState = 5) → exec (.takeAsSole m) s = .next (L.csRefuse.okResp [])))
    ∧ (∀ L, L = s.landed m R.CS_CMD_op.a 3 → s.takes m R.CS_CMD_op.a 3 → s.on R.CS_CTL_en = true →
      (s.isActive = false → exec (.castLeave m) s = .next ((L.castStop.masterReset 19 0).okResp []))
      ∧ (s.isActive = true → exec (.castLeave m) s = .next ((L.csRefuse.masterRelease 19).okResp [])))
    ∧ (∀ L, L = s.landed m R.CS_CMD_op.a 4 → s.takes m R.CS_CMD_op.a 4 →
      (s.csState = 1 → exec (.castJoin m) s = .next (L.sendJoin.okResp []))
      ∧ (s.csState ≠ 1 → exec (.castJoin m) s = .next (L.csRefuse.okResp [])))
    ∧ (∀ L, L = s.landed m R.CS_CMD_op.a 5 → s.takes m R.CS_CMD_op.a 5 →
      (s.csState = 3 → s.cs.peerState = 1 → s.cs.peerPrep = true → exec (.handOver m) s = .next (
        let t : State := { L with cs := { L.cs with hand := some (s.rq R.CS_HOTGT), handed := [], toHand := L.handStreams } };
        ((((t.setCast 5).sendLease false true (s.rq R.CS_HOTGT)).handCheck).okResp [])))
      ∧ ((s.csState ≠ 3 ∨ s.cs.peerState ≠ 1 ∨ s.cs.peerPrep = false) →
        exec (.handOver m) s = .next (L.csRefuse.okResp [])))
    ∧ s.castStop = (let t : State := { s with cs := { s.cs with
          waiting := false, guard := false, joined := none, hand := none, handed := [] } };
        ((((t.wr R.CS_CTL_en 0).wr R.CS_STATUS_sole 0).wr R.CS_STATUS_prep 0).wr R.CS_STATUS_pins_ok 0).setCast 0)

/-- R226, R227, R230 to R234, R236 to R243: the events of a reference that is enabled, and of the clock. An edge in its interval is a normal event and
one outside is an anomaly, as is an edge that does not come; an edge of the selected type P reference applies a step that waits for it. A normal event ends the streak and takes INVALID to
QUALIFYING; an anomaly counts, takes QUALIFYING to INVALID, and the third in a row disqualifies. A qualification waits for the selector's window; a gate outside the hard window
disqualifies with reason 2, and on the selected reference gives its distance from y; a wait to revert that ends switches to a better reference. Lock is shown while no slew runs
and the offsets keep their limits; a slew is over within its limit of the goal, and y stays, in free run at the goal. The loss of XO_IN invalidates every enabled reference, frees the DCO, is a
fatal fault and unlocks every SerDes; its return starts a free run. A comparison of one second's means lets a calm second pass, disqualifies the outlier or the
one that a tie-breaker tells, or raises a disagreement. -/
def Obligations.ReferencesMove : Prop :=
  (∀ (s : State) (r : Fin 8), s.off = false → s.refState r ≠ 0 →
    (∀ interval fine, refType r = .f →
      let n := nominal20 (s.rd (R.REF_CFG_fnom r));
      let t := s.setRefSlot r { s.refSlot r with seen := true };
      ((s.refSlot r).seen = false → exec (.referenceEdge r interval fine) s = .next (t.refNormal r 0))
      ∧ ((s.refSlot r).seen = true → 3 * n ≤ 4 * interval → 4 * interval ≤ 5 * n →
        exec (.referenceEdge r interval fine) s = .next (t.refNormal r (((interval : Int) - n) * 20)))
      ∧ ((s.refSlot r).seen = true → (4 * interval < 3 * n ∨ 5 * n < 4 * interval) →
        exec (.referenceEdge r interval fine) s = .next (t.refAnomaly r)))
    ∧ (∀ interval fine, refType r = .p →
      let x := s.refSlot r;
      let tol := s.rd (R.REF_TOL_tol_ns r) * 50;
      let d := x.since + interval;
      let ps : Nat := s.tb.t * 1000 / nsUnit % 1000000000000 + 20 * fine;
      let ends := fun (t : State) =>
        (t.tb.step = none → exec (.referenceEdge r interval fine) s = .next t)
        ∧ (∀ st, t.tb.step = some st →
          (st.mode = 3 → s.refSel = some r.val → exec (.referenceEdge r interval fine) s = .next (t.stepNow st))
          ∧ ((st.mode ≠ 3 ∨ s.refSel ≠ some r.val) → exec (.referenceEdge r interval fine) s = .next t));
      ((x.seen = true → 50000000000 ≤ d + tol ∧ d ≤ 50000000000 + tol) →
        ends ((s.setRefSlot r { x with seen := true, since := 0 }).timedEvent r
          (if 500000000000 < ps then (ps : Int) - 1000000000000 else ps)))
      ∧ (x.seen = true → (d + tol < 50000000000 ∨ 50000000000 + tol < d) →
        ends ((s.setRefSlot r { x with since := if s.refState r = 2 then 0 else d }).refAnomaly r)))
    ∧ exec (.referenceEventTimeout r) s = .next (s.refAnomaly r)
    ∧ (s.refState r = 3 → exec (.referenceQualified r) s = .next (s.noteSel (.qualify r)))
    ∧ (∀ off : Int,
      (s.refSel ≠ some r.val →
        (s.rd R.REF_XOWIN_win_ppm * 1000000 < off.natAbs → exec (.hardWindowGate r off) s = .next (s.disqualify r 2))
        ∧ (off.natAbs ≤ s.rd R.REF_XOWIN_win_ppm * 1000000 → exec (.hardWindowGate r off) s = .next s))
      ∧ (s.refSel = some r.val → off.natAbs ≤ s.rd R.REF_XOWIN_win_ppm * 1000000 →
        let t : State := { s with rf := { s.rf with freq := off * 1000000 - s.yNow } };
        exec (.hardWindowGate r off) s
          = .next (if s.on R.REF_STATUS_locked = true ∧ 1000000000 ≤ t.rf.freq.natAbs then t.unlock else t)))
    ∧ (∀ q, s.refSel = some q → s.on R.REF_CTL_revert = true → s.refState r = 4 →
      (s.rd (R.REF_CFG_pri r) < s.rd (R.REF_CFG_pri q) ∨ (s.on R.REF_CTL_manual = true ∧ s.rd R.REF_CTL_msel = r)) →
      exec (.revertWaitExpiry r) s = .next (s.switchTo r)))
  ∧ (∀ s : State, s.off = false →
    (∀ r, s.refSel = some r → s.on R.REF_STATUS_slewing = false → s.on R.TB_STATUS_disc = false →
      s.on R.REF_STATUS_xo_lost = false → s.rf.freq.natAbs < 1000000000 →
      (refType r = .f ∨ s.rf.phase.natAbs < s.rd R.REF_SLEW_lock_ns * 1000) →
      exec .dpllLock s = .next ((s.wr R.REF_STATUS_locked 1).setQuality))
    ∧ (s.on R.REF_STATUS_slewing = true → (s.rf.goal - s.yNow).natAbs < 10000000 →
      exec .slewComplete s = .next ((s.holdY (if s.refSel.isSome = true then s.yNow else s.rf.goal)).setQuality))
    ∧ (s.on R.MG_STATUS_xo_wait = false → s.on R.REF_STATUS_xo_lost = false → exec .xoInLost s = .next (
        let t := State.wr { s with mg := { s.mg with xo := false } } R.REF_STATUS_xo_lost 1;
        let t : State := { t with rf := { t.rf with held := t.yNow } };
        let t := t.fold (List.range 8) (fun t r => if t.refState r = 0 then t else t.wr (R.REF_STAT_state r) 2);
        (((t.freeRun).health 8 0 3 0 t.curRound).fatalFault).serdesLost))
    ∧ (s.on R.MG_STATUS_xo_wait = false → s.on R.REF_STATUS_xo_lost = true →
      exec .xoInReturn s
        = .next (State.freeRun (State.wr { s with mg := { s.mg with xo := true } } R.REF_STATUS_xo_lost 0)))
    ∧ (∀ short long, let t := s.takeMeans short long;
      let parts := t.participants;
      let dis := fun i j => t.disagrees short long i j;
      let bad := parts.filter (fun i => parts.any (fun j => i != j && dis i j));
      (∀ r, outlierOf parts dis = some r → exec (.crossComparisonUpdate short long) s = .next (t.markOutlier r))
      ∧ (outlierOf parts dis = none →
        (bad = [] → exec (.crossComparisonUpdate short long) s
          = .next (t.calmSecond (parts.foldl (fun a r => max a (t.cmpWindow r)) (t.rd R.REF_XCMP_win_s))))
        ∧ (bad ≠ [] → (∀ r, tieBreak bad (t.breakers parts) dis = some r →
            exec (.crossComparisonUpdate short long) s = .next (t.markOutlier r))
          ∧ (tieBreak bad (t.breakers parts) dis = none →
            exec (.crossComparisonUpdate short long) s = .next (t.raiseDisagree bad))))))
  ∧ (∀ (s : State) (r : Nat) (err : Int),
    (s.refSel ≠ some r → (s.refState r ≠ 2 → s.refNormal r err = s.wr (R.REF_STAT_streak r) 0)
      ∧ (s.refState r = 2 → s.on R.REF_STATUS_xo_lost = false →
        s.refNormal r err = (s.wr (R.REF_STAT_streak r) 0).wr (R.REF_STAT_state r) 3))
    ∧ (let k := min 3 (s.rd (R.REF_STAT_streak r) + 1);
      let t := (s.inc (R.REF_ANOM r)).wr (R.REF_STAT_streak r) k;
      let t := t.setRefSlot r { t.refSlot r with clean := 0 };
      (s.refState r = 3 → s.refAnomaly r = t.wr (R.REF_STAT_state r) 2)
      ∧ (s.refState r ≠ 3 → k < 3 → s.refAnomaly r = t)
      ∧ (s.refState r ≠ 3 → k = 3 → s.refAnomaly r = t.disqualify r (if 3 ≤ (s.refSlot r).qbad then 5 else 1))))

/-- R231, R234 to R236, R239, R245, Table 10-3: what the host's commands on references and the selector do, of a write that its register takes. An enable, a disable and
a clear of a latch, and a selection by hand, fall in the present window of 1 µs, after an earlier window that is over has been applied. A window applies its disqualifications,
judges the selection once, and then its qualifications and the host's commands, in the order of the slots. An enabled slot is INVALID; a disabled one is
DISABLED and its loss judges the selection; a slot that is cleared is INVALID; a selectable slot is selected by hand, and one that is
not is refused. A selection that is not selectable any more falls back to the best of the others, or to free run. -/
def Obligations.ReferenceWrites : Prop :=
  (∀ (s : State) (m : Fin 20) (v : Word) (r : Fin 8),
    (∀ w L, w = force v (R.REF_CFG_en r) 1 → L = s.landed m (R.REF_CFG_en r).a w → s.takes m (R.REF_CFG_en r).a w →
      s.on (R.REF_CFG_en r) = false →
      exec (.referenceEnable m r v) s = .next (((L.noteSel (.enable r)).setQuality).okResp []))
    ∧ (∀ w L, w = force v (R.REF_CFG_en r) 0 → L = s.landed m (R.REF_CFG_en r).a w → s.takes m (R.REF_CFG_en r).a w →
      s.on (R.REF_CFG_en r) = true →
      exec (.referenceDisable m r v) s = .next (((L.noteSel (.disable r)).setQuality).okResp []))
    ∧ (∀ L, L = s.landed m R.REF_CMD_clr.a v → s.takes m R.REF_CMD_clr.a v →
      exec (.referenceLatchClear m v) s = .next ((L.fold ((List.range 8).filter (fun q => (v.toNat % 256).testBit q))
        (fun t q => t.noteSel (.clear q))).okResp []))
    ∧ (∀ w L, w = force v R.REF_CTL_manual 1 → L = s.landed m R.REF_CTL_manual.a w → s.takes m R.REF_CTL_manual.a w →
      (s.refSel.isSome = true ∨ L.on R.REF_CTL_hold = s.on R.REF_CTL_hold) →
      exec (.manualSelect m v) s = .next ((((L.wr R.REF_CTL_manual (s.rd R.REF_CTL_manual)).wr R.REF_CTL_msel
        (s.rd R.REF_CTL_msel)).noteSel (.select true (L.rd R.REF_CTL_msel))).okResp [])))
  ∧ (∀ (s : State) (e : SelEvent),
    ((s.rf.events = [] ∨ s.rf.window = s.selWindow) →
      s.noteSel e = { s with rf := { s.rf with events := s.rf.events ++ [e], window := s.selWindow } })
    ∧ (s.rf.events ≠ [] → s.rf.window ≠ s.selWindow → s.noteSel e
        = { s.closeWindow with rf := { s.closeWindow.rf with
            events := s.closeWindow.rf.events ++ [e], window := s.closeWindow.selWindow } })
    ∧ (let l := selOrder s.rf.events;
      let t : State := { s with rf := { s.rf with events := [] } };
      let dis := fun (e : SelEvent) => ∃ r k, e = .disqualify r k;
      ((∀ e ∈ l, dis e) → s.closeWindow = (t.fold l State.applySel).reselect)
      ∧ ((∀ e ∈ l, ¬ dis e) → s.closeWindow = (t.reselect).fold l State.applySel))
    ∧ (∀ r, s.refState r = 0 →
      s.applySel (.enable r)
        = (((s.wr (R.REF_STAT_state r) 2).wr (R.REF_STAT_streak r) 0).setRefSlot r default).setQuality)
    ∧ (∀ r, s.applySel (.disable r) = ((s.wr (R.REF_STAT_state r) 0).setRefSlot r default).reselect)
    ∧ (∀ r, s.refState r = 1 → s.applySel (.clear r) = s.wr (R.REF_STAT_state r) 2)
    ∧ (∀ r, (s.refState r = 4 ∨ s.refState r = 5) → s.applySel (.select true r)
      = ((s.wr R.REF_CTL_manual 1).wr R.REF_CTL_msel r).switchTo r)
    ∧ (∀ r, s.refState r ≠ 4 → s.refState r ≠ 5 → s.applySel (.select true r) = s.flag R.REF_STATUS_cmd_err)
    ∧ (∀ r reason, s.selectable r = true → (reason = 2 ∨ reason = 3) → s.applySel (.disqualify r reason)
      = (let t := ((s.wr (R.REF_STAT_reason r) reason).inc (R.REF_DISQ r)).wr (R.REF_STAT_state r) 1;
         t.health 9 r 1 reason t.curRound))
    ∧ (∀ r reason, s.selectable r = true → reason ≠ 2 → reason ≠ 3 → s.applySel (.disqualify r reason)
      = ((s.wr (R.REF_STAT_reason r) reason).inc (R.REF_DISQ r)).wr (R.REF_STAT_state r) 2)
    ∧ (∀ r, s.refSel = some r → s.selectable r = true → s.reselect = s.setQuality)
    ∧ (∀ r, s.refSel = some r → s.selectable r = false →
      let t := if s.on R.REF_STATUS_slewing = true then s else s.holdY s.meanY;
      let t : State := { t with rf := { t.rf with held := s.meanY } };
      (∀ b, t.bestRef = some b → s.reselect = t.switchTo b) ∧ (t.bestRef = none → s.reselect = t.freeRun)))

/-- R254 to R256, R260: the writes of the timebase, of a write that its register takes. A step has the lowest result of R254 that refuses it: 3 when it leaves a negative time, 4 while one
waits, 5 for a round begun, 6 for a reference that the mode cannot use; else it waits, bound to its round under a valid SC epoch. A
commit of an SC epoch has 3 for no period, 4 for a port that has heard no epoch, 5 while one waits, 6 for a round begun; else it waits for its round under a
valid SC epoch, and without one is in force at once. An invalidation clears sce_valid, and rounds not begun have no epoch. An armed comparator keeps its
first target, and fires late when the target is at most 1 µs ahead; with periodic set and no period it is not armed. -/
def Obligations.TimeWrites : Prop :=
  (∀ (s : State) (m : Fin 20) (v : Word),
    (∀ w L, w = force v R.TB_STEPCTL_go 1 → L = s.landed m R.TB_STEPCTL_go.a w → s.takes m R.TB_STEPCTL_go.a w →
      exec (.timeStepRequest m v) s = .next (L.stepRequest.okResp []))
    ∧ (∀ w L, w = force v R.TB_SCECTL_commit 1 → L = s.landed m R.TB_SCECTL_commit.a w → s.takes m R.TB_SCECTL_commit.a w →
      v.toNat.testBit 1 = false → exec (.scEpochCommit m v) s = .next (L.epochCommit.okResp []))
    ∧ (∀ w L, w = force v R.TB_SCECTL_inval 1 → L = s.landed m R.TB_SCECTL_inval.a w → s.takes m R.TB_SCECTL_inval.a w →
      v.toNat.testBit 0 = false → exec (.scEpochInvalidate m v) s = .next (L.epochInvalidate.okResp []))
    ∧ (∀ k : Fin 16, ∀ w L, w = force v (R.TB_TRGCTL_arm k) 1 → L = s.landed m (R.TB_TRGCTL_arm k).a w →
      s.takes m (R.TB_TRGCTL_arm k).a w → s.on (R.TB_TRGCTL_arm k) = false →
      exec (.comparatorArm m k v) s = .next (((L.trgArm k).drivePins s).okResp [])))
  ∧ (∀ s : State,
    let mode := s.rd R.TB_STEPCTL_mode;
    let sec := toSigned 64 (s.rq R.TB_STEPS);
    let ns := s.rd R.TB_STEPNS_ns;
    let bnd := s.bindTo (s.on R.TB_STEPCTL_tgt) (s.rq R.TB_STEPTGT);
    let result := fun (r : Nat) => s.stepRequest = s.wr R.TB_STEPCTL_result r;
    let judged := fun (add : Int) (ok : Prop) =>
      (s.tb.step ≠ none → result 4)
      ∧ (s.tb.step = none → bnd = none → result 5)
      ∧ (s.tb.step = none → bnd ≠ none → ¬ ok → result 6)
      ∧ (∀ n, s.tb.step = none → bnd = some n → ok → let b := if s.sceValid = true then some n else none;
        s.stepRequest = ((State.wr { s with tb := { s.tb with step := some ⟨b, mode, add, sec.toNat, ns⟩ } }
          R.TB_STEPCTL_result 1).wr R.TB_STATUS_step_pend 1).wq R.TB_STEPBND (b.getD 0));
    (mode = 0 → let add := sec * 1000000000 + ns;
      ((s.nowNs : Int) + add < 0 → result 3) ∧ (0 ≤ (s.nowNs : Int) + add → judged add True))
    ∧ (∀ r, mode = 1 → s.refSel = some r → let add := -(psToNs (s.refOffset r));
      ((s.nowNs : Int) + add < 0 → result 3) ∧ (0 ≤ (s.nowNs : Int) + add → judged add (refType r ≠ .f)))
    ∧ (mode = 1 → s.refSel = none → judged 0 False)
    ∧ ((mode = 2 ∨ mode = 3) → sec < 0 → result 3)
    ∧ (mode = 2 → 0 ≤ sec → judged 0 True)
    ∧ (mode = 3 → 0 ≤ sec → judged 0 (s.sceValid = false ∧ ∃ r, s.refSel = some r ∧ refType r = .p)))
  ∧ (∀ s : State,
    let port := (s.ulp (s.rd R.TB_SCECTL_port)).tim;
    let p := s.rq R.TB_SCEPER;
    let own : ScMap := ⟨s.rq R.TB_SCESC, ((s.rq R.TB_SCETS * 1000000000 + s.rd R.TB_SCETNS_ns : Nat) : Int), p, 0⟩;
    let heard : ScMap := ⟨port.sc, (port.epS : Int) * 1000000000 + port.epNs, p, 0⟩;
    let bnd := s.bindTo (s.on R.TB_SCECTL_tgt) (s.rq R.TB_SCETGT);
    let result := fun (r : Nat) => s.epochCommit = s.wr R.TB_SCECTL_result r;
    let judged := fun (e : ScMap) =>
      (s.tb.sce ≠ none → result 5)
      ∧ (s.tb.sce = none → bnd = none → result 6)
      ∧ (∀ n, s.tb.sce = none → bnd = some n → s.sceValid = true → s.epochCommit
        = ((State.wr { s with tb := { s.tb with sce := some (n, e) } } R.TB_SCECTL_result 1).wr R.TB_STATUS_sce_pend 1).wq
            R.TB_SCEBND n)
      ∧ (s.tb.sce = none → bnd ≠ none → s.sceValid = false → s.epochCommit = s.epochNow e);
    (p = 0 → result 3)
    ∧ (p ≠ 0 → s.on R.TB_SCECTL_src = true → port.tflags.testBit 0 = false → result 4)
    ∧ (p ≠ 0 → s.on R.TB_SCECTL_src = true → port.tflags.testBit 0 = true → judged heard)
    ∧ (p ≠ 0 → s.on R.TB_SCECTL_src = false → judged own)
    ∧ (s.sceValid = false → s.epochInvalidate = s)
    ∧ (s.sceValid = true → let t := s.placeAll;
      s.epochInvalidate = (State.wr { t with tb := { t.tb with
        maps := s.tb.maps.filter (fun q => q.1 < s.nextRound) ++ [(s.nextRound, none)] } } R.TB_STATUS_sce_valid 0).moveHorizon)
    ∧ (∀ k, (s.on (R.TB_TRGCTL_periodic k) = true → s.trgPeriod k = 0 → s.trgArm k = s.wr (R.TB_TRGCTL_arm k) 0)
      ∧ ((s.on (R.TB_TRGCTL_periodic k) = false ∨ s.trgPeriod k ≠ 0) →
        let t := s.wr (R.TB_TRGCTL_arm k) 1;
        let t : State := { t with tb := { t.tb with trgFirst := smapSet 0 t.tb.trgFirst k (t.trgTarget k) } };
        (t.dueSoon k = false → s.trgArm k = t) ∧ (t.dueSoon k = true → s.trgArm k = t.trgFire k true))))

/-- R246, R251, R254 to R256, R260 to R262: the events of the timebase. The ticks up to the next whole second elapse and E091 fires. A step with a mode other than 3, and an epoch, apply
at their round, when that is reached; of a step and an epoch at one boundary the step applies first and takes the epoch along. An armed comparator fires
when the counter has come to its target. A pulse that ends leaves the set of pulses; an edge is stamped by each unit that watches its pin and its sense, and a stamp that finds a
full queue is counted and lost. A step leaves the counter and its copy at its time and nothing pending, and the time epoch has incremented with E089. -/
def Obligations.TimeRuns : Prop :=
  (∀ s : State, s.off = false →
    (s.clockRuns = true → exec .taiSecondRollover s = .next s.toNextSecond.ticked)
    ∧ (∀ st, s.tb.step = some st → st.mode ≠ 3 → st.bnd = none →
      exec .timeStepApply s = .next (s.stepNow st).passBoundaries)
    ∧ (∀ st n, s.tb.step = some st → st.mode ≠ 3 → st.bnd = some n → s.reached n = true →
      exec .timeStepApply s = .next ((s.boundariesTo n).stepNow st).passBoundaries)
    ∧ (∀ n e, s.tb.sce = some (n, e) → s.reached n = true → let t := s.placeAll.boundariesTo n;
      ((∀ st, t.tb.step = some st → st.bnd ≠ some n) →
        exec .scEpochApply s = .next ((t.nextEpoch.epochAt n e).moveHorizon).passBoundaries.passBoundaries)
      ∧ (∀ st, t.tb.step = some st → st.bnd = some n → exec .scEpochApply s = .next (t.stepNow st).passBoundaries))
    ∧ (∀ k : Fin 16, s.on (R.TB_TRGCTL_arm k) = true →
      (s.past (s.trgTarget k) = true → exec (.comparatorFire k) s = .next (s.trgFire k false).ticked)
      ∧ (s.past (s.trgTarget k) = false → exec (.comparatorFire k) s
          = .next ((s.elapseTo (ceilDiv (s.trgTarget k * 2 ^ 48) 100)).trgFire k false).ticked))
    ∧ (∀ k : Fin 16, exec (.triggerPulseEnd k) s = .next (s.setPulses (s.tb.pulse.filter (· ≠ k.val))))
    ∧ (∀ (pin : Fin 16) fine rise, exec (.captureEdge pin fine rise) s = .next (s.fold (List.range 16) (fun t k =>
        if t.on (R.TB_CAPCTL_src k) = false ∧ t.rd (R.TB_CAPCTL_pin k) = pin ∧
          (t.rd (R.TB_CAPCTL_edge k)).testBit (if rise = true then 0 else 1) = true then t.stamp k fine rise else t))))
  ∧ (∀ s : State,
    (s.rq R.TB_INC ≠ 0 → let t := s.toNextSecond;
      (s.taiS + 1) * 1000000000 * 2 ^ 48 ≤ t.tb.t ∧ t.tb.t < (s.taiS + 1) * 1000000000 * 2 ^ 48 + s.rq R.TB_INC
        ∧ t.evq = s.evq ++ [(91, 0)] ∧ t.csr = s.csr ∧ t.mem = s.mem)
    ∧ (∀ k, let t := ((s.setPulses (s.tb.pulse.filter (· ≠ k) ++ [k])).fire k).flag (R.TB_TRGCTL_fired k);
      (t.on (R.TB_TRGCTL_periodic k) = false → s.trgFire k false = t.wr (R.TB_TRGCTL_arm k) 0)
      ∧ (t.on (R.TB_TRGCTL_periodic k) = true → s.trgFire k false = t.setTarget k (t.trgTarget k + t.trgPeriod k)))
    ∧ (∀ l, (s.setPulses l).tb = { s.tb with pulse := l } ∧ (s.setPulses l).csr = s.csr ∧ (s.setPulses l).mem = s.mem)
    ∧ (∀ k fine rise, let q := smapGet [] s.tb.capQ k;
      (16 ≤ q.length → s.stamp k fine rise = ((s.flag (R.TB_CAPSTAT_ovf k)).inc (R.TB_CNT 3)).fire 188)
      ∧ (q.length < 16 → let x := s.tb.t * 50 / nsUnit + fine;
        s.stamp k fine rise = State.wr { s with tb := { s.tb with capQ := smapSet [] s.tb.capQ k (q ++
          [⟨x / 50000000000, x / 50 % 1000000000, x % 50 * 20, s.rd R.TB_STATUS_epoch, rise⟩]) } }
          (R.TB_CAPSTAT_fill k) (q.length + 1)))
    ∧ (∀ st, s.stepNow st = (((s.placeAll.stepCounter st).setQuality).moveHorizon).passBoundaries
      ∧ (let t := s.stepCounter st;
        t.tb.t = (s.steppedTo st).toNat ∧ t.tb.t2 = t.tb.t ∧ t.tb.step = none ∧ t.rd R.TB_STEPCTL_result = 2
        ∧ t.rd R.TB_STATUS_epoch = (s.rd R.TB_STATUS_epoch + 1) % 65536 ∧ (89, 0) ∈ t.evq
        ∧ (2 ≤ st.mode → t.on R.TB_STATUS_set = true ∧ t.on R.TB_STATUS_lost = false))))

/-- R257 to R259: the PTP messages that a port hears, each counted as received. A Sync is counted; one of the parent in one step gives its times, one in two steps waits for its
Follow_Up, which gives them; one of another sender does no more. A Delay_Req is answered by a MASTER; a Delay_Resp and a Pdelay_Resp that answer this port's open
request give a path delay, or in two steps wait for the Pdelay_Resp_Follow_Up, which gives it; a Pdelay_Req is answered with one message or two; an
Announce of another clock joins the foreign masters and the selection runs. -/
def Obligations.PtpTaken : Prop :=
  ∀ (s : State) (p : Fin 8) (b : Bytes), s.off = false →
    let u := s.inc (R.ET_CNT p 1);
    let asym := toSigned 32 (s.rd (R.ET_PTPASYM_v p));
    let corr := corrPs (beAt b 8 8);
    (∀ ticks, s.ptpHears p b 0 → let w := u.inc (R.ET_PTPCNT p 0);
      (s.fromParent p b = false → exec (.syncReceive p b ticks) s = .next w)
      ∧ (s.fromParent p b = true → (byteAt b 6).testBit 1 = true → exec (.syncReceive p b ticks) s
        = .next (w.setPtp p { w.ptp p with sync := some (seqOf b, w.ingress p ticks, corr) }))
      ∧ (s.fromParent p b = true → (byteAt b 6).testBit 1 = false →
        exec (.syncReceive p b ticks) s = .next (w.syncDone p (stampPs b 34 + corr) (w.ingress p ticks))))
    ∧ (∀ q t2 c, s.ptpHears p b 8 → (s.ptp p).sync = some (q, t2, c) → s.fromParent p b = true → q = seqOf b →
      exec (.followUpReceive p b) s = .next (u.syncDone p (stampPs b 34 + c + corr) t2))
    ∧ (∀ ticks, s.ptpHears p b 1 → s.ptpState p = 6 → exec (.delayReqReceive p b ticks) s = .next (
      let t := stampBytes (u.ingress p ticks);
      u.ptpSend p false false (u.ptpHead p 9 54 0 (corr - t.2) (seqOf b) 3 (logByte (s.rd (R.ET_PTPPCTL_log_dreq p)))
        ++ t.1 ++ beBytes 10 (srcOf b))))
    ∧ (∀ q t3 t1 t2, s.ptpHears p b 9 → (s.ptp p).dreq = some (q, t3) → (s.ptp p).last = some (t1, t2) →
      s.fromParent p b = true → q = seqOf b → beAt b 44 10 = s.portId p →
      exec (.delayRespReceive p b) s = .next (((u.setPtp p { s.ptp p with dreq := none }).noteDelay p
        (((t2 - t1) + (stampPs b 34 - corr - t3)) / 2)).offerOffset p))
    ∧ (∀ ticks, s.ptpHears p b 2 → let t2 := u.ingress p ticks; let t3 := u.egress p;
      let id := beBytes 10 (srcOf b);
      (s.on (R.ET_PTPPCTL_one_step p) = true → exec (.pdelayReqReceive p b ticks) s = .next (
        u.ptpSend p true true (u.ptpHead p 3 54 0 (corr + (t3 - t2)) (seqOf b) 5 0x7F ++ zeros 10 ++ id)))
      ∧ (s.on (R.ET_PTPPCTL_one_step p) = false → exec (.pdelayReqReceive p b ticks) s = .next (
        let t := u.ptpSend p true true (u.ptpHead p 3 54 0x0200 (-(stampBytes t2).2) (seqOf b) 5 0x7F ++ (stampBytes t2).1 ++ id);
        t.ptpSend p false true (t.ptpHead p 10 54 0 (corr + (stampBytes t3).2) (seqOf b) 5 0x7F ++ (stampBytes t3).1 ++ id))))
    ∧ (∀ ticks q t1, s.ptpHears p b 3 → (s.ptp p).preq = some (q, t1) → q = seqOf b → beAt b 44 10 = s.portId p →
      ((byteAt b 6).testBit 1 = false →
        exec (.pdelayRespReceive p b ticks) s = .next ((u.setPtp p { s.ptp p with preq := none }).noteDelay p
          ((u.ingress p ticks - t1 - (corr + asym)) / 2)))
      ∧ ((byteAt b 6).testBit 1 = true →
        exec (.pdelayRespReceive p b ticks) s = .next (u.setPtp p { s.ptp p with
          presp := some (q, stampPs b 34 - (corr + asym), u.ingress p ticks) })))
    ∧ (∀ q t1 t2 t4, s.ptpHears p b 10 → (s.ptp p).preq = some (q, t1) → (s.ptp p).presp = some (q, t2, t4) → q = seqOf b →
      beAt b 44 10 = s.portId p →
      exec (.pdelayRespFollowUpReceive p b) s = .next ((u.setPtp p { s.ptp p with
        preq := none
        presp := none }).noteDelay p (((t4 - t1) - (stampPs b 34 + corr - t2)) / 2)))
    ∧ (s.ptpHears p b 11 → srcOf b / 65536 ≠ s.rq R.ET_PTPID →
      exec (.announceReceive p b) s = .next (((u.inc (R.ET_PTPCNT p 1)).setPtp p { s.ptp p with
        foreign := (s.ptp p).foreign.filter (fun a => a.src ≠ srcOf b)
          ++ [⟨srcOf b, min 2 ((((s.ptp p).foreign.find? (fun a => a.src = srcOf b)).map AnnRec.seen).getD 0 + 1),
              byteAt b 47, byteAt b 48, byteAt b 49, beAt b 50 2, byteAt b 52, beAt b 53 8, beAt b 61 2, byteAt b 63,
              beAt b 44 2, byteAt b 7⟩] }).ptpSelect none))

/-- R257 to R259: the PTP messages that a port of the clock sends while it is up, whose sequence numbers advance. A MASTER sends a Sync with its time, or in two steps a Sync and a Follow_Up with it, and an Announce; a PRE_MASTER whose
qualification timeout has passed sends as a MASTER. A SLAVE or UNCALIBRATED port of the delay request-response profile sends a Delay_Req, any port of the peer-to-peer
profile a Pdelay_Req, and each stays open for its answer with its time. An Announce that does not come within its time empties the
port's foreign masters and the selection runs. -/
def Obligations.PtpSent : Prop :=
  ∀ (s : State) (p : Fin 8), s.off = false → s.ptpOn p = true → s.ethUp p = true →
    let x := s.ptp p;
    (s.ptpState p = 6 → let t := stampBytes (s.egress p);
      let li := logByte (s.rd (R.ET_PTPPCTL_log_sync p));
      let u := (s.setPtp p { x with sSeq := (x.sSeq + 1) % 65536 }).inc (R.ET_PTPCNT p 2);
      (s.on (R.ET_PTPPCTL_one_step p) = true → exec (.syncSend p) s
        = .next (u.ptpSend p true false (u.ptpHead p 0 44 0 t.2 x.sSeq 0 li ++ t.1)))
      ∧ (s.on (R.ET_PTPPCTL_one_step p) = false → exec (.syncSend p) s = .next (
        let w := u.ptpSend p true false (u.ptpHead p 0 44 0x0200 0 x.sSeq 0 li ++ zeros 10);
        w.ptpSend p false false (w.ptpHead p 8 44 0 t.2 x.sSeq 2 li ++ t.1))))
    ∧ (s.ptpState p = 6 → exec (.announceSend p) s = .next (let a := s.announced;
        (s.setPtp p { x with aSeq := (x.aSeq + 1) % 65536 }).ptpSend p false false
          (s.ptpHead p 11 64 a.flags 0 x.aSeq 5 (logByte (s.rd (R.ET_PTPPCTL_log_ann p))) ++ (zeros 10 ++ beBytes 2 a.utc ++ zeros 1
            ++ beBytes 1 a.p1 ++ beBytes 1 a.cls ++ beBytes 1 a.acc ++ beBytes 2 a.var ++ beBytes 1 a.p2 ++ beBytes 8 a.gm
            ++ beBytes 2 a.steps ++ beBytes 1 a.tsrc))))
    ∧ (s.ptpState p = 5 → x.qualAt ≤ s.tb.t →
      exec (.syncSend p) s = .next ((s.wr (R.ET_PTPPSTAT_state p) 6).syncSend p)
      ∧ exec (.announceSend p) s = .next ((s.wr (R.ET_PTPPSTAT_state p) 6).announceSend p))
    ∧ ((s.ptpState p = 8 ∨ s.ptpState p = 9) → s.on R.ET_PTPCTL_profile = false → exec (.delayReqSend p) s = .next (
        (s.setPtp p { x with dSeq := (x.dSeq + 1) % 65536, dreq := some (x.dSeq, s.egress p) }).ptpSend p true false
          (s.ptpHead p 1 44 0 (-toSigned 32 (s.rd (R.ET_PTPASYM_v p))) x.dSeq 1 0x7F ++ zeros 10)))
    ∧ (s.on R.ET_PTPCTL_profile = true → exec (.pdelayReqSend p) s = .next (
        (s.setPtp p { x with pSeq := (x.pSeq + 1) % 65536, preq := some (x.pSeq, s.egress p), presp := none }).ptpSend p
          true true (s.ptpHead p 2 54 0 (-toSigned 32 (s.rd (R.ET_PTPASYM_v p))) x.pSeq 5 0x7F ++ zeros 20)))
    ∧ exec (.announceReceiptTimeout p) s = .next ((s.setPtp p { s.ptp p with foreign := [] }).ptpSelect (some p.val))

/-- R263, R268, R270 to R272, R275, R276, Tables 12-5 and 12-6: the commands of the Chess Clock. A round whose next boundary has been acted on, with no plan, is admitted by a
unit that does not mirror; without Endgame, and on a unit that is not active, its plan is that of the lowest level that fits its allowance, or of level 4 with no
work. Counted energy joins the counters and the rails' energy shows in CK_RAIL; a check of pace shows the ratio of steps done to steps due, and raises the point below 1; a change of point settles. Endgame is
entered for any cause: everything halts, the point is 0, and E092 fires; it is left when no cause is left. Cause 2 clears below
the threshold in force by more than 3 °C. -/
def Obligations.EnergyPlanned : Prop :=
  (∀ s : State, s.off = false →
    (∀ n, n + 1 < s.rnd → s.planOf n = none → (s.ck.next ≤ n ∨ s.roundBusy n = true) → s.csState ≠ 2 →
      exec (.planAdmission n) s = .next (s.admitOwn n))
    ∧ (∀ bd ba rest rails, ∃ t, exec (.energyCountUpdate bd ba rest rails) s = .next t
        ∧ (∀ k < 4, t.rq (R.CK_RAIL k) = (s.rq (R.CK_RAIL k) + rails.getD k 0) % 2 ^ 48)
        ∧ t.ck = { s.ck with acc := t.ck.acc, raw := t.ck.raw, meas := addLists 4 s.ck.meas rails }
        ∧ t.ck.acc.getD 0 0 = s.ck.acc.getD 0 0
            + bd * (s.word (R.CK_COEF 1)).toNat * vptFactor (s.rd R.CK_STATUS_vpoint) * s.rd (R.CK_TRIM_f 0)
        ∧ (∀ r < 9, t.rq (R.CK_E r) = t.ck.acc.getD r 0 / (10000 * 4096 * 1000000) % 2 ^ 48)
        ∧ t.rq (R.CK_E 9) = t.ck.acc.sum / (10000 * 4096 * 1000000) % 2 ^ 48 ∧ t.mem = s.mem ∧ t.out = s.out)
    ∧ (∀ n t0 steps (p : Plan), s.ck.work = some (n, t0) → s.planOf n = some p →
      let full : Rat := (max p.nBd p.nBa : Nat);
      let due := if s.roundDur = 0 then full
        else min full (full / s.roundDur * (((s.nowNs - t0 : Nat) : Rat) / 1000000000));
      let ratio := if due ≤ 0 then 65535 else min 65535 (((steps * 1000 : Nat) : Rat) / due).floor.toNat;
      let t := s.wr R.CK_PACE_pace ratio;
      let v := s.rd R.CK_STATUS_vpoint;
      ((1000 ≤ ratio ∨ 15 ≤ v) → exec (.paceCheck steps) s = .next t)
      ∧ (ratio < 1000 → v < 15 →
        exec (.paceCheck steps) s = .next (((t.setPoint (v + 1)).flag R.CK_STATUS_raised).inc (R.CK_CNT 2))))
    ∧ exec .voltagePointSettle s = .next { s with ck := { s.ck with settling := false } }
    ∧ (s.rd R.CK_STATUS_eg_cause ≠ 0 → s.ck.eg = 0 → exec .endgameEntry s = .next (let h := s.haltAll;
        (((State.setPoint { h with ck := { h.ck with eg := 1, fit := 0 } } 0).inc (R.CK_CNT 4)).fire 92).auCheck))
    ∧ (s.rd R.CK_STATUS_eg_cause = 0 → s.ck.eg = 2 →
      exec .endgameExit s = .next { s with ck := { s.ck with eg := 3 } })
    ∧ (s.tj < ((s.ck.set.thrC : Int) - 3) * 8 → exec .thermalCauseClear s = .next (s.setCause 2 false)))
  ∧ (∀ (s : State) n, s.isActive = false → s.ck.eg = 0 → s.ck.egReq = none → s.cause 0 = false → s.cause 4 = false →
    let u := s.admitStart n;
    let a := u.allowance.1;
    let pf := if u.allowance.2 < 0 then 4 else 0;
    (∀ lvl v, u.roundDur ≠ 0 → lvl < 4 → u.levelFits n lvl a = some v → (∀ l < lvl, u.levelFits n l a = none) →
      (s.admitOwn n).planOf n = some (u.mkPlan n lvl v pf (u.levelSet n lvl) a))
    ∧ ((u.roundDur = 0 ∨ ∀ l < 4, u.levelFits n l a = none) →
      (s.admitOwn n).planOf n = some (u.mkPlan n 4 0 pf ([], 0) a)))

/-- R25, R275, Table 12-5: the host's request of Endgame and its clearing, of a write that CK_CTL takes: each binds to its boundary and shows eg_pending, and one whose
round has begun is refused with cmd_err. -/
def Obligations.EndgameWrites : Prop :=
  ∀ (s : State) (m : Fin 20) (v : Word),
    (∀ w L, w = force v R.CK_CTL_eg_req 1 → L = s.landed m R.CK_CTL_eg_req.a w → s.takes m R.CK_CTL_eg_req.a w →
      v.toNat.testBit 2 = false →
      (∀ n, s.bindTo (L.on R.CK_CTL_tgt) (s.rq R.CK_EGTGT) = some n → exec (.endgameRequest m v) s
        = .next ((State.wr { L with ck := { L.ck with egReq := some n } } R.CK_STATUS_eg_pending 1).okResp []))
      ∧ (s.bindTo (L.on R.CK_CTL_tgt) (s.rq R.CK_EGTGT) = none →
        exec (.endgameRequest m v) s = .next ((L.flag R.CK_STATUS_cmd_err).okResp [])))
    ∧ (∀ w L, w = force v R.CK_CTL_eg_clr 1 → L = s.landed m R.CK_CTL_eg_clr.a w → s.takes m R.CK_CTL_eg_clr.a w →
      v.toNat.testBit 1 = false →
      (∀ n, s.bindTo (L.on R.CK_CTL_tgt) (s.rq R.CK_EGTGT) = some n → exec (.endgameClear m v) s
        = .next ((State.wr { L with ck := { L.ck with egClr := some n } } R.CK_STATUS_eg_pending 1).okResp []))
      ∧ (s.bindTo (L.on R.CK_CTL_tgt) (s.rq R.CK_EGTGT) = none →
        exec (.endgameClear m v) s = .next ((L.flag R.CK_STATUS_cmd_err).okResp [])))
    ∧ (∀ tgt n, s.bindTo tgt n = (if tgt = true then (if n < s.nextRound then none else some n) else some s.nextRound))

/-- R279 to R293, Tables 13-3 and 13-4: the commands of the HBM controllers. On a ready stack the requests that come are admitted, and a channel that is not blocked serves the one that is
picked; a stack that failed training answers poison. Requests over their age are promoted and counted; on a ready stack an interval of refresh is owed until it is paid, by banks not needed
or at the allowance by an all-bank refresh, and none is paid just after a run; a temperature is shown, makes a stack hot or, cool for long enough, cool again; a failing generator falls back and a retry that passes ends that; a
scrub that corrects counts and one that cannot poisons the word; a row to spare starts its copy, or with no spare left stays, and a copied row is spared and logged; a
centring blocks its channel; training ends ready or failed; every stack enters and leaves self-refresh, and work resumes. -/
def Obligations.HbmRuns : Prop :=
  (∀ (s : State) (st : Fin 8) (c : Fin 32), s.off = false →
    (∀ new ready sv, s.stkState st = 2 →
      let u := s.fold new (fun t (a : HbmArrival) =>
        t.admitReq st c ⟨a.cls, a.bank, a.row, a.bytes, a.use, t.nowNs, false, false⟩);
      (∀ r, (u.hchan st c).block ≤ s.nowNs → u.pickReq (u.hchan st c) ready = some r →
        exec (.hbmRequestServe st c new ready sv) s = .next (u.serveReq st c r sv))
      ∧ ((s.nowNs < (u.hchan st c).block ∨ u.pickReq (u.hchan st c) ready = none) →
        exec (.hbmRequestServe st c new ready sv) s = .next u))
    ∧ (∀ u ready sv cls bank row bytes, s.stkState st = 5 →
      exec (.hbmRequestServe st c [⟨cls, bank, row, bytes, some u⟩] ready sv) s = .next (s.poisonReact st u))
    ∧ exec (.agePromotion st c) s = .next ((s.setHchan st c { s.hchan st c with
        queue := (s.hchan st c).queue.map (fun r => if s.overAge r = true then { r with promoted := true } else r) }).incBy
          (R.HM_CNT st 5) ((s.hchan st c).queue.filter s.overAge).length)
    ∧ (∀ paid, s.stkState st = 2 → let x := s.hchan st c;
      let o := x.owed + 1;
      (s.maintFree x = false →
        exec (.refreshDue st c paid) s = .next ((s.setHchan st c { x with owed := o }).showOwed st))
      ∧ (s.maintFree x = true →
        (paid = true → exec (.refreshDue st c paid) s = .next ((s.setHchan st c { x with owed := o - 1 }).showOwed st))
        ∧ (paid = false → o < s.allowed st →
          exec (.refreshDue st c paid) s = .next ((s.setHchan st c { x with owed := o }).showOwed st))
        ∧ (paid = false → s.allowed st ≤ o → exec (.refreshDue st c paid) s
          = .next ((s.setHchan st c { x with owed := o - 1, block := max x.block (s.nowNs + 400) }).showOwed st))))
    ∧ (∀ temp : BitVec 8, s.stkState st ≠ 0 → s.stkState st ≠ 3 →
      let t := s.wr (R.HM_STK_temp_c st) temp.toNat;
      let k := s.hstk st;
      let hot := s.on (R.HM_STK_hot st);
      (hot = false → s.rd R.HM_TCTL_hot_c ≤ temp.toNat →
        exec (.hbmTemperatureRead st temp) s = .next ((t.setHstk st { k with cool := 0 }).stackHot st))
      ∧ ((hot = true ∨ temp.toNat < s.rd R.HM_TCTL_hot_c) → s.rd R.HM_TCTL_hot_c < temp.toNat + s.rd R.HM_TCTL_hyst_c →
        exec (.hbmTemperatureRead st temp) s = .next (t.setHstk st { k with cool := 0 }))
      ∧ (temp.toNat + s.rd R.HM_TCTL_hyst_c ≤ s.rd R.HM_TCTL_hot_c → temp.toNat < s.rd R.HM_TCTL_hot_c →
        let start := if k.cool = 0 then s.nowNs + 1 else k.cool;
        let u := t.setHstk st { k with cool := start };
        exec (.hbmTemperatureRead st temp) s
          = .next (if hot = true ∧ s.rd R.HM_TCTL_hold_ms * 1000000 ≤ s.nowNs + 1 - start then u.stackCool st else u)))
    ∧ (s.hm.trngFb = false → exec .trngHealthFail s = .next (
        let t := State.flag { s with hm := { s.hm with trngFb := true } } R.HM_STATUS_trng_fb;
        t.health 6 0 1 0 t.curRound))
    ∧ (∀ bank row pc col word pass newer, s.on R.HM_CTL_scrub_en = true → s.stkState st = 2 →
      s.maintFree (s.hchan st c) = true →
      exec (.scrubRead st c bank row pc col word pass 0 newer) s = .next s
      ∧ exec (.scrubRead st c bank row pc col word pass 2 newer) s = .next (s.eccPoisoned st c 0 bank row pc col word)
      ∧ exec (.scrubRead st c bank row pc col word pass 1 newer) s = .next (
          let t := s.eccCorrected st row;
          let t := if newer = true then t else t.inc (R.HM_CNT st 6);
          let id := rowId c pc bank row;
          let seen := smapGet [] (t.hstk st).ceRows id;
          let seen := if pass ∈ seen then seen else seen ++ [pass];
          let t := t.setHstk st { t.hstk st with ceRows := smapSet [] (t.hstk st).ceRows id seen };
          if 3 ≤ seen.length then t.dueSpare st id 2 else t))
    ∧ (∀ id origin rest, (s.hstk st).copy = none → (s.hstk st).spareQ = (id, origin) :: rest → s.stkState st = 2 →
      let ch := id / 2 ^ 32 / 64;
      s.maintFree (s.hchan st ch) = true → s.ig.arbDown = false →
      (s.rd (R.HM_STKSP_spares_used st) < 64 → exec (.rowSpare st) s
        = .next ((s.setHstk st { s.hstk st with copy := some (id, origin), spareQ := rest }).setHchan st ch
            { s.hchan st ch with block := max (s.hchan st ch).block s.nowNs + 200 }))
      ∧ (64 ≤ s.rd (R.HM_STKSP_spares_used st) → exec (.rowSpare st) s
        = .next ((s.setHstk st { s.hstk st with spareQ := rest }).wr (R.HM_STK_spare_out st) 1)))
    ∧ (∀ id origin, (s.hstk st).copy = some (id, origin) →
      exec (.rowCopyComplete st) s = .next (((s.useSpare st id).inc (R.HM_CNT st 7)).logRepair 2 st (spareDetail id).1
        (spareDetail id).2 origin))
    ∧ (s.stkState st = 2 → s.maintFree (s.hchan st c) = true →
      exec (.phyCentring st c) s = .next (s.setHchan st c { s.hchan st c with
        block := max (s.hchan st c).block (s.nowNs + 200) }))
    ∧ (∀ ok, (s.stkState st = 1 ∨ s.stkState st = 4) → exec (.hbmTrainingDone st ok) s = .next (
        let t := s.wr (R.HM_STK_state st) (if ok = true then 2 else 5);
        { t with hm := { t.hm with retrain := t.hm.retrain.filter (· ≠ st.val) } }))
    ∧ (s.ck.eg = 1 → exec .selfRefreshEntryDone s = .next (
        let t := s.fold (List.range s.stacks) (fun t k =>
          if t.stkState k = 2 ∨ t.stkState k = 1 then t.wr (R.HM_STK_state k) 3 else t);
        let t := (t.wr R.HM_STATUS_selfref 1).wr R.CK_STATUS_endgame 1;
        { t with ck := { t.ck with eg := 2 } }))
    ∧ (∀ temps, s.ck.eg = 3 → exec (.selfRefreshExitDone temps) s = .next (
        let t := (s.stacksOut temps).wr R.CK_STATUS_endgame 0;
        let t := (State.fire { t with ck := { t.ck with eg := 0, l4 := 0 } } 93).workResumes;
        if t.rd R.IG_STATUS_hstate = 3 ∧ t.cause 3 = false then t.setHstate 0 else t)))
  ∧ (∀ (s : State) (m : Fin 20) (v : Word) (good : Bool) (u L : State) w, u = { s with hm := { s.hm with trngGood := good } } →
    w = force v R.HM_CTL_trng_retry 1 → u.takes m R.HM_CTL_trng_retry.a w → L = u.landed m R.HM_CTL_trng_retry.a w →
    exec (.trngRetry m v good) s = .next ((L.trngRetry good).okResp [])
    ∧ (good = false → L.trngRetry good = L) ∧ (s.hm.trngFb = false → L.trngRetry good = L)
    ∧ (good = true → s.hm.trngFb = true → (L.trngRetry good).hm.trngFb = false
        ∧ (L.trngRetry good).on R.HM_STATUS_trng_fb = false
        ∧ ∀ st c, ((L.trngRetry good).hchan st c).acts = []))

/-- R289, R295, R297, R301, Table 8-4: an access to HBM over an open port. A write by a master that has a path there, to a ready stack within the part, outside Endgame and of words without
poison, changes exactly its bytes and answers without error; a read of such words answers the bytes held and changes nothing; a
path that does not exist answers an error, writes nothing and counts; so does an access whose ECC or parity fails, which is a health
record of source 7 (log entry 195). -/
def Obligations.HbmAccessed : Prop :=
  ∀ (s : State) (m : Fin 20) (ch : Fin 8) (a : BitVec 40), s.off = false → s.quiesced m = false →
    (∀ bs : List (BitVec 8), a.toNat < 0x6000000000 → hasPath m 0 = true → (m.val = 0 → s.on R.MG_STATUS_ready = true) →
      bs ≠ [] → a.toNat % 1024 + bs.length ≤ 1024 → a.toNat + bs.length ≤ s.hbmSize → s.ck.eg = 0 →
      s.stackTakes a.toNat = true → (∀ w ∈ wordsOf a.toNat bs.length, smapGet false s.hm.poison w = false) →
      ∃ t : State, exec (.crossbarBurst m ch a ⟨.write (bs.map some), false⟩) s = .next t ∧ t.resp = ⟨[], false⟩
        ∧ t = { s with mem := t.mem, hm := { s.hm with poison := t.hm.poison }, resp := t.resp }
        ∧ (∀ i (h : i < bs.length), t.byte (a.toNat + i) = bs[i])
        ∧ (∀ x, x < a.toNat ∨ a.toNat + bs.length ≤ x → t.byte x = s.byte x))
    ∧ (∀ n, a.toNat < 0x6000000000 → hasPath m 0 = true → (m.val = 0 → s.on R.MG_STATUS_ready = true) →
      0 < n → a.toNat % 1024 + n ≤ 1024 → a.toNat + n ≤ s.hbmSize → s.ck.eg = 0 → s.stackTakes a.toNat = true →
      (∀ w ∈ wordsOf a.toNat n, smapGet false s.hm.poison w = false) →
      exec (.crossbarBurst m ch a ⟨.read n, false⟩) s = .next (s.okResp (s.bytes a.toNat n)))
    ∧ (∀ op t o, targetOf a.toNat = some (t, o) → hasPath m t = false →
      exec (.crossbarBurst m ch a ⟨op, false⟩) s = .next ((s.xbViol 1 m t (opWrites op) a.toNat).failTo m))
    ∧ (∀ op, exec (.crossbarBurst m ch a ⟨op, true⟩) s = .next ((s.health 7 0 1 0 s.curRound).failTo m))

/-- R16 to R18, R407, R408: a write of a 32-bit register. When its master may write it and its values are accepted, the value that the access codes leave lands in it
and the register's own effect follows; a register with a rule of its own does what that rule says. A value out of range, or one that a rule refuses, changes no
field and is reported. A write that changes a field of another master is reported as kind 3, and one that changes a guarded field as its chapter says, and the rest of it lands
as in an accepted one. -/
def Obligations.RegisterWritten : Prop :=
  ∀ (s : State) (m : Fin 20) (a : BitVec 28) (v : Word) (l : Loc),
    s.writable m a.toNat → locate a.toNat = some l → l.reg.pair = false → a.toNat ≠ R.MG_RRST_rst.a →
    s.absent a.toNat l = false →
    let old := s.before l a.toNat;
    let new := s.merged m false l old v.toNat;
    let t := if s.foreign m false l old v.toNat = true then s.deny m a.toNat (.viol 3) else s;
    let t := if s.barred m false l old v.toNat = true then t.deny m a.toNat (s.guards l).2 else t;
    (s.accepts m a.toNat v → s.ownWrite l a.toNat v.toNat old new = none →
      exec (.registerWrite m a v) s = .next (((s.landed m a.toNat v).wrote s m l v.toNat old).okResp []))
    ∧ (∀ d, s.badWrite l old new = some d → exec (.registerWrite m a v) s = .next ((t.deny m a.toNat d).okResp []))
    ∧ (∀ u, s.badWrite l old new = none → t.ownWrite l a.toNat v.toNat old new = some u →
      exec (.registerWrite m a v) s = .next (u.okResp []))
    ∧ (s.badWrite l old new = none → t.ownWrite l a.toNat v.toNat old new = none →
      exec (.registerWrite m a v) s = .next (((t.store l a.toNat new).wrote s m l v.toNat old).okResp []))

/-- R16, Table 0-7: what a write leaves in a register whose state guards nothing and that has no fixed bits, bit by bit: a bit that its
writer may set takes the written one; a W1C bit is cleared and a W1S bit set by a 1; every other bit stays. -/
def Obligations.AccessCodesMerge : Prop :=
  ∀ (s : State) (m : Nat) (load : Bool) (l : Loc) (old raw i : Nat), (load = true ∨ (s.guards l).1 = 0) →
    s.fixedBits l = (0, 0) →
    (s.merged m load l old raw).testBit i =
      ((if (l.reg.bits (fun f => f.sets && s.owns m load l f)).testBit i then raw.testBit i else old.testBit i)
          && !(raw.testBit i && (l.reg.bits (fun f => f.acc = .w1c)).testBit i)
        || (raw.testBit i && (l.reg.bits (fun f => f.acc = .w1s)).testBit i))

/-- R18: a 64-bit pair. A write of _LO is held for its master and changes no register; the write of _HI of the same pair commits
both halves; without a held half of that pair it commits 0 as the low half; the held half is gone. The latches of other masters
stay. -/
def Obligations.PairsWritten : Prop :=
  ∀ (s : State) (m : Fin 20) (a : BitVec 28) (v : Word) (l : Loc),
    s.writable m a.toNat → locate a.toNat = some l → l.reg.pair = true → s.absent a.toNat l = false →
    (l.hi = false → exec (.pairLoWrite m a v) s
      = .next ((s.setLatch m { s.latchOf m with wr := some (a.toNat, v) }).okResp []))
    ∧ (∀ lo, l.hi = true → (s.latchOf m).wr = some (a.toNat - 4, lo) →
      exec (.pairHiWrite m a v) s
        = .next (((s.setLatch m { s.latchOf m with wr := none }).regWrite m false l a.toNat (a.toNat - 4)
            (lo.toNat + v.toNat * 2 ^ 32)).okResp []))
    ∧ (l.hi = true → (∀ lo, (s.latchOf m).wr ≠ some (a.toNat - 4, lo)) →
      exec (.pairHiWrite m a v) s
        = .next (((s.setLatch m { s.latchOf m with wr := none }).regWrite m false l a.toNat (a.toNat - 4)
            (v.toNat * 2 ^ 32)).okResp []))
    ∧ (∀ x k, k ≠ m.val → (s.setLatch m x).latchOf k = s.latchOf k)

/-- R16, R18, R246, R262, R271: reads that reach their register. The _LO half of a pair answers bits 31:0 and latches the rest for its master, whose
read of _HI of that pair answers it, and 0 without it; an RC field answers its value and is cleared; an RL register answers what its rule
latches. The read of CK_PLAN0 copies the record and round of the latest plan; TB_NOWS_LO latches the seconds, nanoseconds and fraction of
one tick; TB_CAPSk_LO takes the oldest stamp of its unit, and of an empty unit keeps what it has. -/
def Obligations.RegistersRead : Prop :=
  (∀ (s : State) (m : Fin 20) (a : BitVec 28) (l : Loc), s.readable m a.toNat → locate a.toNat = some l →
    s.absent a.toNat l = false →
    let t := s.snap l;
    let x := t.regValue l a.toNat;
    let rc := l.reg.bits (fun f => f.acc = .rc);
    (l.reg.pair = true → l.hi = false → rc = 0 → exec (.pairLoRead m a) s
      = .next ((t.setLatch m { s.latchOf m with rd := some (a.toNat, BitVec.ofNat 32 (x / 2 ^ 32)) }).okResp
          (leBytes 4 (x % 2 ^ 32))))
    ∧ (l.hi = true → ∀ h, (s.latchOf m).rd = some (a.toNat - 4, h) →
      exec (.snapshotRead m a) s = .next (s.okResp (leBytes 4 h.toNat)))
    ∧ (l.hi = true → (∀ h, (s.latchOf m).rd ≠ some (a.toNat - 4, h)) →
      exec (.snapshotRead m a) s = .next (s.okResp (leBytes 4 0)))
    ∧ (l.reg.pair = false → l.hi = false → rc ≠ 0 → exec (.counterRead m a) s
      = .next ((t.setWord a.toNat (BitVec.ofNat 32 (without x rc))).okResp (leBytes 4 (x % 2 ^ 32))))
    ∧ (l.reg.pair = false → l.hi = false → rc = 0 →
      exec (.snapshotRead m a) s = .next (t.okResp (leBytes 4 (x % 2 ^ 32)))))
  ∧ (∀ (s : State) (m : Fin 20),
    (s.readable m (R.CK_PLAN 0) → exec (.planRecordRead m) s
      = .next (s.latchPlan.okResp (leBytes 4 (s.latchPlan.word (R.CK_PLAN 0)).toNat)))
    ∧ (∀ p ∈ s.ck.plans, (∀ q ∈ s.ck.plans, q.round < p.round ∨ q = p) →
      s.latchPlan.rq R.CK_ROUND = p.round % 2 ^ 64
        ∧ ∀ w < 10, (s.latchPlan.word (R.CK_PLAN w)).toNat = leAt p.record (4 * w) 4)
    ∧ (s.readable m R.TB_NOWS → exec (.timeRead m) s = .next (
      let t := ((s.wq R.TB_NOWS (s.taiS % 2 ^ 48)).wr R.TB_NOWNS_v s.taiNs).wq R.TB_NOWFR s.taiFr;
      (t.setLatch m { s.latchOf m with rd := some (R.TB_NOWS, BitVec.ofNat 32 (s.taiS % 2 ^ 48 / 2 ^ 32)) }).okResp
        (leBytes 4 (s.taiS % 2 ^ 32))))
    ∧ (∀ (k : Fin 16) x rest, s.readable m (R.TB_CAPS k) → smapGet [] s.tb.capQ k = x :: rest → x.ns < 2 ^ 30 →
        rest.length < 32 → x.s < 2 ^ 64 →
      ∃ t, exec (.captureStampRead m k) s = .next t ∧ t.tb = { s.tb with capQ := smapSet [] s.tb.capQ k rest }
        ∧ t.rq (R.TB_CAPS k) = x.s ∧ t.rd (R.TB_CAPNS_ns k) = x.ns ∧ t.rd (R.TB_CAPSTAT_fill k) = rest.length
        ∧ t.resp = ⟨leBytes 4 (x.s % 2 ^ 32), false⟩ ∧ t.mem = s.mem ∧ t.out = s.out)
    ∧ (∀ k : Fin 16, s.readable m (R.TB_CAPS k) → smapGet [] s.tb.capQ k = [] →
      ∃ t, exec (.captureStampRead m k) s = .next t ∧ t.csr = s.csr ∧ t.tb = s.tb ∧ t.mem = s.mem ∧ t.out = s.out))

/-- R19, R296 to R299, R303, R367, R372, R378: an access of the CSR space that does not reach a register. A quiesced master gets nothing; a master without a path is answered with an
error and kind 1; an address that is not a multiple of 4 with an error and kind 4; the host before Ready with an error; a non-secure write to a block that
XB_CSRSEC protects with an error and kind 2. A write where no register stands is discarded and a read answers 0. A write to a region without a
configuration is discarded (log entry 197), and one that a pending region load holds off by a master other than the Arbiter too, with wr_held. -/
def Obligations.AccessDenied : Prop :=
  ∀ (s : State) (m : Fin 20) (a : BitVec 28) (v : Word), s.off = false →
    (s.quiesced m = true → exec (.registerWrite m a v) s = .next s ∧ exec (.counterRead m a) s = .next s)
    ∧ (s.quiesced m = false → hasPath m 1 = false →
      exec (.registerWrite m a v) s = .next ((s.xbViol 1 m 1 true (csrAddr a.toNat)).failTo m)
      ∧ exec (.counterRead m a) s = .next ((s.xbViol 1 m 1 false (csrAddr a.toNat)).failTo m))
    ∧ (s.quiesced m = false → hasPath m 1 = true → a.toNat % 4 ≠ 0 →
      exec (.registerWrite m a v) s = .next ((s.xbViol 4 m 1 true (csrAddr a.toNat)).failTo m)
      ∧ exec (.counterRead m a) s = .next ((s.xbViol 4 m 1 false (csrAddr a.toNat)).failTo m))
    ∧ (s.quiesced m = false → m.val = 0 → a.toNat % 4 = 0 → s.hostReach a.toNat = false →
      exec (.registerWrite m a v) s = .next (s.failTo m) ∧ exec (.counterRead m a) s = .next (s.failTo m))
    ∧ (s.quiesced m = false → hasPath m 1 = true → a.toNat % 4 = 0 → (m.val = 0 → s.hostReach a.toNat = true) →
      s.secure m 0 = false → (s.rd R.XB_CSRSEC_blk).testBit (a.toNat / 0x100000) = true →
      exec (.registerWrite m a v) s = .next ((s.xbViol 2 m 1 true (csrAddr a.toNat)).failTo m))
    ∧ (s.readable m a.toNat → locate a.toNat = none → exec (.counterRead m a) s = .next (s.okResp (leBytes 4 0)))
    ∧ (s.csrDenied m a.toNat true = none → a.toNat ≠ R.MG_RRST_rst.a →
      (locate a.toNat = none → exec (.registerWrite m a v) s = .next (s.okResp []))
      ∧ (s.unusable a.toNat = true → exec (.registerWrite m a v) s = .next (s.okResp []))
      ∧ (∀ l, locate a.toNat = some l → s.absent a.toNat l = false → s.unusable a.toNat = false → l.reg.pair = false →
        m.val ≠ 1 → s.held a.toNat false = true →
        exec (.registerWrite m a v) s = .next ((s.flag R.CF_STATUS_wr_held).okResp [])))

/-- R303, R304, R310: the commands of the crossbar, the DMA engine and the doorbell. A reset master is quiesced, its bursts
counted and its latches gone, when none of its beats had been accepted. Of a write that XB_DMACTL takes: go starts a channel that is not running at XB_DMADESC
and marks a running one, and abort stops a running one without a write-back. A running channel whose descriptor is misaligned stops with code 3, and one whose descriptor cannot be read with the code
of that access; a length out of range stops it with code 2, an error of ECC, parity or host data with code 1 and the descriptor marked, a failed copy with its own code; with
the bytes copied, the descriptor is completed. A doorbell that XB_MBXDB takes queues its slot, and of a busy slot is counted. -/
def Obligations.FabricRuns : Prop :=
  ∀ (s : State) (m : Fin 20), s.off = false →
    (∀ bursts, ∃ t, exec (.masterReset m [] bursts) s = .next t ∧ t.quiesced m = true ∧ t.latchOf m = default
        ∧ (t.word (R.XB_CNT 5)).toNat = min ((s.word (R.XB_CNT 5)).toNat + bursts) 0xFFFFFFFF
        ∧ (∀ k : Fin 20, k ≠ m → t.quiesced k = s.quiesced k) ∧ t.mem = s.mem)
    ∧ (∀ (c : Fin 8) v w L, w = force v (R.XB_DMACTL_go c) 1 → L = s.landed m (R.XB_DMACTL_go c).a w →
      s.takes m (R.XB_DMACTL_go c).a w → v.toNat.testBit 2 = false →
      exec (.dmaGo m c v) s = .next ((L.dmaGo c).okResp []))
    ∧ (∀ (c : Fin 8) v w L, w = force v (R.XB_DMACTL_abort c) 1 → L = s.landed m (R.XB_DMACTL_abort c).a w →
      s.takes m (R.XB_DMACTL_abort c).a w → v.toNat.testBit 1 = false →
      exec (.dmaAbort m c v) s = .next ((L.dmaAbort c).okResp []))
    ∧ (∀ c : Fin 8, s.dmaState c ≠ 1 → s.quiesced 18 = false →
      (s.dmaGo c).dmaState c = 1 ∧ (s.dmaGo c).rq (R.XB_DMACUR c) = s.rq (R.XB_DMADESC c) % 2 ^ 40
        ∧ (s.dmaGo c).rd (R.XB_DMASTAT_err c) = 0 ∧ (s.dmaGo c).on (R.XB_DMASTAT_pend c) = false ∧ (s.dmaGo c).mem = s.mem)
    ∧ (∀ c : Fin 8, s.dmaState c = 1 → (s.dmaGo c).on (R.XB_DMASTAT_pend c) = true ∧ (s.dmaGo c).dmaState c = 1
        ∧ (s.dmaAbort c).dmaState c = 4 ∧ (s.dmaAbort c).on (R.XB_DMASTAT_pend c) = false ∧ (s.dmaAbort c).mem = s.mem)
    ∧ (∀ (c : Fin 8) bs e ecc, s.dmaState c = 1 → s.quiesced 18 = false → s.rq (R.XB_DMACUR c) % 32 ≠ 0 →
      ∃ t, exec (.dmaDescriptorComplete c bs ⟨e, ecc⟩) s = .next t ∧ t.dmaState c = 3 ∧ t.rd (R.XB_DMASTAT_err c) = 3
        ∧ (170 + c.val, 0) ∈ t.evq ∧ t.mem = s.mem)
    ∧ (∀ (c : Fin 8) w bs e ecc, s.dmaState c = 1 → s.quiesced 18 = false → s.rq (R.XB_DMACUR c) % 32 = 0 →
      s.access 18 c (s.rq (R.XB_DMACUR c)) (.read 32) = (w, none) →
      exec (.dmaDescriptorComplete c bs ⟨e, ecc⟩) s = .next (w.dmaFail c (dmaCause (s.rq (R.XB_DMACUR c))) 0 false))
    ∧ (∀ (c : Fin 8) d w bs e ecc, s.dmaState c = 1 → s.quiesced 18 = false → s.rq (R.XB_DMACUR c) % 32 = 0 →
      s.access 18 c (s.rq (R.XB_DMACUR c)) (.read 32) = (w, some d) →
      let len := leAt d 4 4;
      let ctl := leAt d 0 4;
      ((len < 4 ∨ 16777216 < len ∨ len % 4 ≠ 0) →
        exec (.dmaDescriptorComplete c bs ⟨e, ecc⟩) s = .next (w.dmaFail c 2 ctl true))
      ∧ (4 ≤ len → len ≤ 16777216 → len % 4 = 0 →
        exec (.dmaDescriptorComplete c bs ⟨e, true⟩) s = .next (w.busError.dmaFail c 1 ctl true)
        ∧ (ctl.testBit 0 = true → (e = true ∨ bs.length ≠ len) →
          exec (.dmaDescriptorComplete c bs ⟨e, false⟩) s = .next (w.dmaFail c 1 ctl true))
        ∧ (∀ u x, (ctl.testBit 0 = true → e = false ∧ bs.length = len) →
          dmaCopy (len + 1) c (if ctl.testBit 0 = true then some bs else none) (ctl.testBit 1) (leAt d 8 8) (leAt d 16 8) len w
            = (u, some x) →
          exec (.dmaDescriptorComplete c bs ⟨e, false⟩) s = .next (u.dmaFail c x ctl true))))
    ∧ (∀ (c : Fin 8) u d w bs, s.dmaState c = 1 → s.quiesced 18 = false → s.rq (R.XB_DMACUR c) % 32 = 0 →
      s.access 18 c (s.rq (R.XB_DMACUR c)) (.read 32) = (w, some d) → 4 ≤ leAt d 4 4 → leAt d 4 4 ≤ 16777216 →
      leAt d 4 4 % 4 = 0 → ((leAt d 0 4).testBit 0 = true → bs.length = leAt d 4 4) →
      dmaCopy (leAt d 4 4 + 1) c (if (leAt d 0 4).testBit 0 then some bs else none) ((leAt d 0 4).testBit 1) (leAt d 8 8)
        (leAt d 16 8) (leAt d 4 4) w = (u, none) →
      exec (.dmaDescriptorComplete c bs ⟨false, false⟩) s = .next (u.dmaDone c (leAt d 0 4)))
    ∧ (∀ v L, L = s.landed m R.XB_MBXDB_slot.a v → s.takes m R.XB_MBXDB_slot.a v →
      exec (.mailboxDoorbell m v) s = .next ((L.doorbell (v.toNat % 16) (L.secure m 0)).okResp []))
    ∧ (∀ slot sec, ((s.rd R.XB_MBXBUSY_busy).testBit slot = true → s.doorbell slot sec = s.inc (R.XB_CNT 6))
      ∧ ((s.rd R.XB_MBXBUSY_busy).testBit slot = false →
        let t := s.wr R.XB_MBXBUSY_busy (setBit (s.rd R.XB_MBXBUSY_busy) slot true);
        s.doorbell slot sec = State.mbxSettle 16 { t with xb := { t.xb with mbxQ := t.xb.mbxQ ++ [(slot, sec)] } }))

/-- R305 to R309, Tables 14-6 and 14-7: a request of the host. BAR0 reaches the CSR space at its offset, BAR2 the HBM at PE_WIN,
BAR4 the Pair Map, the doorbells, the mailbox, the MSI-X table and its pending bits; a request outside them or across their ends is unsupported; before
Ready the MSI-X table answers an error; a quiesced port accepts nothing. -/
def Obligations.HostRequests : Prop :=
  ∀ (s : State) (o : BitVec 36) (op : XbOp), s.off = false →
    (s.quiesced 0 = true → ∀ bar, exec (.pcieRequest bar o op) s = .next s)
    ∧ (s.quiesced 0 = false →
      (o.toNat + opLen op ≤ 0x10000000 →
        exec (.pcieRequest .bar0 o op) s = .next (Answer.respond (s.access 0 0 (csrAddr o.toNat) op) 0))
      ∧ (0x10000000 < o.toNat + opLen op → exec (.pcieRequest .bar0 o op) s = .next s.peUnsupported.errResp)
      ∧ (o.toNat + opLen op ≤ 0x1000000000 →
        exec (.pcieRequest .bar2 o op) s = .next (s.hostAccess (s.rq R.PE_WIN + o.toNat) op))
      ∧ (0x1000000000 < o.toNat + opLen op → exec (.pcieRequest .bar2 o op) s = .next s.peUnsupported.errResp)
      ∧ (o.toNat + opLen op ≤ 0x2000000 →
        exec (.pcieRequest .bar4 o op) s = .next (s.hostAccess (0x6000000000 + o.toNat) op))
      ∧ (0x2010000 ≤ o.toNat → o.toNat + opLen op ≤ 0x2020000 → 0 < opLen op →
        exec (.pcieRequest .bar4 o op) s = .next (s.hostAccess (0x6500000000 + (o.toNat - 0x2010000)) op))
      ∧ (0x2000000 ≤ o.toNat → o.toNat + opLen op ≤ 0x2001000 → 0 < opLen op → s.on R.MG_STATUS_ready = true →
        exec (.pcieRequest .bar4 o op) s = .next (s.bellAccess (o.toNat - 0x2000000) op))
      ∧ (0x2020000 ≤ o.toNat → o.toNat + opLen op ≤ 0x2021000 → 0 < opLen op →
        exec (.pcieRequest .bar4 o op) s
          = .next (if s.on R.MG_STATUS_ready = true then s.msixAccess (o.toNat - 0x2020000) op else s.failTo 0))
      ∧ (∀ n, op = .read n → 0x2021000 ≤ o.toNat → o.toNat + n ≤ 0x2021020 → 0 < n → s.on R.MG_STATUS_ready = true →
        exec (.pcieRequest .bar4 o op) s
          = .next (s.okResp ((List.range n).map (fun i => s.pbaByte (o.toNat - 0x2021000 + i)))))
      ∧ (0x2001000 ≤ o.toNat → o.toNat + opLen op ≤ 0x2010000 → 0 < opLen op →
        exec (.pcieRequest .bar4 o op) s = .next s.peUnsupported.errResp)
      ∧ (0x2021020 < o.toNat + opLen op → exec (.pcieRequest .bar4 o op) s = .next s.peUnsupported.errResp))

/-- R310, Table 14-9: a response. The requester's tag is echoed, then the status, the length and the payload; the slot's busy bit
clears; the request leaves the queue; the requester's half of every slot stays. -/
def Obligations.MailboxAnswers : Prop :=
  ∀ (s : State) (slot status : Nat) (payload : Bytes), slot < 16 → status < 2 ^ 16 → payload.length ≤ 480 →
    ((s.mbxRespond slot status payload).mbxBytes (1024 * slot + 512) 4 = s.mbxBytes (1024 * slot + 4) 4)
    ∧ leNat ((s.mbxRespond slot status payload).mbxBytes (1024 * slot + 516) 2) = status
    ∧ leNat ((s.mbxRespond slot status payload).mbxBytes (1024 * slot + 518) 2) = payload.length
    ∧ (s.mbxRespond slot status payload).mbxBytes (1024 * slot + 544) payload.length = payload
    ∧ (s.mbxRespond slot status payload).xb.mbxQ = s.xb.mbxQ.drop 1
    ∧ ((s.mbxRespond slot status payload).rd R.XB_MBXBUSY_busy).testBit slot = false
    ∧ (∀ k < 16, ∀ i < 512, (s.mbxRespond slot status payload).mbxBytes (1024 * k + i) 1 = s.mbxBytes (1024 * k + i) 1)

/-- R193, R292, R310, R380, R383, R385, R386, Tables 14-10 and 19-6: the request that the Arbiter has in hand. Op 1 has its payload in its answer, op 2 a version of 16 bytes; a line is repaired and a row is due
to be spared, or the request has status 1 where no such line, position or row exists; an Adjournment begins, but not in HANDING; a reset restarts the device; a GOOD slot becomes the one to boot from; a secure requester
sets the watchdog's period within 10 to 10,000 ms; what these refuse is answered with status 1. -/
def Obligations.MailboxRuns : Prop :=
  ∀ (s : State) (r : MbxReq), s.off = false → s.mbxHead = some r →
    (r.op = 1 → exec .mailboxEcho s = .next (s.mbxAnswer r 0 r.payload))
    ∧ (r.op = 2 → exec .firmwareVersion s
        = .next (State.mbxAnswer { s with fresh := s.fresh + 12 } r 0 (leBytes 4 (s.rd R.TOP_FW_ver) ++ s.freeBytes 12)))
    ∧ (r.op = 0x10 → byteAt r.payload 0 ≤ 23 → byteAt r.payload 1 ≤ 64 → exec .boardLineRepairRequest s
        = .next ((s.repairLine (byteAt r.payload 0) (byteAt r.payload 1) 1).mbxAnswer r 0 []))
    ∧ (r.op = 0x10 → (23 < byteAt r.payload 0 ∨ 64 < byteAt r.payload 1) →
      exec .boardLineRepairRequest s = .next (s.mbxAnswer r 1 []))
    ∧ (r.op = 0x11 → byteAt r.payload 0 < s.stacks → byteAt r.payload 1 ≤ 31 → byteAt r.payload 2 ≤ 1 →
        byteAt r.payload 3 ≤ 31 → exec .hbmRowSpareRequest s
        = .next ((s.dueSpare (byteAt r.payload 0) (rowId (byteAt r.payload 1) (byteAt r.payload 2) (byteAt r.payload 3)
            (leAt r.payload 4 4)) 1).mbxAnswer r 0 []))
    ∧ (r.op = 0x11 → (s.stacks ≤ byteAt r.payload 0 ∨ 31 < byteAt r.payload 1 ∨ 1 < byteAt r.payload 2 ∨
        31 < byteAt r.payload 3) → exec .hbmRowSpareRequest s = .next (s.mbxAnswer r 1 []))
    ∧ (r.op = 0x30 → s.csState ≠ 5 → exec .adjournment s = .next ((s.mbxRespond r.slot 0 []).adjourn))
    ∧ (r.op = 0x30 → s.csState = 5 → exec .adjournment s = .next (s.mbxAnswer r 1 []))
    ∧ (∀ o, r.op = 0x31 → exec (.resetRequest o) s = .next ((s.mbxAnswer r 0 []).restart R.MG_RSTCAUSE_mbx o))
    ∧ (r.op = 0x32 → r.slotArg ≤ 3 → s.slotState r.slotArg = 3 →
      exec .bootPrefSet s = .next ((s.bootWrite r.slotArg (s.bootRec).1.2.1).mbxAnswer r 0 []))
    ∧ (r.op = 0x32 → ¬ (r.slotArg ≤ 3 ∧ s.slotState r.slotArg = 3) → exec .bootPrefSet s = .next (s.mbxAnswer r 1 []))
    ∧ (r.op = 0x33 → r.secure = true → 10 ≤ leAt r.payload 0 2 → leAt r.payload 0 2 ≤ 10000 →
      exec .watchdogPeriodSet s = .next ((s.wr R.MG_WDOG_period_ms (leAt r.payload 0 2)).mbxAnswer r 0 []))
    ∧ (r.op = 0x33 → (r.secure = false ∨ leAt r.payload 0 2 < 10 ∨ 10000 < leAt r.payload 0 2) → exec .watchdogPeriodSet s = .next (s.mbxAnswer r 1 []))

/-- R363, R366, R367, R369, R377, Tables 18-5 and 18-6: the configuration operations. A container that fits and is in HBM is copied into a slot not in use and is VERIFIED or BAD, a
slot is verified again, emptied unless in use, or marked GOOD; a full load of a GOOD slot whose container verifies starts, or is refused with its reason, and without one where its tables or R24 fail (log entry 196); a
region load is bound, or refused likewise; a secure requester programs a key once and revokes a programmed one; a line's repair is cleared in the maintenance state, and outside it refused with 15, of a link with 14. -/
def Obligations.StoreOperations : Prop :=
  ∀ (s : State) (r : MbxReq), s.off = false → s.mbxHead = some r →
    (∀ t, r.op = 0x20 → r.slotArg ≤ 3 → leAt r.payload 12 8 ≤ maxContainer → s.slotInUse r.slotArg = false →
      leAt r.payload 4 8 + leAt r.payload 12 8 ≤ s.hbmSize →
      t = ((s.stPut (slotBase r.slotArg) (s.bytes (leAt r.payload 4 8) (leAt r.payload 12 8))).incBy
        (R.CF_SLOTWR_writes r.slotArg).a 1).showSlot r.slotArg →
      (t.ctLen r.slotArg = leAt r.payload 12 8 → t.ctReason r.slotArg = none →
        exec .containerWrite s = .next ((t.wr (R.CF_SLOT_state r.slotArg) 2).cfDone r))
      ∧ (∀ x, t.ctLen r.slotArg = leAt r.payload 12 8 → t.ctReason r.slotArg = some x →
        exec .containerWrite s = .next ((t.wr (R.CF_SLOT_state r.slotArg) 4).cfRefuse r x)))
    ∧ (r.op = 0x21 → r.slotArg ≤ 3 → s.slotState r.slotArg ≠ 0 → s.slotState r.slotArg ≠ 3 → s.ctReason r.slotArg = none →
      exec .containerVerify s = .next ((s.wr (R.CF_SLOT_state r.slotArg) 2).cfDone r))
    ∧ (∀ x, r.op = 0x21 → r.slotArg ≤ 3 → s.slotState r.slotArg ≠ 0 → s.ctReason r.slotArg = some x →
      exec .containerVerify s = .next ((s.wr (R.CF_SLOT_state r.slotArg) 4).cfRefuse r x))
    ∧ (r.op = 0x22 → r.slotArg ≤ 3 → s.slotInUse r.slotArg = false →
      exec .slotEmpty s = .next ((s.wr (R.CF_SLOT_state r.slotArg) 0).cfDone r))
    ∧ (r.op = 0x22 → r.slotArg ≤ 3 → s.slotInUse r.slotArg = true → exec .slotEmpty s = .next (s.cfRefuse r 6))
    ∧ (r.op = 0x23 → r.slotArg ≤ 3 → s.slotState r.slotArg = 3 → s.ctReason r.slotArg = none →
      (s.fullReason r.slotArg = none → s.fullFits r.slotArg = true → exec .fullLoad s
        = .next (State.wr { s with cf := { s.cf with loading := some r.slotArg } } R.CF_STATUS_cfg_state 1))
      ∧ (s.fullReason r.slotArg = none → s.fullFits r.slotArg = false → exec .fullLoad s = .next (s.cfRefuseFree r))
      ∧ (∀ x, s.fullReason r.slotArg = some x → exec .fullLoad s = .next (s.cfRefuse r x)))
    ∧ (∀ x y, r.op = 0x24 → r.slotArg ≤ 3 → s.slotState r.slotArg = 3 → s.ctReason r.slotArg = none →
      (s.sections r.slotArg).head? = some x →
      s.regionReason r.slotArg x (s.bindTo (byteAt r.payload 1 = 1) (leAt r.payload 4 8)) = some y →
      exec .regionLoad s = .next (s.cfRefuse r y))
    ∧ (∀ x b (p : RegionLoad), r.op = 0x24 → r.slotArg ≤ 3 → s.slotState r.slotArg = 3 → s.ctReason r.slotArg = none →
      (s.sections r.slotArg).head? = some x → s.bindTo (byteAt r.payload 1 = 1) (leAt r.payload 4 8) = some b →
      s.regionReason r.slotArg x (some b) = none →
      p = ⟨r.slotArg, x.kind, b, s.ctEpoch r.slotArg, leNat x.digest, s.secRecords x, s.secBlob x, false⟩ →
      (s.regionFits p = true → exec .regionLoad s
        = .next ((((State.wr { s with cf := { s.cf with pending := some p } } R.CF_STATUS_rl_pending 1).wr
          R.CF_STATUS_rl_kind x.kind).wq R.CF_RLBND b).cfDone r))
      ∧ (s.regionFits p = false → exec .regionLoad s = .next (s.cfRefuseFree r)))
    ∧ (r.op = 0x25 → r.slotArg ≤ 3 → s.slotState r.slotArg = 2 →
      exec .slotMarkGood s = .next ((s.wr (R.CF_SLOT_state r.slotArg) 3).cfDone r))
    ∧ (r.op = 0x26 → byteAt r.payload 1 = 0 → r.secure = true → byteAt r.payload 0 ≤ 3 →
      (s.rd R.CF_KEYS_prog).testBit (byteAt r.payload 0) = false → exec .keyProgram s
        = .next ((State.wr { s with cf := { s.cf with
            keys := smapSet 0 s.cf.keys (byteAt r.payload 0) (leAt r.payload 8 96) } } R.CF_KEYS_prog
              (setBit (s.rd R.CF_KEYS_prog) (byteAt r.payload 0) true)).cfDone r))
    ∧ (r.op = 0x26 → byteAt r.payload 1 = 0 → r.secure = true → byteAt r.payload 0 ≤ 3 →
      (s.rd R.CF_KEYS_prog).testBit (byteAt r.payload 0) = true → exec .keyProgram s = .next (s.cfRefuse r 5))
    ∧ (r.op = 0x26 → byteAt r.payload 1 = 1 → r.secure = true → byteAt r.payload 0 ≤ 3 →
      (s.rd R.CF_KEYS_prog).testBit (byteAt r.payload 0) = true → exec .keyRevoke s
        = .next ((s.wr R.CF_KEYS_revoked (setBit (s.rd R.CF_KEYS_revoked) (byteAt r.payload 0) true)).cfDone r))
    ∧ (r.op = 0x27 → byteAt r.payload 0 = 1 → byteAt r.payload 1 < 24 → s.on R.IG_CTL_maint = true →
      s.on (lineRepaired (byteAt r.payload 1)) = true → s.rd (lineOut (byteAt r.payload 1)) = leAt r.payload 2 2 →
      exec .repairClear s = .next ((((s.wr (lineRepaired (byteAt r.payload 1)) 0).logRepair 4 (byteAt r.payload 1)
        (leAt r.payload 2 2) 0 1).showActiveRepairs).cfDone r))
    ∧ (r.op = 0x27 → byteAt r.payload 0 ≠ 3 → s.on R.IG_CTL_maint = false →
      exec .repairClear s = .next (s.cfRefuse r 15))
    ∧ (r.op = 0x27 → byteAt r.payload 0 = 3 → exec .repairClear s = .next (s.cfRefuse r 14))

/-- R310, R367 to R369, R371 to R376: the events of the configuration store. A full load whose steps succeed is shown as state 2 with its
slot, is counted, and its request is answered, and an Opening that waits for a configuration goes on; one that fails leaves state 3 and is answered with status 1 and a reason that is free. A region load starts when
its boundary is reached and its region's rounds before it are over, and silences the Listening Post of region 6; until then nothing happens. It takes effect and is counted, or fails: rl_fail, a count, a health event of source
10, and the unit resigns and is UNSYNC. The oldest repair due is written to the log at the next place, with a checkpoint after 57,344 records. -/
def Obligations.ConfigurationMoves : Prop :=
  ∀ s : State, s.off = false →
    (∀ k slot sec q, s.cf.loading = some k → s.xb.mbxQ = (slot, sec) :: q →
      let s0 : State := { s with cf := { s.cf with loading := none } };
      let r := s.mbxRead slot sec;
      let done := ((((s0.applyFull k).1.wr R.CF_STATUS_cfg_state 2).wr R.CF_STATUS_src_slot k).inc (R.CF_CNT 0)).cfDone r;
      ((s0.applyFull k).2 = true →
        (s.on R.MG_STATUS_noconf = false → exec (.fullLoadComplete true) s = .next done)
        ∧ (s.on R.MG_STATUS_noconf = true → exec (.fullLoadComplete true) s = .next done.openChecks))
      ∧ (∀ ok, (ok = false ∨ (s0.applyFull k).2 = false) → exec (.fullLoadComplete ok) s = .next (
        let t := (s0.wr R.CF_STATUS_cfg_state 3).inc (R.CF_CNT 2);
        t.tick.mbxAnswer r 1 [(Config.freeBits t.fresh).setWidth 8])))
    ∧ (∀ p, s.cf.pending = some p → p.started = false →
      let t : State := { s with cf := { s.cf with pending := some { p with started := true } } };
      let due := s.reached p.bound = true ∧ s.regionClear p.kind p.bound = true;
      (due → p.kind ≠ 6 → exec .regionLoadApply s = .next t)
      ∧ (due → p.kind = 6 → exec .regionLoadApply s = .next (t.fold (List.range 16) (fun t m => t.auQuiet m)))
      ∧ (¬ due → exec .regionLoadApply s = .next s))
    ∧ (∀ p, s.cf.pending = some p → p.started = true →
      exec (.regionLoadComplete true) s = .next (((s.regionOver).regionTake p).inc (R.CF_CNT 1))
      ∧ exec (.regionLoadComplete false) s = .next (((((s.regionOver).flag R.CF_STATUS_rl_fail).inc (R.CF_CNT 2)).health
          10 0 2 0 s.curRound).resignFault.toUnsync))
    ∧ (∀ x rest bad t, s.cf.logDue = x :: rest → s.ig.arbDown = false →
      t = State.logWrite { s with cf := { s.cf with logDue := rest } } x (min bad (logPlaces - 1)) →
      (t.cf.since < 57344 → exec (.repairLogAppend bad) s = .next t.showActiveRepairs)
      ∧ (57344 ≤ t.cf.since → exec (.repairLogAppend bad) s = .next t.checkpoint.showActiveRepairs))

/-- R311, R313 to R316, R319, R321, R322, Table 15-2: the event fabric. A host event fires its producer; the events of one instant enter the channels that name them, all judged
as the fabric stood then, and a group that is both enabled and disabled ends disabled. Of one event with one channel: a shut channel lets nothing in, at four hops it is dropped with loop, for security with sec_drop, and
it is otherwise counted and reaches its task input one hop on, or enables or disables its group. A task input T0 to T79 takes one pending event and acts; without one nothing happens; an
input that is not idle counts an event up to 3 or 1 and overruns above that. An edge of an input that is held as long as its filter becomes its level and fires when it is selected, and a shorter one is counted; a pulse
ends and its pin falls. A write of a channel's settings or owner that its register takes lands there. -/
def Obligations.EventsRun : Prop :=
  ∀ (s : State) (m : Fin 20), s.off = false →
    (∀ i : Fin 16, s.takes m R.EV_HOSTEV_fire.a (BitVec.ofNat 32 (2 ^ i.val)) →
      ∃ t, exec (.hostEvent m i) s = .next t ∧ t.evq = s.evq ++ [(32 + i.val, 0)] ∧ t.resp.error = false ∧ t.mem = s.mem)
    ∧ (∀ more, exec (.eventDelivery more) s = .next (
        let x := (s.evq.take (more + 1)).foldl s.eventEnter ({ s with evq := s.evq.drop (more + 1) }, [], []);
        let up := x.2.1.foldl (fun m g => setBit m g true) (s.rd R.EV_GRPEN_en);
        x.1.wr R.EV_GRPEN_en (x.2.2.foldl (fun m g => setBit m g false) up)))
    ∧ (∀ e hop rest, s.evq = (e, hop) :: rest → (∀ c < 128, s.rd (R.EV_CHCFG_src c) ≠ e) →
      ∃ t, exec (.eventDelivery 0) s = .next t ∧ t.evq = rest ∧ t.rd R.EV_GRPEN_en = s.rd R.EV_GRPEN_en ∧ t.mem = s.mem)
    ∧ (∀ e hop rest c u, s.evq = (e, hop) :: rest → (List.range 128).filter (fun c => s.rd (R.EV_CHCFG_src c) = e) = [c] →
      s.chanOpen c = false → u = { s with evq := rest } →
      exec (.eventDelivery 0) s = .next (u.wr R.EV_GRPEN_en (s.rd R.EV_GRPEN_en)))
    ∧ (∀ e hop rest c u, s.evq = (e, hop) :: rest → (List.range 128).filter (fun c => s.rd (R.EV_CHCFG_src c) = e) = [c] →
      s.chanOpen c = true → u = { s with evq := rest } →
      let en := s.rd R.EV_GRPEN_en;
      let dst := s.rd (R.EV_CHCFG_dst c);
      let shielded := (s.rd (R.EV_TSEC_sec (dst / 32))).testBit (dst % 32) = true ∧ s.on (R.EV_CHOWN_sec c) = false;
      (4 ≤ hop → exec (.eventDelivery 0) s
        = .next ((((u.flag (R.EV_CHSTAT_loop c)).flag R.EV_STATUS_loop).inc (R.EV_CNT 0)).wr R.EV_GRPEN_en en))
      ∧ (hop < 4 → s.rd (R.EV_CHCFG_dkind c) = 0 → shielded → exec (.eventDelivery 0) s
        = .next ((((u.flag (R.EV_CHSTAT_sec_drop c)).flag R.EV_STATUS_sec_drop).inc (R.EV_CNT 1)).wr R.EV_GRPEN_en en))
      ∧ (hop < 4 → s.rd (R.EV_CHCFG_dkind c) = 0 → ¬ shielded → exec (.eventDelivery 0) s
        = .next (((u.inc (R.EV_CHCNT c)).taskArrive dst (hop + 1)).wr R.EV_GRPEN_en en))
      ∧ (hop < 4 → s.rd (R.EV_CHCFG_dkind c) = 1 →
          ∃ t, exec (.eventDelivery 0) s = .next t
            ∧ t.rd R.EV_GRPEN_en = setBit (s.rd R.EV_GRPEN_en) (s.rd (R.EV_CHCFG_dst c) % 16) true ∧ t.mem = s.mem)
      ∧ (hop < 4 → s.rd (R.EV_CHCFG_dkind c) = 2 →
          ∃ t, exec (.eventDelivery 0) s = .next t
            ∧ t.rd R.EV_GRPEN_en = setBit (s.rd R.EV_GRPEN_en) (s.rd (R.EV_CHCFG_dst c) % 16) false ∧ t.mem = s.mem))
    ∧ (∀ (t : Fin 96) fine, t.val < 80 → s.rd (R.EV_TSTAT_pending t) ≠ 0 →
      exec (.taskExecute t fine) s
        = .next ((s.wr (R.EV_TSTAT_pending t) (s.rd (R.EV_TSTAT_pending t) - 1)).taskAct t fine))
    ∧ (∀ (t : Fin 96) fine, s.rd (R.EV_TSTAT_pending t) = 0 → exec (.taskExecute t fine) s = .next s)
    ∧ (∀ (t : Nat) hop, t < 96 → s.taskIdle t = false →
      (s.rd (R.EV_TSTAT_pending t) < (if taskCounts t then 3 else 1) →
        (s.taskArrive t hop).rd (R.EV_TSTAT_pending t) = s.rd (R.EV_TSTAT_pending t) + 1)
      ∧ ((if taskCounts t then 3 else 1) ≤ s.rd (R.EV_TSTAT_pending t) →
        (s.taskArrive t hop).on (R.EV_TSTAT_overrun t) = true
          ∧ (s.taskArrive t hop).rd (R.EV_TSTAT_pending t) = s.rd (R.EV_TSTAT_pending t)))
    ∧ (∀ (p : Fin 16) rise held, s.on (R.EV_IO_dir p) = false → s.ev.level.testBit p ≠ rise →
      s.rd (R.EV_IO_filt p) ≤ held →
      ∃ t, exec (.evioEdge p rise held) s = .next t ∧ t.ev.level.testBit p = rise
        ∧ t.evq = (if (s.rd (R.EV_IO_edge p)).testBit (if rise then 0 else 1) then s.evq ++ [(16 + p.val, 0)] else s.evq)
        ∧ t.csr = s.csr ∧ t.mem = s.mem)
    ∧ (∀ (p : Fin 16) rise held, s.on (R.EV_IO_dir p) = false → s.ev.level.testBit p ≠ rise →
      held < s.rd (R.EV_IO_filt p) → exec (.evioEdge p rise held) s = .next (s.inc (R.EV_CNT 4)))
    ∧ (∀ p : Fin 16, p.val ∈ s.ev.pulse →
      ∃ t, exec (.evioPulseEnd p) s = .next t ∧ t.ev.pulse = s.ev.pulse.filter (· ≠ p.val)
        ∧ t.ev.drive.testBit p = false ∧ t.csr = s.csr ∧ t.mem = s.mem)
    ∧ (∀ (c : Fin 128) v, s.takes m (R.EV_CHCFG c) v →
      exec (.channelConfigWrite m c v) s = .next ((s.landed m (R.EV_CHCFG c) v).okResp []))
    ∧ (∀ (c : Fin 128) v, s.takes m (R.EV_CHOWN c) v →
      exec (.channelOwnerWrite m c v) s = .next ((s.landed m (R.EV_CHOWN c) v).okResp []))

/-- R326, R327: the ALU instructions of a core that executes. The exact result is reduced to 32 bits, saturated or wrapped by S,
and written to Dn; v, z and n describe it, c is the carry of ADD; CMP writes only the flags; no other register changes. A shift by an
amount outside 0 to 31, for which the spec states no result, still completes and changes no other register than Dn and ST. -/
def Obligations.AluResults : Prop :=
  ∀ (s : State) (n : Fin 16) (sat : Bool) (d a : Fin 16) (b : AspSrc), s.aspReady n →
    (∃ t, exec (.aspAdd n sat d a b) s = .next t
      ∧ s.aluLeaves t n (some d) sat (s.spInt n a + s.spSrc n b)
        (decide (2 ^ 32 ≤ (s.spInt n a % 2 ^ 32).toNat + (s.spSrc n b % 2 ^ 32).toNat)))
    ∧ (∀ p ∈ [(Instr.aspSub n sat d a b, AluOp.sub), (.aspAnd n sat d a b, .and), (.aspOr n sat d a b, .or),
          (.aspXor n sat d a b, .xor), (.aspShl n sat d a b, .shl), (.aspShr n sat d a b, .shr), (.aspAsr n sat d a b, .asr),
          (.aspMin n sat d a b, .min), (.aspMax n sat d a b, .max)],
        ∀ e, aluExact p.2 (s.spInt n a) (s.spSrc n b) = some e →
        ∃ t c, exec p.1 s = .next t ∧ s.aluLeaves t n (some d) sat e c)
    ∧ (∃ t c, exec (.aspCmp n sat a b) s = .next t ∧ s.aluLeaves t n none sat (s.spInt n a - s.spSrc n b) c)
    ∧ (∃ t c, exec (.aspAbs n sat d a) s = .next t
        ∧ s.aluLeaves t n (some d) sat (if s.spInt n a < 0 then -s.spInt n a else s.spInt n a) c)
    ∧ (∃ t c, exec (.aspNeg n sat d a) s = .next t ∧ s.aluLeaves t n (some d) sat (-s.spInt n a) c)
    ∧ (∀ i ∈ [Instr.aspShl n sat d a b, .aspShr n sat d a b, .aspAsr n sat d a b], ¬ (0 ≤ s.spSrc n b ∧ s.spSrc n b < 32) →
        ∃ t, exec i s = .next t ∧ s.aspKeeps t n [41, d.val] ∧ s.aspWent t n)

/-- R323 to R326, R336, R338, R339: moves, loads and stores of a core that executes. MOVI writes half of a register; MOV writes a register
from a data register, and a data register from an input port, and waits while the input is empty or the output full; MODP steps a pointer in its buffer; a load
or store of X or Y reaches one word and post-modifies its pointer, and a load of the external window starts an access; EXT and INS
take and place a bit field. None of those that execute changes a flag. -/
def Obligations.MovesAct : Prop :=
  ∀ (s : State) (n : Fin 16), s.aspReady n →
    (∀ dst i w high imm, regPlace dst = some (i, w) → dst ≠ .st →
      ∃ t, exec (.aspMovi n dst high imm) s = .next t
        ∧ t.spGet n i = putBits (s.spGet n i) (if high then 16 else 0) 16 imm.toNat % 2 ^ w
        ∧ s.aspKeeps t n [i] ∧ s.aspWent t n)
    ∧ (∀ dst i w (j : Fin 16), regPlace dst = some (i, w) → dst ≠ .st → w ≤ 32 →
      ∃ t, exec (.aspMov n dst (.d j)) s = .next t ∧ t.spGet n i = s.spD n j % 2 ^ w ∧ s.aspKeeps t n [i] ∧ s.aspWent t n)
    ∧ (∀ (d : Fin 16) (k : Fin 4), smapGet [] (s.core n).inQ k = [] → exec (.aspMov n (.d d) (.inp k)) s = .next s)
    ∧ (∀ (d : Fin 16) (k : Fin 4) w q, smapGet [] (s.core n).inQ k = w :: q → w < 2 ^ 32 →
      ∃ t, exec (.aspMov n (.d d) (.inp k)) s = .next t ∧ t.spGet n d.val = w ∧ s.aspKeeps t n [d.val] ∧ t.mem = s.mem)
    ∧ (∀ (j : Fin 16) (k : Fin 4), s.rd (R.SP_OUTCFG_dst n k) = 1 → 1024 ≤ (smapGet [] (s.core n).outQ k).length →
      exec (.aspMov n (.out k) (.d j)) s = .next s)
    ∧ (∀ (p : Fin 8) step, ∃ t, exec (.aspModp n p step) s = .next t
        ∧ t.spGet n (16 + p) = stepPtr (s.spGet n (16 + p)) (s.spGet n (24 + p)) step.toInt % 2 ^ 16
        ∧ s.aspKeeps t n [16 + p.val] ∧ s.aspWent t n)
    ∧ (∀ y op (d : Fin 16) e a p, s.spAddr n op = some (a, p) → a < 0x4000 → e.kind = 0 →
      ∃ t, exec (.aspLoad n y op d e) s = .next t ∧ t.spGet n d.val = s.spWord n ((if y then 0xC000 else 0x8000) + a)
        ∧ (∀ v, p = some v → t.spGet n (16 + op.ptr) = v) ∧ s.aspKeeps t n [d.val, 16 + op.ptr.val] ∧ s.aspWent t n)
    ∧ (∀ op (d : Fin 16) e a p, s.spAddr n op = some (a, p) → 0x4000 ≤ a → a < 0x8000 →
      ∃ t, exec (.aspLoad n true op d e) s = .next t
        ∧ (t.core n).ext = some ⟨false, s.spWindow n a, 0, .aspLoad n true op d e⟩ ∧ t.csr = s.csr ∧ t.mem = s.mem)
    ∧ (∀ (y : Bool) op (r : Fin 16) a p, s.spAddr n op = some (a, p) → a < 0x4000 →
      ∃ t, exec (.aspStore n y op r) s = .next t
        ∧ t.spWord n ((if y then 0xC000 else 0x8000) + a) = s.spD n r % 2 ^ 32
        ∧ (∀ w, w ≠ n.val * 65536 + ((if y then 0xC000 else 0x8000) + a) → smapGet 0 t.sp.mem w = smapGet 0 s.sp.mem w)
        ∧ (∀ v, p = some v → t.spGet n (16 + op.ptr) = v) ∧ s.aspKeeps t n [16 + op.ptr.val] ∧ s.aspWent t n)
    ∧ (∀ (d j : Fin 16) (pos w1 : Fin 32), pos.val + w1.val + 1 ≤ 32 →
      (∃ t, exec (.aspExt n (.d d) (.d j) pos w1) s = .next t ∧ t.spGet n d.val = getBits (s.spD n j) pos (w1 + 1) % 2 ^ 32
        ∧ s.aspKeeps t n [d.val] ∧ s.aspWent t n)
      ∧ (∃ t, exec (.aspIns n (.d d) (.d j) pos w1) s = .next t
        ∧ t.spGet n d.val = putBits (s.spD n d) pos (w1 + 1) (s.spD n j) % 2 ^ 32
        ∧ s.aspKeeps t n [d.val] ∧ s.aspWent t n))

/-- R326, R327: multiplies and accumulators of a core that executes. MPY, MAC and MSU form the exact new accumulator, reduce it to
40 bits and load a word beside it; CMAC and CMAC2 accumulate a complex product; MOVA shifts with rounding half to even, CLRA
clears, ADDA adds, SHA shifts; no register but the destinations, the pointers and ST changes. -/
def Obligations.AccumulatorsAct : Prop :=
  ∀ (s : State) (n : Fin 16) (sat : Bool), s.aspReady n →
    (∀ (acc : Fin 4) a b (par : AspPar) e ad p, s.spAddr n par.op = some (ad, p) → ad < 0x4000 → e.kind = 0 →
      ∀ q ∈ [(Instr.aspMpy n sat acc a b par e, s.spHalf n a * s.spHalf n b),
          (.aspMac n sat acc a b par e, s.spAccNew n acc + s.spHalf n a * s.spHalf n b),
          (.aspMsu n sat acc a b par e, s.spAccNew n acc - s.spHalf n a * s.spHalf n b)],
      ∃ t, exec q.1 s = .next t ∧ t.spGet n (32 + acc) = (reduceTo 40 sat q.2).1
        ∧ t.spGet n par.dst.val = s.spWord n ((if par.y then 0xC000 else 0x8000) + ad)
        ∧ (∀ v, p = some v → t.spGet n (16 + par.op.ptr) = v)
        ∧ s.aspKeeps t n [32 + acc.val, par.dst.val, 16 + par.op.ptr.val, 41] ∧ s.aspWent t n)
    ∧ (∀ (conj : Bool) (pair : Fin 2) (x h : AspMem) e xa xp ha hp, x.ptr ≠ h.ptr → s.spAddr n x = some (xa, xp) →
      s.spAddr n h = some (ha, hp) → xa < 0x4000 → ha < 0x4000 → e.kind = 0 →
      ∃ t, exec (.aspCmac n sat conj pair x false h e) s = .next t
        ∧ t.spGet n (32 + 2 * pair) = (reduceTo 40 sat (s.spAccNew n (2 * pair)
            + (complexProduct conj (s.spWord n (0x8000 + xa)) (s.spWord n (0xC000 + ha))).1)).1
        ∧ t.spGet n (33 + 2 * pair) = (reduceTo 40 sat (s.spAccNew n (2 * pair + 1)
            + (complexProduct conj (s.spWord n (0x8000 + xa)) (s.spWord n (0xC000 + ha))).2)).1
        ∧ s.aspKeeps t n [32 + 2 * pair.val, 33 + 2 * pair.val, 16 + x.ptr.val, 16 + h.ptr.val, 41] ∧ s.aspWent t n)
    ∧ (∀ (conj : Bool) (x y h : AspMem) e xa xp ya yp ha hp, x.ptr ≠ h.ptr → x.ptr ≠ y.ptr → y.ptr ≠ h.ptr →
      s.spAddr n x = some (xa, xp) → s.spAddr n y = some (ya, yp) → s.spAddr n h = some (ha, hp) → xa < 0x4000 →
      ya < 0x4000 → ha < 0x8000 → e.kind = 0 →
      ∃ t, exec (.aspCmac2 n sat conj x y h e) s = .next t
        ∧ t.spGet n 32 = (reduceTo 40 sat (s.spAccNew n 0
            + (complexProduct conj (s.spWord n (0x8000 + xa)) (s.spWord n ha)).1)).1
        ∧ t.spGet n 34 = (reduceTo 40 sat (s.spAccNew n 2
            + (complexProduct conj (s.spWord n (0xC000 + ya)) (s.spWord n ha)).1)).1
        ∧ s.aspKeeps t n [32, 33, 34, 35, 16 + x.ptr.val, 16 + y.ptr.val, 16 + h.ptr.val, 41] ∧ s.aspWent t n)
    ∧ (∀ (d : Fin 16) (a : Fin 4) (sh : Fin 32), ∃ t, exec (.aspMova n sat d a none sh) s = .next t
        ∧ t.spGet n d.val = (reduceTo 32 sat (shiftEven (s.spAcc n a) sh)).1 ∧ s.aspKeeps t n [d.val, 41] ∧ s.aspWent t n)
    ∧ (∀ (d : Fin 16) (a b : Fin 4) (sh : Fin 32), ∃ t, exec (.aspMova n sat d a (some b) sh) s = .next t
        ∧ t.spGet n d.val = (reduceTo 16 sat (shiftEven (s.spAcc n a) sh)).1 * 65536
            + (reduceTo 16 sat (shiftEven (s.spAcc n b) sh)).1
        ∧ s.aspKeeps t n [d.val, 41] ∧ s.aspWent t n)
    ∧ (∀ mask, ∃ t, exec (.aspClra n mask) s = .next t
        ∧ (∀ a : Fin 4, t.spGet n (32 + a) = if mask.getLsbD a then 0 else s.spGet n (32 + a))
        ∧ s.aspKeeps t n [32, 33, 34, 35, 41] ∧ s.aspWent t n)
    ∧ (∀ d a b : Fin 4, ∃ t, exec (.aspAdda n sat d a b) s = .next t
        ∧ t.spGet n (32 + d) = (reduceTo 40 sat (s.spAcc n a + s.spAcc n b)).1
        ∧ s.aspKeeps t n [32 + d.val, 41] ∧ s.aspWent t n)
    ∧ (∀ (a : Fin 4) left (sh : Fin 32), ∃ t, exec (.aspSha n sat a left sh) s = .next t
        ∧ t.spGet n (32 + a) = (reduceTo 40 sat (if left then s.spAcc n a * 2 ^ sh.val else s.spAcc n a / 2 ^ sh.val)).1
        ∧ s.aspKeeps t n [32 + a.val, 41] ∧ s.aspWent t n)

/-- R326, R328 to R330, R333, R335, R341: control, outside delay slots and repeats, with no stop, suspension or step asked for. A branch, CALL, RET, RETI or LOOPNZ is pending with its target, or with none when it is not
taken, for two more instructions; CALL and RET push and pop the call stack, LOOPNZ counts LC down; WAIT waits; EI and DI set and clear the
enable bit; SIG fires the core's event and HINT raises its hint; RPT sets the count of the next instruction; NOP only goes on. -/
def Obligations.ControlActs : Prop :=
  ∀ (s : State) (n : Fin 16), s.aspReady n → (s.core n).stopReq = false → (s.core n).susReq = false →
    (s.core n).stepping = false →
    (∃ t, exec (.aspNop n) s = .next t ∧ s.aspKeeps t n [] ∧ s.aspWent t n)
    ∧ (∀ target : BitVec 15, ∃ t, exec (.aspBr n target) s = .next t ∧ (t.core n).br = some ⟨some target.toNat, 2, false⟩
        ∧ s.aspKeeps t n [] ∧ s.aspWent t n)
    ∧ (∀ (target : BitVec 15) (c : AspCond) taken, s.spCond n c = some taken →
      ∃ t, exec (.aspBrcc n c target) s = .next t
        ∧ (t.core n).br = some ⟨if taken then some target.toNat else none, 2, false⟩ ∧ s.aspKeeps t n [] ∧ s.aspWent t n)
    ∧ (∀ target : BitVec 15, (s.core n).stack.length < 8 →
      ∃ t, exec (.aspCall n target) s = .next t ∧ (t.core n).br = some ⟨some target.toNat, 2, false⟩
        ∧ (t.core n).stack = (s.rd (R.SP_PC_pc n) + 3) % 32768 :: (s.core n).stack ∧ s.aspKeeps t n [] ∧ s.aspWent t n)
    ∧ (∀ x r, (s.core n).stack = x :: r →
      ∃ t, exec (.aspRet n) s = .next t ∧ (t.core n).br = some ⟨some x, 2, false⟩ ∧ (t.core n).stack = r
        ∧ s.aspKeeps t n [] ∧ s.aspWent t n)
    ∧ (∃ t, exec (.aspReti n) s = .next t ∧ (t.core n).br = some ⟨none, 2, true⟩ ∧ s.aspKeeps t n [] ∧ s.aspWent t n)
    ∧ (∀ target : BitVec 15, ∃ t, exec (.aspLoopnz n target) s = .next t
        ∧ t.spGet n 40 = (s.spView n 2 40 + 65535) % 65536
        ∧ (t.core n).br = some ⟨if (s.spView n 2 40 + 65535) % 65536 = 0 then none else some target.toNat, 2, false⟩
        ∧ s.aspKeeps t n [40] ∧ s.aspWent t n)
    ∧ (s.spState n = 2 → ∃ t, exec (.aspWait n) s = .next t ∧ t.spState n = 3 ∧ s.aspWent t n)
    ∧ (∃ t, exec (.aspEi n) s = .next t ∧ t.spGet n 41 = setBit (s.spGet n 41) 6 true ∧ s.aspKeeps t n [41] ∧ s.aspWent t n)
    ∧ (∃ t, exec (.aspDi n) s = .next t ∧ t.spGet n 41 = setBit (s.spGet n 41) 6 false ∧ s.aspKeeps t n [41] ∧ s.aspWent t n)
    ∧ (∀ o : Fin 2, ∃ t, exec (.aspSig n o) s = .next t ∧ (48 + 2 * n.val + o.val, 0) ∈ t.evq ∧ s.aspKeeps t n []
        ∧ s.aspWent t n)
    ∧ (∃ t, exec (.aspHint n) s = .next t ∧ t.on ⟨R.SP_HINT, n, 1⟩ = true ∧ s.aspKeeps t n [] ∧ s.aspWent t n)
    ∧ (∀ c : BitVec 12, ∃ t, exec (.aspRpt n (some c)) s = .next t ∧ (t.core n).rpt = some (c.toNat + 1)
        ∧ s.aspKeeps t n [] ∧ s.aspWent t n)
    ∧ (1 ≤ s.spGet n 40 → s.spGet n 40 ≤ 4096 →
      ∃ t, exec (.aspRpt n none) s = .next t ∧ (t.core n).rpt = some (s.spGet n 40) ∧ s.aspKeeps t n [] ∧ s.aspWent t n)

/-- R328, R330, R333, R342, Table 16-9: what stops a core in FAULT, with its code: one of seven control instructions in a delay slot or under
a repeat, a reserved condition or address, an address outside X, a call stack that overflows or underflows, a repeat count of 0, a word
that ECC cannot correct. The fault leaves its code, its flag and the program counter. -/
def Obligations.CoresFault : Prop :=
  ∀ (s : State) (n : Fin 16), s.off = false → s.spRuns n = true →
    (((s.core n).br ≠ none ∨ (s.core n).rpt ≠ none) →
      ∀ i ∈ [Instr.aspNop n, .aspRet n, .aspReti n, .aspWait n, .aspEi n, .aspDi n, .aspHint n],
        exec i s = .next (s.spFault n 2))
    ∧ (∀ c target, (s.core n).br = none → (s.core n).rpt = none → s.spCond n c.val = none →
      exec (.aspBrcc n c target) s = .next (s.spFault n 1))
    ∧ (∀ target, (s.core n).br = none → (s.core n).rpt = none → 8 ≤ (s.core n).stack.length →
      exec (.aspCall n target) s = .next (s.spFault n 6))
    ∧ ((s.core n).br = none → (s.core n).rpt = none → (s.core n).stack = [] → exec (.aspRet n) s = .next (s.spFault n 6))
    ∧ ((s.core n).br = none → (s.core n).rpt = none → s.spGet n 40 = 0 → exec (.aspRpt n none) s = .next (s.spFault n 7))
    ∧ (∀ y op d e, (s.core n).rpt = none → s.spAddr n op = none → exec (.aspLoad n y op d e) s = .next (s.spFault n 1))
    ∧ (∀ op d e a p, (s.core n).rpt = none → s.spAddr n op = some (a, p) → 0x4000 ≤ a →
      exec (.aspLoad n false op d e) s = .next (s.spFault n 3))
    ∧ (∀ y op d e a p, (s.core n).rpt = none → s.spAddr n op = some (a, p) → a < 0x4000 → e.turn = 0 → e.kind = 2 →
      exec (.aspLoad n y op d e) s = .next (s.spFault n 5))
    ∧ (∀ c, c < 16 → (s.spFault n c).spState n = 4 ∧ (s.spFault n c).rd (R.SP_STAT_fcode n) = c
        ∧ (s.spFault n c).on ⟨R.SP_FAULT, n, 1⟩ = true ∧ (s.spFault n c).rd (R.SP_PC_pc n) = s.rd (R.SP_PC_pc n)
        ∧ (s.spFault n c).mem = s.mem)

/-- R332, R333, R336 to R339, R341, R343: the commands of a core. The first enabled pending interrupt is accepted at an accepting boundary:
RPC is saved, the shadow bank entered and the program counter set to its vector; an external access of a core whose port is open is made and its answer goes to the
waiting instruction; an input port of a running core takes words of the output that names it, or of a voltage beam. Of a write that SP_CTL takes, run starts a stopped core outside Endgame, run = 0 stops a core at an accepting boundary, step lets a stopped core step, and rst resets
it, its memories kept; a host message makes interrupt 4 pending. -/
def Obligations.CoresRun : Prop :=
  ∀ (s : State) (m : Fin 20) (n : Fin 16) (v : Word), s.off = false →
    (∀ i, (s.spState n = 2 ∨ s.spState n = 3) → (s.core n).accepting = true → s.rd (R.SP_STAT_bank n) = 0 →
      getBits (s.spView n 5 41) 6 1 = 1 →
      [1, 2, 3, 4].find? (fun i => getBits (s.spView n 5 41) (6 + i) 1 = 1 && s.spPending n i) = some i →
      ∃ t, exec (.interruptAccept n) s = .next t ∧ (t.core n).rpc = s.rd (R.SP_PC_pc n) ∧ t.rd (R.SP_STAT_bank n) = 1
        ∧ t.rd (R.SP_PC_pc n) = 4 * i ∧ t.spState n = 2 ∧ t.mem = s.mem)
    ∧ (∀ x, (s.core n).ext = some x → s.quiesced (2 + n) = false →
      exec (.externalAccessComplete n) s = .next (State.aspExternDone
        (s.access (2 + n) 0 x.addr (if x.write then .write ((leBytes 4 x.data).map some) else .read 4)).1 n x
        ((s.access (2 + n) 0 x.addr (if x.write then .write ((leBytes 4 x.data).map some) else .read 4)).2.map leNat)))
    ∧ (∀ (k : Fin 4) x, s.spTakes n = true → s.rd (R.SP_INCFGA_src n k) = 2 →
      (List.range 64).find? (fun x => s.rd (R.SP_OUTCFG_dst (x / 4) (x % 4)) = 2
        && s.rd (R.SP_OUTCFG_idx (x / 4) (x % 4)) = n.val && s.rd (R.SP_OUTCFG_port (x / 4) (x % 4)) = k.val) = some x →
      exec (.aspStreamDelivery n k) s = .next (s.streamMove n k (x / 4) (x % 4)))
    ∧ (∀ k : Fin 4, s.spTakes n = true → s.rd (R.SP_INCFGA_src n k) = 1 →
      exec (.aspStreamDelivery n k) s = .next (s.streamDeliver n k))
    ∧ (s.takes m (R.SP_CTL_run n).a (force v (R.SP_CTL_run n) 1) → v.toNat.testBit 2 = false → v.toNat.testBit 3 = false →
      s.spState n = 1 → (s.core n).stepping = false → s.ck.eg = 0 →
      ∃ t, exec (.aspRun m n v) s = .next t ∧ t.spState n = 2 ∧ t.core n = s.core n ∧ t.mem = s.mem)
    ∧ (s.takes m (R.SP_CTL_run n).a (force v (R.SP_CTL_run n) 0) → v.toNat.testBit 2 = false → v.toNat.testBit 3 = false →
      (s.spState n = 2 ∨ s.spState n = 3) → (s.core n).accepting = true → (s.core n).stepping = false →
      ∃ t, exec (.aspStop m n v) s = .next t ∧ t.spState n = 1 ∧ (t.core n).reg = (s.core n).reg ∧ t.mem = s.mem)
    ∧ (s.takes m (R.SP_CTL_step n).a (force v (R.SP_CTL_step n) 1) → v.toNat.testBit 2 = false → v.toNat.testBit 0 = false →
      s.spState n = 1 → s.ck.eg = 0 →
      ∃ t, exec (.aspStep m n v) s = .next t ∧ (t.core n).stepping = true ∧ t.spState n = 1 ∧ t.mem = s.mem)
    ∧ (s.takes m (R.SP_CTL_rst n).a (force v (R.SP_CTL_rst n) 1) →
      ∃ t, exec (.aspReset m n v) s = .next t ∧ t.spState n = 0 ∧ (t.core n).stack = [] ∧ (t.core n).inQ = []
        ∧ (t.core n).outQ = [] ∧ t.rd (R.SP_PC_pc n) = 0 ∧ t.quiesced (2 + n) = true ∧ t.sp.mem = s.sp.mem ∧ t.mem = s.mem)
    ∧ (s.takes m (R.SP_HMSG n) v →
      ∃ t, exec (.hostMessage m n v) s = .next t ∧ (t.core n).hmsg = true ∧ t.word (R.SP_HMSG n) = v ∧ t.mem = s.mem)

/-- R345 to R349, R353, R356, R357, Table 17-2: the listening post. A frame of a post that is off does nothing; of one that is on, every output sends, at the frame's instant, and a block of 192
frames begins with its channel status; a word that arrives with the post off joins its buffer or overruns it, and a word of an output port whose channel has another source is taken out of it; a sample at full gain is unchanged. A clock select that AU_CTL takes and that changes clk starts the clock's measurement anew; the
reference is measured in range, refused out of range, locked and lost. -/
def Obligations.AudioRuns : Prop :=
  ∀ (s : State) (m : Fin 20), s.off = false →
    ((s.on R.AU_CTL_en && s.hasBeam) = false → exec .aes3Frame s = .next s)
    ∧ (∀ u f, s.on R.AU_CTL_en = true → s.hasBeam = true → s.auInstant = (u, f) → f ≠ 0 → u.au.status ≠ [] →
      exec .aes3Frame s = .next (u.fold (List.range 8) (fun s o => s.auOutput f o)))
    ∧ (∀ u, s.on R.AU_CTL_en = true → s.hasBeam = true → s.auInstant = (u, 0) →
      exec .aes3Frame s = .next ((State.tick { u with au := { u.au with status := u.auStatus } }).fold (List.range 8)
        (fun s o => s.auOutput 0 o)))
    ∧ (∀ w f, 0 < f → wordSample w f f = (signed 24 (w / 256 % 2 ^ 24), decide (w % 2 = 1)))
    ∧ (∀ (c : Fin 16) (w : Word), s.rd (R.AU_CHCFG_src c) = 2 → s.on R.AU_CTL_en = false →
      smapGet false s.au.flush c = false →
      (s.auFill c < 16384 →
        ∃ t, exec (.bufferWordAppend c (some w)) s = .next t ∧ smapGet [] t.au.queue c = smapGet [] s.au.queue c ++ [w.toNat]
          ∧ t.csr = s.csr ∧ t.mem = s.mem)
      ∧ (16384 ≤ s.auFill c → exec (.bufferWordAppend c (some w)) s = .next (s.auOverrun c)))
    ∧ (∀ (c : Fin 16) p w rest, s.auPort c = some p → smapGet [] (s.core (p / 4)).outQ (p % 4) = w :: rest →
      s.rd (R.AU_CHCFG_src c) ≠ 1 →
      ∃ t, exec (.bufferWordAppend c none) s = .next t ∧ smapGet [] (t.core (p / 4)).outQ (p % 4) = rest
        ∧ t.au = s.au ∧ t.mem = s.mem)
    ∧ (∀ v u, s.takes m R.AU_CTL_clk.a v → u = s.landed m R.AU_CTL_clk.a v → u.on R.AU_CTL_clk ≠ s.on R.AU_CTL_clk →
      exec (.audioClockSelect m v) s = .next (((u.auClock (u.on R.AU_CTL_clk)).auCheck).okResp []))
    ∧ (∀ off : Int, off.natAbs ≤ s.rd R.AU_REFCTL_range_ppm * 1000 →
      (s.rd R.AU_STATUS_ref_state = 1 ∨ s.rd R.AU_STATUS_ref_state = 2) →
      ∃ t, exec (.aes3RefMeasure off) s = .next t ∧ t.au.inRange = true
        ∧ t.rd R.AU_STATUS_ref_state = s.rd R.AU_STATUS_ref_state ∧ t.mem = s.mem)
    ∧ (∀ off : Int, s.rd R.AU_REFCTL_range_ppm * 1000 < off.natAbs → s.rd R.AU_STATUS_ref_state = 1 →
      ∃ t, exec (.aes3RefMeasure off) s = .next t ∧ t.au.inRange = false ∧ t.rd R.AU_STATUS_ref_state = 3
        ∧ t.on R.AU_STATUS_ref_refused = true ∧ t.mem = s.mem)
    ∧ (s.rd R.AU_STATUS_ref_state = 1 → s.au.inRange = true →
      ∃ t, exec .aes3RefLock s = .next t ∧ t.rd R.AU_STATUS_ref_state = 2 ∧ t.au.onRef = true ∧ t.mem = s.mem)
    ∧ (s.rd R.AU_STATUS_ref_state = 2 →
      ∃ t, exec .aes3RefLoss s = .next t ∧ t.rd R.AU_STATUS_ref_state = 1 ∧ t.on R.AU_STATUS_ref_lost = true
        ∧ t.au.onRef = s.au.onRef ∧ t.mem = s.mem)

/-- R379, R380, R384, R385, R388, R389, R392, R396, R402, Tables 19-2 and 19-4: Opening and the resets. A power-on stops at step 1 while
RESET_N is low, at step 3 without XO_IN, at step 4 when the firmware fails to verify or does not fit the 8 MiB that are read of the boot flash, at step 7 without a GOOD slot; with BOOT_SPI high the image is read by command 0x6C from address 0. A RESET_N reset into step 1 keeps
the counter, the claim, OT_SEQ and the configuration store, and IG_LAST names the health state; its release goes on as far as XO_IN allows. A PCIe reset quiesces master 0 while PERST_N is low, and resets PE_WIN and the MSI-X table; a function-level reset also idles the DMA channels. Regions are reset one by one, and one in
use refuses; a kick is taken, and a watchdog that expires stops the Arbiter; a confirmation clears pm_unv; an exit from Adjournment ends at Ready with E094, or at step 7 when the images do not load, and is nothing outside Adjournment;
the wake time wakes at its time; after PERST_N the link trains. -/
def Obligations.OpeningRuns : Prop :=
  ∀ (s : State),
    (∀ o, s.tooHot = false →
      (o.resetLow = true → ∃ t, exec (.powerOn o) s = .next t ∧ t.rd R.MG_STATUS_step = 1 ∧ t.on R.MG_STATUS_ready = false
        ∧ t.on R.MG_RSTCAUSE_por = true ∧ t.mem = [] ∧ t.cf.store = s.cf.store)
      ∧ (o.resetLow = false → o.xo = false → ∃ t, exec (.powerOn o) s = .next t ∧ t.rd R.MG_STATUS_step = 3
        ∧ t.on R.MG_STATUS_xo_wait = true ∧ t.mem = [])
      ∧ (o.resetLow = false → o.xo = true → (o.fwOk = false ∨ (o.bootSpi = true ∧ 8388608 < o.fwBytes)) →
        ∃ t, exec (.powerOn o) s = .next t ∧ t.rd R.MG_STATUS_step = 4 ∧ t.on R.MG_STATUS_fw_fail = true ∧ t.mem = []
          ∧ (o.bootSpi = true → .spiRead 0x6C 0 (min o.fwBytes 8388608) ∈ t.out))
      ∧ (o.resetLow = false → o.xo = true → o.fwOk = true → (o.bootSpi = true → o.fwBytes ≤ 8388608) → (∀ k < 4, s.slotState k ≠ 3) →
        ∃ t, exec (.powerOn o) s = .next t ∧ t.rd R.MG_STATUS_step = 7 ∧ t.on R.MG_STATUS_noconf = true
          ∧ t.on R.MG_STATUS_ready = false ∧ t.mem = []))
    ∧ exec .powerLoss s = .next { s with mg := { s.mg with vin := false } }
    ∧ (∀ o, s.mg.vin = true → s.tooHot = false → o.resetLow = true →
      ∃ t, exec (.resetNAssert o) s = .next t ∧ t.rd R.MG_STATUS_step = 1 ∧ t.on R.MG_RSTCAUSE_reset_n = true
        ∧ t.tb.t = s.tb.t ∧ t.rq R.CS_CLAIM = s.rq R.CS_CLAIM ∧ (∀ k < 200, t.rq (R.OT_SEQ k) = s.rq (R.OT_SEQ k))
        ∧ t.rd R.IG_LAST_last_hstate = s.rd R.IG_STATUS_hstate ∧ t.cf.store = s.cf.store ∧ t.mem = [])
    ∧ (s.mg.resetLow = true → s.mg.vin = true → s.rd R.MG_STATUS_step = 1 → s.mg.xo = false →
      ∃ t, exec .resetNRelease s = .next t ∧ t.rd R.MG_STATUS_step = 3 ∧ t.on R.MG_STATUS_xo_wait = true
        ∧ t.mg.resetLow = false ∧ t.mem = s.mem)
    ∧ (∀ perst link, s.off = false →
      ∃ t, exec (.pcieReset perst link) s = .next t ∧ t.quiesced 0 = perst ∧ t.rq R.PE_WIN = 0 ∧ t.pe.table = []
        ∧ t.pe.pendBit = [] ∧ t.latchOf 0 = default
        ∧ t.rd R.PE_LINK_width = (if perst then 0 else link.width % 64) ∧ t.mem = s.mem)
    ∧ (s.off = false → ∃ t, exec .functionLevelReset s = .next t ∧ t.quiesced 0 = false ∧ t.quiesced 18 = false
        ∧ t.rq R.PE_WIN = 0 ∧ (∀ c < 8, t.dmaState c = 0) ∧ t.mem = s.mem)
    ∧ (∀ (m : Fin 20) v, s.writable m R.MG_RRST_rst.a →
      exec (.regionReset m v) s = .next ((s.fold ((List.range 7).filter (fun r => v.getLsbD r && (s.hasBeam
        || (r != 4 && r != 6)))) (fun s r => s.regionReset r)).okResp []))
    ∧ (∀ r, s.regionIdle r = false → s.regionReset r = s.flag R.MG_STATUS_rst_ref)
    ∧ (∀ (m : Fin 20) v, s.takes m R.MG_WDOG_kick.a (force v R.MG_WDOG_kick 0x5A) →
      exec (.watchdogKick m v) s = .next ((s.landed m R.MG_WDOG_kick.a (force v R.MG_WDOG_kick 0x5A)).okResp []))
    ∧ (s.off = false → s.on R.MG_CTL_wd_en = true → exec .watchdogExpiry s = .next s.arbiterStop)
    ∧ (∀ m : Fin 20, s.takes m R.MG_CTL_pm_confirm.a (BitVec.ofNat 32 (2 + s.rd R.MG_CTL_wd_en)) →
      ∃ t, exec (.pairMapConfirm m) s = .next t ∧ t.on R.MG_STATUS_pm_unv = false
        ∧ t.rd R.MG_CTL_wd_en = s.rd R.MG_CTL_wd_en ∧ t.mem = s.mem)
    ∧ (∀ w, s.mg.vin = true → s.on R.MG_STATUS_adjourned = true →
      ((w.images = true ∨ s.cf.record = []) → ∃ t, exec (.wakePin w) s = .next t ∧ t.on R.MG_STATUS_ready = true
        ∧ t.rd R.MG_STATUS_step = 9 ∧ (94, 0) ∈ t.evq)
      ∧ (w.images = false → s.cf.record ≠ [] → ∃ t, exec (.wakePin w) s = .next t ∧ t.rd R.MG_STATUS_step = 7
        ∧ t.on R.MG_STATUS_noconf = true ∧ t.rd R.CF_STATUS_cfg_state = 3))
    ∧ (∀ w, s.on R.MG_STATUS_adjourned = false → exec (.wakePin w) s = .next s)
    ∧ (∀ w, s.rq R.MG_WAKETIME / 2 ^ 63 = 1 → s.on R.MG_STATUS_adjourned = true →
      (s.rq R.MG_WAKETIME % 2 ^ 48) * 1000000000 * nsUnit ≤ s.tb.t → exec (.wakeTime w) s = .next (s.wake w))
    ∧ (∀ link, s.off = false → link.speed < 16 → link.width < 64 →
      ∃ t, exec (.perstNRelease link) s = .next t ∧ t.rd R.PE_LINK_speed = link.speed ∧ t.rd R.PE_LINK_width = link.width
        ∧ t.quiesced 0 = false ∧ t.pe.perst = false ∧ t.mem = s.mem)

/-- R392, R395, R401, R403, R406, Tables 20-2 to 20-8: VIN, the rails and the core temperature, the SMBus target and the test access
port, with VIN present. A VIN below 10.7 V is flagged and 10.8 V ends that; above 13.8 V, a rail outside its limits and 110 °C from step 2 on shut the device down, and values inside are only shown; SMBus sets
its offset, reads and writes where it may, else flags smb_ref, and advances; a command with a wrong PEC is not taken; a wake outside Adjournment is nothing; firmware bytes are appended while fw_fail is set, and a verified image goes on with Opening; an alert response releases the alert. An instruction of the test access
port selects its register, and those that drive the balls act as BYPASS while RESET_N is high. -/
def Obligations.ElectricalRuns : Prop :=
  ∀ (s : State), s.mg.vin = true →
    (∀ mv cma, mv < 10700 → ∃ t, exec (.vinLow mv cma) s = .next t ∧ t.on R.IO_STATUS_vin_low = true
        ∧ t.on R.IO_STATUS_vin_low_ev = true ∧ t.rd R.IO_VIN_vin = mv ∧ t.mem = s.mem)
    ∧ (∀ mv cma, 10800 ≤ mv → mv < 65536 → ∃ t, exec (.vinRecover mv cma) s = .next t ∧ t.on R.IO_STATUS_vin_low = false
        ∧ t.rd R.IO_VIN_vin = mv ∧ t.mem = s.mem)
    ∧ (∀ mv cma, 13800 < mv → ∃ t, exec (.overvoltage mv cma) s = .next t ∧ t.rd R.IG_STATUS_hstate = 4)
    ∧ (∀ mv cma, mv ≤ 13800 → exec (.overvoltage mv cma) s = .next (s.noteVin mv cma))
    ∧ (∀ (rail : Fin 5) mv amps, s.railOut rail mv amps = true →
      ∃ t, exec (.regulatorExcursion rail mv amps) s = .next t ∧ t.rd R.IG_STATUS_hstate = 4)
    ∧ (∀ (rail : Fin 5) mv amps, s.railOut rail mv amps = false → rail.val < 4 → mv < 65536 →
      ∃ t, exec (.regulatorExcursion rail mv amps) s = .next t ∧ t.rd (R.IO_RAIL_mv rail) = mv
        ∧ t.rd R.IG_STATUS_hstate = s.rd R.IG_STATUS_hstate ∧ t.mem = s.mem)
    ∧ (∀ temps, (s.noteTemps temps).off = false → 2 ≤ (s.noteTemps temps).rd R.MG_STATUS_step →
      (110 * 8 ≤ (s.noteTemps temps).tj → ∃ t, exec (.thermalSensorUpdate temps) s = .next t ∧ t.rd R.IG_STATUS_hstate = 4)
      ∧ ((s.noteTemps temps).tj < 105 * 8 → exec (.thermalSensorUpdate temps) s = .next (s.noteTemps temps)))
    ∧ (1 ≤ s.rd R.MG_STATUS_step →
      (∀ bs, bs.length = 4 → leNat bs < 2 ^ 28 →
        exec (.smbusSetOffset true bs) s = .next { s with io := { s.io with smbOff := leNat bs } })
      ∧ (∀ bs, exec (.smbusSetOffset false bs) s = .next (s.emit .smbusNak)
        ∧ exec (.smbusWrite false bs) s = .next (s.emit .smbusNak) ∧ exec (.smbusRead false) s = .next (s.emit .smbusNak))
      ∧ (s.smbReads s.io.smbOff = true → exec (.smbusRead true) s = .next (((s.csrRead 1 s.io.smbOff).1.emit
          (.smbus (leBytes 4 (s.csrRead 1 s.io.smbOff).2.toNat))).smbNext))
      ∧ (s.smbReads s.io.smbOff = false → ∃ t, exec (.smbusRead true) s = .next t
          ∧ t.on R.IO_STATUS_smb_ref = true ∧ t.io.smbOff = (s.io.smbOff + 4) % 2 ^ 28 ∧ t.mem = s.mem)
      ∧ (∀ bs, bs.length = 4 → s.io.smbOff / 0x100000 = 0x15 → s.io.smbOff % 4 = 0 →
          (s.rd R.XB_CSRSEC_blk).testBit 0x15 = false →
          exec (.smbusWrite true bs) s = .next (State.smbNext (s.csrCore 1 false s.io.smbOff (BitVec.ofNat 32 (leNat bs)))))
      ∧ (∀ bs, bs.length = 4 → s.io.smbOff / 0x100000 ≠ 0x15 → ∃ t, exec (.smbusWrite true bs) s = .next t
          ∧ t.on R.IO_STATUS_smb_ref = true ∧ t.io.smbOff = (s.io.smbOff + 4) % 2 ^ 28 ∧ t.mem = s.mem)
      ∧ (∀ w, s.on R.MG_STATUS_adjourned = true → exec (.smbusWake true w) s = .next (s.wake w))
      ∧ (∀ w, s.on R.MG_STATUS_adjourned = false → exec (.smbusWake true w) s = .next s)
      ∧ (∀ bs, s.on R.MG_STATUS_fw_fail = true → 1 ≤ bs.length → bs.length ≤ 32 →
          exec (.smbusFirmwareAppend true bs none) s = .next { s with mg := { s.mg with image := s.mg.image ++ bs } }
          ∧ ∀ v, exec (.smbusFirmwareAppend true bs (some v)) s = .next (((State.wr { s with mg := { s.mg with image := [] } }
              R.MG_STATUS_fw_fail 0).wr R.TOP_FW_ver v.toNat).openStacks))
      ∧ (s.io.alert = true → exec .smbusAlertResponse s
          = .next (State.emit { s with io := { s.io with alert := false } } (.pin "SMB_ALERT_N" true))))
    ∧ (exec .jtagBypass s = .next (State.emit { s with io := { s.io with ir := .bypass } } (.jtag "BYPASS" 0)))
    ∧ (exec .jtagIdcode s = .next (State.emit { s with io := { s.io with ir := .idcode } } (.jtag "IDCODE" idcode)))
    ∧ (∀ pins pre, exec (.jtagSamplePreload pins pre) s
        = .next (State.emit { s with io := { s.io with ir := .sample, boundary := pre } } (.jtag "BOUNDARY" pins)))
    ∧ (s.mg.resetLow = true → ∀ pins pre, ∀ p ∈ [(Instr.jtagExtest pins pre, JtagIr.extest),
        (.jtagExtestPulse pins pre, .extestPulse), (.jtagExtestTrain pins pre, .extestTrain)],
        exec p.1 s = .next (State.emit { s with io := { s.io with ir := p.2, boundary := pre } } (.jtag "BOUNDARY" pins)))
    ∧ (s.mg.resetLow = true → ∀ p ∈ [(Instr.jtagHighz, JtagIr.highz), (.jtagClamp, .clamp)],
        exec p.1 s = .next (State.emit { s with io := { s.io with ir := p.2 } } (.jtag "BYPASS" 0)))
    ∧ (s.mg.resetLow = false → ∀ pins pre, ∀ i ∈ [Instr.jtagExtest pins pre, .jtagExtestPulse pins pre,
        .jtagExtestTrain pins pre, .jtagHighz, .jtagClamp], exec i s = exec .jtagBypass s)
    ∧ (exec .testLogicReset s = .next { s with io := { s.io with ir := .idcode } })

/-- R3: the part with four stacks. HBM ends at 0x30_0000_0000, and an access of any master to the 192 GiB above it is answered with
an error and writes nothing. -/
def Obligations.SmallPartEnds : Prop :=
  ∀ (s : State) (m : Fin 20) (ch : Fin 8) (a : BitVec 40) (op : XbOp) (ecc : Bool), s.part = .m → s.off = false → s.quiesced m = false →
    s.hbmSize = 0x3000000000
    ∧ (0x3000000000 ≤ a.toNat → a.toNat < 0x6000000000 →
      ∃ t, exec (.crossbarBurst m ch a ⟨op, ecc⟩) s = .next t ∧ t.resp.error = true ∧ t.mem = s.mem ∧ t.hm = s.hm ∧ t.ag = s.ag
        ∧ t.sp = s.sp ∧ t.cf = s.cf ∧ t.au = s.au ∧ t.xb.mbx = s.xb.mbx)

/-- R306: the BAR2 window. A write of PE_WIN moves it when the base is a multiple of 1 GiB and the 64 GiB above it lie within the
part's HBM, the end at the capacity included; another write is discarded with PE_ERR.win. Offset o of BAR2 reaches HBM at PE_WIN
+ o, with the PE_WIN in force. -/
def Obligations.WindowMoves : Prop :=
  ∀ (s : State) (m : Fin 20) (v : BitVec 64), s.writable m R.PE_WIN → s.writable m (R.PE_WIN + 4) →
    (s.hbmSize = if s.part = .m then 0x3000000000 else 0x6000000000)
    ∧ (v.toNat % 2 ^ 30 = 0 → v.toNat + 2 ^ 36 ≤ s.hbmSize →
        ∃ t, exec (.peWinWrite m v) s = .next t ∧ t.rq R.PE_WIN = v.toNat ∧ t.on R.PE_ERR_win = s.on R.PE_ERR_win
          ∧ t.mem = s.mem)
    ∧ (¬ (v.toNat % 2 ^ 30 = 0 ∧ v.toNat + 2 ^ 36 ≤ s.hbmSize) →
        ∃ t, exec (.peWinWrite m v) s = .next t ∧ t.rq R.PE_WIN = s.rq R.PE_WIN ∧ t.on R.PE_ERR_win = true ∧ t.mem = s.mem)
    ∧ (∀ (o : BitVec 36) op, s.quiesced 0 = false → o.toNat + opLen op ≤ 0x1000000000 →
        exec (.pcieRequest .bar2 o op) s = .next (s.hostAccess (s.rq R.PE_WIN + o.toNat) op))

/-- R31, R32, R34: the CRC-8 of a cell's header, with its check value, and the sequence numbers. A header with its CRC appended leaves 0; a
counted cell carries the next seq and goes to the lane of its slot, slot k to lane k mod l; an alignment cell carries the last seq, and so do the idle cells before a packet (their number is free, log entry 167); the cells of a packet carry
consecutive ones in consecutive slots, and their kinds. -/
def Obligations.CellsNumbered : Prop :=
  crc8 [0x31, 0x32, 0x33, 0x34, 0x35, 0x36, 0x37, 0x38, 0x39] = 0xF4
  ∧ crc8 [] = 0 ∧ (∀ bs b, crc8 (bs ++ [b]) = iterate crcStep8 8 (crc8 bs ^^^ b.toNat))
  ∧ (∀ c, c < 256 → crcStep8 c = if 128 ≤ c then (2 * c) % 256 ^^^ 0x07 else 2 * c)
  ∧ (∀ bs, crc8 (bs ++ [BitVec.ofNat 8 (crc8 bs)]) = 0)
  ∧ (∀ kind seq body, byteAt (cellBytes kind seq body) 2 = seq % 256
      ∧ byteAt (cellBytes kind seq body) 3 = crc8 ((cellBytes kind seq body).take 3))
  ∧ (∀ (s : State) p lane kind body, (s.sendCell p kind body).out
        = s.out ++ [.cell p ((s.ulp p).txSlot % s.portLanes p) (cellBytes kind (((s.ulp p).txSeq + 1) % 256) body)]
      ∧ ((s.sendCell p kind body).ulp p).txSeq = ((s.ulp p).txSeq + 1) % 256
      ∧ (s.sendUncounted p lane kind body).out = s.out ++ [.cell p lane (cellBytes kind (s.ulp p).txSeq body)]
      ∧ ((s.sendUncounted p lane kind body).ulp p).txSeq = (s.ulp p).txSeq)
  ∧ (∀ (s : State) p bs, ∀ n k, n = (chunks bs.length bs).length → k = (s.ulp p).txSlot + Config.idleCells s.fresh →
      (s.sendPacket p bs).out = s.out ++ [.idle p (Config.idleCells s.fresh) (s.ulp p).txSeq]
        ++ (chunks bs.length bs).zipIdx.map (fun c =>
          .cell p ((k + c.2) % s.portLanes p)
            (cellBytes (if n = 1 then 5 else if c.2 = 0 then 2 else if c.2 + 1 = n then 4 else 3)
              (((s.ulp p).txSeq + c.2 + 1) % 256) c.1))
      ∧ (bs ≠ [] → ((s.sendPacket p bs).ulp p).txSeq = ((s.ulp p).txSeq + n) % 256))

/-- A step runs the command at the front of the queue on the state with the queue's rest; on an empty queue one tick of the time counter
passes (log entries 1 and 2: the model's choice). -/
def Obligations.StepRunsFront : Prop :=
  (∀ (s : State) (c : Instr), step { s with pending := c :: s.pending } = exec c s)
  ∧ (∀ s : State, s.pending = [] → step s = .next s.idleTick)

/-- What reset leaves: the values that the spec's field tables give. Nothing waits, no block is enabled, the device is not Ready,
links are DOWN, the groups OFF, the Board and the Beam Array IDLE, the cores in RESET, castling DISABLED; every memory lists
nothing and has its canonical form. -/
def Obligations.ResetLeaves : Prop :=
  State.reset.pending = [] ∧ State.reset.mem = [] ∧ State.reset.memOk
  ∧ (∀ f ∈ [R.IN_CTL_en, R.AL_CTL_en, R.BD_CTL_en, R.BA_CTL_en, R.OT_CTL_en, R.AU_CTL_en, R.CS_CTL_en,
      R.MG_STATUS_ready, R.TB_STATUS_set, R.TB_STATUS_sce_valid, R.XB_VIOL_valid], State.reset.on f = false)
  ∧ State.reset.rd R.AL_WIN_win_us = 500 ∧ State.reset.rd R.REF_STATUS_tq = 5 ∧ State.reset.on R.EV_CTL_en = true ∧ State.reset.rd R.XB_MATTR_sec = 0x80002
  ∧ State.reset.rd R.XB_CSRSEC_blk = 0x84000 ∧ State.reset.on R.MG_RSTCAUSE_por = true
  ∧ (∀ p : Fin 17, State.reset.rd (portState p) = 0) ∧ (∀ g : Fin 63, State.reset.gState g = 0)
  ∧ State.reset.bdState = 0 ∧ State.reset.baState = 0 ∧ (∀ n : Fin 16, State.reset.spState n = 0)
  ∧ State.reset.csState = 0 ∧ State.reset.rd R.IG_STATUS_hstate = 0

/-- Every step keeps the memories in their canonical form: HBM, the mailbox and the configuration store stay lists of rising
addresses, and list no byte that reads as an unlisted one does. -/
def Obligations.MemoryKept : Prop :=
  ∀ s t : State, s.memOk → step s = .next t → t.memOk
end

