-- ==== Sys2Proof/Laws/Blank.lean ====
section
/-! SUPPORT. Frames: which fields of the state an operation can change, as a set of fields coded in the bits of a number
(bit i for the i-th field of State). Every operation of the model has its lemma in the files that follow. -/

namespace Sys2Proof.Machine

/-- The state with the fields of a set taken out of sight. -/
def State.blank (s : State) (M : Nat) : State where
  pending := if M.testBit 0 then State.reset.pending else s.pending
  part := if M.testBit 1 then State.reset.part else s.part
  csr := if M.testBit 2 then State.reset.csr else s.csr
  latch := if M.testBit 3 then State.reset.latch else s.latch
  resp := if M.testBit 4 then State.reset.resp else s.resp
  out := if M.testBit 5 then State.reset.out else s.out
  mem := if M.testBit 6 then State.reset.mem else s.mem
  bound := if M.testBit 7 then State.reset.bound else s.bound
  rnd := if M.testBit 8 then State.reset.rnd else s.rnd
  evq := if M.testBit 9 then State.reset.evq else s.evq
  fresh := if M.testBit 10 then State.reset.fresh else s.fresh
  ul := if M.testBit 11 then State.reset.ul else s.ul
  al := if M.testBit 12 then State.reset.al else s.al
  bd := if M.testBit 13 then State.reset.bd else s.bd
  ag := if M.testBit 14 then State.reset.ag else s.ag
  ba := if M.testBit 15 then State.reset.ba else s.ba
  ig := if M.testBit 16 then State.reset.ig else s.ig
  rf := if M.testBit 17 then State.reset.rf else s.rf
  tb := if M.testBit 18 then State.reset.tb else s.tb
  pt := if M.testBit 19 then State.reset.pt else s.pt
  ck := if M.testBit 20 then State.reset.ck else s.ck
  hm := if M.testBit 21 then State.reset.hm else s.hm
  pe := if M.testBit 22 then State.reset.pe else s.pe
  xb := if M.testBit 23 then State.reset.xb else s.xb
  ev := if M.testBit 24 then State.reset.ev else s.ev
  sp := if M.testBit 25 then State.reset.sp else s.sp
  au := if M.testBit 26 then State.reset.au else s.au
  ot := if M.testBit 27 then State.reset.ot else s.ot
  cs := if M.testBit 28 then State.reset.cs else s.cs
  cf := if M.testBit 29 then State.reset.cf else s.cf
  mg := if M.testBit 30 then State.reset.mg else s.mg
  io := if M.testBit 31 then State.reset.io else s.io

/-- What agrees outside a set agrees outside a larger one. -/
theorem blank_mono {m M : Nat} {s t : State} (h : M ||| m = M) (e : s.blank m = t.blank m) : s.blank M = t.blank M := by
  have hb : ∀ i, M.testBit i = false → m.testBit i = false := by
    intro i hi
    rw [← h, Nat.testBit_or, Bool.or_eq_false_iff] at hi
    exact hi.2
  simp only [State.blank, State.mk.injEq] at e ⊢
  obtain ⟨h0, h1, h2, h3, h4, h5, h6, h7, h8, h9, h10, h11, h12, h13, h14, h15, h16, h17, h18, h19, h20, h21, h22, h23, h24, h25, h26, h27, h28, h29, h30, h31⟩ := e
  refine ⟨?_, ?_, ?_, ?_, ?_, ?_, ?_, ?_, ?_, ?_, ?_, ?_, ?_, ?_, ?_, ?_, ?_, ?_, ?_, ?_, ?_, ?_, ?_, ?_, ?_, ?_, ?_, ?_, ?_, ?_, ?_, ?_⟩
  · by_cases c : M.testBit 0 = true
    · simp only [c, if_true]
    · have d := hb 0 (by simpa using c); simp only [d, Bool.false_eq_true, if_false] at h0; simpa [c] using h0
  · by_cases c : M.testBit 1 = true
    · simp only [c, if_true]
    · have d := hb 1 (by simpa using c); simp only [d, Bool.false_eq_true, if_false] at h1; simpa [c] using h1
  · by_cases c : M.testBit 2 = true
    · simp only [c, if_true]
    · have d := hb 2 (by simpa using c); simp only [d, Bool.false_eq_true, if_false] at h2; simpa [c] using h2
  · by_cases c : M.testBit 3 = true
    · simp only [c, if_true]
    · have d := hb 3 (by simpa using c); simp only [d, Bool.false_eq_true, if_false] at h3; simpa [c] using h3
  · by_cases c : M.testBit 4 = true
    · simp only [c, if_true]
    · have d := hb 4 (by simpa using c); simp only [d, Bool.false_eq_true, if_false] at h4; simpa [c] using h4
  · by_cases c : M.testBit 5 = true
    · simp only [c, if_true]
    · have d := hb 5 (by simpa using c); simp only [d, Bool.false_eq_true, if_false] at h5; simpa [c] using h5
  · by_cases c : M.testBit 6 = true
    · simp only [c, if_true]
    · have d := hb 6 (by simpa using c); simp only [d, Bool.false_eq_true, if_false] at h6; simpa [c] using h6
  · by_cases c : M.testBit 7 = true
    · simp only [c, if_true]
    · have d := hb 7 (by simpa using c); simp only [d, Bool.false_eq_true, if_false] at h7; simpa [c] using h7
  · by_cases c : M.testBit 8 = true
    · simp only [c, if_true]
    · have d := hb 8 (by simpa using c); simp only [d, Bool.false_eq_true, if_false] at h8; simpa [c] using h8
  · by_cases c : M.testBit 9 = true
    · simp only [c, if_true]
    · have d := hb 9 (by simpa using c); simp only [d, Bool.false_eq_true, if_false] at h9; simpa [c] using h9
  · by_cases c : M.testBit 10 = true
    · simp only [c, if_true]
    · have d := hb 10 (by simpa using c); simp only [d, Bool.false_eq_true, if_false] at h10; simpa [c] using h10
  · by_cases c : M.testBit 11 = true
    · simp only [c, if_true]
    · have d := hb 11 (by simpa using c); simp only [d, Bool.false_eq_true, if_false] at h11; simpa [c] using h11
  · by_cases c : M.testBit 12 = true
    · simp only [c, if_true]
    · have d := hb 12 (by simpa using c); simp only [d, Bool.false_eq_true, if_false] at h12; simpa [c] using h12
  · by_cases c : M.testBit 13 = true
    · simp only [c, if_true]
    · have d := hb 13 (by simpa using c); simp only [d, Bool.false_eq_true, if_false] at h13; simpa [c] using h13
  · by_cases c : M.testBit 14 = true
    · simp only [c, if_true]
    · have d := hb 14 (by simpa using c); simp only [d, Bool.false_eq_true, if_false] at h14; simpa [c] using h14
  · by_cases c : M.testBit 15 = true
    · simp only [c, if_true]
    · have d := hb 15 (by simpa using c); simp only [d, Bool.false_eq_true, if_false] at h15; simpa [c] using h15
  · by_cases c : M.testBit 16 = true
    · simp only [c, if_true]
    · have d := hb 16 (by simpa using c); simp only [d, Bool.false_eq_true, if_false] at h16; simpa [c] using h16
  · by_cases c : M.testBit 17 = true
    · simp only [c, if_true]
    · have d := hb 17 (by simpa using c); simp only [d, Bool.false_eq_true, if_false] at h17; simpa [c] using h17
  · by_cases c : M.testBit 18 = true
    · simp only [c, if_true]
    · have d := hb 18 (by simpa using c); simp only [d, Bool.false_eq_true, if_false] at h18; simpa [c] using h18
  · by_cases c : M.testBit 19 = true
    · simp only [c, if_true]
    · have d := hb 19 (by simpa using c); simp only [d, Bool.false_eq_true, if_false] at h19; simpa [c] using h19
  · by_cases c : M.testBit 20 = true
    · simp only [c, if_true]
    · have d := hb 20 (by simpa using c); simp only [d, Bool.false_eq_true, if_false] at h20; simpa [c] using h20
  · by_cases c : M.testBit 21 = true
    · simp only [c, if_true]
    · have d := hb 21 (by simpa using c); simp only [d, Bool.false_eq_true, if_false] at h21; simpa [c] using h21
  · by_cases c : M.testBit 22 = true
    · simp only [c, if_true]
    · have d := hb 22 (by simpa using c); simp only [d, Bool.false_eq_true, if_false] at h22; simpa [c] using h22
  · by_cases c : M.testBit 23 = true
    · simp only [c, if_true]
    · have d := hb 23 (by simpa using c); simp only [d, Bool.false_eq_true, if_false] at h23; simpa [c] using h23
  · by_cases c : M.testBit 24 = true
    · simp only [c, if_true]
    · have d := hb 24 (by simpa using c); simp only [d, Bool.false_eq_true, if_false] at h24; simpa [c] using h24
  · by_cases c : M.testBit 25 = true
    · simp only [c, if_true]
    · have d := hb 25 (by simpa using c); simp only [d, Bool.false_eq_true, if_false] at h25; simpa [c] using h25
  · by_cases c : M.testBit 26 = true
    · simp only [c, if_true]
    · have d := hb 26 (by simpa using c); simp only [d, Bool.false_eq_true, if_false] at h26; simpa [c] using h26
  · by_cases c : M.testBit 27 = true
    · simp only [c, if_true]
    · have d := hb 27 (by simpa using c); simp only [d, Bool.false_eq_true, if_false] at h27; simpa [c] using h27
  · by_cases c : M.testBit 28 = true
    · simp only [c, if_true]
    · have d := hb 28 (by simpa using c); simp only [d, Bool.false_eq_true, if_false] at h28; simpa [c] using h28
  · by_cases c : M.testBit 29 = true
    · simp only [c, if_true]
    · have d := hb 29 (by simpa using c); simp only [d, Bool.false_eq_true, if_false] at h29; simpa [c] using h29
  · by_cases c : M.testBit 30 = true
    · simp only [c, if_true]
    · have d := hb 30 (by simpa using c); simp only [d, Bool.false_eq_true, if_false] at h30; simpa [c] using h30
  · by_cases c : M.testBit 31 = true
    · simp only [c, if_true]
    · have d := hb 31 (by simpa using c); simp only [d, Bool.false_eq_true, if_false] at h31; simpa [c] using h31

/-- A subset of a set that lies within another lies within it. -/
theorem blank_sub {m k M : Nat} (h : M ||| m = M) (g : m ||| k = m) : M ||| k = M := by
  rw [← h, Nat.or_assoc, g]

/-- A choice between two states, field by field. -/
theorem blank_ite (M : Nat) (c : Prop) [Decidable c] (a b : State) :
    (if c then a else b).blank M = if c then a.blank M else b.blank M := by
  split <;> rfl

theorem blank_bif (M : Nat) (c : Bool) (a b : State) :
    (bif c then a else b).blank M = bif c then a.blank M else b.blank M := by
  cases c <;> rfl

theorem fold_blank {α : Type} (M : Nat) (f : State → α → State) (h : ∀ s x, (f s x).blank M = s.blank M) (l : List α) :
    ∀ s : State, (s.fold l f).blank M = s.blank M := by
  unfold State.fold
  induction l with
  | nil => intro s; rfl
  | cons x r ih => intro s; rw [List.foldl_cons, ih, h]

theorem foldl_blank {α : Type} (M : Nat) (f : State → α → State) (h : ∀ s x, (f s x).blank M = s.blank M) (l : List α)
    (s : State) : (l.foldl f s).blank M = s.blank M := fold_blank M f h l s

theorem when_blank (M : Nat) (c : Bool) (f : State → State) (s : State) (h : (f s).blank M = s.blank M) :
    (s.when c f).blank M = s.blank M := by
  unfold State.when; split
  · exact h
  · rfl

theorem upd_pending (M : Nat) (h0 : M.testBit 0 = true) (s : State) (x0 : List Instr) :
    State.blank ⟨x0, s.part, s.csr, s.latch, s.resp, s.out, s.mem, s.bound, s.rnd, s.evq, s.fresh, s.ul, s.al, s.bd, s.ag, s.ba, s.ig, s.rf, s.tb, s.pt, s.ck, s.hm, s.pe, s.xb, s.ev, s.sp, s.au, s.ot, s.cs, s.cf, s.mg, s.io⟩ M = s.blank M := by
  simp only [State.blank, h0, if_true]

theorem upd_part (M : Nat) (h1 : M.testBit 1 = true) (s : State) (x1 : Part) :
    State.blank ⟨s.pending, x1, s.csr, s.latch, s.resp, s.out, s.mem, s.bound, s.rnd, s.evq, s.fresh, s.ul, s.al, s.bd, s.ag, s.ba, s.ig, s.rf, s.tb, s.pt, s.ck, s.hm, s.pe, s.xb, s.ev, s.sp, s.au, s.ot, s.cs, s.cf, s.mg, s.io⟩ M = s.blank M := by
  simp only [State.blank, h1, if_true]

theorem upd_csr (M : Nat) (h2 : M.testBit 2 = true) (s : State) (x2 : SMap Word) :
    State.blank ⟨s.pending, s.part, x2, s.latch, s.resp, s.out, s.mem, s.bound, s.rnd, s.evq, s.fresh, s.ul, s.al, s.bd, s.ag, s.ba, s.ig, s.rf, s.tb, s.pt, s.ck, s.hm, s.pe, s.xb, s.ev, s.sp, s.au, s.ot, s.cs, s.cf, s.mg, s.io⟩ M = s.blank M := by
  simp only [State.blank, h2, if_true]

theorem upd_latch (M : Nat) (h3 : M.testBit 3 = true) (s : State) (x3 : SMap Latch) :
    State.blank ⟨s.pending, s.part, s.csr, x3, s.resp, s.out, s.mem, s.bound, s.rnd, s.evq, s.fresh, s.ul, s.al, s.bd, s.ag, s.ba, s.ig, s.rf, s.tb, s.pt, s.ck, s.hm, s.pe, s.xb, s.ev, s.sp, s.au, s.ot, s.cs, s.cf, s.mg, s.io⟩ M = s.blank M := by
  simp only [State.blank, h3, if_true]

theorem upd_resp (M : Nat) (h4 : M.testBit 4 = true) (s : State) (x4 : Resp) :
    State.blank ⟨s.pending, s.part, s.csr, s.latch, x4, s.out, s.mem, s.bound, s.rnd, s.evq, s.fresh, s.ul, s.al, s.bd, s.ag, s.ba, s.ig, s.rf, s.tb, s.pt, s.ck, s.hm, s.pe, s.xb, s.ev, s.sp, s.au, s.ot, s.cs, s.cf, s.mg, s.io⟩ M = s.blank M := by
  simp only [State.blank, h4, if_true]

theorem upd_out (M : Nat) (h5 : M.testBit 5 = true) (s : State) (x5 : List Emit) :
    State.blank ⟨s.pending, s.part, s.csr, s.latch, s.resp, x5, s.mem, s.bound, s.rnd, s.evq, s.fresh, s.ul, s.al, s.bd, s.ag, s.ba, s.ig, s.rf, s.tb, s.pt, s.ck, s.hm, s.pe, s.xb, s.ev, s.sp, s.au, s.ot, s.cs, s.cf, s.mg, s.io⟩ M = s.blank M := by
  simp only [State.blank, h5, if_true]

theorem upd_mem (M : Nat) (h6 : M.testBit 6 = true) (s : State) (x6 : Memory) :
    State.blank ⟨s.pending, s.part, s.csr, s.latch, s.resp, s.out, x6, s.bound, s.rnd, s.evq, s.fresh, s.ul, s.al, s.bd, s.ag, s.ba, s.ig, s.rf, s.tb, s.pt, s.ck, s.hm, s.pe, s.xb, s.ev, s.sp, s.au, s.ot, s.cs, s.cf, s.mg, s.io⟩ M = s.blank M := by
  simp only [State.blank, h6, if_true]

theorem upd_bound (M : Nat) (h7 : M.testBit 7 = true) (s : State) (x7 : List (Nat × Change)) :
    State.blank ⟨s.pending, s.part, s.csr, s.latch, s.resp, s.out, s.mem, x7, s.rnd, s.evq, s.fresh, s.ul, s.al, s.bd, s.ag, s.ba, s.ig, s.rf, s.tb, s.pt, s.ck, s.hm, s.pe, s.xb, s.ev, s.sp, s.au, s.ot, s.cs, s.cf, s.mg, s.io⟩ M = s.blank M := by
  simp only [State.blank, h7, if_true]

theorem upd_rnd (M : Nat) (h8 : M.testBit 8 = true) (s : State) (x8 : Nat) :
    State.blank ⟨s.pending, s.part, s.csr, s.latch, s.resp, s.out, s.mem, s.bound, x8, s.evq, s.fresh, s.ul, s.al, s.bd, s.ag, s.ba, s.ig, s.rf, s.tb, s.pt, s.ck, s.hm, s.pe, s.xb, s.ev, s.sp, s.au, s.ot, s.cs, s.cf, s.mg, s.io⟩ M = s.blank M := by
  simp only [State.blank, h8, if_true]

theorem upd_evq (M : Nat) (h9 : M.testBit 9 = true) (s : State) (x9 : List (Nat × Nat)) :
    State.blank ⟨s.pending, s.part, s.csr, s.latch, s.resp, s.out, s.mem, s.bound, s.rnd, x9, s.fresh, s.ul, s.al, s.bd, s.ag, s.ba, s.ig, s.rf, s.tb, s.pt, s.ck, s.hm, s.pe, s.xb, s.ev, s.sp, s.au, s.ot, s.cs, s.cf, s.mg, s.io⟩ M = s.blank M := by
  simp only [State.blank, h9, if_true]

theorem upd_fresh (M : Nat) (h10 : M.testBit 10 = true) (s : State) (x10 : Nat) :
    State.blank ⟨s.pending, s.part, s.csr, s.latch, s.resp, s.out, s.mem, s.bound, s.rnd, s.evq, x10, s.ul, s.al, s.bd, s.ag, s.ba, s.ig, s.rf, s.tb, s.pt, s.ck, s.hm, s.pe, s.xb, s.ev, s.sp, s.au, s.ot, s.cs, s.cf, s.mg, s.io⟩ M = s.blank M := by
  simp only [State.blank, h10, if_true]

theorem upd_ul (M : Nat) (h11 : M.testBit 11 = true) (s : State) (x11 : UlState) :
    State.blank ⟨s.pending, s.part, s.csr, s.latch, s.resp, s.out, s.mem, s.bound, s.rnd, s.evq, s.fresh, x11, s.al, s.bd, s.ag, s.ba, s.ig, s.rf, s.tb, s.pt, s.ck, s.hm, s.pe, s.xb, s.ev, s.sp, s.au, s.ot, s.cs, s.cf, s.mg, s.io⟩ M = s.blank M := by
  simp only [State.blank, h11, if_true]

theorem upd_al (M : Nat) (h12 : M.testBit 12 = true) (s : State) (x12 : AlState) :
    State.blank ⟨s.pending, s.part, s.csr, s.latch, s.resp, s.out, s.mem, s.bound, s.rnd, s.evq, s.fresh, s.ul, x12, s.bd, s.ag, s.ba, s.ig, s.rf, s.tb, s.pt, s.ck, s.hm, s.pe, s.xb, s.ev, s.sp, s.au, s.ot, s.cs, s.cf, s.mg, s.io⟩ M = s.blank M := by
  simp only [State.blank, h12, if_true]

theorem upd_bd (M : Nat) (h13 : M.testBit 13 = true) (s : State) (x13 : BdState) :
    State.blank ⟨s.pending, s.part, s.csr, s.latch, s.resp, s.out, s.mem, s.bound, s.rnd, s.evq, s.fresh, s.ul, s.al, x13, s.ag, s.ba, s.ig, s.rf, s.tb, s.pt, s.ck, s.hm, s.pe, s.xb, s.ev, s.sp, s.au, s.ot, s.cs, s.cf, s.mg, s.io⟩ M = s.blank M := by
  simp only [State.blank, h13, if_true]

theorem upd_ag (M : Nat) (h14 : M.testBit 14 = true) (s : State) (x14 : AgState) :
    State.blank ⟨s.pending, s.part, s.csr, s.latch, s.resp, s.out, s.mem, s.bound, s.rnd, s.evq, s.fresh, s.ul, s.al, s.bd, x14, s.ba, s.ig, s.rf, s.tb, s.pt, s.ck, s.hm, s.pe, s.xb, s.ev, s.sp, s.au, s.ot, s.cs, s.cf, s.mg, s.io⟩ M = s.blank M := by
  simp only [State.blank, h14, if_true]

theorem upd_ba (M : Nat) (h15 : M.testBit 15 = true) (s : State) (x15 : BaState) :
    State.blank ⟨s.pending, s.part, s.csr, s.latch, s.resp, s.out, s.mem, s.bound, s.rnd, s.evq, s.fresh, s.ul, s.al, s.bd, s.ag, x15, s.ig, s.rf, s.tb, s.pt, s.ck, s.hm, s.pe, s.xb, s.ev, s.sp, s.au, s.ot, s.cs, s.cf, s.mg, s.io⟩ M = s.blank M := by
  simp only [State.blank, h15, if_true]

theorem upd_ig (M : Nat) (h16 : M.testBit 16 = true) (s : State) (x16 : IgState) :
    State.blank ⟨s.pending, s.part, s.csr, s.latch, s.resp, s.out, s.mem, s.bound, s.rnd, s.evq, s.fresh, s.ul, s.al, s.bd, s.ag, s.ba, x16, s.rf, s.tb, s.pt, s.ck, s.hm, s.pe, s.xb, s.ev, s.sp, s.au, s.ot, s.cs, s.cf, s.mg, s.io⟩ M = s.blank M := by
  simp only [State.blank, h16, if_true]

theorem upd_rf (M : Nat) (h17 : M.testBit 17 = true) (s : State) (x17 : RfState) :
    State.blank ⟨s.pending, s.part, s.csr, s.latch, s.resp, s.out, s.mem, s.bound, s.rnd, s.evq, s.fresh, s.ul, s.al, s.bd, s.ag, s.ba, s.ig, x17, s.tb, s.pt, s.ck, s.hm, s.pe, s.xb, s.ev, s.sp, s.au, s.ot, s.cs, s.cf, s.mg, s.io⟩ M = s.blank M := by
  simp only [State.blank, h17, if_true]

theorem upd_tb (M : Nat) (h18 : M.testBit 18 = true) (s : State) (x18 : TbState) :
    State.blank ⟨s.pending, s.part, s.csr, s.latch, s.resp, s.out, s.mem, s.bound, s.rnd, s.evq, s.fresh, s.ul, s.al, s.bd, s.ag, s.ba, s.ig, s.rf, x18, s.pt, s.ck, s.hm, s.pe, s.xb, s.ev, s.sp, s.au, s.ot, s.cs, s.cf, s.mg, s.io⟩ M = s.blank M := by
  simp only [State.blank, h18, if_true]

theorem upd_pt (M : Nat) (h19 : M.testBit 19 = true) (s : State) (x19 : PtState) :
    State.blank ⟨s.pending, s.part, s.csr, s.latch, s.resp, s.out, s.mem, s.bound, s.rnd, s.evq, s.fresh, s.ul, s.al, s.bd, s.ag, s.ba, s.ig, s.rf, s.tb, x19, s.ck, s.hm, s.pe, s.xb, s.ev, s.sp, s.au, s.ot, s.cs, s.cf, s.mg, s.io⟩ M = s.blank M := by
  simp only [State.blank, h19, if_true]

theorem upd_ck (M : Nat) (h20 : M.testBit 20 = true) (s : State) (x20 : CkState) :
    State.blank ⟨s.pending, s.part, s.csr, s.latch, s.resp, s.out, s.mem, s.bound, s.rnd, s.evq, s.fresh, s.ul, s.al, s.bd, s.ag, s.ba, s.ig, s.rf, s.tb, s.pt, x20, s.hm, s.pe, s.xb, s.ev, s.sp, s.au, s.ot, s.cs, s.cf, s.mg, s.io⟩ M = s.blank M := by
  simp only [State.blank, h20, if_true]

theorem upd_hm (M : Nat) (h21 : M.testBit 21 = true) (s : State) (x21 : HmState) :
    State.blank ⟨s.pending, s.part, s.csr, s.latch, s.resp, s.out, s.mem, s.bound, s.rnd, s.evq, s.fresh, s.ul, s.al, s.bd, s.ag, s.ba, s.ig, s.rf, s.tb, s.pt, s.ck, x21, s.pe, s.xb, s.ev, s.sp, s.au, s.ot, s.cs, s.cf, s.mg, s.io⟩ M = s.blank M := by
  simp only [State.blank, h21, if_true]

theorem upd_pe (M : Nat) (h22 : M.testBit 22 = true) (s : State) (x22 : PeState) :
    State.blank ⟨s.pending, s.part, s.csr, s.latch, s.resp, s.out, s.mem, s.bound, s.rnd, s.evq, s.fresh, s.ul, s.al, s.bd, s.ag, s.ba, s.ig, s.rf, s.tb, s.pt, s.ck, s.hm, x22, s.xb, s.ev, s.sp, s.au, s.ot, s.cs, s.cf, s.mg, s.io⟩ M = s.blank M := by
  simp only [State.blank, h22, if_true]

theorem upd_xb (M : Nat) (h23 : M.testBit 23 = true) (s : State) (x23 : XbState) :
    State.blank ⟨s.pending, s.part, s.csr, s.latch, s.resp, s.out, s.mem, s.bound, s.rnd, s.evq, s.fresh, s.ul, s.al, s.bd, s.ag, s.ba, s.ig, s.rf, s.tb, s.pt, s.ck, s.hm, s.pe, x23, s.ev, s.sp, s.au, s.ot, s.cs, s.cf, s.mg, s.io⟩ M = s.blank M := by
  simp only [State.blank, h23, if_true]

theorem upd_ev (M : Nat) (h24 : M.testBit 24 = true) (s : State) (x24 : EvState) :
    State.blank ⟨s.pending, s.part, s.csr, s.latch, s.resp, s.out, s.mem, s.bound, s.rnd, s.evq, s.fresh, s.ul, s.al, s.bd, s.ag, s.ba, s.ig, s.rf, s.tb, s.pt, s.ck, s.hm, s.pe, s.xb, x24, s.sp, s.au, s.ot, s.cs, s.cf, s.mg, s.io⟩ M = s.blank M := by
  simp only [State.blank, h24, if_true]

theorem upd_sp (M : Nat) (h25 : M.testBit 25 = true) (s : State) (x25 : SpState) :
    State.blank ⟨s.pending, s.part, s.csr, s.latch, s.resp, s.out, s.mem, s.bound, s.rnd, s.evq, s.fresh, s.ul, s.al, s.bd, s.ag, s.ba, s.ig, s.rf, s.tb, s.pt, s.ck, s.hm, s.pe, s.xb, s.ev, x25, s.au, s.ot, s.cs, s.cf, s.mg, s.io⟩ M = s.blank M := by
  simp only [State.blank, h25, if_true]

theorem upd_au (M : Nat) (h26 : M.testBit 26 = true) (s : State) (x26 : AuState) :
    State.blank ⟨s.pending, s.part, s.csr, s.latch, s.resp, s.out, s.mem, s.bound, s.rnd, s.evq, s.fresh, s.ul, s.al, s.bd, s.ag, s.ba, s.ig, s.rf, s.tb, s.pt, s.ck, s.hm, s.pe, s.xb, s.ev, s.sp, x26, s.ot, s.cs, s.cf, s.mg, s.io⟩ M = s.blank M := by
  simp only [State.blank, h26, if_true]

theorem upd_ot (M : Nat) (h27 : M.testBit 27 = true) (s : State) (x27 : OtState) :
    State.blank ⟨s.pending, s.part, s.csr, s.latch, s.resp, s.out, s.mem, s.bound, s.rnd, s.evq, s.fresh, s.ul, s.al, s.bd, s.ag, s.ba, s.ig, s.rf, s.tb, s.pt, s.ck, s.hm, s.pe, s.xb, s.ev, s.sp, s.au, x27, s.cs, s.cf, s.mg, s.io⟩ M = s.blank M := by
  simp only [State.blank, h27, if_true]

theorem upd_cs (M : Nat) (h28 : M.testBit 28 = true) (s : State) (x28 : CsState) :
    State.blank ⟨s.pending, s.part, s.csr, s.latch, s.resp, s.out, s.mem, s.bound, s.rnd, s.evq, s.fresh, s.ul, s.al, s.bd, s.ag, s.ba, s.ig, s.rf, s.tb, s.pt, s.ck, s.hm, s.pe, s.xb, s.ev, s.sp, s.au, s.ot, x28, s.cf, s.mg, s.io⟩ M = s.blank M := by
  simp only [State.blank, h28, if_true]

theorem upd_cf (M : Nat) (h29 : M.testBit 29 = true) (s : State) (x29 : CfState) :
    State.blank ⟨s.pending, s.part, s.csr, s.latch, s.resp, s.out, s.mem, s.bound, s.rnd, s.evq, s.fresh, s.ul, s.al, s.bd, s.ag, s.ba, s.ig, s.rf, s.tb, s.pt, s.ck, s.hm, s.pe, s.xb, s.ev, s.sp, s.au, s.ot, s.cs, x29, s.mg, s.io⟩ M = s.blank M := by
  simp only [State.blank, h29, if_true]

theorem upd_mg (M : Nat) (h30 : M.testBit 30 = true) (s : State) (x30 : MgState) :
    State.blank ⟨s.pending, s.part, s.csr, s.latch, s.resp, s.out, s.mem, s.bound, s.rnd, s.evq, s.fresh, s.ul, s.al, s.bd, s.ag, s.ba, s.ig, s.rf, s.tb, s.pt, s.ck, s.hm, s.pe, s.xb, s.ev, s.sp, s.au, s.ot, s.cs, s.cf, x30, s.io⟩ M = s.blank M := by
  simp only [State.blank, h30, if_true]

theorem upd_io (M : Nat) (h31 : M.testBit 31 = true) (s : State) (x31 : IoState) :
    State.blank ⟨s.pending, s.part, s.csr, s.latch, s.resp, s.out, s.mem, s.bound, s.rnd, s.evq, s.fresh, s.ul, s.al, s.bd, s.ag, s.ba, s.ig, s.rf, s.tb, s.pt, s.ck, s.hm, s.pe, s.xb, s.ev, s.sp, s.au, s.ot, s.cs, s.cf, s.mg, x31⟩ M = s.blank M := by
  simp only [State.blank, h31, if_true]

theorem upd_al_ot (M : Nat) (h12 : M.testBit 12 = true) (h27 : M.testBit 27 = true) (s : State) (x12 : AlState) (x27 : OtState) :
    State.blank ⟨s.pending, s.part, s.csr, s.latch, s.resp, s.out, s.mem, s.bound, s.rnd, s.evq, s.fresh, s.ul, x12, s.bd, s.ag, s.ba, s.ig, s.rf, s.tb, s.pt, s.ck, s.hm, s.pe, s.xb, s.ev, s.sp, s.au, x27, s.cs, s.cf, s.mg, s.io⟩ M = s.blank M := by
  simp only [State.blank, h12, h27, if_true]

theorem upd_bd_ba (M : Nat) (h13 : M.testBit 13 = true) (h15 : M.testBit 15 = true) (s : State) (x13 : BdState) (x15 : BaState) :
    State.blank ⟨s.pending, s.part, s.csr, s.latch, s.resp, s.out, s.mem, s.bound, s.rnd, s.evq, s.fresh, s.ul, s.al, x13, s.ag, x15, s.ig, s.rf, s.tb, s.pt, s.ck, s.hm, s.pe, s.xb, s.ev, s.sp, s.au, s.ot, s.cs, s.cf, s.mg, s.io⟩ M = s.blank M := by
  simp only [State.blank, h13, h15, if_true]

theorem upd_resp_bd_ba (M : Nat) (h4 : M.testBit 4 = true) (h13 : M.testBit 13 = true) (h15 : M.testBit 15 = true) (s : State) (x4 : Resp) (x13 : BdState) (x15 : BaState) :
    State.blank ⟨s.pending, s.part, s.csr, s.latch, x4, s.out, s.mem, s.bound, s.rnd, s.evq, s.fresh, s.ul, s.al, x13, s.ag, x15, s.ig, s.rf, s.tb, s.pt, s.ck, s.hm, s.pe, s.xb, s.ev, s.sp, s.au, s.ot, s.cs, s.cf, s.mg, s.io⟩ M = s.blank M := by
  simp only [State.blank, h4, h13, h15, if_true]

theorem upd_ot_cs (M : Nat) (h27 : M.testBit 27 = true) (h28 : M.testBit 28 = true) (s : State) (x27 : OtState) (x28 : CsState) :
    State.blank ⟨s.pending, s.part, s.csr, s.latch, s.resp, s.out, s.mem, s.bound, s.rnd, s.evq, s.fresh, s.ul, s.al, s.bd, s.ag, s.ba, s.ig, s.rf, s.tb, s.pt, s.ck, s.hm, s.pe, s.xb, s.ev, s.sp, s.au, x27, x28, s.cf, s.mg, s.io⟩ M = s.blank M := by
  simp only [State.blank, h27, h28, if_true]

theorem upd_bound_ag (M : Nat) (h7 : M.testBit 7 = true) (h14 : M.testBit 14 = true) (s : State) (x7 : List (Nat × Change)) (x14 : AgState) :
    State.blank ⟨s.pending, s.part, s.csr, s.latch, s.resp, s.out, s.mem, x7, s.rnd, s.evq, s.fresh, s.ul, s.al, s.bd, x14, s.ba, s.ig, s.rf, s.tb, s.pt, s.ck, s.hm, s.pe, s.xb, s.ev, s.sp, s.au, s.ot, s.cs, s.cf, s.mg, s.io⟩ M = s.blank M := by
  simp only [State.blank, h7, h14, if_true]

theorem upd_evq_ev (M : Nat) (h9 : M.testBit 9 = true) (h24 : M.testBit 24 = true) (s : State) (x9 : List (Nat × Nat)) (x24 : EvState) :
    State.blank ⟨s.pending, s.part, s.csr, s.latch, s.resp, s.out, s.mem, s.bound, s.rnd, x9, s.fresh, s.ul, s.al, s.bd, s.ag, s.ba, s.ig, s.rf, s.tb, s.pt, s.ck, s.hm, s.pe, s.xb, x24, s.sp, s.au, s.ot, s.cs, s.cf, s.mg, s.io⟩ M = s.blank M := by
  simp only [State.blank, h9, h24, if_true]

theorem upd_ba_ot (M : Nat) (h15 : M.testBit 15 = true) (h27 : M.testBit 27 = true) (s : State) (x15 : BaState) (x27 : OtState) :
    State.blank ⟨s.pending, s.part, s.csr, s.latch, s.resp, s.out, s.mem, s.bound, s.rnd, s.evq, s.fresh, s.ul, s.al, s.bd, s.ag, x15, s.ig, s.rf, s.tb, s.pt, s.ck, s.hm, s.pe, s.xb, s.ev, s.sp, s.au, x27, s.cs, s.cf, s.mg, s.io⟩ M = s.blank M := by
  simp only [State.blank, h15, h27, if_true]

theorem upd_al_ba (M : Nat) (h12 : M.testBit 12 = true) (h15 : M.testBit 15 = true) (s : State) (x12 : AlState) (x15 : BaState) :
    State.blank ⟨s.pending, s.part, s.csr, s.latch, s.resp, s.out, s.mem, s.bound, s.rnd, s.evq, s.fresh, s.ul, x12, s.bd, s.ag, x15, s.ig, s.rf, s.tb, s.pt, s.ck, s.hm, s.pe, s.xb, s.ev, s.sp, s.au, s.ot, s.cs, s.cf, s.mg, s.io⟩ M = s.blank M := by
  simp only [State.blank, h12, h15, if_true]

theorem upd_ag_ot (M : Nat) (h14 : M.testBit 14 = true) (h27 : M.testBit 27 = true) (s : State) (x14 : AgState) (x27 : OtState) :
    State.blank ⟨s.pending, s.part, s.csr, s.latch, s.resp, s.out, s.mem, s.bound, s.rnd, s.evq, s.fresh, s.ul, s.al, s.bd, x14, s.ba, s.ig, s.rf, s.tb, s.pt, s.ck, s.hm, s.pe, s.xb, s.ev, s.sp, s.au, x27, s.cs, s.cf, s.mg, s.io⟩ M = s.blank M := by
  simp only [State.blank, h14, h27, if_true]

theorem upd_ag_cs (M : Nat) (h14 : M.testBit 14 = true) (h28 : M.testBit 28 = true) (s : State) (x14 : AgState) (x28 : CsState) :
    State.blank ⟨s.pending, s.part, s.csr, s.latch, s.resp, s.out, s.mem, s.bound, s.rnd, s.evq, s.fresh, s.ul, s.al, s.bd, x14, s.ba, s.ig, s.rf, s.tb, s.pt, s.ck, s.hm, s.pe, s.xb, s.ev, s.sp, s.au, s.ot, x28, s.cf, s.mg, s.io⟩ M = s.blank M := by
  simp only [State.blank, h14, h28, if_true]

theorem upd_ig_ot (M : Nat) (h16 : M.testBit 16 = true) (h27 : M.testBit 27 = true) (s : State) (x16 : IgState) (x27 : OtState) :
    State.blank ⟨s.pending, s.part, s.csr, s.latch, s.resp, s.out, s.mem, s.bound, s.rnd, s.evq, s.fresh, s.ul, s.al, s.bd, s.ag, s.ba, x16, s.rf, s.tb, s.pt, s.ck, s.hm, s.pe, s.xb, s.ev, s.sp, s.au, x27, s.cs, s.cf, s.mg, s.io⟩ M = s.blank M := by
  simp only [State.blank, h16, h27, if_true]

theorem upd_ul_al (M : Nat) (h11 : M.testBit 11 = true) (h12 : M.testBit 12 = true) (s : State) (x11 : UlState) (x12 : AlState) :
    State.blank ⟨s.pending, s.part, s.csr, s.latch, s.resp, s.out, s.mem, s.bound, s.rnd, s.evq, s.fresh, x11, x12, s.bd, s.ag, s.ba, s.ig, s.rf, s.tb, s.pt, s.ck, s.hm, s.pe, s.xb, s.ev, s.sp, s.au, s.ot, s.cs, s.cf, s.mg, s.io⟩ M = s.blank M := by
  simp only [State.blank, h11, h12, if_true]

theorem upd_bound_rnd (M : Nat) (h7 : M.testBit 7 = true) (h8 : M.testBit 8 = true) (s : State) (x7 : List (Nat × Change)) (x8 : Nat) :
    State.blank ⟨s.pending, s.part, s.csr, s.latch, s.resp, s.out, s.mem, x7, x8, s.evq, s.fresh, s.ul, s.al, s.bd, s.ag, s.ba, s.ig, s.rf, s.tb, s.pt, s.ck, s.hm, s.pe, s.xb, s.ev, s.sp, s.au, s.ot, s.cs, s.cf, s.mg, s.io⟩ M = s.blank M := by
  simp only [State.blank, h7, h8, if_true]

theorem upd_ig_hm (M : Nat) (h16 : M.testBit 16 = true) (h21 : M.testBit 21 = true) (s : State) (x16 : IgState) (x21 : HmState) :
    State.blank ⟨s.pending, s.part, s.csr, s.latch, s.resp, s.out, s.mem, s.bound, s.rnd, s.evq, s.fresh, s.ul, s.al, s.bd, s.ag, s.ba, x16, s.rf, s.tb, s.pt, s.ck, x21, s.pe, s.xb, s.ev, s.sp, s.au, s.ot, s.cs, s.cf, s.mg, s.io⟩ M = s.blank M := by
  simp only [State.blank, h16, h21, if_true]

theorem upd_ig_cf (M : Nat) (h16 : M.testBit 16 = true) (h29 : M.testBit 29 = true) (s : State) (x16 : IgState) (x29 : CfState) :
    State.blank ⟨s.pending, s.part, s.csr, s.latch, s.resp, s.out, s.mem, s.bound, s.rnd, s.evq, s.fresh, s.ul, s.al, s.bd, s.ag, s.ba, x16, s.rf, s.tb, s.pt, s.ck, s.hm, s.pe, s.xb, s.ev, s.sp, s.au, s.ot, s.cs, x29, s.mg, s.io⟩ M = s.blank M := by
  simp only [State.blank, h16, h29, if_true]

theorem upd_ba_ig (M : Nat) (h15 : M.testBit 15 = true) (h16 : M.testBit 16 = true) (s : State) (x15 : BaState) (x16 : IgState) :
    State.blank ⟨s.pending, s.part, s.csr, s.latch, s.resp, s.out, s.mem, s.bound, s.rnd, s.evq, s.fresh, s.ul, s.al, s.bd, s.ag, x15, x16, s.rf, s.tb, s.pt, s.ck, s.hm, s.pe, s.xb, s.ev, s.sp, s.au, s.ot, s.cs, s.cf, s.mg, s.io⟩ M = s.blank M := by
  simp only [State.blank, h15, h16, if_true]

theorem upd_ck_cf (M : Nat) (h20 : M.testBit 20 = true) (h29 : M.testBit 29 = true) (s : State) (x20 : CkState) (x29 : CfState) :
    State.blank ⟨s.pending, s.part, s.csr, s.latch, s.resp, s.out, s.mem, s.bound, s.rnd, s.evq, s.fresh, s.ul, s.al, s.bd, s.ag, s.ba, s.ig, s.rf, s.tb, s.pt, x20, s.hm, s.pe, s.xb, s.ev, s.sp, s.au, s.ot, s.cs, x29, s.mg, s.io⟩ M = s.blank M := by
  simp only [State.blank, h20, h29, if_true]

theorem upd_ag_mg (M : Nat) (h14 : M.testBit 14 = true) (h30 : M.testBit 30 = true) (s : State) (x14 : AgState) (x30 : MgState) :
    State.blank ⟨s.pending, s.part, s.csr, s.latch, s.resp, s.out, s.mem, s.bound, s.rnd, s.evq, s.fresh, s.ul, s.al, s.bd, x14, s.ba, s.ig, s.rf, s.tb, s.pt, s.ck, s.hm, s.pe, s.xb, s.ev, s.sp, s.au, s.ot, s.cs, s.cf, x30, s.io⟩ M = s.blank M := by
  simp only [State.blank, h14, h30, if_true]

theorem upd_ul_al_bd_ba (M : Nat) (h11 : M.testBit 11 = true) (h12 : M.testBit 12 = true) (h13 : M.testBit 13 = true) (h15 : M.testBit 15 = true) (s : State) (x11 : UlState) (x12 : AlState) (x13 : BdState) (x15 : BaState) :
    State.blank ⟨s.pending, s.part, s.csr, s.latch, s.resp, s.out, s.mem, s.bound, s.rnd, s.evq, s.fresh, x11, x12, x13, s.ag, x15, s.ig, s.rf, s.tb, s.pt, s.ck, s.hm, s.pe, s.xb, s.ev, s.sp, s.au, s.ot, s.cs, s.cf, s.mg, s.io⟩ M = s.blank M := by
  simp only [State.blank, h11, h12, h13, h15, if_true]

theorem upd_al_bound (M : Nat) (h12 : M.testBit 12 = true) (h7 : M.testBit 7 = true) (s : State) (x12 : AlState) (x7 : List (Nat × Change)) :
    State.blank ⟨s.pending, s.part, s.csr, s.latch, s.resp, s.out, s.mem, x7, s.rnd, s.evq, s.fresh, s.ul, x12, s.bd, s.ag, s.ba, s.ig, s.rf, s.tb, s.pt, s.ck, s.hm, s.pe, s.xb, s.ev, s.sp, s.au, s.ot, s.cs, s.cf, s.mg, s.io⟩ M = s.blank M := by
  simp only [State.blank, h12, h7, if_true]

theorem upd_bd_bound (M : Nat) (h13 : M.testBit 13 = true) (h7 : M.testBit 7 = true) (s : State) (x13 : BdState) (x7 : List (Nat × Change)) :
    State.blank ⟨s.pending, s.part, s.csr, s.latch, s.resp, s.out, s.mem, x7, s.rnd, s.evq, s.fresh, s.ul, s.al, x13, s.ag, s.ba, s.ig, s.rf, s.tb, s.pt, s.ck, s.hm, s.pe, s.xb, s.ev, s.sp, s.au, s.ot, s.cs, s.cf, s.mg, s.io⟩ M = s.blank M := by
  simp only [State.blank, h13, h7, if_true]

theorem upd_ba_bound (M : Nat) (h15 : M.testBit 15 = true) (h7 : M.testBit 7 = true) (s : State) (x15 : BaState) (x7 : List (Nat × Change)) :
    State.blank ⟨s.pending, s.part, s.csr, s.latch, s.resp, s.out, s.mem, x7, s.rnd, s.evq, s.fresh, s.ul, s.al, s.bd, s.ag, x15, s.ig, s.rf, s.tb, s.pt, s.ck, s.hm, s.pe, s.xb, s.ev, s.sp, s.au, s.ot, s.cs, s.cf, s.mg, s.io⟩ M = s.blank M := by
  simp only [State.blank, h15, h7, if_true]

theorem upd_ot_pt (M : Nat) (h27 : M.testBit 27 = true) (h19 : M.testBit 19 = true) (s : State) (x27 : OtState) (x19 : PtState) :
    State.blank ⟨s.pending, s.part, s.csr, s.latch, s.resp, s.out, s.mem, s.bound, s.rnd, s.evq, s.fresh, s.ul, s.al, s.bd, s.ag, s.ba, s.ig, s.rf, s.tb, x19, s.ck, s.hm, s.pe, s.xb, s.ev, s.sp, s.au, x27, s.cs, s.cf, s.mg, s.io⟩ M = s.blank M := by
  simp only [State.blank, h27, h19, if_true]

theorem upd_mem_hm_ag_mg (M : Nat) (h6 : M.testBit 6 = true) (h21 : M.testBit 21 = true) (h14 : M.testBit 14 = true) (h30 : M.testBit 30 = true) (s : State) (x6 : Memory) (x21 : HmState) (x14 : AgState) (x30 : MgState) :
    State.blank ⟨s.pending, s.part, s.csr, s.latch, s.resp, s.out, x6, s.bound, s.rnd, s.evq, s.fresh, s.ul, s.al, s.bd, x14, s.ba, s.ig, s.rf, s.tb, s.pt, s.ck, x21, s.pe, s.xb, s.ev, s.sp, s.au, s.ot, s.cs, s.cf, x30, s.io⟩ M = s.blank M := by
  simp only [State.blank, h6, h21, h14, h30, if_true]

theorem upd_csr_tb_io (M : Nat) (h2 : M.testBit 2 = true) (h18 : M.testBit 18 = true) (h31 : M.testBit 31 = true) (s : State) (x2 : SMap Word) (x18 : TbState) (x31 : IoState) :
    State.blank ⟨s.pending, s.part, x2, s.latch, s.resp, s.out, s.mem, s.bound, s.rnd, s.evq, s.fresh, s.ul, s.al, s.bd, s.ag, s.ba, s.ig, s.rf, x18, s.pt, s.ck, s.hm, s.pe, s.xb, s.ev, s.sp, s.au, s.ot, s.cs, s.cf, s.mg, x31⟩ M = s.blank M := by
  simp only [State.blank, h2, h18, h31, if_true]

theorem pending_of_blank {M : Nat} {s t : State} (e : t.blank M = s.blank M) (h : M.testBit 0 = false) : t.pending = s.pending := by
  simpa only [State.blank, h, Bool.false_eq_true, if_false] using congrArg State.pending e

theorem part_of_blank {M : Nat} {s t : State} (e : t.blank M = s.blank M) (h : M.testBit 1 = false) : t.part = s.part := by
  simpa only [State.blank, h, Bool.false_eq_true, if_false] using congrArg State.part e

theorem csr_of_blank {M : Nat} {s t : State} (e : t.blank M = s.blank M) (h : M.testBit 2 = false) : t.csr = s.csr := by
  simpa only [State.blank, h, Bool.false_eq_true, if_false] using congrArg State.csr e

theorem latch_of_blank {M : Nat} {s t : State} (e : t.blank M = s.blank M) (h : M.testBit 3 = false) : t.latch = s.latch := by
  simpa only [State.blank, h, Bool.false_eq_true, if_false] using congrArg State.latch e

theorem resp_of_blank {M : Nat} {s t : State} (e : t.blank M = s.blank M) (h : M.testBit 4 = false) : t.resp = s.resp := by
  simpa only [State.blank, h, Bool.false_eq_true, if_false] using congrArg State.resp e

theorem out_of_blank {M : Nat} {s t : State} (e : t.blank M = s.blank M) (h : M.testBit 5 = false) : t.out = s.out := by
  simpa only [State.blank, h, Bool.false_eq_true, if_false] using congrArg State.out e

theorem mem_of_blank {M : Nat} {s t : State} (e : t.blank M = s.blank M) (h : M.testBit 6 = false) : t.mem = s.mem := by
  simpa only [State.blank, h, Bool.false_eq_true, if_false] using congrArg State.mem e

theorem bound_of_blank {M : Nat} {s t : State} (e : t.blank M = s.blank M) (h : M.testBit 7 = false) : t.bound = s.bound := by
  simpa only [State.blank, h, Bool.false_eq_true, if_false] using congrArg State.bound e

theorem rnd_of_blank {M : Nat} {s t : State} (e : t.blank M = s.blank M) (h : M.testBit 8 = false) : t.rnd = s.rnd := by
  simpa only [State.blank, h, Bool.false_eq_true, if_false] using congrArg State.rnd e

theorem evq_of_blank {M : Nat} {s t : State} (e : t.blank M = s.blank M) (h : M.testBit 9 = false) : t.evq = s.evq := by
  simpa only [State.blank, h, Bool.false_eq_true, if_false] using congrArg State.evq e

theorem fresh_of_blank {M : Nat} {s t : State} (e : t.blank M = s.blank M) (h : M.testBit 10 = false) : t.fresh = s.fresh := by
  simpa only [State.blank, h, Bool.false_eq_true, if_false] using congrArg State.fresh e

theorem ul_of_blank {M : Nat} {s t : State} (e : t.blank M = s.blank M) (h : M.testBit 11 = false) : t.ul = s.ul := by
  simpa only [State.blank, h, Bool.false_eq_true, if_false] using congrArg State.ul e

theorem al_of_blank {M : Nat} {s t : State} (e : t.blank M = s.blank M) (h : M.testBit 12 = false) : t.al = s.al := by
  simpa only [State.blank, h, Bool.false_eq_true, if_false] using congrArg State.al e

theorem bd_of_blank {M : Nat} {s t : State} (e : t.blank M = s.blank M) (h : M.testBit 13 = false) : t.bd = s.bd := by
  simpa only [State.blank, h, Bool.false_eq_true, if_false] using congrArg State.bd e

theorem ag_of_blank {M : Nat} {s t : State} (e : t.blank M = s.blank M) (h : M.testBit 14 = false) : t.ag = s.ag := by
  simpa only [State.blank, h, Bool.false_eq_true, if_false] using congrArg State.ag e

theorem ba_of_blank {M : Nat} {s t : State} (e : t.blank M = s.blank M) (h : M.testBit 15 = false) : t.ba = s.ba := by
  simpa only [State.blank, h, Bool.false_eq_true, if_false] using congrArg State.ba e

theorem ig_of_blank {M : Nat} {s t : State} (e : t.blank M = s.blank M) (h : M.testBit 16 = false) : t.ig = s.ig := by
  simpa only [State.blank, h, Bool.false_eq_true, if_false] using congrArg State.ig e

theorem rf_of_blank {M : Nat} {s t : State} (e : t.blank M = s.blank M) (h : M.testBit 17 = false) : t.rf = s.rf := by
  simpa only [State.blank, h, Bool.false_eq_true, if_false] using congrArg State.rf e

theorem tb_of_blank {M : Nat} {s t : State} (e : t.blank M = s.blank M) (h : M.testBit 18 = false) : t.tb = s.tb := by
  simpa only [State.blank, h, Bool.false_eq_true, if_false] using congrArg State.tb e

theorem pt_of_blank {M : Nat} {s t : State} (e : t.blank M = s.blank M) (h : M.testBit 19 = false) : t.pt = s.pt := by
  simpa only [State.blank, h, Bool.false_eq_true, if_false] using congrArg State.pt e

theorem ck_of_blank {M : Nat} {s t : State} (e : t.blank M = s.blank M) (h : M.testBit 20 = false) : t.ck = s.ck := by
  simpa only [State.blank, h, Bool.false_eq_true, if_false] using congrArg State.ck e

theorem hm_of_blank {M : Nat} {s t : State} (e : t.blank M = s.blank M) (h : M.testBit 21 = false) : t.hm = s.hm := by
  simpa only [State.blank, h, Bool.false_eq_true, if_false] using congrArg State.hm e

theorem pe_of_blank {M : Nat} {s t : State} (e : t.blank M = s.blank M) (h : M.testBit 22 = false) : t.pe = s.pe := by
  simpa only [State.blank, h, Bool.false_eq_true, if_false] using congrArg State.pe e

theorem xb_of_blank {M : Nat} {s t : State} (e : t.blank M = s.blank M) (h : M.testBit 23 = false) : t.xb = s.xb := by
  simpa only [State.blank, h, Bool.false_eq_true, if_false] using congrArg State.xb e

theorem ev_of_blank {M : Nat} {s t : State} (e : t.blank M = s.blank M) (h : M.testBit 24 = false) : t.ev = s.ev := by
  simpa only [State.blank, h, Bool.false_eq_true, if_false] using congrArg State.ev e

theorem sp_of_blank {M : Nat} {s t : State} (e : t.blank M = s.blank M) (h : M.testBit 25 = false) : t.sp = s.sp := by
  simpa only [State.blank, h, Bool.false_eq_true, if_false] using congrArg State.sp e

theorem au_of_blank {M : Nat} {s t : State} (e : t.blank M = s.blank M) (h : M.testBit 26 = false) : t.au = s.au := by
  simpa only [State.blank, h, Bool.false_eq_true, if_false] using congrArg State.au e

theorem ot_of_blank {M : Nat} {s t : State} (e : t.blank M = s.blank M) (h : M.testBit 27 = false) : t.ot = s.ot := by
  simpa only [State.blank, h, Bool.false_eq_true, if_false] using congrArg State.ot e

theorem cs_of_blank {M : Nat} {s t : State} (e : t.blank M = s.blank M) (h : M.testBit 28 = false) : t.cs = s.cs := by
  simpa only [State.blank, h, Bool.false_eq_true, if_false] using congrArg State.cs e

theorem cf_of_blank {M : Nat} {s t : State} (e : t.blank M = s.blank M) (h : M.testBit 29 = false) : t.cf = s.cf := by
  simpa only [State.blank, h, Bool.false_eq_true, if_false] using congrArg State.cf e

theorem mg_of_blank {M : Nat} {s t : State} (e : t.blank M = s.blank M) (h : M.testBit 30 = false) : t.mg = s.mg := by
  simpa only [State.blank, h, Bool.false_eq_true, if_false] using congrArg State.mg e

theorem io_of_blank {M : Nat} {s t : State} (e : t.blank M = s.blank M) (h : M.testBit 31 = false) : t.io = s.io := by
  simpa only [State.blank, h, Bool.false_eq_true, if_false] using congrArg State.io e

end Sys2Proof.Machine
end

