-- ==== Sys2Proof/Laws/SMap.lean ====
section
/-! SUPPORT. Laws of sparse maps: read after write, and every operation keeps the canonical form. -/

namespace Sys2Proof.Machine

variable {α : Type}

theorem smapFind_erase_same (m : SMap α) (a : Nat) : smapFind (smapErase m a) a = none := by
  induction m with
  | nil => rfl
  | cons p r ih =>
    obtain ⟨k, v⟩ := p
    by_cases h : k = a
    · simpa [smapErase, h] using ih
    · simpa [smapErase, h, smapFind] using ih

theorem smapFind_erase_ne (m : SMap α) {a b : Nat} (h : b ≠ a) :
    smapFind (smapErase m a) b = smapFind m b := by
  induction m with
  | nil => rfl
  | cons p r ih =>
    obtain ⟨k, v⟩ := p
    by_cases hk : k = a
    · subst hk
      have : ¬ k = b := fun e => h e.symm
      simpa [smapErase, smapFind, this] using ih
    · by_cases hb : k = b
      · simp [smapErase, smapFind, hk, hb, h]
      · simpa [smapErase, smapFind, hk, hb] using ih

theorem smapFind_insert_ne (m : SMap α) {a b : Nat} (v : α) (h : b ≠ a) :
    smapFind (smapInsert a v m) b = smapFind m b := by
  induction m with
  | nil => simp [smapInsert, smapFind, Ne.symm h]
  | cons p r ih =>
    obtain ⟨k, w⟩ := p
    by_cases hk : a < k
    · simp [smapInsert, hk, smapFind, Ne.symm h]
    · simp only [smapInsert, hk, if_false, smapFind]
      split <;> simp_all

theorem smapFind_insert_same (m : SMap α) (a : Nat) (v : α) (h : smapFind m a = none) :
    smapFind (smapInsert a v m) a = some v := by
  induction m with
  | nil => simp [smapInsert, smapFind]
  | cons p r ih =>
    obtain ⟨k, w⟩ := p
    have hk : ¬ k = a := by
      intro e
      simp [smapFind, e] at h
    have hr : smapFind r a = none := by simpa [smapFind, hk] using h
    by_cases hlt : a < k
    · simp [smapInsert, hlt, smapFind]
    · simp [smapInsert, hlt, smapFind, hk, ih hr]

/-- Reading what was just written. -/
@[simp] theorem smapGet_set_same [DecidableEq α] (d : α) (m : SMap α) (a : Nat) (v : α) :
    smapGet d (smapSet d m a v) a = v := by
  unfold smapGet smapSet
  split
  · next h => simp [smapFind_erase_same, h]
  · simp [smapFind_insert_same _ _ _ (smapFind_erase_same m a)]

/-- A write leaves every other key alone; the defaults of the two keys need not agree. -/
theorem smapGet_set_ne [DecidableEq α] (d e : α) (m : SMap α) {a b : Nat} (v : α) (h : b ≠ a) :
    smapGet e (smapSet d m a v) b = smapGet e m b := by
  unfold smapGet smapSet
  split
  · simp [smapFind_erase_ne m h]
  · simp [smapFind_insert_ne _ v h, smapFind_erase_ne m h]

theorem smapInsert_mem (a : Nat) (v : α) (m : SMap α) (p : Nat × α) :
    p ∈ smapInsert a v m ↔ p = (a, v) ∨ p ∈ m := by
  induction m with
  | nil => simp [smapInsert]
  | cons q r ih =>
    by_cases h : a < q.1
    · simp [smapInsert, h]
    · simp only [smapInsert, h, if_false, List.mem_cons, ih]
      tauto

theorem smapInsert_sorted (a : Nat) (v : α) (m : SMap α) (hm : m.Pairwise (fun p q => p.1 < q.1))
    (ha : ∀ p ∈ m, p.1 ≠ a) : (smapInsert a v m).Pairwise (fun p q => p.1 < q.1) := by
  induction m with
  | nil => simp [smapInsert]
  | cons q r ih =>
    obtain ⟨hq, hr⟩ := List.pairwise_cons.1 hm
    by_cases h : a < q.1
    · simp only [smapInsert, h, if_true]
      refine List.pairwise_cons.2 ⟨?_, hm⟩
      intro p hp
      rcases List.mem_cons.1 hp with rfl | hp
      · exact h
      · exact lt_trans h (hq p hp)
    · simp only [smapInsert, h, if_false]
      refine List.pairwise_cons.2 ⟨?_, ih hr (fun p hp => ha p (List.mem_cons_of_mem _ hp))⟩
      intro p hp
      rcases (smapInsert_mem a v r p).1 hp with rfl | hp
      · exact lt_of_le_of_ne (not_lt.1 h) (ha q List.mem_cons_self)
      · exact hq p hp

/-- A write keeps the canonical form, when it is made with the key's own default. -/
theorem smapSet_wf [DecidableEq α] (d : Nat → α) (m : SMap α) (a : Nat) (v : α) (h : smapWf d m = true) :
    smapWf d (smapSet (d a) m a v) = true := by
  simp only [smapWf, Bool.and_eq_true, decide_eq_true_eq, List.all_eq_true] at h ⊢
  obtain ⟨hs, hd⟩ := h
  have hes : (smapErase m a).Pairwise (fun p q => p.1 < q.1) := hs.filter _
  have hed : ∀ p ∈ smapErase m a, p.2 ≠ d p.1 := fun p hp => by
    simpa using hd p (List.mem_of_mem_filter hp)
  have hne : ∀ p ∈ smapErase m a, p.1 ≠ a := fun p hp => by
    simpa using (List.mem_filter.1 hp).2
  unfold smapSet
  split
  · exact ⟨hes, fun p hp => by simpa using hed p hp⟩
  · next hv =>
    refine ⟨smapInsert_sorted a v _ hes hne, fun p hp => ?_⟩
    rcases (smapInsert_mem a v _ p).1 hp with rfl | hp
    · simpa using hv
    · simpa using hed p hp

theorem smapWf_nil [DecidableEq α] (d : Nat → α) : smapWf d ([] : SMap α) = true := rfl

end Sys2Proof.Machine
end

