-- ==== Sys2Proof/Laws/State.lean ====
section
/-! SUPPORT. The small lemmas of the shared updates of the state: for each update, every field it leaves alone; and
reading a register, a field or a byte after each of them. -/

namespace Sys2Proof.Machine

variable (s : State)

/-! ## What each update leaves alone -/

@[simp] theorem State.setWord_pending (a : Nat) (v : Word) : (s.setWord a v).pending = s.pending := rfl
@[simp] theorem State.setWord_part (a : Nat) (v : Word) : (s.setWord a v).part = s.part := rfl
@[simp] theorem State.setWord_latch (a : Nat) (v : Word) : (s.setWord a v).latch = s.latch := rfl
@[simp] theorem State.setWord_resp (a : Nat) (v : Word) : (s.setWord a v).resp = s.resp := rfl
@[simp] theorem State.setWord_out (a : Nat) (v : Word) : (s.setWord a v).out = s.out := rfl
@[simp] theorem State.setWord_mem (a : Nat) (v : Word) : (s.setWord a v).mem = s.mem := rfl
@[simp] theorem State.setWord_bound (a : Nat) (v : Word) : (s.setWord a v).bound = s.bound := rfl
@[simp] theorem State.setWord_rnd (a : Nat) (v : Word) : (s.setWord a v).rnd = s.rnd := rfl
@[simp] theorem State.setWord_evq (a : Nat) (v : Word) : (s.setWord a v).evq = s.evq := rfl
@[simp] theorem State.setWord_fresh (a : Nat) (v : Word) : (s.setWord a v).fresh = s.fresh := rfl
@[simp] theorem State.setWord_ul (a : Nat) (v : Word) : (s.setWord a v).ul = s.ul := rfl
@[simp] theorem State.setWord_al (a : Nat) (v : Word) : (s.setWord a v).al = s.al := rfl
@[simp] theorem State.setWord_bd (a : Nat) (v : Word) : (s.setWord a v).bd = s.bd := rfl
@[simp] theorem State.setWord_ag (a : Nat) (v : Word) : (s.setWord a v).ag = s.ag := rfl
@[simp] theorem State.setWord_ba (a : Nat) (v : Word) : (s.setWord a v).ba = s.ba := rfl
@[simp] theorem State.setWord_ig (a : Nat) (v : Word) : (s.setWord a v).ig = s.ig := rfl
@[simp] theorem State.setWord_rf (a : Nat) (v : Word) : (s.setWord a v).rf = s.rf := rfl
@[simp] theorem State.setWord_tb (a : Nat) (v : Word) : (s.setWord a v).tb = s.tb := rfl
@[simp] theorem State.setWord_pt (a : Nat) (v : Word) : (s.setWord a v).pt = s.pt := rfl
@[simp] theorem State.setWord_ck (a : Nat) (v : Word) : (s.setWord a v).ck = s.ck := rfl
@[simp] theorem State.setWord_hm (a : Nat) (v : Word) : (s.setWord a v).hm = s.hm := rfl
@[simp] theorem State.setWord_pe (a : Nat) (v : Word) : (s.setWord a v).pe = s.pe := rfl
@[simp] theorem State.setWord_xb (a : Nat) (v : Word) : (s.setWord a v).xb = s.xb := rfl
@[simp] theorem State.setWord_ev (a : Nat) (v : Word) : (s.setWord a v).ev = s.ev := rfl
@[simp] theorem State.setWord_sp (a : Nat) (v : Word) : (s.setWord a v).sp = s.sp := rfl
@[simp] theorem State.setWord_au (a : Nat) (v : Word) : (s.setWord a v).au = s.au := rfl
@[simp] theorem State.setWord_ot (a : Nat) (v : Word) : (s.setWord a v).ot = s.ot := rfl
@[simp] theorem State.setWord_cs (a : Nat) (v : Word) : (s.setWord a v).cs = s.cs := rfl
@[simp] theorem State.setWord_cf (a : Nat) (v : Word) : (s.setWord a v).cf = s.cf := rfl
@[simp] theorem State.setWord_mg (a : Nat) (v : Word) : (s.setWord a v).mg = s.mg := rfl
@[simp] theorem State.setWord_io (a : Nat) (v : Word) : (s.setWord a v).io = s.io := rfl

@[simp] theorem State.wr_pending (f : FRef) (v : Nat) : (s.wr f v).pending = s.pending := rfl
@[simp] theorem State.wr_part (f : FRef) (v : Nat) : (s.wr f v).part = s.part := rfl
@[simp] theorem State.wr_latch (f : FRef) (v : Nat) : (s.wr f v).latch = s.latch := rfl
@[simp] theorem State.wr_resp (f : FRef) (v : Nat) : (s.wr f v).resp = s.resp := rfl
@[simp] theorem State.wr_out (f : FRef) (v : Nat) : (s.wr f v).out = s.out := rfl
@[simp] theorem State.wr_mem (f : FRef) (v : Nat) : (s.wr f v).mem = s.mem := rfl
@[simp] theorem State.wr_bound (f : FRef) (v : Nat) : (s.wr f v).bound = s.bound := rfl
@[simp] theorem State.wr_rnd (f : FRef) (v : Nat) : (s.wr f v).rnd = s.rnd := rfl
@[simp] theorem State.wr_evq (f : FRef) (v : Nat) : (s.wr f v).evq = s.evq := rfl
@[simp] theorem State.wr_fresh (f : FRef) (v : Nat) : (s.wr f v).fresh = s.fresh := rfl
@[simp] theorem State.wr_ul (f : FRef) (v : Nat) : (s.wr f v).ul = s.ul := rfl
@[simp] theorem State.wr_al (f : FRef) (v : Nat) : (s.wr f v).al = s.al := rfl
@[simp] theorem State.wr_bd (f : FRef) (v : Nat) : (s.wr f v).bd = s.bd := rfl
@[simp] theorem State.wr_ag (f : FRef) (v : Nat) : (s.wr f v).ag = s.ag := rfl
@[simp] theorem State.wr_ba (f : FRef) (v : Nat) : (s.wr f v).ba = s.ba := rfl
@[simp] theorem State.wr_ig (f : FRef) (v : Nat) : (s.wr f v).ig = s.ig := rfl
@[simp] theorem State.wr_rf (f : FRef) (v : Nat) : (s.wr f v).rf = s.rf := rfl
@[simp] theorem State.wr_tb (f : FRef) (v : Nat) : (s.wr f v).tb = s.tb := rfl
@[simp] theorem State.wr_pt (f : FRef) (v : Nat) : (s.wr f v).pt = s.pt := rfl
@[simp] theorem State.wr_ck (f : FRef) (v : Nat) : (s.wr f v).ck = s.ck := rfl
@[simp] theorem State.wr_hm (f : FRef) (v : Nat) : (s.wr f v).hm = s.hm := rfl
@[simp] theorem State.wr_pe (f : FRef) (v : Nat) : (s.wr f v).pe = s.pe := rfl
@[simp] theorem State.wr_xb (f : FRef) (v : Nat) : (s.wr f v).xb = s.xb := rfl
@[simp] theorem State.wr_ev (f : FRef) (v : Nat) : (s.wr f v).ev = s.ev := rfl
@[simp] theorem State.wr_sp (f : FRef) (v : Nat) : (s.wr f v).sp = s.sp := rfl
@[simp] theorem State.wr_au (f : FRef) (v : Nat) : (s.wr f v).au = s.au := rfl
@[simp] theorem State.wr_ot (f : FRef) (v : Nat) : (s.wr f v).ot = s.ot := rfl
@[simp] theorem State.wr_cs (f : FRef) (v : Nat) : (s.wr f v).cs = s.cs := rfl
@[simp] theorem State.wr_cf (f : FRef) (v : Nat) : (s.wr f v).cf = s.cf := rfl
@[simp] theorem State.wr_mg (f : FRef) (v : Nat) : (s.wr f v).mg = s.mg := rfl
@[simp] theorem State.wr_io (f : FRef) (v : Nat) : (s.wr f v).io = s.io := rfl

@[simp] theorem State.wq_pending (a v : Nat) : (s.wq a v).pending = s.pending := rfl
@[simp] theorem State.wq_part (a v : Nat) : (s.wq a v).part = s.part := rfl
@[simp] theorem State.wq_latch (a v : Nat) : (s.wq a v).latch = s.latch := rfl
@[simp] theorem State.wq_resp (a v : Nat) : (s.wq a v).resp = s.resp := rfl
@[simp] theorem State.wq_out (a v : Nat) : (s.wq a v).out = s.out := rfl
@[simp] theorem State.wq_mem (a v : Nat) : (s.wq a v).mem = s.mem := rfl
@[simp] theorem State.wq_bound (a v : Nat) : (s.wq a v).bound = s.bound := rfl
@[simp] theorem State.wq_rnd (a v : Nat) : (s.wq a v).rnd = s.rnd := rfl
@[simp] theorem State.wq_evq (a v : Nat) : (s.wq a v).evq = s.evq := rfl
@[simp] theorem State.wq_fresh (a v : Nat) : (s.wq a v).fresh = s.fresh := rfl
@[simp] theorem State.wq_ul (a v : Nat) : (s.wq a v).ul = s.ul := rfl
@[simp] theorem State.wq_al (a v : Nat) : (s.wq a v).al = s.al := rfl
@[simp] theorem State.wq_bd (a v : Nat) : (s.wq a v).bd = s.bd := rfl
@[simp] theorem State.wq_ag (a v : Nat) : (s.wq a v).ag = s.ag := rfl
@[simp] theorem State.wq_ba (a v : Nat) : (s.wq a v).ba = s.ba := rfl
@[simp] theorem State.wq_ig (a v : Nat) : (s.wq a v).ig = s.ig := rfl
@[simp] theorem State.wq_rf (a v : Nat) : (s.wq a v).rf = s.rf := rfl
@[simp] theorem State.wq_tb (a v : Nat) : (s.wq a v).tb = s.tb := rfl
@[simp] theorem State.wq_pt (a v : Nat) : (s.wq a v).pt = s.pt := rfl
@[simp] theorem State.wq_ck (a v : Nat) : (s.wq a v).ck = s.ck := rfl
@[simp] theorem State.wq_hm (a v : Nat) : (s.wq a v).hm = s.hm := rfl
@[simp] theorem State.wq_pe (a v : Nat) : (s.wq a v).pe = s.pe := rfl
@[simp] theorem State.wq_xb (a v : Nat) : (s.wq a v).xb = s.xb := rfl
@[simp] theorem State.wq_ev (a v : Nat) : (s.wq a v).ev = s.ev := rfl
@[simp] theorem State.wq_sp (a v : Nat) : (s.wq a v).sp = s.sp := rfl
@[simp] theorem State.wq_au (a v : Nat) : (s.wq a v).au = s.au := rfl
@[simp] theorem State.wq_ot (a v : Nat) : (s.wq a v).ot = s.ot := rfl
@[simp] theorem State.wq_cs (a v : Nat) : (s.wq a v).cs = s.cs := rfl
@[simp] theorem State.wq_cf (a v : Nat) : (s.wq a v).cf = s.cf := rfl
@[simp] theorem State.wq_mg (a v : Nat) : (s.wq a v).mg = s.mg := rfl
@[simp] theorem State.wq_io (a v : Nat) : (s.wq a v).io = s.io := rfl

@[simp] theorem State.incBy_pending (a n : Nat) : (s.incBy a n).pending = s.pending := rfl
@[simp] theorem State.incBy_part (a n : Nat) : (s.incBy a n).part = s.part := rfl
@[simp] theorem State.incBy_latch (a n : Nat) : (s.incBy a n).latch = s.latch := rfl
@[simp] theorem State.incBy_resp (a n : Nat) : (s.incBy a n).resp = s.resp := rfl
@[simp] theorem State.incBy_out (a n : Nat) : (s.incBy a n).out = s.out := rfl
@[simp] theorem State.incBy_mem (a n : Nat) : (s.incBy a n).mem = s.mem := rfl
@[simp] theorem State.incBy_bound (a n : Nat) : (s.incBy a n).bound = s.bound := rfl
@[simp] theorem State.incBy_rnd (a n : Nat) : (s.incBy a n).rnd = s.rnd := rfl
@[simp] theorem State.incBy_evq (a n : Nat) : (s.incBy a n).evq = s.evq := rfl
@[simp] theorem State.incBy_fresh (a n : Nat) : (s.incBy a n).fresh = s.fresh := rfl
@[simp] theorem State.incBy_ul (a n : Nat) : (s.incBy a n).ul = s.ul := rfl
@[simp] theorem State.incBy_al (a n : Nat) : (s.incBy a n).al = s.al := rfl
@[simp] theorem State.incBy_bd (a n : Nat) : (s.incBy a n).bd = s.bd := rfl
@[simp] theorem State.incBy_ag (a n : Nat) : (s.incBy a n).ag = s.ag := rfl
@[simp] theorem State.incBy_ba (a n : Nat) : (s.incBy a n).ba = s.ba := rfl
@[simp] theorem State.incBy_ig (a n : Nat) : (s.incBy a n).ig = s.ig := rfl
@[simp] theorem State.incBy_rf (a n : Nat) : (s.incBy a n).rf = s.rf := rfl
@[simp] theorem State.incBy_tb (a n : Nat) : (s.incBy a n).tb = s.tb := rfl
@[simp] theorem State.incBy_pt (a n : Nat) : (s.incBy a n).pt = s.pt := rfl
@[simp] theorem State.incBy_ck (a n : Nat) : (s.incBy a n).ck = s.ck := rfl
@[simp] theorem State.incBy_hm (a n : Nat) : (s.incBy a n).hm = s.hm := rfl
@[simp] theorem State.incBy_pe (a n : Nat) : (s.incBy a n).pe = s.pe := rfl
@[simp] theorem State.incBy_xb (a n : Nat) : (s.incBy a n).xb = s.xb := rfl
@[simp] theorem State.incBy_ev (a n : Nat) : (s.incBy a n).ev = s.ev := rfl
@[simp] theorem State.incBy_sp (a n : Nat) : (s.incBy a n).sp = s.sp := rfl
@[simp] theorem State.incBy_au (a n : Nat) : (s.incBy a n).au = s.au := rfl
@[simp] theorem State.incBy_ot (a n : Nat) : (s.incBy a n).ot = s.ot := rfl
@[simp] theorem State.incBy_cs (a n : Nat) : (s.incBy a n).cs = s.cs := rfl
@[simp] theorem State.incBy_cf (a n : Nat) : (s.incBy a n).cf = s.cf := rfl
@[simp] theorem State.incBy_mg (a n : Nat) : (s.incBy a n).mg = s.mg := rfl
@[simp] theorem State.incBy_io (a n : Nat) : (s.incBy a n).io = s.io := rfl

@[simp] theorem State.inc_pending (a : Nat) : (s.inc a).pending = s.pending := rfl
@[simp] theorem State.inc_part (a : Nat) : (s.inc a).part = s.part := rfl
@[simp] theorem State.inc_latch (a : Nat) : (s.inc a).latch = s.latch := rfl
@[simp] theorem State.inc_resp (a : Nat) : (s.inc a).resp = s.resp := rfl
@[simp] theorem State.inc_out (a : Nat) : (s.inc a).out = s.out := rfl
@[simp] theorem State.inc_mem (a : Nat) : (s.inc a).mem = s.mem := rfl
@[simp] theorem State.inc_bound (a : Nat) : (s.inc a).bound = s.bound := rfl
@[simp] theorem State.inc_rnd (a : Nat) : (s.inc a).rnd = s.rnd := rfl
@[simp] theorem State.inc_evq (a : Nat) : (s.inc a).evq = s.evq := rfl
@[simp] theorem State.inc_fresh (a : Nat) : (s.inc a).fresh = s.fresh := rfl
@[simp] theorem State.inc_ul (a : Nat) : (s.inc a).ul = s.ul := rfl
@[simp] theorem State.inc_al (a : Nat) : (s.inc a).al = s.al := rfl
@[simp] theorem State.inc_bd (a : Nat) : (s.inc a).bd = s.bd := rfl
@[simp] theorem State.inc_ag (a : Nat) : (s.inc a).ag = s.ag := rfl
@[simp] theorem State.inc_ba (a : Nat) : (s.inc a).ba = s.ba := rfl
@[simp] theorem State.inc_ig (a : Nat) : (s.inc a).ig = s.ig := rfl
@[simp] theorem State.inc_rf (a : Nat) : (s.inc a).rf = s.rf := rfl
@[simp] theorem State.inc_tb (a : Nat) : (s.inc a).tb = s.tb := rfl
@[simp] theorem State.inc_pt (a : Nat) : (s.inc a).pt = s.pt := rfl
@[simp] theorem State.inc_ck (a : Nat) : (s.inc a).ck = s.ck := rfl
@[simp] theorem State.inc_hm (a : Nat) : (s.inc a).hm = s.hm := rfl
@[simp] theorem State.inc_pe (a : Nat) : (s.inc a).pe = s.pe := rfl
@[simp] theorem State.inc_xb (a : Nat) : (s.inc a).xb = s.xb := rfl
@[simp] theorem State.inc_ev (a : Nat) : (s.inc a).ev = s.ev := rfl
@[simp] theorem State.inc_sp (a : Nat) : (s.inc a).sp = s.sp := rfl
@[simp] theorem State.inc_au (a : Nat) : (s.inc a).au = s.au := rfl
@[simp] theorem State.inc_ot (a : Nat) : (s.inc a).ot = s.ot := rfl
@[simp] theorem State.inc_cs (a : Nat) : (s.inc a).cs = s.cs := rfl
@[simp] theorem State.inc_cf (a : Nat) : (s.inc a).cf = s.cf := rfl
@[simp] theorem State.inc_mg (a : Nat) : (s.inc a).mg = s.mg := rfl
@[simp] theorem State.inc_io (a : Nat) : (s.inc a).io = s.io := rfl

@[simp] theorem State.emit_pending (e : Emit) : (s.emit e).pending = s.pending := rfl
@[simp] theorem State.emit_part (e : Emit) : (s.emit e).part = s.part := rfl
@[simp] theorem State.emit_csr (e : Emit) : (s.emit e).csr = s.csr := rfl
@[simp] theorem State.emit_latch (e : Emit) : (s.emit e).latch = s.latch := rfl
@[simp] theorem State.emit_resp (e : Emit) : (s.emit e).resp = s.resp := rfl
@[simp] theorem State.emit_mem (e : Emit) : (s.emit e).mem = s.mem := rfl
@[simp] theorem State.emit_bound (e : Emit) : (s.emit e).bound = s.bound := rfl
@[simp] theorem State.emit_rnd (e : Emit) : (s.emit e).rnd = s.rnd := rfl
@[simp] theorem State.emit_evq (e : Emit) : (s.emit e).evq = s.evq := rfl
@[simp] theorem State.emit_fresh (e : Emit) : (s.emit e).fresh = s.fresh := rfl
@[simp] theorem State.emit_ul (e : Emit) : (s.emit e).ul = s.ul := rfl
@[simp] theorem State.emit_al (e : Emit) : (s.emit e).al = s.al := rfl
@[simp] theorem State.emit_bd (e : Emit) : (s.emit e).bd = s.bd := rfl
@[simp] theorem State.emit_ag (e : Emit) : (s.emit e).ag = s.ag := rfl
@[simp] theorem State.emit_ba (e : Emit) : (s.emit e).ba = s.ba := rfl
@[simp] theorem State.emit_ig (e : Emit) : (s.emit e).ig = s.ig := rfl
@[simp] theorem State.emit_rf (e : Emit) : (s.emit e).rf = s.rf := rfl
@[simp] theorem State.emit_tb (e : Emit) : (s.emit e).tb = s.tb := rfl
@[simp] theorem State.emit_pt (e : Emit) : (s.emit e).pt = s.pt := rfl
@[simp] theorem State.emit_ck (e : Emit) : (s.emit e).ck = s.ck := rfl
@[simp] theorem State.emit_hm (e : Emit) : (s.emit e).hm = s.hm := rfl
@[simp] theorem State.emit_pe (e : Emit) : (s.emit e).pe = s.pe := rfl
@[simp] theorem State.emit_xb (e : Emit) : (s.emit e).xb = s.xb := rfl
@[simp] theorem State.emit_ev (e : Emit) : (s.emit e).ev = s.ev := rfl
@[simp] theorem State.emit_sp (e : Emit) : (s.emit e).sp = s.sp := rfl
@[simp] theorem State.emit_au (e : Emit) : (s.emit e).au = s.au := rfl
@[simp] theorem State.emit_ot (e : Emit) : (s.emit e).ot = s.ot := rfl
@[simp] theorem State.emit_cs (e : Emit) : (s.emit e).cs = s.cs := rfl
@[simp] theorem State.emit_cf (e : Emit) : (s.emit e).cf = s.cf := rfl
@[simp] theorem State.emit_mg (e : Emit) : (s.emit e).mg = s.mg := rfl
@[simp] theorem State.emit_io (e : Emit) : (s.emit e).io = s.io := rfl

@[simp] theorem State.fire_pending (e : Nat) : (s.fire e).pending = s.pending := rfl
@[simp] theorem State.fire_part (e : Nat) : (s.fire e).part = s.part := rfl
@[simp] theorem State.fire_csr (e : Nat) : (s.fire e).csr = s.csr := rfl
@[simp] theorem State.fire_latch (e : Nat) : (s.fire e).latch = s.latch := rfl
@[simp] theorem State.fire_resp (e : Nat) : (s.fire e).resp = s.resp := rfl
@[simp] theorem State.fire_out (e : Nat) : (s.fire e).out = s.out := rfl
@[simp] theorem State.fire_mem (e : Nat) : (s.fire e).mem = s.mem := rfl
@[simp] theorem State.fire_bound (e : Nat) : (s.fire e).bound = s.bound := rfl
@[simp] theorem State.fire_rnd (e : Nat) : (s.fire e).rnd = s.rnd := rfl
@[simp] theorem State.fire_fresh (e : Nat) : (s.fire e).fresh = s.fresh := rfl
@[simp] theorem State.fire_ul (e : Nat) : (s.fire e).ul = s.ul := rfl
@[simp] theorem State.fire_al (e : Nat) : (s.fire e).al = s.al := rfl
@[simp] theorem State.fire_bd (e : Nat) : (s.fire e).bd = s.bd := rfl
@[simp] theorem State.fire_ag (e : Nat) : (s.fire e).ag = s.ag := rfl
@[simp] theorem State.fire_ba (e : Nat) : (s.fire e).ba = s.ba := rfl
@[simp] theorem State.fire_ig (e : Nat) : (s.fire e).ig = s.ig := rfl
@[simp] theorem State.fire_rf (e : Nat) : (s.fire e).rf = s.rf := rfl
@[simp] theorem State.fire_tb (e : Nat) : (s.fire e).tb = s.tb := rfl
@[simp] theorem State.fire_pt (e : Nat) : (s.fire e).pt = s.pt := rfl
@[simp] theorem State.fire_ck (e : Nat) : (s.fire e).ck = s.ck := rfl
@[simp] theorem State.fire_hm (e : Nat) : (s.fire e).hm = s.hm := rfl
@[simp] theorem State.fire_pe (e : Nat) : (s.fire e).pe = s.pe := rfl
@[simp] theorem State.fire_xb (e : Nat) : (s.fire e).xb = s.xb := rfl
@[simp] theorem State.fire_ev (e : Nat) : (s.fire e).ev = s.ev := rfl
@[simp] theorem State.fire_sp (e : Nat) : (s.fire e).sp = s.sp := rfl
@[simp] theorem State.fire_au (e : Nat) : (s.fire e).au = s.au := rfl
@[simp] theorem State.fire_ot (e : Nat) : (s.fire e).ot = s.ot := rfl
@[simp] theorem State.fire_cs (e : Nat) : (s.fire e).cs = s.cs := rfl
@[simp] theorem State.fire_cf (e : Nat) : (s.fire e).cf = s.cf := rfl
@[simp] theorem State.fire_mg (e : Nat) : (s.fire e).mg = s.mg := rfl
@[simp] theorem State.fire_io (e : Nat) : (s.fire e).io = s.io := rfl

@[simp] theorem State.setByte_pending (a : Nat) (v : Byte) : (s.setByte a v).pending = s.pending := rfl
@[simp] theorem State.setByte_part (a : Nat) (v : Byte) : (s.setByte a v).part = s.part := rfl
@[simp] theorem State.setByte_csr (a : Nat) (v : Byte) : (s.setByte a v).csr = s.csr := rfl
@[simp] theorem State.setByte_latch (a : Nat) (v : Byte) : (s.setByte a v).latch = s.latch := rfl
@[simp] theorem State.setByte_resp (a : Nat) (v : Byte) : (s.setByte a v).resp = s.resp := rfl
@[simp] theorem State.setByte_out (a : Nat) (v : Byte) : (s.setByte a v).out = s.out := rfl
@[simp] theorem State.setByte_bound (a : Nat) (v : Byte) : (s.setByte a v).bound = s.bound := rfl
@[simp] theorem State.setByte_rnd (a : Nat) (v : Byte) : (s.setByte a v).rnd = s.rnd := rfl
@[simp] theorem State.setByte_evq (a : Nat) (v : Byte) : (s.setByte a v).evq = s.evq := rfl
@[simp] theorem State.setByte_fresh (a : Nat) (v : Byte) : (s.setByte a v).fresh = s.fresh := rfl
@[simp] theorem State.setByte_ul (a : Nat) (v : Byte) : (s.setByte a v).ul = s.ul := rfl
@[simp] theorem State.setByte_al (a : Nat) (v : Byte) : (s.setByte a v).al = s.al := rfl
@[simp] theorem State.setByte_bd (a : Nat) (v : Byte) : (s.setByte a v).bd = s.bd := rfl
@[simp] theorem State.setByte_ag (a : Nat) (v : Byte) : (s.setByte a v).ag = s.ag := rfl
@[simp] theorem State.setByte_ba (a : Nat) (v : Byte) : (s.setByte a v).ba = s.ba := rfl
@[simp] theorem State.setByte_ig (a : Nat) (v : Byte) : (s.setByte a v).ig = s.ig := rfl
@[simp] theorem State.setByte_rf (a : Nat) (v : Byte) : (s.setByte a v).rf = s.rf := rfl
@[simp] theorem State.setByte_tb (a : Nat) (v : Byte) : (s.setByte a v).tb = s.tb := rfl
@[simp] theorem State.setByte_pt (a : Nat) (v : Byte) : (s.setByte a v).pt = s.pt := rfl
@[simp] theorem State.setByte_ck (a : Nat) (v : Byte) : (s.setByte a v).ck = s.ck := rfl
@[simp] theorem State.setByte_hm (a : Nat) (v : Byte) : (s.setByte a v).hm = s.hm := rfl
@[simp] theorem State.setByte_pe (a : Nat) (v : Byte) : (s.setByte a v).pe = s.pe := rfl
@[simp] theorem State.setByte_xb (a : Nat) (v : Byte) : (s.setByte a v).xb = s.xb := rfl
@[simp] theorem State.setByte_ev (a : Nat) (v : Byte) : (s.setByte a v).ev = s.ev := rfl
@[simp] theorem State.setByte_sp (a : Nat) (v : Byte) : (s.setByte a v).sp = s.sp := rfl
@[simp] theorem State.setByte_au (a : Nat) (v : Byte) : (s.setByte a v).au = s.au := rfl
@[simp] theorem State.setByte_ot (a : Nat) (v : Byte) : (s.setByte a v).ot = s.ot := rfl
@[simp] theorem State.setByte_cs (a : Nat) (v : Byte) : (s.setByte a v).cs = s.cs := rfl
@[simp] theorem State.setByte_cf (a : Nat) (v : Byte) : (s.setByte a v).cf = s.cf := rfl
@[simp] theorem State.setByte_mg (a : Nat) (v : Byte) : (s.setByte a v).mg = s.mg := rfl
@[simp] theorem State.setByte_io (a : Nat) (v : Byte) : (s.setByte a v).io = s.io := rfl

@[simp] theorem State.setBytes_pending (a : Nat) (bs : Bytes) : (s.setBytes a bs).pending = s.pending := rfl
@[simp] theorem State.setBytes_part (a : Nat) (bs : Bytes) : (s.setBytes a bs).part = s.part := rfl
@[simp] theorem State.setBytes_csr (a : Nat) (bs : Bytes) : (s.setBytes a bs).csr = s.csr := rfl
@[simp] theorem State.setBytes_latch (a : Nat) (bs : Bytes) : (s.setBytes a bs).latch = s.latch := rfl
@[simp] theorem State.setBytes_resp (a : Nat) (bs : Bytes) : (s.setBytes a bs).resp = s.resp := rfl
@[simp] theorem State.setBytes_out (a : Nat) (bs : Bytes) : (s.setBytes a bs).out = s.out := rfl
@[simp] theorem State.setBytes_bound (a : Nat) (bs : Bytes) : (s.setBytes a bs).bound = s.bound := rfl
@[simp] theorem State.setBytes_rnd (a : Nat) (bs : Bytes) : (s.setBytes a bs).rnd = s.rnd := rfl
@[simp] theorem State.setBytes_evq (a : Nat) (bs : Bytes) : (s.setBytes a bs).evq = s.evq := rfl
@[simp] theorem State.setBytes_fresh (a : Nat) (bs : Bytes) : (s.setBytes a bs).fresh = s.fresh := rfl
@[simp] theorem State.setBytes_ul (a : Nat) (bs : Bytes) : (s.setBytes a bs).ul = s.ul := rfl
@[simp] theorem State.setBytes_al (a : Nat) (bs : Bytes) : (s.setBytes a bs).al = s.al := rfl
@[simp] theorem State.setBytes_bd (a : Nat) (bs : Bytes) : (s.setBytes a bs).bd = s.bd := rfl
@[simp] theorem State.setBytes_ag (a : Nat) (bs : Bytes) : (s.setBytes a bs).ag = s.ag := rfl
@[simp] theorem State.setBytes_ba (a : Nat) (bs : Bytes) : (s.setBytes a bs).ba = s.ba := rfl
@[simp] theorem State.setBytes_ig (a : Nat) (bs : Bytes) : (s.setBytes a bs).ig = s.ig := rfl
@[simp] theorem State.setBytes_rf (a : Nat) (bs : Bytes) : (s.setBytes a bs).rf = s.rf := rfl
@[simp] theorem State.setBytes_tb (a : Nat) (bs : Bytes) : (s.setBytes a bs).tb = s.tb := rfl
@[simp] theorem State.setBytes_pt (a : Nat) (bs : Bytes) : (s.setBytes a bs).pt = s.pt := rfl
@[simp] theorem State.setBytes_ck (a : Nat) (bs : Bytes) : (s.setBytes a bs).ck = s.ck := rfl
@[simp] theorem State.setBytes_hm (a : Nat) (bs : Bytes) : (s.setBytes a bs).hm = s.hm := rfl
@[simp] theorem State.setBytes_pe (a : Nat) (bs : Bytes) : (s.setBytes a bs).pe = s.pe := rfl
@[simp] theorem State.setBytes_xb (a : Nat) (bs : Bytes) : (s.setBytes a bs).xb = s.xb := rfl
@[simp] theorem State.setBytes_ev (a : Nat) (bs : Bytes) : (s.setBytes a bs).ev = s.ev := rfl
@[simp] theorem State.setBytes_sp (a : Nat) (bs : Bytes) : (s.setBytes a bs).sp = s.sp := rfl
@[simp] theorem State.setBytes_au (a : Nat) (bs : Bytes) : (s.setBytes a bs).au = s.au := rfl
@[simp] theorem State.setBytes_ot (a : Nat) (bs : Bytes) : (s.setBytes a bs).ot = s.ot := rfl
@[simp] theorem State.setBytes_cs (a : Nat) (bs : Bytes) : (s.setBytes a bs).cs = s.cs := rfl
@[simp] theorem State.setBytes_cf (a : Nat) (bs : Bytes) : (s.setBytes a bs).cf = s.cf := rfl
@[simp] theorem State.setBytes_mg (a : Nat) (bs : Bytes) : (s.setBytes a bs).mg = s.mg := rfl
@[simp] theorem State.setBytes_io (a : Nat) (bs : Bytes) : (s.setBytes a bs).io = s.io := rfl

@[simp] theorem State.tick_pending : (s.tick).pending = s.pending := rfl
@[simp] theorem State.tick_part : (s.tick).part = s.part := rfl
@[simp] theorem State.tick_csr : (s.tick).csr = s.csr := rfl
@[simp] theorem State.tick_latch : (s.tick).latch = s.latch := rfl
@[simp] theorem State.tick_resp : (s.tick).resp = s.resp := rfl
@[simp] theorem State.tick_out : (s.tick).out = s.out := rfl
@[simp] theorem State.tick_mem : (s.tick).mem = s.mem := rfl
@[simp] theorem State.tick_bound : (s.tick).bound = s.bound := rfl
@[simp] theorem State.tick_rnd : (s.tick).rnd = s.rnd := rfl
@[simp] theorem State.tick_evq : (s.tick).evq = s.evq := rfl
@[simp] theorem State.tick_ul : (s.tick).ul = s.ul := rfl
@[simp] theorem State.tick_al : (s.tick).al = s.al := rfl
@[simp] theorem State.tick_bd : (s.tick).bd = s.bd := rfl
@[simp] theorem State.tick_ag : (s.tick).ag = s.ag := rfl
@[simp] theorem State.tick_ba : (s.tick).ba = s.ba := rfl
@[simp] theorem State.tick_ig : (s.tick).ig = s.ig := rfl
@[simp] theorem State.tick_rf : (s.tick).rf = s.rf := rfl
@[simp] theorem State.tick_tb : (s.tick).tb = s.tb := rfl
@[simp] theorem State.tick_pt : (s.tick).pt = s.pt := rfl
@[simp] theorem State.tick_ck : (s.tick).ck = s.ck := rfl
@[simp] theorem State.tick_hm : (s.tick).hm = s.hm := rfl
@[simp] theorem State.tick_pe : (s.tick).pe = s.pe := rfl
@[simp] theorem State.tick_xb : (s.tick).xb = s.xb := rfl
@[simp] theorem State.tick_ev : (s.tick).ev = s.ev := rfl
@[simp] theorem State.tick_sp : (s.tick).sp = s.sp := rfl
@[simp] theorem State.tick_au : (s.tick).au = s.au := rfl
@[simp] theorem State.tick_ot : (s.tick).ot = s.ot := rfl
@[simp] theorem State.tick_cs : (s.tick).cs = s.cs := rfl
@[simp] theorem State.tick_cf : (s.tick).cf = s.cf := rfl
@[simp] theorem State.tick_mg : (s.tick).mg = s.mg := rfl
@[simp] theorem State.tick_io : (s.tick).io = s.io := rfl

@[simp] theorem State.health_pending (src unit sev detail round : Nat) : (s.health src unit sev detail round).pending = s.pending := rfl
@[simp] theorem State.health_part (src unit sev detail round : Nat) : (s.health src unit sev detail round).part = s.part := rfl
@[simp] theorem State.health_csr (src unit sev detail round : Nat) : (s.health src unit sev detail round).csr = s.csr := rfl
@[simp] theorem State.health_latch (src unit sev detail round : Nat) : (s.health src unit sev detail round).latch = s.latch := rfl
@[simp] theorem State.health_resp (src unit sev detail round : Nat) : (s.health src unit sev detail round).resp = s.resp := rfl
@[simp] theorem State.health_out (src unit sev detail round : Nat) : (s.health src unit sev detail round).out = s.out := rfl
@[simp] theorem State.health_mem (src unit sev detail round : Nat) : (s.health src unit sev detail round).mem = s.mem := rfl
@[simp] theorem State.health_bound (src unit sev detail round : Nat) : (s.health src unit sev detail round).bound = s.bound := rfl
@[simp] theorem State.health_rnd (src unit sev detail round : Nat) : (s.health src unit sev detail round).rnd = s.rnd := rfl
@[simp] theorem State.health_evq (src unit sev detail round : Nat) : (s.health src unit sev detail round).evq = s.evq := rfl
@[simp] theorem State.health_fresh (src unit sev detail round : Nat) : (s.health src unit sev detail round).fresh = s.fresh := rfl
@[simp] theorem State.health_ul (src unit sev detail round : Nat) : (s.health src unit sev detail round).ul = s.ul := rfl
@[simp] theorem State.health_al (src unit sev detail round : Nat) : (s.health src unit sev detail round).al = s.al := rfl
@[simp] theorem State.health_bd (src unit sev detail round : Nat) : (s.health src unit sev detail round).bd = s.bd := rfl
@[simp] theorem State.health_ag (src unit sev detail round : Nat) : (s.health src unit sev detail round).ag = s.ag := rfl
@[simp] theorem State.health_ba (src unit sev detail round : Nat) : (s.health src unit sev detail round).ba = s.ba := rfl
@[simp] theorem State.health_rf (src unit sev detail round : Nat) : (s.health src unit sev detail round).rf = s.rf := rfl
@[simp] theorem State.health_tb (src unit sev detail round : Nat) : (s.health src unit sev detail round).tb = s.tb := rfl
@[simp] theorem State.health_pt (src unit sev detail round : Nat) : (s.health src unit sev detail round).pt = s.pt := rfl
@[simp] theorem State.health_ck (src unit sev detail round : Nat) : (s.health src unit sev detail round).ck = s.ck := rfl
@[simp] theorem State.health_hm (src unit sev detail round : Nat) : (s.health src unit sev detail round).hm = s.hm := rfl
@[simp] theorem State.health_pe (src unit sev detail round : Nat) : (s.health src unit sev detail round).pe = s.pe := rfl
@[simp] theorem State.health_xb (src unit sev detail round : Nat) : (s.health src unit sev detail round).xb = s.xb := rfl
@[simp] theorem State.health_ev (src unit sev detail round : Nat) : (s.health src unit sev detail round).ev = s.ev := rfl
@[simp] theorem State.health_sp (src unit sev detail round : Nat) : (s.health src unit sev detail round).sp = s.sp := rfl
@[simp] theorem State.health_au (src unit sev detail round : Nat) : (s.health src unit sev detail round).au = s.au := rfl
@[simp] theorem State.health_ot (src unit sev detail round : Nat) : (s.health src unit sev detail round).ot = s.ot := rfl
@[simp] theorem State.health_cs (src unit sev detail round : Nat) : (s.health src unit sev detail round).cs = s.cs := rfl
@[simp] theorem State.health_cf (src unit sev detail round : Nat) : (s.health src unit sev detail round).cf = s.cf := rfl
@[simp] theorem State.health_mg (src unit sev detail round : Nat) : (s.health src unit sev detail round).mg = s.mg := rfl
@[simp] theorem State.health_io (src unit sev detail round : Nat) : (s.health src unit sev detail round).io = s.io := rfl

@[simp] theorem State.smbAlert_pending : (s.smbAlert).pending = s.pending := rfl
@[simp] theorem State.smbAlert_part : (s.smbAlert).part = s.part := rfl
@[simp] theorem State.smbAlert_csr : (s.smbAlert).csr = s.csr := rfl
@[simp] theorem State.smbAlert_latch : (s.smbAlert).latch = s.latch := rfl
@[simp] theorem State.smbAlert_resp : (s.smbAlert).resp = s.resp := rfl
@[simp] theorem State.smbAlert_mem : (s.smbAlert).mem = s.mem := rfl
@[simp] theorem State.smbAlert_bound : (s.smbAlert).bound = s.bound := rfl
@[simp] theorem State.smbAlert_rnd : (s.smbAlert).rnd = s.rnd := rfl
@[simp] theorem State.smbAlert_evq : (s.smbAlert).evq = s.evq := rfl
@[simp] theorem State.smbAlert_fresh : (s.smbAlert).fresh = s.fresh := rfl
@[simp] theorem State.smbAlert_ul : (s.smbAlert).ul = s.ul := rfl
@[simp] theorem State.smbAlert_al : (s.smbAlert).al = s.al := rfl
@[simp] theorem State.smbAlert_bd : (s.smbAlert).bd = s.bd := rfl
@[simp] theorem State.smbAlert_ag : (s.smbAlert).ag = s.ag := rfl
@[simp] theorem State.smbAlert_ba : (s.smbAlert).ba = s.ba := rfl
@[simp] theorem State.smbAlert_ig : (s.smbAlert).ig = s.ig := rfl
@[simp] theorem State.smbAlert_rf : (s.smbAlert).rf = s.rf := rfl
@[simp] theorem State.smbAlert_tb : (s.smbAlert).tb = s.tb := rfl
@[simp] theorem State.smbAlert_pt : (s.smbAlert).pt = s.pt := rfl
@[simp] theorem State.smbAlert_ck : (s.smbAlert).ck = s.ck := rfl
@[simp] theorem State.smbAlert_hm : (s.smbAlert).hm = s.hm := rfl
@[simp] theorem State.smbAlert_pe : (s.smbAlert).pe = s.pe := rfl
@[simp] theorem State.smbAlert_xb : (s.smbAlert).xb = s.xb := rfl
@[simp] theorem State.smbAlert_ev : (s.smbAlert).ev = s.ev := rfl
@[simp] theorem State.smbAlert_sp : (s.smbAlert).sp = s.sp := rfl
@[simp] theorem State.smbAlert_au : (s.smbAlert).au = s.au := rfl
@[simp] theorem State.smbAlert_ot : (s.smbAlert).ot = s.ot := rfl
@[simp] theorem State.smbAlert_cs : (s.smbAlert).cs = s.cs := rfl
@[simp] theorem State.smbAlert_cf : (s.smbAlert).cf = s.cf := rfl
@[simp] theorem State.smbAlert_mg : (s.smbAlert).mg = s.mg := rfl

@[simp] theorem State.msix_pending (v : Nat) : (s.msix v).pending = s.pending := rfl
@[simp] theorem State.msix_part (v : Nat) : (s.msix v).part = s.part := rfl
@[simp] theorem State.msix_latch (v : Nat) : (s.msix v).latch = s.latch := rfl
@[simp] theorem State.msix_resp (v : Nat) : (s.msix v).resp = s.resp := rfl
@[simp] theorem State.msix_mem (v : Nat) : (s.msix v).mem = s.mem := rfl
@[simp] theorem State.msix_bound (v : Nat) : (s.msix v).bound = s.bound := rfl
@[simp] theorem State.msix_rnd (v : Nat) : (s.msix v).rnd = s.rnd := rfl
@[simp] theorem State.msix_evq (v : Nat) : (s.msix v).evq = s.evq := rfl
@[simp] theorem State.msix_fresh (v : Nat) : (s.msix v).fresh = s.fresh := rfl
@[simp] theorem State.msix_ul (v : Nat) : (s.msix v).ul = s.ul := rfl
@[simp] theorem State.msix_al (v : Nat) : (s.msix v).al = s.al := rfl
@[simp] theorem State.msix_bd (v : Nat) : (s.msix v).bd = s.bd := rfl
@[simp] theorem State.msix_ag (v : Nat) : (s.msix v).ag = s.ag := rfl
@[simp] theorem State.msix_ba (v : Nat) : (s.msix v).ba = s.ba := rfl
@[simp] theorem State.msix_ig (v : Nat) : (s.msix v).ig = s.ig := rfl
@[simp] theorem State.msix_rf (v : Nat) : (s.msix v).rf = s.rf := rfl
@[simp] theorem State.msix_tb (v : Nat) : (s.msix v).tb = s.tb := rfl
@[simp] theorem State.msix_pt (v : Nat) : (s.msix v).pt = s.pt := rfl
@[simp] theorem State.msix_ck (v : Nat) : (s.msix v).ck = s.ck := rfl
@[simp] theorem State.msix_hm (v : Nat) : (s.msix v).hm = s.hm := rfl
@[simp] theorem State.msix_pe (v : Nat) : (s.msix v).pe = s.pe := rfl
@[simp] theorem State.msix_xb (v : Nat) : (s.msix v).xb = s.xb := rfl
@[simp] theorem State.msix_ev (v : Nat) : (s.msix v).ev = s.ev := rfl
@[simp] theorem State.msix_sp (v : Nat) : (s.msix v).sp = s.sp := rfl
@[simp] theorem State.msix_au (v : Nat) : (s.msix v).au = s.au := rfl
@[simp] theorem State.msix_ot (v : Nat) : (s.msix v).ot = s.ot := rfl
@[simp] theorem State.msix_cs (v : Nat) : (s.msix v).cs = s.cs := rfl
@[simp] theorem State.msix_cf (v : Nat) : (s.msix v).cf = s.cf := rfl
@[simp] theorem State.msix_mg (v : Nat) : (s.msix v).mg = s.mg := rfl
@[simp] theorem State.msix_io (v : Nat) : (s.msix v).io = s.io := rfl

@[simp] theorem State.okResp_pending (bs : Bytes) : (s.okResp bs).pending = s.pending := rfl
@[simp] theorem State.okResp_part (bs : Bytes) : (s.okResp bs).part = s.part := rfl
@[simp] theorem State.okResp_csr (bs : Bytes) : (s.okResp bs).csr = s.csr := rfl
@[simp] theorem State.okResp_latch (bs : Bytes) : (s.okResp bs).latch = s.latch := rfl
@[simp] theorem State.okResp_out (bs : Bytes) : (s.okResp bs).out = s.out := rfl
@[simp] theorem State.okResp_mem (bs : Bytes) : (s.okResp bs).mem = s.mem := rfl
@[simp] theorem State.okResp_bound (bs : Bytes) : (s.okResp bs).bound = s.bound := rfl
@[simp] theorem State.okResp_rnd (bs : Bytes) : (s.okResp bs).rnd = s.rnd := rfl
@[simp] theorem State.okResp_evq (bs : Bytes) : (s.okResp bs).evq = s.evq := rfl
@[simp] theorem State.okResp_fresh (bs : Bytes) : (s.okResp bs).fresh = s.fresh := rfl
@[simp] theorem State.okResp_ul (bs : Bytes) : (s.okResp bs).ul = s.ul := rfl
@[simp] theorem State.okResp_al (bs : Bytes) : (s.okResp bs).al = s.al := rfl
@[simp] theorem State.okResp_bd (bs : Bytes) : (s.okResp bs).bd = s.bd := rfl
@[simp] theorem State.okResp_ag (bs : Bytes) : (s.okResp bs).ag = s.ag := rfl
@[simp] theorem State.okResp_ba (bs : Bytes) : (s.okResp bs).ba = s.ba := rfl
@[simp] theorem State.okResp_ig (bs : Bytes) : (s.okResp bs).ig = s.ig := rfl
@[simp] theorem State.okResp_rf (bs : Bytes) : (s.okResp bs).rf = s.rf := rfl
@[simp] theorem State.okResp_tb (bs : Bytes) : (s.okResp bs).tb = s.tb := rfl
@[simp] theorem State.okResp_pt (bs : Bytes) : (s.okResp bs).pt = s.pt := rfl
@[simp] theorem State.okResp_ck (bs : Bytes) : (s.okResp bs).ck = s.ck := rfl
@[simp] theorem State.okResp_hm (bs : Bytes) : (s.okResp bs).hm = s.hm := rfl
@[simp] theorem State.okResp_pe (bs : Bytes) : (s.okResp bs).pe = s.pe := rfl
@[simp] theorem State.okResp_xb (bs : Bytes) : (s.okResp bs).xb = s.xb := rfl
@[simp] theorem State.okResp_ev (bs : Bytes) : (s.okResp bs).ev = s.ev := rfl
@[simp] theorem State.okResp_sp (bs : Bytes) : (s.okResp bs).sp = s.sp := rfl
@[simp] theorem State.okResp_au (bs : Bytes) : (s.okResp bs).au = s.au := rfl
@[simp] theorem State.okResp_ot (bs : Bytes) : (s.okResp bs).ot = s.ot := rfl
@[simp] theorem State.okResp_cs (bs : Bytes) : (s.okResp bs).cs = s.cs := rfl
@[simp] theorem State.okResp_cf (bs : Bytes) : (s.okResp bs).cf = s.cf := rfl
@[simp] theorem State.okResp_mg (bs : Bytes) : (s.okResp bs).mg = s.mg := rfl
@[simp] theorem State.okResp_io (bs : Bytes) : (s.okResp bs).io = s.io := rfl

@[simp] theorem State.errResp_pending : (s.errResp).pending = s.pending := rfl
@[simp] theorem State.errResp_part : (s.errResp).part = s.part := rfl
@[simp] theorem State.errResp_csr : (s.errResp).csr = s.csr := rfl
@[simp] theorem State.errResp_latch : (s.errResp).latch = s.latch := rfl
@[simp] theorem State.errResp_out : (s.errResp).out = s.out := rfl
@[simp] theorem State.errResp_mem : (s.errResp).mem = s.mem := rfl
@[simp] theorem State.errResp_bound : (s.errResp).bound = s.bound := rfl
@[simp] theorem State.errResp_rnd : (s.errResp).rnd = s.rnd := rfl
@[simp] theorem State.errResp_evq : (s.errResp).evq = s.evq := rfl
@[simp] theorem State.errResp_fresh : (s.errResp).fresh = s.fresh := rfl
@[simp] theorem State.errResp_ul : (s.errResp).ul = s.ul := rfl
@[simp] theorem State.errResp_al : (s.errResp).al = s.al := rfl
@[simp] theorem State.errResp_bd : (s.errResp).bd = s.bd := rfl
@[simp] theorem State.errResp_ag : (s.errResp).ag = s.ag := rfl
@[simp] theorem State.errResp_ba : (s.errResp).ba = s.ba := rfl
@[simp] theorem State.errResp_ig : (s.errResp).ig = s.ig := rfl
@[simp] theorem State.errResp_rf : (s.errResp).rf = s.rf := rfl
@[simp] theorem State.errResp_tb : (s.errResp).tb = s.tb := rfl
@[simp] theorem State.errResp_pt : (s.errResp).pt = s.pt := rfl
@[simp] theorem State.errResp_ck : (s.errResp).ck = s.ck := rfl
@[simp] theorem State.errResp_hm : (s.errResp).hm = s.hm := rfl
@[simp] theorem State.errResp_pe : (s.errResp).pe = s.pe := rfl
@[simp] theorem State.errResp_xb : (s.errResp).xb = s.xb := rfl
@[simp] theorem State.errResp_ev : (s.errResp).ev = s.ev := rfl
@[simp] theorem State.errResp_sp : (s.errResp).sp = s.sp := rfl
@[simp] theorem State.errResp_au : (s.errResp).au = s.au := rfl
@[simp] theorem State.errResp_ot : (s.errResp).ot = s.ot := rfl
@[simp] theorem State.errResp_cs : (s.errResp).cs = s.cs := rfl
@[simp] theorem State.errResp_cf : (s.errResp).cf = s.cf := rfl
@[simp] theorem State.errResp_mg : (s.errResp).mg = s.mg := rfl
@[simp] theorem State.errResp_io : (s.errResp).io = s.io := rfl

@[simp] theorem State.setLatch_pending (m : Nat) (x : Latch) : (s.setLatch m x).pending = s.pending := rfl
@[simp] theorem State.setLatch_part (m : Nat) (x : Latch) : (s.setLatch m x).part = s.part := rfl
@[simp] theorem State.setLatch_csr (m : Nat) (x : Latch) : (s.setLatch m x).csr = s.csr := rfl
@[simp] theorem State.setLatch_resp (m : Nat) (x : Latch) : (s.setLatch m x).resp = s.resp := rfl
@[simp] theorem State.setLatch_out (m : Nat) (x : Latch) : (s.setLatch m x).out = s.out := rfl
@[simp] theorem State.setLatch_mem (m : Nat) (x : Latch) : (s.setLatch m x).mem = s.mem := rfl
@[simp] theorem State.setLatch_bound (m : Nat) (x : Latch) : (s.setLatch m x).bound = s.bound := rfl
@[simp] theorem State.setLatch_rnd (m : Nat) (x : Latch) : (s.setLatch m x).rnd = s.rnd := rfl
@[simp] theorem State.setLatch_evq (m : Nat) (x : Latch) : (s.setLatch m x).evq = s.evq := rfl
@[simp] theorem State.setLatch_fresh (m : Nat) (x : Latch) : (s.setLatch m x).fresh = s.fresh := rfl
@[simp] theorem State.setLatch_ul (m : Nat) (x : Latch) : (s.setLatch m x).ul = s.ul := rfl
@[simp] theorem State.setLatch_al (m : Nat) (x : Latch) : (s.setLatch m x).al = s.al := rfl
@[simp] theorem State.setLatch_bd (m : Nat) (x : Latch) : (s.setLatch m x).bd = s.bd := rfl
@[simp] theorem State.setLatch_ag (m : Nat) (x : Latch) : (s.setLatch m x).ag = s.ag := rfl
@[simp] theorem State.setLatch_ba (m : Nat) (x : Latch) : (s.setLatch m x).ba = s.ba := rfl
@[simp] theorem State.setLatch_ig (m : Nat) (x : Latch) : (s.setLatch m x).ig = s.ig := rfl
@[simp] theorem State.setLatch_rf (m : Nat) (x : Latch) : (s.setLatch m x).rf = s.rf := rfl
@[simp] theorem State.setLatch_tb (m : Nat) (x : Latch) : (s.setLatch m x).tb = s.tb := rfl
@[simp] theorem State.setLatch_pt (m : Nat) (x : Latch) : (s.setLatch m x).pt = s.pt := rfl
@[simp] theorem State.setLatch_ck (m : Nat) (x : Latch) : (s.setLatch m x).ck = s.ck := rfl
@[simp] theorem State.setLatch_hm (m : Nat) (x : Latch) : (s.setLatch m x).hm = s.hm := rfl
@[simp] theorem State.setLatch_pe (m : Nat) (x : Latch) : (s.setLatch m x).pe = s.pe := rfl
@[simp] theorem State.setLatch_xb (m : Nat) (x : Latch) : (s.setLatch m x).xb = s.xb := rfl
@[simp] theorem State.setLatch_ev (m : Nat) (x : Latch) : (s.setLatch m x).ev = s.ev := rfl
@[simp] theorem State.setLatch_sp (m : Nat) (x : Latch) : (s.setLatch m x).sp = s.sp := rfl
@[simp] theorem State.setLatch_au (m : Nat) (x : Latch) : (s.setLatch m x).au = s.au := rfl
@[simp] theorem State.setLatch_ot (m : Nat) (x : Latch) : (s.setLatch m x).ot = s.ot := rfl
@[simp] theorem State.setLatch_cs (m : Nat) (x : Latch) : (s.setLatch m x).cs = s.cs := rfl
@[simp] theorem State.setLatch_cf (m : Nat) (x : Latch) : (s.setLatch m x).cf = s.cf := rfl
@[simp] theorem State.setLatch_mg (m : Nat) (x : Latch) : (s.setLatch m x).mg = s.mg := rfl
@[simp] theorem State.setLatch_io (m : Nat) (x : Latch) : (s.setLatch m x).io = s.io := rfl

/-- An interrupt changes registers, messages and the state of the PCIe side, and nothing else. -/
theorem State.irq_frame (k : Nat) : ∃ c o p, s.irq k = { s with csr := c, out := o, pe := p } := by
  unfold State.irq
  split
  · dsimp only
    split
    · exact ⟨s.csr, s.out, s.pe, rfl⟩
    · split <;> exact ⟨_, _, _, rfl⟩
  · exact ⟨s.csr, s.out, s.pe, rfl⟩

/-- Setting a flag changes registers, what is sent, and the states of the PCIe side and the balls, and nothing else. -/
theorem State.flag_frame (r : FRef) : ∃ c o p i, s.flag r = { s with csr := c, out := o, pe := p, io := i } := by
  unfold State.flag State.when
  dsimp only
  split
  · split
    · exact ⟨_, _, _, _, rfl⟩
    · obtain ⟨c, o, p, h⟩ := State.irq_frame (s.smbAlert.wr r 1) (r.a / 0x100000)
      exact ⟨c, o, p, _, h⟩
  · split
    · exact ⟨s.csr, s.out, s.pe, s.io, rfl⟩
    · obtain ⟨c, o, p, h⟩ := State.irq_frame (s.wr r 1) (r.a / 0x100000)
      exact ⟨c, o, p, _, h⟩

@[simp] theorem State.irq_pending (k : Nat) : (s.irq k).pending = s.pending := by
  obtain ⟨_, _, _, h⟩ := s.irq_frame k; rw [h]
@[simp] theorem State.irq_part (k : Nat) : (s.irq k).part = s.part := by
  obtain ⟨_, _, _, h⟩ := s.irq_frame k; rw [h]
@[simp] theorem State.irq_latch (k : Nat) : (s.irq k).latch = s.latch := by
  obtain ⟨_, _, _, h⟩ := s.irq_frame k; rw [h]
@[simp] theorem State.irq_resp (k : Nat) : (s.irq k).resp = s.resp := by
  obtain ⟨_, _, _, h⟩ := s.irq_frame k; rw [h]
@[simp] theorem State.irq_mem (k : Nat) : (s.irq k).mem = s.mem := by
  obtain ⟨_, _, _, h⟩ := s.irq_frame k; rw [h]
@[simp] theorem State.irq_bound (k : Nat) : (s.irq k).bound = s.bound := by
  obtain ⟨_, _, _, h⟩ := s.irq_frame k; rw [h]
@[simp] theorem State.irq_rnd (k : Nat) : (s.irq k).rnd = s.rnd := by
  obtain ⟨_, _, _, h⟩ := s.irq_frame k; rw [h]
@[simp] theorem State.irq_evq (k : Nat) : (s.irq k).evq = s.evq := by
  obtain ⟨_, _, _, h⟩ := s.irq_frame k; rw [h]
@[simp] theorem State.irq_fresh (k : Nat) : (s.irq k).fresh = s.fresh := by
  obtain ⟨_, _, _, h⟩ := s.irq_frame k; rw [h]
@[simp] theorem State.irq_ul (k : Nat) : (s.irq k).ul = s.ul := by
  obtain ⟨_, _, _, h⟩ := s.irq_frame k; rw [h]
@[simp] theorem State.irq_al (k : Nat) : (s.irq k).al = s.al := by
  obtain ⟨_, _, _, h⟩ := s.irq_frame k; rw [h]
@[simp] theorem State.irq_bd (k : Nat) : (s.irq k).bd = s.bd := by
  obtain ⟨_, _, _, h⟩ := s.irq_frame k; rw [h]
@[simp] theorem State.irq_ag (k : Nat) : (s.irq k).ag = s.ag := by
  obtain ⟨_, _, _, h⟩ := s.irq_frame k; rw [h]
@[simp] theorem State.irq_ba (k : Nat) : (s.irq k).ba = s.ba := by
  obtain ⟨_, _, _, h⟩ := s.irq_frame k; rw [h]
@[simp] theorem State.irq_ig (k : Nat) : (s.irq k).ig = s.ig := by
  obtain ⟨_, _, _, h⟩ := s.irq_frame k; rw [h]
@[simp] theorem State.irq_rf (k : Nat) : (s.irq k).rf = s.rf := by
  obtain ⟨_, _, _, h⟩ := s.irq_frame k; rw [h]
@[simp] theorem State.irq_tb (k : Nat) : (s.irq k).tb = s.tb := by
  obtain ⟨_, _, _, h⟩ := s.irq_frame k; rw [h]
@[simp] theorem State.irq_pt (k : Nat) : (s.irq k).pt = s.pt := by
  obtain ⟨_, _, _, h⟩ := s.irq_frame k; rw [h]
@[simp] theorem State.irq_ck (k : Nat) : (s.irq k).ck = s.ck := by
  obtain ⟨_, _, _, h⟩ := s.irq_frame k; rw [h]
@[simp] theorem State.irq_hm (k : Nat) : (s.irq k).hm = s.hm := by
  obtain ⟨_, _, _, h⟩ := s.irq_frame k; rw [h]
@[simp] theorem State.irq_xb (k : Nat) : (s.irq k).xb = s.xb := by
  obtain ⟨_, _, _, h⟩ := s.irq_frame k; rw [h]
@[simp] theorem State.irq_ev (k : Nat) : (s.irq k).ev = s.ev := by
  obtain ⟨_, _, _, h⟩ := s.irq_frame k; rw [h]
@[simp] theorem State.irq_sp (k : Nat) : (s.irq k).sp = s.sp := by
  obtain ⟨_, _, _, h⟩ := s.irq_frame k; rw [h]
@[simp] theorem State.irq_au (k : Nat) : (s.irq k).au = s.au := by
  obtain ⟨_, _, _, h⟩ := s.irq_frame k; rw [h]
@[simp] theorem State.irq_ot (k : Nat) : (s.irq k).ot = s.ot := by
  obtain ⟨_, _, _, h⟩ := s.irq_frame k; rw [h]
@[simp] theorem State.irq_cs (k : Nat) : (s.irq k).cs = s.cs := by
  obtain ⟨_, _, _, h⟩ := s.irq_frame k; rw [h]
@[simp] theorem State.irq_cf (k : Nat) : (s.irq k).cf = s.cf := by
  obtain ⟨_, _, _, h⟩ := s.irq_frame k; rw [h]
@[simp] theorem State.irq_mg (k : Nat) : (s.irq k).mg = s.mg := by
  obtain ⟨_, _, _, h⟩ := s.irq_frame k; rw [h]
@[simp] theorem State.irq_io (k : Nat) : (s.irq k).io = s.io := by
  obtain ⟨_, _, _, h⟩ := s.irq_frame k; rw [h]

@[simp] theorem State.flag_pending (r : FRef) : (s.flag r).pending = s.pending := by
  obtain ⟨_, _, _, _, h⟩ := s.flag_frame r; rw [h]
@[simp] theorem State.flag_part (r : FRef) : (s.flag r).part = s.part := by
  obtain ⟨_, _, _, _, h⟩ := s.flag_frame r; rw [h]
@[simp] theorem State.flag_latch (r : FRef) : (s.flag r).latch = s.latch := by
  obtain ⟨_, _, _, _, h⟩ := s.flag_frame r; rw [h]
@[simp] theorem State.flag_resp (r : FRef) : (s.flag r).resp = s.resp := by
  obtain ⟨_, _, _, _, h⟩ := s.flag_frame r; rw [h]
@[simp] theorem State.flag_mem (r : FRef) : (s.flag r).mem = s.mem := by
  obtain ⟨_, _, _, _, h⟩ := s.flag_frame r; rw [h]
@[simp] theorem State.flag_bound (r : FRef) : (s.flag r).bound = s.bound := by
  obtain ⟨_, _, _, _, h⟩ := s.flag_frame r; rw [h]
@[simp] theorem State.flag_rnd (r : FRef) : (s.flag r).rnd = s.rnd := by
  obtain ⟨_, _, _, _, h⟩ := s.flag_frame r; rw [h]
@[simp] theorem State.flag_evq (r : FRef) : (s.flag r).evq = s.evq := by
  obtain ⟨_, _, _, _, h⟩ := s.flag_frame r; rw [h]
@[simp] theorem State.flag_fresh (r : FRef) : (s.flag r).fresh = s.fresh := by
  obtain ⟨_, _, _, _, h⟩ := s.flag_frame r; rw [h]
@[simp] theorem State.flag_ul (r : FRef) : (s.flag r).ul = s.ul := by
  obtain ⟨_, _, _, _, h⟩ := s.flag_frame r; rw [h]
@[simp] theorem State.flag_al (r : FRef) : (s.flag r).al = s.al := by
  obtain ⟨_, _, _, _, h⟩ := s.flag_frame r; rw [h]
@[simp] theorem State.flag_bd (r : FRef) : (s.flag r).bd = s.bd := by
  obtain ⟨_, _, _, _, h⟩ := s.flag_frame r; rw [h]
@[simp] theorem State.flag_ag (r : FRef) : (s.flag r).ag = s.ag := by
  obtain ⟨_, _, _, _, h⟩ := s.flag_frame r; rw [h]
@[simp] theorem State.flag_ba (r : FRef) : (s.flag r).ba = s.ba := by
  obtain ⟨_, _, _, _, h⟩ := s.flag_frame r; rw [h]
@[simp] theorem State.flag_ig (r : FRef) : (s.flag r).ig = s.ig := by
  obtain ⟨_, _, _, _, h⟩ := s.flag_frame r; rw [h]
@[simp] theorem State.flag_rf (r : FRef) : (s.flag r).rf = s.rf := by
  obtain ⟨_, _, _, _, h⟩ := s.flag_frame r; rw [h]
@[simp] theorem State.flag_tb (r : FRef) : (s.flag r).tb = s.tb := by
  obtain ⟨_, _, _, _, h⟩ := s.flag_frame r; rw [h]
@[simp] theorem State.flag_pt (r : FRef) : (s.flag r).pt = s.pt := by
  obtain ⟨_, _, _, _, h⟩ := s.flag_frame r; rw [h]
@[simp] theorem State.flag_ck (r : FRef) : (s.flag r).ck = s.ck := by
  obtain ⟨_, _, _, _, h⟩ := s.flag_frame r; rw [h]
@[simp] theorem State.flag_hm (r : FRef) : (s.flag r).hm = s.hm := by
  obtain ⟨_, _, _, _, h⟩ := s.flag_frame r; rw [h]
@[simp] theorem State.flag_xb (r : FRef) : (s.flag r).xb = s.xb := by
  obtain ⟨_, _, _, _, h⟩ := s.flag_frame r; rw [h]
@[simp] theorem State.flag_ev (r : FRef) : (s.flag r).ev = s.ev := by
  obtain ⟨_, _, _, _, h⟩ := s.flag_frame r; rw [h]
@[simp] theorem State.flag_sp (r : FRef) : (s.flag r).sp = s.sp := by
  obtain ⟨_, _, _, _, h⟩ := s.flag_frame r; rw [h]
@[simp] theorem State.flag_au (r : FRef) : (s.flag r).au = s.au := by
  obtain ⟨_, _, _, _, h⟩ := s.flag_frame r; rw [h]
@[simp] theorem State.flag_ot (r : FRef) : (s.flag r).ot = s.ot := by
  obtain ⟨_, _, _, _, h⟩ := s.flag_frame r; rw [h]
@[simp] theorem State.flag_cs (r : FRef) : (s.flag r).cs = s.cs := by
  obtain ⟨_, _, _, _, h⟩ := s.flag_frame r; rw [h]
@[simp] theorem State.flag_cf (r : FRef) : (s.flag r).cf = s.cf := by
  obtain ⟨_, _, _, _, h⟩ := s.flag_frame r; rw [h]
@[simp] theorem State.flag_mg (r : FRef) : (s.flag r).mg = s.mg := by
  obtain ⟨_, _, _, _, h⟩ := s.flag_frame r; rw [h]

/-! ## Registers -/

@[simp] theorem State.word_setWord_same (a : Nat) (v : Word) : (s.setWord a v).word a = v := by
  simp [State.word, State.setWord]

theorem State.word_setWord_ne {a b : Nat} (v : Word) (h : b ≠ a) : (s.setWord a v).word b = s.word b := by
  simp only [State.word, State.setWord]
  exact smapGet_set_ne _ _ _ _ h

theorem getBits_lt (x lo w : Nat) : getBits x lo w < 2 ^ w := Nat.mod_lt _ (Nat.two_pow_pos w)

theorem getBits_testBit (x lo w i : Nat) : (getBits x lo w).testBit i = (decide (i < w) && x.testBit (lo + i)) := by
  simp [getBits, Nat.testBit_mod_two_pow, Nat.testBit_shiftRight]

/-- The bits of a number with a field replaced. -/
theorem putBits_testBit (x lo w v i : Nat) : (putBits x lo w v).testBit i =
    if i < lo then x.testBit i else if i < lo + w then v.testBit (i - lo) else x.testBit i := by
  have e : putBits x lo w v = 2 ^ lo * (2 ^ w * (x >>> (lo + w)) + v % 2 ^ w) + x % 2 ^ lo := by
    unfold putBits; ring
  rw [e, Nat.testBit_two_pow_mul_add _ (Nat.mod_lt _ (Nat.two_pow_pos lo))]
  by_cases h : i < lo
  · simp [h, Nat.testBit_mod_two_pow]
  · rw [if_neg h, if_neg h, Nat.testBit_two_pow_mul_add _ (Nat.mod_lt _ (Nat.two_pow_pos w))]
    by_cases g : i < lo + w
    · have : i - lo < w := by omega
      simp [g, this, Nat.testBit_mod_two_pow]
    · have h1 : ¬ i - lo < w := by omega
      have h2 : lo + w + (i - lo - w) = i := by omega
      simp [g, h1, Nat.testBit_shiftRight, h2]

theorem putBits_lt {x lo w v : Nat} (hx : x < 2 ^ 32) (h : lo + w ≤ 32) : putBits x lo w v < 2 ^ 32 := by
  apply Nat.lt_pow_two_of_testBit
  intro i hi
  have hxi : x.testBit i = false := Nat.testBit_eq_false_of_lt (lt_of_lt_of_le hx (Nat.pow_le_pow_right (by decide) hi))
  have h1 : ¬ i < lo := by omega
  have h2 : ¬ i < lo + w := by omega
  simp [putBits_testBit, h1, h2, hxi]

theorem getBits_putBits_same (x lo w v : Nat) : getBits (putBits x lo w v) lo w = v % 2 ^ w := by
  apply Nat.eq_of_testBit_eq
  intro i
  rw [getBits_testBit, putBits_testBit, Nat.testBit_mod_two_pow]
  have h1 : ¬ lo + i < lo := by omega
  by_cases h : i < w
  · have h2 : lo + i < lo + w := by omega
    simp [h]
  · simp [h]

theorem getBits_putBits_disjoint {x lo w v lo' w' : Nat} (h : lo' + w' ≤ lo ∨ lo + w ≤ lo') :
    getBits (putBits x lo w v) lo' w' = getBits x lo' w' := by
  apply Nat.eq_of_testBit_eq
  intro i
  rw [getBits_testBit, getBits_testBit, putBits_testBit]
  by_cases g : i < w'
  · rcases h with h | h
    · have : lo' + i < lo := by omega
      simp [this]
    · have h1 : ¬ lo' + i < lo := by omega
      have h2 : ¬ lo' + i < lo + w := by omega
      simp [h1, h2]
  · simp [g]

theorem State.word_wr (f : FRef) (v : Nat) (h : f.lo + f.w ≤ 32) :
    ((s.wr f v).word f.a).toNat = putBits (s.word f.a).toNat f.lo f.w v := by
  simp only [State.wr, State.word_setWord_same, BitVec.toNat_ofNat]
  exact Nat.mod_eq_of_lt (putBits_lt (s.word f.a).isLt h)

theorem State.word_wr_ne {f : FRef} {a : Nat} (v : Nat) (h : a ≠ f.a) : (s.wr f v).word a = s.word a :=
  s.word_setWord_ne _ h

/-- A field reads what was written to it. -/
theorem State.rd_wr_same (f : FRef) (v : Nat) (h : f.lo + f.w ≤ 32) : (s.wr f v).rd f = v % 2 ^ f.w := by
  simp only [State.rd, s.word_wr f v h, getBits_putBits_same]

/-- A write of a field leaves every field of another word alone. -/
theorem State.rd_wr_ne {f g : FRef} (v : Nat) (h : g.a ≠ f.a) : (s.wr f v).rd g = s.rd g := by
  simp only [State.rd, s.word_wr_ne v h]

/-- A write of a field leaves the other fields of its word alone. -/
theorem State.rd_wr_disjoint {f g : FRef} (v : Nat) (h : f.lo + f.w ≤ 32) (ha : g.a = f.a)
    (hd : g.lo + g.w ≤ f.lo ∨ f.lo + f.w ≤ g.lo) : (s.wr f v).rd g = s.rd g := by
  simp only [State.rd, ha, s.word_wr f v h, getBits_putBits_disjoint hd]

theorem State.word_incBy_same (a n : Nat) : ((s.incBy a n).word a).toNat = min ((s.word a).toNat + n) 0xFFFFFFFF := by
  simp only [State.incBy, State.word_setWord_same, BitVec.toNat_ofNat]
  exact Nat.mod_eq_of_lt (by omega)

theorem State.word_incBy_ne {a b : Nat} (n : Nat) (h : b ≠ a) : (s.incBy a n).word b = s.word b := s.word_setWord_ne _ h

/-- A register's word follows from the map of registers alone. -/
theorem State.word_of_csr {s t : State} (h : t.csr = s.csr) (a : Nat) : t.word a = s.word a := by
  simp only [State.word, h]

theorem State.rd_of_csr {s t : State} (h : t.csr = s.csr) (f : FRef) : t.rd f = s.rd f := by
  simp only [State.rd, State.word_of_csr h]

@[simp] theorem State.word_emit (e : Emit) (a : Nat) : (s.emit e).word a = s.word a := rfl
@[simp] theorem State.rd_emit (e : Emit) (f : FRef) : (s.emit e).rd f = s.rd f := rfl
@[simp] theorem State.word_fire (e a : Nat) : (s.fire e).word a = s.word a := rfl
@[simp] theorem State.rd_fire (e : Nat) (f : FRef) : (s.fire e).rd f = s.rd f := rfl
@[simp] theorem State.word_okResp (bs : Bytes) (a : Nat) : (s.okResp bs).word a = s.word a := rfl
@[simp] theorem State.rd_okResp (bs : Bytes) (f : FRef) : (s.okResp bs).rd f = s.rd f := rfl
@[simp] theorem State.word_health (x u v d n a : Nat) : (s.health x u v d n).word a = s.word a := rfl
@[simp] theorem State.rd_health (x u v d n : Nat) (f : FRef) : (s.health x u v d n).rd f = s.rd f := rfl
@[simp] theorem State.word_smbAlert (a : Nat) : s.smbAlert.word a = s.word a := rfl
@[simp] theorem State.rd_smbAlert (f : FRef) : s.smbAlert.rd f = s.rd f := rfl
@[simp] theorem State.word_setBytes (x : Nat) (bs : Bytes) (a : Nat) : (s.setBytes x bs).word a = s.word a := rfl
@[simp] theorem State.rd_setBytes (x : Nat) (bs : Bytes) (f : FRef) : (s.setBytes x bs).rd f = s.rd f := rfl

/-- An interrupt changes no register but the count of messages sent. -/
theorem State.word_irq (k : Nat) {a : Nat} (h : a ≠ R.PE_CNT 2) : (s.irq k).word a = s.word a := by
  unfold State.irq
  split
  · dsimp only
    split
    · rfl
    · split
      · rfl
      · simp only [State.msix, State.inc]
        rw [State.word_incBy_ne _ _ h]; rfl
  · rfl

theorem State.rd_irq (k : Nat) {f : FRef} (h : f.a ≠ R.PE_CNT 2) : (s.irq k).rd f = s.rd f := by
  simp only [State.rd, s.word_irq k h]

/-- Setting a flag sets it. -/
theorem State.rd_flag_same (f : FRef) (h : f.lo + f.w ≤ 32) (hw : f.w = 1) (hp : f.a ≠ R.PE_CNT 2) :
    (s.flag f).rd f = 1 := by
  have hon : ∀ t : State, t.on f = true → t.rd f = 1 := by
    intro t ht
    have h1 := getBits_lt (t.word f.a).toNat f.lo f.w
    simp only [State.on, State.rd, bne_iff_ne, ne_eq] at ht ⊢
    rw [hw] at h1 ht ⊢
    omega
  unfold State.flag
  dsimp only
  split
  · next h1 => exact hon _ h1
  · rw [State.rd_irq _ _ hp, State.rd_wr_same _ _ _ h, hw]
    rfl

/-- Setting a flag changes no other word but the count of messages sent. -/
theorem State.word_flag_ne (f : FRef) {a : Nat} (ha : a ≠ f.a) (hp : a ≠ R.PE_CNT 2) : (s.flag f).word a = s.word a := by
  have hw : ∀ c : Bool, (s.when c State.smbAlert).word a = s.word a := by
    intro c; cases c <;> rfl
  unfold State.flag
  dsimp only
  split
  · exact hw _
  · rw [State.word_irq _ _ hp, State.word_wr_ne _ _ ha]
    exact hw _

theorem State.rd_flag_ne (f : FRef) {g : FRef} (ha : g.a ≠ f.a) (hp : g.a ≠ R.PE_CNT 2) : (s.flag f).rd g = s.rd g := by
  simp only [State.rd, s.word_flag_ne f ha hp]

/-- Setting a flag leaves the other fields of its register alone. -/
theorem State.rd_flag_disjoint (f : FRef) {g : FRef} (h : f.lo + f.w ≤ 32) (ha : g.a = f.a)
    (hd : g.lo + g.w ≤ f.lo ∨ f.lo + f.w ≤ g.lo) (hp : g.a ≠ R.PE_CNT 2) : (s.flag f).rd g = s.rd g := by
  have hw : ∀ c : Bool, (s.when c State.smbAlert).rd g = s.rd g := by
    intro c; cases c <;> rfl
  unfold State.flag
  dsimp only
  split
  · exact hw _
  · rw [State.rd_irq _ _ hp, State.rd_wr_disjoint _ _ h ha hd]
    exact hw _

/-! ## HBM bytes -/

theorem memGet_nil (m : Memory) (a : Nat) : memGet m a 0 = [] := rfl

/-- A byte outside those written reads as before. -/
theorem memPut_ne (bs : Bytes) : ∀ (m : Memory) (a b : Nat), (b < a ∨ a + bs.length ≤ b) →
    smapGet 0 (memPut m a bs) b = smapGet 0 m b := by
  induction bs with
  | nil => intro m a b _; rfl
  | cons x r ih =>
    intro m a b h
    simp only [List.length_cons] at h
    rw [memPut, ih _ _ _ (by omega), smapGet_set_ne _ _ _ _ (by omega)]

/-- A byte written reads back. -/
theorem memPut_same (bs : Bytes) : ∀ (m : Memory) (a i : Nat) (h : i < bs.length),
    smapGet 0 (memPut m a bs) (a + i) = bs[i] := by
  induction bs with
  | nil => intro m a i h; simp at h
  | cons x r ih =>
    intro m a i h
    cases i with
    | zero => rw [memPut, memPut_ne _ _ _ _ (Or.inl (by omega))]; simp
    | succ k =>
      have : a + (k + 1) = (a + 1) + k := by omega
      have hk : k < r.length := by simpa using h
      rw [memPut, this, ih _ _ _ hk]
      simp

theorem State.byte_setBytes_ne (a b : Nat) (bs : Bytes) (h : b < a ∨ a + bs.length ≤ b) :
    (s.setBytes a bs).byte b = s.byte b := memPut_ne bs s.mem a b h

theorem State.byte_setBytes_same (a i : Nat) (bs : Bytes) (h : i < bs.length) :
    (s.setBytes a bs).byte (a + i) = bs[i] := memPut_same bs s.mem a i h

/-- A write of a byte keeps a memory's canonical form. -/
theorem Memory.wf_set {m : Memory} (h : m.wf = true) (a : Nat) (v : Byte) : Memory.wf (smapSet 0 m a v) = true :=
  smapSet_wf (fun _ => (0 : Byte)) m a v h

/-- A write of bytes keeps a memory's canonical form. -/
theorem Memory.wf_put (bs : Bytes) : ∀ {m : Memory} (a : Nat), m.wf = true → Memory.wf (memPut m a bs) = true := by
  induction bs with
  | nil => intro m a h; exact h
  | cons x r ih => intro m a h; exact ih (a + 1) (Memory.wf_set h a x)

theorem Memory.wf_nil : Memory.wf [] = true := rfl

end Sys2Proof.Machine
end

