-- ==== Sys2Proof/Laws/Ports.lean ====
section
/-! SUPPORT. The laws of ports: what sending a cell, changing the locked lanes and changing a port's state do to registers. -/

namespace Sys2Proof.Machine

variable (s : State)

/-- A fold of steps that each keep the registers keeps them. -/
theorem State.fold_csr {α : Type} (l : List α) (f : State → α → State) (h : ∀ t x, (f t x).csr = t.csr) :
    ∀ s : State, (s.fold l f).csr = s.csr := by
  unfold State.fold
  induction l with
  | nil => intro s; rfl
  | cons x r ih => intro s; rw [List.foldl_cons, ih, h]

@[simp] theorem State.setUlp_csr (p : Nat) (x : UlPort) : (s.setUlp p x).csr = s.csr := rfl

@[simp] theorem State.ulp_setUlp_same (p : Nat) (x : UlPort) : (s.setUlp p x).ulp p = x := by
  simp [State.ulp, State.setUlp]

theorem State.ulp_setUlp_ne {p q : Nat} (x : UlPort) (h : q ≠ p) : (s.setUlp p x).ulp q = s.ulp q :=
  smapGet_set_ne _ _ _ _ h

@[simp] theorem State.sendCell_csr (p k : Nat) (b : Bytes) : (s.sendCell p k b).csr = s.csr := rfl

@[simp] theorem State.sendUncounted_csr (p l k : Nat) (b : Bytes) : (s.sendUncounted p l k b).csr = s.csr := rfl

@[simp] theorem State.idleFill_csr (p : Nat) : (s.idleFill p).csr = s.csr := rfl

@[simp] theorem State.sendPacket_csr (p : Nat) (b : Bytes) : (s.sendPacket p b).csr = s.csr := by
  unfold State.sendPacket
  exact State.fold_csr _ _ (fun _ _ => by simp) _

@[simp] theorem State.statusSend_csr (p : Nat) : (s.statusSend p).csr = s.csr := by
  unfold State.statusSend
  split <;> simp

@[simp] theorem State.rd_statusSend (p : Nat) (f : FRef) : (s.statusSend p).rd f = s.rd f :=
  State.rd_of_csr (s.statusSend_csr p) f

@[simp] theorem State.rd_setUlp (p : Nat) (x : UlPort) (f : FRef) : (s.setUlp p x).rd f = s.rd f := rfl

@[simp] theorem State.rd_sendPacket (p : Nat) (b : Bytes) (f : FRef) : (s.sendPacket p b).rd f = s.rd f :=
  State.rd_of_csr (s.sendPacket_csr p b) f

/-- The state field of a port stands in bits 2 to 0 of its status register. -/
theorem portState_lo (p : Nat) : (portState p).lo = 0 ∧ (portState p).w = 3 := by
  unfold portState; split <;> exact ⟨rfl, rfl⟩

/-- A change of the locked lanes leaves a field of another register alone. -/
theorem State.rd_setLanes (p m : Nat) {f : FRef}
    (h : f.a ≠ (portField p R.IN_PORTSTAT_lane_lock R.CS_PORTSTAT_lane_lock).a ∨ f.lo + f.w ≤ 4) :
    (s.setLanes p m).rd f = s.rd f := by
  have hl : (portField p R.IN_PORTSTAT_lane_lock R.CS_PORTSTAT_lane_lock).lo = 4
      ∧ (portField p R.IN_PORTSTAT_lane_lock R.CS_PORTSTAT_lane_lock).w = 4 := by
    unfold portField; split <;> exact ⟨rfl, rfl⟩
  unfold State.setLanes
  dsimp only
  split
  · rfl
  · rw [State.rd_statusSend]
    rcases h with h | h
    · exact State.rd_wr_ne _ _ h
    · by_cases ha : f.a = (portField p R.IN_PORTSTAT_lane_lock R.CS_PORTSTAT_lane_lock).a
      · exact State.rd_wr_disjoint _ _ (by omega) ha (by omega)
      · exact State.rd_wr_ne _ _ ha

/-- What a port's state field holds after its state is set. -/
theorem State.rd_setPort (p : Nat) {x : Nat} (hp : p < 17) (hx : x < 8) : (s.setPort p x).rd (portState p) = x := by
  have hw : (s.wr (portState p) x).rd (portState p) = x := by
    have h := portState_lo p
    rw [State.rd_wr_same _ _ _ (by omega), h.2]
    omega
  have hne : ∀ f : FRef, f.a = R.IN_STATUS → (portState p).a ≠ f.a := by
    intro f hf e
    unfold portState at e
    rw [hf] at e
    split at e
    · simp only [R.IN_PORTSTAT_state, R.IN_PORTSTAT, R.IN_STATUS] at e; omega
    · simp only [R.CS_PORTSTAT_state, R.CS_PORTSTAT, R.IN_STATUS] at e; omega
  unfold State.setPort
  dsimp only
  rw [State.rd_statusSend]
  split
  · rw [State.rd_fire, State.showActive, State.rd_wr_ne _ _ (hne _ rfl), State.rd_wr_ne _ _ (hne _ rfl), hw]
  · split
    · exact hw
    · rw [State.rd_wr_ne]
      · exact hw
      · unfold portState
        simp [R.CS_PORTSTAT_state, R.CS_PORTSTAT, R.CS_STATUS_cst_up, R.CS_STATUS, *]

end Sys2Proof.Machine
end

