-- ==== Sys2Proof/Laws/Write.lean ====
section
/-! SUPPORT. What a write of a register does, said once: the access checks, the value it leaves, and the register's own
effect. -/

namespace Sys2Proof.Machine

/-- A 32-bit register found at its own address is not the upper half of a pair. -/
theorem at_hi {r : Reg} {o : Nat} {l : Loc} (h : r.at? o = some l) (hp : l.reg.pair = false) : l.hi = false := by
  unfold Reg.at? at h
  split at h
  · cases h
  · split at h
    · cases h; rfl
    · split at h
      · cases h; simp_all
      · cases h
    · cases h

theorem locate_hi {a : Nat} {l : Loc} (h : locate a = some l) (hp : l.reg.pair = false) : l.hi = false := by
  obtain ⟨_, r, _, _, hr, _⟩ := List.findSome?_eq_some_iff.1 h
  exact at_hi hr hp

/-- A write of a register without a rule of its own that is accepted: the value is stored and the register's effect
follows. -/
theorem regWrite_effect {s : State} {m : Nat} {load : Bool} {l : Loc} {a base raw : Nat}
    (hf : s.foreign m load l (s.before l base) raw = false) (hb : s.barred m load l (s.before l base) raw = false)
    (hw : s.badWrite l (s.before l base) (s.merged m load l (s.before l base) raw) = none)
    (ho : s.ownWrite l base raw (s.before l base) (s.merged m load l (s.before l base) raw) = none) :
    s.regWrite m load l a base raw
      = (s.store l base (s.merged m load l (s.before l base) raw)).wrote s m l raw (s.before l base) := by
  unfold State.before at *
  simp only [State.regWrite, State.when, hf, hb, hw, Bool.false_eq_true, if_false, ho]

/-- A write that is accepted of a register with a rule of its own: that rule's outcome is the whole of it. -/
theorem regWrite_own {s u : State} {m : Nat} {load : Bool} {l : Loc} {a base raw : Nat}
    (hf : s.foreign m load l (s.before l base) raw = false) (hb : s.barred m load l (s.before l base) raw = false)
    (hw : s.badWrite l (s.before l base) (s.merged m load l (s.before l base) raw) = none)
    (ho : s.ownWrite l base raw (s.before l base) (s.merged m load l (s.before l base) raw) = some u) :
    s.regWrite m load l a base raw = u := by
  unfold State.before at *
  simp only [State.regWrite, State.when, hf, hb, hw, Bool.false_eq_true, if_false, ho]

/-- With no region load pending, no register is held off. -/
theorem held_none {s : State} (h : s.cf.pending = none) (a : Nat) (p : Bool) : s.held a p = false := by
  simp only [State.held, h]

/-- A write of a 32-bit register by a master goes to the register. -/
theorem csrCore_word {s : State} {m a : Nat} {v : Word} {l : Loc} (hl : locate a = some l) (hp : l.reg.pair = false)
    (hab : s.absent a l = false) (hc : s.cf.pending = none) (hu : s.unusable a = false) :
    s.csrCore m false a v = s.regWrite m false l a a v.toNat := by
  have hh := locate_hi hl hp
  simp only [State.csrCore, hl, hab, hp, hh, hu, held_none hc, Bool.and_false, Bool.false_and, Bool.or_false,
    Bool.false_eq_true, if_false]

/-- A write that reaches its register and is accepted is answered without an error, and does what the register's write does. -/
theorem writeWord_takes {s : State} {m a : Nat} {v : Word} (h : s.takes m a v) (hr : a ≠ R.MG_RRST_rst.a) :
    ∃ l, locate a = some l ∧ s.writeWord m a v = (s.regWrite m false l a a v.toNat).okResp [] := by
  obtain ⟨⟨-, hd, hc, hu⟩, l, hl, hp, hab, -, -, -⟩ := h
  exact ⟨l, hl, by simp only [State.writeWord, hd, State.csrWrite, if_neg hr, csrCore_word hl hp hab hc hu]⟩

/-- A write that reaches a 32-bit register without a rule of its own and is accepted: the value lands and the register's
effect follows. -/
theorem writeWord_effect {s : State} {m a : Nat} {v : Word} {l : Loc} (h : s.takes m a v) (hl : locate a = some l)
    (hr : a ≠ R.MG_RRST_rst.a)
    (ho : s.ownWrite l a v.toNat (s.before l a) (s.merged m false l (s.before l a) v.toNat) = none) :
    s.writeWord m a v = ((s.landed m a v).wrote s m l v.toNat (s.before l a)).okResp [] := by
  obtain ⟨k, hk, e⟩ := writeWord_takes h hr
  obtain ⟨-, k', hk', -, -, hf, hb, hw⟩ := h
  rw [hl] at hk hk'
  cases hk; cases hk'
  rw [e, regWrite_effect hf hb hw ho]
  simp only [State.landed, hl]

end Sys2Proof.Machine
end

