-- ==== Sys2Proof/Tests/Slice0.lean ====
section
/-! SUPPORT. Tests: the well-formedness checks refuse ill-formed commands, and for every statement states and operands that
meet the hypotheses of its clauses together, with what one step gives there. -/

namespace Sys2Proof.Tests

open Sys2Proof.Machine

set_option Elab.async false

/-! ## Small states -/

/-- The state after reset with some fields given values. -/
def st (l : List (FRef × Nat)) : State := l.foldl (fun s x => s.wr x.1 x.2) State.reset

/-- The words of a table with some fields given values. -/
def tab (l : List (FRef × Nat)) : SMap Word :=
  (l.map (fun x => x.1.a)).dedup.foldr (fun a m => smapSet (csrReset a) m a ((st l).word a)) []

/-- A packet: its header to check 4 of type `typ`, with the header CRC, and what follows it. -/
def packet (typ : Nat) (rest more : Bytes) : Bytes :=
  let h := leBytes 2 0x4C55 ++ leBytes 1 1 ++ leBytes 1 typ ++ rest
  h ++ leBytes 4 (crc32c h) ++ more

/-- A test of the state that a command answers. -/
def ans (c : Instr) (s : State) (f : State → Bool) : Bool :=
  match exec c s with
  | .next t => f t
  | _ => false

/-- A master's write reaches the CSR space, as a test. -/
def writableB (s : State) (m a : Nat) : Bool :=
  !s.off && (s.csrDenied m a true).isNone && s.cf.pending.isNone && !s.unusable a

theorem writableB_writable {s : State} {m a : Nat} (h : writableB s m a = true) : s.writable m a := by
  simp only [writableB, Bool.and_eq_true, Bool.not_eq_true', Option.isNone_iff_eq_none] at h
  exact ⟨h.1.1.1, h.1.1.2, h.1.2, h.2⟩

/-- A write reaches its register and is accepted whole, as a test. -/
def takesB (s : State) (m a : Nat) (v : Word) : Bool :=
  writableB s m a &&
    match locate a with
    | some l => !l.reg.pair && !s.absent a l && !s.foreign m false l (s.before l a) v.toNat
      && !s.barred m false l (s.before l a) v.toNat
      && (s.badWrite l (s.before l a) (s.merged m false l (s.before l a) v.toNat)).isNone
    | none => false

/-- The test says what it tests. -/
theorem takesB_takes {s : State} {m a : Nat} {v : Word} (h : takesB s m a v = true) : s.takes m a v := by
  unfold takesB at h
  split at h
  · next l hl =>
    simp only [Bool.and_eq_true, Bool.not_eq_true', Option.isNone_iff_eq_none] at h
    exact ⟨writableB_writable h.1, l, hl, h.2.1.1.1.1, h.2.1.1.1.2, h.2.1.1.2, h.2.1.2, h.2.2⟩
  · simp at h

/-- A master's read reaches the CSR space, as a test. -/
def readableB (s : State) (m a : Nat) : Bool := !s.off && (s.csrDenied m a false).isNone

theorem readableB_readable {s : State} {m a : Nat} (h : readableB s m a = true) : s.readable m a := by
  simp only [readableB, Bool.and_eq_true, Bool.not_eq_true', Option.isNone_iff_eq_none] at h
  exact h

/-- A packet passes checks 1 to 4, as a test. -/
def headB (s : State) (p : Nat) (bs : Bytes) (typ : Nat) : Bool :=
  s.portUp p && decide (s.bufUsed p + cellsOf bs.length ≤ 4096) && leAt bs 0 2 == 0x4C55 && byteAt bs 2 == 1
    && byteAt bs 3 == typ && crc32c (bs.take (headLen typ)) == leAt bs (headLen typ) 4

theorem headB_headOk {s : State} {p typ : Nat} {bs : Bytes} (h : headB s p bs typ = true) : s.headOk p bs typ := by
  simp only [headB, Bool.and_eq_true, decide_eq_true_eq, beq_iff_eq] at h
  exact ⟨h.1.1.1.1.1, h.1.1.1.1.2, h.1.1.1.2, h.1.1.2, h.1.2, h.2⟩

/-- The castling link brings a message, as a test. -/
def hearsB (s : State) (bs : Bytes) (msg claim : Nat) (body : Bytes) : Bool :=
  s.portUp 16 && s.on R.CS_CTL_en && castParse bs == some (msg, claim, body)

theorem hearsB_hears {s : State} {bs body : Bytes} {msg claim : Nat} (h : hearsB s bs msg claim body = true) :
    s.hears bs msg claim body := by
  simp only [hearsB, Bool.and_eq_true, beq_iff_eq] at h
  exact ⟨h.1.1, h.1.2, h.2⟩

/-- A PTP message reaches the engine of a port, as a test. -/
def ptpB (s : State) (p : Nat) (m : Bytes) (typ : Nat) : Bool :=
  s.ethUp p && s.ptpOn p && byteAt m 0 % 16 == typ && byteAt m 1 % 16 == 2 && byteAt m 4 == s.rd R.ET_PTPCTL_domain
    && decide (ptpLen typ ≤ m.length) && (!([2, 3, 10].contains typ) || s.on R.ET_PTPCTL_profile)
    && (!([1, 9].contains typ) || !s.on R.ET_PTPCTL_profile)

theorem ptpB_ptpHears {s : State} {p typ : Nat} {m : Bytes} (h : ptpB s p m typ = true) : s.ptpHears p m typ := by
  simp only [ptpB, Bool.and_eq_true, decide_eq_true_eq, beq_iff_eq, Bool.or_eq_true, Bool.not_eq_true'] at h
  obtain ⟨⟨⟨⟨⟨⟨⟨h1, h2⟩, h3⟩, h4⟩, h5⟩, h6⟩, h7⟩, h8⟩ := h
  refine ⟨h1, h2, h3, h4, h5, h6, fun ht => ?_, fun ht => ?_⟩
  · rcases h7 with h | h
    · simp [ht] at h
    · exact h
  · rcases h8 with h | h
    · simp [ht] at h
    · exact h

/-- A core that executes, as a test. -/
def readyB (s : State) (n : Nat) : Bool := !s.off && s.spRuns n && (s.core n).br.isNone && (s.core n).rpt.isNone

theorem readyB_ready {s : State} {n : Nat} (h : readyB s n = true) : s.aspReady n := by
  simp only [readyB, Bool.and_eq_true, Bool.not_eq_true', Option.isNone_iff_eq_none] at h
  exact ⟨h.1.1.1, h.1.1.2, h.1.2, h.2⟩


/-- A layout in which a group of one tile can open and the Beam Array can start: alignment runs on one antenna block and one
channel; group 0 has one tile, integrations of one round, its areas at 2^28 and 2^29 and start round 5; AG_CHRATE is 1 Hz; the
weight sets lie at 2^30 and 2^31; route 0 has 1,000 MB/s on Ethernet port 0, which is enabled. -/
def openable : State := { State.reset with csr := [
  (0x200000, 1), (0x200018, 0x1000), (0x400024, 1), (0x401000, 0x130), (0x401010, 5), (0x401018, 0x10000000),
  (0x401020, 0x20000000), (0x410000, 1), (0x500040, 0x40000000), (0x500048, 0x80000000), (0x602000, 0x3E80001), (0x701000, 1)] }

/-! ## Well-formed commands -/

/-- A list of zero bytes. -/
def nulls (n : Nat) : Bytes := List.replicate n 0

/-- An Opening whose self-test finds a line and position. -/
def opens (l : Nat × Nat) : Opening := ⟨false, 0, false, true, 0, true, 7, 0xFF, [], [l], true, 500⟩

/-- A wake-up with its events and the stacks' temperatures. -/
def wakes (events : BitVec 3) (n : Nat) : Wake := ⟨events, true, true, List.replicate n 40, 200⟩

/-- An HBM request of a class for a bank. -/
def arrives (cls bank : Nat) : HbmArrival := ⟨cls, bank, 0, 32, none⟩

/-- What a service finds. -/
def serves (ecc pc : Nat) : HbmService := ⟨false, 0, ecc, pc, 0, 0⟩

/-- Cells have 256 bytes and their bodies 252; at most four codewords overlap. -/
theorem wf_smoke_cells :
    (Instr.wf (.statusCellReceive 0 (nulls 252)) && !Instr.wf (.statusCellReceive 0 (nulls 251))) = true
    ∧ (Instr.wf (.alignmentCellReceive 0 0 false 0 (nulls 252)) && !Instr.wf (.alignmentCellReceive 0 0 false 0 (nulls 253))) = true
    ∧ (Instr.wf (.cellReceive 0 0 ⟨nulls 256, 0⟩) && !Instr.wf (.cellReceive 0 0 ⟨nulls 255, 0⟩)) = true
    ∧ (Instr.wf (.codewordReceive 0 0 0 4) && !Instr.wf (.codewordReceive 0 0 0 5)) = true := by
  refine ⟨?_, ?_, ?_, ?_⟩ <;> decide +kernel

/-- The lines of the Board are 0 to 23; a duplicated adder names a group below 63 or a profile below 2. -/
theorem wf_smoke_board :
    (Instr.wf (.plyStatusFinal ⟨[], [], [], [], [], [(23, [], [])]⟩)
      && !Instr.wf (.plyStatusFinal ⟨[], [], [], [], [], [(23, [], []), (24, [], [])]⟩)) = true
    ∧ (Instr.wf (.adderMismatch 0 false (.record 62 0 0 0 0)) && !Instr.wf (.adderMismatch 0 false (.record 63 0 0 0 0))) = true
    ∧ (Instr.wf (.adderMismatch 0 false (.detect 1 0 0 0)) && !Instr.wf (.adderMismatch 0 false (.detect 2 0 0 0))) = true
    ∧ (Instr.wf (.adderMismatch 0 false (.combine 5)) && Instr.wf (.energyCountUpdate 0 0 (List.replicate 7 0) (List.replicate 4 0))) = true
    ∧ (!Instr.wf (.energyCountUpdate 0 0 (List.replicate 6 0) (List.replicate 4 0))
      && !Instr.wf (.energyCountUpdate 0 0 (List.replicate 7 0) (List.replicate 5 0))) = true := by
  refine ⟨?_, ?_, ?_, ?_, ?_⟩ <;> decide +kernel

/-- Classes end at 5 and banks at 31; a stack has two pseudo-channels; each of the eight stacks has a temperature. -/
theorem wf_smoke_hbm :
    (Instr.wf (.hbmRequestServe 0 0 [arrives 5 31] [31] (serves 2 1))) = true
    ∧ (!Instr.wf (.hbmRequestServe 0 0 [arrives 6 31] [31] (serves 2 1))
      && !Instr.wf (.hbmRequestServe 0 0 [arrives 5 32] [31] (serves 2 1))) = true
    ∧ (!Instr.wf (.hbmRequestServe 0 0 [] [32] (serves 2 1)) && !Instr.wf (.hbmRequestServe 0 0 [] [] (serves 3 1))
      && !Instr.wf (.hbmRequestServe 0 0 [] [] (serves 2 2))) = true
    ∧ (Instr.wf (.scrubRead 0 0 31 0 1 0 0 0 0 false) && !Instr.wf (.scrubRead 0 0 32 0 1 0 0 0 0 false)
      && !Instr.wf (.scrubRead 0 0 31 0 2 0 0 0 0 false)) = true
    ∧ (Instr.wf (.selfRefreshExitDone (List.replicate 8 40)) && !Instr.wf (.selfRefreshExitDone (List.replicate 7 40))) = true := by
  refine ⟨?_, ?_, ?_, ?_, ?_⟩ <;> decide +kernel

/-- A burst has 1 to 1,024 bytes and a PCIe request 1 to 4,096; a link has at most 16 lanes and code 5. -/
theorem wf_smoke_fabric :
    (Instr.wf (.crossbarBurst 1 0 0 ⟨.read 1024, false⟩) && !Instr.wf (.crossbarBurst 1 0 0 ⟨.read 1025, false⟩)
      && !Instr.wf (.crossbarBurst 1 0 0 ⟨.write [], false⟩)) = true
    ∧ (Instr.wf (.pcieRequest .bar0 0 (.read 4096)) && !Instr.wf (.pcieRequest .bar0 0 (.read 4097))
      && !Instr.wf (.pcieRequest .bar0 0 (.read 0))) = true
    ∧ (Instr.wf (.masterReset 1 [⟨0, [none]⟩] 1) && !Instr.wf (.masterReset 1 [⟨0, []⟩] 1)) = true
    ∧ (Instr.wf (.pcieReset true ⟨5, 16⟩) && !Instr.wf (.pcieReset true ⟨6, 16⟩) && !Instr.wf (.perstNRelease ⟨5, 17⟩)) = true := by
  refine ⟨?_, ?_, ?_, ?_⟩ <;> decide +kernel

/-- The self-test names lines 0 to 23; a wake-up has an event; 64 sensors update; SMBus carries at most 32 bytes. -/
theorem wf_smoke_opening :
    (Instr.wf (.powerOn (opens (23, 64))) && !Instr.wf (.powerOn (opens (24, 0))) && !Instr.wf (.resetNAssert (opens (0, 65)))
      && !Instr.wf (.resetRequest (opens (24, 0)))) = true
    ∧ (Instr.wf (.wakePin (wakes 1 8)) && !Instr.wf (.wakePin (wakes 0 8)) && !Instr.wf (.wakeTime (wakes 1 7))
      && !Instr.wf (.smbusWake true (wakes 0 8))) = true
    ∧ (Instr.wf (.thermalSensorUpdate (List.replicate 64 0)) && !Instr.wf (.thermalSensorUpdate (List.replicate 63 0))) = true
    ∧ (Instr.wf (.smbusSetOffset true (nulls 32)) && !Instr.wf (.smbusSetOffset true (nulls 33))
      && !Instr.wf (.smbusWrite true (nulls 33)) && !Instr.wf (.smbusFirmwareAppend true (nulls 33) none)) = true := by
  refine ⟨?_, ?_, ?_, ?_⟩ <;> decide +kernel

/-! ## Link states -/

/-- Port 0 in DESKEW with alignment cells found on its four lanes at the instants of a list, in ns. -/
def deskewAt (l : List Nat) : State :=
  let s := st [(portState 0, 2)]
  s.setUlp 0 { s.ulp 0 with alAt := (l.zipIdx).foldl (fun m x => smapSet 0 m x.2 (x.1 + 1)) [] }

/-- Every clause of LinkStatesMove is met, with a skew of 200 ns and of 201 ns. -/
theorem wit_LinkStatesMove :
    (let s := st [(portState 0, 1)]; !s.off && s.rd (portState 0) == 1 && (15 : BitVec 4).toNat &&& s.laneMask 0 == s.laneMask 0) = true
    ∧ (let s := st [(portState 16, 1)]; !s.off && s.rd (portState 16) == 1
      && (15 : BitVec 4).toNat &&& s.laneMask 16 == s.laneMask 16) = true
    ∧ (let s := deskewAt [100, 300, 150, 120]; s.rd (portState 0) == 2
      && !((List.range (s.portLanes 0)).map (fun l => smapGet 0 (s.ulp 0).alAt l)).contains 0) = true
    ∧ (let s := deskewAt [100, 300]; s.rd (portState 0) == 2
      && ((List.range (s.portLanes 0)).map (fun l => smapGet 0 (s.ulp 0).alAt l)).contains 0) = true
    ∧ (let s := st [(portState 3, 3)]; s.portUp 3 && !s.on R.REF_STATUS_xo_lost
      && (7 : BitVec 4).toNat &&& s.laneMask 3 != s.laneMask 3) = true
    ∧ (let s := st [(portState 3, 1)]; s.rd (portState 3) == 1 && s.laneOpen 3) = true := by
  refine ⟨?_, ?_, ?_, ?_, ?_, ?_⟩ <;> decide +kernel

/-- R36: all configured lanes locked take a training port to DESKEW; three of four do not. -/
theorem test_lanesLocked :
    (ans (.lanesLocked 0 15) (st [(portState 0, 1)]) (fun t => t.rd (portState 0) == 2)) = true
    ∧ (ans (.lanesLocked 0 7) (st [(portState 0, 1)]) (fun t => t.rd (portState 0) == 1)) = true := by
  refine ⟨?_, ?_⟩ <;> decide +kernel

/-- R36: a timeout in TRAINING sets train_timeout; one in DESKEW without cells on every lane trains again. -/
theorem test_timeouts :
    (ans (.trainingTimeout 3) (st [(portState 3, 1)]) (fun t => t.rd (portState 3) == 1 && t.on (R.IN_PORTSTAT_train_timeout 3))) = true
    ∧ (ans (.deskewTimeout 0) (deskewAt [100, 300]) (fun t => t.rd (portState 0) == 1 && t.on (R.IN_PORTSTAT_deskew_tmo 0))) = true := by
  refine ⟨?_, ?_⟩ <;> decide +kernel

/-- R36: a skew of 200 ns takes the port UP; 201 ns trains it again with skew_err. -/
theorem test_deskewComplete :
    (ans (.deskewComplete 0) (deskewAt [100, 300, 150, 120]) (fun t => t.rd (portState 0) == 3
      && t.rd (R.IN_PORTSTAT_skew 0) == 200)) = true
    ∧ (ans (.deskewComplete 0) (deskewAt [100, 301, 150, 120]) (fun t => t.rd (portState 0) == 1
      && t.on (R.IN_PORTSTAT_skew_err 0))) = true := by
  refine ⟨?_, ?_⟩ <;> decide +kernel

/-- R36: a port that loses its link trains again with auto_retrain, else it is DOWN. -/
theorem test_portLinkLoss :
    (ans (.portLinkLoss 3 0) (st [(portState 3, 3), (R.IN_PORTCTL_auto_retrain 3, 1)]) (fun t => t.rd (portState 3) == 1
      && t.on (R.IN_PORTSTAT_went_down 3))) = true
    ∧ (ans (.portLinkLoss 16 0) (st [(portState 16, 3), (R.CS_PORTCTL_auto_retrain, 0)]) (fun t => t.rd (portState 16) == 4)) = true := by
  refine ⟨?_, ?_⟩ <;> decide +kernel

/-! ## Packets and cells received -/

/-- A sample packet of stream 0: channels 0 to 3, format 0, SC 0, one sample, with its payload CRC raised by `bad`. -/
def samplePkt (bad : Nat) : Bytes :=
  let pay : Bytes := [1, 2, 3, 4, 5, 6, 7, 8]
  packet 0 (leBytes 2 0 ++ leBytes 2 0 ++ leBytes 2 4 ++ leBytes 1 0 ++ leBytes 1 0 ++ leBytes 8 0 ++ leBytes 2 1 ++ leBytes 2 8
    ++ leBytes 4 0) (pay ++ leBytes 4 (crc32c pay + bad))

/-- Ingest runs, port 0 is UP, and stream 0 of the table is its four-channel stream. -/
def ingesting : State :=
  let s := st [(portState 0, 3), (R.IN_CTL_en, 1), (R.IN_CTL_fmt, 0)]
  { s with ul := { s.ul with tables := [(0, tab [(R.IN_STRA_en 0, 1), (R.IN_STRA_port 0, 0), (R.IN_STRB_c_num 0, 4),
    (R.IN_STRB_c_pkt 0, 4), (R.IN_STRB_spc_log2 0, 0), (R.IN_STRC_c_lo 0, 0)])] } }

/-- A timing packet with both validity flags: SC 5, its epoch 7 s and 9 ns, sent at 11 s and 13 ns. -/
def timingPkt : Bytes :=
  packet 1 (leBytes 2 0 ++ leBytes 1 4 ++ leBytes 1 3 ++ leBytes 8 5 ++ leBytes 6 7 ++ leBytes 4 9 ++ leBytes 2 0 ++ leBytes 8 0
    ++ leBytes 6 11 ++ leBytes 4 13 ++ leBytes 14 0) []

/-- A claim packet: a claim of 9 by serial 21. -/
def claimPkt : Bytes := packet 3 (leBytes 4 0 ++ leBytes 8 9 ++ leBytes 8 21 ++ leBytes 4 0) []

/-- A cell that is a whole packet, of seq 0. -/
def oneCell : Bytes := [5, 1, 0, BitVec.ofNat 8 (crc8 [5, 1, 0])] ++ List.replicate 252 0

/-- Every clause of PacketsTaken is met; a control body of 240 bytes is the longest. -/
theorem wit_PacketsTaken :
    (let s := ingesting; let b := samplePkt 0; !s.off && s.rxClean 0 && headB s 0 b 0 && (s.sampleCheck 0 b).isNone
      && crc32c ((b.drop 32).take (leAt b 22 2)) == leAt b (32 + leAt b 22 2) 4) = true
    ∧ (let s := ingesting; let b := timingPkt; headB s 0 b 1 && b.length == 64 && byteAt b 6 < 6 && byteAt b 7 == 3 && s.rxClean 0
      && allZero ((b.drop 26).take 2) && allZero ((b.drop 46).take 14) && s.refState 6 == 0 && s.refState 7 == 0) = true
    ∧ (let s := st [(portState 0, 3), (R.IN_PORTCTL_dom_en 0, 1), (R.IN_PORTCTL_dom 0, 15)]; let b := claimPkt; s.rxClean 0
      && headB s 0 b 3 && b.length == 32
      && allZero ((b.drop 6).take 2) && allZero ((b.drop 24).take 4) && s.on (R.IN_PORTCTL_dom_en 0)
      && decide (s.rq (R.IN_DOMCLM (s.rd (R.IN_PORTCTL_dom 0))) < leAt b 8 8)) = true := by
  refine ⟨?_, ?_, ?_⟩ <;> decide +kernel

/-- R47, R50: a sample packet goes to alignment, and one with a bad payload CRC goes there as corrupt. -/
theorem test_samplePacket :
    (ans (.samplePacketReceive 0 (samplePkt 0)) ingesting (fun t => t.ul.alignQ.map (fun x => (x.stream, x.chCount, x.corrupt)) == [(0, 4, false)])) = true
    ∧ (ans (.samplePacketReceive 0 (samplePkt 1)) ingesting (fun t => t.ul.alignQ.map (·.corrupt) == [true]
      && (t.word (R.IN_CNT 0 13)).toNat == 1)) = true := by
  refine ⟨?_, ?_⟩ <;> decide +kernel

/-- R43, R45, R46: what the other packets leave. -/
theorem test_otherPackets :
    (ans (.timingPacketReceive 0 timingPkt 0) ingesting (fun t => (t.ulp 0).tim.sc == 5 && (t.ulp 0).tim.epS == 7
      && (t.ulp 0).tim.epNs == 9)) = true
    ∧ (ans (.claimPacketReceive 0 claimPkt) (st [(portState 0, 3), (R.IN_PORTCTL_dom_en 0, 1), (R.IN_PORTCTL_dom 0, 15)])
      (fun t => t.rq (R.IN_DOMCLM 15) == 9)) = true := by
  refine ⟨?_, ?_⟩ <;> decide +kernel

/-- Every clause of CellsTaken is met, on ULP0 and on CST. -/
theorem wit_CellsTaken :
    (let s := st [(portState 0, 3), (R.IN_PORTSTAT_lane_lock 0, 15)]; !s.off && s.portUp 0
      && (s.rd (portField 0 R.IN_PORTSTAT_lane_lock R.CS_PORTSTAT_lane_lock)).testBit 3) = true
    ∧ (let s := st [(portState 16, 3), (R.CS_PORTSTAT_lane_lock, 15)]; s.portUp 16
      && (s.rd (portField 16 R.IN_PORTSTAT_lane_lock R.CS_PORTSTAT_lane_lock)).testBit 0) = true
    ∧ (let s := st [(portState 0, 3)]; s.portLanes 0 == 4 && byteAt oneCell 0 % 8 != 1 && smapGet 0 (s.ulp 0).overlap 1 == 0
      && (s.ulp 0).rxSlot % s.portLanes 0 != 1
      && smapGet [] (s.ulp 0).laneQ ((s.ulp 0).rxSlot % s.portLanes 0) == []) = true
    ∧ (let s := st [(portState 0, 3)]; (s.ulp 0).rxSlot % s.portLanes 0 == 0
      && (List.range 4).all (fun l => smapGet [] (s.ulp 0).laneQ l == [])
      && crc8 (oneCell.take 3) == byteAt oneCell 3 && byteAt oneCell 0 % 8 == 5 && (s.ulp 0).rxSeq == 0
      && crc8 ([1, 2, 3] : Bytes) != 0) = true
    ∧ (let s := st [(portState 0, 3)]; s.rxClean 0 && smapGet 0 (s.ulp 0).overlap 3 == 0) = true := by
  refine ⟨?_, ?_, ?_, ?_, ?_⟩ <;> decide +kernel

/-- R30, R31: an uncorrectable codeword discards cells of its lane; a cell that fails hcrc is counted and dropped. -/
theorem test_cells :
    (ans (.codewordReceive 0 3 2 4) (st [(portState 0, 3), (R.IN_PORTSTAT_lane_lock 0, 15)]) (fun t => smapGet 0 (t.ulp 0).overlap 3 == 4
      && (t.word (R.IN_CNT 0 1)).toNat == 1)) = true
    ∧ (ans (.cellReceive 0 0 ⟨[5, 2, 3, 0] ++ List.replicate 252 0, 0⟩) (st [(portState 0, 3)]) (fun t => (t.word (R.IN_CNT 0 2)).toNat == 1)) = true
    ∧ (ans (.cellReceive 0 0 ⟨oneCell, 0⟩) (st [(portState 0, 3)]) (fun t => (t.ulp 0).rxSlot == 1
      && (t.word (R.IN_CNT 0 2)).toNat == 0)) = true := by
  refine ⟨?_, ?_, ?_⟩ <;> decide +kernel

/-- The first 62 bytes of a control packet of a kind whose body is 240 zero bytes. -/
def ctlFirst (k : Nat) : Bytes :=
  leBytes 2 0x4C55 ++ leBytes 1 1 ++ leBytes 1 2 ++ leBytes 1 k ++ leBytes 1 240 ++ leBytes 2 77 ++ List.replicate 54 0

/-- The next 62 bytes, three times. -/
def ctlRest : Bytes := List.replicate 62 0

/-- The CRC as it runs over a part. -/
def crcRun (c : Nat) (bs : Bytes) : Nat := bs.foldl (crcByteRefl 0x82F63B78) c

theorem crc32c_parts (a b : Bytes) (m1 m2 m3 m4 : Nat) (h1 : crcRun 0xFFFFFFFF a = m1) (h2 : crcRun m1 b = m2)
    (h3 : crcRun m2 b = m3) (h4 : crcRun m3 b = m4) : crc32c (a ++ b ++ b ++ b) = m4 ^^^ 0xFFFFFFFF := by
  have h (c : Nat) (x y : Bytes) : crcRun c (x ++ y) = crcRun (crcRun c x) y := by simp [crcRun]
  have e (x : Bytes) : crc32c x = crcRun 0xFFFFFFFF x ^^^ 0xFFFFFFFF := by simp [crc32c, crcRun]
  rw [e, h, h, h, h1, h2, h3, h4]

/-- A control packet of a kind with the longest body, and its CRC as given. -/
def ctlPkt (k crc : Nat) : Bytes := (ctlFirst k ++ ctlRest ++ ctlRest ++ ctlRest) ++ leBytes 4 crc

/-- Port 0 is UP with credit for 16 control packets. -/
def credited : State := let s := st [(portState 0, 3)]; s.setUlp 0 { s.ulp 0 with rxLimit := 16 }

theorem crcRun_echo1 : crcRun 0xFFFFFFFF (ctlFirst 1) = 0x64515EE0 := by decide +kernel

theorem crcRun_echo2 : crcRun 0x64515EE0 ctlRest = 0x1726A54C := by decide +kernel

theorem crcRun_echo3 : crcRun 0x1726A54C ctlRest = 0x2F453252 := by decide +kernel

theorem crcRun_echo4 : crcRun 0x2F453252 ctlRest = 0xBF6309E3 := by decide +kernel

/-- The control clause of PacketsTaken is met by an ECHO_REQ whose body has 240 bytes. -/
theorem wit_PacketsTaken_echo : credited.headOk 0 (ctlPkt 1 0x409CF61C) 2 ∧ (ctlPkt 1 0x409CF61C).length = 252
    ∧ byteAt (ctlPkt 1 0x409CF61C) 5 = 240 ∧ byteAt (ctlPkt 1 0x409CF61C) 4 = 1
    ∧ (credited.ulp 0).ctlRcvd ≠ (credited.ulp 0).rxLimit ∧ credited.rxClean 0 = true := by
  have hb : (ctlPkt 1 0x409CF61C).take 248 = ctlFirst 1 ++ ctlRest ++ ctlRest ++ ctlRest := by decide +kernel
  have ht : leAt (ctlPkt 1 0x409CF61C) 248 4 = 0xBF6309E3 ^^^ 0xFFFFFFFF := by decide +kernel
  exact ⟨⟨by decide +kernel, by decide +kernel, by decide +kernel, by decide +kernel, by decide +kernel,
    hb ▸ (crc32c_parts _ _ _ _ _ _ crcRun_echo1 crcRun_echo2 crcRun_echo3 crcRun_echo4).trans ht.symm⟩,
    by decide +kernel, by decide +kernel, by decide +kernel, by decide +kernel, by decide +kernel⟩

theorem crcRun_resp1 : crcRun 0xFFFFFFFF (ctlFirst 2) = 0xBE234B0D := by decide +kernel

theorem crcRun_resp2 : crcRun 0xBE234B0D ctlRest = 0x6B04FA := by decide +kernel

theorem crcRun_resp3 : crcRun 0x6B04FA ctlRest = 0xE5CFEB3E := by decide +kernel

theorem crcRun_resp4 : crcRun 0xE5CFEB3E ctlRest = 0xE93AE5B1 := by decide +kernel

/-- The control clause of PacketsTaken is met by an ECHO_RESP whose body has 240 bytes. -/
theorem wit_PacketsTaken_resp : credited.headOk 0 (ctlPkt 2 0x16C51A4E) 2 ∧ (ctlPkt 2 0x16C51A4E).length = 252
    ∧ byteAt (ctlPkt 2 0x16C51A4E) 5 = 240 ∧ byteAt (ctlPkt 2 0x16C51A4E) 4 = 2
    ∧ (credited.ulp 0).ctlRcvd ≠ (credited.ulp 0).rxLimit ∧ credited.rxClean 0 = true := by
  have hb : (ctlPkt 2 0x16C51A4E).take 248 = ctlFirst 2 ++ ctlRest ++ ctlRest ++ ctlRest := by decide +kernel
  have ht : leAt (ctlPkt 2 0x16C51A4E) 248 4 = 0xE93AE5B1 ^^^ 0xFFFFFFFF := by decide +kernel
  exact ⟨⟨by decide +kernel, by decide +kernel, by decide +kernel, by decide +kernel, by decide +kernel,
    hb ▸ (crc32c_parts _ _ _ _ _ _ crcRun_resp1 crcRun_resp2 crcRun_resp3 crcRun_resp4).trans ht.symm⟩,
    by decide +kernel, by decide +kernel, by decide +kernel, by decide +kernel, by decide +kernel⟩

theorem crcRun_msg1 : crcRun 0xFFFFFFFF (ctlFirst 16) = 0xA72E43CF := by decide +kernel

theorem crcRun_msg2 : crcRun 0xA72E43CF ctlRest = 0xC9ABCCFE := by decide +kernel

theorem crcRun_msg3 : crcRun 0xC9ABCCFE ctlRest = 0x19162CF2 := by decide +kernel

theorem crcRun_msg4 : crcRun 0x19162CF2 ctlRest = 0xA01575DE := by decide +kernel

/-- The control clause of PacketsTaken is met by a HOST_MSG whose body has 240 bytes. -/
theorem wit_PacketsTaken_msg : credited.headOk 0 (ctlPkt 16 0x5FEA8A21) 2 ∧ (ctlPkt 16 0x5FEA8A21).length = 252
    ∧ byteAt (ctlPkt 16 0x5FEA8A21) 5 = 240 ∧ byteAt (ctlPkt 16 0x5FEA8A21) 4 = 16
    ∧ (credited.ulp 0).ctlRcvd ≠ (credited.ulp 0).rxLimit ∧ credited.rxClean 0 = true := by
  have hb : (ctlPkt 16 0x5FEA8A21).take 248 = ctlFirst 16 ++ ctlRest ++ ctlRest ++ ctlRest := by decide +kernel
  have ht : leAt (ctlPkt 16 0x5FEA8A21) 248 4 = 0xA01575DE ^^^ 0xFFFFFFFF := by decide +kernel
  exact ⟨⟨by decide +kernel, by decide +kernel, by decide +kernel, by decide +kernel, by decide +kernel,
    hb ▸ (crc32c_parts _ _ _ _ _ _ crcRun_msg1 crcRun_msg2 crcRun_msg3 crcRun_msg4).trans ht.symm⟩,
    by decide +kernel, by decide +kernel, by decide +kernel, by decide +kernel, by decide +kernel⟩

/-! ## What a port sends -/

/-- The state with some fields given values, and ULP p as given. -/
def sending (p : Nat) (x : UlPort) (l : List (FRef × Nat)) : State := (st l).setUlp p x

/-- A Beam Array with one voltage stream, beam 0 on ULP0, whose round 0 is complete. -/
def voltage : State :=
  let s := sending 0 { (default : UlPort) with txSeq := 7 } [(portState 0, 3), (R.IN_PORTCTL_tx_en 0, 1)]
  { s with ba := { s.ba with vdone := [0], cfgs := [(0, tab [(R.BA_VPKT_spc_log2, 0), (R.BA_VPKT_c_pkt, 1),
    (R.BA_VCH_vc_lo, 0), (R.BA_VCH_vc_num, 1), (R.BA_VLSTA_en 0, 1), (R.BA_VLSTA_to_ulp 0, 1), (R.BA_VLSTA_ulp 0, 0), (R.BA_VLSTA_j 0, 0), (R.BA_VLSTA_fmt 0, 0)])] } }

/-- Every clause of PortSends is met; the control packet leaves on the upstream's last credit. -/
theorem wit_PortSends :
    (let s := st [(portState 0, 1)]; !s.off && s.rd (portState 0) != 0) = true
    ∧ (let s := st [(portState 15, 3), (R.IN_CTL_tim_rate, 1)]; s.portUp 15 && s.on R.IN_CTL_tim_rate && !s.mustWait 15 4) = true
    ∧ (let s := sending 0 { (default : UlPort) with txQ := [.slot 15], upLimit := some 1 } [(portState 0, 3)]; s.mayControl 0
      && !s.mustWait 0 5 && (s.ulp 0).txQ == [.slot 15]) = true
    ∧ (let s := sending 0 { (default : UlPort) with txQ := [.echo 9 [1]], upLimit := some 1 } [(portState 0, 3)]; s.mayControl 0
      && !s.mustWait 0 5 && (s.ulp 0).txQ == [.echo 9 [1]]) = true
    ∧ (let s := voltage; !s.off && s.hasBeam && s.portUp 0 && s.on (R.IN_PORTCTL_tx_en 0) && !s.mustWait 0 6
      && (s.nextVoltage 0 0).isSome && s.csState != 5
      && ((s.nextVoltage 0 0).map (fun x => s.mayVoltage 0 x.1)) == some true) = true
    ∧ (let s := sending 0 { (default : UlPort) with claimDue := true } [(portState 0, 3)]; s.portUp 0 && (s.ulp 0).claimDue
      && s.csState != 5) = true := by
  refine ⟨?_, ?_, ?_, ?_, ?_, ?_⟩ <;> decide +kernel

/-- R33: a status cell is a counted cell of kind 6, after idle cells. -/
theorem test_statusCell :
    (ans (.statusCellSend 0) (sending 0 { (default : UlPort) with txSeq := 7 } [(portState 0, 1)]) (fun t => t.out.map (fun x => match x with | .cell p _ b => (p, byteAt b 0, byteAt b 2) | .idle p _ q => (p, 0, q) | _ => (99, 0, 0)) == [(0, 0, 7), (0, 6, 8)] && (t.ulp 0).txSeq == 8)) = true := by
  decide +kernel

/-- R33: one alignment cell leaves on each of four lanes. -/
theorem test_alignmentCells :
    (ans (.alignmentCellSend 0) (st [(portState 0, 1)]) (fun t => t.out.length == 4 && (t.ulp 0).txSeq == 0)) = true := by
  decide +kernel

/-- R44: a packet within credit leaves and takes one credit; with no credit it waits. -/
theorem test_controlSend :
    (ans (.controlPacketSend 0) (sending 0 { (default : UlPort) with txQ := [.slot 15], upLimit := some 1, txSeq := 7 } [(portState 0, 3)])
      (fun t => (t.ulp 0).ctlSent == 1 && (t.ulp 0).txQ == [])) = true
    ∧ (ans (.controlPacketSend 0) (let s := st [(portState 0, 3)];
      s.setUlp 0 { s.ulp 0 with txQ := [.slot 15], upLimit := some 0 })
      (fun t => (t.ulp 0).txQ == [.slot 15] && t.out == [])) = true := by
  refine ⟨?_, ?_⟩ <;> decide +kernel

/-- R54, R147: the first packet of the stream leaves and the stream moves on. -/
theorem test_voltageSend :
    (ans (.voltagePacketSend 0 0) voltage (fun t => smapGet 0 t.ba.vpos 0 == 1 && (t.word (R.IN_CNT 0 18)).toNat == 1)) = true := by
  decide +kernel

/-- R52: a timing packet waits for a claim packet that is due. -/
theorem test_precedence :
    (ans (.timingPacketSend 0) (sending 0 { (default : UlPort) with claimDue := true } [(portState 0, 3), (R.IN_CTL_tim_rate, 1)]) (fun t => t.out == [])) = true := by
  decide +kernel

/-! ## Port writes -/

/-- Every clause of PortWrites is met: master 1 is the Arbiter. -/
theorem wit_PortWrites :
    (takesB (st [(portState 0, 0)]) 1 (R.IN_PORTCTL_en 0).a (force 0 (R.IN_PORTCTL_en 0) 1)) = true
    ∧ (takesB (st [(portState 16, 4)]) 1 R.CS_PORTCTL_en.a (force 0 R.CS_PORTCTL_en 1)) = true
    ∧ (takesB (st [(portState 0, 3)]) 1 (R.IN_PORTCTL_en 0).a (force 0 (R.IN_PORTCTL_en 0) 0)) = true
    ∧ (takesB (st []) 1 (R.IN_CTLTX_send 15).a 1) = true
    ∧ (takesB (st []) 1 (R.IN_CTLFREE_free 0).a 0x8000) = true
    ∧ (takesB (st []) 1 R.IN_STRCMT_commit.a (force 0 R.IN_STRCMT_commit 1)) = true
    ∧ (takesB (st [(R.IN_PORTCTL_dom_en 2, 1), (R.IN_PORTCTL_dom 2, 15)]) 1 R.IN_DOMRST_reset.a 0x8001) = true
    ∧ (let s := st [(R.IN_PORTCTL_dom_en 2, 1), (R.IN_PORTCTL_dom 2, 15)]; (List.range 16).all (fun p => s.rd (portState p) == 0)) = true
    ∧ (let s := st []; s.streamReason.isNone && (s.bindTo (s.on R.IN_STRCMT_tgt) (s.rq R.IN_STRTGT)).isSome) = true
    ∧ ((st [(R.IN_STRA_en 0, 1)]).streamReason.isSome) = true := by
  refine ⟨?_, ?_, ?_, ?_, ?_, ?_, ?_, ?_, ?_, ?_⟩ <;> decide +kernel

/-- R36: en = 1 on a disabled port starts training; en = 0 disables an UP port. -/
theorem test_portEnable :
    (ans (.portEnable 1 0 0) (st []) (fun t => t.rd (portState 0) == 1)) = true
    ∧ (ans (.portDisable 1 0 0) (st [(portState 0, 3)]) (fun t => t.rd (portState 0) == 0)) = true := by
  refine ⟨?_, ?_⟩ <;> decide +kernel

/-- R44: a slot is queued once. -/
theorem test_controlQueue :
    (ans (.controlTxQueue 1 0 1) (st []) (fun t => (t.ulp 0).txQ == [.slot 0] && t.rd (R.IN_CTLTX_send 0) == 1)) = true
    ∧ (ans (.controlSlotFree 1 0 0x8000) (let s := st [];
      s.setUlp 0 { s.ulp 0 with rxOcc := 0x8000, rxLimit := 16, txSeq := 7 }) (fun t => (t.ulp 0).rxLimit == 17
      && (t.ulp 0).rxOcc == 0)) = true := by
  refine ⟨?_, ?_⟩ <;> decide +kernel

/-- R46: a reset clears H of the domain, but not while a port of it runs. -/
theorem test_domainReset :
    (ans (.claimDomainReset 1 0x8000) ((st []).wq (R.IN_DOMCLM 15) 9) (fun t => t.rq (R.IN_DOMCLM 15) == 0)) = true
    ∧ (ans (.claimDomainReset 1 0x8000) ((st [(R.IN_PORTCTL_dom_en 2, 1), (R.IN_PORTCTL_dom 2, 15), (portState 2, 3)]).wq (R.IN_DOMCLM 15) 9) (fun t => t.rq (R.IN_DOMCLM 15) == 9)) = true := by
  refine ⟨?_, ?_⟩ <;> decide +kernel

/-- R49: the commit makes a table for a later round. -/
theorem test_streamCommit :
    (ans (.streamTableCommit 1 0) (st []) (fun t => !t.resp.error)) = true := by
  decide +kernel

/-! ## Alignment -/

/-- An accepted packet of stream 0 at SC 0, for channels 0 to 3. -/
def accepted : Accepted := ⟨0, 0, 0, 4, 0, 0, 0, 1, false, false, [], 0⟩

/-- Alignment runs under an SC epoch, castled, with repair on. -/
def repairing : State :=
  let s := st [(R.AL_CTL_en, 1), (R.TB_STATUS_sce_valid, 1), (R.REF_STATUS_tq, 3), (R.AL_RPRCTL_en, 1), (R.CS_STATUS_state, 1), (R.AL_RPRCTL_lead_us, 8191)]
  { s with tb := { s.tb with t := 10 ^ 12 * 2 ^ 48, epoch := ⟨0, 0, 2 ^ 42, 0⟩ } }

/-- Every clause of AlignWrites is met. -/
theorem wit_AlignWrites :
    (let s := st []; takesB s 1 R.AL_CTL_en.a (force 0 R.AL_CTL_en 1) && !s.on R.AL_CTL_en) = true
    ∧ (let s := st [(R.AL_CTL_en, 1)]; takesB s 1 R.AL_CTL_en.a (force 0 R.AL_CTL_en 0) && s.on R.AL_CTL_en) = true
    ∧ (takesB (st []) 1 R.AL_WIN_win_us.a 500) = true
    ∧ (let s := st [(R.AL_CTL_en, 1)]; takesB s 1 R.AL_CAPCTL_freeze.a (force 0 R.AL_CAPCTL_freeze 1)) = true
    ∧ (let s := st [(R.AL_STATUS_cap_held, 1)]; takesB s 1 R.AL_CAPCTL_release.a (force 0 R.AL_CAPCTL_release 1)
      && s.on R.AL_STATUS_cap_held) = true
    ∧ ((openable.wq (R.AL_BUF_BASE 0) 0x7000000000).alignReason.isSome) = true
    ∧ (((((st [(R.AL_SLABGEO_blk_m1, 0), (R.AL_SLABGEO_c_cnt, 1)]).wq (R.AL_BUF_BASE 1) 0x10000000).wq R.AL_RING_BASE 0x30000000).alignReason).isNone) = true
    ∧ ((st [(R.AL_CTL_en, 1)]).freezeRefuse 2 != st [] && (st [(R.AL_STATUS_cap_held, 1)]).on R.AL_STATUS_cap_held) = true
    ∧ (let s := st [(R.AL_CTL_en, 1), (R.AL_CTL_cap_en, 1)]; !s.on R.AL_STATUS_cap_held && s.al.freeze == none
      && decide (s.al.nextStart ≤ 5 + 2) && s.on R.AL_CTL_cap_en
      && !s.on R.AL_STATUS_endgame && decide (s.al.first ≤ 5) && !s.al.noSlab.contains 5 && s.on R.AL_CTL_en) = true := by
  refine ⟨?_, ?_, ?_, ?_, ?_, ?_, ?_, ?_, ?_⟩ <;> decide +kernel

/-- Every clause of AlignRuns is met. -/
theorem wit_AlignRuns :
    (!(st []).off && (st [(R.TB_STATUS_sce_valid, 1), (R.REF_STATUS_tq, 3)]).timeMode) = true
    ∧ (let s := { st [(R.AL_CTL_en, 1)] with ul := { (st []).ul with alignQ := [accepted] } }; s.ul.alignQ == [accepted] && !s.off) = true
    ∧ (let s := repairing; !s.off && s.repairOn) = true
    ∧ (let s := repairing;
      decide (taiOf s.tb.epoch (256 * (max s.al.sentSpan (s.horizon / 256) + 1)) + ((s.win : Int) - s.rd R.AL_RPRCTL_lead_us) * 1000 * 2 ^ 48 ≤ s.tb.t)) = true := by
  refine ⟨?_, ?_, ?_, ?_⟩ <;> decide +kernel

/-- R67: a window is written, binds to the next boundary, and is pending until then. -/
theorem test_windowChange :
    (ans (.windowChange 1 500) (st []) (fun t => t.rd R.AL_WIN_win_us == 500 && t.rd R.AL_STATUS_w_pending == 1)) = true := by
  decide +kernel

/-- R78: a release ends the held capture and fires E086. -/
theorem test_captureRelease :
    (ans (.captureRelease 1 0) (st [(R.AL_STATUS_cap_held, 1)]) (fun t => !t.on R.AL_STATUS_cap_held && t.evq.contains (86, 0))) = true := by
  decide +kernel

/-- R61: with nothing placed the horizon does not move. -/
theorem test_horizon :
    (ans .horizonAdvance (st []) (fun t => t.horizon == (st []).horizon)) = true
    ∧ (ans .repairBitmapSend repairing (fun t => t.al.sentSpan == 1)) = true := by
  refine ⟨?_, ?_⟩ <;> decide +kernel

/-- R60: the enable with no SC epoch and no table is judged at once. -/
theorem test_alignmentEnable :
    (ans (.alignmentEnable 1 0) (st []) (fun t => !t.resp.error)) = true
    ∧ (ans (.alignmentDisable 1 0) (st [(R.AL_CTL_en, 1)]) (fun t => !t.on R.AL_CTL_en)) = true := by
  refine ⟨?_, ?_⟩ <;> decide +kernel

/-! ## The Board -/

/-- The ply of pass 0 of round 0 that runs to sample 1,000. -/
def ply0 : CurPly := ⟨0, 0, 0, 0, 1000, false, [], none⟩

/-- A closed ply of 1,000 samples at a stage. -/
def closed0 (g : PlyStage) : Ply := ⟨0, 0, 0, 0, 1000, false, g, false, false, false, [], 0, [], [], []⟩

/-- A Board in a state with a ply in progress and closed plies. -/
def board (b : Nat) (c : Option CurPly) (l : List Ply) : State :=
  let s := st [(R.BD_STATUS_state, b), (R.AL_CTL_en, 1), (R.BD_CTL_en, 1)]
  { s with bd := { s.bd with cur := c, plies := l } }

/-- Alignment runs and a pairing table of one pass is in force. -/
def tabled : State :=
  let s := st [(R.AL_CTL_en, 1), (R.AL_SLABGEO_blk_m1, 0)]
  { s with bd := { s.bd with tables := [(0, ⟨1, [0]⟩)] } }

/-- The residuals of a ply that closed without a fault. -/
def noFaults : PlyFaults := ⟨[], [], [], [], [], []⟩

/-- Every clause of BoardWrites is met. -/
theorem wit_BoardWrites :
    (let s := tabled; takesB s 1 R.BD_CTL_en.a (force 0 R.BD_CTL_en 1) && s.on R.AL_CTL_en && s.tableValid && s.bdState == 0) = true
    ∧ (let s := st []; takesB s 1 R.BD_CTL_en.a (force 0 R.BD_CTL_en 1) && !s.on R.AL_CTL_en && s.bdState == 0) = true
    ∧ (let s := board 4 none []; takesB s 1 R.BD_CTL_en.a (force 0 R.BD_CTL_en 1) && s.bdState == 4 && !s.on R.CK_STATUS_endgame) = true
    ∧ (let s := board 3 none []; takesB s 1 R.BD_CTL_en.a (force 0 R.BD_CTL_en 1) && s.bdState == 3) = true
    ∧ (let s := board 1 none []; takesB s 1 R.BD_CTL_en.a (force 0 R.BD_CTL_en 0) && s.bdState == 1) = true
    ∧ (let s := board 4 none []; takesB s 1 R.BD_CTL_en.a (force 0 R.BD_CTL_en 0) && s.bdState == 4) = true
    ∧ (let s := board 2 (some ply0) []; takesB s 1 R.BD_CTL_en.a (force 0 R.BD_CTL_en 0) && s.bdState == 2) = true
    ∧ (let s := board 2 (some ply0) []; takesB s 1 R.BD_CTL_halt.a (force 1 R.BD_CTL_halt 1) && s.bdState == 2 && s.bd.drains == 0) = true
    ∧ (let s := board 1 none []; takesB s 1 R.BD_CTL_halt.a (force 1 R.BD_CTL_halt 1) && s.bdState == 1 && s.bd.plies.isEmpty
      && s.bd.queue.isEmpty) = true
    ∧ (let s := board 2 (some ply0) []; takesB s 1 R.BD_CTL_drain.a (force 1 R.BD_CTL_drain 1) && s.bdState == 2
      && s.bd.cur == some ply0) = true
    ∧ (takesB (st []) 1 R.BD_PTCMT_commit.a (force 0 R.BD_PTCMT_commit 1)) = true
    ∧ (takesB (st []) 1 (lineOut 0).a 5 && takesB (st []) 1 (lineOut 23).a 1 && (st []).rd (lineOut 0) != 5 % 128) = true
    ∧ (decide (32 < (st [(R.BD_PTCMT_cnt, 33)]).rd R.BD_PTCMT_cnt)) = true
    ∧ ((tableReason (st []).blocks ((List.range ((st [(R.BD_PTCMT_cnt, 2)]).rd R.BD_PTCMT_cnt)).map (fun e => ((st []).word (R.BD_PTBL_r e).a).toNat))).isSome) = true
    ∧ (let s := st [(R.AL_SLABGEO_blk_m1, 0), (R.BD_PTCMT_cnt, 1)];
      (tableReason s.blocks [(s.word (R.BD_PTBL_r 0).a).toNat]).isNone && !s.on R.BD_STATUS_tbl_pending
      && (s.bindTo (s.on R.BD_PTCMT_tgt) (s.rq R.BD_PTTGT)).isSome
      && (s.bindTo (s.on R.BD_PTCMT_tgt) (s.rq R.BD_PTTGT)).all (fun n => !s.loadBinds 2 n)) = true
    ∧ (let s := st [(R.AL_SLABGEO_blk_m1, 0), (R.BD_PTCMT_cnt, 1), (R.BD_STATUS_tbl_pending, 1)];
      (tableReason s.blocks [(s.word (R.BD_PTBL_r 0).a).toNat]).isNone && s.on R.BD_STATUS_tbl_pending) = true
    ∧ (let s := { st [(R.AL_SLABGEO_blk_m1, 0), (R.BD_PTCMT_cnt, 1), (R.BD_PTCMT_tgt, 1)] with rnd := 3 };
      (tableReason s.blocks [(s.word (R.BD_PTBL_r 0).a).toNat]).isNone && !s.on R.BD_STATUS_tbl_pending
      && (s.bindTo (s.on R.BD_PTCMT_tgt) (s.rq R.BD_PTTGT)).isNone) = true := by
  refine ⟨?_, ?_, ?_, ?_, ?_, ?_, ?_, ?_, ?_, ?_, ?_, ?_, ?_, ?_, ?_, ?_, ?_⟩ <;> decide +kernel

/-- Table 4-3: en starts the Board from IDLE; en = 0 stops it from WAIT. -/
theorem test_boardEnable :
    (ans (.boardEnable 1 0) tabled (fun t => t.bdState == 1)) = true
    ∧ (ans (.boardDisable 1 0) (board 1 none []) (fun t => t.bdState == 0)) = true := by
  refine ⟨?_, ?_⟩ <;> decide +kernel

/-- Table 4-3: a halt in RUN drains; a drain request is noted. -/
theorem test_boardHalt :
    (ans (.boardHalt 1 1) (board 2 (some ply0) []) (fun t => t.bdState == 3 && t.bd.halting)) = true
    ∧ (ans (.drainRequest 1 1) (board 2 (some ply0) []) (fun t => t.bd.drains == 1)) = true := by
  refine ⟨?_, ?_⟩ <;> decide +kernel

/-- R103: a new rotation of line 23 waits for a marker. -/
theorem test_remap :
    (ans (.remapWrite 1 23 5) (st []) (fun t => t.rd (lineOut 23) == 5 && t.rd (linePend 23) == 1)) = true := by
  decide +kernel

/-- Every clause of BoardRuns is met; a marker at the ply's last sample and one sample before it. -/
theorem wit_BoardRuns :
    (let s := { board 1 none [] with bd := { (board 1 none []).bd with queue := [0] }, ck := { (st []).ck with plans := [⟨0, 0, [], [5], 0, 0, 0, 0, 0, []⟩] } };
      !s.off && s.bdState == 1 && s.bd.cur == none && s.readyRound == some 0) = true
    ∧ (let s := board 2 (some ply0) []; !s.off && s.bd.cur == some ply0 && !s.bd.halting && s.bd.drains == 0 && ply0.stop == 1000
      && ply0.t0 == 0) = true
    ∧ (let s := { board 2 (some ply0) [] with bd := { (board 2 (some ply0) []).bd with drains := 1 } }; !s.off
      && s.bd.cur == some ply0 && !s.bd.halting && s.bd.drains != 0 && ply0.cut == none) = true
    ∧ (let s := { board 3 (some ply0) [] with bd := { (board 3 (some ply0) []).bd with halting := true } }; s.bd.cur == some ply0
      && s.bd.halting && ply0.cut == none) = true
    ∧ (let s := board 2 none [{ closed0 .marker with t1 := 520 }, closed0 .marker];
      (s.bd.plies.map (fun p => p.t1 - p.t0)).headD 0 == 520) = true
    ∧ (let s := board 2 none [closed0 .marker]; s.firstPly .marker == some (closed0 .marker)) = true
    ∧ (let s := board 2 none [closed0 .held]; s.firstPly .held == some (closed0 .held) && noFaults.kv.isEmpty) = true
    ∧ (let s := board 2 none [{ closed0 .writing with asked := true }];
      s.firstPly .writing == some { closed0 .writing with asked := true } && s.bdState != 3 && s.bd.live.isEmpty) = true
    ∧ (let s := st [(R.IG_CTL_rr_max, 1)]; !s.rerunsDone 0 && (st [(R.IG_CTL_rr_max, 0)]).rerunsDone 0 && !(closed0 .held).poison
      && !(closed0 .held).rerun) = true := by
  refine ⟨?_, ?_, ?_, ?_, ?_, ?_, ?_, ?_, ?_⟩ <;> decide +kernel

/-- R95: a marker at the last sample ends the ply; one placed for a drain splits it. -/
theorem test_marker :
    (ans (.plyMarkerIssue 1000) (board 2 (some ply0) []) (fun t => t.bd.plies.length == 1)) = true
    ∧ (ans (.plyMarkerIssue 999) { board 2 (some ply0) [] with bd := { (board 2 (some ply0) []).bd with drains := 1 } }
      (fun t => (t.bd.cur.map (·.t0)) == some 999)) = true := by
  refine ⟨?_, ?_⟩ <;> decide +kernel

/-- R97, R105: a marker behind a ply of 520 samples is counted; a complete drain fires E083. -/
theorem test_drain :
    (ans .markerRelease (board 2 none [{ closed0 .marker with t1 := 520 }, closed0 .marker]) (fun t => (t.word (R.BD_CNT 3)).toNat == 1)) = true
    ∧ (ans .markerRelease (board 2 none [{ closed0 .marker with t1 := 521 }, closed0 .marker]) (fun t => (t.word (R.BD_CNT 3)).toNat == 0)) = true
    ∧ (ans .drainComplete (board 2 none [{ closed0 .writing with asked := true }]) (fun t => t.evq.contains (83, 0)
      && t.bd.plies == [])) = true := by
  refine ⟨?_, ?_, ?_⟩ <;> decide +kernel

/-- R97: the drained ply is held for its status, and the pass rate is shown. -/
theorem test_passEnd :
    (ans (.passEnd 7 9) (board 2 none [closed0 .marker]) (fun t => t.bd.plies == [closed0 .held] && t.rd R.BD_RATE_last_pass == 7
      && t.rd R.BD_RATE_min_round == 9)) = true := by
  decide +kernel

/-! ## Groups and the Pair Map -/

/-- Group 0 is armed. -/
def armed : State := openable.wr (R.AG_GSTAT_state 0) 1

/-- A journal of one edit waits for the round that comes first. -/
def journal : State :=
  let s := st [(R.AG_STATUS_pm_pending, 1)]
  { s with ag := { s.ag with pmj := some (0, [(3, 4, 0x1234)]) } }

/-- A journal of one edit that breaks R109. -/
def badEdit : State := st [(R.AG_PMCMT_cnt, 1), (R.AG_PMJ1_value 0, 0xFFFF)]

/-- A journal of one edit that disables an entry. -/
def oneEdit : State := st [(R.AG_PMCMT_cnt, 1)]

/-- The map with the journal's edits. -/
def edited (s : State) : SMap (BitVec 16) :=
  applyEdits s.ag.pm ((List.range (s.rd R.AG_PMCMT_cnt)).map (fun e =>
    (s.rd (R.AG_PMJ0_row e), s.rd (R.AG_PMJ0_col e), s.rd (R.AG_PMJ1_value e))))

/-- Every clause of GroupWrites is met, for the highest group. -/
theorem wit_GroupWrites :
    (let v := BitVec.ofNat 32 (62 * 256); takesB (st []) 1 R.AG_CMD_op.a (force v R.AG_CMD_op 1) && getBits v.toNat 8 6 == 62) = true
    ∧ (takesB (st []) 1 R.AG_CMD_op.a (force 0x3E10 R.AG_CMD_op 2)) = true
    ∧ (takesB (st []) 1 R.AG_CMD_op.a (force 0x3E10 R.AG_CMD_op 3)) = true
    ∧ (takesB (st []) 1 R.AG_PMCMT_commit.a (force 0 R.AG_PMCMT_commit 1)) = true
    ∧ ((st []).rd R.AG_PMCMT_cnt == 0 && (st [(R.AG_PMCMT_cnt, 1)]).rd R.AG_PMCMT_cnt == 1 && !(badEdit.mapValid (edited badEdit))) = true
    ∧ (let s := oneEdit; s.mapValid (edited s) && s.ag.taints.length == 0 && s.ag.pmj.isNone
      && s.bindTo (s.on R.AG_PMCMT_tgt) (s.rq R.AG_PMTGT) == some s.nextRound
      && (s.newTaints (s.applyTaints s.nextRound [(0, 0, 0)])).length == 0 && !s.on R.AG_CTL_pm_direct) = true
    ∧ (let s := oneEdit.wr R.AG_PMCMT_tgt 1; s.mapValid (edited s)
      && { s with rnd := 3 }.bindTo (s.on R.AG_PMCMT_tgt) (s.rq R.AG_PMTGT) == none && (journal.ag.pmj).isSome) = true
    ∧ ((st [(R.AG_PMCMT_cnt, 1), (R.AG_CTL_pm_direct, 1)]).on R.AG_CTL_pm_direct) = true := by
  refine ⟨?_, ?_, ?_, ?_, ?_, ?_, ?_, ?_⟩ <;> decide +kernel

/-- Every clause of GroupCommandsAct is met: an open that passes every check of R121, one that fails, and the end of an armed group. -/
theorem wit_GroupCommandsAct :
    (openable.openReason 0 == none) = true
    ∧ (armed.openReason 0 == some 9) = true
    ∧ (let s := armed.wq R.AG_CMDTGT 9; s.bindTo true (s.rq R.AG_CMDTGT) == some 9 && s.gState 0 != 0 && s.gState 0 != 4
      && (s.grp 0).cmd.isNone) = true
    ∧ ((st []).gState 0 == 0 && (st []).bindTo true 5 == some 5 && { st [] with rnd := 6 }.bindTo true 5 == none
      && (openable.wr (R.AG_GSTAT_state 0) 4).gState 0 == 4) = true
    ∧ (let s := armed.setGrp 0 { armed.grp 0 with cmd := some (false, 9) }; s.gState 0 != 0 && (s.grp 0).cmd.isSome) = true := by
  refine ⟨?_, ?_, ?_, ?_, ?_⟩ <;> decide +kernel

/-- R121: an armed group is not opened again. -/
theorem test_groupOpen :
    (ans (.groupOpen 1 0) armed (fun t => t.rd R.AG_CMDRES_reason == 9)) = true := by
  decide +kernel

/-- R122: CLOSE and ABORT bind their round. -/
theorem test_groupEnd :
    (ans (.groupClose 1 0x10) (armed.wq R.AG_CMDTGT 9) (fun t => (t.grp 0).cmd == some (false, 9))) = true
    ∧ (ans (.groupAbort 1 0x10) (armed.wq R.AG_CMDTGT 9) (fun t => (t.grp 0).cmd == some (true, 9))) = true := by
  refine ⟨?_, ?_⟩ <;> decide +kernel

/-- Every clause of PairMapChanges is met, a direct write at the last entry. -/
theorem wit_PairMapChanges :
    (let s := { journal with al := { journal.al with nextStart := 0 } }; !s.off && s.ag.pmj == some (0, [(3, 4, 0x1234)])
      && s.begun 0) = true
    ∧ (let s := st [(R.AG_STATUS_dig_busy, 1)]; s.on R.AG_STATUS_dig_busy && s.mg.digs.isNone) = true
    ∧ (let s := st [(R.AG_CTL_pm_direct, 1)]; hasPath 1 2 && !s.quiesced 1 && s.on R.AG_CTL_pm_direct) = true := by
  refine ⟨?_, ?_, ?_⟩ <;> decide +kernel

/-- R111: the journal's edit is in the map; R110: a direct write changes one entry. -/
theorem test_pairMap :
    (ans .pairMapApply journal (fun t => smapGet 0 t.ag.pm (3 * 4096 + 4) == 0x1234 && t.ag.pmj.isNone)) = true
    ∧ (ans (.pairMapDirectWrite 1 4095 4095 7) (st [(R.AG_CTL_pm_direct, 1)]) (fun t => smapGet 0 t.ag.pm (4095 * 4096 + 4095) == 7)) = true
    ∧ (ans (.pairMapCommit 1 0) (st []) (fun t => !t.resp.error)) = true := by
  refine ⟨?_, ?_, ?_⟩ <;> decide +kernel

/-! ## The Beam Array -/

/-- The Beam Array in a state, with alignment on. -/
def beam (b : Nat) : State := st [(R.BA_STATUS_state, b), (R.BA_CTL_en, 1), (R.AL_CTL_en, 1)]

/-- The Beam Array works on round 0. -/
def beaming : State := { beam 2 with ba := { (beam 2).ba with round := some 0 } }

/-- A plan that admits round 7 with no class of beams. -/
def plan7 : Plan := ⟨7, 0, [], [], 0, 0, 0, 0, 0, []⟩

/-- Round 7 is sealed and planned, and the Beam Array waits. -/
def beamWait : State := { beam 1 with ba := { (beam 1).ba with queue := [7] }, ck := { (beam 1).ck with plans := [plan7] } }

/-- Every clause of BeamWrites is met. -/
theorem wit_BeamWrites :
    (takesB openable 1 R.BA_CTL_en.a (force 0 R.BA_CTL_en 1) && openable.baState == 0
      && (openable.landed 1 R.BA_CTL_en.a (force 0 R.BA_CTL_en 1)).baReason.isNone) = true
    ∧ (let s := openable.wr R.BA_STATUS_unv_a 1; takesB s 1 R.BA_CTL_en.a (force 0 R.BA_CTL_en 1) && s.baState == 0
      && (s.landed 1 R.BA_CTL_en.a (force 0 R.BA_CTL_en 1)).baReason == some 5) = true
    ∧ (let s := openable.wr R.BA_STATUS_state 3; takesB s 1 R.BA_CTL_en.a (force 0 R.BA_CTL_en 1) && s.baState == 3
      && !s.on R.CK_STATUS_endgame
      && (s.landed 1 R.BA_CTL_en.a (force 0 R.BA_CTL_en 1)).baReason.isNone) = true
    ∧ (takesB (beam 1) 1 R.BA_CTL_en.a (force 0 R.BA_CTL_en 1) && takesB (beam 2) 1 R.BA_CTL_en.a (force 0 R.BA_CTL_en 0)
      && (beam 2).baState == 2) = true
    ∧ (takesB (beam 1) 1 R.BA_CTL_en.a (force 0 R.BA_CTL_en 0) && (beam 1).baState == 1) = true
    ∧ (takesB (beam 3) 1 R.BA_CTL_en.a (force 0 R.BA_CTL_en 0) && (beam 3).baState == 3) = true
    ∧ (takesB (beam 2) 1 R.BA_CTL_halt.a (force 1 R.BA_CTL_halt 1) && (beam 2).baState == 2 && (beam 2).on R.BA_CTL_en) = true
    ∧ (takesB (st []) 1 R.BA_WSEL_commit.a (force 0 R.BA_WSEL_commit 1) && takesB (st []) 1 R.BA_WSEL_commit.a 0x30) = true
    ∧ (takesB (st []) 1 R.BA_BCMT_commit.a (force 0 R.BA_BCMT_commit 1)) = true
    ∧ (let s := st [(R.BA_VLSTA_fmt 63, 3)]; s.beamReason s.beamShadow == some (4, 63)) = true
    ∧ (let s := st []; (s.beamReason s.beamShadow).isNone && !s.on R.BA_STATUS_b_pending
      && s.bindTo (s.on R.BA_BCMT_tgt) (s.rq R.BA_BTGT) == some s.nextRound) = true
    ∧ (let s := st [(R.BA_STATUS_b_pending, 1), (R.BA_BCMT_tgt, 1)]; (s.beamReason s.beamShadow).isNone
      && s.on R.BA_STATUS_b_pending
      && { s with rnd := 3 }.bindTo (s.on R.BA_BCMT_tgt) (s.rq R.BA_BTGT) == none) = true := by
  refine ⟨?_, ?_, ?_, ?_, ?_, ?_, ?_, ?_, ?_, ?_, ?_, ?_⟩ <;> decide +kernel

/-- Table 6-2: en = 0 stops from WAIT and from HALTED, a halt in RUN abandons. -/
theorem test_beamEnable :
    (ans (.beamArrayDisable 1 0) (beam 3) (fun t => t.baState == 0)) = true
    ∧ (ans (.beamArrayHalt 1 1) (beam 2) (fun t => t.baState == 3)) = true := by
  refine ⟨?_, ?_⟩ <;> decide +kernel

/-- Every clause of WeightSetsSwitch is met, with a switch pending and with none. -/
theorem wit_WeightSetsSwitch :
    (let s := st [(R.BA_STATUS_unv_a, 0), (R.BA_STATUS_unv_b, 0)]; !s.on R.BA_STATUS_w_pending
      && s.bindTo (s.on R.BA_WSEL_tgt) (s.rq R.BA_WTGT) == some s.nextRound) = true
    ∧ (let s := st [(R.BA_STATUS_unv_a, 0), (R.BA_STATUS_unv_b, 0)];
      !(if s.rd R.BA_WSEL_sel = 0 then s.on R.BA_STATUS_unv_a else s.on R.BA_STATUS_unv_b)) = true
    ∧ ((st [(R.BA_STATUS_w_pending, 1)]).on R.BA_STATUS_w_pending) = true
    ∧ (let s := { st [(R.BA_STATUS_unv_a, 1), (R.BA_WSEL_tgt, 1)] with rnd := 3 }; s.on R.BA_STATUS_unv_a
      && s.rd R.BA_WSEL_sel == 0 && s.bindTo (s.on R.BA_WSEL_tgt) (s.rq R.BA_WTGT) == none) = true := by
  refine ⟨?_, ?_, ?_, ?_⟩ <;> decide +kernel

/-- R142: a confirmation clears the mark of its set alone; a switch while one is pending has reason 9. -/
theorem test_weightSets :
    (ans (.weightSetConfirm 1 0x10) (st [(R.BA_STATUS_unv_a, 1), (R.BA_STATUS_unv_b, 1)]) (fun t => !t.on R.BA_STATUS_unv_a
      && t.on R.BA_STATUS_unv_b)) = true
    ∧ (ans (.weightSetSwitch 1 1) (st [(R.BA_STATUS_w_pending, 1)]) (fun t => t.rd R.BA_ERR_reason == 9)) = true := by
  refine ⟨?_, ?_⟩ <;> decide +kernel

/-- Every clause of BeamRuns is met. -/
theorem wit_BeamRuns :
    (!beamWait.off && beamWait.baState == 1 && beamWait.ba.queue == [7] && (beamWait.planOf 7).isSome
      && !beamWait.regionHolds [4] 7 && ((beamWait.takeStaging 7).shedBeams 7).admitted 7 == 0) = true
    ∧ (beaming.ba.round == some 0 && beaming.ba.fail.isNone && beaming.ba.t0 == 0 && decide (17360 < beaming.roundLen)
      && !beaming.ba.again && !(beaming.sliceDiffers 0 0 15 35 17360 [(1, 0)] (0, 0))) = true
    ∧ (let s := { beaming with ba := { beaming.ba with fail := some 5 } }; s.ba.fail == some 5 && !s.ba.again && !s.ba.poison
      && s.roundLen == 17361
      && !(((s.wr R.BA_RATE_last_set 0).wr R.BA_RATE_min_round 0).stageSet 0 0 0 5).rerunsDone 0) = true
    ∧ (let s := { beaming with ba := { beaming.ba with fail := some 5, again := true } }; s.ba.round == some 0
      && s.ba.fail == some 5 && s.ba.again) = true
    ∧ (let s := { st [] with ba := { (st []).ba with dig := [1] } }; s.ba.dig == [1] && s.mg.digs.isNone) = true := by
  refine ⟨?_, ?_, ?_, ?_, ?_⟩ <;> decide +kernel

/-- R138, R190: a step of a slot without a task has no comparison; R145: a commit of the shadow is answered. -/
theorem test_beamRuns :
    (ans (.beamCheckMismatch ⟨15, 35, 5, [(1, 0)], (0, 0)⟩) beaming (fun t => t.ba.fail == none)) = true
    ∧ (ans (.beamConfigCommit 1 0) (st []) (fun t => !t.resp.error)) = true := by
  refine ⟨?_, ?_⟩ <;> decide +kernel

/-- What differs from a sum. -/
theorem pair_ne_add (a b : Int × Int) : a ≠ cAdd b (a.1 - b.1 + 1, 0) := by
  intro h
  have := congrArg Prod.fst h
  simp only [cAdd] at this
  omega

/-- A task of slice 0, at the first sample of a round. -/
def tasked : State := (beaming.wr R.BA_SCHED_d 1).wr (R.BA_TASK_en 0 0) 1

/-- A comparison of a task can fail: the checker's sum altered by a fault is not the sum of the columns. -/
theorem wit_slice_differs : tasked.ba.round = some 0 ∧ tasked.ba.fail = none ∧ ∃ chk, tasked.sliceDiffers 0 0 0 0 0 [] chk = true := by
  refine ⟨by decide +kernel, by decide +kernel, ?_⟩
  have ht : (tasked.task 0 0).isSome = true := by decide +kernel
  simp only [State.sliceDiffers, ht, Bool.true_and, decide_eq_true_eq, ne_eq]
  exact ⟨_, pair_ne_add _ _⟩

/-! ## Output and Ethernet -/

/-- An HLT report of 10 bytes that has passed the gate, on route 0. -/
def report : Inst := ⟨6, 196, 0, 0, 0, 0, 0, 0, 0, 0, 0, 1440, 10, .lit (List.replicate 10 0), some 0, [], 0, false⟩

/-- Ethernet port 0 is up, route 0 leads to it, and a report waits. -/
def outgoing : State :=
  let s := st [(R.ET_PORTSTAT_state 0, 2), (R.ET_PORTCTL_en 0, 1), (R.OT_CTL_en, 1), (R.OT_RTCTL_ports 0, 1), (R.OT_RTCTL_e0 0, 0),
    (R.OT_EPCTL_en 0, 1)]
  { s with ot := { s.ot with insts := [report] } }

/-- HLT reports run on route 9. -/
def hlt9 : State := st [(R.OT_HLT_en, 1), (R.OT_HLT_route, 9)]

/-- A state after reset with some fields given values, 100 s after the counter was at 0. -/
def later (l : List (FRef × Nat)) : State :=
  let s := st l
  { s with tb := { s.tb with t := 100 * 1000000000 * nsUnit } }

/-- Every clause of OutputWrites is met: route 255 is free, route 9 is in use; endpoint 255 is free and endpoint 0 of a route is used. -/
theorem wit_OutputWrites :
    (let s := st []; takesB s 1 (R.OT_RTCTL 255) 0 && !s.routeUsed 255
      && (s.landed 1 (R.OT_RTCTL 255) 0).rd (R.OT_RTCTL_ports 255) == 0) = true
    ∧ (let s := hlt9; takesB s 1 (R.OT_RTCTL 9) 1 && s.routeUsed 9
      && (s.landed 1 (R.OT_RTCTL 9) 1).word (R.OT_RTCTL 9) != s.word (R.OT_RTCTL 9)) = true
    ∧ (let s := st []; takesB s 1 (R.OT_EPCTL 255) 0 && !s.epUsed 255) = true
    ∧ (let s := st [(R.OT_RTCTL_ports 0, 1)]; takesB s 1 (R.OT_EPCTL 0 + 4) 7 && s.epUsed 0
      && (s.landed 1 (R.OT_EPCTL 0 + 4) 7).word (R.OT_EPCTL 0 + 4) != s.word (R.OT_EPCTL 0 + 4)) = true
    ∧ (writableB (st []) 1 (R.OT_EPMAC 255) && writableB (st []) 1 (R.OT_EPMAC 255 + 4)) = true
    ∧ (let s := (st []).setLatch 1 { (st []).latchOf 1 with wr := some (R.OT_EPMAC 255, 5) }; writableB s 1 (R.OT_EPMAC 255 + 4)
      && (s.latchOf 1).wr == some (R.OT_EPMAC 255, 5)) = true
    ∧ (takesB (st []) 1 (R.ET_PORTCTL 7) 1) = true
    ∧ (let s := st [(R.OT_HLT_en, 1), (R.OT_HLT_route, 9), (R.OT_RTCTL_ports 9, 128)]; s.routeUsed 9 && (s.routePorts 9).contains 7
      && s.rd (R.ET_PORTCTL_en 7) != (s.setWord (R.ET_PORTCTL 7) 1).rd (R.ET_PORTCTL_en 7)) = true
    ∧ (let s := st []; writableB s 1 (R.OT_SEQ 62) && writableB s 1 (R.OT_SEQ 196 + 4) && !s.on R.OT_CTL_en
      && decide (s.rq (R.OT_SEQ 62) ≤ 5)) = true := by
  refine ⟨?_, ?_, ?_, ?_, ?_, ?_, ?_, ?_, ?_⟩ <;> decide +kernel

/-- R161: a free route takes its entry; a route in use keeps it, with reason 1. -/
theorem test_routeWrite :
    (ans (.routeWrite 1 255 0) (st []) (fun t => t.rd R.OT_STATUS_cfg_reason == 0)) = true
    ∧ (ans (.routeWrite 1 9 1) hlt9 (fun t => t.rd R.OT_STATUS_cfg_reason == 1 && t.word (R.OT_RTCTL 9) == 0)) = true := by
  refine ⟨?_, ?_⟩ <;> decide +kernel

/-- R161: an endpoint of a route in use keeps its words; a MAC address lands with its upper half. -/
theorem test_endpointWrite :
    (ans (.endpointWrite 1 0 1 7) (st [(R.OT_RTCTL_ports 0, 1)]) (fun t => t.rd R.OT_STATUS_cfg_reason == 6)) = true
    ∧ (ans (.endpointWrite 1 255 3 9) ((st []).setLatch 1 { (st []).latchOf 1 with wr := some (R.OT_EPMAC 255, 5) }) (fun t => t.rq (R.OT_EPMAC 255) == 9 * 2 ^ 32 + 5)) = true := by
  refine ⟨?_, ?_⟩ <;> decide +kernel

/-- R168: a sequence number is raised, and a lower one is refused. -/
theorem test_sequence :
    (ans (.sequenceSet 1 62 9) (st []) (fun t => t.rq (R.OT_SEQ 62) == 9)) = true
    ∧ (ans (.sequenceSet 1 62 8) ((st []).wq (R.OT_SEQ 62) 9) (fun t => t.rq (R.OT_SEQ 62) == 9)) = true := by
  refine ⟨?_, ?_⟩ <;> decide +kernel

/-- R155: the enable of an Ethernet port starts its training. -/
theorem test_ethPort :
    (ans (.ethPortControlWrite 1 7 1) (st []) (fun t => t.rd (R.ET_PORTSTAT_state 7) == 1)) = true := by
  decide +kernel

/-- Every clause of OutputRuns is met. -/
theorem wit_OutputRuns :
    (let y : Integ := default; let s := { st [] with ag := { (st []).ag with closed := [(0, y)] } }; !s.off
      && s.ag.closed == [(0, y)] && !y.rel) = true
    ∧ (let x : Inst := { report with typ := 1 }; let s := { st [] with ba := { (st []).ba with due := [x] } }; s.ba.due == [x]) = true
    ∧ (let s := { st [(R.OT_TPW_en, 1)] with ot := { (st []).ot with sealed := [3] } }; s.ot.sealed == [3] && s.on R.OT_TPW_en) = true
    ∧ ((outgoing.nextInst 0 0).map (·.1) == some report && outgoing.segFor report 0 == some 0 && outgoing.routePorts 0 == [0]
      && outgoing.ethUp 0) = true
    ∧ (let s := later [(R.OT_HLT_en, 1)]; s.on R.OT_HLT_en
      && decide (s.ot.hltAt + s.rd R.OT_HLT_period * 1000000 * nsUnit ≤ s.tb.t)) = true
    ∧ (let s := later [(R.OT_TIM_en, 1)]; s.on R.OT_TIM_en && !s.ot.timDue
      && s.tb.t / (1000000000 * nsUnit) * (1000000000 * nsUnit) != s.ot.timAt) = true
    ∧ (let s := st [(R.OT_TIM_en, 1)]; s.on R.OT_TIM_en && !s.ot.timDue
      && s.tb.t / (1000000000 * nsUnit) * (1000000000 * nsUnit) == s.ot.timAt) = true := by
  refine ⟨?_, ?_, ?_, ?_, ?_, ?_, ?_⟩ <;> decide +kernel

/-- R164, R176, R177: a frame is counted on its port; the reports are numbered. -/
theorem test_outputRuns :
    (ans (.frameSend 0 0) outgoing (fun t => (t.word (R.ET_CNT 0 0)).toNat == 1)) = true
    ∧ (ans .hltReport (later [(R.OT_HLT_en, 1)]) (fun t => t.ot.hltN == 1)) = true
    ∧ (ans .timReport (later [(R.OT_TIM_en, 1)]) (fun t => t.ot.timN == 1)) = true := by
  refine ⟨?_, ?_, ?_⟩ <;> decide +kernel

/-- Every clause of EthernetPorts is met. -/
theorem wit_EthernetPorts :
    (let s := st [(R.ET_PORTSTAT_state 7, 2)]; !s.off && s.ethUp 7) = true
    ∧ (beAt (List.replicate 12 0 ++ beBytes 2 0x8808) 12 2 == 0x8808) = true
    ∧ ((st [(R.ET_PORTSTAT_state 7, 1)]).rd (R.ET_PORTSTAT_state 7) == 1
      && !(st [(R.ET_PORTSTAT_state 7, 1)]).on R.REF_STATUS_xo_lost) = true
    ∧ (((st [(R.ET_PORTSTAT_state 7, 2)]).ptpIn 7 (List.replicate 60 0)).isNone && beAt (List.replicate 60 0) 12 2 != 0x8808) = true := by
  refine ⟨?_, ?_, ?_, ?_⟩ <;> decide +kernel

/-- R155, Table 7-12: a frame with a bad check sequence and a PAUSE frame are counted; the port trains again when it loses alignment; a training port comes up with four lanes. -/
theorem test_ethernetPorts :
    (ans (.ethernetFrameReceive 7 false [] 0 2 3) (st [(R.ET_PORTSTAT_state 7, 2)]) (fun t => (t.word (R.ET_CNT 7 4)).toNat == 1
      && (t.word (R.ET_CNT 7 5)).toNat == 2 && (t.word (R.ET_CNT 7 6)).toNat == 3)) = true
    ∧ (ans (.ethernetFrameReceive 7 true (List.replicate 12 0 ++ beBytes 2 0x8808) 0 0 0) (st [(R.ET_PORTSTAT_state 7, 2)]) (fun t => (t.word (R.ET_CNT 7 3)).toNat == 1)) = true
    ∧ (ans (.ethAlignmentLoss 7) (st [(R.ET_PORTSTAT_state 7, 2)]) (fun t => t.rd (R.ET_PORTSTAT_state 7) == 1
      && t.on (R.ET_PORTSTAT_went_down 7))) = true
    ∧ (ans (.ethLinkUp 7) (st [(R.ET_PORTSTAT_state 7, 1)]) (fun t => t.rd (R.ET_PORTSTAT_state 7) == 2
      && t.rd (R.ET_PORTSTAT_lane_lock 7) == 15)) = true := by
  refine ⟨?_, ?_, ?_, ?_⟩ <;> decide +kernel

/-! ## Integrity and health -/

/-- Every clause of TestsRequested is met, for the highest units. -/
theorem wit_TestsRequested :
    (takesB (st []) 1 R.IG_TESTREQ_op.a (BitVec.ofNat 32 (255 * 256 + 1)) && (st []).ig.test.isNone) = true
    ∧ (let s := st [(R.IG_CTL_maint, 1)]; takesB s 1 R.IG_TESTREQ_op.a 2 && s.hasBeam && s.testFree && (st []).hasBeam
      && !(st []).testFree && takesB (st []) 1 R.IG_TESTREQ_op.a 2) = true
    ∧ (let s := { st [(R.IG_CTL_maint, 1)] with part := .c }; takesB s 1 R.IG_TESTREQ_op.a 2 && !s.hasBeam) = true
    ∧ (let s := st [(R.HM_STK_state 7, 5)]; takesB s 1 R.IG_TESTREQ_op.a (BitVec.ofNat 32 (7 * 256 + 3)) && !s.testFree
      && s.stkState 7 == 5 && takesB s 1 R.IG_TESTREQ_op.a (BitVec.ofNat 32 (8 * 256 + 3))) = true
    ∧ (let s := st [(R.IG_CTL_maint, 1), (R.HM_STK_state 7, 2)]; takesB s 1 R.IG_TESTREQ_op.a (BitVec.ofNat 32 (7 * 256 + 3))
      && s.testFree && s.stkState 7 == 2) = true
    ∧ (let s := st [(R.CS_STATUS_state, 2)]; takesB s 1 R.IG_TESTREQ_op.a (BitVec.ofNat 32 (25 * 256 + 4)) && s.testFree
      && takesB s 1 R.IG_TESTREQ_op.a (BitVec.ofNat 32 (26 * 256 + 4))) = true
    ∧ (let s := st []; takesB s 1 R.IG_TESTREQ_op.a (BitVec.ofNat 32 (25 * 256 + 4)) && !s.testFree
      && takesB s 1 R.IG_TESTREQ_op.a (BitVec.ofNat 32 (26 * 256 + 5))) = true
    ∧ (takesB (st []) 1 R.IG_TESTREQ_op.a (BitVec.ofNat 32 (25 * 256 + 5))) = true
    ∧ (let s := { st [] with ig := { (st []).ig with test := some (1, 3, 1024) } };
      [1, 2, 3, 4, 5].all (fun x => takesB s 1 R.IG_TESTREQ_op.a (BitVec.ofNat 32 x)) && !s.off
      && s.ig.test == some (1, 3, 1024)) = true := by
  refine ⟨?_, ?_, ?_, ?_, ?_, ?_, ?_, ?_, ?_⟩ <;> decide +kernel

/-- R194: a request that is taken names its unit; out of place its result is 5; of a unit that does not exist 7; while another runs 6. -/
theorem test_requests :
    (ans (.boardTestRequest 1 255) (st []) (fun t => t.ig.test == some (1, 255, 0) && t.rd R.IG_TESTRES_result == 1)) = true
    ∧ (ans (.beamTestRequest 1 0) (st []) (fun t => t.rd R.IG_TESTRES_result == 5)) = true
    ∧ (ans (.serdesRecalibrateRequest 1 25) (st [(R.CS_STATUS_state, 2)]) (fun t => t.rd R.IG_TESTRES_result == 2)) = true
    ∧ (ans (.laneCalibrateRequest 1 26) (st []) (fun t => t.rd R.IG_TESTRES_result == 7)) = true := by
  refine ⟨?_, ?_, ?_, ?_⟩ <;> decide +kernel

/-- R194: the outcome of a completed test is shown and another can start. -/
theorem test_testComplete :
    (ans (.testComplete false) { st [] with ig := { (st []).ig with test := some (1, 3, 1024) } } (fun t => t.ig.test.isNone
      && t.rd R.IG_TESTRES_result == 4)) = true
    ∧ (ans (.laneCalibrateRequest 1 5) { st [] with ig := { (st []).ig with test := some (1, 3, 1024) } } (fun t => t.rd R.IG_TESTRES_result == 6)) = true
    ∧ (ans (.hbmRetrainRequest 1 7) (st [(R.IG_CTL_maint, 1), (R.HM_STK_state 7, 2)]) (fun t => t.stkState 7 == 4
      && t.hm.retrain == [7])) = true := by
  refine ⟨?_, ?_, ?_⟩ <;> decide +kernel

/-- Every clause of HealthMoves is met. -/
theorem wit_HealthMoves :
    (let s := st []; takesB s 1 R.IG_CTL_maint.a (force 0 R.IG_CTL_maint 1) && !s.on R.IG_CTL_maint && s.bdState == 0
      && s.baState == 0 && !s.isActive) = true
    ∧ (let s := st [(R.BD_STATUS_state, 2)]; takesB s 1 R.IG_CTL_maint.a (force 0 R.IG_CTL_maint 1) && !s.on R.IG_CTL_maint
      && s.bdState == 2) = true
    ∧ (takesB (st [(R.IG_CTL_maint, 1)]) 1 R.IG_CTL_maint.a 0 && !(st [(R.IG_STATUS_hstate, 3)]).on R.TB_STATUS_set
      && takesB (st [(R.IG_STATUS_hstate, 3)]) 1 R.IG_CTL_fclr.a (force 0 R.IG_CTL_fclr 1)) = true
    ∧ (let s := st [(R.IG_STATUS_hstate, 3), (R.TB_STATUS_set, 1)]; takesB s 1 R.IG_CTL_fclr.a (force 0 R.IG_CTL_fclr 1)) = true
    ∧ (let s := st [(R.IG_STATUS_hstate, 3), (R.TB_STATUS_set, 1)]; s.rd R.IG_STATUS_hstate == 3 && s.tb.t == s.tb.t2
      && !s.on R.REF_STATUS_xo_lost && !s.ig.arbDown && s.on R.TB_STATUS_set) = true
    ∧ (let s := (st [(R.IG_STATUS_hstate, 2)]).wq R.AL_HORIZ (17361 * 65); !s.off && s.rd R.IG_STATUS_hstate == 2
      && decide (s.ig.impaired + 64 ≤ s.nextRound) && !s.anyDegraded) = true
    ∧ (let s := st []; !s.ig.arbDown && s.cf.loading.isNone) = true
    ∧ (let s := { st [] with ig := { (st []).ig with arbDown := true } }; !s.off && s.ig.arbDown && s.rd R.IG_STATUS_hstate != 4) = true
    ∧ (let s := { st [] with ba := { (st []).ba with round := some 0 } }; s.tb.t + 1 == 1 && s.ig.faulty == []
      && s.ba.round == some 0) = true := by
  refine ⟨?_, ?_, ?_, ?_, ?_, ?_, ?_, ?_, ?_⟩ <;> decide +kernel

/-- R195: maintenance is entered at rest; R196: the Arbiter stops and returns; R247: a difference of the counter's copies is a fatal fault. -/
theorem test_health :
    (ans (.maintenanceRequest 1 1) (st []) (fun t => t.on R.IG_CTL_maint)) = true
    ∧ (ans (.faultClear 1 0) (st [(R.IG_STATUS_hstate, 3), (R.TB_STATUS_set, 1), (R.CK_STATUS_eg_cause, 8)]) (fun t => t.rd R.CK_STATUS_eg_cause == 0)) = true
    ∧ (ans .arbiterLockstepFault (st []) (fun t => t.ig.arbDown && t.quiesced 1)) = true
    ∧ (ans .arbiterRestartDone { st [] with ig := { (st []).ig with arbDown := true } } (fun t => !t.ig.arbDown)) = true
    ∧ (ans (.counterDisagree 5) (st []) (fun t => t.on R.TB_STATUS_cnt_err && t.tb.t2 == 5)) = true
    ∧ (ans (.adderMismatch 4 true (.detect 0 0 0 0)) (st []) (fun t => t.ig.faulty == [4])) = true
    ∧ (ans .healthRecovery ((st [(R.IG_STATUS_hstate, 2)]).wq R.AL_HORIZ (17361 * 65)) (fun t => t.rd R.IG_STATUS_hstate == 0)) = true
    ∧ (ans .arbiterRestartTimeout { st [] with ig := { (st []).ig with arbDown := true } } (fun t => t.rd R.IG_STATUS_hstate == 3)) = true := by
  refine ⟨?_, ?_, ?_, ?_, ?_, ?_, ?_, ?_⟩ <;> decide +kernel

/-! ## Castling -/

/-- A castling message of a type with a claim and a body. -/
def msgOf (msg claim : Nat) (body : Bytes) : Bytes := castMessage msg 0 claim body

/-- Castling is enabled, CST is UP and the unit is in a state. -/
def castled (x : Nat) : State := st [(R.CS_CTL_en, 1), (portState 16, 3), (R.CS_STATUS_state, x)]

/-- A castled unit with repair on. -/
def castRepair : State :=
  let s := st [(R.CS_CTL_en, 1), (portState 16, 3), (R.CS_STATUS_state, 1), (R.TB_STATUS_sce_valid, 1), (R.REF_STATUS_tq, 0),
    (R.AL_RPRCTL_en, 1)]
  { s with tb := { s.tb with epoch := ⟨0, 0, 2 ^ 42, 0⟩ } }

/-- A matched-plan body: round 9, with the first byte of its record. -/
def planBody (k : Nat) : Bytes := leBytes 8 9 ++ leBytes 1 k ++ leBytes 39 0

/-- A released instance of VIS with its first sequence number, none of its digests sent. -/
def undigested : Inst := ⟨0, 5, 0, 0, 0, 0, 0, 0, 0, 0, 0, 1440, 10, .lit (List.replicate 10 0), some 0, [], 0, false⟩

/-- A unit whose Pair Map has a digest. -/
def joinable : State := (st []).wq R.AG_PMDIG 77

/-- Every clause of MessagesAct is met; a LEASE with a claim one below H, and messages of every type. -/
theorem wit_MessagesAct :
    (let s := (castled 2).wq R.CS_HCLAIM 8; !s.off && hearsB s (msgOf 1 7 (leBytes 32 0)) 1 7 (leBytes 32 0)
      && s.rq R.CS_HCLAIM == 8) = true
    ∧ (let s := castled 3; hearsB s (msgOf 2 7 (leBytes 9 5)) 2 7 (leBytes 9 5) && s.csState == 3) = true
    ∧ (let s := castled 2; hearsB s (msgOf 3 7 (leBytes 8 5)) 3 7 (leBytes 8 5) && !s.isActive) = true
    ∧ (hearsB (castled 2) (msgOf 4 7 (leBytes 8 5)) 4 7 (leBytes 8 5)) = true
    ∧ (let b := leBytes 4 0 ++ leBytes 4 1 ++ leBytes 24 0; hearsB (castled 2) (msgOf 4 7 b) 4 7 b && min 1000 (leAt b 4 4) == 1) = true
    ∧ (let s := { castled 3 with cs := { (castled 3).cs with hand := some 4 } };
      hearsB s (msgOf 4 7 (leBytes 24 0)) 4 7 (leBytes 24 0) && s.cs.hand.isSome && s.csState == 3) = true
    ∧ (let s := { castRepair with ul := ingesting.ul }.wr R.IN_CTL_en 1; let b := samplePkt 0; hearsB s (msgOf 8 7 b) 8 7 b
      && s.repairOn && !(badSample b)
      && s.on R.IN_CTL_en && s.strOn (s.tableRound (leAt b 12 8)) (leAt b 4 2)
      && s.layoutMatches (s.tableRound (leAt b 12 8)) b
      && leAt b 0 2 == 0x4C55 && byteAt b 2 == 1 && byteAt b 3 == 0 && crc32c (b.take 28) == leAt b 28 4) = true
    ∧ (hearsB (castled 1) (msgOf 10 7 (leBytes 4 3)) 10 7 (leBytes 4 3) && byteAt (leBytes 4 3) 0 == 3
      && hearsB (castled 1) (msgOf 10 7 (leBytes 4 9)) 10 7 (leBytes 4 9)) = true
    ∧ (let s := { st [] with cs := { (st []).cs with waiting := true } }; s.csState == 0 && s.cs.waiting
      && !(byteAt (zeros 16) 15).testBit 1) = true
    ∧ (let b := zeros 15 ++ [1]; (castled 2).csState == 2 && (byteAt b 15).testBit 0 && !(byteAt b 15).testBit 1) = true
    ∧ (let s := (castled 4).wq R.CS_CLAIM 3; s.csState == 4 && decide (s.rq R.CS_CLAIM < 4) && decide (3 ≤ s.rq R.CS_CLAIM)) = true
    ∧ (let s := joinable; let b := s.joinBody; byteAt b 6 != 1 && leAt b 0 4 == s.rd R.CF_EPOCH_epoch && leAt b 8 8 == s.hash64
      && leAt b 48 4 == s.rd R.TOP_ID_code
      && leAt b 4 2 == s.rd R.TB_STATUS_epoch && leAt b 16 8 == s.epochStart && leAt b 24 8 == s.mapDig && s.mapDig != 0
      && s.setsUsed.all (fun x => s.weightDig x != 0 && leAt b (32 + 8 * x) 8 == s.weightDig x)) = true
    ∧ (let s := joinable; let b := s.joinBody; leAt (1 :: b.drop 1) 0 4 != s.rd R.CF_EPOCH_epoch
      && byteAt (b.set 8 (255 - byteAt b 8)) 8 != byteAt b 8 && leAt (b.set 48 5) 48 4 != s.rd R.TOP_ID_code
      && leAt (b.set 4 5) 4 2 != s.rd R.TB_STATUS_epoch && leAt (b.set 16 5) 16 8 != s.epochStart
      && leAt (b.set 24 5) 24 8 != s.mapDig) = true
    ∧ (let s := castled 3; let b := s.joinBody; s.csState == 3 && leAt b 48 4 == s.rd R.TOP_ID_code) = true
    ∧ (let s := castled 3; hearsB s (msgOf 5 7 (planBody 1)) 5 7 (planBody 1) && byteAt (((planBody 1).drop 8).take 40) 0 == 1
      && s.isActive) = true
    ∧ (let s := castled 2; hearsB s (msgOf 5 7 (planBody 0)) 5 7 (planBody 0) && byteAt (((planBody 0).drop 8).take 40) 0 == 0) = true
    ∧ (let s := castled 2; s.csState == 2 && (s.planOf 9).isNone && decide (s.ck.next ≤ leAt (planBody 0) 0 8)) = true
    ∧ (let s := castRepair; hearsB s (msgOf 6 7 (leBytes 8 5)) 6 7 (leBytes 8 5) && s.repairOn) = true
    ∧ (let s := castRepair; hearsB s (msgOf 7 7 (leBytes 8 5)) 7 7 (leBytes 8 5)
      && hearsB s (msgOf 8 7 (leBytes 8 5)) 8 7 (leBytes 8 5)) = true
    ∧ (let s := castled 1; hearsB s (msgOf 9 7 (leBytes 8 5)) 9 7 (leBytes 8 5)
      && hearsB s (msgOf 10 7 (leBytes 4 0)) 10 7 (leBytes 4 0) && s.csState == 1) = true
    ∧ (hearsB (castled 2) (msgOf 11 7 (leBytes 8 5)) 11 7 (leBytes 8 5)) = true := by
  refine ⟨?_, ?_, ?_, ?_, ?_, ?_, ?_, ?_, ?_, ?_, ?_, ?_, ?_, ?_, ?_, ?_, ?_, ?_, ?_, ?_, ?_⟩ <;> decide +kernel

/-- Table 9-2: an ACK ends sole operation; a matched plan of the peer is kept; an accepted JRES clears the reason. -/
theorem test_messages :
    (ans (.ackReceive (msgOf 2 7 (leBytes 9 5))) (castled 3) (fun t => t.cs.ackSeq == 5 && t.cs.acked && t.rq R.CS_HCLAIM == 7)) = true
    ∧ (ans (.planReceive (msgOf 5 7 (planBody 1))) (castled 3) (fun t => smapGet 0 t.ck.peer 9 == 1)) = true
    ∧ (ans (.jresReceive (msgOf 10 7 (leBytes 4 0))) (castled 1) (fun t => t.rd R.CS_STATUS_jreason == 0 && t.cs.joined == some 1)) = true := by
  refine ⟨?_, ?_, ?_⟩ <;> decide +kernel

/-- R205: a LEASE with a claim below H is counted and does nothing more. -/
theorem test_leaseBelow :
    (ans (.leaseReceive (msgOf 1 7 (leBytes 32 0)) 3) ((castled 2).wq R.CS_HCLAIM 8) (fun t => (t.word (R.CS_CNT 5)).toNat == 1
      && t.csState == 2 && t.rq R.CS_PEERSN == 3)) = true := by
  decide +kernel

/-- Every clause of LeaseKept is met. -/
theorem wit_LeaseKept :
    (let s := castled 3; !s.off && s.on R.CS_CTL_en && s.isActive && !s.on R.CS_STATUS_sole) = true
    ∧ ((castled 5).csState == 5 && (castled 5).on R.CS_CTL_en && !(castled 1).isActive && (castled 1).on R.CS_CTL_en) = true
    ∧ (let s := { castled 3 with ot := { (castled 3).ot with insts := [undigested] } }; s.ot.insts.find? (fun y => y.typ < 6
      && y.first.isSome && decide (y.digs < y.segs)) == some undigested && undigested.first == some 0) = true
    ∧ (let s := { castled 2 with cs := { (castled 2).cs with guard := true } }; s.csState == 2 && s.cs.guard) = true
    ∧ (let s := st [(R.CS_CTL_en, 1), (R.CS_STATUS_state, 2)]; !s.portUp 16 && s.csState == 2) = true
    ∧ (let s := castled 2; (s.planOf 0).isNone && decide (0 ≤ s.rq R.AL_SEALED) && s.ck.next == 0) = true
    ∧ (let s := { castled 1 with cs := { (castled 1).cs with waiting := true } }; s.cs.waiting && !s.off) = true := by
  refine ⟨?_, ?_, ?_, ?_, ?_, ?_, ?_⟩ <;> decide +kernel

/-- R200 to R203: a renewal toggles the pin; the guard's end takes the lease; no acknowledgment fences; a link down unsynchronises. -/
theorem test_lease :
    (ans .leaseRenewal (castled 3) (fun t => t.cs.pin != (castled 3).cs.pin && t.cs.leaseSeq == 1 && !t.cs.acked)) = true
    ∧ (ans (.leasePinTransition 5) (castled 3) (fun t => t.cs.acked && t.on R.CS_STATUS_pins_ok)) = true
    ∧ (ans .leaseExpiry (castled 2) (fun t => t.cs.guard && t.csState == 2)) = true
    ∧ (ans .guardExpiry { castled 2 with cs := { (castled 2).cs with guard := true } } (fun t => t.csState == 3
      && t.rq R.CS_CLAIM == 1 && t.on R.CS_STATUS_sole)) = true
    ∧ (ans .ackTimeout (castled 3) (fun t => t.csState == 4 && t.evq.contains (96, 0))) = true
    ∧ (ans .cstLinkTimeout (st [(R.CS_CTL_en, 1), (R.CS_STATUS_state, 2)]) (fun t => t.csState == 1)) = true
    ∧ (ans .leaseWaitExpiry { castled 1 with cs := { (castled 1).cs with waiting := true } } (fun t => t.csState == 3
      && !t.cs.waiting)) = true
    ∧ (ans .digestSend { castled 3 with ot := { (castled 3).ot with insts := [undigested] } } (fun t => t.ot.insts.map (·.digs) == [1])) = true := by
  refine ⟨?_, ?_, ?_, ?_, ?_, ?_, ?_, ?_⟩ <;> decide +kernel

/-- Every clause of CastlingWrites is met. -/
theorem wit_CastlingWrites :
    (let s := st []; takesB s 1 R.CS_CTL_en.a (force 0 R.CS_CTL_en 1) && !s.on R.CS_CTL_en) = true
    ∧ (let w := force 0 R.CS_CTL_en 1; !((st []).landed 1 R.CS_CTL_en.a w).on R.CS_CTL_take && (let s := st [(R.CS_CTL_take, 1)];
      let w := force (s.word R.CS_CTL_en.a) R.CS_CTL_en 1;
      takesB s 1 R.CS_CTL_en.a w && !s.on R.CS_CTL_en && s.csState == 0 && (s.landed 1 R.CS_CTL_en.a w).on R.CS_CTL_take)) = true
    ∧ (let s := castled 2; takesB s 1 R.CS_CTL_en.a (force 0 R.CS_CTL_en 0) && s.on R.CS_CTL_en && !s.isActive) = true
    ∧ (let s := castled 3; takesB s 1 R.CS_CTL_en.a (force 0 R.CS_CTL_en 0) && s.on R.CS_CTL_en && s.isActive) = true
    ∧ (let s := { castled 3 with cs := { (castled 3).cs with peerState := 2 } }; takesB s 1 R.CS_CMD_op.a 1 && s.csState == 3
      && s.cs.peerState == 2) = true
    ∧ (takesB (castled 3) 1 R.CS_CMD_op.a 1 && (castled 3).cs.peerState != 2 && takesB (castled 1) 1 R.CS_CMD_op.a 1
      && takesB (castled 3) 1 R.CS_CMD_op.a 2
      && takesB (castled 3) 1 R.CS_CMD_op.a 3 && (castled 3).isActive && takesB (castled 3) 1 R.CS_CMD_op.a 4
      && takesB (castled 1) 1 R.CS_CMD_op.a 5) = true
    ∧ (takesB (castled 1) 1 R.CS_CMD_op.a 2 && takesB (castled 4) 1 R.CS_CMD_op.a 2 && takesB (castled 2) 1 R.CS_CMD_op.a 2) = true
    ∧ (takesB (castled 2) 1 R.CS_CMD_op.a 3 && takesB (castled 1) 1 R.CS_CMD_op.a 4) = true
    ∧ (let s := { castled 3 with cs := { (castled 3).cs with peerState := 1, peerPrep := true } }; takesB s 1 R.CS_CMD_op.a 5
      && s.csState == 3 && s.cs.peerState == 1 && s.cs.peerPrep) = true := by
  refine ⟨?_, ?_, ?_, ?_, ?_, ?_, ?_, ?_, ?_⟩ <;> decide +kernel

/-- R206, R219, R224: the host's commands; a JOIN fills two cells; a handover with no stream to hand ends at once. -/
theorem test_castCommands :
    (ans (.castlingEnable 1 1) (st []) (fun t => t.on R.CS_CTL_en)) = true
    ∧ (ans (.castlingDisable 1 0) (castled 3) (fun t => t.on R.CS_CTL_en && t.on R.CS_STATUS_cmd_err)) = true
    ∧ (ans (.castResign 1) { castled 3 with cs := { (castled 3).cs with peerState := 2 } } (fun t => t.csState == 2)) = true
    ∧ (ans (.takeAsSole 1) (castled 4) (fun t => t.csState == 3 && t.on R.CS_STATUS_sole)) = true
    ∧ (ans (.castLeave 1) (castled 2) (fun t => t.csState == 0 && !t.on R.CS_CTL_en)) = true
    ∧ (ans (.castJoin 1) (castled 1) (fun t => t.out.length == 2)) = true
    ∧ (ans (.handOver 1) { castled 3 with cs := { (castled 3).cs with peerState := 1, peerPrep := true } } (fun t => t.csState == 1
      && t.cs.hand.isNone)) = true := by
  refine ⟨?_, ?_, ?_, ?_, ?_, ?_, ?_⟩ <;> decide +kernel

/-! ## References -/

/-- Slot 0, a 10 MHz reference, in a state and seen, beside registers given. -/
def ref0 (x : Nat) (l : List (FRef × Nat)) : State :=
  let s := st ([(R.REF_CFG_en 0, 1), (R.REF_CFG_fnom 0, 1), (R.REF_STAT_state 0, x)] ++ l)
  s.setRefSlot 0 { s.refSlot 0 with seen := true }

/-- Slots that are qualified and slots that qualify, all compared for long. -/
def compared (l k : List Nat) : State :=
  let s := st (l.map (fun r => (R.REF_STAT_state r, 4)) ++ k.flatMap (fun r => [(R.REF_STAT_state r, 3), (R.REF_CFG_en r, 1)]))
  (l ++ k).foldl (fun s r => s.setRefSlot r { s.refSlot r with age := 2 ^ 20, clean := 2 ^ 20 }) s

/-- Every clause of ReferencesMove is met; an interval at the lower limit of a normal edge and one below it, an offset at the window and one beyond. -/
theorem wit_ReferencesMove :
    (let s := ref0 2 []; !s.off && decide (refType 0 = .f) && s.refState 0 != 0 && (s.refSlot 0).seen
      && decide (nominal20 (s.rd (R.REF_CFG_fnom 0)) * 3 ≤ 4 * 3750)
      && decide (4 * 3750 ≤ nominal20 (s.rd (R.REF_CFG_fnom 0)) * 5)) = true
    ∧ (let s := ref0 2 []; !({ s with rf := { s.rf with slot := [] } }.refSlot 0).seen && decide (refType 0 = .f)) = true
    ∧ (let s := (st [(R.REF_STAT_state 3, 4), (R.REF_STATUS_sel, 3)]).setRefSlot 3 { (st []).refSlot 3 with seen := true };
      (s.refSlot 3).seen && (s.refSlot 3).since == 0
      && decide (0 + 49999950000 + s.rd (R.REF_TOL_tol_ns 3) * 50 ≤ 50000000000 + 50000000000)
      && decide (0 + 1 + s.rd (R.REF_TOL_tol_ns 3) * 50 < 50000000000) && s.tb.step.isNone && s.refSel == some 3) = true
    ∧ (let s := ref0 2 []; decide (4 * 3749 < nominal20 (s.rd (R.REF_CFG_fnom 0)) * 3)) = true
    ∧ (let s := st [(R.REF_STAT_state 3, 4)]; s.refState 3 != 0 && decide (refType 3 = .p)) = true
    ∧ (let s := st [(R.REF_STAT_state 3, 3), (R.REF_STATUS_sel, 5)]; s.refState 3 == 3 && s.refSel == some 5) = true
    ∧ (let s := ref0 4 []; s.refState 0 != 0 && decide (s.rd R.REF_XOWIN_win_ppm * 1000000 < (-10000001 : Int).natAbs)
      && decide ((10000000 : Int).natAbs ≤ s.rd R.REF_XOWIN_win_ppm * 1000000)) = true
    ∧ (let s := ref0 4 [(R.REF_STATUS_sel, 5), (R.REF_CTL_revert, 1), (R.REF_CFG_pri 0, 1), (R.REF_CFG_pri 5, 2)];
      s.refSel == some 5 && s.on R.REF_CTL_revert && s.refState 0 == 4 && s.rd (R.REF_CFG_pri 0) < s.rd (R.REF_CFG_pri 5)) = true
    ∧ (let s := st [(R.REF_STATUS_sel, 0)]; !s.off && s.refSel == some 0 && !s.on R.REF_STATUS_slewing && !s.on R.TB_STATUS_disc
      && !s.on R.REF_STATUS_xo_lost) = true
    ∧ (let s := st [(R.REF_STATUS_slewing, 1)]; s.on R.REF_STATUS_slewing && s.refSel.isNone) = true
    ∧ (let s := st [(R.MG_STATUS_xo_wait, 0)]; !s.on R.MG_STATUS_xo_wait && !s.on R.REF_STATUS_xo_lost) = true
    ∧ (let s := st [(R.REF_STATUS_xo_lost, 1), (R.MG_STATUS_xo_wait, 0)]; s.on R.REF_STATUS_xo_lost && !s.on R.MG_STATUS_xo_wait) = true
    ∧ (((st []).takeMeans [1, 2] [3]).participants == []) = true
    ∧ (let s := ref0 4 [(R.REF_STATUS_sel, 0), (R.REF_STATUS_locked, 1)]; s.refSel == some 0 && s.on R.REF_STATUS_locked
      && decide ((10000000 : Int).natAbs ≤ s.rd R.REF_XOWIN_win_ppm * 1000000)) = true
    ∧ (let s := ref0 3 [(R.REF_STAT_streak 0, 2)]; min 3 (s.rd (R.REF_STAT_streak 0) + 1) == 3 && s.refState 0 == 3
      && min 3 ((ref0 4 []).rd (R.REF_STAT_streak 0) + 1) < 3) = true
    ∧ (let t := (compared [0, 1, 2] []).takeMeans [0, 0, 10 ^ 12] [];
      outlierOf t.participants (fun i j => t.disagrees [0, 0, 10 ^ 12] [] i j) == some 2) = true
    ∧ (let t := (compared [0, 1] []).takeMeans [0, 10 ^ 12] []; t.participants == [0, 1]
      && outlierOf t.participants (fun i j => t.disagrees [0, 10 ^ 12] [] i j) == none
      && tieBreak [0, 1] (t.breakers [0, 1]) (fun i j => t.disagrees [0, 10 ^ 12] [] i j) == none) = true
    ∧ (let t := (compared [0, 1] [4]).takeMeans [0, 10 ^ 12] [0, 10 ^ 12, 0, 0, 0];
      let dis := fun i j => t.disagrees [0, 10 ^ 12] [0, 10 ^ 12, 0, 0, 0] i j; t.participants == [0, 1]
      && outlierOf t.participants dis == none && tieBreak [0, 1] (t.breakers [0, 1]) dis == some 1) = true := by
  refine ⟨?_, ?_, ?_, ?_, ?_, ?_, ?_, ?_, ?_, ?_, ?_, ?_, ?_, ?_, ?_, ?_, ?_, ?_⟩ <;> decide +kernel

/-- Table 10-3: a first normal edge starts to qualify; an offset beyond the window disqualifies with reason 2, and a qualification waits, in the selector's window; a wait that ends switches. -/
theorem test_references :
    (ans (.referenceEdge 0 5000 0) (ref0 2 []) (fun t => t.refState 0 == 3)) = true
    ∧ (ans (.referenceEdge 0 3000 0) (ref0 4 []) (fun t => (t.word (R.REF_ANOM 0)).toNat == 1)) = true
    ∧ (ans (.hardWindowGate 0 (-10000001)) (ref0 4 []) (fun t => t.rf.events == [.disqualify 0 2])) = true
    ∧ (ans (.revertWaitExpiry 0) (ref0 4 [(R.REF_STATUS_sel, 5), (R.REF_CTL_revert, 1), (R.REF_CFG_pri 0, 1), (R.REF_CFG_pri 5, 2)]) (fun t => t.refSel == some 0)) = true
    ∧ (ans (.referenceQualified 3) (st [(R.REF_STAT_state 3, 3), (R.REF_STATUS_sel, 5)]) (fun t => t.rf.events == [.qualify 3])) = true
    ∧ (ans (.referenceEventTimeout 3) (st [(R.REF_STAT_state 3, 4)]) (fun t => (t.word (R.REF_ANOM 3)).toNat == 1)) = true := by
  refine ⟨?_, ?_, ?_, ?_, ?_, ?_⟩ <;> decide +kernel

/-- R227, R240: lock is shown; the loss of XO_IN is a fatal fault; its return starts a free run. -/
theorem test_oscillator :
    (ans .dpllLock (st [(R.REF_STATUS_sel, 0)]) (fun t => t.on R.REF_STATUS_locked)) = true
    ∧ (ans .slewComplete (st [(R.REF_STATUS_slewing, 1)]) (fun t => !t.on R.REF_STATUS_slewing)) = true
    ∧ (ans .xoInLost (st [(R.MG_STATUS_xo_wait, 0)]) (fun t => t.on R.REF_STATUS_xo_lost && t.rd R.IG_STATUS_hstate == 3)) = true
    ∧ (ans .xoInReturn (st [(R.REF_STATUS_xo_lost, 1), (R.MG_STATUS_xo_wait, 0)]) (fun t => !t.on R.REF_STATUS_xo_lost && t.mg.xo)) = true
    ∧ (ans (.crossComparisonUpdate [1] [2]) (st []) (fun t => t.rf.calm == 1)) = true := by
  refine ⟨?_, ?_, ?_, ?_, ?_⟩ <;> decide +kernel

/-- Every clause of ReferenceWrites is met. -/
theorem wit_ReferenceWrites :
    (let s := st []; takesB s 1 (R.REF_CFG_en 7).a (force 0x10000 (R.REF_CFG_en 7) 1) && !s.on (R.REF_CFG_en 7)
      && s.refState 7 == 0) = true
    ∧ (let s := ref0 4 [(R.REF_STATUS_sel, 5)];
      takesB s 1 (R.REF_CFG_en 0).a (force (s.word (R.REF_CFG_en 0).a) (R.REF_CFG_en 0) 0) && s.on (R.REF_CFG_en 0)
      && s.refSel == some 5) = true
    ∧ (let s := ref0 4 []; s.rf.events == [] && (let t := { s with rf := { s.rf with events := [.enable 3], window := 7 } };
      t.rf.events != [] && t.rf.window != t.selWindow)) = true
    ∧ (let s := ref0 4 [(R.REF_STATUS_sel, 0)]; s.refSel == some 0 && s.selectable 0
      && (ref0 3 [(R.REF_STATUS_sel, 0)]).refSel == some 0 && !(ref0 3 [(R.REF_STATUS_sel, 0)]).selectable 0) = true
    ∧ (let s := ref0 3 [(R.REF_STATUS_sel, 0)];
      (State.bestRef (if s.on R.REF_STATUS_slewing = true then s else s.holdY s.meanY)).isNone
      && (let s := ref0 3 [(R.REF_STATUS_sel, 0), (R.REF_STAT_state 5, 4), (R.REF_CFG_en 5, 1)];
      (State.bestRef (if s.on R.REF_STATUS_slewing = true then s else s.holdY s.meanY)) == some 5)) = true
    ∧ (let s := ref0 1 []; takesB s 1 R.REF_CMD_clr.a 1 && s.refState 0 == 1) = true
    ∧ (let s := ref0 4 []; takesB s 1 R.REF_CTL_manual.a (force 0 R.REF_CTL_manual 1) && !s.on R.REF_CTL_manual
      && s.selectable ((s.landed 1 R.REF_CTL_manual.a (force 0 R.REF_CTL_manual 1)).rd R.REF_CTL_msel)) = true := by
  refine ⟨?_, ?_, ?_, ?_, ?_, ?_, ?_⟩ <;> decide +kernel

/-- R235, R245: what the writes do falls in the selector's window; a window with a selection by hand selects its slot. -/
theorem test_referenceWrites :
    (ans (.referenceEnable 1 7 0x10000) (st []) (fun t => t.rf.events == [.enable 7])) = true
    ∧ (ans (.referenceDisable 1 0 ((ref0 4 []).word (R.REF_CFG_en 0).a)) (ref0 4 [(R.REF_STATUS_sel, 5)]) (fun t => t.rf.events == [.disable 0])) = true
    ∧ (ans (.referenceLatchClear 1 1) (ref0 1 []) (fun t => t.rf.events == [.clear 0])) = true
    ∧ (ans (.manualSelect 1 0) (ref0 4 []) (fun t => t.rf.events == [.select true 0] && t.closeWindow.refSel == some 0)) = true := by
  refine ⟨?_, ?_, ?_, ?_⟩ <;> decide +kernel

/-! ## Time -/

/-- The time counter runs. -/
def ticking : State := let s := st [(R.MG_STATUS_step, 3)]; { s with mg := { s.mg with vin := true }, tb := { s.tb with t := 5 * 10 ^ 9 * 2 ^ 48 + 7 } }

/-- The second whole second after the start is the target of comparator 3, which is armed. -/
def armed3 (now : Nat) : State :=
  let s := (st [(R.TB_TRGCTL_arm 3, 1), (R.TB_TRGWID_ns 3, 100)]).wq (R.TB_TRGS 3) 2
  { s with tb := { s.tb with t := now * 10 ^ 9 * 2 ^ 48 } }

/-- A time step that adds 5 s, unbound or bound to round 1. -/
def stepping (b : Option Nat) : State := { st [] with tb := { (st []).tb with step := some ⟨b, 0, 5000000000, 0, 0⟩ } }

/-- Port 0 has heard an SC epoch, and the commit asks for it. -/
def heardOne : State :=
  let s := (st [(R.TB_SCECTL_src, 1)]).wq R.TB_SCEPER 5
  s.setUlp 0 { s.ulp 0 with tim := { (s.ulp 0).tim with tflags := 1 } }

/-- Every clause of TimeWrites is met. -/
theorem wit_TimeWrites :
    (takesB (st []) 1 R.TB_STEPCTL_go.a (force 0 R.TB_STEPCTL_go 1)) = true
    ∧ (takesB (st []) 1 R.TB_SCECTL_commit.a (force 0 R.TB_SCECTL_commit 1)) = true
    ∧ (takesB (st []) 1 R.TB_SCECTL_inval.a (force 0 R.TB_SCECTL_inval 1)) = true
    ∧ (let s := st []; takesB s 1 (R.TB_TRGCTL_arm 15).a (force 0 (R.TB_TRGCTL_arm 15) 1) && !s.on (R.TB_TRGCTL_arm 15)) = true
    ∧ (let s := (stepping none).wr R.TB_STEPNS_ns 1; s.rd R.TB_STEPCTL_mode == 0 && s.tb.step.isSome
      && decide ((0 : Int) ≤ (s.nowNs : Int) + (toSigned 64 (s.rq R.TB_STEPS) * 1000000000 + s.rd R.TB_STEPNS_ns))) = true
    ∧ (let s := (st []).wq R.TB_STEPS (2 ^ 64 - 1); s.rd R.TB_STEPCTL_mode == 0
      && decide ((s.nowNs : Int) + (toSigned 64 (s.rq R.TB_STEPS) * 1000000000 + s.rd R.TB_STEPNS_ns) < 0)) = true
    ∧ (let s := st []; s.tb.step.isNone && s.bindTo (s.on R.TB_STEPCTL_tgt) (s.rq R.TB_STEPTGT) == some s.nextRound
      && { st [(R.TB_STEPCTL_tgt, 1)] with rnd := 3 }.bindTo true 0 == none) = true
    ∧ (let s := st [(R.TB_STEPCTL_mode, 1), (R.REF_STATUS_sel, 3)]; s.rd R.TB_STEPCTL_mode == 1 && s.refSel == some 3
      && decide (refType 3 ≠ .f) && decide ((0 : Int) ≤ (s.nowNs : Int) + -(psToNs (s.refOffset 3)))) = true
    ∧ (let s := st [(R.TB_STEPCTL_mode, 1), (R.REF_STATUS_sel, 0)]; s.refSel == some 0 && decide (refType 0 = .f)
      && (st [(R.TB_STEPCTL_mode, 1)]).refSel == none) = true
    ∧ (let s := (st [(R.TB_STEPCTL_mode, 1), (R.REF_STATUS_sel, 3)]).setRefSlot 3 { (st []).refSlot 3 with off := 5000 };
      s.refSel == some 3 && decide ((s.nowNs : Int) + -(psToNs (s.refOffset 3)) < 0)) = true
    ∧ (let s := (st [(R.TB_STEPCTL_mode, 2)]).wq R.TB_STEPS (2 ^ 64 - 1); s.rd R.TB_STEPCTL_mode == 2
      && decide (toSigned 64 (s.rq R.TB_STEPS) < 0) && decide (0 ≤ toSigned 64 ((st []).rq R.TB_STEPS))) = true
    ∧ (let s := st [(R.TB_STEPCTL_mode, 3), (R.REF_STATUS_sel, 3)]; s.rd R.TB_STEPCTL_mode == 3 && !s.sceValid
      && s.refSel == some 3 && decide (refType 3 = .p) && (st [(R.TB_STEPCTL_mode, 3)]).refSel == none) = true
    ∧ (let s := (st []).wq R.TB_SCEPER 0; s.rq R.TB_SCEPER == 0 && (s.wr R.TB_SCECTL_src 1).on R.TB_SCECTL_src
      && !s.on R.TB_SCECTL_src && !(s.ulp 0).tim.tflags.testBit 0) = true
    ∧ (let s := heardOne; s.rq R.TB_SCEPER != 0 && s.on R.TB_SCECTL_src && (s.ulp (s.rd R.TB_SCECTL_port)).tim.tflags.testBit 0) = true
    ∧ (let s := { st [(R.TB_SCECTL_tgt, 1)] with rnd := 3 }; s.tb.sce.isNone
      && s.bindTo (s.on R.TB_SCECTL_tgt) (s.rq R.TB_SCETGT) == none && !s.sceValid && (st []).bindTo false 0 == some 1) = true
    ∧ (let s := st [(R.TB_STATUS_sce_valid, 1)]; s.sceValid && s.tb.sce.isNone
      && s.bindTo (s.on R.TB_SCECTL_tgt) (s.rq R.TB_SCETGT) == some s.nextRound) = true
    ∧ (let s := st [(R.TB_TRGCTL_periodic 3, 1)]; s.on (R.TB_TRGCTL_periodic 3) && s.trgPeriod 3 == 0
      && (s.wr (R.TB_TRGPERS_s 3) 1).trgPeriod 3 != 0 && !(st []).on (R.TB_TRGCTL_periodic 3)) = true
    ∧ ((armed3 2).dueSoon 3 && !(armed3 1).dueSoon 3) = true := by
  refine ⟨?_, ?_, ?_, ?_, ?_, ?_, ?_, ?_, ?_, ?_, ?_, ?_, ?_, ?_, ?_, ?_, ?_, ?_⟩ <;> decide +kernel

/-- R254 to R256: the writes are answered. -/
theorem test_timeWrites :
    (ans (.timeStepRequest 1 0) (st []) (fun t => !t.resp.error)) = true
    ∧ (ans (.scEpochCommit 1 0) (st []) (fun t => !t.resp.error)) = true
    ∧ (ans (.scEpochInvalidate 1 0) (st []) (fun t => !t.resp.error)) = true
    ∧ (ans (.comparatorArm 1 15 0) (st []) (fun t => !t.resp.error)) = true := by
  refine ⟨?_, ?_, ?_, ?_⟩ <;> decide +kernel

/-- Every clause of TimeRuns is met: a comparator whose target is not past and one at it. -/
theorem wit_TimeRuns :
    (!ticking.off && ticking.clockRuns && ticking.rq R.TB_INC != 0) = true
    ∧ ((stepping none).tb.step.isSome && !(stepping none).off) = true
    ∧ (let s := (stepping (some 1)).wq R.AL_HORIZ 17361; s.reached 1 && s.tb.step.isSome) = true
    ∧ (let s := { (st []).wq R.AL_HORIZ 17361 with tb := { (st []).tb with sce := some (1, ⟨0, 0, 2 ^ 42, 1⟩) } }; s.reached 1
      && s.tb.sce == some (1, ⟨0, 0, 2 ^ 42, 1⟩)
      && (s.placeAll.boundariesTo 1).tb.step.isNone
      && (let u := { s with tb := { s.tb with step := (stepping (some 1)).tb.step } };
      (u.placeAll.boundariesTo 1).tb.step == some ⟨some 1, 0, 5000000000, 0, 0⟩)) = true
    ∧ (let q : List CapStamp := List.replicate 16 default; let s := { st [] with tb := { (st []).tb with capQ := [(4, q)] } };
      decide (16 ≤ (smapGet [] s.tb.capQ 4).length) && decide ((smapGet [] s.tb.capQ 3).length < 16)) = true
    ∧ (let s := (st [(R.TB_TRGCTL_periodic 3, 1)]); s.on (R.TB_TRGCTL_periodic 3) && (st []).rq R.TB_INC != 0) = true
    ∧ ((armed3 2).on (R.TB_TRGCTL_arm 3) && (armed3 2).past ((armed3 2).trgTarget 3) && !(armed3 1).past ((armed3 1).trgTarget 3)) = true
    ∧ (let s := { st [] with tb := { (st []).tb with pulse := [3, 5] } }; s.tb.pulse.contains 3) = true
    ∧ (let s := st ([(R.TB_CAPCTL_pin 4, 7), (R.TB_CAPCTL_edge 4, 1)]);
      (List.range 16).all (fun j => j == 4 || s.rd (R.TB_CAPCTL_pin j) != 7) && !s.on (R.TB_CAPCTL_src 4)
      && s.rd (R.TB_CAPCTL_pin 4) == 7 && (s.rd (R.TB_CAPCTL_edge 4)).testBit 0) = true := by
  refine ⟨?_, ?_, ?_, ?_, ?_, ?_, ?_, ?_, ?_⟩ <;> decide +kernel

/-- R246, R260 to R262: a second passes with E091; a comparator fires at its target; an edge is stamped. -/
theorem test_timeRuns :
    (ans .taiSecondRollover ticking (fun t => t.taiS == 6 && t.evq.contains (91, 0))) = true
    ∧ (ans (.comparatorFire 3) (armed3 2) (fun t => !t.on (R.TB_TRGCTL_arm 3) && t.on (R.TB_TRGCTL_fired 3) && t.tb.pulse == [3])) = true
    ∧ (ans (.triggerPulseEnd 3) { st [] with tb := { (st []).tb with pulse := [3, 5] } } (fun t => t.tb.pulse == [5])) = true
    ∧ (ans (.captureEdge 7 1 true) (st ([(R.TB_CAPCTL_pin 4, 7), (R.TB_CAPCTL_edge 4, 1)])) (fun t => t.rd (R.TB_CAPSTAT_fill 4) == 1)) = true
    ∧ (ans .timeStepApply (stepping none) (fun t => t.tb.step.isNone)) = true
    ∧ (ans .scEpochApply { (st []).wq R.AL_HORIZ 17361 with tb := { (st []).tb with sce := some (1, ⟨0, 0, 2 ^ 42, 1⟩) } } (fun t => t.tb.sce.isNone)) = true := by
  refine ⟨?_, ?_, ?_, ?_, ?_, ?_⟩ <;> decide +kernel

/-! ## PTP -/

/-- A PTP message from a sender with a sequence number; byte 6 and 7 are its flags. -/
def ptpMsg (typ flags src seq : Nat) (rest : Bytes) : Bytes :=
  beBytes 1 typ ++ beBytes 1 2 ++ beBytes 4 0 ++ beBytes 2 flags ++ beBytes 12 0 ++ beBytes 10 src ++ beBytes 2 seq ++ beBytes 2 0 ++ rest

/-- Port 7 takes part in PTP in a state, with profile 0 or 1, parent 77 and a clock identity of its own. -/
def ptpAt (x prof : Nat) : State :=
  let s := st [(R.ET_PORTSTAT_state 7, 2), (R.ET_PTPCTL_en, 1), (R.ET_PTPCTL_profile, prof), (R.ET_PTPPCTL_en 7, 1), (R.ET_PTPPSTAT_state 7, x)]
  { s with csr := smapInsert R.ET_PTPID 5 (smapInsert (R.ET_PTPID + 4) 6 s.csr) }.setPtp 7 { s.ptp 7 with parent := some 77 }

/-- Port 7 with a part of its PTP state given. -/
def ptpWith (x prof : Nat) (f : PtPort → PtPort) : State := (ptpAt x prof).setPtp 7 (f ((ptpAt x prof).ptp 7))

/-- The answer to a request of port 7 with sequence number 3, at 5 s. -/
def answer (typ flags : Nat) : Bytes := ptpMsg typ flags 77 3 (beBytes 6 5 ++ beBytes 4 0 ++ beBytes 10 ((ptpAt 8 0).portId 7))

/-- Every clause of PtpTaken is met. -/
theorem wit_PtpTaken :
    (let s := ptpAt 8 0; let b := ptpMsg 0 0x200 77 3 (zeros 10); !s.off && ptpB s 7 b 0 && s.fromParent 7 b
      && (byteAt b 6).testBit 1) = true
    ∧ (let s := ptpAt 8 0; let b := ptpMsg 0 0 77 3 (zeros 10); ptpB s 7 b 0 && s.fromParent 7 b && !(byteAt b 6).testBit 1
      && (let b := ptpMsg 0 0 78 3 (zeros 10); ptpB s 7 b 0 && !s.fromParent 7 b)) = true
    ∧ (let s := (ptpAt 4 1).wr (R.ET_PTPPCTL_one_step 7) 1; ptpB s 7 (ptpMsg 2 0 88 3 (zeros 20)) 2
      && s.on (R.ET_PTPPCTL_one_step 7) && !(ptpAt 4 1).on (R.ET_PTPPCTL_one_step 7)) = true
    ∧ (let s := ptpWith 9 1 (fun x => { x with preq := some (3, 100) }); let b := answer 3 0x200; ptpB s 7 b 3 && seqOf b == 3
      && beAt b 44 10 == s.portId 7 && (byteAt b 6).testBit 1) = true
    ∧ (let s := ptpWith 9 0 (fun x => { x with sync := some (3, 100, 0) }); let b := ptpMsg 8 0 77 3 (zeros 10); ptpB s 7 b 8
      && (s.ptp 7).sync == some (3, 100, 0) && s.fromParent 7 b && seqOf b == 3) = true
    ∧ (let s := ptpAt 6 0; ptpB s 7 (ptpMsg 1 0 88 3 (zeros 10)) 1 && s.ptpState 7 == 6) = true
    ∧ (let s := ptpWith 9 0 (fun x => { x with dreq := some (3, 100), last := some (5, 6) }); let b := answer 9 0; ptpB s 7 b 9
      && (s.ptp 7).dreq == some (3, 100) && (s.ptp 7).last == some (5, 6) && s.fromParent 7 b && seqOf b == 3
      && beAt b 44 10 == s.portId 7) = true
    ∧ (ptpB (ptpAt 4 1) 7 (ptpMsg 2 0 88 3 (zeros 20)) 2) = true
    ∧ (let s := ptpWith 9 1 (fun x => { x with preq := some (3, 100) }); let b := answer 3 0; ptpB s 7 b 3
      && (s.ptp 7).preq == some (3, 100) && seqOf b == 3 && beAt b 44 10 == s.portId 7 && !(byteAt b 6).testBit 1) = true
    ∧ (let s := ptpWith 9 1 (fun x => { x with preq := some (3, 100), presp := some (3, 5, 6) }); let b := answer 10 0;
      ptpB s 7 b 10 && (s.ptp 7).preq == some (3, 100) && (s.ptp 7).presp == some (3, 5, 6) && seqOf b == 3
      && beAt b 44 10 == s.portId 7) = true
    ∧ (let s := ptpAt 4 0; let b := ptpMsg 11 0 (99 * 65536) 3 (zeros 30); ptpB s 7 b 11 && srcOf b / 65536 != s.rq R.ET_PTPID) = true := by
  refine ⟨?_, ?_, ?_, ?_, ?_, ?_, ?_, ?_, ?_, ?_, ?_⟩ <;> decide +kernel

/-- R257, R258: a two-step Sync waits; a Delay_Req and a Pdelay_Req are answered; an Announce joins the foreign masters. -/
theorem test_ptpTaken :
    (ans (.syncReceive 7 (ptpMsg 0 0x200 77 3 (zeros 10)) 0) (ptpAt 8 0) (fun t => (t.ptp 7).sync.isSome
      && (t.word (R.ET_PTPCNT 7 0)).toNat == 1)) = true
    ∧ (ans (.delayReqReceive 7 (ptpMsg 1 0 88 3 (zeros 10)) 0) (ptpAt 6 0) (fun t => t.out.length == 1)) = true
    ∧ (ans (.pdelayReqReceive 7 (ptpMsg 2 0 88 3 (zeros 20)) 0) (ptpAt 4 1) (fun t => t.out.length == 2)) = true
    ∧ (ans (.announceReceive 7 (ptpMsg 11 0 (99 * 65536) 3 (zeros 30))) (ptpAt 4 0) (fun t => (t.ptp 7).foreign.map (·.seen) == [1])) = true
    ∧ (ans (.pdelayRespReceive 7 (answer 3 0) 0) (ptpWith 9 1 (fun x => { x with preq := some (3, 100) })) (fun t => (t.ptp 7).preq.isNone)) = true
    ∧ (ans (.delayRespReceive 7 (answer 9 0)) (ptpWith 9 0 (fun x => { x with dreq := some (3, 100), last := some (5, 6) })) (fun t => (t.ptp 7).dreq.isNone)) = true
    ∧ (ans (.followUpReceive 7 (ptpMsg 8 0 77 3 (zeros 10))) (ptpWith 9 0 (fun x => { x with sync := some (3, 100, 0) })) (fun t => (t.ptp 7).sync.isNone)) = true
    ∧ (ans (.pdelayRespFollowUpReceive 7 (answer 10 0)) (ptpWith 9 1 (fun x => { x with preq := some (3, 100), presp := some (3, 5, 6) })) (fun t => (t.ptp 7).presp.isNone)) = true := by
  refine ⟨?_, ?_, ?_, ?_, ?_, ?_, ?_, ?_⟩ <;> decide +kernel

/-- Every clause of PtpSent is met. -/
theorem wit_PtpSent :
    (!(ptpAt 6 0).off && (ptpAt 6 0).ptpOn 7 && (ptpAt 6 0).ethUp 7 && (ptpAt 6 0).ptpState 7 == 6) = true
    ∧ (let s := (ptpAt 6 0).wr (R.ET_PTPPCTL_one_step 7) 1; s.ptpOn 7 && s.ethUp 7 && s.on (R.ET_PTPPCTL_one_step 7)
      && !(ptpAt 6 0).on (R.ET_PTPPCTL_one_step 7)) = true
    ∧ (let s := ptpAt 5 0; !s.off && s.ptpOn 7 && s.ethUp 7 && s.ptpState 7 == 5 && (s.ptp 7).qualAt == 0) = true
    ∧ ((ptpAt 9 0).ptpOn 7 && (ptpAt 9 0).ptpState 7 == 9 && !(ptpAt 9 0).on R.ET_PTPCTL_profile) = true
    ∧ ((ptpAt 9 1).ptpOn 7 && (ptpAt 9 1).ethUp 7 && (ptpAt 9 1).on R.ET_PTPCTL_profile) = true := by
  refine ⟨?_, ?_, ?_, ?_, ?_⟩ <;> decide +kernel

/-- R257: a Sync and its Follow_Up, an Announce, and the requests. -/
theorem test_ptpSent :
    (ans (.syncSend 7) (ptpAt 6 0) (fun t => t.out.length == 2 && (t.ptp 7).sSeq == 1)) = true
    ∧ (ans (.announceSend 7) (ptpAt 6 0) (fun t => t.out.length == 1 && (t.ptp 7).aSeq == 1)) = true
    ∧ (ans (.delayReqSend 7) (ptpAt 9 0) (fun t => (t.ptp 7).dreq.isSome)) = true
    ∧ (ans (.pdelayReqSend 7) (ptpAt 9 1) (fun t => (t.ptp 7).preq.isSome)) = true
    ∧ (ans (.announceReceiptTimeout 7) (ptpAt 9 0) (fun t => (t.ptp 7).foreign == [])) = true := by
  refine ⟨?_, ?_, ?_, ?_, ?_⟩ <;> decide +kernel

/-! ## Energy and Endgame -/

/-- A plan of round 0 that admits no steps. -/
def plan0 : Plan := ⟨0, 0, [], [], 0, 0, 0, 0, 0, []⟩

/-- Round 0 is being worked on, with plans. -/
def working (l : List Plan) : State := { st [] with ck := { (st []).ck with work := some (0, 0), plans := l } }

/-- A state in which work costs no energy, with a channel sample rate of 1 Hz. -/
def noCost : State :=
  let s := st [(R.AL_SLABGEO_blk_m1, 0), (R.AL_SLABGEO_c_cnt, 1)]
  { s with csr := (List.range 4).foldl (fun m i => smapInsert (R.CK_COEF i) 0 m) s.csr }.wq R.AG_CHRATE (2 ^ 32)

/-- Every clause of EnergyPlanned is met; Tj is one step of 0.125 °C below the limit of the thermal cause. -/
theorem wit_EnergyPlanned :
    (let s := { st [] with rnd := 2 }; !s.off && decide (0 + 1 < s.rnd) && (s.planOf 0).isNone && s.ck.next == 0
      && s.csState != 2) = true
    ∧ (let s := st []; !s.isActive && s.ck.eg == 0 && s.ck.egReq.isNone && !s.cause 0 && !s.cause 4
      && decide ((s.admitStart 0).roundDur = 0)) = true
    ∧ (let s := noCost; let u := s.admitStart 0; u.roundDur != 0 && u.levelFits 0 0 u.allowance.1 == some 0 && !s.isActive
      && !s.cause 0) = true
    ∧ (let s := working [{ plan0 with nBd := 1000 }]; s.planOf 0 == some { plan0 with nBd := 1000 } && s.roundDur == 0
      && s.rd R.CK_STATUS_vpoint == 0) = true
    ∧ ((working []).ck.work == some (0, 0) && ((working []).planOf 0).isNone) = true
    ∧ ((working [plan0]).ck.work == some (0, 0) && (working [plan0]).planOf 0 == some plan0 && plan0.nBd == 0 && plan0.nBa == 0) = true
    ∧ (let s := st [(R.CK_STATUS_eg_cause, 1)]; s.rd R.CK_STATUS_eg_cause != 0 && s.ck.eg == 0) = true
    ∧ (let s := { st [] with ck := { (st []).ck with eg := 2 } }; s.rd R.CK_STATUS_eg_cause == 0 && s.ck.eg == 2) = true
    ∧ (let s := st [(R.CK_STATUS_vpoint, 15)]; decide (15 ≤ s.rd R.CK_STATUS_vpoint)) = true
    ∧ (let s := st [(R.IO_TJ_tj, 97 * 8 - 1)]; decide (s.tj < ((s.ck.set.thrC : Int) - 3) * 8)) = true := by
  refine ⟨?_, ?_, ?_, ?_, ?_, ?_, ?_, ?_, ?_, ?_⟩ <;> decide +kernel

/-- R273, R275 to R277: what the commands do. -/
theorem test_energy :
    (ans (.paceCheck 5) (working [plan0]) (fun t => t.rd R.CK_PACE_pace == 65535)) = true
    ∧ (ans .endgameEntry (st [(R.CK_STATUS_eg_cause, 1)]) (fun t => t.ck.eg == 1 && t.evq.contains (92, 0))) = true
    ∧ (ans .endgameExit { st [] with ck := { (st []).ck with eg := 2 } } (fun t => t.ck.eg == 3)) = true
    ∧ (ans .thermalCauseClear (st [(R.IO_TJ_tj, 97 * 8 - 1), (R.CK_STATUS_eg_cause, 5)]) (fun t => t.rd R.CK_STATUS_eg_cause == 1)) = true
    ∧ (ans .thermalCauseClear (st [(R.IO_TJ_tj, 97 * 8), (R.CK_STATUS_eg_cause, 5)]) (fun t => t.rd R.CK_STATUS_eg_cause == 5)) = true
    ∧ (ans .voltagePointSettle { st [] with ck := { (st []).ck with settling := true } } (fun t => !t.ck.settling)) = true := by
  refine ⟨?_, ?_, ?_, ?_, ?_, ?_⟩ <;> decide +kernel

/-- Every clause of EndgameWrites is met. -/
theorem wit_EndgameWrites :
    (takesB (st []) 1 R.CK_CTL_eg_req.a (force 0x100 R.CK_CTL_eg_req 1) && (0x100 : Word).toNat.testBit 2 == false
      && (0x100 : Word).toNat.testBit R.CK_CTL_tgt.lo == false) = true
    ∧ (takesB (st []) 1 R.CK_CTL_eg_clr.a (force 0x100 R.CK_CTL_eg_clr 1)) = true
    ∧ (let s := (st []).wq R.AL_HORIZ 17361; takesB s 1 R.CK_CTL_eg_req.a (force 0x108 R.CK_CTL_eg_req 1)
      && (0x108 : Word).toNat.testBit R.CK_CTL_tgt.lo && s.begun (s.rq R.CK_EGTGT)) = true := by
  refine ⟨?_, ?_, ?_⟩ <;> decide +kernel

/-- R25: a request binds to the next boundary; one whose round has begun is refused. -/
theorem test_endgameWrites :
    (ans (.endgameRequest 1 0x100) (st []) (fun t => t.ck.egReq == some (st []).nextRound)) = true
    ∧ (ans (.endgameRequest 1 0x108) ((st []).wq R.AL_HORIZ 17361) (fun t => t.ck.egReq.isNone && t.on R.CK_STATUS_cmd_err)) = true
    ∧ (ans (.endgameClear 1 0x100) (st []) (fun t => t.ck.egClr == some (st []).nextRound)) = true := by
  refine ⟨?_, ?_, ?_⟩ <;> decide +kernel

/-! ## HBM -/

/-- Stack 7 is ready, with its channel 31 as given. -/
def hbm (f : HbmChan → HbmChan) : State :=
  let s := st [(R.HM_STK_state 7, 2), (R.HM_CTL_scrub_en, 1)]
  s.setHchan 7 31 (f (s.hchan 7 31))

/-- A request of class 1 for bank 31, from the start of time. -/
def req1 : HbmReq := ⟨1, 31, 5, 32, none, 0, false, false⟩

/-- Stack 7 is ready and has a row to spare, or one whose copy runs. -/
def sparing (q : List (Nat × Nat)) (c : Option (Nat × Nat)) : State :=
  let s := st [(R.HM_STK_state 7, 2)]
  s.setHstk 7 { s.hstk 7 with spareQ := q, copy := c }

/-- Every clause of HbmRuns is met: a temperature one degree below the hot limit, and 63 and 64 rows spared of 64. -/
theorem wit_HbmRuns :
    (let s := hbm (fun x => { x with queue := [req1] }); !s.off && s.stkState 7 == 2 && decide ((s.hchan 7 31).block ≤ s.nowNs)
      && s.pickReq (s.hchan 7 31) [31] == some req1) = true
    ∧ ((hbm id).pickReq ((hbm id).hchan 7 31) [31] == none && (hbm id).stkState 7 == 2
      && (st [(R.HM_STK_state 7, 5)]).stkState 7 == 5) = true
    ∧ (let s := hbm id; s.maintFree (s.hchan 7 31) && decide ((s.hchan 7 31).owed + 1 < s.allowed 7)
      && (let s := hbm (fun x => { x with owed := 8 }); s.maintFree (s.hchan 7 31)
      && decide (s.allowed 7 ≤ (s.hchan 7 31).owed + 1))) = true
    ∧ (let s := hbm id; !s.on (R.HM_STK_hot 7) && s.rd R.HM_TCTL_hot_c == 85 && (hbm id).rd R.HM_TCTL_hyst_c == 3) = true
    ∧ (let s := (sparing [(5, 0)] none).wr (R.HM_STKSP_spares_used 7) 64; (s.hstk 7).spareQ == [(5, 0)] && s.stkState 7 == 2
      && s.maintFree (s.hchan 7 (5 / 2 ^ 32 / 64)) && !s.ig.arbDown && decide (64 ≤ s.rd (R.HM_STKSP_spares_used 7))) = true
    ∧ (let s := hbm (fun x => { x with runEnd := 5 }); s.stkState 7 == 2 && !s.maintFree (s.hchan 7 31)) = true
    ∧ (let s := hbm id; s.maintFree (s.hchan 7 31) && s.on R.HM_CTL_scrub_en && s.stkState 7 == 2) = true
    ∧ (let s := hbm id; let t := s.rd R.HM_TCTL_hot_c - 1; s.stkState 7 != 0 && s.stkState 7 != 3
      && decide (t < s.rd R.HM_TCTL_hot_c) && decide (s.rd R.HM_TCTL_hot_c < t + s.rd R.HM_TCTL_hyst_c)) = true
    ∧ (let s := st []; !s.hm.trngFb) = true
    ∧ (let s := (sparing [(5, 0)] none).wr (R.HM_STKSP_spares_used 7) 63; (s.hstk 7).copy.isNone && (s.hstk 7).spareQ == [(5, 0)]
      && s.stkState 7 == 2 && s.maintFree (s.hchan 7 (5 / 2 ^ 32 / 64)) && !s.ig.arbDown
      && decide (s.rd (R.HM_STKSP_spares_used 7) < 64)) = true
    ∧ ((sparing [] (some (5, 0))).hstk 7 == { (sparing [] none).hstk 7 with copy := some (5, 0) }) = true
    ∧ ((st [(R.HM_STK_state 7, 1)]).stkState 7 == 1 && (st [(R.HM_STK_state 7, 4)]).stkState 7 == 4) = true
    ∧ (let s := { st [] with ck := { (st []).ck with eg := 1 } }; s.ck.eg == 1 && !s.off) = true
    ∧ (let s := { st [] with ck := { (st []).ck with eg := 3 } }; s.ck.eg == 3) = true
    ∧ (let s := { st [] with hm := { (st []).hm with trngFb := true } };
      takesB s 1 R.HM_CTL_trng_retry.a (force (s.word R.HM_CTL_trng_retry.a) R.HM_CTL_trng_retry 1) && s.hm.trngFb) = true := by
  refine ⟨?_, ?_, ?_, ?_, ?_, ?_, ?_, ?_, ?_, ?_, ?_, ?_, ?_, ?_, ?_⟩ <;> decide +kernel

/-- R281, R282: the request is served; a request over its age is promoted; a refresh that cannot run is owed. -/
theorem test_hbmRequests :
    (ans (.hbmRequestServe 7 31 [] [31] ⟨false, 0, 0, 0, 0, 0⟩) (hbm (fun x => { x with queue := [req1] })) (fun t => (t.hchan 7 31).queue == [])) = true
    ∧ (ans (.agePromotion 7 31) { hbm (fun x => { x with queue := [req1] }) with tb := { (st []).tb with t := 10 ^ 9 * 2 ^ 48 } } (fun t => (t.hchan 7 31).queue.map (·.promoted) == [true])) = true
    ∧ (ans (.refreshDue 7 31 false) (hbm (fun x => { x with runEnd := 5 })) (fun t => (t.hchan 7 31).owed == 1)) = true
    ∧ (ans (.hbmTemperatureRead 7 90) (hbm id) (fun t => t.rd (R.HM_STK_temp_c 7) == 90)) = true := by
  refine ⟨?_, ?_, ?_, ?_⟩ <;> decide +kernel

/-- R288 to R292: the generator falls back and returns; a row is copied and spared; training ends. -/
theorem test_hbmRepair :
    (ans .trngHealthFail (st []) (fun t => t.hm.trngFb)) = true
    ∧ (ans (.trngRetry 1 ((st []).word R.HM_CTL_trng_retry.a) true) { st [] with hm := { (st []).hm with trngFb := true } } (fun t => !t.hm.trngFb)) = true
    ∧ (ans (.rowSpare 7) (sparing [(5, 0)] none) (fun t => (t.hstk 7).copy == some (5, 0))) = true
    ∧ (ans (.rowCopyComplete 7) (sparing [] (some (5, 0))) (fun t => (t.hstk 7).copy.isNone && (t.word (R.HM_CNT 7 7)).toNat == 1)) = true
    ∧ (ans (.hbmTrainingDone 7 false) (st [(R.HM_STK_state 7, 1)]) (fun t => t.stkState 7 == 5)) = true
    ∧ (ans (.phyCentring 7 31) (hbm id) (fun t => (t.hchan 7 31).block == 200)) = true
    ∧ (ans (.scrubRead 7 31 0 0 0 0 0 0 2 false) (hbm id) (fun t => !t.hm.poison.isEmpty)) = true := by
  refine ⟨?_, ?_, ?_, ?_, ?_, ?_, ?_⟩ <;> decide +kernel

/-- Table 12-6: the entry and the exit of self-refresh. -/
theorem test_selfRefresh :
    (ans .selfRefreshEntryDone { st [] with ck := { (st []).ck with eg := 1 } } (fun t => t.ck.eg == 2
      && t.on R.HM_STATUS_selfref)) = true
    ∧ (ans (.selfRefreshExitDone (List.replicate 8 50)) { st [] with ck := { (st []).ck with eg := 3 } } (fun t => t.ck.eg == 0
      && t.evq.contains (93, 0))) = true := by
  refine ⟨?_, ?_⟩ <;> decide +kernel

/-- Every clause of HbmAccessed is met: a write that ends at a 1 KiB boundary, a read of one byte below it, a path that does not exist. -/
theorem wit_HbmAccessed :
    (let s := hbm id; let a : BitVec 40 := 0x73E0; !s.off && !s.quiesced 1 && hasPath 1 0 && decide (a.toNat < 0x6000000000)
      && decide (a.toNat % 1024 + 32 ≤ 1024) && decide (a.toNat + 32 ≤ s.hbmSize) && s.ck.eg == 0 && s.stackTakes a.toNat) = true
    ∧ ((wordsOf 0x73E0 32).all (fun w => !smapGet false (hbm id).hm.poison w)) = true
    ∧ (targetOf 0x6200000000 == some (4, 0) && !hasPath 2 4) = true := by
  refine ⟨?_, ?_, ?_⟩ <;> decide +kernel

/-- R297, R301: a write changes its bytes; a read answers them; a path that does not exist answers an error; an access with an ECC error writes nothing. -/
theorem test_hbmAccess :
    (ans (.crossbarBurst 1 0 0x73FF ⟨.write [some 0xAB], false⟩) (hbm id) (fun t => t.byte 0x73FF == 0xAB && t.byte 0x7400 == 0
      && !t.resp.error)) = true
    ∧ (ans (.crossbarBurst 1 0 0x73FF ⟨.read 1, false⟩) { hbm id with mem := [(0x73FF, 0xCD)] } (fun t => t.resp.data == [0xCD])) = true
    ∧ (ans (.crossbarBurst 2 0 0x6200000000 ⟨.read 4, false⟩) (hbm id) (fun t => t.resp.error)) = true
    ∧ (ans (.crossbarBurst 1 0 0x73FF ⟨.write [some 0xAB], true⟩) (hbm id) (fun t => t.byte 0x73FF == 0 && t.resp.error)) = true := by
  refine ⟨?_, ?_, ?_, ?_⟩ <;> decide +kernel

/-! ## Register access -/

/-- A register's place at an address. -/
def locIs (a : Nat) (f : Loc → Bool) : Bool := match locate a with | some l => f l | none => false

/-- A write is accepted, as a test. -/
def acceptsB (s : State) (m a : Nat) (v : Word) : Bool := match locate a with
  | some l => !s.foreign m false l (s.before l a) v.toNat && !s.barred m false l (s.before l a) v.toNat
      && (s.badWrite l (s.before l a) (s.merged m false l (s.before l a) v.toNat)).isNone
  | none => false

/-- A unit of time capture 15 with one stamp. -/
def stamped : State := { st [] with tb := { (st []).tb with capQ := [(15, [⟨5, 6, 0, 0, true⟩])] } }

/-- A load of a region, whose one record writes BA_BCMT, waits for its round. -/
def holdingOff : State :=
  let s := st [(R.MG_STATUS_ready, 1)]
  { s with cf := { s.cf with pending := some { (default : RegionLoad) with kind := 4, recs := [(R.BA_BCMT_commit.a, 1)] } } }

/-- Every clause of RegisterWritten is met: AL_WIN.win_us within and beyond its range. -/
theorem wit_RegisterWritten :
    (let s := st []; writableB s 1 R.AL_WIN_win_us.a && locIs R.AL_WIN_win_us.a (fun l => !l.reg.pair
      && !s.absent R.AL_WIN_win_us.a l) && R.AL_WIN_win_us.a != R.MG_RRST_rst.a) = true
    ∧ (let s := st []; locIs R.OT_CTL_ttl.a (fun l => !l.reg.pair && !s.absent R.OT_CTL_ttl.a l
      && (s.ownWrite l R.OT_CTL_ttl.a 0x100 (s.before l R.OT_CTL_ttl.a) (s.merged 1 false l (s.before l R.OT_CTL_ttl.a) 0x100)).isNone)
      && acceptsB s 1 R.OT_CTL_ttl.a 0x100 && !acceptsB s 1 R.OT_CTL_ttl.a 0) = true
    ∧ (let s := st []; let a := R.OT_CTL_ttl.a; locIs a (fun l => !s.foreign 1 false l (s.before l a) 0
      && !s.barred 1 false l (s.before l a) 0 && (s.badWrite l (s.before l a) (s.merged 1 false l (s.before l a) 0)).isSome)) = true
    ∧ (let s := st []; let a := R.AG_CTL_pm_direct.a; writableB s 1 a
      && locIs a (fun l => (s.badWrite l (s.before l a) (s.merged 1 false l (s.before l a) 1)).isNone
      && (s.ownWrite l a 1 (s.before l a) (s.merged 1 false l (s.before l a) 1)).isSome
      && !s.foreign 1 false l (s.before l a) 1 && !s.barred 1 false l (s.before l a) 1)) = true := by
  refine ⟨?_, ?_, ?_, ?_⟩ <;> decide +kernel

/-- R16, R407: a value within its range lands; one beyond it changes nothing. -/
theorem test_registerWrite :
    (ans (.registerWrite 1 (BitVec.ofNat 28 R.OT_CTL_ttl.a) 0x0100) (st []) (fun t => t.rd R.OT_CTL_ttl == 1)) = true
    ∧ (ans (.registerWrite 1 (BitVec.ofNat 28 R.OT_CTL_ttl.a) 0) (st []) (fun t => t.rd R.OT_CTL_ttl == 64)) = true := by
  refine ⟨?_, ?_⟩ <;> decide +kernel

/-- A register without guards meets the premise. -/
theorem wit_AccessCodesMerge :
    (locIs R.AL_WIN_win_us.a (fun l => ((st []).guards l).1 == 0 && (st []).fixedBits l == (0, 0))) = true := by
  decide +kernel

/-- Every clause of PairsWritten is met on BA_WTGT. -/
theorem wit_PairsWritten :
    (let s := st []; writableB s 1 R.BA_WTGT && locIs R.BA_WTGT (fun l => l.reg.pair && !l.hi && !s.absent R.BA_WTGT l)) = true
    ∧ (let s := (st []).setLatch 1 { (st []).latchOf 1 with wr := some (R.BA_WTGT, 5) }; writableB s 1 (R.BA_WTGT + 4)
      && locIs (R.BA_WTGT + 4) (fun l => l.reg.pair && l.hi && !s.absent (R.BA_WTGT + 4) l)
      && (s.latchOf 1).wr == some (R.BA_WTGT + 4 - 4, 5)) = true
    ∧ (((st []).latchOf 1).wr.isNone) = true := by
  refine ⟨?_, ?_, ?_⟩ <;> decide +kernel

/-- R18: the low half waits; the high half commits both, or 0 below when none waits. -/
theorem test_pairs :
    (ans (.pairLoWrite 1 (BitVec.ofNat 28 R.BA_WTGT) 5) (st []) (fun t => t.rq R.BA_WTGT == 0
      && (t.latchOf 1).wr == some (R.BA_WTGT, 5))) = true
    ∧ (ans (.pairHiWrite 1 (BitVec.ofNat 28 (R.BA_WTGT + 4)) 7) ((st []).setLatch 1 { (st []).latchOf 1 with wr := some (R.BA_WTGT, 5) }) (fun t => t.rq R.BA_WTGT == 7 * 2 ^ 32 + 5)) = true
    ∧ (ans (.pairHiWrite 1 (BitVec.ofNat 28 (R.BA_WTGT + 4)) 7) (st []) (fun t => t.rq R.BA_WTGT == 7 * 2 ^ 32)) = true := by
  refine ⟨?_, ?_, ?_⟩ <;> decide +kernel

/-- Every clause of RegistersRead is met. -/
theorem wit_RegistersRead :
    (let s := st []; readableB s 1 R.BA_WTGT && locIs R.BA_WTGT (fun l => l.reg.pair && !l.hi
      && l.reg.bits (fun f => f.acc = .rc) == 0 && !s.absent R.BA_WTGT l)) = true
    ∧ (let s := (st []).setLatch 1 { (st []).latchOf 1 with rd := some (R.BA_WTGT, 9) }; readableB s 1 (R.BA_WTGT + 4)
      && locIs (R.BA_WTGT + 4) (fun l => l.hi) && (s.latchOf 1).rd == some (R.BA_WTGT + 4 - 4, 9)) = true
    ∧ (((st []).latchOf 1).rd.isNone) = true
    ∧ (let s := st []; let a := R.IN_CNT 15 19; readableB s 1 a && locIs a (fun l => !l.reg.pair && !l.hi
      && l.reg.bits (fun f => f.acc = .rc) != 0 && decide (s.snap l = s) && !s.absent a l)) = true
    ∧ (let s := st []; let a := R.AL_WIN_win_us.a; readableB s 1 a && locIs a (fun l => !l.reg.pair && !l.hi
      && l.reg.bits (fun f => f.acc = .rc) == 0)) = true
    ∧ (readableB (st []) 1 (R.CK_PLAN 0) && readableB (st []) 1 R.TB_NOWS) = true
    ∧ (readableB stamped 1 (R.TB_CAPS 15) && smapGet [] stamped.tb.capQ 15 == [⟨5, 6, 0, 0, true⟩]
      && smapGet [] stamped.tb.capQ 14 == []) = true := by
  refine ⟨?_, ?_, ?_, ?_, ?_, ?_, ?_⟩ <;> decide +kernel

/-- R16, R18, R19, R262: a counter is cleared by its read; a latched half is answered; a stamp leaves its queue. -/
theorem test_reads :
    (ans (.counterRead 1 (BitVec.ofNat 28 (R.IN_CNT 15 19))) ((st []).inc (R.IN_CNT 15 19)) (fun t => t.resp == ⟨[1, 0, 0, 0], false⟩
      && t.word (R.IN_CNT 15 19) == 0)) = true
    ∧ (ans (.snapshotRead 1 (BitVec.ofNat 28 (R.BA_WTGT + 4))) ((st []).setLatch 1 { (st []).latchOf 1 with rd := some (R.BA_WTGT, 9) }) (fun t => t.resp.data == [9, 0, 0, 0])) = true
    ∧ (ans (.captureStampRead 1 15) stamped (fun t => t.rq (R.TB_CAPS 15) == 5 && t.rd (R.TB_CAPNS_ns 15) == 6
      && smapGet [] t.tb.capQ 15 == [])) = true
    ∧ (ans (.pairLoRead 1 (BitVec.ofNat 28 R.BA_WTGT)) ((st []).wq R.BA_WTGT (9 * 2 ^ 32 + 3)) (fun t => t.resp.data == [3, 0, 0, 0]
      && (t.latchOf 1).rd == some (R.BA_WTGT, 9))) = true
    ∧ (ans (.planRecordRead 1) (st []) (fun t => !t.resp.error)) = true
    ∧ (ans (.timeRead 1) { st [] with tb := { (st []).tb with t := (2 * 10 ^ 9 + 7) * 2 ^ 48 } } (fun t => t.resp.data == [2, 0, 0, 0]
      && t.rd R.TB_NOWNS_v == 7)) = true := by
  refine ⟨?_, ?_, ?_, ?_, ?_, ?_⟩ <;> decide +kernel

/-- Every clause of AccessDenied is met: master 2 is an ASP, without a path to the CSR space. -/
theorem wit_AccessDenied :
    (let s := st [(R.XB_MRST_quiesced, 4)]; !s.off && s.quiesced 2) = true
    ∧ (let s := st []; !s.quiesced 19 && !s.quiesced 1 && hasPath 1 1) = true
    ∧ ((List.range 20).any (fun m => !hasPath m 1 && !(st []).quiesced m)) = true
    ∧ (let s := st [(R.XB_CSRSEC_blk, 0x10), (R.MG_STATUS_ready, 1)]; s.hostReach 0x400000 && !s.secure 0 0
      && (s.rd R.XB_CSRSEC_blk).testBit (0x400000 / 0x100000) && hasPath 0 1 && !s.quiesced 0) = true
    ∧ (readableB (st []) 1 0xFFFFFFC && (locate 0xFFFFFFC).isNone && writableB (st []) 1 0xFFFFFFC) = true
    ∧ (let s := st [(R.CF_STATUS_cfg_state, 3)]; (s.csrDenied 1 0x400000 true).isNone && s.unusable 0x400000) = true
    ∧ (let s := holdingOff; (s.csrDenied 0 R.BA_BCMT_commit.a true).isNone && s.held R.BA_BCMT_commit.a false
      && !s.unusable R.BA_BCMT_commit.a && locIs R.BA_BCMT_commit.a (fun l => !l.reg.pair && !s.absent R.BA_BCMT_commit.a l)) = true := by
  refine ⟨?_, ?_, ?_, ?_, ?_, ?_, ?_⟩ <;> decide +kernel

/-- R296 to R299: an address that is not a multiple of 4 is kind 4; a protected block is kind 2; no register reads 0. -/
theorem test_denied :
    (ans (.registerWrite 1 2 5) (st []) (fun t => t.resp.error && t.rd R.XB_VIOL_kind == 4)) = true
    ∧ (ans (.registerWrite 0 0x400000 5) (st [(R.XB_CSRSEC_blk, 0x10), (R.MG_STATUS_ready, 1)]) (fun t => t.resp.error
      && t.rd R.XB_VIOL_kind == 2)) = true
    ∧ (ans (.counterRead 1 0xFFFFFFC) (st []) (fun t => t.resp == ⟨[0, 0, 0, 0], false⟩)) = true := by
  refine ⟨?_, ?_, ?_⟩ <;> decide +kernel

/-! ## The crossbar, the host and the configuration store -/

/-- The mailbox holds one request of a master on slot 0: an op and a payload. -/
def asks (op : Nat) (payload : Bytes) (sec : Bool) (s : State) : State :=
  { s with xb := { s.xb with
    mbx := memPut [] 0 (leBytes 2 op ++ leBytes 2 payload.length ++ leBytes 4 77 ++ zeros 24 ++ payload)
    mbxQ := [(0, sec)] } }

/-- The Arbiter has a request of an op with a payload in hand, as a test. -/
def headIs (s : State) (op : Nat) (payload : Bytes) : Bool :=
  match s.mbxHead with
  | some r => r.op == op && r.payload == payload
  | none => false

/-- DMA channel 3 runs on a descriptor at 0x40: 4 bytes from 0x100 to 0x200, both in HBM. -/
def copying : State :=
  let s := ((st [(R.XB_DMASTAT_state 3, 1), (R.MG_STATUS_ready, 1)]).wq (R.XB_DMACUR 3) 0x40)
  let s := s.fold (List.range 8) (fun s k => s.wr (R.HM_STK_state k) 2)
  { s with mem := memPut (memPut [] 0x40 (leBytes 4 0 ++ leBytes 4 4 ++ leBytes 8 0x100 ++ leBytes 8 0x200)) 0x100 [1, 2, 3, 4] }

/-- DMA channel 3 runs on a descriptor at 0x40 with a control word, a length, a source and a destination. -/
def descr (ctl len src dst : Nat) : State :=
  { copying with mem := memPut [] 0x40 (leBytes 4 ctl ++ leBytes 4 len ++ leBytes 8 src ++ leBytes 8 dst) }

/-- A region load of AL settings of round 1 waits or has started, or the round has come. -/
def regionAt (started : Bool) (h : Nat) : State :=
  let s := (st []).wq R.AL_HORIZ h
  { s with cf := { s.cf with pending := some ⟨1, 1, 1, 9, 5, [], [], started⟩ } }

/-- A repair of line 3 waits to be logged. -/
def logged : State := { st [] with cf := { (st []).cf with logDue := [⟨1, 3, 5, 0, 0, 0, 0, 0⟩] } }

/-- A full load of slot 0, which is empty, is in progress for the request of slot 0. -/
def loadingFull : State := let s := asks 0x23 [0] true (st [(R.MG_STATUS_noconf, 0)]); { s with cf := { s.cf with loading := some 0 } }

/-- Every clause of FabricRuns is met. -/
theorem wit_FabricRuns :
    (let s := st []; !s.off && takesB s 1 (R.XB_DMACTL_go 7).a (force 0 (R.XB_DMACTL_go 7) 1) && s.dmaState 7 != 1
      && !s.quiesced 18) = true
    ∧ (let s := st [(R.XB_DMASTAT_state 7, 1)]; takesB s 1 (R.XB_DMACTL_abort 7).a (force 0 (R.XB_DMACTL_abort 7) 1)
      && s.dmaState 7 == 1) = true
    ∧ (let s := (st [(R.XB_DMASTAT_state 7, 1)]).wq (R.XB_DMACUR 7) 0x44; s.dmaState 7 == 1 && !s.quiesced 18
      && s.rq (R.XB_DMACUR 7) % 32 == 4) = true
    ∧ (let s := copying; !s.off && s.dmaState 3 == 1 && !s.quiesced 18 && s.rq (R.XB_DMACUR 3) % 32 == 0) = true
    ∧ (match copying.access 18 3 (copying.rq (R.XB_DMACUR 3)) (.read 32) with | (w, some d) => leAt d 4 4 == 4 && !(leAt d 0 4).testBit 0 && (dmaCopy 5 3 none false (leAt d 8 8) (leAt d 16 8) 4 w).2.isNone | _ => false) = true
    ∧ (takesB (st [(R.MG_STATUS_ready, 1)]) 1 R.XB_MBXDB_slot.a 15 && !((st []).rd R.XB_MBXBUSY_busy).testBit 15
      && ((st [(R.XB_MBXBUSY_busy, 0x8000)]).rd R.XB_MBXBUSY_busy).testBit 15) = true
    ∧ (let s := copying.wq (R.XB_DMACUR 3) 0x6500000000000; s.dmaState 3 == 1 && s.rq (R.XB_DMACUR 3) % 32 == 0
      && (s.access 18 3 (s.rq (R.XB_DMACUR 3)) (.read 32)).2.isNone) = true
    ∧ (match (descr 0 2 0x100 0x200).access 18 3 0x40 (.read 32) with | (_, some d) => decide (leAt d 4 4 < 4) | _ => false) = true
    ∧ (match (descr 1 4 0x100 0x200).access 18 3 0x40 (.read 32) with | (_, some d) => leAt d 4 4 == 4 && (leAt d 0 4).testBit 0 && ([] : Bytes).length != leAt d 4 4 | _ => false) = true
    ∧ (match (descr 0 4 0x100 0x6000000000).access 18 3 0x40 (.read 32) with | (w, some d) => leAt d 4 4 == 4 && !(leAt d 0 4).testBit 0 && (dmaCopy 5 3 none false (leAt d 8 8) (leAt d 16 8) 4 w).2.isSome | _ => false) = true := by
  refine ⟨?_, ?_, ?_, ?_, ?_, ?_, ?_, ?_, ?_, ?_⟩ <;> decide +kernel

/-- R304: an accepted go starts at the descriptor; a misaligned one stops with cause 3; a copied one moves its bytes. -/
theorem test_dma :
    (ans (.dmaGo 1 7 0) (st []) (fun t => t.dmaState 7 == 1)) = true
    ∧ (ans (.dmaAbort 1 7 0) (st [(R.XB_DMASTAT_state 7, 1)]) (fun t => t.dmaState 7 == 4)) = true
    ∧ (ans (.dmaDescriptorComplete 7 [] ⟨false, false⟩) ((st [(R.XB_DMASTAT_state 7, 1)]).wq (R.XB_DMACUR 7) 0x44) (fun t => t.dmaState 7 == 3
      && t.rd (R.XB_DMASTAT_err 7) == 3)) = true
    ∧ (ans (.dmaDescriptorComplete 3 [] ⟨false, false⟩) copying (fun t => t.bytes 0x200 4 == [1, 2, 3, 4])) = true := by
  refine ⟨?_, ?_, ?_, ?_⟩ <;> decide +kernel

/-- R303: the master is quiesced and its latches are gone; a doorbell queues its slot. -/
theorem test_masterReset :
    (ans (.masterReset 5 [] 3) (st []) (fun t => t.quiesced 5 && !t.quiesced 4 && (t.word (R.XB_CNT 5)).toNat == 3)) = true
    ∧ (ans (.mailboxDoorbell 1 15) (asks 0x20 [0] true (st [(R.MG_STATUS_ready, 1)])) (fun t => t.xb.mbxQ.length == 2)) = true := by
  refine ⟨?_, ?_⟩ <;> decide +kernel

/-- Every clause of HostRequests is met: a request that ends at the end of a window and one that passes it. -/
theorem wit_HostRequests :
    (let s := st [(R.XB_MRST_quiesced, 1)]; !s.off && s.quiesced 0) = true
    ∧ (!(st []).quiesced 0 && decide ((0xFFFFFFC : BitVec 36).toNat + opLen (.read 4) ≤ 0x10000000)
      && decide (0x10000000 < (0xFFFFFFD : BitVec 36).toNat + opLen (.read 4))) = true
    ∧ (decide ((0xFFFFFFFFC : BitVec 36).toNat + opLen (.read 4) ≤ 0x1000000000)
      && decide (0x1000000000 < (0xFFFFFFFFD : BitVec 36).toNat + opLen (.read 4))) = true
    ∧ (decide ((0x1FFFFFC : BitVec 36).toNat + opLen (.read 4) ≤ 0x2000000)
      && decide ((0x201FFFC : BitVec 36).toNat + opLen (.read 4) ≤ 0x2020000)) = true
    ∧ ((st [(R.MG_STATUS_ready, 1)]).on R.MG_STATUS_ready && decide ((0x2000FFC : BitVec 36).toNat + opLen (.read 4) ≤ 0x2001000)) = true
    ∧ (decide (0x2021000 ≤ (0x202101C : BitVec 36).toNat) && decide ((0x202101C : BitVec 36).toNat + 4 ≤ 0x2021020)
      && decide (0x2001000 ≤ (0x2001000 : BitVec 36).toNat)
      && decide ((0x200FFFC : BitVec 36).toNat + opLen (.read 4) ≤ 0x2010000)) = true
    ∧ (decide ((0x2020FFC : BitVec 36).toNat + opLen (.read 4) ≤ 0x2021000)
      && decide (0x2021020 < (0x202101D : BitVec 36).toNat + opLen (.read 4))) = true := by
  refine ⟨?_, ?_, ?_, ?_, ?_, ?_, ?_⟩ <;> decide +kernel

/-- R305, R307: BAR0 reads the CSR space; a request beyond BAR2 is unsupported. -/
theorem test_hostRequests :
    (ans (.pcieRequest .bar0 0x1200000 (.read 4)) (st []) (fun t => t.resp.data.length == 4 && !t.resp.error)) = true
    ∧ (ans (.pcieRequest .bar2 0xFFFFFFFFD (.read 4)) (st []) (fun t => t.resp.error)) = true := by
  refine ⟨?_, ?_⟩ <;> decide +kernel

/-- The premises are met at the last slot with the longest payload. -/
theorem wit_MailboxAnswers :
    (decide (15 < 16) && decide (0xFFFF < 2 ^ 16) && decide ((zeros 480).length ≤ 480)) = true := by
  decide +kernel

/-- Every clause of MailboxRuns is met. -/
theorem wit_MailboxRuns :
    (let s := asks 1 [5] false (st []); !s.off && headIs s 1 [5]) = true
    ∧ (headIs (asks 2 [] false (st [])) 2 []) = true
    ∧ (headIs (asks 0x10 [23, 64] false (st [])) 0x10 [23, 64] && headIs (asks 0x10 [24, 0] false (st [])) 0x10 [24, 0]
      && headIs (asks 0x10 [0, 65] false (st [])) 0x10 [0, 65]) = true
    ∧ (let s := asks 0x11 [7, 31, 1, 31, 5, 0, 0, 0] false (st []); headIs s 0x11 [7, 31, 1, 31, 5, 0, 0, 0]
      && decide (7 < s.stacks) && headIs (asks 0x11 [0, 32] false (st [])) 0x11 [0, 32]) = true
    ∧ (let s := asks 0x30 [] false (st []); headIs s 0x30 [] && s.csState != 5
      && headIs (asks 0x30 [] false (st [(R.CS_STATUS_state, 5)])) 0x30 []) = true
    ∧ (headIs (asks 0x31 [] false (st [])) 0x31 []) = true
    ∧ (let s := asks 0x32 [3] true (st [(R.CF_SLOT_state 3, 3)]); headIs s 0x32 [3] && s.slotState 3 == 3
      && headIs (asks 0x32 [4] true (st [])) 0x32 [4]) = true
    ∧ (headIs (asks 0x33 (leBytes 2 10) true (st [])) 0x33 (leBytes 2 10)
      && headIs (asks 0x33 (leBytes 2 10000) true (st [])) 0x33 (leBytes 2 10000)
      && headIs (asks 0x33 (leBytes 2 10) false (st [])) 0x33 (leBytes 2 10)) = true
    ∧ (((asks 0x33 (leBytes 2 10) true (st [])).mbxHead.map (·.secure)) == some true
      && ((asks 0x33 (leBytes 2 10) false (st [])).mbxHead.map (·.secure)) == some false) = true := by
  refine ⟨?_, ?_, ?_, ?_, ?_, ?_, ?_, ?_, ?_⟩ <;> decide +kernel

/-- Table 14-10: an echo answers its payload with the tag; a repair of line 24 is refused; a watchdog period is kept. -/
theorem test_mailbox :
    (ans .mailboxEcho (asks 1 [5] false (st [])) (fun t => t.mbxBytes 512 8 == leBytes 4 77 ++ [0, 0, 1, 0]
      && t.mbxBytes 544 1 == [5] && t.xb.mbxQ == [])) = true
    ∧ (ans .boardLineRepairRequest (asks 0x10 [24, 0] false (st [])) (fun t => t.mbxBytes 516 2 == [1, 0])) = true
    ∧ (ans .boardLineRepairRequest (asks 0x10 [23, 64] false (st [])) (fun t => t.mbxBytes 516 2 == [0, 0]
      && t.on (lineRepaired 23))) = true
    ∧ (ans .watchdogPeriodSet (asks 0x33 (leBytes 2 10000) true (st [])) (fun t => t.rd R.MG_WDOG_period_ms == 10000)) = true
    ∧ (ans .bootPrefSet (asks 0x32 [3] true (st [(R.CF_SLOT_state 3, 3)])) (fun t => t.mbxBytes 516 2 == [0, 0])) = true
    ∧ (ans .hbmRowSpareRequest (asks 0x11 [7, 31, 1, 31, 5, 0, 0, 0] false (st [])) (fun t => (t.hstk 7).spareQ.length == 1)) = true
    ∧ (ans .adjournment (asks 0x30 [] false (st [(R.CS_STATUS_state, 5)])) (fun t => t.mbxBytes 516 2 == [1, 0])) = true := by
  refine ⟨?_, ?_, ?_, ?_, ?_, ?_, ?_⟩ <;> decide +kernel

/-- The clauses of StoreOperations that do not rest on a container that verifies. -/
theorem wit_StoreOperations :
    (let s := asks 0x21 [3] true (st [(R.CF_SLOT_state 3, 2)]); !s.off && headIs s 0x21 [3] && s.slotState 3 == 2
      && s.ctReason 3 == some 1) = true
    ∧ (headIs (asks 0x22 [3] true (st [])) 0x22 [3] && !(asks 0x22 [3] true (st [])).slotInUse 3) = true
    ∧ (let s := asks 0x22 [3] true { st [] with cf := { (st []).cf with record := [3] } }; headIs s 0x22 [3] && s.slotInUse 3) = true
    ∧ (let s := asks 0x25 [3] true (st [(R.CF_SLOT_state 3, 2)]); headIs s 0x25 [3] && s.slotState 3 == 2) = true
    ∧ (let s := asks 0x26 [3, 0] true (st []); headIs s 0x26 [3, 0] && !(s.rd R.CF_KEYS_prog).testBit 3
      && (s.mbxHead.map (·.secure)) == some true) = true
    ∧ (let s := asks 0x26 [3, 0] true (st [(R.CF_KEYS_prog, 8)]); headIs s 0x26 [3, 0] && (s.rd R.CF_KEYS_prog).testBit 3) = true
    ∧ (headIs (asks 0x26 [3, 1] true (st [(R.CF_KEYS_prog, 8)])) 0x26 [3, 1]) = true
    ∧ (let s := asks 0x27 [1, 23, 64, 0] true (st [(R.IG_CTL_maint, 1), (lineRepaired 23, 1), (lineOut 23, 64)]);
      headIs s 0x27 [1, 23, 64, 0] && s.on R.IG_CTL_maint && s.on (lineRepaired 23) && s.rd (lineOut 23) == 64) = true
    ∧ (headIs (asks 0x27 [1] true (st [])) 0x27 [1] && !(asks 0x27 [1] true (st [])).on R.IG_CTL_maint
      && headIs (asks 0x27 [3] true (st [])) 0x27 [3]) = true
    ∧ (let s := asks 0x20 ([3] ++ zeros 11 ++ leBytes 8 4) true (st []); headIs s 0x20 ([3] ++ zeros 11 ++ leBytes 8 4)
      && !s.slotInUse 3 && decide (leAt ([3] ++ zeros 11 ++ leBytes 8 4) 12 8 ≤ maxContainer)) = true := by
  refine ⟨?_, ?_, ?_, ?_, ?_, ?_, ?_, ?_, ?_, ?_⟩ <;> decide +kernel

/-- R366, Table 18-5: a slot of no container fails; an empty slot; a verified slot is marked good; a key is programmed once; a repair is cleared. -/
theorem test_store :
    (ans .containerVerify (asks 0x21 [3] true (st [(R.CF_SLOT_state 3, 2)])) (fun t => t.slotState 3 == 4)) = true
    ∧ (ans .slotEmpty (asks 0x22 [3] true (st [(R.CF_SLOT_state 3, 4)])) (fun t => t.slotState 3 == 0)) = true
    ∧ (ans .slotMarkGood (asks 0x25 [3] true (st [(R.CF_SLOT_state 3, 2)])) (fun t => t.slotState 3 == 3)) = true
    ∧ (ans .keyProgram (asks 0x26 ([3, 0] ++ zeros 6 ++ leBytes 96 9) true (st [])) (fun t => smapGet 0 t.cf.keys 3 == 9
      && (t.rd R.CF_KEYS_prog).testBit 3)) = true
    ∧ (ans .keyRevoke (asks 0x26 [3, 1] true (st [(R.CF_KEYS_prog, 8)])) (fun t => t.rd R.CF_KEYS_revoked == 8)) = true
    ∧ (ans .repairClear (asks 0x27 [1, 23, 64, 0] true (st [(R.IG_CTL_maint, 1), (lineRepaired 23, 1), (lineOut 23, 64)])) (fun t => !t.on (lineRepaired 23))) = true
    ∧ (ans .repairClear (asks 0x27 [3] true (st [])) (fun t => t.rd R.CF_STATUS_result == 14)) = true := by
  refine ⟨?_, ?_, ?_, ?_, ?_, ?_, ?_⟩ <;> decide +kernel

/-- Every clause of ConfigurationMoves is met. -/
theorem wit_ConfigurationMoves :
    (let s := loadingFull; !s.off && s.cf.loading == some 0 && s.xb.mbxQ == [(0, true)] && !s.on R.MG_STATUS_noconf) = true
    ∧ ((regionAt false 17361).reached 1 && (regionAt false 17361).regionClear 1 1 && (regionAt false 17361).cf.pending.isSome) = true
    ∧ ((regionAt true 17361).cf.pending.map (·.started) == some true) = true
    ∧ (!(regionAt false 0).reached 1 && (let s := regionAt false 17361;
      let t := { s with cf := { s.cf with pending := some ⟨1, 6, 1, 9, 5, [], [], false⟩ } }; t.reached 1
      && t.regionClear 6 1)) = true
    ∧ (let s := loadingFull.wr R.MG_STATUS_noconf 1; s.on R.MG_STATUS_noconf && s.cf.loading == some 0
      && ({ s with cf := { s.cf with loading := none } }.applyFull 0).2) = true
    ∧ (let s := { logged with cf := { logged.cf with since := 57343 } };
      decide (57344 ≤ (State.logWrite { s with cf := { s.cf with logDue := [] } } ⟨1, 3, 5, 0, 0, 0, 0, 0⟩ 0).cf.since)) = true
    ∧ (logged.cf.logDue.length == 1 && !logged.ig.arbDown
      && decide ((State.logWrite { logged with cf := { logged.cf with logDue := [] } } ⟨1, 3, 5, 0, 0, 0, 0, 0⟩ 0).cf.since < 57344)) = true := by
  refine ⟨?_, ?_, ?_, ?_, ?_, ?_, ?_⟩ <;> decide +kernel

/-- R369, R373, R375: a region load starts at its round and ends; a repair is logged. -/
theorem test_configuration :
    (ans .regionLoadApply (regionAt false 17361) (fun t => t.cf.pending.map (·.started) == some true)) = true
    ∧ (ans (.regionLoadComplete true) (regionAt true 17361) (fun t => t.cf.pending.isNone && (t.word (R.CF_CNT 1)).toNat == 1)) = true
    ∧ (ans (.regionLoadComplete false) (regionAt true 17361) (fun t => t.on R.CF_STATUS_rl_fail)) = true
    ∧ (ans (.repairLogAppend 0) logged (fun t => t.cf.logDue == [] && t.rd R.CF_LOG1_seq == 1)) = true := by
  refine ⟨?_, ?_, ?_, ?_⟩ <;> decide +kernel

/-! ## Containers that verify -/

/-- The cells of some bytes from an address upward. -/
def cells (a : Nat) (bs : Bytes) : Memory := (bs.zipIdx.map (fun x => (a + x.2, x.1))).filter (fun x => x.2 ≠ 0)

/-- The SHA-384 of an empty section: 16 zero bytes. -/
def secDigest : Bytes := beBytes 48
  0xAE40659DA1193CDEC8DF474B5E36416A82473B83D32DBBE1DD6DF8EC9499D24902CA08C334876BC8E69E818BEECC046A

/-- The header of a container of version 1 and part X, signed after 4,112 bytes, and its table: every section is
empty and stands at offset 4,096 (Tables 18-3 and 18-4). -/
def ctHead (kind key epoch : Nat) (kinds : List Nat) : Bytes :=
  [0x46, 0x4C, 0x47, 0x4E] ++ leBytes 2 1 ++ leBytes 1 kind ++ leBytes 1 key ++ leBytes 4 1 ++ leBytes 4 epoch ++ leBytes 8 4240
    ++ leBytes 4 kinds.length ++ leBytes 4 4112 ++ zeros 96
    ++ kinds.flatMap (fun k => leBytes 1 k ++ zeros 7 ++ leBytes 8 4096 ++ secDigest)

theorem secDigest_eq : sha384 (zeros 16) = secDigest := by decide +kernel

theorem shaBlocks_append (j k : Nat) (h : List (BitVec 64)) (a b : Bytes) (ha : a.length = 128 * j) :
    shaBlocks (j + k) h (a ++ b) = shaBlocks k (shaBlocks j h a) b := by
  induction j generalizing h a with
  | zero => simp [List.length_eq_zero_iff.mp ha, shaBlocks]
  | succ j ih =>
    rw [show j + 1 + k = (j + k) + 1 by omega]
    simp only [shaBlocks]
    rw [List.take_append_of_le_length (by omega), List.drop_append_of_le_length (by omega),
      ih _ _ (by simp only [List.length_drop]; omega)]

theorem memGet_length (m : Memory) (a n : Nat) : (memGet m a n).length = n := by simp [memGet]

theorem memGet_add (m : Memory) (a n k : Nat) : memGet m a (n + k) = memGet m a n ++ memGet m (a + n) k := by
  simp [memGet, List.range_add, Function.comp_def, Nat.add_assoc]

theorem smapGet_of_none (m : Memory) (a : Nat) (h : ∀ p ∈ m, p.1 ≠ a) : smapGet 0 m a = 0 := by
  induction m with
  | nil => rfl
  | cons p r ih =>
    have hp : p.1 ≠ a := h p (by simp)
    have hr := ih (fun q hq => h q (by simp [hq]))
    simpa [smapGet, smapFind, hp] using hr

theorem memGet_zeros (m : Memory) (a n : Nat) (h : m.all (fun p => decide (p.1 < a ∨ a + n ≤ p.1)) = true) :
    memGet m a n = zeros n := by
  simp only [memGet, zeros]
  apply List.ext_getElem
  · simp
  · intro i hi _
    simp only [List.length_map, List.length_range] at hi
    simp only [List.getElem_map, List.getElem_range, List.getElem_replicate]
    refine smapGet_of_none m _ (fun p hp => ?_)
    have := List.all_eq_true.mp h p hp
    simp only [decide_eq_true_eq] at this
    omega

theorem shaZeros (j k : Nat) (h : List (BitVec 64)) :
    shaBlocks (j + k) h (zeros (128 * (j + k))) = shaBlocks k (shaBlocks j h (zeros (128 * j))) (zeros (128 * k)) := by
  rw [show zeros (128 * (j + k)) = zeros (128 * j) ++ zeros (128 * k) by
    simp [zeros, Nat.mul_add]]
  exact shaBlocks_append j k h _ _ (by simp [zeros])

theorem shaGet (m : Memory) (a j k : Nat) (h : List (BitVec 64)) :
    shaBlocks (j + k) h (memGet m a (128 * (j + k)))
      = shaBlocks k (shaBlocks j h (memGet m a (128 * j))) (memGet m (a + 128 * j) (128 * k)) := by
  rw [Nat.mul_add, memGet_add]
  exact shaBlocks_append j k h _ _ (memGet_length m a _)

/-- The hash of 4,112 bytes of which those from byte 128 n on are zeros. -/
theorem sha_of_store (m : Memory) (n z : Nat) (hn : n + z = 32) (h1 h2 h3 : List (BitVec 64))
    (hm : m.all (fun p => decide (p.1 < 128 * n ∨ 4112 ≤ p.1)) = true)
    (e1 : shaBlocks n shaInit (memGet m 0 (128 * n)) = h1) (e2 : shaBlocks z h1 (zeros (128 * z)) = h2)
    (e3 : shaBlocks 1 h2 (zeros 16 ++ shaPad 4112) = h3) :
    sha384 (memGet m 0 4112) = (h3.take 6).flatMap (fun w => beBytes 8 w.toNat) := by
  have hz : memGet m (0 + 128 * n) (128 * z + 16) = zeros (128 * z) ++ zeros 16 := by
    rw [memGet_zeros m _ _ (by
      have : 0 + 128 * n + (128 * z + 16) = 4112 := by omega
      rw [this, Nat.zero_add]; exact hm)]
    exact List.replicate_add _ _ _
  have hb : memGet m 0 4112 = memGet m 0 (128 * n) ++ (zeros (128 * z) ++ zeros 16) := by
    rw [← hz, ← memGet_add, show 128 * n + (128 * z + 16) = 4112 by omega]
  have hl : (memGet m 0 4112 ++ shaPad (memGet m 0 4112).length).length / 128 = 33 := by
    rw [memGet_length, List.length_append, memGet_length, show (shaPad 4112).length = 112 by decide +kernel]
  unfold sha384
  simp only [hl]
  rw [memGet_length, hb, List.append_assoc, List.append_assoc, show 33 = n + (z + 1) by omega,
    shaBlocks_append n (z + 1) _ _ _ (memGet_length m 0 (128 * n)), e1,
    shaBlocks_append z 1 _ _ _ (by simp [zeros]), e2, e3]

/-- A signature verifies when each step of its check (R362) gives what is named. -/
theorem ecdsaOk_steps {q p1 p2 : Nat × Nat} {r t w u1 u2 x y : Nat} {hash : Bytes} (hr : 0 < r ∧ r < n384) (ht : 0 < t ∧ t < n384)
    (hq : ecOnCurve q = true) (hw : invMod n384 t = w) (h1 : beNat hash * w % n384 = u1) (h2 : r * w % n384 = u2)
    (e1 : ecMul 384 u1 (some g384) = some p1) (e2 : ecMul 384 u2 (some q) = some p2)
    (ea : ecAdd (some p1) (some p2) = some (x, y)) (hx : x % n384 = r) : ecdsaOk q r t hash = true := by
  have c : ¬ (r = 0 ∨ n384 ≤ r ∨ t = 0 ∨ n384 ≤ t ∨ !ecOnCurve q) := by
    simp only [hq, Bool.not_true, Bool.false_eq_true, or_false]; omega
  simp only [ecdsaOk, if_neg c, hw, h1, h2, e1, e2, ea, hx, beq_self_eq_true]

/-- Whether a container verifies depends on the store, the keys and the part alone. -/
theorem ctReason_eq (s t : State) (k : Nat) (h1 : s.cf.store = t.cf.store) (h2 : s.cf.keys = t.cf.keys)
    (h3 : s.rd R.CF_KEYS_prog = t.rd R.CF_KEYS_prog) (h4 : s.rd R.CF_KEYS_revoked = t.rd R.CF_KEYS_revoked)
    (h5 : s.part = t.part) : s.ctReason k = t.ctReason k := by
  delta State.ctReason State.ctMalformed State.ctWrongPart State.keyUsable State.ctSigned State.keyPoint State.ctKind State.ctKey
    State.ctParts State.ctLen State.ctSig State.partBit State.kindAllowed State.kindsNeeded State.hasBeam State.sections
    State.ctNsec State.stNum State.stGet
  rw [h1, h2, h3, h4, h5]

/-- A unit with a public key as key 1 and a container in slot 0 of its store. -/
def holding (m : Memory) (key : Nat) (l : List (FRef × Nat)) : State :=
  let s := st ([(R.CF_KEYS_prog, 2)] ++ l)
  { s with cf := { s.cf with store := m, keys := [(1, key)] } }

/-- The public key of a region container of the alignment section: a point whose sum with the base point has the container's hash as its abscissa, so that the
hash itself is both parts of its signature. -/
def regionKey : Nat :=
  0x1B4F822623864CE28531726C752C98A465B1E0ECF099D04DFF5381F6A635EE41A8D9F77CE522BE887D88A1ED2DBCE5C5 +
  0xBCAE7B5BEB096F267B15DBCE1B99BC938D23AA91CB957F7590E99C8DC5AEDEE9807E1935C769B6C34BB85CAAB60C8D7A
    * 2 ^ 384

/-- A region container of the alignment section with its signature. -/
def regionStore : Memory :=
  cells 0 (ctHead 1 1 1 [1]) ++ cells 4112 (leBytes 48
    0xEDE17170F717B49BF8D737A3A12BD656C03D33659574E6971325BBEF952F700D41ED75D72E2FAB3D5CD088ED455EFDF7
    ++ leBytes 48
    0xEDE17170F717B49BF8D737A3A12BD656C03D33659574E6971325BBEF952F700D41ED75D72E2FAB3D5CD088ED455EFDF7)

/-- A unit that holds it. -/
def regionUnit : State := holding regionStore regionKey []


theorem region_head0 : shaBlocks 1 shaInit (memGet regionStore 0 128)
    = [0xCF29BE558E62E926, 0x6BC532D1B9719D24, 0x1F2F67F523F4A869, 0xBEFA9E794FEADA73,
    0xD3788B02BAC696FE, 0x7ACD484A56A3DCB8, 0x65519116FE2ED11E, 0x5612BAEDAF5DB901] := by decide +kernel

theorem region_head1 : shaBlocks 1 [0xCF29BE558E62E926, 0x6BC532D1B9719D24, 0x1F2F67F523F4A869, 0xBEFA9E794FEADA73,
    0xD3788B02BAC696FE, 0x7ACD484A56A3DCB8, 0x65519116FE2ED11E, 0x5612BAEDAF5DB901] (memGet regionStore 128 128)
    = [0x50C98D284C892AB6, 0x99D1E63AC6F71BDC, 0xA3905E70581E5BCF, 0x75A6EBB9F158A082,
    0xC805B4015BD7D3F4, 0xE6E29A29B78FC64B, 0xFC73ECDB6E6364E2, 0x41BB6406F86D2812] := by decide +kernel

theorem region_head : shaBlocks 2 shaInit (memGet regionStore 0 (128 * 2)) = [0x50C98D284C892AB6, 0x99D1E63AC6F71BDC, 0xA3905E70581E5BCF, 0x75A6EBB9F158A082,
    0xC805B4015BD7D3F4, 0xE6E29A29B78FC64B, 0xFC73ECDB6E6364E2, 0x41BB6406F86D2812] := by
  rw [show (2 : Nat) = 1 + 1 from rfl, shaGet, show 128 * 1 = 128 from rfl, region_head0]
  exact region_head1

theorem region_zero0 : shaBlocks 6 [0x50C98D284C892AB6, 0x99D1E63AC6F71BDC, 0xA3905E70581E5BCF, 0x75A6EBB9F158A082,
    0xC805B4015BD7D3F4, 0xE6E29A29B78FC64B, 0xFC73ECDB6E6364E2, 0x41BB6406F86D2812] (zeros (128 * 6))
    = [0xA23F46B8C6888EDB, 0x4715CB7ADDE330CE, 0x0693DE98F82CC593, 0x655250EE1B1D1811,
    0x85CB0551A6FE43AC, 0x38339876AAA245D4, 0x6B0237F15C4B804C, 0xE2CE2CFA209293DC] := by decide +kernel

theorem region_zero1 : shaBlocks 6 [0xA23F46B8C6888EDB, 0x4715CB7ADDE330CE, 0x0693DE98F82CC593, 0x655250EE1B1D1811,
    0x85CB0551A6FE43AC, 0x38339876AAA245D4, 0x6B0237F15C4B804C, 0xE2CE2CFA209293DC] (zeros (128 * 6))
    = [0xD023DCA9888E001C, 0x5B8B8FE8C0828363, 0x002F3124F5B0B668, 0x6221892CE67C85AB,
    0x8E66F1A8CC565605, 0x36B55BED27333167, 0x72ECBADD04BA2184, 0xAFC8DCD5C338E371] := by decide +kernel

theorem region_zero2 : shaBlocks 6 [0xD023DCA9888E001C, 0x5B8B8FE8C0828363, 0x002F3124F5B0B668, 0x6221892CE67C85AB,
    0x8E66F1A8CC565605, 0x36B55BED27333167, 0x72ECBADD04BA2184, 0xAFC8DCD5C338E371] (zeros (128 * 6))
    = [0x8726F2DB6D2E34A3, 0x06294C6FB71F1099, 0xF5926F613D4660F3, 0x79C3D28CA4F88502,
    0xC2BB47C661F0A464, 0x69EDD713FD8C9BE7, 0xF03335E3A8C6934B, 0xA737CDB17E62C730] := by decide +kernel

theorem region_zero3 : shaBlocks 6 [0x8726F2DB6D2E34A3, 0x06294C6FB71F1099, 0xF5926F613D4660F3, 0x79C3D28CA4F88502,
    0xC2BB47C661F0A464, 0x69EDD713FD8C9BE7, 0xF03335E3A8C6934B, 0xA737CDB17E62C730] (zeros (128 * 6))
    = [0x47E8D4B9DD75BF8F, 0xAC2A29364105DB2A, 0x1E6A04844ADB237E, 0x3667420E9F4C6F65,
    0xEAD7AC69990F8DD9, 0x3FC7AEA71DBBF832, 0xCC2E013207454C2D, 0x64C960D7F9A48470] := by decide +kernel

theorem region_zero4 : shaBlocks 6 [0x47E8D4B9DD75BF8F, 0xAC2A29364105DB2A, 0x1E6A04844ADB237E, 0x3667420E9F4C6F65,
    0xEAD7AC69990F8DD9, 0x3FC7AEA71DBBF832, 0xCC2E013207454C2D, 0x64C960D7F9A48470] (zeros (128 * 6))
    = [0x741CFCA5D8617C73, 0xAA897DD43D29CD15, 0xA529A6172450684C, 0x0C9DFBF3F57DBD26,
    0x268FC571BBE29BD8, 0xF843AA916443B87B, 0xCC910C6583B96002, 0x197F02B22E7A2983] := by decide +kernel

theorem region_last : shaBlocks 1 [0x741CFCA5D8617C73, 0xAA897DD43D29CD15, 0xA529A6172450684C, 0x0C9DFBF3F57DBD26,
    0x268FC571BBE29BD8, 0xF843AA916443B87B, 0xCC910C6583B96002, 0x197F02B22E7A2983] (zeros 16 ++ shaPad 4112)
    = [0xEDE17170F717B49B, 0xF8D737A3A12BD656, 0xC03D33659574E697, 0x1325BBEF952F700D,
    0x41ED75D72E2FAB3D, 0x5CD088ED455EFDF7, 0x4951CCE1592593D0, 0x87D1B170E3406347] := by decide +kernel

theorem region_sha : sha384 (memGet regionStore 0 4112) = (([0xEDE17170F717B49B, 0xF8D737A3A12BD656, 0xC03D33659574E697, 0x1325BBEF952F700D,
    0x41ED75D72E2FAB3D, 0x5CD088ED455EFDF7, 0x4951CCE1592593D0, 0x87D1B170E3406347] :
    List (BitVec 64)).take 6).flatMap (fun w => beBytes 8 w.toNat) := by
  refine sha_of_store regionStore 2 30 rfl _ _ _ (by decide +kernel) region_head ?_ region_last
  rw [show (30 : Nat) = 6 + 24 from rfl, shaZeros, region_zero0]
  rw [show (24 : Nat) = 6 + 18 from rfl, shaZeros, region_zero1]
  rw [show (18 : Nat) = 6 + 12 from rfl, shaZeros, region_zero2]
  rw [show (12 : Nat) = 6 + 6 from rfl, shaZeros, region_zero3]
  exact region_zero4

theorem region_signed : regionUnit.ctSigned 0 = true := by
  have h0 : slotBase 0 = 0 := by decide +kernel
  have h1 : regionUnit.ctSig 0 = 4112 := by decide +kernel
  have hq : regionUnit.keyPoint (regionUnit.ctKey 0)
      = (0x1B4F822623864CE28531726C752C98A465B1E0ECF099D04DFF5381F6A635EE41A8D9F77CE522BE887D88A1ED2DBCE5C5,
        0xBCAE7B5BEB096F267B15DBCE1B99BC938D23AA91CB957F7590E99C8DC5AEDEE9807E1935C769B6C34BB85CAAB60C8D7A) := by
    decide +kernel
  have hr : regionUnit.stNum 4112 48 =
    0xEDE17170F717B49BF8D737A3A12BD656C03D33659574E6971325BBEF952F700D41ED75D72E2FAB3D5CD088ED455EFDF7 := by
    decide +kernel
  have ht : regionUnit.stNum 4160 48 =
    0xEDE17170F717B49BF8D737A3A12BD656C03D33659574E6971325BBEF952F700D41ED75D72E2FAB3D5CD088ED455EFDF7 := by
    decide +kernel
  unfold State.ctSigned
  simp only [h0, h1, hq, Nat.zero_add, hr, ht, Nat.reduceAdd]
  rw [show regionUnit.stGet 0 4112 = memGet regionStore 0 4112 from rfl, region_sha]
  exact ecdsaOk_steps (u1 := 1) (u2 := 1) (by decide +kernel) (by decide +kernel) (by decide +kernel) rfl (by decide +kernel)
    (by decide +kernel) (p1 := g384) (by decide +kernel) (p2 := (0x1B4F822623864CE28531726C752C98A465B1E0ECF099D04DFF5381F6A635EE41A8D9F77CE522BE887D88A1ED2DBCE5C5,
      0xBCAE7B5BEB096F267B15DBCE1B99BC938D23AA91CB957F7590E99C8DC5AEDEE9807E1935C769B6C34BB85CAAB60C8D7A))
    (by decide +kernel)
    (x := 0xEDE17170F717B49BF8D737A3A12BD656C03D33659574E6971325BBEF952F700D41ED75D72E2FAB3D5CD088ED455EFDF7)
    (y := 0x301D188A37D5E0FC34B41F25E54E49C1C72FB16AAF62B027984BEB3EAF23676615A4F72D47AB3DEB9A2A758527670A12)
    (by decide +kernel) (by decide +kernel)

theorem region_sec0 : (regionUnit.sections 0)[0]? = some ⟨1, 4096, 0, 0, 0, secDigest⟩ := by decide +kernel

/-- A region container of the alignment section verifies (R362, R363): its form, its part, its digests and its signature. -/
theorem region_verifies (s : State) (h1 : s.cf.store = regionStore) (h2 : s.cf.keys = [(1, regionKey)])
    (h3 : s.rd R.CF_KEYS_prog = 2) (h4 : s.rd R.CF_KEYS_revoked = 0) (h5 : s.part = .x) : s.ctReason 0 = none := by
  rw [ctReason_eq s regionUnit 0 h1 h2 (h3.trans (by decide +kernel)) (h4.trans (by decide +kernel))
    (h5.trans (by decide +kernel))]
  have a : regionUnit.ctMalformed 0 = false := by decide +kernel
  have b : regionUnit.ctWrongPart 0 = false := by decide +kernel
  have g : regionUnit.stGet 4096 16 = zeros 16 := by decide +kernel
  have hs : regionUnit.sections 0
      = ([1] : List Nat).map (fun k => ⟨k, 4096, 0, 0, 0, secDigest⟩) := by
    have hl : (regionUnit.sections 0).length = 1 := by
      have : regionUnit.ctNsec 0 = 1 := by decide +kernel
      simp [State.sections, this]
    refine List.ext_getElem? (fun i => ?_)
    match i with
    | 0 => exact region_sec0
    | i + 1 =>
      rw [List.getElem?_eq_none (by omega), List.getElem?_eq_none (by simp)]
  have c : (regionUnit.sections 0).any (fun x => sha384 (regionUnit.stGet x.off x.len) != x.digest)
      = false := by
    rw [hs]; simp [Sec.len, g, secDigest_eq]
  have e : regionUnit.keyUsable (regionUnit.ctKey 0) = true := by decide +kernel
  simp [State.ctReason, a, b, c, e, region_signed]

/-- The public key of a full container of eight sections: a point whose sum with the base point has the container's hash as its abscissa, so that the
hash itself is both parts of its signature. -/
def fullKey : Nat :=
  0x1CA995CF1F51F143F8DF3734CD42D7BEA9FEB4C65798E53B6EE37E4032298419C7A833C18313E248AC018E6CEB0150F +
  0xF7B66C97980762DCFB4D861138C11190F32996AC5C82425E36959EBCDC34796957136CBE54B3A47ED151A398BA897A86
    * 2 ^ 384

/-- A full container of eight sections with its signature. -/
def fullStore : Memory :=
  cells 0 (ctHead 0 1 1 [0, 1, 2, 3, 4, 5, 6, 8]) ++ cells 4112 (leBytes 48
    0x4161E4F20A7AEA4D6143498A7F09CF48585CA28D5290B0571EA7292C863C0ADCE9ED4313E2F85B25D36727DFC89684DF
    ++ leBytes 48
    0x4161E4F20A7AEA4D6143498A7F09CF48585CA28D5290B0571EA7292C863C0ADCE9ED4313E2F85B25D36727DFC89684DF)

/-- A unit that holds it. -/
def fullUnit : State := holding fullStore fullKey []


theorem full_head0 : shaBlocks 1 shaInit (memGet fullStore 0 128)
    = [0x83201DBF56A1596E, 0x52AB9424E25AE4DF, 0x115C265199173771, 0xF8B8D3C5DCFAAB34,
    0xCD123237E16B7770, 0x9747638DC832EE2E, 0x55AEF1CA5EC0E225, 0xCDA178F7CD9DD32F] := by decide +kernel

theorem full_head1 : shaBlocks 1 [0x83201DBF56A1596E, 0x52AB9424E25AE4DF, 0x115C265199173771, 0xF8B8D3C5DCFAAB34,
    0xCD123237E16B7770, 0x9747638DC832EE2E, 0x55AEF1CA5EC0E225, 0xCDA178F7CD9DD32F] (memGet fullStore 128 128)
    = [0x4F3B4883878FA2E2, 0x399F6A28D8856853, 0x81CDB248ECA5DCBE, 0x58F85CA03410927D,
    0xD7EFC1B570C6DE79, 0xE4F2F8EA7D2FC393, 0xEDFDCACD78444E28, 0x217C48EA693C1710] := by decide +kernel

theorem full_head2 : shaBlocks 1 [0x4F3B4883878FA2E2, 0x399F6A28D8856853, 0x81CDB248ECA5DCBE, 0x58F85CA03410927D,
    0xD7EFC1B570C6DE79, 0xE4F2F8EA7D2FC393, 0xEDFDCACD78444E28, 0x217C48EA693C1710] (memGet fullStore 256 128)
    = [0xF1496FEE8CA569C4, 0xF12A5CA45C17A9A2, 0x9CA9384FA17F5ADD, 0x483CEA9F74E88B07,
    0x71924BF607103FA2, 0x5B52720F9A980B77, 0x7E399B5A4AF79EB9, 0x0FE280A507CF75C9] := by decide +kernel

theorem full_head3 : shaBlocks 1 [0xF1496FEE8CA569C4, 0xF12A5CA45C17A9A2, 0x9CA9384FA17F5ADD, 0x483CEA9F74E88B07,
    0x71924BF607103FA2, 0x5B52720F9A980B77, 0x7E399B5A4AF79EB9, 0x0FE280A507CF75C9] (memGet fullStore 384 128)
    = [0xD24E7BAF202EB2C0, 0xB2584806948510D4, 0x561A8489B5DC0AC0, 0x5233141EB019F332,
    0x2EE484E9704ABCAE, 0x28CE2A0F4CF7DB10, 0xE940FA54BD604D47, 0x7DD36DF5E9CF7325] := by decide +kernel

theorem full_head4 : shaBlocks 1 [0xD24E7BAF202EB2C0, 0xB2584806948510D4, 0x561A8489B5DC0AC0, 0x5233141EB019F332,
    0x2EE484E9704ABCAE, 0x28CE2A0F4CF7DB10, 0xE940FA54BD604D47, 0x7DD36DF5E9CF7325] (memGet fullStore 512 128)
    = [0xA286C5C7897B055B, 0x11A30EA930BE32D8, 0x59E815F5E629CD87, 0x55439002A938B506,
    0x89AEF48A132BD822, 0x02B07CCA6DBBF52A, 0x8D731680C3AB2F75, 0xBC8BC0151403F560] := by decide +kernel

theorem full_head : shaBlocks 5 shaInit (memGet fullStore 0 (128 * 5)) = [0xA286C5C7897B055B, 0x11A30EA930BE32D8, 0x59E815F5E629CD87, 0x55439002A938B506,
    0x89AEF48A132BD822, 0x02B07CCA6DBBF52A, 0x8D731680C3AB2F75, 0xBC8BC0151403F560] := by
  rw [show (5 : Nat) = 1 + 4 from rfl, shaGet, show 128 * 1 = 128 from rfl, full_head0]
  rw [show (4 : Nat) = 1 + 3 from rfl, shaGet, show 128 * 1 = 128 from rfl, full_head1]
  rw [show (3 : Nat) = 1 + 2 from rfl, shaGet, show 128 * 1 = 128 from rfl, full_head2]
  rw [show (2 : Nat) = 1 + 1 from rfl, shaGet, show 128 * 1 = 128 from rfl, full_head3]
  exact full_head4

theorem full_zero0 : shaBlocks 6 [0xA286C5C7897B055B, 0x11A30EA930BE32D8, 0x59E815F5E629CD87, 0x55439002A938B506,
    0x89AEF48A132BD822, 0x02B07CCA6DBBF52A, 0x8D731680C3AB2F75, 0xBC8BC0151403F560] (zeros (128 * 6))
    = [0x3050ED8D5B24C054, 0xEABC353C54D04439, 0x6045D56D70AC860C, 0x6424EB58629EEC9C,
    0xAB7BC3FBA0EB411A, 0x3EE368E281FE08CD, 0x150C38FB47CF99D5, 0x640BFB38685FAEBB] := by decide +kernel

theorem full_zero1 : shaBlocks 6 [0x3050ED8D5B24C054, 0xEABC353C54D04439, 0x6045D56D70AC860C, 0x6424EB58629EEC9C,
    0xAB7BC3FBA0EB411A, 0x3EE368E281FE08CD, 0x150C38FB47CF99D5, 0x640BFB38685FAEBB] (zeros (128 * 6))
    = [0xB677CE527B4F8EB3, 0xABE15823E4A2BE48, 0x8D5B831BFBC72A5D, 0x7EA23F1440E44BAF,
    0x4E21F6C177828A15, 0x4585BD2A4FC1DC24, 0xB4402A41E4346BCC, 0x610279048E0CA6D1] := by decide +kernel

theorem full_zero2 : shaBlocks 6 [0xB677CE527B4F8EB3, 0xABE15823E4A2BE48, 0x8D5B831BFBC72A5D, 0x7EA23F1440E44BAF,
    0x4E21F6C177828A15, 0x4585BD2A4FC1DC24, 0xB4402A41E4346BCC, 0x610279048E0CA6D1] (zeros (128 * 6))
    = [0x8813C1CA9C7B6BF9, 0x43DB835664480BCC, 0x4CE56936C97F831E, 0x892509FB4E44AD08,
    0x0A4239B5648FC0AD, 0x5A729548FBAD2E74, 0xA4608F3A66B22454, 0x79E39B1C4295C82C] := by decide +kernel

theorem full_zero3 : shaBlocks 6 [0x8813C1CA9C7B6BF9, 0x43DB835664480BCC, 0x4CE56936C97F831E, 0x892509FB4E44AD08,
    0x0A4239B5648FC0AD, 0x5A729548FBAD2E74, 0xA4608F3A66B22454, 0x79E39B1C4295C82C] (zeros (128 * 6))
    = [0x0B2587E1ABD2AFEC, 0x66C7D47C3F09C65A, 0x8C57319816B1A882, 0x25101BF3D7F1163B,
    0x9310247586631729, 0xD2349D3760052FEC, 0xA7827E55D3AFEBF1, 0xE77170074653894E] := by decide +kernel

theorem full_zero4 : shaBlocks 3 [0x0B2587E1ABD2AFEC, 0x66C7D47C3F09C65A, 0x8C57319816B1A882, 0x25101BF3D7F1163B,
    0x9310247586631729, 0xD2349D3760052FEC, 0xA7827E55D3AFEBF1, 0xE77170074653894E] (zeros (128 * 3))
    = [0xA6B891F84BE6F7C0, 0xC215C273D08140A9, 0xD7C4D514AE0FF24E, 0x5DD7B0FE7AF9C19E,
    0x2B210A21FE009F48, 0x3287C9DAD125CBF0, 0x842FD564F2C7C1B0, 0xD9DF4EA367731728] := by decide +kernel

theorem full_last : shaBlocks 1 [0xA6B891F84BE6F7C0, 0xC215C273D08140A9, 0xD7C4D514AE0FF24E, 0x5DD7B0FE7AF9C19E,
    0x2B210A21FE009F48, 0x3287C9DAD125CBF0, 0x842FD564F2C7C1B0, 0xD9DF4EA367731728] (zeros 16 ++ shaPad 4112)
    = [0x4161E4F20A7AEA4D, 0x6143498A7F09CF48, 0x585CA28D5290B057, 0x1EA7292C863C0ADC,
    0xE9ED4313E2F85B25, 0xD36727DFC89684DF, 0xD27B344CF41CB7DF, 0x73B94138CCCBF550] := by decide +kernel

theorem full_sha : sha384 (memGet fullStore 0 4112) = (([0x4161E4F20A7AEA4D, 0x6143498A7F09CF48, 0x585CA28D5290B057, 0x1EA7292C863C0ADC,
    0xE9ED4313E2F85B25, 0xD36727DFC89684DF, 0xD27B344CF41CB7DF, 0x73B94138CCCBF550] :
    List (BitVec 64)).take 6).flatMap (fun w => beBytes 8 w.toNat) := by
  refine sha_of_store fullStore 5 27 rfl _ _ _ (by decide +kernel) full_head ?_ full_last
  rw [show (27 : Nat) = 6 + 21 from rfl, shaZeros, full_zero0]
  rw [show (21 : Nat) = 6 + 15 from rfl, shaZeros, full_zero1]
  rw [show (15 : Nat) = 6 + 9 from rfl, shaZeros, full_zero2]
  rw [show (9 : Nat) = 6 + 3 from rfl, shaZeros, full_zero3]
  exact full_zero4

theorem full_signed : fullUnit.ctSigned 0 = true := by
  have h0 : slotBase 0 = 0 := by decide +kernel
  have h1 : fullUnit.ctSig 0 = 4112 := by decide +kernel
  have hq : fullUnit.keyPoint (fullUnit.ctKey 0)
      = (0x1CA995CF1F51F143F8DF3734CD42D7BEA9FEB4C65798E53B6EE37E4032298419C7A833C18313E248AC018E6CEB0150F,
        0xF7B66C97980762DCFB4D861138C11190F32996AC5C82425E36959EBCDC34796957136CBE54B3A47ED151A398BA897A86) := by
    decide +kernel
  have hr : fullUnit.stNum 4112 48 =
    0x4161E4F20A7AEA4D6143498A7F09CF48585CA28D5290B0571EA7292C863C0ADCE9ED4313E2F85B25D36727DFC89684DF := by
    decide +kernel
  have ht : fullUnit.stNum 4160 48 =
    0x4161E4F20A7AEA4D6143498A7F09CF48585CA28D5290B0571EA7292C863C0ADCE9ED4313E2F85B25D36727DFC89684DF := by
    decide +kernel
  unfold State.ctSigned
  simp only [h0, h1, hq, Nat.zero_add, hr, ht, Nat.reduceAdd]
  rw [show fullUnit.stGet 0 4112 = memGet fullStore 0 4112 from rfl, full_sha]
  exact ecdsaOk_steps (u1 := 1) (u2 := 1) (by decide +kernel) (by decide +kernel) (by decide +kernel) rfl (by decide +kernel)
    (by decide +kernel) (p1 := g384) (by decide +kernel) (p2 := (0x1CA995CF1F51F143F8DF3734CD42D7BEA9FEB4C65798E53B6EE37E4032298419C7A833C18313E248AC018E6CEB0150F,
      0xF7B66C97980762DCFB4D861138C11190F32996AC5C82425E36959EBCDC34796957136CBE54B3A47ED151A398BA897A86))
    (by decide +kernel)
    (x := 0x4161E4F20A7AEA4D6143498A7F09CF48585CA28D5290B0571EA7292C863C0ADCE9ED4313E2F85B25D36727DFC89684DF)
    (y := 0xD91D94CB2EE0684CCE8EA17279339C39BC296D116894C05A82F83C36E6BAD86D53BD248D4B95A4F7E177F14C8F293528)
    (by decide +kernel) (by decide +kernel)

theorem full_sec0 : (fullUnit.sections 0)[0]? = some ⟨0, 4096, 0, 0, 0, secDigest⟩ := by decide +kernel

theorem full_sec1 : (fullUnit.sections 0)[1]? = some ⟨1, 4096, 0, 0, 0, secDigest⟩ := by decide +kernel

theorem full_sec2 : (fullUnit.sections 0)[2]? = some ⟨2, 4096, 0, 0, 0, secDigest⟩ := by decide +kernel

theorem full_sec3 : (fullUnit.sections 0)[3]? = some ⟨3, 4096, 0, 0, 0, secDigest⟩ := by decide +kernel

theorem full_sec4 : (fullUnit.sections 0)[4]? = some ⟨4, 4096, 0, 0, 0, secDigest⟩ := by decide +kernel

theorem full_sec5 : (fullUnit.sections 0)[5]? = some ⟨5, 4096, 0, 0, 0, secDigest⟩ := by decide +kernel

theorem full_sec6 : (fullUnit.sections 0)[6]? = some ⟨6, 4096, 0, 0, 0, secDigest⟩ := by decide +kernel

theorem full_sec7 : (fullUnit.sections 0)[7]? = some ⟨8, 4096, 0, 0, 0, secDigest⟩ := by decide +kernel

/-- A full container of eight sections verifies (R362, R363): its form, its part, its digests and its signature. -/
theorem full_verifies (s : State) (h1 : s.cf.store = fullStore) (h2 : s.cf.keys = [(1, fullKey)])
    (h3 : s.rd R.CF_KEYS_prog = 2) (h4 : s.rd R.CF_KEYS_revoked = 0) (h5 : s.part = .x) : s.ctReason 0 = none := by
  rw [ctReason_eq s fullUnit 0 h1 h2 (h3.trans (by decide +kernel)) (h4.trans (by decide +kernel))
    (h5.trans (by decide +kernel))]
  have a : fullUnit.ctMalformed 0 = false := by decide +kernel
  have b : fullUnit.ctWrongPart 0 = false := by decide +kernel
  have g : fullUnit.stGet 4096 16 = zeros 16 := by decide +kernel
  have hs : fullUnit.sections 0
      = ([0, 1, 2, 3, 4, 5, 6, 8] : List Nat).map (fun k => ⟨k, 4096, 0, 0, 0, secDigest⟩) := by
    have hl : (fullUnit.sections 0).length = 8 := by
      have : fullUnit.ctNsec 0 = 8 := by decide +kernel
      simp [State.sections, this]
    refine List.ext_getElem? (fun i => ?_)
    match i with
    | 0 => exact full_sec0
    | 1 => exact full_sec1
    | 2 => exact full_sec2
    | 3 => exact full_sec3
    | 4 => exact full_sec4
    | 5 => exact full_sec5
    | 6 => exact full_sec6
    | 7 => exact full_sec7
    | i + 8 =>
      rw [List.getElem?_eq_none (by omega), List.getElem?_eq_none (by simp)]
  have c : (fullUnit.sections 0).any (fun x => sha384 (fullUnit.stGet x.off x.len) != x.digest)
      = false := by
    rw [hs]; simp [Sec.len, g, secDigest_eq]
  have e : fullUnit.keyUsable (fullUnit.ctKey 0) = true := by decide +kernel
  simp [State.ctReason, a, b, c, e, full_signed]

theorem smapErase_above (m : Memory) (a : Nat) (h : ∀ p ∈ m, p.1 ≠ a) : smapErase m a = m := by
  simpa [smapErase, List.filter_eq_self] using h

/-- Writing what a memory already holds leaves it as it is. -/
theorem smapSet_self (m : Memory) (a : Nat) (hs : m.Pairwise (fun p q => p.1 < q.1)) (hz : ∀ p ∈ m, p.2 ≠ 0) :
    smapSet 0 m a (smapGet 0 m a) = m := by
  induction m with
  | nil => simp [smapSet, smapGet, smapFind, smapErase]
  | cons p r ih =>
    obtain ⟨k, w⟩ := p
    have hk := List.pairwise_cons.mp hs
    have ih := ih hk.2 (fun q hq => hz q (by simp [hq]))
    by_cases e : k = a
    · subst e
      have hw : w ≠ 0 := hz (k, w) (by simp)
      have hr : smapErase r k = r := smapErase_above r k (fun q hq => by have := hk.1 q hq; simp only at this; omega)
      have he : smapErase ((k, w) :: r) k = r := by
        rw [← hr]; simp [smapErase]
      have hg : smapGet 0 ((k, w) :: r) k = w := by simp [smapGet, smapFind]
      rw [smapSet, hg, if_neg hw, he]
      cases r with
      | nil => rfl
      | cons q t =>
        have := hk.1 q (by simp)
        simp only at this
        simp [smapInsert, this]
    · have hg : smapGet 0 ((k, w) :: r) a = smapGet 0 r a := by simp [smapGet, smapFind, e]
      have he : smapErase ((k, w) :: r) a = (k, w) :: smapErase r a := by simp [smapErase, e]
      rw [hg, smapSet, he]
      by_cases h0 : smapGet 0 r a = 0
      · rw [if_pos h0]
        rw [smapSet, if_pos h0] at ih
        rw [ih]
      · rw [if_neg h0]
        rw [smapSet, if_neg h0] at ih
        have hka : k < a := by
          by_contra hc
          exact h0 (smapGet_of_none r a (fun q hq => by have := hk.1 q hq; simp only at this; omega))
        rw [smapInsert, if_neg (Nat.not_lt.mpr (Nat.le_of_lt hka)), ih]

theorem memPut_self (m : Memory) (hm : m.wf = true) : ∀ (n a : Nat), memPut m a (memGet m a n) = m := by
  simp only [Memory.wf, smapWf, Bool.and_eq_true, decide_eq_true_eq, List.all_eq_true] at hm
  intro n
  induction n with
  | zero => intro a; rfl
  | succ n ih =>
    intro a
    have h : memGet m a (n + 1) = smapGet 0 m a :: memGet m (a + 1) n := by
      simp [memGet, List.range_succ_eq_map, Function.comp_def, Nat.add_assoc, Nat.add_comm 1]
    rw [h, memPut, smapSet_self m a hm.1 (fun p hp => by simpa using hm.2 p hp)]
    exact ih (a + 1)

/-- A request of an op with a payload is in hand where the test says so. -/
theorem headIs_head {s : State} {op : Nat} {payload : Bytes} (h : headIs s op payload = true) :
    ∃ r, s.mbxHead = some r ∧ r.op = op ∧ r.payload = payload := by
  unfold headIs at h
  split at h
  · next r hr =>
    simp only [Bool.and_eq_true, beq_iff_eq] at h
    exact ⟨r, hr, h.1, h.2⟩
  · simp at h

/-- The request, with the slot it names. -/
theorem headIs_slot {s : State} {op : Nat} {rest : Bytes} (h : headIs s op (0 :: rest) = true) :
    ∃ r, s.mbxHead = some r ∧ r.op = op ∧ r.slotArg = 0 ∧ r.payload = 0 :: rest := by
  obtain ⟨r, h1, h2, h3⟩ := headIs_head h
  exact ⟨r, h1, h2, by rw [MbxReq.slotArg, h3]; rfl, h3⟩

/-- The region container of slot 0 verifies again: the premises of that clause of StoreOperations. -/
theorem wit_StoreOperations_verify : ∃ (s : State) (r : MbxReq), s.off = false ∧ s.mbxHead = some r ∧ r.op = 0x21 ∧ r.slotArg ≤ 3
    ∧ s.slotState r.slotArg ≠ 0 ∧ s.slotState r.slotArg ≠ 3 ∧ s.ctReason r.slotArg = none := by
  let s := asks 0x21 [0] true (holding regionStore regionKey [(R.CF_SLOT_state 0, 2)])
  obtain ⟨r, h1, h2, h3, _⟩ := headIs_slot (s := s) (op := 0x21) (rest := []) (by decide +kernel)
  refine ⟨s, r, by decide +kernel, h1, h2, by omega, ?_⟩
  rw [h3]
  exact ⟨by decide +kernel, by decide +kernel,
    region_verifies _ rfl rfl (by decide +kernel) (by decide +kernel) (by decide +kernel)⟩

/-- The groups' lengths cleared, so that no group is defined. -/
def noGroups : List (FRef × Nat) := (List.range 63).map (fun g => (R.AG_GLEN_len g, 0))

/-- The full container in slot 0, GOOD, with some fields given values. -/
def fullGood (l : List (FRef × Nat)) : State := asks 0x23 [0] true (holding fullStore fullKey ((R.CF_SLOT_state 0, 3) :: l))

theorem full_fits : (fullGood noGroups).fullFits 0 = true := by decide +kernel

/-- Slabs larger than HBM do not fit. -/
theorem slabs_too_large {s : State} {ring cls : Nat} {gs : List Nat} {b : Bool}
    (h : s.hbmSize < ((s.slabRanges ring).map Prod.snd).sum) : s.layoutFits ring gs b cls = false := by
  simp only [State.layoutFits, State.occupancy, Bool.and_eq_false_iff, decide_eq_false_iff_not]
  left
  omega

theorem full_too_large : (fullGood [(R.AL_SLABGEO_c_cnt, 4096)]).fullFits 0 = false := by
  simp only [State.fullFits, State.loadFits, Bool.and_eq_false_iff]
  exact Or.inr (slabs_too_large (by decide +kernel))

/-- The request to load the full container, with what the tests say of its state. -/
theorem full_request {l : List (FRef × Nat)} {fits : Bool} (h0 : (fullGood l).off = false) (h1 : headIs (fullGood l) 0x23 [0] = true)
    (h2 : (fullGood l).slotState 0 = 3) (h4 : (fullGood l).fullReason 0 = none)
    (h5 : (fullGood l).fullFits 0 = fits) (h6 : (fullGood l).ctReason 0 = none) :
    ∃ (s : State) (r : MbxReq), s.off = false ∧ s.mbxHead = some r ∧ r.op = 0x23 ∧ r.slotArg ≤ 3
      ∧ s.slotState r.slotArg = 3 ∧ s.ctReason r.slotArg = none ∧ s.fullReason r.slotArg = none ∧ s.fullFits r.slotArg = fits := by
  obtain ⟨r, g1, g2, g3, _⟩ := headIs_slot (s := fullGood l) (op := 0x23) (rest := []) h1
  refine ⟨fullGood l, r, h0, g1, g2, by omega, ?_⟩
  rw [g3]
  exact ⟨h2, h6, h4, h5⟩

/-- A full container may be loaded where its layout fits and may not where it does not, and a region container may not: the
premises of the full load's clauses. -/
theorem wit_StoreOperations_fullLoad :
    (∃ (s : State) (r : MbxReq), s.off = false ∧ s.mbxHead = some r ∧ r.op = 0x23 ∧ r.slotArg ≤ 3
      ∧ s.slotState r.slotArg = 3 ∧ s.ctReason r.slotArg = none ∧ s.fullReason r.slotArg = none ∧ s.fullFits r.slotArg = true)
    ∧ (∃ (s : State) (r : MbxReq), s.off = false ∧ s.mbxHead = some r ∧ r.op = 0x23 ∧ r.slotArg ≤ 3
      ∧ s.slotState r.slotArg = 3 ∧ s.ctReason r.slotArg = none ∧ s.fullReason r.slotArg = none ∧ s.fullFits r.slotArg = false)
    ∧ ∃ (s : State) (r : MbxReq), s.off = false ∧ s.mbxHead = some r ∧ r.op = 0x23 ∧ r.slotArg ≤ 3
      ∧ s.slotState r.slotArg = 3 ∧ s.ctReason r.slotArg = none ∧ s.fullReason r.slotArg = some 1 := by
  refine ⟨full_request (l := noGroups) (by decide +kernel) (by decide +kernel) (by decide +kernel) (by decide +kernel)
      full_fits (full_verifies _ rfl rfl (by decide +kernel) (by decide +kernel) (by decide +kernel)),
    full_request (l := [(R.AL_SLABGEO_c_cnt, 4096)]) (by decide +kernel) (by decide +kernel) (by decide +kernel)
      (by decide +kernel) full_too_large
      (full_verifies _ rfl rfl (by decide +kernel) (by decide +kernel) (by decide +kernel)), ?_⟩
  let s := asks 0x23 [0] true (holding regionStore regionKey [(R.CF_SLOT_state 0, 3)])
  obtain ⟨r, h1, h2, h3, _⟩ := headIs_slot (s := s) (op := 0x23) (rest := []) (by decide +kernel)
  refine ⟨s, r, by decide +kernel, h1, h2, by omega, ?_⟩
  rw [h3]
  exact ⟨by decide +kernel, region_verifies _ rfl rfl (by decide +kernel) (by decide +kernel) (by decide +kernel),
    by decide +kernel⟩

/-- The region container in slot 0, GOOD, with some fields given values. -/
def regionGood (l : List (FRef × Nat)) : State :=
  asks 0x24 (zeros 12) true (holding regionStore regionKey ((R.CF_SLOT_state 0, 3) :: l))

/-- The load of the region container's section. -/
def regionOf (s : State) (b : Nat) : RegionLoad := ⟨0, 1, b, s.ctEpoch 0, leNat secDigest, [], [], false⟩

theorem region_too_large : (regionGood [(R.AL_SLABGEO_c_cnt, 4096)]).regionFits (regionOf (regionGood [(R.AL_SLABGEO_c_cnt, 4096)]) 1)
    = false := by
  simp only [State.regionFits, State.loadFits, Bool.and_eq_false_iff]
  exact Or.inr (slabs_too_large (by decide +kernel))

/-- A region container may be loaded at the next round where its layout fits and may not where it does not, and a full
container may not: the premises of the region load's clauses. -/
theorem wit_StoreOperations_regionLoad :
    (∃ (s : State) (r : MbxReq) (x : Sec) (b : Nat), s.off = false ∧ s.mbxHead = some r ∧ r.op = 0x24 ∧ r.slotArg ≤ 3
      ∧ s.slotState r.slotArg = 3 ∧ s.ctReason r.slotArg = none ∧ (s.sections r.slotArg).head? = some x
      ∧ s.bindTo (byteAt r.payload 1 = 1) (leAt r.payload 4 8) = some b ∧ s.regionReason r.slotArg x (some b) = none
      ∧ s.regionFits ⟨r.slotArg, x.kind, b, s.ctEpoch r.slotArg, leNat x.digest, s.secRecords x, s.secBlob x, false⟩ = true)
    ∧ (∃ (s : State) (r : MbxReq) (x : Sec) (b : Nat), s.off = false ∧ s.mbxHead = some r ∧ r.op = 0x24 ∧ r.slotArg ≤ 3
      ∧ s.slotState r.slotArg = 3 ∧ s.ctReason r.slotArg = none ∧ (s.sections r.slotArg).head? = some x
      ∧ s.bindTo (byteAt r.payload 1 = 1) (leAt r.payload 4 8) = some b ∧ s.regionReason r.slotArg x (some b) = none
      ∧ s.regionFits ⟨r.slotArg, x.kind, b, s.ctEpoch r.slotArg, leNat x.digest, s.secRecords x, s.secBlob x, false⟩ = false)
    ∧ ∃ (s : State) (r : MbxReq) (x : Sec), s.off = false ∧ s.mbxHead = some r ∧ r.op = 0x24 ∧ r.slotArg ≤ 3
      ∧ s.slotState r.slotArg = 3 ∧ s.ctReason r.slotArg = none ∧ (s.sections r.slotArg).head? = some x
      ∧ s.regionReason r.slotArg x (s.bindTo (byteAt r.payload 1 = 1) (leAt r.payload 4 8)) = some 1 := by
  refine ⟨?_, ?_, ?_⟩
  · obtain ⟨r, h1, h2, h3, h4⟩ := headIs_slot (s := regionGood []) (op := 0x24) (rest := zeros 11) (by decide +kernel)
    refine ⟨regionGood [], r, ⟨1, 4096, 0, 0, 0, secDigest⟩, (regionGood []).nextRound, by decide +kernel, h1, h2, by omega, ?_⟩
    rw [h3, h4]
    exact ⟨by decide +kernel, region_verifies _ rfl rfl (by decide +kernel) (by decide +kernel) (by decide +kernel),
      by decide +kernel, by decide +kernel, by decide +kernel, by decide +kernel⟩
  · let s := regionGood [(R.AL_SLABGEO_c_cnt, 4096)]
    obtain ⟨r, h1, h2, h3, h4⟩ := headIs_slot (s := s) (op := 0x24) (rest := zeros 11) (by decide +kernel)
    refine ⟨s, r, ⟨1, 4096, 0, 0, 0, secDigest⟩, 1, by decide +kernel, h1, h2, by omega, ?_⟩
    rw [h3, h4]
    refine ⟨by decide +kernel, region_verifies _ rfl rfl (by decide +kernel) (by decide +kernel) (by decide +kernel),
      by decide +kernel, by decide +kernel, by decide +kernel, ?_⟩
    have e : s.secRecords ⟨1, 4096, 0, 0, 0, secDigest⟩ = [] ∧ s.secBlob ⟨1, 4096, 0, 0, 0, secDigest⟩ = [] := by decide +kernel
    rw [e.1, e.2]
    exact region_too_large
  · let s := asks 0x24 (zeros 12) true (holding fullStore fullKey [(R.CF_SLOT_state 0, 3)])
    obtain ⟨r, h1, h2, h3, h4⟩ := headIs_slot (s := s) (op := 0x24) (rest := zeros 11) (by decide +kernel)
    refine ⟨s, r, ⟨0, 4096, 0, 0, 0, secDigest⟩, by decide +kernel, h1, h2, by omega, ?_⟩
    rw [h3, h4]
    exact ⟨by decide +kernel, full_verifies _ rfl rfl (by decide +kernel) (by decide +kernel) (by decide +kernel),
      by decide +kernel, by decide +kernel⟩

/-- The region container stands in HBM at address 0 and in slot 0 of the store. -/
def staged : State :=
  { asks 0x20 (0 :: (zeros 11 ++ leBytes 8 4240)) true (holding regionStore regionKey []) with mem := regionStore }

/-- The premises of the write's clauses: a container that verifies, and bytes that are no container. -/
theorem wit_StoreOperations_write :
    (∃ (s t : State) (r : MbxReq), s.off = false ∧ s.mbxHead = some r ∧ r.op = 0x20 ∧ r.slotArg ≤ 3
      ∧ leAt r.payload 12 8 ≤ maxContainer ∧ s.slotInUse r.slotArg = false
      ∧ leAt r.payload 4 8 + leAt r.payload 12 8 ≤ s.hbmSize
      ∧ t = ((s.stPut (slotBase r.slotArg) (s.bytes (leAt r.payload 4 8) (leAt r.payload 12 8))).incBy
        (R.CF_SLOTWR_writes r.slotArg).a 1).showSlot r.slotArg
      ∧ t.ctLen r.slotArg = leAt r.payload 12 8 ∧ t.ctReason r.slotArg = none)
    ∧ ∃ (s t : State) (r : MbxReq), s.off = false ∧ s.mbxHead = some r ∧ r.op = 0x20 ∧ r.slotArg ≤ 3
      ∧ leAt r.payload 12 8 ≤ maxContainer ∧ s.slotInUse r.slotArg = false
      ∧ leAt r.payload 4 8 + leAt r.payload 12 8 ≤ s.hbmSize
      ∧ t = ((s.stPut (slotBase r.slotArg) (s.bytes (leAt r.payload 4 8) (leAt r.payload 12 8))).incBy
        (R.CF_SLOTWR_writes r.slotArg).a 1).showSlot r.slotArg
      ∧ t.ctLen r.slotArg = leAt r.payload 12 8 ∧ t.ctReason r.slotArg = some 1 := by
  constructor
  · obtain ⟨r, h1, h2, h3, h4⟩ := headIs_slot (s := staged) (op := 0x20) (rest := zeros 11 ++ leBytes 8 4240) (by decide +kernel)
    have e1 : leAt r.payload 4 8 = 0 := by rw [h4]; decide +kernel
    have e2 : leAt r.payload 12 8 = 4240 := by rw [h4]; decide +kernel
    have e3 : staged.stPut 0 (staged.bytes 0 4240) = staged := by
      have : memPut regionStore 0 (memGet regionStore 0 4240) = regionStore := memPut_self _ (by decide +kernel) _ _
      unfold State.stPut State.bytes
      rw [show staged.mem = regionStore from rfl, show staged.cf.store = regionStore from rfl, this]
      rfl
    refine ⟨staged, (staged.incBy (R.CF_SLOTWR_writes 0).a 1).showSlot 0, r, by decide +kernel, h1, h2, by omega, ?_⟩
    rw [e1, e2, h3, show slotBase 0 = 0 from rfl, e3]
    exact ⟨by decide +kernel, by decide +kernel, by decide +kernel, rfl, by decide +kernel,
      region_verifies _ rfl rfl (by decide +kernel) (by decide +kernel) (by decide +kernel)⟩
  · let s := asks 0x20 (zeros 20) true (st [])
    obtain ⟨r, h1, h2, h3, h4⟩ := headIs_slot (s := s) (op := 0x20) (rest := zeros 19) (by decide +kernel)
    have e1 : leAt r.payload 4 8 = 0 := by rw [h4]; decide +kernel
    have e2 : leAt r.payload 12 8 = 0 := by rw [h4]; decide +kernel
    refine ⟨s, ((s.stPut 0 (s.bytes 0 0)).incBy (R.CF_SLOTWR_writes 0).a 1).showSlot 0, r, by decide +kernel, h1, h2,
      by omega, ?_⟩
    rw [e1, e2, h3, show slotBase 0 = 0 from rfl]
    exact ⟨by decide +kernel, by decide +kernel, by decide +kernel, rfl, by decide +kernel, by decide +kernel⟩

/-! ## Events -/

/-- Channel 127 is open for event 200 and leads to a destination of a kind. -/
def channel (kind dst hop : Nat) : State :=
  let s := st [(R.EV_CHCFG_src 127, 200), (R.EV_CHCFG_en 127, 1), (R.EV_CHCFG_dkind 127, kind), (R.EV_CHCFG_dst 127, dst)]
  { s with evq := [(200, hop)] }

/-- Every clause of EventsRun is met: an event at three hops and at four, a pulse that its filter just passes and one it does not. -/
theorem wit_EventsRun :
    (let s := st []; !s.off && takesB s 1 R.EV_HOSTEV_fire.a (BitVec.ofNat 32 (2 ^ 15))) = true
    ∧ (let s := { st [] with evq := [(200, 0)] }; s.evq == [(200, 0)]
      && (List.range 128).all (fun c => s.rd (R.EV_CHCFG_src c) != 200)) = true
    ∧ (let s := channel 0 95 3; s.evq == [(200, 3)] && (List.range 128).filter (fun c => s.rd (R.EV_CHCFG_src c) = 200) == [127]
      && s.chanOpen 127 && s.rd (R.EV_CHCFG_dkind 127) == 0
      && !(s.rd (R.EV_TSEC_sec (s.rd (R.EV_CHCFG_dst 127) / 32))).testBit (s.rd (R.EV_CHCFG_dst 127) % 32)) = true
    ∧ (let s := (channel 0 95 3).wr (R.EV_CHCFG_en 127) 0; !s.chanOpen 127 && s.evq == [(200, 3)]
      && (List.range 128).filter (fun c => s.rd (R.EV_CHCFG_src c) = 200) == [127]) = true
    ∧ (let s := (channel 0 95 3).wr (R.EV_TSEC_sec 2) (2 ^ 31);
      (s.rd (R.EV_TSEC_sec (s.rd (R.EV_CHCFG_dst 127) / 32))).testBit (s.rd (R.EV_CHCFG_dst 127) % 32)
      && !s.on (R.EV_CHOWN_sec 127) && s.chanOpen 127) = true
    ∧ (let s := channel 1 15 3; s.chanOpen 127 && s.rd (R.EV_CHCFG_dkind 127) == 1 && (channel 2 15 3).chanOpen 127
      && (channel 2 15 3).rd (R.EV_CHCFG_dkind 127) == 2 && (channel 0 95 4).evq == [(200, 4)]) = true
    ∧ (let s := st [(R.EV_TSTAT_pending 79, 1)]; s.rd (R.EV_TSTAT_pending 79) != 0 && s.rd (R.EV_TSTAT_pending 78) == 0) = true
    ∧ (let s := st [(R.EV_TSTAT_pending 39, 3)]; !s.taskIdle 39 && s.rd (R.EV_TSTAT_pending 39) == 3 && taskCounts 39
      && !s.taskIdle 40 && !taskCounts 40) = true
    ∧ (let s := st [(R.EV_IO_filt 15, 4)]; !s.on (R.EV_IO_dir 15) && !s.ev.level.testBit 15 && decide (s.rd (R.EV_IO_filt 15) ≤ 4)
      && decide (3 < s.rd (R.EV_IO_filt 15))) = true
    ∧ (({ st [] with ev := { (st []).ev with pulse := [15] } } : State).ev.pulse.contains 15) = true
    ∧ (takesB (st [(R.EV_CHOWN_cls 127, 1)]) 1 (R.EV_CHCFG 127) 0x80000000 && takesB (st []) 1 (R.EV_CHOWN 127) 1) = true := by
  refine ⟨?_, ?_, ?_, ?_, ?_, ?_, ?_, ?_, ?_, ?_, ?_⟩ <;> decide +kernel

/-- R313, R315: an event at three hops reaches its task; one at four is dropped and counted; a group is enabled or disabled. -/
theorem test_delivery :
    (ans (.eventDelivery 0) (channel 0 15 3) (fun t => t.rd (R.EV_TSTAT_pending 15) == 1 && t.evq == [])) = true
    ∧ (ans (.eventDelivery 0) (channel 0 15 4) (fun t => t.rd (R.EV_TSTAT_pending 15) == 0 && t.on (R.EV_CHSTAT_loop 127)
      && (t.word (R.EV_CNT 0)).toNat == 1)) = true
    ∧ (ans (.eventDelivery 0) (channel 2 14 0) (fun t => t.rd R.EV_GRPEN_en == 0xBFFF)) = true := by
  refine ⟨?_, ?_, ?_⟩ <;> decide +kernel

/-- R312, R319, R321: a host event is queued; a task input takes one event; an edge fires after its filter; a pulse ends. -/
theorem test_events :
    (ans (.hostEvent 1 15) (st []) (fun t => t.evq == [(47, 0)])) = true
    ∧ (ans (.taskExecute 79 0) (st [(R.EV_TSTAT_pending 79, 1)]) (fun t => t.rd (R.EV_TSTAT_pending 79) == 0)) = true
    ∧ (ans (.evioEdge 15 true 4) (st [(R.EV_IO_filt 15, 4), (R.EV_IO_edge 15, 1)]) (fun t => t.evq == [(31, 0)]
      && t.ev.level == 0x8000)) = true
    ∧ (ans (.evioEdge 15 true 3) (st [(R.EV_IO_filt 15, 4), (R.EV_IO_edge 15, 1)]) (fun t => t.evq == []
      && (t.word (R.EV_CNT 4)).toNat == 1)) = true
    ∧ (ans (.evioPulseEnd 15) { st [] with ev := { (st []).ev with pulse := [15], drive := 0x8000 } } (fun t => t.ev.pulse == []
      && t.ev.drive == 0)) = true
    ∧ (ans (.channelConfigWrite 1 127 0x80000000) (st [(R.EV_CHOWN_cls 127, 1)]) (fun t => t.on (R.EV_CHCFG_en 127))) = true
    ∧ (ans (.channelOwnerWrite 1 127 5) (st []) (fun t => t.rd (R.EV_CHOWN_asp 127) == 5)) = true := by
  refine ⟨?_, ?_, ?_, ?_, ?_, ?_, ?_⟩ <;> decide +kernel

/-! ## The ASPs -/

/-- Core 3 runs, with the registers of a list (0–15 D, 16–23 P, 24–31 M, 32–35 A, 40 LC, 41 ST). -/
def core (l : List (Nat × Nat)) : State :=
  let s := st [(R.SP_STAT_state 3, 2)]
  s.setCore 3 { s.core 3 with reg := l }

/-- Core 3 runs with a part of its state given. -/
def coreWith (f : SpCore → SpCore) : State := (core []).setCore 3 (f ((core []).core 3))

/-- A corrected read, with no fault. -/
def noEcc : AspEcc := ⟨0, 0⟩

/-- The operand P2 that stays. -/
def atP2 : AspMem := ⟨2, 0⟩

/-- A test of an instruction of core 3 by its registers. -/
def gives (i : Instr) (l : List (Nat × Nat)) (r : Nat) (v : Nat) : Bool := ans i (core l) (fun t => t.spGet 3 r == v)

/-- The value an ALU operation on D1 and D2 leaves in a register; its flags hold a free carry. -/
def alu (o : AluOp) (sat : Bool) (l : List (Nat × Nat)) (b : AspSrc) : Option Nat :=
  (aluExact o ((core l).spInt 3 1) ((core l).spSrc 3 b)).map (fun e => (reduceTo 32 sat e).1)

/-- A core that executes meets the premise; an operation whose result the spec states, and a shift of 32 whose result it does not. -/
theorem wit_AluResults :
    (let s := core [(1, 5), (2, 7)]; readyB s 3 && aluExact .sub (s.spInt 3 1) (s.spSrc 3 (.reg 2)) == some (-2)) = true
    ∧ (let s := core [(1, 5), (2, 32)]; decide (¬ (0 ≤ s.spSrc 3 (.reg 2) ∧ s.spSrc 3 (.reg 2) < 32))
      && decide (0 ≤ s.spSrc 3 (.imm 31) ∧ s.spSrc 3 (.imm 31) < 32)) = true := by
  refine ⟨?_, ?_⟩ <;> decide +kernel

/-- R326, R327: a sum wraps or saturates; a difference; the limits of NEG and ABS; the lesser and the greater. -/
theorem test_aluArithmetic :
    (gives (.aspAdd 3 false 0 1 (.reg 2)) [(1, 0x7FFFFFFF), (2, 1)] 0 0x80000000) = true
    ∧ (gives (.aspAdd 3 true 0 1 (.reg 2)) [(1, 0x7FFFFFFF), (2, 1)] 0 0x7FFFFFFF) = true
    ∧ (gives (.aspAdd 3 false 0 1 (.reg 2)) [(1, 0xFFFFFFFF), (2, 1)] 41 5) = true
    ∧ (alu .sub false [(1, 5)] (.imm 7) == some 0xFFFFFFFE) = true
    ∧ (alu .neg true [(1, 0x80000000)] (.imm 0) == some 0x7FFFFFFF && alu .neg false [(1, 0x80000000)] (.imm 0) == some 0x80000000) = true
    ∧ (alu .abs false [(1, 0xFFFFFFFB)] (.imm 0) == some 5) = true
    ∧ (alu .min false [(1, 0xFFFFFFFF), (2, 1)] (.reg 2) == some 0xFFFFFFFF
      && alu .max false [(1, 0xFFFFFFFF), (2, 1)] (.reg 2) == some 1) = true := by
  refine ⟨?_, ?_, ?_, ?_, ?_, ?_, ?_⟩ <;> decide +kernel

/-- R326: logic and shifts; an amount of 32 has no stated result. -/
theorem test_aluLogic :
    (alu .and false [(1, 12), (2, 10)] (.reg 2) == some 8 && alu .or false [(1, 12), (2, 10)] (.reg 2) == some 14) = true
    ∧ (alu .xor false [(1, 12), (2, 10)] (.reg 2) == some 6) = true
    ∧ (alu .shl false [(1, 1)] (.imm 31) == some 0x80000000 && alu .shr false [(1, 0x80000000)] (.imm 31) == some 1) = true
    ∧ (alu .asr false [(1, 0x80000000)] (.imm 4) == some 0xF8000000 && alu .asr false [(1, 1), (2, 32)] (.reg 2) == none) = true := by
  refine ⟨?_, ?_, ?_, ?_⟩ <;> decide +kernel

/-- Every clause of MovesAct is met: the last word of X and Y, the first word of the window and the last below it. -/
theorem wit_MovesAct :
    (readyB (core []) 3 && regPlace (.p 7) == some (23, 16) && regPlace (.d 15) == some (15, 32) && regPlace .lc == some (40, 16)) = true
    ∧ (readyB (coreWith (fun c => { c with inQ := [(1, [9])] })) 3
      && smapGet [] ((coreWith (fun c => { c with inQ := [(1, [9])] })).core 3).inQ 1 == [9]) = true
    ∧ (let s := (core []).wr (R.SP_OUTCFG_dst 3 0) 1; readyB s 3 && s.rd (R.SP_OUTCFG_dst 3 0) == 1
      && (smapGet [] (s.core 3).outQ 0).length == 0 && smapGet [] (s.core 3).inQ 0 == []) = true
    ∧ ((core [(18, 0x3FFF)]).spAddr 3 atP2 == some (0x3FFF, none) && (core [(18, 0x4000)]).spAddr 3 atP2 == some (0x4000, none)
      && (core [(18, 0x7FFF)]).spAddr 3 atP2 == some (0x7FFF, none)) = true
    ∧ (decide ((31 : Fin 32).val + (0 : Fin 32).val + 1 ≤ 32) && decide ((0 : Fin 32).val + (31 : Fin 32).val + 1 ≤ 32)) = true := by
  refine ⟨?_, ?_, ?_, ?_, ?_⟩ <;> decide +kernel

/-- R323 to R326, R336: what the moves leave. -/
theorem test_moves :
    (gives (.aspMovi 3 (.d 1) true 0x1234) [(1, 0xABCD)] 1 0x1234ABCD) = true
    ∧ (gives (.aspMov 3 (.p 7) (.d 1)) [(1, 0x12345)] 23 0x2345) = true
    ∧ (ans (.aspMov 3 (.d 0) (.inp 1)) (coreWith (fun c => { c with inQ := [(1, [9])] })) (fun t => t.spGet 3 0 == 9
      && smapGet [] (t.core 3).inQ 1 == [])) = true
    ∧ (gives (.aspModp 3 2 0xFFFF) [(18, 5)] 18 4) = true
    ∧ (gives (.aspExt 3 (.d 0) (.d 1) 4 7) [(1, 0xABC)] 0 0xAB) = true
    ∧ (gives (.aspIns 3 (.d 0) (.d 1) 4 7) [(0, 0xF00F), (1, 0xAB)] 0 0xFABF) = true := by
  refine ⟨?_, ?_, ?_, ?_, ?_, ?_⟩ <;> decide +kernel

/-- R323, R324: a store and a load of the last word of Y; the window waits for its access. -/
theorem test_memory :
    (ans (.aspStore 3 true atP2 1) (core [(18, 0x3FFF), (1, 77)]) (fun t => t.spWord 3 0xFFFF == 77)) = true
    ∧ (ans (.aspLoad 3 true atP2 1 noEcc) ((core [(18, 0x3FFF)]).setSpWord 3 0xFFFF 77) (fun t => t.spGet 3 1 == 77)) = true
    ∧ (ans (.aspLoad 3 true atP2 1 noEcc) (core [(18, 0x4000)]) (fun t => (t.core 3).ext.isSome)) = true := by
  refine ⟨?_, ?_, ?_⟩ <;> decide +kernel

/-- Every clause of AccumulatorsAct is met: three pointers at the ends of the memories. -/
theorem wit_AccumulatorsAct :
    (let s := core [(16, 0x3FFF), (17, 0x3FFF), (18, 0x7FFF)]; readyB s 3 && s.spAddr 3 ⟨0, 0⟩ == some (0x3FFF, none)
      && s.spAddr 3 ⟨1, 0⟩ == some (0x3FFF, none) && s.spAddr 3 atP2 == some (0x7FFF, none)) = true := by
  decide +kernel

/-- R326, R327: halves are signed; a complex product and its conjugate; an accumulator saturates at 40 bits. -/
theorem test_multiplies :
    ((core [(1, 3)]).spHalf 3 ⟨1, false⟩ == 3 && (core [(2, 0x8000FFFF)]).spHalf 3 ⟨2, true⟩ == -32768) = true
    ∧ (complexProduct false 0x00030002 0x00050004 == (7, 22) && complexProduct true 0x00030002 0x00050004 == (23, -2)) = true
    ∧ (reduceTo 40 true (2 ^ 39) == (0x7FFFFFFFFF, true) && reduceTo 40 false (2 ^ 39) == (0x8000000000, true)) = true := by
  refine ⟨?_, ?_, ?_⟩ <;> decide +kernel

/-- R326, R327: rounding half to even, and the sum of two accumulators. -/
theorem test_accumulators :
    (shiftEven 5 1 == 2 && shiftEven 7 1 == 4 && shiftEven (-5) 1 == -2 && shiftEven 5 0 == 5) = true
    ∧ (gives (.aspAdda 3 true 0 1 2) [(33, 0x7FFFFFFFFF), (34, 1)] 32 0x7FFFFFFFFF) = true
    ∧ (gives (.aspAdda 3 false 0 1 2) [(33, 0x7FFFFFFFFF), (34, 1)] 32 0x8000000000) = true := by
  refine ⟨?_, ?_, ?_⟩ <;> decide +kernel

/-- Every clause of ControlActs is met: a call stack of seven and one of one, and repeat counts of 1 and 4,096. -/
theorem wit_ControlActs :
    (let s := core []; readyB s 3 && !(s.core 3).stopReq && !(s.core 3).susReq && !(s.core 3).stepping && s.spState 3 == 2) = true
    ∧ ((core []).spCond 3 8 == some true
      && ((coreWith (fun c => { c with stack := [1, 2, 3, 4, 5, 6, 7] })).core 3).stack.length == 7) = true
    ∧ (readyB (coreWith (fun c => { c with stack := [1, 2, 3, 4, 5, 6, 7] })) 3 && (core [(40, 1)]).spGet 3 40 == 1
      && (core [(40, 4096)]).spGet 3 40 == 4096) = true := by
  refine ⟨?_, ?_, ?_⟩ <;> decide +kernel

/-- R328 to R330: a branch waits two instructions; CALL and RET use the stack; LOOPNZ counts; RPT sets its count. -/
theorem test_control :
    (ans (.aspBr 3 100) (core []) (fun t => (t.core 3).br == some ⟨some 100, 2, false⟩ && t.rd (R.SP_PC_pc 3) == 1)) = true
    ∧ (ans (.aspBrcc 3 1 100) (core []) (fun t => (t.core 3).br == some ⟨none, 2, false⟩)) = true
    ∧ (ans (.aspCall 3 100) (core []) (fun t => (t.core 3).stack == [3])) = true
    ∧ (ans (.aspRet 3) (coreWith (fun c => { c with stack := [9] })) (fun t => (t.core 3).br == some ⟨some 9, 2, false⟩
      && (t.core 3).stack == [])) = true
    ∧ (ans (.aspReti 3) (core []) (fun t => (t.core 3).br == some ⟨none, 2, true⟩)) = true
    ∧ (ans (.aspLoopnz 3 100) (core [(40, 1)]) (fun t => (t.core 3).br == some ⟨none, 2, false⟩ && t.spGet 3 40 == 0)) = true
    ∧ (ans (.aspRpt 3 (some 4095)) (core []) (fun t => (t.core 3).rpt == some 4096)) = true
    ∧ (ans (.aspNop 3) (coreWith (fun c => { c with br := some ⟨some 100, 1, false⟩ })) (fun t => t.spState 3 == 4)) = true := by
  refine ⟨?_, ?_, ?_, ?_, ?_, ?_, ?_, ?_⟩ <;> decide +kernel

/-- R333, R335, R341: WAIT waits; EI and DI; SIG and HINT. -/
theorem test_modes :
    (ans (.aspWait 3) (core []) (fun t => t.spState 3 == 3)) = true
    ∧ (ans (.aspEi 3) (core []) (fun t => t.spGet 3 41 == 64)) = true
    ∧ (ans (.aspDi 3) (core [(41, 0x47)]) (fun t => t.spGet 3 41 == 7)) = true
    ∧ (ans (.aspSig 3 1) (core []) (fun t => t.evq == [(55, 0)])) = true
    ∧ (ans (.aspHint 3) (core []) (fun t => t.rd R.SP_HINT_hint == 8)) = true
    ∧ (ans (.aspNop 3) (core []) (fun t => t.rd (R.SP_PC_pc 3) == 1)) = true := by
  refine ⟨?_, ?_, ?_, ?_, ?_, ?_⟩ <;> decide +kernel

/-- Every clause of CoresFault is met. -/
theorem wit_CoresFault :
    (let s := coreWith (fun c => { c with br := some ⟨some 100, 1, false⟩ }); !s.off && s.spRuns 3 && (s.core 3).br.isSome) = true
    ∧ (let s := core []; s.spRuns 3 && (s.core 3).br.isNone && (s.core 3).rpt.isNone && (s.spCond 3 9).isNone
      && (s.core 3).stack == [] && s.spGet 3 40 == 0) = true
    ∧ (let s := coreWith (fun c => { c with stack := [1, 2, 3, 4, 5, 6, 7, 8] }); s.spRuns 3 && (s.core 3).stack.length == 8) = true
    ∧ ((List.range 8).any (fun k => ((core [(18, 0xFFFF)]).spAddr 3 ⟨2, Fin.ofNat 8 k⟩).isNone)
      && (core [(18, 0x4000)]).spAddr 3 atP2 == some (0x4000, none)) = true := by
  refine ⟨?_, ?_, ?_, ?_⟩ <;> decide +kernel

/-- Table 16-9: the codes. -/
theorem test_faults :
    (ans (.aspCall 3 100) (coreWith (fun c => { c with stack := [1, 2, 3, 4, 5, 6, 7, 8] })) (fun t => t.spState 3 == 4
      && t.rd (R.SP_STAT_fcode 3) == 6)) = true
    ∧ (ans (.aspRpt 3 none) (core []) (fun t => t.rd (R.SP_STAT_fcode 3) == 7)) = true
    ∧ (ans (.aspBrcc 3 9 100) (core []) (fun t => t.rd (R.SP_STAT_fcode 3) == 1)) = true
    ∧ (ans (.aspLoad 3 false atP2 1 noEcc) (core [(18, 0x4000)]) (fun t => t.rd (R.SP_STAT_fcode 3) == 3)) = true
    ∧ (ans (.aspLoad 3 false atP2 1 ⟨0, 2⟩) (core []) (fun t => t.rd (R.SP_STAT_fcode 3) == 5)) = true := by
  refine ⟨?_, ?_, ?_, ?_, ?_⟩ <;> decide +kernel

/-- Every clause of CoresRun is met. -/
theorem wit_CoresRun :
    (let s := (core [(41, 0x440)]).setCore 3 { (core [(41, 0x440)]).core 3 with hmsg := true }; !s.off && s.spState 3 == 2
      && (s.core 3).accepting && s.rd (R.SP_STAT_bank 3) == 0 && getBits (s.spView 3 5 41) 6 1 == 1
      && [1, 2, 3, 4].find? (fun i => getBits (s.spView 3 5 41) (6 + i) 1 = 1 && s.spPending 3 i) == some 4) = true
    ∧ (let s := coreWith (fun c => { c with ext := some ⟨false, 0x6300000000, 0, .aspNop 3⟩ }); (s.core 3).ext.isSome
      && !(s.wr R.XB_MRST_quiesced 0).quiesced 5) = true
    ∧ (let s := ((((core []).wr (R.SP_INCFGA_src 3 1) 2).wr (R.SP_OUTCFG_dst 5 2) 2).wr (R.SP_OUTCFG_idx 5 2) 3).wr (R.SP_OUTCFG_port 5 2) 1;
      s.spTakes 3 && s.rd (R.SP_INCFGA_src 3 1) == 2
      && (List.range 64).find? (fun x => s.rd (R.SP_OUTCFG_dst (x / 4) (x % 4)) = 2
      && s.rd (R.SP_OUTCFG_idx (x / 4) (x % 4)) = 3 && s.rd (R.SP_OUTCFG_port (x / 4) (x % 4)) = 1) == some 22) = true
    ∧ (let s := (core []).wr (R.SP_INCFGA_src 3 1) 1; s.spTakes 3 && s.rd (R.SP_INCFGA_src 3 1) == 1) = true
    ∧ (let s := st [(R.SP_STAT_state 3, 1)]; takesB s 1 (R.SP_CTL_run 3).a (force 0 (R.SP_CTL_run 3) 1) && s.spState 3 == 1
      && !(s.core 3).stepping && s.ck.eg == 0) = true
    ∧ (let s := core []; takesB s 1 (R.SP_CTL_run 3).a (force 0 (R.SP_CTL_run 3) 0) && (s.core 3).accepting) = true
    ∧ (let s := st [(R.SP_STAT_state 3, 1)]; takesB s 1 (R.SP_CTL_step 3).a (force 0 (R.SP_CTL_step 3) 1)) = true
    ∧ (takesB (st []) 1 (R.SP_CTL_rst 15).a (force 0 (R.SP_CTL_rst 15) 1) && takesB (st []) 1 (R.SP_HMSG 15) 5) = true := by
  refine ⟨?_, ?_, ?_, ?_, ?_, ?_, ?_, ?_⟩ <;> decide +kernel

/-- R333, R341, R343: an interrupt is accepted; a core runs, stops, steps and is reset; a host message waits. -/
theorem test_cores :
    (ans (.interruptAccept 3) ((core [(41, 0x440)]).setCore 3 { (core [(41, 0x440)]).core 3 with hmsg := true }) (fun t => t.rd (R.SP_PC_pc 3) == 16
      && t.rd (R.SP_STAT_bank 3) == 1)) = true
    ∧ (ans (.aspRun 1 3 1) (st [(R.SP_STAT_state 3, 1)]) (fun t => t.spState 3 == 2)) = true
    ∧ (ans (.aspStop 1 3 0) (core []) (fun t => t.spState 3 == 1)) = true
    ∧ (ans (.aspStep 1 3 8) (st [(R.SP_STAT_state 3, 1)]) (fun t => (t.core 3).stepping)) = true
    ∧ (ans (.aspReset 1 3 4) (core []) (fun t => t.spState 3 == 0 && t.quiesced 5)) = true
    ∧ (ans (.hostMessage 1 15 5) (st []) (fun t => (t.core 15).hmsg)) = true
    ∧ (ans (.aspStreamDelivery 3 1) (let s := ((((core []).wr (R.SP_INCFGA_src 3 1) 2).wr (R.SP_OUTCFG_dst 5 2) 2).wr (R.SP_OUTCFG_idx 5 2) 3).wr (R.SP_OUTCFG_port 5 2) 1;
      s.setCore 5 { s.core 5 with outQ := [(2, [7])] }) (fun t => smapGet [] (t.core 3).inQ 1 == [7])) = true := by
  refine ⟨?_, ?_, ?_, ?_, ?_, ?_, ?_⟩ <;> decide +kernel

/-! ## The listening post -/

/-- The listening post is on. -/
def listening : State := st [(R.AU_CTL_en, 1)]

/-- Every clause of AudioRuns is met; the buffer that is full is in wit_audio_full. -/
theorem wit_AudioRuns :
    (let s := st []; !s.off && !(s.on R.AU_CTL_en && s.hasBeam)) = true
    ∧ (let s := { listening with au := { listening.au with blk := 3, onRef := true, status := [1] } }.wr R.AU_CTL_clk 1;
      s.on R.AU_CTL_en && s.hasBeam && s.auInstant.2 == 3 && s.auInstant.1.au.status == [1]) = true
    ∧ (let s := { listening with au := { listening.au with blk := 0, onRef := true } }.wr R.AU_CTL_clk 1; s.on R.AU_CTL_en
      && s.hasBeam && s.auInstant.2 == 0) = true
    ∧ (let s := st [(R.AU_CHCFG_src 15, 2)]; s.rd (R.AU_CHCFG_src 15) == 2 && !s.on R.AU_CTL_en && !smapGet false s.au.flush 15
      && decide (s.auFill 15 < 16384)) = true
    ∧ (let s := (st [(R.SP_OUTCFG_dst 5 2, 1), (R.SP_OUTCFG_idx 5 2, 15)]);
      let s := s.setCore 5 { s.core 5 with outQ := [(2, [7])] }; s.auPort 15 == some 22
      && smapGet [] (s.core (22 / 4)).outQ (22 % 4) == [7] && s.rd (R.AU_CHCFG_src 15) != 1) = true
    ∧ (let s := st []; takesB s 1 R.AU_CTL_clk.a 4 && (s.landed 1 R.AU_CTL_clk.a 4).on R.AU_CTL_clk != s.on R.AU_CTL_clk) = true
    ∧ (let s := st [(R.AU_STATUS_ref_state, 1)]; s.rd R.AU_STATUS_ref_state == 1
      && decide ((50000 : Int).natAbs ≤ s.rd R.AU_REFCTL_range_ppm * 1000)
      && decide (s.rd R.AU_REFCTL_range_ppm * 1000 < (-50001 : Int).natAbs)) = true
    ∧ (let s := { st [(R.AU_STATUS_ref_state, 1)] with au := { (st []).au with inRange := true } }; s.rd R.AU_STATUS_ref_state == 1
      && s.au.inRange) = true
    ∧ ((st [(R.AU_STATUS_ref_state, 2)]).rd R.AU_STATUS_ref_state == 2) = true := by
  refine ⟨?_, ?_, ?_, ?_, ?_, ?_, ?_, ?_, ?_⟩ <;> decide +kernel

/-- R345, R349, R353: a word joins its buffer; the reference is measured, locked and lost. -/
theorem test_audio :
    (ans (.bufferWordAppend 15 (some 9)) (st [(R.AU_CHCFG_src 15, 2)]) (fun t => smapGet [] t.au.queue 15 == [9])) = true
    ∧ (ans (.aes3RefMeasure (-50001)) (st [(R.AU_STATUS_ref_state, 1)]) (fun t => t.rd R.AU_STATUS_ref_state == 3)) = true
    ∧ (ans .aes3RefLock { st [(R.AU_STATUS_ref_state, 1)] with au := { (st []).au with inRange := true } } (fun t => t.rd R.AU_STATUS_ref_state == 2
      && t.au.onRef)) = true
    ∧ (ans .aes3RefLoss (st [(R.AU_STATUS_ref_state, 2)]) (fun t => t.rd R.AU_STATUS_ref_state == 1 && t.on R.AU_STATUS_ref_lost)) = true
    ∧ (ans (.audioClockSelect 1 4) (st []) (fun t => t.on R.AU_CTL_clk)) = true
    ∧ (ans .aes3Frame ({ listening with au := { listening.au with blk := 3, onRef := true, status := [1] } }.wr R.AU_CTL_clk 1) (fun t => t.out.length == 8)) = true := by
  refine ⟨?_, ?_, ?_, ?_, ?_, ?_⟩ <;> decide +kernel

/-- Buffer 15 holds n words, and its channel's source is an ASP. -/
def buffered (n : Nat) : State :=
  let s := st [(R.AU_CHCFG_src 15, 2)]
  { s with au := { s.au with queue := [(15, List.replicate n 0)] } }

theorem buffered_fill (n : Nat) : (buffered n).auFill 15 = n := by
  simp [State.auFill, buffered, smapGet, smapFind]

/-- The premises of the overrun's clause of AudioRuns. -/
theorem wit_audio_full : (buffered 16384).off = false ∧ (buffered 16384).rd (R.AU_CHCFG_src 15) = 2
    ∧ (buffered 16384).on R.AU_CTL_en = false ∧ smapGet false (buffered 16384).au.flush 15 = false
    ∧ 16384 ≤ (buffered 16384).auFill 15 :=
  ⟨by decide +kernel, by decide +kernel, by decide +kernel, by decide +kernel, (buffered_fill 16384).ge⟩

/-! ## Opening and resets -/

/-- An Opening that finds everything in order but no configuration. -/
def fair : Opening := ⟨false, 0, false, true, 4096, true, 7, 0xFF, [], [], true, 500⟩

/-- An adjourned device with a load record. -/
def asleep (record : List Nat) : State :=
  let s := st [(R.MG_STATUS_adjourned, 1)]
  { s with cf := { s.cf with record := record } }

/-- A wake-up that finds everything kept, or not. -/
def waking (images : Bool) : Wake := ⟨1, images, true, [40, 40, 40, 40, 40, 40, 40, 40], 200⟩

/-- Every clause of OpeningRuns is met: a wake time that has just come, the widest link, and a region in use. -/
theorem wit_OpeningRuns :
    (let s := st []; !s.tooHot && (List.range 4).all (fun k => s.slotState k != 3)) = true
    ∧ ({ fair with bootSpi := true, fwBytes := 8388609 }.bootSpi && decide (8388608 < 8388609) && decide (fair.fwBytes ≤ 8388608)
      && !{ fair with fwOk := false }.fwOk) = true
    ∧ (let s := st []; s.mg.vin && !s.tooHot && { fair with resetLow := true }.resetLow) = true
    ∧ (let s := (st [(R.MG_STATUS_step, 1)]); let s := { s with mg := { s.mg with resetLow := true, vin := true, xo := false } };
      s.mg.resetLow && s.mg.vin && s.rd R.MG_STATUS_step == 1 && !s.mg.xo) = true
    ∧ (let s := st [(R.MG_CTL_wd_en, 1)]; !s.off && writableB s 19 R.MG_RRST_rst.a && s.on R.MG_CTL_wd_en) = true
    ∧ (!(st [(R.IN_CTL_en, 1)]).regionIdle 0 && !(st [(R.AU_CTL_en, 1)]).regionIdle 6) = true
    ∧ (takesB (st []) 1 R.MG_WDOG_kick.a (force 1000 R.MG_WDOG_kick 0x5A)) = true
    ∧ (let s := st [(R.MG_CTL_wd_en, 1)]; takesB s 1 R.MG_CTL_pm_confirm.a (BitVec.ofNat 32 (2 + s.rd R.MG_CTL_wd_en))) = true
    ∧ (let s := asleep []; s.mg.vin && s.on R.MG_STATUS_adjourned && s.cf.record == []) = true
    ∧ (let s := asleep [3]; s.mg.vin && s.on R.MG_STATUS_adjourned && s.cf.record != []) = true
    ∧ (!(st []).on R.MG_STATUS_adjourned) = true
    ∧ (let s := (asleep []).wq R.MG_WAKETIME (2 ^ 63 + 1); let s := { s with tb := { s.tb with t := 1000000000 * nsUnit } };
      s.rq R.MG_WAKETIME / 2 ^ 63 == 1 && s.on R.MG_STATUS_adjourned
      && decide ((s.rq R.MG_WAKETIME % 2 ^ 48) * 1000000000 * nsUnit ≤ s.tb.t)) = true
    ∧ (!(st []).off && decide (15 < 16) && decide (63 < 64)) = true := by
  refine ⟨?_, ?_, ?_, ?_, ?_, ?_, ?_, ?_, ?_, ?_, ?_, ?_, ?_⟩ <;> decide +kernel

/-- R378 to R380, R383: where Opening stops; what a reset keeps and records. -/
theorem test_opening :
    (ans (.powerOn fair) (st []) (fun t => t.rd R.MG_STATUS_step == 7 && t.on R.MG_STATUS_noconf
      && (t.word R.TOP_FW_ver.a).toNat == 7)) = true
    ∧ (ans (.powerOn { fair with xo := false }) (st []) (fun t => t.rd R.MG_STATUS_step == 3 && t.on R.MG_STATUS_xo_wait)) = true
    ∧ (ans (.powerOn { fair with fwOk := false }) (st []) (fun t => t.rd R.MG_STATUS_step == 4 && t.on R.MG_STATUS_fw_fail)) = true
    ∧ (ans (.powerOn { fair with bootSpi := true, fwBytes := 8388609 }) (st []) (fun t => t.rd R.MG_STATUS_step == 4
      && t.out.contains (.spiRead 0x6C 0 8388608))) = true
    ∧ (ans (.resetNAssert { fair with resetLow := true }) (st [(R.IG_STATUS_hstate, 2)]) (fun t => t.rd R.MG_STATUS_step == 1
      && t.on R.MG_RSTCAUSE_reset_n && t.rd R.IG_LAST_last_hstate == 2)) = true
    ∧ ((match exec (.resetNAssert { fair with resetLow := true }) (st []) with | .next t => ans .resetNRelease t (fun u => u.rd R.MG_STATUS_step == 7) | _ => false)) = true
    ∧ (ans .powerLoss (st []) (fun t => t.off)) = true := by
  refine ⟨?_, ?_, ?_, ?_, ?_, ?_, ?_⟩ <;> decide +kernel

/-- R383 to R385: a region in use refuses its reset; the masters' resets; the watchdog. -/
theorem test_resets :
    (ans (.regionReset 1 1) (st [(R.IN_CTL_en, 1)]) (fun t => t.on R.MG_STATUS_rst_ref && t.on R.IN_CTL_en)) = true
    ∧ (ans (.regionReset 1 2) (st [(R.AL_WIN_win_us, 900)]) (fun t => !t.on R.MG_STATUS_rst_ref && t.rd R.AL_WIN_win_us == 500)) = true
    ∧ (ans (.pcieReset true ⟨5, 16⟩) (st [(R.PE_LINK_width, 16)]) (fun t => t.quiesced 0 && t.rd R.PE_LINK_width == 0)) = true
    ∧ (ans (.perstNRelease ⟨5, 16⟩) (st []) (fun t => !t.quiesced 0 && t.rd R.PE_LINK_width == 16 && t.rd R.PE_LINK_speed == 5)) = true
    ∧ (ans .functionLevelReset ((st []).wq R.PE_WIN 0x40000000) (fun t => t.rq R.PE_WIN == 0 && !t.quiesced 18)) = true
    ∧ (ans (.pairMapConfirm 1) (st [(R.MG_STATUS_pm_unv, 1)]) (fun t => !t.on R.MG_STATUS_pm_unv)) = true := by
  refine ⟨?_, ?_, ?_, ?_, ?_, ?_⟩ <;> decide +kernel

/-- R386, R388: a wake-up ends at Ready, or at step 7 when the images do not load. -/
theorem test_wakes :
    (ans (.wakePin (waking true)) (asleep []) (fun t => t.on R.MG_STATUS_ready && t.rd R.MG_STATUS_step == 9
      && !t.on R.MG_STATUS_adjourned)) = true
    ∧ (ans (.wakePin (waking false)) (asleep [3]) (fun t => t.rd R.MG_STATUS_step == 7 && t.rd R.CF_STATUS_cfg_state == 3)) = true
    ∧ (ans (.wakePin (waking true)) (st []) (fun t => !t.on R.MG_STATUS_ready)) = true := by
  refine ⟨?_, ?_, ?_⟩ <;> decide +kernel

/-! ## Electrical -/

/-- The SMBus target answers, with its offset set. -/
def bus (l : List (FRef × Nat)) (off : Nat) : State :=
  let s := st ((R.MG_STATUS_step, 9) :: l)
  { s with io := { s.io with smbOff := off } }

/-- All sensors at a temperature in steps of 0.125 °C. -/
def warm (t : Int) : List Int := List.replicate 64 t

/-- Every clause of ElectricalRuns is met, at the limits of VIN, of the rails and of the temperature. -/
theorem wit_ElectricalRuns :
    ((st []).mg.vin && decide (10699 < 10700) && decide (10800 ≤ 65535) && decide (13800 < 13801)) = true
    ∧ ((st []).railOut 1 973 900 && (st []).railOut 1 900 901 && (st []).railOut 4 800 21) = true
    ∧ (!(st []).railOut 1 972 900 && !(st []).railOut 3 736 500) = true
    ∧ (let s := (bus [] 0).noteTemps (warm 880); !s.off && decide (2 ≤ s.rd R.MG_STATUS_step) && decide (110 * 8 ≤ s.tj)) = true
    ∧ (let s := (bus [] 0).noteTemps (warm 839); !s.off && decide (2 ≤ s.rd R.MG_STATUS_step) && decide (s.tj < 105 * 8)) = true
    ∧ (let s := bus [] 0x15000FC; s.mg.vin && decide (1 ≤ s.rd R.MG_STATUS_step) && s.smbReads s.io.smbOff
      && decide (leNat [0xFF, 0xFF, 0xFF, 0x0F] < 2 ^ 28)) = true
    ∧ (!(bus [] 0x100000).smbReads 0x100000 && !(bus [] 0x15000FD).smbReads 0x15000FD) = true
    ∧ (let s := bus [(R.XB_CSRSEC_blk, 0)] 0x15000FC; s.io.smbOff / 0x100000 == 0x15 && s.io.smbOff % 4 == 0
      && !(s.rd R.XB_CSRSEC_blk).testBit 0x15) = true
    ∧ ((bus [] 0x100000).io.smbOff / 0x100000 != 0x15) = true
    ∧ ((bus [(R.MG_STATUS_adjourned, 1)] 0).on R.MG_STATUS_adjourned && !(bus [] 0).on R.MG_STATUS_adjourned) = true
    ∧ (let s := bus [(R.MG_STATUS_fw_fail, 1)] 0; s.on R.MG_STATUS_fw_fail && decide (1 ≤ [0x5A].length)
      && decide ((List.replicate 32 0x5A).length ≤ 32)) = true
    ∧ (let s := bus [] 0; let s := { s with io := { s.io with alert := true } }; s.io.alert && decide (1 ≤ s.rd R.MG_STATUS_step)) = true
    ∧ (let s := bus [] 0; let s := { s with mg := { s.mg with resetLow := true } }; s.mg.vin && s.mg.resetLow
      && !(bus [] 0).mg.resetLow) = true := by
  refine ⟨?_, ?_, ?_, ?_, ?_, ?_, ?_, ?_, ?_, ?_, ?_, ?_, ?_⟩ <;> decide +kernel

/-- R392, R395, R406: a low VIN and its return; the shutdowns by voltage, current and temperature. -/
theorem test_power :
    (ans (.vinLow 10500 2000) (bus [] 0) (fun t => t.on R.IO_STATUS_vin_low && t.on R.IO_STATUS_vin_low_ev
      && t.rd R.IO_VIN_vin == 10500)) = true
    ∧ (ans (.vinRecover 10800 2000) (bus [(R.IO_STATUS_vin_low, 1), (R.IO_STATUS_vin_low_ev, 1)] 0) (fun t => !t.on R.IO_STATUS_vin_low
      && t.on R.IO_STATUS_vin_low_ev)) = true
    ∧ (ans (.overvoltage 13801 0) (bus [] 0) (fun t => t.rd R.IG_STATUS_hstate == 4)
      && ans (.overvoltage 13800 0) (bus [] 0) (fun t => t.rd R.IG_STATUS_hstate == 0)) = true
    ∧ (ans (.regulatorExcursion 1 973 0) (bus [] 0) (fun t => t.rd R.IG_STATUS_hstate == 4)) = true
    ∧ (ans (.regulatorExcursion 1 972 899) (bus [] 0) (fun t => t.rd R.IG_STATUS_hstate == 0 && t.rd (R.IO_RAIL_amps 1) == 899)) = true
    ∧ (ans (.thermalSensorUpdate (warm 880)) (bus [] 0) (fun t => t.rd R.IG_STATUS_hstate == 4)) = true
    ∧ (ans (.thermalSensorUpdate (warm 840)) (bus [] 0) (fun t => t.rd R.IG_STATUS_hstate != 4 && t.cause 2)) = true
    ∧ (ans (.thermalSensorUpdate ((warm 400).set 63 401)) (bus [] 0) (fun t => t.rd R.IO_TJ_sensor == 63 && t.tj == 401)) = true := by
  refine ⟨?_, ?_, ?_, ?_, ?_, ?_, ?_, ?_⟩ <;> decide +kernel

/-- R401: the offset, a refused access, a wrong PEC, an appended image, the alert response. -/
theorem test_smbus :
    (ans (.smbusSetOffset true [0xFC, 0, 0x50, 1]) (bus [] 0) (fun t => t.io.smbOff == 0x15000FC)) = true
    ∧ (ans (.smbusRead true) (bus [] 0x100000) (fun t => t.on R.IO_STATUS_smb_ref && t.out.getLast? == some (.smbus [0, 0, 0, 0])
      && t.io.smbOff == 0x100004)) = true
    ∧ (ans (.smbusRead true) (bus [] 0xFFFFFFC) (fun t => t.io.smbOff == 0)) = true
    ∧ (ans (.smbusWrite true [1, 0, 0, 0]) (bus [] 0x800000) (fun t => t.on R.IO_STATUS_smb_ref && t.io.smbOff == 0x800004)) = true
    ∧ (ans (.smbusWrite false [1, 0, 0, 0]) (bus [] 0x800000) (fun t => !t.on R.IO_STATUS_smb_ref && t.io.smbOff == 0x800000
      && t.out == [.smbusNak])) = true
    ∧ (ans (.smbusFirmwareAppend true [7] none) (bus [(R.MG_STATUS_fw_fail, 1)] 0) (fun t => t.mg.image == [7]
      && t.on R.MG_STATUS_fw_fail)) = true
    ∧ (ans .smbusAlertResponse (let s := bus [] 0; { s with io := { s.io with alert := true } }) (fun t => !t.io.alert)) = true := by
  refine ⟨?_, ?_, ?_, ?_, ?_, ?_, ?_⟩ <;> decide +kernel

/-- R403: SAMPLE preloads; EXTEST drives the balls only while RESET_N is low; TRST_N selects IDCODE. -/
theorem test_testAccess :
    (ans (.jtagSamplePreload 5 9) (bus [] 0) (fun t => t.io.ir == .sample && t.io.boundary == 9 && t.out == [.jtag "BOUNDARY" 5])) = true
    ∧ (ans (.jtagExtest 5 9) (bus [] 0) (fun t => t.io.ir == .bypass && t.io.boundary == 0)) = true
    ∧ (ans (.jtagExtest 5 9) (let s := bus [] 0; { s with mg := { s.mg with resetLow := true } }) (fun t => t.io.ir == .extest
      && t.io.boundary == 9)) = true
    ∧ (ans .testLogicReset (let s := bus [] 0; { s with io := { s.io with ir := .clamp } }) (fun t => t.io.ir == .idcode)) = true := by
  refine ⟨?_, ?_, ?_, ?_⟩ <;> decide +kernel

/-! ## The block -/

/-- The part with four stacks. -/
def small : State := { st [(R.HM_STK_state 3, 2)] with part := .m }

/-- The clauses of SmallPartEnds are met at both ends of the range. -/
theorem wit_SmallPartEnds :
    (small.part == .m && !small.off && !small.quiesced 2 && decide (0x3000000000 ≤ (0x3000000000 : BitVec 40).toNat)
      && decide ((0x5FFFFFFFFF : BitVec 40).toNat < 0x6000000000)) = true := by
  decide +kernel

/-- R3: a write above the part's HBM answers with an error; one below it is stored. -/
theorem test_smallPart :
    (ans (.crossbarBurst 1 0 0x3000000000 ⟨.write [some 7], false⟩) small (fun t => t.resp.error && t.mem == [])) = true
    ∧ (ans (.crossbarBurst 1 0 0x2FFFFFFFFF ⟨.write [some 7], false⟩) small (fun t => !t.resp.error
      && t.mem == [(0x2FFFFFFFFF, 7)])) = true := by
  refine ⟨?_, ?_⟩ <;> decide +kernel

/-- Every clause of WindowMoves is met: the last base that fits the part, the next one, and the last byte of BAR2. -/
theorem wit_WindowMoves :
    (writableB (st []) 1 R.PE_WIN && writableB (st []) 1 (R.PE_WIN + 4) && (st []).hbmSize == 0x6000000000
      && small.hbmSize == 0x3000000000) = true
    ∧ ((0x5000000000 : BitVec 64).toNat % 2 ^ 30 == 0 && decide ((0x5000000000 : BitVec 64).toNat + 2 ^ 36 ≤ (st []).hbmSize)
      && !decide ((0x5040000000 : BitVec 64).toNat + 2 ^ 36 ≤ (st []).hbmSize)) = true
    ∧ (!(st []).quiesced 0 && decide ((0xFFFFFFFFF : BitVec 36).toNat + opLen (.read 1) ≤ 0x1000000000)) = true := by
  refine ⟨?_, ?_, ?_⟩ <;> decide +kernel

/-- R306: the last base is accepted and the next one refused. -/
theorem test_window :
    (ans (.peWinWrite 1 0x5000000000) (st []) (fun t => t.rq R.PE_WIN == 0x5000000000 && !t.on R.PE_ERR_win)) = true
    ∧ (ans (.peWinWrite 1 0x5040000000) (st []) (fun t => t.rq R.PE_WIN == 0 && t.on R.PE_ERR_win)) = true
    ∧ (ans (.peWinWrite 1 0x20000000) (st []) (fun t => t.rq R.PE_WIN == 0 && t.on R.PE_ERR_win)) = true
    ∧ (ans (.pcieRequest .bar2 5 (.write [some 9])) ((st [(R.HM_STK_state 0, 2), (R.MG_STATUS_ready, 1)]).wq R.PE_WIN 0x40000000) (fun t => t.mem == [(0x40000005, 9)])) = true := by
  refine ⟨?_, ?_, ?_, ?_⟩ <;> decide +kernel

/-- R31: the check value of the CRC, and sequence numbers that wrap. -/
theorem test_cellNumbers :
    (crc8 [0x31, 0x32, 0x33, 0x34, 0x35, 0x36, 0x37, 0x38, 0x39] == 0xF4) = true
    ∧ ((((st []).setUlp 3 { (st []).ulp 3 with txSeq := 254 }).sendPacket 3 (List.replicate 600 1)).out.map (fun o => match o with
      | .cell p _ bs => (p, byteAt bs 0, byteAt bs 2, bs.length)
      | _ => (99, 0, 0, 0)) == [(99, 0, 0, 0), (3, 2, 255, 256), (3, 3, 0, 256), (3, 4, 1, 256)]) = true := by
  refine ⟨?_, ?_⟩ <;> decide +kernel

/-- An empty queue, a waiting command, and a state whose memories have their form. -/
theorem wit_block :
    ((st []).pending == [] && { st [] with pending := [.roundBoundary] }.pending == [.roundBoundary]) = true := by
  decide +kernel

/-- Log entries 1 and 2: the front command runs and leaves the queue; on an empty queue one tick passes. -/
theorem test_step :
    ((match step { st [] with pending := [.jtagBypass, .jtagIdcode] } with | .next t => t.pending == [.jtagIdcode] && t.io.ir == .bypass | _ => false)) = true
    ∧ ((match step (st [(R.MG_STATUS_step, 3)]) with | .next t => t.tb.t != (st []).tb.t && t.pending == [] | _ => false)) = true := by
  refine ⟨?_, ?_⟩ <;> decide +kernel

/-- The state after reset meets the premise of MemoryKept. -/
theorem wit_MemoryKept : State.reset.memOk := by
  unfold State.memOk
  decide

end Sys2Proof.Tests
end

section
/-! Registers written: the checks of an access, what the access codes leave, and the two halves of a pair
(R16 to R19, R296 to R299, R303, R407, R408). -/

namespace Sys2Proof.Machine

/-! ## Commands while the core is on -/

/-- While the core is on, a command does what its meaning says. -/
theorem State.does_on (s : State) (h : s.off = false) (f : State → State) : s.does f = .next (f s) := by
  simp only [State.does, h, Bool.false_eq_true, if_false]

section
variable {s : State} (h : s.off = false) (m : Fin 20) (a : BitVec 28) (v : Word)
include h

theorem exec_registerWrite : exec (.registerWrite m a v) s = .next (s.writeWord m a.toNat v) :=
  s.does_on h fun s => s.writeWord m a.toNat v

theorem exec_pairLoWrite : exec (.pairLoWrite m a v) s = .next (s.writeWord m a.toNat v) :=
  s.does_on h fun s => s.writeWord m a.toNat v

theorem exec_pairHiWrite : exec (.pairHiWrite m a v) s = .next (s.writeWord m a.toNat v) :=
  s.does_on h fun s => s.writeWord m a.toNat v

theorem exec_pairLoRead : exec (.pairLoRead m a) s = .next (s.readWord m a.toNat) :=
  s.does_on h fun s => s.readWord m a.toNat

theorem exec_counterRead : exec (.counterRead m a) s = .next (s.readWord m a.toNat) :=
  s.does_on h fun s => s.readWord m a.toNat

theorem exec_snapshotRead : exec (.snapshotRead m a) s = .next (s.readWord m a.toNat) :=
  s.does_on h fun s => s.readWord m a.toNat

end

/-! ## Accesses that are denied, and writes that reach the CSR space -/

theorem writeWord_denied {s t : State} {m a : Nat} (v : Word) (h : s.csrDenied m a true = some t) :
    s.writeWord m a v = t := by
  simp only [State.writeWord, h]

theorem readWord_denied {s t : State} {m a : Nat} (h : s.csrDenied m a false = some t) : s.readWord m a = t := by
  simp only [State.readWord, h]

/-- A write that no check denies, of anything but MG_RRST, is a write of a word of the CSR space. -/
theorem writeWord_reaches {s : State} {m a : Nat} (v : Word) (h : s.csrDenied m a true = none)
    (hr : a ≠ R.MG_RRST_rst.a) : s.writeWord m a v = (s.csrCore m false a v).okResp [] := by
  simp only [State.writeWord, h, State.csrWrite, if_neg hr]

theorem readWord_reaches {s : State} {m a : Nat} (h : s.csrDenied m a false = none) :
    s.readWord m a = (s.csrRead m a).1.okResp (leBytes 4 (s.csrRead m a).2.toNat) := by
  simp only [State.readWord, h]

/-! ### The checks, in the order in which they are made -/

section
variable {s : State} {m a : Nat} (w : Bool)

theorem csrDenied_quiesced (hq : s.quiesced m = true) : s.csrDenied m a w = some s := by
  simp only [State.csrDenied, hq, if_true]

theorem csrDenied_noPath (hq : s.quiesced m = false) (hp : hasPath m 1 = false) :
    s.csrDenied m a w = some ((s.xbViol 1 m 1 w (csrAddr a)).failTo m) := by
  simp only [State.csrDenied, hq, hp, Bool.not_false, Bool.false_eq_true, if_false, if_true]

theorem csrDenied_unaligned (hq : s.quiesced m = false) (hp : hasPath m 1 = true) (ha : a % 4 ≠ 0) :
    s.csrDenied m a w = some ((s.xbViol 4 m 1 w (csrAddr a)).failTo m) := by
  simp only [State.csrDenied, hq, hp, Bool.not_true, Bool.false_eq_true, if_false, if_pos ha]

theorem csrDenied_hostEarly (hq : s.quiesced 0 = false) (ha : a % 4 = 0) (hr : s.hostReach a = false) :
    s.csrDenied 0 a w = some (s.failTo 0) := by
  have hp : hasPath 0 1 = true := by decide
  simp only [State.csrDenied, hq, hp, ha, hr, Bool.not_true, Bool.not_false, Bool.false_eq_true, if_false, ne_eq,
    not_true_eq_false, decide_true, Bool.and_self, if_true]

theorem csrDenied_nonSecure (hq : s.quiesced m = false) (hp : hasPath m 1 = true) (ha : a % 4 = 0)
    (hr : m = 0 → s.hostReach a = true) (hs : s.secure m 0 = false)
    (hb : (s.rd R.XB_CSRSEC_blk).testBit (a / 0x100000) = true) :
    s.csrDenied m a true = some ((s.xbViol 2 m 1 true (csrAddr a)).failTo m) := by
  have hh : (decide (m = 0) && !s.hostReach a) = false := by
    by_cases hm : m = 0
    · simp [hr hm]
    · simp [hm]
  simp only [State.csrDenied, hq, hp, ha, hh, hs, hb, Bool.not_true, Bool.not_false, Bool.false_eq_true, if_false, ne_eq,
    not_true_eq_false, Bool.and_self, if_true]

end

/-! ## Writes of a word of the CSR space that change no register -/

theorem csrCore_nowhere {s : State} {a : Nat} (m : Nat) (load : Bool) (v : Word) (hl : locate a = none) :
    s.csrCore m load a v = s := by
  simp only [State.csrCore, hl]

/-- A region without a configuration takes no write but a load's (R367). -/
theorem csrCore_unusable {s : State} {a : Nat} (m : Nat) (v : Word) (hu : s.unusable a = true) :
    s.csrCore m false a v = s := by
  unfold State.csrCore
  cases locate a with
  | none => rfl
  | some l => simp [hu]

/-- A pending region load holds a 32-bit register off every master but the Arbiter (R372). -/
theorem csrCore_held {s : State} {m a : Nat} (v : Word) {l : Loc} (hl : locate a = some l) (hp : l.reg.pair = false)
    (hab : s.absent a l = false) (hu : s.unusable a = false) (hm : m ≠ 1) (hh : s.held a false = true) :
    s.csrCore m false a v = s.flag R.CF_STATUS_wr_held := by
  have hhi := locate_hi hl hp
  have hm' : (m != 1) = true := by simpa using hm
  simp only [State.csrCore, hl, hab, hp, hhi, hu, hh, hm', Bool.and_false, Bool.or_false, Bool.and_true,
    Bool.not_false, Bool.false_eq_true, if_false, if_true]

/-! ## The two halves of a pair (R18) -/

/-- MG_RRST is a register of 32 bits. -/
theorem pair_ne_rrst {a : Nat} {l : Loc} (hl : locate a = some l) (hp : l.reg.pair = true) : a ≠ R.MG_RRST_rst.a := by
  have hr : ∀ k, locate R.MG_RRST_rst.a = some k → k.reg.pair = false := by decide
  rintro rfl
  simp [hr l hl] at hp

theorem csrCore_lo {s : State} {a : Nat} (m : Nat) (v : Word) {l : Loc} (hl : locate a = some l)
    (hp : l.reg.pair = true) (hh : l.hi = false) (hab : s.absent a l = false) (hu : s.unusable a = false) :
    s.csrCore m false a v = s.setLatch m { s.latchOf m with wr := some (a, v) } := by
  simp only [State.csrCore, hl, hab, hu, hp, hh, Bool.and_false, Bool.or_false, Bool.not_false, Bool.and_self,
    Bool.false_eq_true, if_false, if_true]

/-- The half that a master's latch holds for the pair at an address: 0 when it holds none of that pair. -/
def Latch.loFor (x : Latch) (base : Nat) : Nat :=
  match x.wr with
  | some (b, lo) => if b = base then lo.toNat else 0
  | none => 0

theorem Latch.loFor_held {x : Latch} {base : Nat} {lo : Word} (h : x.wr = some (base, lo)) : x.loFor base = lo.toNat := by
  simp only [Latch.loFor, h, if_true]

theorem Latch.loFor_other {x : Latch} {base : Nat} (h : ∀ lo, x.wr ≠ some (base, lo)) : x.loFor base = 0 := by
  unfold Latch.loFor
  split
  · next b lo hw =>
    have hb : b ≠ base := by
      rintro rfl
      exact h lo hw
    simp only [if_neg hb]
  · rfl

theorem csrCore_hi {s : State} {a : Nat} (m : Nat) (v : Word) {l : Loc} (hl : locate a = some l)
    (hp : l.reg.pair = true) (hh : l.hi = true) (hab : s.absent a l = false) (hu : s.unusable a = false)
    (hc : s.cf.pending = none) :
    s.csrCore m false a v = (s.setLatch m { s.latchOf m with wr := none }).regWrite m false l a (a - 4)
      ((s.latchOf m).loFor (a - 4) + v.toNat * 2 ^ 32) := by
  have hc' : (s.setLatch m { s.latchOf m with wr := none }).cf.pending = none := hc
  simp only [State.csrCore, hl, hab, hu, hp, hh, held_none hc', Bool.and_false, Bool.or_false, Bool.not_true,
    Bool.false_eq_true, if_false, if_true]
  rfl

theorem State.latchOf_setLatch_ne (s : State) {m k : Nat} (x : Latch) (h : k ≠ m) :
    (s.setLatch m x).latchOf k = s.latchOf k :=
  smapGet_set_ne _ _ _ _ h

/-- Settles O36: the _LO half only waits in its master's latch; the _HI half takes what waits there for its own pair. -/
theorem pairsWritten : Obligations.PairsWritten := by
  unfold Obligations.PairsWritten
  intro s m a v l hw hl hp hab
  obtain ⟨hoff, hd, hc, hu⟩ := hw
  have hr := pair_ne_rrst hl hp
  refine ⟨fun hh => ?_, fun lo hh hlo => ?_, fun hh hno => ?_, fun x k hk => s.latchOf_setLatch_ne x hk⟩
  · rw [exec_pairLoWrite hoff, writeWord_reaches v hd hr, csrCore_lo m v hl hp hh hab hu]
  · rw [exec_pairHiWrite hoff, writeWord_reaches v hd hr, csrCore_hi m v hl hp hh hab hu hc, Latch.loFor_held hlo]
  · rw [exec_pairHiWrite hoff, writeWord_reaches v hd hr, csrCore_hi m v hl hp hh hab hu hc, Latch.loFor_other hno,
      Nat.zero_add]

/-! ## What the access codes leave (R16, Table 0-7) -/

theorem without_testBit (x mask i : Nat) : (without x mask).testBit i = (x.testBit i && !mask.testBit i) := by
  unfold without
  rw [Nat.testBit_xor, Nat.testBit_and]
  cases x.testBit i <;> cases mask.testBit i <;> rfl

theorem blend_testBit (x y mask i : Nat) :
    (blend x y mask).testBit i = if mask.testBit i then y.testBit i else x.testBit i := by
  unfold blend
  rw [Nat.testBit_or, Nat.testBit_and, without_testBit]
  cases mask.testBit i <;> simp

theorem blend_zero (x y : Nat) : blend x y 0 = x :=
  Nat.eq_of_testBit_eq fun i => by simp [blend_testBit]

theorem hard_of_noFixedBits {s : State} {l : Loc} (h : s.fixedBits l = (0, 0)) (v : Nat) : s.hard l v = v := by
  rw [State.hard, h, blend_zero]

/-- Settles O35: with nothing guarded and nothing fixed, `merged` is three masks, read bit by bit. -/
theorem accessCodesMerge : Obligations.AccessCodesMerge := by
  unfold Obligations.AccessCodesMerge
  intro s m load l old raw i hg hf
  have hg' : (if load then 0 else (s.guards l).1) = 0 := by
    rcases hg with rfl | hg
    · rfl
    · rw [hg, ite_self]
  unfold State.merged
  simp only [hg', hard_of_noFixedBits hf, blend_zero, Nat.testBit_or, Nat.testBit_and, without_testBit, blend_testBit]

/-! ## A write of a 32-bit register (R16 to R18, R407, R408) -/

/-- The state after the reports that a write makes of fields it may not change, before anything lands: kind 3 for another
master's fields, and what its chapter says for guarded ones. -/
def State.reported (s : State) (m : Nat) (load : Bool) (l : Loc) (a old raw : Nat) : State :=
  let t := s.when (s.foreign m load l old raw) (·.deny m a (.viol 3))
  t.when (s.barred m load l old raw) (·.deny m a (s.guards l).2)

section
variable {s : State} {m : Nat} {load : Bool} {l : Loc} {a base raw : Nat}

theorem regWrite_refused {d : Denial}
    (hw : s.badWrite l (s.before l base) (s.merged m load l (s.before l base) raw) = some d) :
    s.regWrite m load l a base raw = (s.reported m load l a (s.before l base) raw).deny m a d := by
  unfold State.before at *
  simp only [State.regWrite, hw, State.reported]

theorem regWrite_byRule {u : State}
    (hw : s.badWrite l (s.before l base) (s.merged m load l (s.before l base) raw) = none)
    (ho : (s.reported m load l a (s.before l base) raw).ownWrite l base raw (s.before l base)
      (s.merged m load l (s.before l base) raw) = some u) :
    s.regWrite m load l a base raw = u := by
  unfold State.before State.reported at *
  simp only [State.regWrite, hw, ho]

theorem regWrite_lands
    (hw : s.badWrite l (s.before l base) (s.merged m load l (s.before l base) raw) = none)
    (ho : (s.reported m load l a (s.before l base) raw).ownWrite l base raw (s.before l base)
      (s.merged m load l (s.before l base) raw) = none) :
    s.regWrite m load l a base raw = ((s.reported m load l a (s.before l base) raw).store l base
      (s.merged m load l (s.before l base) raw)).wrote s m l raw (s.before l base) := by
  unfold State.before State.reported at *
  simp only [State.regWrite, hw, ho]

end

/-- Settles O34: an accepted write lands whole; otherwise the reports come first, and then the refusal, the register's own rule,
or the rest of the value with its effect. -/
theorem registerWritten : Obligations.RegisterWritten := by
  unfold Obligations.RegisterWritten
  intro s m a v l hw hl hp hr hab
  have hx : exec (.registerWrite m a v) s = .next ((s.regWrite m false l a.toNat a.toNat v.toNat).okResp []) := by
    obtain ⟨hoff, hd, hc, hu⟩ := hw
    rw [exec_registerWrite hoff, writeWord_reaches v hd hr, csrCore_word hl hp hab hc hu]
  refine ⟨fun hacc hown => ?_, fun d hbad => ?_, fun u hbad hown => ?_, fun hbad hown => ?_⟩
  · rw [exec_registerWrite hw.1, writeWord_effect ⟨hw, hacc⟩ hl hr hown]
  · rw [hx, regWrite_refused hbad]; rfl
  · rw [hx, regWrite_byRule hbad hown]
  · rw [hx, regWrite_lands hbad hown]; rfl

/-! ## Accesses that do not reach a register (R19, R296 to R299, R303, R367, R372, R378) -/

theorem csrRead_nowhere {s : State} {a : Nat} (m : Nat) (hl : locate a = none) : s.csrRead m a = (s, 0) := by
  simp only [State.csrRead, hl]

/-- A denied access is answered with what denies it. -/
theorem exec_denied {s t u : State} {m : Fin 20} {a : BitVec 28} (v : Word) (h : s.off = false)
    (hw : s.csrDenied m a.toNat true = some t) (hr : s.csrDenied m a.toNat false = some u) :
    exec (.registerWrite m a v) s = .next t ∧ exec (.counterRead m a) s = .next u := by
  rw [exec_registerWrite h, exec_counterRead h, writeWord_denied v hw, readWord_denied hr]
  exact ⟨rfl, rfl⟩

/-- Settles O38: the checks in the order in which they are made, and then the ways in which an access that passes them all still
reaches no register. -/
theorem accessDenied : Obligations.AccessDenied := by
  unfold Obligations.AccessDenied
  intro s m a v hoff
  refine ⟨fun hq => ?_, fun hq hp => ?_, fun hq hp ha => ?_, fun hq hm ha hr => ?_, fun hq hp ha hr hs hb => ?_,
    fun hread hl => ?_, fun hd hrr => ⟨fun hl => ?_, fun hu => ?_, fun l hl hab hu hp hm hh => ?_⟩⟩
  · exact exec_denied v hoff (csrDenied_quiesced true hq) (csrDenied_quiesced false hq)
  · exact exec_denied v hoff (csrDenied_noPath true hq hp) (csrDenied_noPath false hq hp)
  · exact exec_denied v hoff (csrDenied_unaligned true hq hp ha) (csrDenied_unaligned false hq hp ha)
  · rw [hm] at hq ⊢
    refine exec_denied v hoff ?_ ?_ <;> rw [hm]
    · exact csrDenied_hostEarly true hq ha hr
    · exact csrDenied_hostEarly false hq ha hr
  · rw [exec_registerWrite hoff, writeWord_denied v (csrDenied_nonSecure hq hp ha hr hs hb)]
  · rw [exec_counterRead hoff, readWord_reaches hread.2, csrRead_nowhere m hl]
    rfl
  · rw [exec_registerWrite hoff, writeWord_reaches v hd hrr, csrCore_nowhere m false v hl]
  · rw [exec_registerWrite hoff, writeWord_reaches v hd hrr, csrCore_unusable m v hu]
  · rw [exec_registerWrite hoff, writeWord_reaches v hd hrr, csrCore_held v hl hp hab hu hm hh]

end Sys2Proof.Machine
end

section
/-! Registers read: what a read answers, latches and clears (R16, R18, R246, R262, R271). -/

namespace Sys2Proof.Machine

/-! ## A read of a word that its register reaches -/

section
variable {s : State} {m a : Nat} {l : Loc}

theorem csrRead_hi_latched {h : Word} (hl : locate a = some l) (hab : s.absent a l = false) (hh : l.hi = true)
    (hr : (s.latchOf m).rd = some (a - 4, h)) : s.csrRead m a = (s, h) := by
  simp only [State.csrRead, hl, hab, hh, hr, Bool.false_eq_true, if_false, if_true]

theorem csrRead_hi_unlatched (hl : locate a = some l) (hab : s.absent a l = false) (hh : l.hi = true)
    (hr : ∀ h, (s.latchOf m).rd ≠ some (a - 4, h)) : s.csrRead m a = (s, 0) := by
  simp only [State.csrRead, hl, hab, hh, Bool.false_eq_true, if_false, if_true]
  split
  · next b h e =>
    have hb : b ≠ a - 4 := by
      rintro rfl
      exact hr h e
    rw [if_neg hb]
  · rfl

/-- The _LO half of a pair: its master's latch takes the upper half. -/
theorem csrRead_lo (hl : locate a = some l) (hab : s.absent a l = false) (hp : l.reg.pair = true) (hh : l.hi = false)
    (hrc : l.reg.bits (fun f => f.acc = .rc) = 0) :
    s.csrRead m a = ((s.snap l).setLatch m { s.latchOf m with
        rd := some (a, BitVec.ofNat 32 ((s.snap l).regValue l a / 2 ^ 32)) },
      BitVec.ofNat 32 ((s.snap l).regValue l a)) := by
  simp only [State.csrRead, hl, hab, hh, hp, hrc, Bool.false_eq_true, if_false, if_true]

theorem csrRead_clears (hl : locate a = some l) (hab : s.absent a l = false) (hp : l.reg.pair = false) (hh : l.hi = false)
    (hrc : l.reg.bits (fun f => f.acc = .rc) ≠ 0) :
    s.csrRead m a = ((s.snap l).setWord a (BitVec.ofNat 32
        (without ((s.snap l).regValue l a) (l.reg.bits (fun f => f.acc = .rc)))),
      BitVec.ofNat 32 ((s.snap l).regValue l a)) := by
  simp only [State.csrRead, hl, hab, hh, hp, if_neg hrc, Bool.false_eq_true, if_false]

theorem csrRead_word (hl : locate a = some l) (hab : s.absent a l = false) (hp : l.reg.pair = false) (hh : l.hi = false)
    (hrc : l.reg.bits (fun f => f.acc = .rc) = 0) :
    s.csrRead m a = (s.snap l, BitVec.ofNat 32 ((s.snap l).regValue l a)) := by
  simp only [State.csrRead, hl, hab, hh, hp, hrc, Bool.false_eq_true, if_false, if_true]

end

/-! ## Reading a pair after an update -/

theorem State.word_wq_lo (s : State) (a v : Nat) : (s.wq a v).word a = BitVec.ofNat 32 v := by
  rw [State.wq, State.word_setWord_ne _ _ (by omega), State.word_setWord_same]

theorem State.word_wq_hi (s : State) (a v : Nat) : (s.wq a v).word (a + 4) = BitVec.ofNat 32 (v / 2 ^ 32) :=
  State.word_setWord_same _ _ _

theorem State.word_wq_ne (s : State) {a b : Nat} (v : Nat) (h : b ≠ a) (h' : b ≠ a + 4) : (s.wq a v).word b = s.word b := by
  rw [State.wq, State.word_setWord_ne _ _ h', State.word_setWord_ne _ _ h]

/-- A pair reads the 64 bits that were written to it. -/
theorem State.rq_wq_same (s : State) (a v : Nat) : (s.wq a v).rq a = v % 2 ^ 64 := by
  simp only [State.rq, State.word_wq_lo, State.word_wq_hi, BitVec.toNat_ofNat]
  omega

theorem State.rq_wr_ne (s : State) {f : FRef} {a : Nat} (v : Nat) (h : a ≠ f.a) (h' : a + 4 ≠ f.a) :
    (s.wr f v).rq a = s.rq a := by
  simp only [State.rq, State.word_wr_ne _ _ h, State.word_wr_ne _ _ h']

theorem State.rq_wq_ne (s : State) {a b : Nat} (v : Nat) (h : b ≠ a) (h' : b ≠ a + 4) (h'' : b + 4 ≠ a) :
    (s.wq a v).rq b = s.rq b := by
  simp only [State.rq, State.word_wq_ne _ _ h h', State.word_wq_ne _ _ h'' (by omega)]

theorem State.rq_of_csr {s t : State} (h : t.csr = s.csr) (a : Nat) : t.rq a = s.rq a := by
  simp only [State.rq, State.word_of_csr h]

/-! ## The latest plan (R271) -/

/-- One step of the search for the latest plan: the later of the one found and the next. -/
def laterPlan (b : Option Plan) (p : Plan) : Option Plan :=
  match b with
  | some q => if q.round ≤ p.round then some p else some q
  | none => some p

/-- A plan later than every other one is what the search ends with, once it is found. -/
theorem foldl_laterPlan_keeps {p : Plan} (l : List Plan) (h : ∀ q ∈ l, q.round < p.round ∨ q = p) :
    l.foldl laterPlan (some p) = some p := by
  induction l with
  | nil => rfl
  | cons q r ih =>
    have hq : laterPlan (some p) q = some p := by
      rcases h q List.mem_cons_self with hlt | rfl
      · simp only [laterPlan, if_neg (not_le.2 hlt)]
      · simp only [laterPlan, le_refl, if_true]
    rw [List.foldl_cons, hq]
    exact ih fun x hx => h x (List.mem_cons_of_mem _ hx)

/-- The search finds a plan that is later than every other one. -/
theorem foldl_laterPlan_finds {p : Plan} (l : List Plan) (hp : p ∈ l) (h : ∀ q ∈ l, q.round < p.round ∨ q = p)
    (b : Option Plan) (hb : ∀ q, b = some q → q.round < p.round ∨ q = p) : l.foldl laterPlan b = some p := by
  induction l generalizing b with
  | nil => cases hp
  | cons q r ih =>
    have hr : ∀ x ∈ r, x.round < p.round ∨ x = p := fun x hx => h x (List.mem_cons_of_mem _ hx)
    rw [List.foldl_cons]
    by_cases hqp : q = p
    · have hstep : laterPlan b q = some p := by
        subst hqp
        cases b with
        | none => rfl
        | some x =>
          rcases hb x rfl with hx | rfl
          · simp only [laterPlan, if_pos hx.le]
          · simp only [laterPlan, le_refl, if_true]
      rw [hstep]
      exact foldl_laterPlan_keeps r hr
    · refine ih ((List.mem_cons.1 hp).resolve_left (Ne.symm hqp)) hr _ fun x hx => ?_
      cases b with
      | none =>
        cases hx
        exact h q List.mem_cons_self
      | some y =>
        simp only [laterPlan] at hx
        split at hx
        · cases hx
          exact h q List.mem_cons_self
        · cases hx
          exact hb _ rfl

/-- The registers of the latest plan: its record in CK_PLAN0 to CK_PLAN9, and its round. -/
theorem latchPlan_of_latest {s : State} {p : Plan} (hp : p ∈ s.ck.plans)
    (h : ∀ q ∈ s.ck.plans, q.round < p.round ∨ q = p) :
    s.latchPlan = (s.fold (List.range 10) (fun s w => s.wr (R.CK_PLAN_bytes w) (leAt p.record (4 * w) 4))).wq R.CK_ROUND
      p.round := by
  have hf : s.ck.plans.foldl laterPlan none = some p := foldl_laterPlan_finds _ hp h none (fun q hq => by cases hq)
  have he : s.latchPlan = match s.ck.plans.foldl laterPlan none with
      | none => s
      | some p => (s.fold (List.range 10) (fun s w => s.wr (R.CK_PLAN_bytes w) (leAt p.record (4 * w) 4))).wq R.CK_ROUND
          p.round := rfl
  rw [he, hf]


theorem leNat_lt (bs : Bytes) : leNat bs < 256 ^ bs.length := by
  induction bs with
  | nil => simp [leNat]
  | cons b r ih =>
    have hb := b.isLt
    rw [leNat, List.length_cons, pow_succ]
    omega

/-- A field of four bytes is a word. -/
theorem leAt_four_lt (bs : Bytes) (o : Nat) : leAt bs o 4 < 2 ^ 32 := by
  have hn : ((bs.drop o).take 4).length ≤ 4 := by simp
  calc leAt bs o 4 < 256 ^ ((bs.drop o).take 4).length := leNat_lt _
    _ ≤ 256 ^ 4 := Nat.pow_le_pow_right (by decide) hn
    _ = 2 ^ 32 := by decide

/-- A field that is a whole word reads the word that is written to it. -/
theorem State.word_wr_whole (s : State) {f : FRef} {v : Nat} (hlo : f.lo = 0) (hw : f.w = 32) (hv : v < 2 ^ 32) :
    ((s.wr f v).word f.a).toNat = v := by
  have h := s.rd_wr_same f v (by omega)
  rw [hw, Nat.mod_eq_of_lt hv] at h
  simpa [State.rd, getBits, hlo, hw, Nat.mod_eq_of_lt ((s.wr f v).word f.a).isLt] using h

/-- A field reads the value that was written to it when it has room for it. -/
theorem State.rd_wr_fits (s : State) {f : FRef} {v w : Nat} (hf : f.lo + w ≤ 32 ∧ f.w = w) (hv : v < 2 ^ w) :
    (s.wr f v).rd f = v := by
  obtain ⟨h, rfl⟩ := hf
  rw [State.rd_wr_same _ _ _ h, Nat.mod_eq_of_lt hv]

/-- Words written to CK_PLAN in turn stand there. -/
theorem State.word_fold_plan (s : State) {g : Nat → Nat} (hg : ∀ w, g w < 2 ^ 32) {n w : Nat} (hw : w < n) :
    ((s.fold (List.range n) (fun s w => s.wr (R.CK_PLAN_bytes w) (g w))).word (R.CK_PLAN w)).toNat = g w := by
  unfold State.fold
  induction n with
  | zero => omega
  | succ n ih =>
    rw [List.range_succ, List.foldl_append, List.foldl_cons, List.foldl_nil]
    by_cases h : w = n
    · subst h
      exact State.word_wr_whole _ rfl rfl (hg w)
    · have hne : R.CK_PLAN w ≠ (R.CK_PLAN_bytes n).a := by
        simp only [R.CK_PLAN_bytes, R.CK_PLAN]
        omega
      rw [State.word_wr_ne _ _ hne]
      exact ih (by omega)

/-- The latest plan's round and record stand in CK_ROUND and CK_PLAN. -/
theorem latchPlan_shows {s : State} {p : Plan} (hp : p ∈ s.ck.plans) (h : ∀ q ∈ s.ck.plans, q.round < p.round ∨ q = p) :
    s.latchPlan.rq R.CK_ROUND = p.round % 2 ^ 64
      ∧ ∀ w < 10, (s.latchPlan.word (R.CK_PLAN w)).toNat = leAt p.record (4 * w) 4 := by
  rw [latchPlan_of_latest hp h]
  refine ⟨State.rq_wq_same _ _ _, fun w hw => ?_⟩
  have h1 : R.CK_PLAN w ≠ R.CK_ROUND := by simp only [R.CK_PLAN, R.CK_ROUND]; omega
  have h2 : R.CK_PLAN w ≠ R.CK_ROUND + 4 := by simp only [R.CK_PLAN, R.CK_ROUND]; omega
  rw [State.word_wq_ne _ _ h1 h2]
  exact s.word_fold_plan (fun w => leAt_four_lt p.record (4 * w)) hw

/-! ## The registers whose reads have rows of their own -/

/-- Every part has a register outside the blocks of the Beam Array and the listening post that stands on no HBM stack. -/
theorem absent_of_common {s : State} {a : Nat} {l : Loc} (h5 : a / 0x100000 ≠ 5) (h17 : a / 0x100000 ≠ 17)
    (hid : l.reg.id ∉ [.HM_STK, .HM_STKSP, .HM_STKHW, .HM_CNT]) : s.absent a l = false := by
  simp only [List.mem_cons, List.not_mem_nil, or_false, not_or] at hid
  obtain ⟨h1, h2, h3, h4⟩ := hid
  simp [State.absent, h5, h17, h1, h2, h3, h4]

/-- CK_PLAN0. -/
def locPlan0 : Loc := ⟨⟨.CK_PLAN, 0x40, [(10, 0x4)], false, [⟨31, 0, .rl, 0, []⟩]⟩, [0], false⟩

/-- TB_NOWS. -/
def locNow : Loc := ⟨⟨.TB_NOWS, 0x10, [], true, [⟨47, 0, .rl, 0, []⟩]⟩, [], false⟩

/-- The registers TB_CAPS. -/
def regStamp : Reg := ⟨.TB_CAPS, 0x2008, [(16, 0x20)], true, [⟨47, 0, .rl, 0, []⟩]⟩

/-- TB_CAPSk. -/
def locStamp (k : Nat) : Loc := ⟨regStamp, [k], false⟩

theorem locate_plan0 : locate (R.CK_PLAN 0) = some locPlan0 := by decide
theorem locate_now : locate R.TB_NOWS = some locNow := by decide
theorem locate_stamp : ∀ k : Fin 16, locate (R.TB_CAPS k) = some (locStamp k) := by decide

theorem regValue_plan0 (s : State) : s.regValue locPlan0 (R.CK_PLAN 0) = (s.word (R.CK_PLAN 0)).toNat :=
  hard_of_noFixedBits rfl _

theorem regValue_now (s : State) : s.regValue locNow R.TB_NOWS = s.rq R.TB_NOWS := hard_of_noFixedBits rfl _

theorem regValue_stamp (s : State) (k : Nat) : s.regValue (locStamp k) (R.TB_CAPS k) = s.rq (R.TB_CAPS k) :=
  hard_of_noFixedBits rfl _

section
variable {s : State} {m : Fin 20}

theorem exec_planRecordRead (h : s.off = false) : exec (.planRecordRead m) s = .next (s.readWord m (R.CK_PLAN 0)) :=
  s.does_on h fun s => s.readWord m (R.CK_PLAN 0)

theorem exec_timeRead (h : s.off = false) : exec (.timeRead m) s = .next (s.readWord m R.TB_NOWS) :=
  s.does_on h fun s => s.readWord m R.TB_NOWS

theorem exec_captureStampRead (h : s.off = false) (k : Fin 16) :
    exec (.captureStampRead m k) s = .next (s.readWord m (R.TB_CAPS k)) :=
  s.does_on h fun s => s.readWord m (R.TB_CAPS k)

theorem readWord_plan0 (h : s.csrDenied m (R.CK_PLAN 0) false = none) :
    s.readWord m (R.CK_PLAN 0) = s.latchPlan.okResp (leBytes 4 (s.latchPlan.word (R.CK_PLAN 0)).toNat) := by
  have hab : s.absent (R.CK_PLAN 0) locPlan0 = false := absent_of_common (by decide) (by decide) (by decide)
  have hsnap : s.snap locPlan0 = s.latchPlan := rfl
  rw [readWord_reaches h, csrRead_word locate_plan0 hab rfl rfl (by decide), hsnap, regValue_plan0,
    BitVec.ofNat_toNat, BitVec.setWidth_eq]

/-- The state in which the time registers hold one tick of the time counter (R246). -/
def State.latchTime (s : State) : State :=
  ((s.wq R.TB_NOWS (s.taiS % 2 ^ 48)).wr R.TB_NOWNS_v s.taiNs).wq R.TB_NOWFR s.taiFr

theorem rq_latchTime (s : State) : s.latchTime.rq R.TB_NOWS = s.taiS % 2 ^ 48 := by
  unfold State.latchTime
  rw [State.rq_wq_ne _ _ (by decide) (by decide) (by decide), State.rq_wr_ne _ _ (by decide) (by decide),
    State.rq_wq_same]
  omega

theorem readWord_now (h : s.csrDenied m R.TB_NOWS false = none) :
    s.readWord m R.TB_NOWS = (s.latchTime.setLatch m { s.latchOf m with
        rd := some (R.TB_NOWS, BitVec.ofNat 32 (s.taiS % 2 ^ 48 / 2 ^ 32)) }).okResp (leBytes 4 (s.taiS % 2 ^ 32)) := by
  have hab : s.absent R.TB_NOWS locNow = false := absent_of_common (by decide) (by decide) (by decide)
  have hsnap : s.snap locNow = s.latchTime := rfl
  have hlow : s.taiS % 2 ^ 48 % 2 ^ 32 = s.taiS % 2 ^ 32 := by omega
  rw [readWord_reaches h, csrRead_lo locate_now hab rfl rfl (by decide), hsnap, regValue_now, rq_latchTime,
    BitVec.toNat_ofNat, hlow]

theorem readWord_stamp {k : Fin 16} (h : s.csrDenied m (R.TB_CAPS k) false = none) :
    s.readWord m (R.TB_CAPS k) = ((s.stampRead k).setLatch m { s.latchOf m with
        rd := some (R.TB_CAPS k, BitVec.ofNat 32 ((s.stampRead k).rq (R.TB_CAPS k) / 2 ^ 32)) }).okResp
      (leBytes 4 ((s.stampRead k).rq (R.TB_CAPS k) % 2 ^ 32)) := by
  have hab : s.absent (R.TB_CAPS k) (locStamp k) = false := by
    have hid : regStamp.id ∉ [RegId.HM_STK, .HM_STKSP, .HM_STKHW, .HM_CNT] := by decide
    refine absent_of_common ?_ ?_ hid <;> simp only [R.TB_CAPS] <;> omega
  have hrc : regStamp.bits (fun f => f.acc = .rc) = 0 := by decide
  have hsnap : s.snap (locStamp k) = s.stampRead k := rfl
  rw [readWord_reaches h, csrRead_lo (locate_stamp k) hab rfl rfl hrc, hsnap, regValue_stamp, BitVec.toNat_ofNat]

end

/-! ## The oldest stamp of a capture unit (R262) -/

theorem stampRead_empty {s : State} {k : Nat} (h : smapGet [] s.tb.capQ k = []) : s.stampRead k = s := by
  simp only [State.stampRead, h]

/-- The registers of a capture unit show a stamp and how many more wait. -/
def State.showStamp (s : State) (k : Nat) (x : CapStamp) (n : Nat) : State :=
  (((((s.wq (R.TB_CAPS k) x.s).wr (R.TB_CAPNS_ns k) x.ns).wr (R.TB_CAPX_epoch k) x.ep).wr (R.TB_CAPX_edge k)
    (if x.rise then 0 else 1)).wr (R.TB_CAPX_ps k) x.ps).wr (R.TB_CAPSTAT_fill k) n

theorem stampRead_eq {s : State} {k : Nat} {x : CapStamp} {rest : List CapStamp}
    (h : smapGet [] s.tb.capQ k = x :: rest) :
    s.stampRead k
      = State.showStamp { s with tb := { s.tb with capQ := smapSet [] s.tb.capQ k rest } } k x rest.length := by
  simp only [State.stampRead, h]
  rfl

section
variable (s : State) (k : Nat) {x : CapStamp} {n : Nat}

theorem showStamp_tb : (s.showStamp k x n).tb = s.tb := by
  rw [State.showStamp, State.wr_tb, State.wr_tb, State.wr_tb, State.wr_tb, State.wr_tb, State.wq_tb]

theorem showStamp_mem : (s.showStamp k x n).mem = s.mem := by
  rw [State.showStamp, State.wr_mem, State.wr_mem, State.wr_mem, State.wr_mem, State.wr_mem, State.wq_mem]

theorem showStamp_out : (s.showStamp k x n).out = s.out := by
  rw [State.showStamp, State.wr_out, State.wr_out, State.wr_out, State.wr_out, State.wr_out, State.wq_out]

theorem rq_showStamp (hs : x.s < 2 ^ 64) : (s.showStamp k x n).rq (R.TB_CAPS k) = x.s := by
  unfold State.showStamp
  rw [State.rq_wr_ne, State.rq_wr_ne, State.rq_wr_ne, State.rq_wr_ne, State.rq_wr_ne, State.rq_wq_same,
    Nat.mod_eq_of_lt hs]
  all_goals
    simp only [R.TB_CAPS, R.TB_CAPNS_ns, R.TB_CAPNS, R.TB_CAPX_epoch, R.TB_CAPX_edge, R.TB_CAPX_ps, R.TB_CAPX,
      R.TB_CAPSTAT_fill, R.TB_CAPSTAT]
    omega

theorem rd_showStamp_ns (hns : x.ns < 2 ^ 30) : (s.showStamp k x n).rd (R.TB_CAPNS_ns k) = x.ns := by
  have hw : (R.TB_CAPNS_ns k).lo + 30 ≤ 32 ∧ (R.TB_CAPNS_ns k).w = 30 := ⟨show 0 + 30 ≤ 32 by decide, rfl⟩
  unfold State.showStamp
  rw [State.rd_wr_ne, State.rd_wr_ne, State.rd_wr_ne, State.rd_wr_ne, State.rd_wr_fits _ hw hns]
  all_goals
    simp only [R.TB_CAPNS_ns, R.TB_CAPNS, R.TB_CAPX_epoch, R.TB_CAPX_edge, R.TB_CAPX_ps, R.TB_CAPX, R.TB_CAPSTAT_fill,
      R.TB_CAPSTAT]
    omega

theorem rd_showStamp_fill (hn : n < 32) : (s.showStamp k x n).rd (R.TB_CAPSTAT_fill k) = n :=
  State.rd_wr_fits (w := 5) _ ⟨show 0 + 5 ≤ 32 by decide, rfl⟩ hn

end

/-- The oldest stamp of a capture unit leaves it and stands in the unit's registers. -/
theorem stampRead_oldest {s : State} {k : Nat} {x : CapStamp} {rest : List CapStamp}
    (h : smapGet [] s.tb.capQ k = x :: rest) (hns : x.ns < 2 ^ 30) (hn : rest.length < 32) (hs : x.s < 2 ^ 64) :
    (s.stampRead k).tb = { s.tb with capQ := smapSet [] s.tb.capQ k rest }
      ∧ (s.stampRead k).rq (R.TB_CAPS k) = x.s ∧ (s.stampRead k).rd (R.TB_CAPNS_ns k) = x.ns
      ∧ (s.stampRead k).rd (R.TB_CAPSTAT_fill k) = rest.length
      ∧ (s.stampRead k).mem = s.mem ∧ (s.stampRead k).out = s.out := by
  rw [stampRead_eq h]
  exact ⟨showStamp_tb _ _, rq_showStamp _ _ hs, rd_showStamp_ns _ _ hns, rd_showStamp_fill _ _ hn, showStamp_mem _ _,
    showStamp_out _ _⟩

/-- Settles O37: the five ways in which a read answers, and then the registers with a rule of their own. -/
theorem registersRead : Obligations.RegistersRead := by
  unfold Obligations.RegistersRead
  refine ⟨fun s m a l hr hl hab => ?_, fun s m => ?_⟩
  · obtain ⟨hoff, hd⟩ := hr
    refine ⟨fun hp hh hrc => ?_, fun hh h hrd => ?_, fun hh hrd => ?_, fun hp hh hrc => ?_, fun hp hh hrc => ?_⟩
    · rw [exec_pairLoRead hoff, readWord_reaches hd, csrRead_lo hl hab hp hh hrc, BitVec.toNat_ofNat]
    · rw [exec_snapshotRead hoff, readWord_reaches hd, csrRead_hi_latched hl hab hh hrd]
    · rw [exec_snapshotRead hoff, readWord_reaches hd, csrRead_hi_unlatched hl hab hh hrd]
      rfl
    · rw [exec_counterRead hoff, readWord_reaches hd, csrRead_clears hl hab hp hh hrc, BitVec.toNat_ofNat]
    · rw [exec_snapshotRead hoff, readWord_reaches hd, csrRead_word hl hab hp hh hrc, BitVec.toNat_ofNat]
  · refine ⟨fun hr => ?_, fun p hp hlast => latchPlan_shows hp hlast, fun hr => ?_,
      fun k x rest hr hq hns hn hs => ?_, fun k hr hq => ?_⟩
    · rw [exec_planRecordRead hr.1, readWord_plan0 hr.2]
    · rw [exec_timeRead hr.1, readWord_now hr.2]
      rfl
    · have hx := exec_captureStampRead (m := m) hr.1 k
      have hu := stampRead_oldest hq hns hn hs
      rw [readWord_stamp hr.2] at hx
      generalize s.stampRead k = u at hx hu
      obtain ⟨htb, hS, hN, hF, hmem, hout⟩ := hu
      rw [hS] at hx
      exact ⟨_, hx, htb, hS, hN, hF, rfl, hmem, hout⟩
    · have hx := exec_captureStampRead (m := m) hr.1 k
      rw [readWord_stamp hr.2, stampRead_empty hq] at hx
      exact ⟨_, hx, rfl, rfl, rfl, rfl⟩

end Sys2Proof.Machine
end

section
/-! The part with four stacks (R3), and what power-on reset leaves (R384). -/

namespace Sys2Proof.Machine

/-! ## Error responses change registers and reports only -/

/-- What an access over the crossbar can write is the same: HBM and its poison, the Pair Map with the groups, the ASP memories
with their cores, the configuration store, the buffers of the listening post and the mailbox. -/
def State.sameMemories (s t : State) : Prop :=
  t.mem = s.mem ∧ t.hm = s.hm ∧ t.ag = s.ag ∧ t.sp = s.sp ∧ t.cf = s.cf ∧ t.au = s.au ∧ t.xb.mbx = s.xb.mbx

theorem State.sameMemories.refl (s : State) : s.sameMemories s := ⟨rfl, rfl, rfl, rfl, rfl, rfl, rfl⟩

theorem State.sameMemories.trans {s t u : State} (h : s.sameMemories t) (k : t.sameMemories u) : s.sameMemories u := by
  obtain ⟨h1, h2, h3, h4, h5, h6, h7⟩ := h
  obtain ⟨k1, k2, k3, k4, k5, k6, k7⟩ := k
  exact ⟨k1.trans h1, k2.trans h2, k3.trans h3, k4.trans h4, k5.trans h5, k6.trans h6, k7.trans h7⟩

theorem State.sameMemories_inc (s : State) (a : Nat) : s.sameMemories (s.inc a) := ⟨rfl, rfl, rfl, rfl, rfl, rfl, rfl⟩

theorem State.sameMemories_wr (s : State) (f : FRef) (v : Nat) : s.sameMemories (s.wr f v) :=
  ⟨rfl, rfl, rfl, rfl, rfl, rfl, rfl⟩

theorem State.sameMemories_flag (s : State) (f : FRef) : s.sameMemories (s.flag f) := by
  simp [State.sameMemories]

theorem State.sameMemories_health (s : State) (x u v d n : Nat) : s.sameMemories (s.health x u v d n) :=
  ⟨rfl, rfl, rfl, rfl, rfl, rfl, rfl⟩

theorem State.sameMemories_violAdr (s : State) (a : Nat) : s.sameMemories { s with xb := { s.xb with violAdr := a } } :=
  ⟨rfl, rfl, rfl, rfl, rfl, rfl, rfl⟩

theorem State.sameMemories_xbViol (s : State) (kind m target : Nat) (write : Bool) (addr : Nat) :
    s.sameMemories (s.xbViol kind m target write addr) := by
  unfold State.xbViol
  dsimp only
  split
  · exact s.sameMemories_inc _
  · exact (((((s.sameMemories_inc _).trans (State.sameMemories_wr _ _ _)).trans (State.sameMemories_wr _ _ _)).trans
      (State.sameMemories_wr _ _ _)).trans (State.sameMemories_wr _ _ _)).trans
      ((State.sameMemories_violAdr _ _).trans (State.sameMemories_flag _ _))

theorem State.sameMemories_errResp (s : State) : s.sameMemories s.errResp := ⟨rfl, rfl, rfl, rfl, rfl, rfl, rfl⟩

theorem State.sameMemories_peAbort (s : State) : s.sameMemories s.peAbort :=
  (s.sameMemories_flag _).trans (State.sameMemories_inc _ _)

/-- An error response is an error, and writes no memory. -/
theorem State.failTo_error (s : State) (m : Nat) : (s.failTo m).resp.error = true ∧ s.sameMemories (s.failTo m) := by
  have habort : s.sameMemories (s.when (m == 0) State.peAbort) := by
    unfold State.when
    split
    · exact s.sameMemories_peAbort
    · exact .refl s
  exact ⟨rfl, habort.trans (State.sameMemories_errResp _)⟩

/-! ## The part with four stacks (R3) -/

theorem exec_crossbarBurst {s : State} (h : s.off = false) (m : Fin 20) (ch : Fin 8) (a : BitVec 40) (b : XbBurst) :
    exec (.crossbarBurst m ch a b) s = .next (s.burst m ch a.toNat b.op b.ecc) :=
  s.does_on h fun s => s.burst m ch a.toNat b.op b.ecc

theorem hbmSize_small {s : State} (h : s.part = .m) : s.hbmSize = 0x3000000000 := by
  simp only [State.hbmSize, h]

theorem targetOf_hbm {a : Nat} (h : a < 0x6000000000) : targetOf a = some (0, a) := by
  simp only [targetOf, if_pos h]

/-- HBM above what the part has answers nothing. -/
theorem accessHbm_beyond {s : State} {x : Nat} (op : XbOp) (h : s.hbmSize ≤ x) : s.accessHbm x op = (s, none) := by
  simp only [State.accessHbm, h, true_or, if_true]

/-- An access above the part's HBM is refused, whichever check comes first. -/
theorem access_beyond {s : State} {a : Nat} (m ch : Nat) (op : XbOp) (hlo : s.hbmSize ≤ a) (hhi : a < 0x6000000000) :
    (s.access m ch a op).2 = none ∧ s.sameMemories (s.access m ch a op).1 := by
  unfold State.access
  rw [targetOf_hbm hhi]
  dsimp only
  split
  · exact ⟨rfl, s.sameMemories_xbViol _ _ _ _ _⟩
  split
  · exact ⟨rfl, s.sameMemories_xbViol _ _ _ _ _⟩
  split
  · exact ⟨rfl, .refl s⟩
  split
  · exact ⟨rfl, s.sameMemories_xbViol _ _ _ _ _⟩
  · rw [accessHbm_beyond op hlo]
    exact ⟨rfl, .refl s⟩

/-- A burst above the part's HBM is answered with an error and writes no memory. -/
theorem burst_beyond {s : State} {a : Nat} (m ch : Nat) (op : XbOp) (ecc : Bool) (hq : s.quiesced m = false)
    (hlo : s.hbmSize ≤ a) (hhi : a < 0x6000000000) :
    (s.burst m ch a op ecc).resp.error = true ∧ s.sameMemories (s.burst m ch a op ecc) := by
  unfold State.burst
  rw [hq, if_neg Bool.false_ne_true]
  split
  · obtain ⟨herr, hmem⟩ := s.busError.failTo_error m
    exact ⟨herr, (s.sameMemories_health _ _ _ _ _).trans hmem⟩
  · obtain ⟨hnone, hacc⟩ := access_beyond m ch op hlo hhi
    obtain ⟨herr, hmem⟩ := (s.access m ch a op).1.failTo_error m
    unfold Answer.respond
    rw [hnone]
    exact ⟨herr, hacc.trans hmem⟩

/-- Settles O55: above 192 GiB the address still names HBM, and every check that an access meets there ends in an error. -/
theorem smallPartEnds : Obligations.SmallPartEnds := by
  unfold Obligations.SmallPartEnds
  intro s m ch a op ecc hpart hoff hq
  have hsize := hbmSize_small hpart
  refine ⟨hsize, fun hlo hhi => ?_⟩
  obtain ⟨herr, hmem, hhm, hag, hsp, hcf, hau, hmbx⟩ := burst_beyond m ch op ecc hq (hsize ▸ hlo) hhi
  exact ⟨_, exec_crossbarBurst hoff m ch a ⟨op, ecc⟩, herr, hmem, hhm, hag, hsp, hcf, hau, hmbx⟩

/-! ## Power-on reset -/

/-- After reset no word is listed, so every field reads what the register tables give. -/
theorem rd_reset (f : FRef) : State.reset.rd f = getBits (csrReset f.a).toNat f.lo f.w := rfl

theorem on_reset (f : FRef) : State.reset.on f = (getBits (csrReset f.a).toNat f.lo f.w != 0) := rfl

theorem memOk_reset : State.reset.memOk := ⟨Memory.wf_nil, Memory.wf_nil, Memory.wf_nil⟩

/-- Each of these addresses is looked up in its block's register table. -/
theorem off_reset : ∀ f ∈ [R.IN_CTL_en, R.AL_CTL_en, R.BD_CTL_en, R.BA_CTL_en, R.OT_CTL_en, R.AU_CTL_en, R.CS_CTL_en,
    R.MG_STATUS_ready, R.TB_STATUS_set, R.TB_STATUS_sce_valid, R.XB_VIOL_valid], State.reset.on f = false := by
  simp only [on_reset]
  decide

theorem portState_reset : ∀ p : Fin 17, State.reset.rd (portState p) = 0 := by
  simp only [rd_reset]
  decide

theorem gState_reset : ∀ g : Fin 63, State.reset.gState g = 0 := by
  simp only [State.gState, rd_reset]
  decide

theorem spState_reset : ∀ n : Fin 16, State.reset.spState n = 0 := by
  simp only [State.spState, rd_reset]
  decide

/-- Settles O59: nothing waits and no memory lists anything, and every field reads what its table gives. -/
theorem resetLeaves : Obligations.ResetLeaves := by
  unfold Obligations.ResetLeaves
  refine ⟨rfl, rfl, memOk_reset, off_reset, ?_, ?_, ?_, ?_, ?_, ?_, portState_reset, gState_reset, ?_, ?_, spState_reset,
    ?_, ?_⟩
  all_goals decide

end Sys2Proof.Machine
end

section
/-! The host's request of Endgame and its clearing (R25, R275, Table 12-5). -/

namespace Sys2Proof.Machine

/-! ## A word with one field given a value -/

theorem force_testBit {v : Word} {f : FRef} {x : Nat} (hf : f.lo + f.w ≤ 32) (i : Nat) :
    (force v f x).toNat.testBit i
      = if i < f.lo then v.toNat.testBit i else if i < f.lo + f.w then x.testBit (i - f.lo) else v.toNat.testBit i := by
  rw [force, BitVec.toNat_ofNat, Nat.mod_eq_of_lt (putBits_lt v.isLt hf), putBits_testBit]

/-! ## The boundary to which a request binds (R25) -/

/-- The words from which the first boundary not yet reached is found. -/
def boundaryWords : List Nat :=
  [R.TB_STATUS, R.AL_HORIZ, R.AL_HORIZ + 4, R.AL_ORIGIN, R.AL_ORIGIN + 4, R.AL_ROUNDLEN]

/-- A write of any other word leaves every boundary unreached that was. -/
theorem State.nextRound_setWord_ne (s : State) {a : Nat} (v : Word) (h : ∀ b ∈ boundaryWords, b ≠ a) :
    (s.setWord a v).nextRound = s.nextRound := by
  have hw : ∀ b ∈ boundaryWords, (s.setWord a v).word b = s.word b := fun b hb => s.word_setWord_ne v (h b hb)
  have hsce : (s.setWord a v).sceValid = s.sceValid := by
    simp only [State.sceValid, State.on, State.rd, hw _ (show R.TB_STATUS_sce_valid.a ∈ boundaryWords by decide)]
  have hlen : (s.setWord a v).roundLen = s.roundLen := by
    simp only [State.roundLen, State.rd, hw _ (show R.AL_ROUNDLEN_len.a ∈ boundaryWords by decide)]
  have hhor : (s.setWord a v).horizon = s.horizon := by
    simp only [State.horizon, State.rq, hw _ (show R.AL_HORIZ ∈ boundaryWords by decide),
      hw _ (show R.AL_HORIZ + 4 ∈ boundaryWords by decide)]
  have horg : (s.setWord a v).origin = s.origin := by
    simp only [State.origin, State.rq, hw _ (show R.AL_ORIGIN ∈ boundaryWords by decide),
      hw _ (show R.AL_ORIGIN + 4 ∈ boundaryWords by decide)]
  unfold State.nextRound State.frontRound State.frontSc
  rw [hsce, hlen, hhor, horg, State.setWord_rnd, State.setWord_tb]

theorem bindTo_of_nextRound {s t : State} (h : t.nextRound = s.nextRound) (tgt : Bool) (n : Nat) :
    t.bindTo tgt n = s.bindTo tgt n := by
  unfold State.bindTo State.begun
  rw [h]

/-- A request names a round that has not begun, or binds to the next boundary. -/
theorem State.bindTo_eq (s : State) (tgt : Bool) (n : Nat) :
    s.bindTo tgt n = if tgt = true then (if n < s.nextRound then none else some n) else some s.nextRound := by
  simp only [State.bindTo, State.begun, decide_eq_true_eq]

/-! ## A write of CK_CTL (R275) -/

/-- CK_CTL. -/
def locCkCtl : Loc := ⟨⟨.CK_CTL, 0x0, [], false,
  [⟨15, 8, .rw, 10, [(1, 255)]⟩, ⟨3, 3, .rw, 0, []⟩, ⟨2, 2, .wo, 0, []⟩, ⟨1, 1, .wo, 0, []⟩]⟩, [], false⟩

theorem locate_ckCtl : locate R.CK_CTL = some locCkCtl := by decide

section
variable {s : State} {m : Nat} {w : Word}

theorem landed_ckCtl : ∃ x, s.landed m R.CK_CTL w = s.setWord R.CK_CTL x := by
  simp only [State.landed, locate_ckCtl]
  exact ⟨_, rfl⟩

theorem bindTo_landed_ckCtl (tgt : Bool) (n : Nat) : (s.landed m R.CK_CTL w).bindTo tgt n = s.bindTo tgt n := by
  obtain ⟨x, hx⟩ := landed_ckCtl (s := s) (m := m) (w := w)
  rw [hx]
  exact bindTo_of_nextRound (s.nextRound_setWord_ne x (by decide)) tgt n

theorem rq_landed_ckCtl : (s.landed m R.CK_CTL w).rq R.CK_EGTGT = s.rq R.CK_EGTGT := by
  obtain ⟨x, hx⟩ := landed_ckCtl (s := s) (m := m) (w := w)
  have hlo : R.CK_EGTGT ≠ R.CK_CTL := by decide
  have hhi : R.CK_EGTGT + 4 ≠ R.CK_CTL := by decide
  rw [hx, State.rq, State.word_setWord_ne _ _ hlo, State.word_setWord_ne _ _ hhi]
  rfl

/-- A write that CK_CTL takes leaves its value and asks for what its command bits say. -/
theorem writeWord_ckCtl (h : s.takes m R.CK_CTL w) :
    s.writeWord m R.CK_CTL w
      = ((s.landed m R.CK_CTL w).endgameWrite (w.toNat.testBit 1) (w.toNat.testBit 2)).okResp [] :=
  writeWord_effect h locate_ckCtl (by decide) rfl

end

section
variable {s : State} {req clr : Bool}

/-- A request or clearing whose round has begun sets cmd_err and nothing else. -/
theorem endgameWrite_begun (hc : req = true ∨ clr = true) (h : s.bindTo (s.on R.CK_CTL_tgt) (s.rq R.CK_EGTGT) = none) :
    s.endgameWrite req clr = s.flag R.CK_STATUS_cmd_err := by
  have hcmd : (!req && !clr) = false := by
    rcases hc with rfl | rfl <;> simp
  simp only [State.endgameWrite, hcmd, Bool.false_eq_true, if_false, h]

variable {n : Nat} (h : s.bindTo (s.on R.CK_CTL_tgt) (s.rq R.CK_EGTGT) = some n)
include h

theorem endgameWrite_request :
    s.endgameWrite true false = State.wr { s with ck := { s.ck with egReq := some n } } R.CK_STATUS_eg_pending 1 := by
  simp only [State.endgameWrite, h]
  rfl

theorem endgameWrite_clear :
    s.endgameWrite false true = State.wr { s with ck := { s.ck with egClr := some n } } R.CK_STATUS_eg_pending 1 := by
  simp only [State.endgameWrite, h]
  rfl

end

section
variable {s : State} {m : Fin 20} {v : Word}

theorem exec_endgameRequest (h : s.takes m R.CK_CTL (force v R.CK_CTL_eg_req 1)) (hv : v.toNat.testBit 2 = false) :
    exec (.endgameRequest m v) s
      = .next (((s.landed m R.CK_CTL (force v R.CK_CTL_eg_req 1)).endgameWrite true false).okResp []) := by
  have hreq : (force v R.CK_CTL_eg_req 1).toNat.testBit 1 = true := force_testBit (by decide) 1
  have hclr : (force v R.CK_CTL_eg_req 1).toNat.testBit 2 = false := (force_testBit (by decide) 2).trans hv
  rw [← hreq, ← hclr, ← writeWord_ckCtl h]
  exact s.does_on h.1.1 fun s => s.writeWord m R.CK_CTL (force v R.CK_CTL_eg_req 1)

theorem exec_endgameClear (h : s.takes m R.CK_CTL (force v R.CK_CTL_eg_clr 1)) (hv : v.toNat.testBit 1 = false) :
    exec (.endgameClear m v) s
      = .next (((s.landed m R.CK_CTL (force v R.CK_CTL_eg_clr 1)).endgameWrite false true).okResp []) := by
  have hreq : (force v R.CK_CTL_eg_clr 1).toNat.testBit 1 = false := (force_testBit (by decide) 1).trans hv
  have hclr : (force v R.CK_CTL_eg_clr 1).toNat.testBit 2 = true := force_testBit (by decide) 2
  rw [← hreq, ← hclr, ← writeWord_ckCtl h]
  exact s.does_on h.1.1 fun s => s.writeWord m R.CK_CTL (force v R.CK_CTL_eg_clr 1)

end

/-- Settles O31: the value that lands in CK_CTL moves no boundary and not the target, so the request binds in the state it
leaves as it would have bound before. -/
theorem endgameWrites : Obligations.EndgameWrites := by
  unfold Obligations.EndgameWrites
  intro s m v
  have hbind : ∀ w : Word, ∀ o, s.bindTo ((s.landed m R.CK_CTL w).on R.CK_CTL_tgt) (s.rq R.CK_EGTGT) = o →
      (s.landed m R.CK_CTL w).bindTo ((s.landed m R.CK_CTL w).on R.CK_CTL_tgt)
        ((s.landed m R.CK_CTL w).rq R.CK_EGTGT) = o := by
    intro w o h
    rw [bindTo_landed_ckCtl, rq_landed_ckCtl, h]
  refine ⟨?_, ?_, s.bindTo_eq⟩
  · rintro w L rfl rfl ht hv
    have hx := exec_endgameRequest ht hv
    refine ⟨fun n hn => ?_, fun hn => ?_⟩
    · rw [hx, endgameWrite_request (hbind _ _ hn)]
      rfl
    · rw [hx, endgameWrite_begun (.inl rfl) (hbind _ _ hn)]
      rfl
  · rintro w L rfl rfl ht hv
    have hx := exec_endgameClear ht hv
    refine ⟨fun n hn => ?_, fun hn => ?_⟩
    · rw [hx, endgameWrite_clear (hbind _ _ hn)]
      rfl
    · rw [hx, endgameWrite_begun (.inr rfl) (hbind _ _ hn)]
      rfl

end Sys2Proof.Machine
end

section
/-! Round boundaries, the horizon, placing packets and the arrival bitmaps (R25, R26, R61 to R65, R80). -/

namespace Sys2Proof.Machine

/-! ## The commands while the core is on -/

section
variable {s : State} (h : s.off = false)
include h

theorem exec_roundBoundary : exec .roundBoundary s = .next (s.passBoundaries.moveHorizon.handCheck).joinCheck :=
  s.does_on h fun s => (s.passBoundaries.moveHorizon.handCheck).joinCheck

theorem exec_horizonAdvance : exec .horizonAdvance s = .next (s.moveHorizon.handCheck).joinCheck :=
  s.does_on h fun s => (s.moveHorizon.handCheck).joinCheck

theorem exec_ingestRoundStart : exec .ingestRoundStart s = .next s.ingestNext := s.does_on h State.ingestNext

theorem exec_packetPlace : exec .packetPlace s = .next s.placeNext := s.does_on h State.placeNext

theorem exec_repairBitmapSend : exec .repairBitmapSend s = .next s.bitmapSend := s.does_on h State.bitmapSend

end

/-! ## Placing packets and starting rounds -/

theorem ingestNext_timeMode {s : State} (h : s.timeMode = true) :
    s.ingestNext = s.placeAll.startDue s.placeAll.tb.t false := by
  simp only [State.ingestNext, h, if_true]

theorem placeNext_oldest {s : State} {x : Accepted} {rest : List Accepted} (h : s.ul.alignQ = x :: rest) :
    s.placeNext = State.alignPacket { s with ul := { s.ul with alignQ := rest } } x := by
  simp only [State.placeNext, h]

/-- In time mode a packet is judged by the horizon of its stamp, before and after its samples count (R62, R63). -/
theorem alignPacket_timeMode {s : State} (x : Accepted) (h : s.timeMode = true) :
    s.alignPacket x = let t := s.moveTo x.stamp;
      ((if t.on R.AL_CTL_en then t.placePacket x else t).noteReach x).moveTo x.stamp := by
  simp only [State.alignPacket, h, if_true]

theorem ingestStart_nextStart (s : State) (n : Nat) (jump : Bool) : (s.ingestStart n jump).al.nextStart = n + 1 := rfl

theorem mem_ingestStart_open (s : State) (n : Nat) (jump : Bool) : n ∈ (s.ingestStart n jump).al.open_ :=
  List.mem_append_right _ (List.mem_singleton_self n)

/-! ## A castling message changes neither alignment, registers nor HBM (R80, R198) -/

/-- What sending a castling message can change: what is sent, the free values, the ports and castling. -/
def castFields : Nat := 2 ^ 5 + 2 ^ 10 + 2 ^ 11 + 2 ^ 28

/-- The state with that out of sight. -/
abbrev State.offCast (s : State) : State := s.blank castFields

theorem sendCell_offCast (s : State) (p k : Nat) (b : Bytes) : (s.sendCell p k b).offCast = s.offCast :=
  (upd_out castFields (by decide) _ _).trans (upd_ul castFields (by decide) s _)

theorem idleFill_offCast (s : State) (p : Nat) : (s.idleFill p).offCast = s.offCast :=
  ((upd_fresh castFields (by decide) _ _).trans (upd_out castFields (by decide) _ _)).trans
    (upd_ul castFields (by decide) s _)

theorem sendPacket_offCast (s : State) (p : Nat) (b : Bytes) : (s.sendPacket p b).offCast = s.offCast :=
  (fold_blank castFields _ (fun _ _ => sendCell_offCast _ _ _ _) _ _).trans (idleFill_offCast s p)

theorem castSend_offCast (s : State) (msg : Nat) (b : Bytes) : (s.castSend msg b).offCast = s.offCast := by
  unfold State.castSend
  split
  · exact (sendPacket_offCast _ _ _).trans (upd_cs castFields (by decide) s _)
  · rfl

/-- Once its instant has come, the bitmaps of the next open span are sent, and the span after it is the next. -/
theorem bitmapSend_due {s : State} (hon : s.repairOn = true) {m : Nat} (hm : m = max s.al.sentSpan (s.horizon / 256))
    (hdue : taiOf s.tb.epoch (256 * (m + 1)) + ((s.win : Int) - s.rd R.AL_RPRCTL_lead_us) * 1000 * 2 ^ 48 ≤ s.tb.t) :
    s.bitmapSend.offCast = State.offCast { s with al := { s.al with sentSpan := m + 1 } } := by
  subst hm
  simp only [State.bitmapSend, hon, hdue, decide_true, Bool.and_self, if_true]
  exact fold_blank castFields _ (fun _ _ => castSend_offCast _ _ _) _ _

/-! ## What a boundary changes (R25) -/

/-- What the changes bound to a boundary, the thermal cap and the host's Endgame can change: registers, what is sent, events,
alignment, the Beam Array, the Chess Clock, and the states of the PCIe side and the balls. -/
def boundaryFields : Nat := 2 ^ 2 + 2 ^ 5 + 2 ^ 9 + 2 ^ 12 + 2 ^ 15 + 2 ^ 20 + 2 ^ 22 + 2 ^ 31

/-- The state with that out of sight. -/
abbrev State.offBoundary (s : State) : State := s.blank boundaryFields

section
variable (s : State)

theorem setWord_offBoundary (a : Nat) (v : Word) : (s.setWord a v).offBoundary = s.offBoundary :=
  upd_csr boundaryFields (by decide) s _

theorem wr_offBoundary (f : FRef) (v : Nat) : (s.wr f v).offBoundary = s.offBoundary := setWord_offBoundary s _ _

theorem fire_offBoundary (e : Nat) : (s.fire e).offBoundary = s.offBoundary :=
  upd_evq boundaryFields (by decide) s _

theorem updCk_offBoundary (x : CkState) : State.offBoundary { s with ck := x } = s.offBoundary :=
  upd_ck boundaryFields (by decide) s x

theorem updBa_offBoundary (x : BaState) : State.offBoundary { s with ba := x } = s.offBoundary :=
  upd_ba boundaryFields (by decide) s x

theorem flag_offBoundary (r : FRef) : (s.flag r).offBoundary = s.offBoundary := by
  obtain ⟨c, o, p, i, h⟩ := s.flag_frame r
  rw [h]
  exact (((upd_csr boundaryFields (by decide) _ _).trans (upd_out boundaryFields (by decide) _ _)).trans
    (upd_pe boundaryFields (by decide) _ _)).trans (upd_io boundaryFields (by decide) s i)

theorem showTable_offBoundary (n : Nat) : (s.showTable n).offBoundary = s.offBoundary :=
  (fold_blank boundaryFields _ (fun _ _ => setWord_offBoundary _ _ _) _ _).trans
    ((wr_offBoundary _ _ _).trans (wr_offBoundary _ _ _))

theorem baErr_offBoundary (r i : Nat) : (s.baErr r i).offBoundary = s.offBoundary :=
  (flag_offBoundary _ _).trans ((wr_offBoundary _ _ _).trans (wr_offBoundary _ _ _))

theorem dropUnverified_offBoundary (n : Nat) : (s.dropUnverified n).offBoundary = s.offBoundary := by
  unfold State.dropUnverified
  split
  · exact (baErr_offBoundary _ _ _).trans (updBa_offBoundary s _)
  · rfl

theorem applyChange_offBoundary (n : Nat) (c : Change) : (s.applyChange n c).offBoundary = s.offBoundary := by
  cases c with
  | win us => exact upd_al boundaryFields (by decide) s _
  | flags => rfl
  | streams => exact wr_offBoundary _ _ _
  | pairing => exact (showTable_offBoundary _ _).trans (wr_offBoundary _ _ _)
  | weights => exact (fire_offBoundary _ _).trans ((dropUnverified_offBoundary _ _).trans (wr_offBoundary _ _ _))
  | beams => exact (updBa_offBoundary _ _).trans (wr_offBoundary _ _ _)

theorem notePending_offBoundary : s.notePending.offBoundary = s.offBoundary :=
  (wr_offBoundary _ _ _).trans (wr_offBoundary _ _ _)

theorem noteCap_offBoundary : s.noteCap.offBoundary = s.offBoundary :=
  (when_blank boundaryFields _ _ _ (fire_offBoundary _ _)).trans (wr_offBoundary _ _ _)

theorem thermalCap_offBoundary : s.thermalCap.offBoundary = s.offBoundary :=
  (noteCap_offBoundary _).trans (updCk_offBoundary s _)

theorem setCause_offBoundary (i : Nat) (b : Bool) : (s.setCause i b).offBoundary = s.offBoundary :=
  wr_offBoundary _ _ _

/-- A host request or clearing that is taken from the Chess Clock and acts on a cause. -/
theorem takeCause_offBoundary (c : Bool) (f : CkState → CkState) (i : Nat) (b : Bool) :
    (s.when c (fun s => State.setCause { s with ck := f s.ck } i b)).offBoundary = s.offBoundary :=
  when_blank boundaryFields c _ s ((setCause_offBoundary _ i b).trans (updCk_offBoundary s _))

theorem hostEndgame_offBoundary (n : Nat) : (s.hostEndgame n).offBoundary = s.offBoundary :=
  (wr_offBoundary _ _ _).trans ((takeCause_offBoundary _ _ (fun c => { c with egClr := none }) 0 false).trans
    (takeCause_offBoundary s _ (fun c => { c with egReq := none }) 0 true))

/-- A boundary moves the front past its round and takes the changes bound up to it; the rest of what it does leaves both. -/
theorem boundaryAt_offBoundary (n : Nat) : (s.boundaryAt n).offBoundary
    = State.offBoundary { s with bound := s.bound.filter (fun p => n < p.1), rnd := n + 1 } :=
  (fire_offBoundary _ _).trans <| (hostEndgame_offBoundary _ _).trans <| (thermalCap_offBoundary _).trans <|
    (notePending_offBoundary _).trans <| fold_blank boundaryFields _ (fun _ _ => applyChange_offBoundary _ _ _) _ _

theorem boundaryAt_rnd (n : Nat) : (s.boundaryAt n).rnd = n + 1 := rnd_of_blank (boundaryAt_offBoundary s n) (by decide)

theorem boundaryAt_bound (n : Nat) : (s.boundaryAt n).bound = s.bound.filter (fun p => n < p.1) :=
  bound_of_blank (boundaryAt_offBoundary s n) (by decide)

theorem boundaryAt_fires (n : Nat) : (80, 0) ∈ (s.boundaryAt n).evq :=
  List.mem_append_right _ (List.mem_singleton_self _)

end

/-- Settles O7: the commands by their meanings, a span's bitmaps by what castling leaves alone, and a boundary by what its changes
leave alone. -/
theorem alignRuns : Obligations.AlignRuns := by
  unfold Obligations.AlignRuns
  intro s
  refine ⟨fun hoff => ⟨exec_roundBoundary hoff, exec_horizonAdvance hoff, fun htime => ?_, fun x rest hq => ?_,
    fun hon hdue => ?_⟩, fun n => ⟨boundaryAt_rnd s n, boundaryAt_fires s n, fun c hc => ?_⟩,
    fun n jump => ⟨ingestStart_nextStart s n jump, mem_ingestStart_open s n jump⟩, fun x => alignPacket_timeMode x⟩
  · rw [exec_ingestRoundStart hoff, ingestNext_timeMode htime]
  · rw [exec_packetPlace hoff, placeNext_oldest hq]
  · have hb := bitmapSend_due hon rfl hdue
    have hal := al_of_blank hb (by decide)
    have hcsr := csr_of_blank hb (by decide)
    have hmem := mem_of_blank hb (by decide)
    exact ⟨_, exec_repairBitmapSend hoff, hal, hcsr, hmem⟩
  · rw [boundaryAt_bound, List.mem_filter] at hc
    simpa using hc.2

end Sys2Proof.Machine
end

section
/-! Byte strings: the fields of a string that is put together from little-endian numbers (R11), and the ranges of the
cyclic redundancy checks (R31, R39). -/

namespace Sys2Proof.Machine

/-! ## Little-endian fields -/

@[simp] theorem length_leBytes (n v : Nat) : (leBytes n v).length = n := by
  induction n generalizing v with
  | zero => rfl
  | succ n ih => rw [leBytes, List.length_cons, ih]

@[simp] theorem length_zeros (n : Nat) : (zeros n).length = n := List.length_replicate

@[simp] theorem length_packetHead (typ : Nat) : (packetHead typ).length = 4 := by simp [packetHead]

theorem leNat_leBytes (n v : Nat) : leNat (leBytes n v) = v % 256 ^ n := by
  induction n generalizing v with
  | zero => rw [leBytes, leNat, pow_zero, Nat.mod_one]
  | succ n ih => rw [leBytes, leNat, ih, BitVec.toNat_ofNat, pow_succ' 256, Nat.mod_mul]

/-- The field at the front of a string. -/
@[simp] theorem leAt_front (n v : Nat) (r : Bytes) : leAt (leBytes n v ++ r) 0 n = v % 256 ^ n := by
  rw [leAt, List.drop_zero, List.take_left' (length_leBytes n v), leNat_leBytes]

/-- A field beyond the front part of a string lies in the rest. -/
theorem leAt_skip {a : Bytes} {o : Nat} (h : a.length ≤ o) (b : Bytes) (n : Nat) :
    leAt (a ++ b) o n = leAt b (o - a.length) n := by
  rw [leAt, List.drop_append, List.drop_of_length_le h, List.nil_append, leAt]

theorem byteAt_skip {a : Bytes} {o : Nat} (h : a.length ≤ o) (b : Bytes) :
    byteAt (a ++ b) o = byteAt b (o - a.length) := by
  rw [byteAt, List.getD_append_right _ _ _ _ h, byteAt]

@[simp] theorem byteAt_front (v : Nat) (r : Bytes) : byteAt (leBytes 1 v ++ r) 0 = v % 256 := BitVec.toNat_ofNat v 8

/-- The mark that every Uhlain packet begins with (R39). -/
theorem leAt_packetHead (typ : Nat) (r : Bytes) : leAt (packetHead typ ++ r) 0 2 = 0x4C55 := by
  simp only [leAt, packetHead, List.cons_append, List.drop_zero, List.take_succ_cons, List.take_zero]
  decide

theorem byteAt_packetHead_version (typ : Nat) (r : Bytes) : byteAt (packetHead typ ++ r) 2 = 1 := rfl

theorem byteAt_packetHead_type (typ : Nat) (r : Bytes) : byteAt (packetHead typ ++ r) 3 = typ % 256 :=
  BitVec.toNat_ofNat typ 8

/-! ## The cyclic redundancy checks -/

theorem iterate_succ_right {α : Type} (f : α → α) (n : Nat) (x : α) : iterate f (n + 1) x = f (iterate f n x) := by
  induction n generalizing x with
  | zero => rfl
  | succ n ih => exact ih (f x)

/-- What holds of a value and is kept by a function holds after any number of its applications. -/
theorem iterate_keeps {α : Type} {f : α → α} {P : α → Prop} (hf : ∀ x, P x → P (f x)) (n : Nat) {x : α} (hx : P x) :
    P (iterate f n x) := by
  induction n generalizing x with
  | zero => exact hx
  | succ n ih => exact ih (hf x hx)

theorem foldl_keeps {α β : Type} {f : α → β → α} {P : α → Prop} (hf : ∀ x b, P x → P (f x b)) (l : List β) {x : α}
    (hx : P x) : P (l.foldl f x) := by
  induction l generalizing x with
  | nil => exact hx
  | cons b r ih => exact ih (hf x b hx)

theorem byte_lt (b : Byte) {n : Nat} (hn : 8 ≤ n) : b.toNat < 2 ^ n :=
  lt_of_lt_of_le b.isLt (Nat.pow_le_pow_right (by decide) hn)

theorem crcStepRefl_lt {poly c n : Nat} (hp : poly < 2 ^ n) (hc : c < 2 ^ n) : crcStepRefl poly c < 2 ^ n := by
  have hs : c >>> 1 < 2 ^ n := lt_of_le_of_lt (Nat.shiftRight_le c 1) hc
  unfold crcStepRefl
  split
  · exact Nat.xor_lt_two_pow hs hp
  · exact hs

theorem crcByteRefl_lt {poly c n : Nat} (hn : 8 ≤ n) (hp : poly < 2 ^ n) (b : Byte) (hc : c < 2 ^ n) :
    crcByteRefl poly c b < 2 ^ n :=
  iterate_keeps (P := (· < 2 ^ n)) (fun _ h => crcStepRefl_lt hp h) 8 (Nat.xor_lt_two_pow hc (byte_lt b hn))

theorem crc32c_lt (bs : Bytes) : crc32c bs < 2 ^ 32 := by
  have hstep : ∀ (c : Nat) (b : Byte), c < 2 ^ 32 → crcByteRefl 0x82F63B78 c b < 2 ^ 32 :=
    fun _ b h => crcByteRefl_lt (by decide) (by decide) b h
  have hone : 0xFFFFFFFF < 2 ^ 32 := by decide
  exact Nat.xor_lt_two_pow (foldl_keeps (P := (· < 2 ^ 32)) hstep bs hone) hone

/-- A string with its CRC-32C appended carries it there. -/
theorem leAt_crc32c {b : Bytes} {k : Nat} (h : b.length = k) :
    leAt (b ++ leBytes 4 (crc32c b)) k 4 = crc32c ((b ++ leBytes 4 (crc32c b)).take k) := by
  subst h
  have hf := leAt_front 4 (crc32c b) []
  rw [List.append_nil] at hf
  rw [leAt_skip le_rfl, Nat.sub_self, hf, List.take_left, Nat.mod_eq_of_lt (show crc32c b < 256 ^ 4 from crc32c_lt b)]

theorem crcStep8_lt (c : Nat) : crcStep8 c < 256 := by
  unfold crcStep8
  split <;> exact Nat.mod_lt _ (by decide)

theorem crc8_lt (bs : Bytes) : crc8 bs < 256 :=
  foldl_keeps (P := (· < 256)) (fun _ _ _ => iterate_succ_right crcStep8 7 _ ▸ crcStep8_lt _) bs (by decide)

theorem crc8_append (bs : Bytes) (b : Byte) : crc8 (bs ++ [b]) = iterate crcStep8 8 (crc8 bs ^^^ b.toNat) := by
  rw [crc8, List.foldl_append]
  rfl

/-- One bit of the CRC-8: the byte moves up by one place, and the polynomial enters for the bit that leaves. -/
theorem crcStep8_eq : ∀ c < 256, crcStep8 c = if 128 ≤ c then (2 * c) % 256 ^^^ 0x07 else 2 * c := by decide +kernel

/-- A string with its CRC-8 appended leaves 0. -/
theorem crc8_self (bs : Bytes) : crc8 (bs ++ [BitVec.ofNat 8 (crc8 bs)]) = 0 := by
  rw [crc8_append, BitVec.toNat_ofNat, Nat.mod_eq_of_lt (crc8_lt bs), Nat.xor_self]
  rfl

end Sys2Proof.Machine
end

section
/-! The cells that a port sends: their headers, their sequence numbers and their slots (R31, R32, R34). -/

namespace Sys2Proof.Machine

/-! ## A cell's bytes -/

/-- The header of a cell, to its hcrc. -/
theorem take_cellBytes (kind seq : Nat) (body : Bytes) :
    (cellBytes kind seq body).take 3 = [BitVec.ofNat 8 kind, BitVec.ofNat 8 body.length, BitVec.ofNat 8 seq] := rfl

theorem byteAt_cellBytes_seq (kind seq : Nat) (body : Bytes) : byteAt (cellBytes kind seq body) 2 = seq % 256 :=
  BitVec.toNat_ofNat seq 8

theorem byteAt_cellBytes_hcrc (kind seq : Nat) (body : Bytes) :
    byteAt (cellBytes kind seq body) 3 = crc8 ((cellBytes kind seq body).take 3) := by
  rw [take_cellBytes]
  exact (BitVec.toNat_ofNat _ 8).trans (Nat.mod_eq_of_lt (crc8_lt _))

/-! ## Cells sent one by one -/

section
variable (s : State) (p kind : Nat) (body : Bytes)

theorem sendCell_out : (s.sendCell p kind body).out
    = s.out ++ [.cell p ((s.ulp p).txSlot % s.portLanes p) (cellBytes kind (((s.ulp p).txSeq + 1) % 256) body)] := rfl

theorem sendCell_txSeq : ((s.sendCell p kind body).ulp p).txSeq = ((s.ulp p).txSeq + 1) % 256 :=
  congrArg UlPort.txSeq (s.ulp_setUlp_same p _)

theorem sendCell_txSlot : ((s.sendCell p kind body).ulp p).txSlot = (s.ulp p).txSlot + 1 :=
  congrArg UlPort.txSlot (s.ulp_setUlp_same p _)

theorem portLanes_of_csr {s t : State} (h : t.csr = s.csr) (p : Nat) : t.portLanes p = s.portLanes p := by
  simp only [State.portLanes, State.rd_of_csr h]

/-- Idle cells take slots and no numbers. -/
theorem idleFill_ulp : (s.idleFill p).ulp p = { s.ulp p with txSlot := (s.ulp p).txSlot + Config.idleCells s.fresh } :=
  s.ulp_setUlp_same p _

theorem idleFill_out :
    (s.idleFill p).out = s.out ++ [.idle p (Config.idleCells s.fresh) (s.ulp p).txSeq] := rfl

end

/-! ## The cells of a packet -/

/-- The cells of a packet from index i on, when slot k and number q + 1 fall to its first cell. -/
theorem fold_sendCell_out {p k q n : Nat} (kind : Nat → Nat) (l : List Bytes) : ∀ {s : State} {i : Nat},
    s.portLanes p = n → (s.ulp p).txSlot = k + i → ((s.ulp p).txSeq + 1) % 256 = (q + i + 1) % 256 →
    (s.fold (l.zipIdx i) (fun s c => s.sendCell p (kind c.2) c.1)).out
      = s.out ++ (l.zipIdx i).map (fun c =>
          .cell p ((k + c.2) % n) (cellBytes (kind c.2) ((q + c.2 + 1) % 256) c.1)) := by
  unfold State.fold
  induction l with
  | nil => exact fun _ _ _ => (List.append_nil _).symm
  | cons b r ih =>
    intro s i hn hk hq
    have hn' : (s.sendCell p (kind i) b).portLanes p = n := (portLanes_of_csr (s.sendCell_csr p (kind i) b) p).trans hn
    rw [List.zipIdx_cons, List.foldl_cons, ih hn' (by rw [sendCell_txSlot, hk, Nat.add_assoc])
      (by rw [sendCell_txSeq, hq]; omega), sendCell_out, hk, hq, hn, List.append_assoc]
    rfl

/-- Every cell of a packet takes the next number. -/
theorem fold_sendCell_txSeq {p : Nat} (kind : Nat → Nat) {l : List Bytes} (hl : l ≠ []) : ∀ (s : State) (i : Nat),
    ((s.fold (l.zipIdx i) (fun s c => s.sendCell p (kind c.2) c.1)).ulp p).txSeq
      = ((s.ulp p).txSeq + l.length) % 256 := by
  unfold State.fold
  induction l with
  | nil => exact absurd rfl hl
  | cons b r ih =>
    intro s i
    have hseq := sendCell_txSeq s p (kind i) b
    rw [List.zipIdx_cons, List.foldl_cons, List.length_cons]
    by_cases hr : r = []
    · subst hr
      exact hseq
    · rw [ih hr, hseq]
      omega

theorem chunks_ne_nil {bs : Bytes} (h : bs ≠ []) : chunks bs.length bs ≠ [] := by
  obtain ⟨b, r, rfl⟩ := List.exists_cons_of_ne_nil h
  rw [List.length_cons, chunks]
  split <;> exact List.cons_ne_nil _ _

/-- A packet leaves behind its idle cells, cut into cells with consecutive numbers in consecutive slots. -/
theorem sendPacket_out (s : State) (p : Nat) (bs : Bytes) :
    (s.sendPacket p bs).out = s.out ++ [.idle p (Config.idleCells s.fresh) (s.ulp p).txSeq]
      ++ (chunks bs.length bs).zipIdx.map (fun c =>
        .cell p (((s.ulp p).txSlot + Config.idleCells s.fresh + c.2) % s.portLanes p)
          (cellBytes (cellKind (chunks bs.length bs).length c.2) (((s.ulp p).txSeq + c.2 + 1) % 256) c.1)) := by
  have hn := portLanes_of_csr (s.idleFill_csr p) p
  unfold State.sendPacket
  rw [fold_sendCell_out (cellKind (chunks bs.length bs).length) _ hn (by rw [idleFill_ulp, Nat.add_zero])
    (by rw [idleFill_ulp, Nat.add_zero]), idleFill_out]

theorem sendPacket_txSeq (s : State) (p : Nat) {bs : Bytes} (h : bs ≠ []) :
    ((s.sendPacket p bs).ulp p).txSeq = ((s.ulp p).txSeq + (chunks bs.length bs).length) % 256 := by
  unfold State.sendPacket
  rw [fold_sendCell_txSeq (cellKind (chunks bs.length bs).length) (chunks_ne_nil h), idleFill_ulp]

/-- Settles O57: the CRC-8 by its steps, and a packet's cells by induction on its pieces. -/
theorem cellsNumbered : Obligations.CellsNumbered := by
  unfold Obligations.CellsNumbered
  refine ⟨by decide +kernel, rfl, crc8_append, crcStep8_eq, crc8_self,
    fun kind seq body => ⟨byteAt_cellBytes_seq kind seq body, byteAt_cellBytes_hcrc kind seq body⟩,
    fun s p lane kind body => ⟨sendCell_out s p kind body, sendCell_txSeq s p kind body, rfl, rfl⟩, ?_⟩
  rintro s p bs n k rfl rfl
  exact ⟨sendPacket_out s p bs, sendPacket_txSeq s p⟩

end Sys2Proof.Machine
end

section
/-! Uhlain and castling ports: what moves a port between its states (R36, Table 2-4). -/

namespace Sys2Proof.Machine

/-! ## The commands while the core is on -/

section
variable {s : State} (h : s.off = false) (p : Fin 17) (lanes : BitVec 4)
include h

theorem exec_lanesLocked : exec (.lanesLocked p lanes) s = .next (s.lanesLocked p lanes.toNat) :=
  s.does_on h fun s => s.lanesLocked p lanes.toNat

theorem exec_portLinkLoss : exec (.portLinkLoss p lanes) s = .next (s.portLoss p lanes.toNat) :=
  s.does_on h fun s => s.portLoss p lanes.toNat

theorem exec_trainingTimeout : exec (.trainingTimeout p) s = .next (s.trainTimeout p) :=
  s.does_on h fun s => s.trainTimeout p

theorem exec_deskewComplete : exec (.deskewComplete p) s = .next (s.deskewDone p) := s.does_on h fun s => s.deskewDone p

theorem exec_deskewTimeout : exec (.deskewTimeout p) s = .next (s.deskewTimeout p) :=
  s.does_on h fun s => s.deskewTimeout p

end

/-! ## What a change of the locked lanes leaves alone -/

/-- The state field keeps its value when the locked lanes of the same register change. -/
theorem portState_setLanes (s : State) (p m : Nat) : (s.setLanes p m).rd (portState p) = s.rd (portState p) := by
  obtain ⟨hlo, hw⟩ := portState_lo p
  exact s.rd_setLanes p m (.inr (by omega))

theorem laneMask_setLanes (s : State) (p m : Nat) : (s.setLanes p m).laneMask p = s.laneMask p := by
  have hne : (R.IN_PORTCTL_lanes p).a ≠ (portField p R.IN_PORTSTAT_lane_lock R.CS_PORTSTAT_lane_lock).a := by
    unfold portField
    split
    · simp only [R.IN_PORTCTL_lanes, R.IN_PORTCTL, R.IN_PORTSTAT_lane_lock, R.IN_PORTSTAT]; omega
    · simp only [R.IN_PORTCTL_lanes, R.IN_PORTCTL, R.CS_PORTSTAT_lane_lock, R.CS_PORTSTAT]; omega
  simp only [State.laneMask, State.portLanes, s.rd_setLanes p m (.inl hne)]

/-! ## The rows of Table 2-4 -/

section
variable {s : State} {p mask : Nat}

theorem portState_of_portUp (h : s.portUp p = true) : s.rd (portState p) = 3 := of_decide_eq_true h

theorem portUp_of_portState {x : Nat} (h : s.rd (portState p) = x) : s.portUp p = decide (x = 3) := by
  rw [State.portUp, h]

/-- With all its configured lanes a training port begins deskew. -/
theorem lanesLocked_training (ht : s.rd (portState p) = 1) (hx : s.on R.REF_STATUS_xo_lost = false)
    (hl : mask &&& s.laneMask p = s.laneMask p) :
    s.lanesLocked p mask = (s.setLanes p (s.laneMask p)).setPort p 2 := by
  have ht' := (portState_setLanes s p (s.laneMask p)).trans ht
  simp [State.lanesLocked, portUp_of_portState ht, ht, ht', hx, hl, laneMask_setLanes]

/-- An UP port without one of them has lost its link. -/
theorem lanesLocked_lost (hu : s.portUp p = true) (hx : s.on R.REF_STATUS_xo_lost = false)
    (hl : mask &&& s.laneMask p ≠ s.laneMask p) : s.lanesLocked p mask = s.portLoss p (mask &&& s.laneMask p) := by
  simp [State.lanesLocked, portState_of_portUp hu, hu, hx, hl]

theorem trainTimeout_open (ht : s.rd (portState p) = 1) (ho : s.laneOpen p = true) :
    s.trainTimeout p = s.flag (portField p R.IN_PORTSTAT_train_timeout R.CS_PORTSTAT_train_timeout) := by
  simp only [State.trainTimeout, ht, ho, decide_true, Bool.and_self, if_true]

theorem deskewDone_found (hd : s.rd (portState p) = 2) {a : List Nat}
    (ha : a = (List.range (s.portLanes p)).map (fun l => smapGet 0 (s.ulp p).alAt l)) (h0 : 0 ∉ a) :
    s.deskewDone p =
      let skew := a.foldl max 0 - a.foldl min (a.headD 0)
      let s := s.wr (portField p R.IN_PORTSTAT_skew R.CS_PORTSTAT_skew) (min skew 255)
      if skew ≤ 200 then s.enterUp p
      else (s.flag (portField p R.IN_PORTSTAT_skew_err R.CS_PORTSTAT_skew_err)).train p := by
  have hc : a.contains 0 = false := by simpa using h0
  simp only [State.deskewDone, ← ha, hd, hc, decide_true, Bool.not_false, Bool.and_self, if_true]

theorem deskewTimeout_missing (hd : s.rd (portState p) = 2)
    (h0 : 0 ∈ (List.range (s.portLanes p)).map (fun l => smapGet 0 (s.ulp p).alAt l)) :
    s.deskewTimeout p = (s.flag (portField p R.IN_PORTSTAT_deskew_tmo R.CS_PORTSTAT_deskew_tmo)).train p := by
  obtain ⟨l, hl, he⟩ := List.mem_map.1 h0
  have hany : (List.range (s.portLanes p)).any (fun l => smapGet 0 (s.ulp p).alAt l == 0) = true :=
    List.any_eq_true.2 ⟨l, hl, beq_iff_eq.2 he⟩
  simp only [State.deskewTimeout, hd, hany, decide_true, Bool.and_self, if_true]

theorem portLoss_up (hu : s.portUp p = true) :
    s.portLoss p mask =
      let s := (s.leaveUp p).flag (portField p R.IN_PORTSTAT_went_down R.CS_PORTSTAT_went_down)
      let s := s.wr (portField p R.IN_PORTSTAT_lane_lock R.CS_PORTSTAT_lane_lock) mask
      if s.on (portField p R.IN_PORTCTL_auto_retrain R.CS_PORTCTL_auto_retrain) then s.train p else s.setPort p 4 := by
  simp only [State.portLoss, hu, if_true]

end

/-- Settles O1: each command by the row of Table 2-4 that its port stands in. -/
theorem linkStatesMove : Obligations.LinkStatesMove := by
  unfold Obligations.LinkStatesMove
  refine ⟨fun s p hoff => ⟨fun lanes ht hx hl => ?_, fun lanes hu hx hl => ?_, fun ht ho => ?_, fun hd a ha => ⟨fun h0 => ?_,
    fun h0 => ?_⟩, fun lanes hu => ?_⟩, fun s p x hx => ⟨s.rd_setPort p p.isLt hx, ?_, ?_⟩⟩
  · rw [exec_lanesLocked hoff, lanesLocked_training ht hx hl]
  · have hlt : lanes.toNat &&& s.laneMask p < 2 ^ 4 := lt_of_le_of_lt Nat.and_le_left lanes.isLt
    rw [exec_lanesLocked hoff, exec_portLinkLoss hoff, lanesLocked_lost hu hx hl, BitVec.toNat_ofNat,
      Nat.mod_eq_of_lt hlt]
  · rw [exec_trainingTimeout hoff, trainTimeout_open ht ho]
  · rw [exec_deskewComplete hoff, deskewDone_found hd ha h0]
  · rw [exec_deskewTimeout hoff, deskewTimeout_missing hd (ha ▸ h0)]
  · rw [exec_portLinkLoss hoff, portLoss_up hu]
  · exact State.rd_setPort _ p p.isLt (by decide)
  · exact State.rd_setPort _ p p.isLt (by decide)

end Sys2Proof.Machine
end

section
/-! Packets received whole: the checks of Table 2-9 and what each type does (R39 to R50). -/

namespace Sys2Proof.Machine

/-! ## The commands while the core is on -/

section
variable {s : State} (h : s.off = false) (p : Fin 16) (bs : Bytes)
include h

theorem exec_samplePacketReceive : exec (.samplePacketReceive p bs) s = .next (s.packetArrive p bs 0) :=
  s.does_on h fun s => s.packetArrive p bs 0

theorem exec_timingPacketReceive (ticks : Nat) :
    exec (.timingPacketReceive p bs ticks) s = .next (s.packetArrive p bs ticks) :=
  s.does_on h fun s => s.packetArrive p bs ticks

theorem exec_controlPacketReceive : exec (.controlPacketReceive p bs) s = .next (s.packetArrive p bs 0) :=
  s.does_on h fun s => s.packetArrive p bs 0

theorem exec_claimPacketReceive : exec (.claimPacketReceive p bs) s = .next (s.packetArrive p bs 0) :=
  s.does_on h fun s => s.packetArrive p bs 0

end

/-! ## The checks that every packet passes -/

theorem State.ago_zero (s : State) : s.ago 0 = s.tb.t := by
  rw [State.ago, Nat.zero_mul, Nat.sub_zero]

/-- Where no cell is lost a packet's cells take their slots and the packet is judged. -/
theorem packetArrive_clean {s : State} {p : Nat} (hu : s.portUp p = true) (hc : s.rxClean p = true) (bs : Bytes)
    (ticks : Nat) :
    s.packetArrive p bs ticks = (s.countCells p bs.length).packetTake p bs (s.ago ticks) := by
  simp only [State.packetArrive, hu, hc, Bool.not_true, Bool.false_eq_true, if_false, if_true]

section
variable {s : State} {p : Nat} {bs : Bytes} {typ : Nat} (arr : Nat)

theorem packetTake_headOk (h : s.headOk p bs typ) (ht : typ ≤ 3) :
    s.packetTake p bs arr = if typ = 0 then s.sampleTake p bs arr else if typ = 1 then s.timingTake p bs arr
      else if typ = 2 then s.controlTake p bs else s.claimTake p bs := by
  obtain ⟨hup, hroom, hmark, hver, htyp, hcrc⟩ := h
  have hhead : ¬(leAt bs 0 2 ≠ 0x4C55 ∨ byteAt bs 2 ≠ 1 ∨ 3 < typ) := by omega
  simp only [State.packetTake, hup, Bool.not_true, Bool.false_eq_true, if_false, if_neg (not_lt.2 hroom), htyp,
    if_neg hhead, hcrc, ne_eq, not_true_eq_false]

/-- Counting the cells of a packet changes neither registers nor what alignment has yet to place. -/
theorem headOk_countCells (n : Nat) : (s.countCells p n).headOk p bs typ ↔ s.headOk p bs typ := Iff.rfl

theorem sampleCheck_countCells (n : Nat) : (s.countCells p n).sampleCheck p bs = s.sampleCheck p bs := rfl

theorem alignQ_countCells (n : Nat) : (s.countCells p n).ul.alignQ = s.ul.alignQ := rfl

variable (hc : s.rxClean p = true) (ticks : Nat)
include hc

theorem packetArrive_sample (h : s.headOk p bs 0) :
    s.packetArrive p bs ticks = (s.countCells p bs.length).sampleTake p bs (s.ago ticks) := by
  rw [packetArrive_clean h.1 hc, packetTake_headOk _ ((headOk_countCells _).2 h) (by decide), if_pos rfl]

theorem packetArrive_timing (h : s.headOk p bs 1) :
    s.packetArrive p bs ticks = (s.countCells p bs.length).timingTake p bs (s.ago ticks) := by
  rw [packetArrive_clean h.1 hc, packetTake_headOk _ ((headOk_countCells _).2 h) (by decide), if_neg (by decide),
    if_pos rfl]

theorem packetArrive_control (h : s.headOk p bs 2) :
    s.packetArrive p bs ticks = (s.countCells p bs.length).controlTake p bs := by
  rw [packetArrive_clean h.1 hc, packetTake_headOk _ ((headOk_countCells _).2 h) (by decide), if_neg (by decide),
    if_neg (by decide), if_pos rfl]

theorem packetArrive_claim (h : s.headOk p bs 3) :
    s.packetArrive p bs ticks = (s.countCells p bs.length).claimTake p bs := by
  rw [packetArrive_clean h.1 hc, packetTake_headOk _ ((headOk_countCells _).2 h) (by decide), if_neg (by decide),
    if_neg (by decide), if_neg (by decide)]

end

/-! ## What each type does -/

section
variable {s : State} {p : Nat} {bs : Bytes} (arr : Nat)

theorem sampleTake_valid (hc : s.sampleCheck p bs = none)
    (hp : crc32c ((bs.drop 32).take (leAt bs 22 2)) = leAt bs (32 + leAt bs 22 2) 4) :
    s.sampleTake p bs arr = let d := s.inc (R.IN_CNT p 4)
      { d with ul := { d.ul with alignQ := s.ul.alignQ ++ [⟨p, leAt bs 4 2, leAt bs 6 2, leAt bs 8 2, byteAt bs 10,
          byteAt bs 11, leAt bs 12 8, leAt bs 20 2, false, false, bs, arr⟩] } } := by
  simp only [State.sampleTake, hc, hp, State.when, State.acceptSample, bne_self_eq_false, Bool.false_eq_true, if_false]
  rfl

theorem timingTake_valid (hlen : bs.length = 64) (htq : byteAt bs 6 < 6) (hfl : byteAt bs 7 < 4) (hfl0 : 0 < byteAt bs 7)
    (hz : allZero ((bs.drop 26).take 2) = true) (hz' : allZero ((bs.drop 46).take 14) = true) :
    s.timingTake p bs arr = ((s.inc (R.IN_CNT p 16)).setUlp p { s.ulp p with
        tim := ⟨leAt bs 8 8, leAt bs 16 6, leAt bs 22 4, arr / nsUnit / 1000000000, arr / nsUnit % 1000000000,
          byteAt bs 7⟩ }).linkEvent p arr bs := by
  have hok : ¬(bs.length ≠ 64 ∨ 6 ≤ byteAt bs 6 ∨ 4 ≤ byteAt bs 7 ∨ !(allZero ((bs.drop 26).take 2))
      ∨ !(allZero ((bs.drop 46).take 14))) := by
    simp only [hlen, hz, hz', ne_eq, not_true_eq_false, Bool.not_true, Bool.false_eq_true, or_false, false_or, not_or,
      not_le]
    exact ⟨htq, hfl⟩
  have hset : ¬ byteAt bs 7 % 4 = 0 := by omega
  simp only [State.timingTake, if_neg hok, if_neg hset]
  rfl

section
variable (hlen : bs.length = 252) (hb : byteAt bs 5 ≤ 240) (hcr : (s.ulp p).ctlRcvd ≠ (s.ulp p).rxLimit)
include hlen hb hcr

/-- A control packet that came with credit takes one; then its opcode acts. -/
theorem controlTake_credited (hop : byteAt bs 4 = 1 ∨ byteAt bs 4 = 2 ∨ byteAt bs 4 = 16) :
    s.controlTake p bs =
      let x := { s.ulp p with ctlRcvd := ((s.ulp p).ctlRcvd + 1) % 65536 }
      if byteAt bs 4 = 1 then (s.setUlp p x).setUlp p { x with
          txQ := x.txQ ++ [.echo (leAt bs 6 2) (leBytes 1 (byteAt bs 5) ++ (bs.drop 8).take 240)] }
      else if byteAt bs 4 = 16 then (s.setUlp p x).placeMessage p bs else s.setUlp p x := by
  have hok : ¬(bs.length ≠ 252 ∨ 240 < byteAt bs 5 ∨ (byteAt bs 4 ≠ 1 ∧ byteAt bs 4 ≠ 2 ∧ byteAt bs 4 ≠ 16)) := by
    omega
  simp only [State.controlTake, hcr, decide_false, Bool.false_eq_true, if_false, if_neg hok, State.ulp_setUlp_same]

theorem controlTake_echoReq (hop : byteAt bs 4 = 1) : s.controlTake p bs =
    let x := { s.ulp p with ctlRcvd := ((s.ulp p).ctlRcvd + 1) % 65536 }
    (s.setUlp p x).setUlp p { x with
      txQ := x.txQ ++ [.echo (leAt bs 6 2) (leBytes 1 (byteAt bs 5) ++ (bs.drop 8).take 240)] } := by
  rw [controlTake_credited hlen hb hcr (.inl hop), hop]
  rfl

theorem controlTake_echoResp (hop : byteAt bs 4 = 2) :
    s.controlTake p bs = s.setUlp p { s.ulp p with ctlRcvd := ((s.ulp p).ctlRcvd + 1) % 65536 } := by
  rw [controlTake_credited hlen hb hcr (.inr (.inl hop)), hop]
  rfl

theorem controlTake_hostMsg (hop : byteAt bs 4 = 16) : s.controlTake p bs =
    (s.setUlp p { s.ulp p with ctlRcvd := ((s.ulp p).ctlRcvd + 1) % 65536 }).placeMessage p bs := by
  rw [controlTake_credited hlen hb hcr (.inr (.inr hop)), hop]
  rfl

end

theorem claimTake_higher (hlen : bs.length = 32) (hz : allZero ((bs.drop 6).take 2) = true)
    (hz' : allZero ((bs.drop 24).take 4) = true) (hd : s.on (R.IN_PORTCTL_dom_en p) = true)
    (hc : s.rq (R.IN_DOMCLM (s.rd (R.IN_PORTCTL_dom p))) < leAt bs 8 8) :
    s.claimTake p bs = let d := s.rd (R.IN_PORTCTL_dom p)
      { (s.wq (R.IN_DOMCLM d) (leAt bs 8 8)) with
        ul := { s.ul with domSer := smapSet 0 s.ul.domSer d (leAt bs 16 8 + 1) } } := by
  simp only [State.claimTake, hlen, hz, hz', hd, hc, ne_eq, not_true_eq_false, Bool.not_true, Bool.false_eq_true,
    or_self, if_false, if_true]

end

/-! ## What counting cells and a port without a link reference leave alone -/

theorem State.fold_of_fixed {α : Type} {s : State} {f : State → α → State} (l : List α) (h : ∀ x ∈ l, f s x = s) :
    s.fold l f = s := by
  unfold State.fold
  induction l with
  | nil => rfl
  | cons x r ih =>
    rw [List.foldl_cons, h x List.mem_cons_self]
    exact ih fun y hy => h y (List.mem_cons_of_mem x hy)

/-- A timing packet changes nothing more on a port that no link reference in use stands on. -/
theorem linkEvent_unused {s : State} {p : Nat} (arr : Nat) (bs : Bytes)
    (h : ∀ r ∈ [6, 7], s.rd (R.REF_CFG_port r) ≠ p ∨ s.refState r = 0) : s.linkEvent p arr bs = s := by
  refine State.fold_of_fixed _ fun r hr => if_neg fun hc => ?_
  simp only [Bool.and_eq_true, decide_eq_true_eq, bne_iff_ne] at hc
  exact (h r hr).elim (fun hp => hp hc.1) (fun hs => hc.2 hs)

theorem countCells_rxSlot (s : State) (p n : Nat) :
    ((s.countCells p n).ulp p).rxSlot = (s.ulp p).rxSlot + cellsOf n := by
  rw [State.countCells, State.ulp_setUlp_same]

theorem countCells_ctlRcvd (s : State) (p n : Nat) : ((s.countCells p n).ulp p).ctlRcvd = (s.ulp p).ctlRcvd := by
  rw [State.countCells, State.ulp_setUlp_same]

theorem countCells_rxLimit (s : State) (p n : Nat) : ((s.countCells p n).ulp p).rxLimit = (s.ulp p).rxLimit := by
  rw [State.countCells, State.ulp_setUlp_same]

/-- Settles O2: the checks of every packet once, and then what each type does. -/
theorem packetsTaken : Obligations.PacketsTaken := by
  unfold Obligations.PacketsTaken
  refine ⟨fun s p bs hoff hcl => ⟨fun h hchk hcrc => ?_, fun ticks h hlen htq hfl hfl0 hz hz' => ?_,
    fun h hlen hb hcr => ?_, fun h hlen hz hz' hd hc => ?_⟩,
    fun s p n arr bs => ⟨rfl, rfl, rfl, countCells_rxSlot s p n, linkEvent_unused arr bs⟩⟩
  · rw [exec_samplePacketReceive hoff, packetArrive_sample hcl 0 h,
      sampleTake_valid _ ((sampleCheck_countCells _).trans hchk) hcrc, State.ago_zero, alignQ_countCells]
  · rw [exec_timingPacketReceive hoff, packetArrive_timing hcl ticks h, timingTake_valid _ hlen htq hfl hfl0 hz hz']
    rfl
  · have hcr' := hcr
    rw [← countCells_ctlRcvd s p bs.length, ← countCells_rxLimit s p bs.length] at hcr'
    rw [exec_controlPacketReceive hoff, packetArrive_control hcl 0 h, ← countCells_ctlRcvd s p bs.length]
    exact ⟨fun hop => congrArg _ (controlTake_echoReq hlen hb hcr' hop),
      fun hop => congrArg _ (controlTake_echoResp hlen hb hcr' hop),
      fun hop => congrArg _ (controlTake_hostMsg hlen hb hcr' hop)⟩
  · rw [exec_claimPacketReceive hoff, packetArrive_claim hcl 0 h,
      claimTake_higher (s := s.countCells p bs.length) hlen hz hz' hd hc]
    rfl

end Sys2Proof.Machine
end

section
/-! What a port takes in below the packets: codewords, cells, status cells and alignment cells (R30 to R35, R53). -/

namespace Sys2Proof.Machine

/-! ## The commands while the core is on -/

section
variable {s : State} (h : s.off = false) (p : Fin 17) (lane : Fin 4)
include h

theorem exec_codewordReceive (outcome : Fin 3) (overlap : Nat) :
    exec (.codewordReceive p lane outcome overlap) s = .next (s.codeword p lane outcome overlap) :=
  s.does_on h fun s => s.codeword p lane outcome overlap

theorem exec_cellReceive (cell : Bytes) (ticks : Nat) :
    exec (.cellReceive p lane ⟨cell, ticks⟩) s = .next (s.cellArrive p lane cell ticks) :=
  s.does_on h fun s => s.cellArrive p lane cell ticks

theorem exec_statusCellReceive (body : Bytes) : exec (.statusCellReceive p body) s = .next (s.statusArrive p body) :=
  s.does_on h fun s => s.statusArrive p body

theorem exec_alignmentCellReceive (inPlace : Bool) (ns : Nat) (body : Bytes) :
    exec (.alignmentCellReceive p lane inPlace ns body) s = .next (s.alignTake p lane inPlace ns body) :=
  s.does_on h fun s => s.alignTake p lane inPlace ns body

end

/-! ## Codewords (R30) -/

section
variable {s : State} {p lane : Nat} (overlap : Nat)
  (hl : (s.rd (portField p R.IN_PORTSTAT_lane_lock R.CS_PORTSTAT_lane_lock)).testBit lane = true)
include hl

theorem codeword_clean : s.codeword p lane 0 overlap = s := by
  simp only [State.codeword, hl, Bool.not_true, Bool.false_eq_true, if_false, if_true]

theorem codeword_corrected : s.codeword p lane 1 overlap = s.portCount p 0 := by
  simp only [State.codeword, hl, Bool.not_true, Bool.false_eq_true, if_false, one_ne_zero, if_true]

theorem codeword_uncorrectable (hu : s.portUp p = true) :
    s.codeword p lane 2 overlap = (s.setUlp p { s.ulp p with
      cwUncorr := ((s.ulp p).cwUncorr + 1) % 2 ^ 32,
      overlap := smapSet 0 (s.ulp p).overlap lane (smapGet 0 (s.ulp p).overlap lane + min 4 overlap) }).portCount p 1 := by
  simp only [State.codeword, hl, hu, Bool.not_true, Bool.false_eq_true, if_false, OfNat.ofNat_ne_zero,
    OfNat.ofNat_ne_one, if_true]

end

/-! ## Cells of the lanes in the order of their slots (R32) -/

theorem overlapped_none {s : State} {p lane : Nat} (h : smapGet 0 (s.ulp p).overlap lane = 0) :
    s.overlapped p lane = (false, s) := by
  simp only [State.overlapped, h, if_true]

theorem portLanes_le (s : State) (p : Nat) : s.portLanes p ≤ 4 := by
  unfold State.portLanes
  split
  · split <;> decide
  · exact le_rfl

/-- The cells that wait on a port's lane. -/
def State.waiting (s : State) (p lane : Nat) : List (Option (Bytes × Nat)) := smapGet [] (s.ulp p).laneQ lane

section
variable (s : State) (p lane : Nat) (c : Option (Bytes × Nat))

theorem queueCell_ulp : (s.queueCell p lane c).ulp p
    = { s.ulp p with laneQ := smapSet [] (s.ulp p).laneQ lane (s.waiting p lane ++ [c]) } :=
  s.ulp_setUlp_same p _

theorem waiting_queueCell_same : (s.queueCell p lane c).waiting p lane = s.waiting p lane ++ [c] := by
  rw [State.waiting, queueCell_ulp]
  exact smapGet_set_same _ _ _ _

theorem waiting_queueCell_ne {l : Nat} (h : l ≠ lane) : (s.queueCell p lane c).waiting p l = s.waiting p l := by
  rw [State.waiting, queueCell_ulp]
  exact smapGet_set_ne _ _ _ _ h

theorem rxSlot_queueCell : ((s.queueCell p lane c).ulp p).rxSlot = (s.ulp p).rxSlot := by
  rw [queueCell_ulp]

theorem portLanes_queueCell : (s.queueCell p lane c).portLanes p = s.portLanes p := rfl

end

/-- A cell on a configured lane that no codeword error reaches waits for its slot, and the cells whose slots have come are
taken. -/
theorem cellArrive_waits {s : State} {p lane : Nat} {cell : Bytes} {ticks : Nat} (hu : s.portUp p = true)
    (hlane : lane < s.portLanes p) (hk : byteAt cell 0 % 8 ≠ 1) (ho : smapGet 0 (s.ulp p).overlap lane = 0) :
    s.cellArrive p lane cell ticks = let t := s.queueCell p lane (some (cell, s.ago ticks))
      drainCells ((List.range 4).map (fun l => (t.waiting p l).length)).sum t p := by
  have hk' : (byteAt cell 0 % 8 == 1) = false := beq_false_of_ne hk
  simp only [State.cellArrive, hu, not_le.2 hlane, hk', overlapped_none ho, Bool.not_true, decide_false, Bool.or_self,
    Bool.false_eq_true, if_false]
  rfl

/-- While the lane of the next slot has no cell, none is taken. -/
theorem drainCells_missing {s : State} {p : Nat} (h : s.waiting p ((s.ulp p).rxSlot % s.portLanes p) = []) (n : Nat) :
    drainCells n s p = s := by
  unfold State.waiting at h
  have hn : s.nextCell p = none := by simp only [State.nextCell, h]
  cases n with
  | zero => rfl
  | succ n => simp only [drainCells, hn]

/-- The state in which a cell has been taken from the lane of the next slot. -/
def State.slotTaken (s : State) (p lane : Nat) (rest : List (Option (Bytes × Nat))) : State :=
  s.setUlp p { s.ulp p with laneQ := smapSet [] (s.ulp p).laneQ lane rest, rxSlot := (s.ulp p).rxSlot + 1 }

theorem slotTaken_ulp (s : State) (p lane : Nat) (rest : List (Option (Bytes × Nat))) :
    (s.slotTaken p lane rest).ulp p
      = { s.ulp p with laneQ := smapSet [] (s.ulp p).laneQ lane rest, rxSlot := (s.ulp p).rxSlot + 1 } :=
  s.ulp_setUlp_same p _

theorem drainCells_one {s : State} {p lane arr : Nat} {cell : Bytes} {rest : List (Option (Bytes × Nat))}
    (hl : (s.ulp p).rxSlot % s.portLanes p = lane) (h : s.waiting p lane = some (cell, arr) :: rest) :
    drainCells 1 s p = (s.slotTaken p lane rest).cellPacket p cell arr := by
  unfold State.waiting at h
  have hn : s.nextCell p = some (some (cell, arr), s.slotTaken p lane rest) := by
    simp only [State.nextCell, hl, h, State.slotTaken]
  simp only [drainCells, hn]

/-- A cell whose slot comes later than one not yet received waits on its lane. -/
theorem cellArrive_early {s : State} {p lane : Nat} {cell : Bytes} {ticks : Nat} (hu : s.portUp p = true)
    (hlane : lane < s.portLanes p) (hk : byteAt cell 0 % 8 ≠ 1) (ho : smapGet 0 (s.ulp p).overlap lane = 0)
    (hl : (s.ulp p).rxSlot % s.portLanes p ≠ lane)
    (hq : s.waiting p ((s.ulp p).rxSlot % s.portLanes p) = []) :
    s.cellArrive p lane cell ticks = s.queueCell p lane (some (cell, s.ago ticks)) := by
  rw [cellArrive_waits hu hlane hk ho]
  refine drainCells_missing ?_ _
  rw [rxSlot_queueCell, portLanes_queueCell, waiting_queueCell_ne _ _ _ _ hl, hq]

/-- The cell of the next slot is taken at once when no other waits. -/
theorem cellArrive_next {s : State} {p lane : Nat} {cell : Bytes} {ticks : Nat} (hu : s.portUp p = true)
    (hlane : lane < s.portLanes p) (hk : byteAt cell 0 % 8 ≠ 1) (ho : smapGet 0 (s.ulp p).overlap lane = 0)
    (hl : (s.ulp p).rxSlot % s.portLanes p = lane) (hq : ∀ l < 4, s.waiting p l = []) :
    s.cellArrive p lane cell ticks
      = ((s.queueCell p lane (some (cell, s.ago ticks))).slotTaken p lane []).cellPacket p cell (s.ago ticks) := by
  have hlane4 : lane < 4 := lt_of_lt_of_le hlane (portLanes_le s p)
  have hone : ∀ l < 4, ((s.queueCell p lane (some (cell, s.ago ticks))).waiting p l).length
      = if l = lane then 1 else 0 := by
    intro l hl4
    split
    · next e => rw [e, waiting_queueCell_same, hq lane hlane4]; rfl
    · next e => rw [waiting_queueCell_ne _ _ _ _ e, hq l hl4]; rfl
  have hsum : ((List.range 4).map (fun l =>
      ((s.queueCell p lane (some (cell, s.ago ticks))).waiting p l).length)).sum = 1 := by
    rw [List.map_congr_left fun l hl => hone l (List.mem_range.1 hl)]
    interval_cases lane <;> rfl
  rw [cellArrive_waits hu hlane hk ho]
  dsimp only
  rw [hsum]
  refine drainCells_one ?_ ?_
  · rw [rxSlot_queueCell, portLanes_queueCell, hl]
  · rw [waiting_queueCell_same, hq lane hlane4, List.nil_append]

/-! ## A cell in port order (R31, R34) -/

section
variable {s : State} {p arr : Nat} {cell : Bytes} (hu : s.portUp p = true)
include hu

theorem cellPacket_badHcrc (hc : crc8 (cell.take 3) ≠ byteAt cell 3) : s.cellPacket p cell arr = s.portCount p 2 := by
  simp only [State.cellPacket, State.cellTake, hu, hc, Bool.not_true, Bool.false_eq_true, if_false, ne_eq,
    not_false_eq_true, if_true]

/-- The only cell of a packet, in sequence, is that packet. -/
theorem cellPacket_only (hp : p < 16) (hc : crc8 (cell.take 3) = byteAt cell 3) (hk : byteAt cell 0 % 8 = 5)
    (hs : (s.ulp p).rxSeq = 0 ∨ (s.ulp p).rxSeq % 256 = byteAt cell 2) :
    s.cellPacket p cell arr =
      let x := { s.ulp p with rxSeq := byteAt cell 2 + 1, rxSkip := 0 }
      ((s.setUlp p x).setUlp p { x with pkt := none }).packetTake p ((cell.drop 4).take (min 252 (byteAt cell 1)))
        arr := by
  have hgap : ((s.ulp p).rxSeq != 0 && decide ((s.ulp p).rxSeq % 256 ≠ byteAt cell 2)) = false := by
    rcases hs with h | h <;> simp [h]
  have htake : s.cellTake p cell =
      let x := { s.ulp p with rxSeq := byteAt cell 2 + 1, rxSkip := 0 }
      ((s.setUlp p x).setUlp p { x with pkt := none }, some ((cell.drop 4).take (min 252 (byteAt cell 1)))) := by
    simp only [State.cellTake, hu, hc, hk, hgap, State.when, Bool.not_true, Bool.false_eq_true, if_false, ne_eq,
      not_true_eq_false]
    rfl
  simp only [State.cellPacket, htake, if_pos hp]

end

/-! ## Status and alignment cells (R33, R53) -/

theorem statusArrive_clean {s : State} {p : Nat} (hu : s.portUp p = true) (hc : s.rxClean p = true) (body : Bytes) :
    s.statusArrive p body =
      let x := { s.ulp p with rxSlot := (s.ulp p).rxSlot + 1,
                              rxSeq := if (s.ulp p).rxSeq = 0 then 0 else (s.ulp p).rxSeq % 256 + 1 }
      ((s.setUlp p x).setUlp p { x with upLimit := some (leAt body 2 2), upStat := body }).wr
        (portField p R.IN_PORTSTAT_up_rx_status R.CS_PORTSTAT_up_rx_status) 1 := by
  have hu' : ∀ x, (s.setUlp p x).portUp p = true := fun _ => hu
  simp only [State.statusArrive, State.statusTake, hu, hu', hc, Bool.not_true, Bool.false_eq_true, if_false, if_true,
    State.ulp_setUlp_same]

/-- An alignment cell on a lane of an UP port, which no codeword error reaches. -/
theorem alignTake_up {s : State} {p lane : Nat} (hu : s.portUp p = true) (hlane : lane < s.portLanes p)
    (ho : smapGet 0 (s.ulp p).overlap lane = 0) (inPlace : Bool) (ns : Nat) (body : Bytes) :
    s.alignTake p lane inPlace ns body =
      let k := if inPlace = true then 0 else smapGet 0 (s.ulp p).alMiss lane + 1
      let t := s.setUlp p { s.ulp p with alMiss := smapSet 0 (s.ulp p).alMiss lane k }
      if 3 ≤ k then t.portLoss p (s.rd (portField p R.IN_PORTSTAT_lane_lock R.CS_PORTSTAT_lane_lock)) else t := by
  have hst : ¬ s.rd (portState p) = 2 := by rw [portState_of_portUp hu]; decide
  simp only [State.alignTake, if_neg (not_le.2 hlane), overlapped_none ho, if_neg hst, hu, Bool.not_false, Bool.and_true,
    if_true, State.rd_setUlp]

/-- Settles O3: codewords, then a cell that waits or is taken, then the status and alignment cells. -/
theorem cellsTaken : Obligations.CellsTaken := by
  unfold Obligations.CellsTaken
  intro s p lane hoff hu
  refine ⟨fun overlap hl => ⟨?_, ?_, ?_⟩, fun cell ticks hlane hk ho => ⟨fun hl hq => ?_, fun hl hq => ?_⟩,
    fun body hc => ?_, fun inPlace ns body hlane ho => ?_⟩
  · rw [exec_codewordReceive hoff]
    exact congrArg _ (codeword_clean overlap hl)
  · rw [exec_codewordReceive hoff]
    exact congrArg _ (codeword_corrected overlap hl)
  · rw [exec_codewordReceive hoff]
    exact congrArg _ (codeword_uncorrectable overlap hl hu)
  · rw [exec_cellReceive hoff, cellArrive_early hu hlane hk ho hl hq]
  · rw [exec_cellReceive hoff, cellArrive_next hu hlane hk ho hl hq]
    generalize hgen : (s.queueCell p lane (some (cell, s.ago ticks))).slotTaken p lane [] = u
    have hcsr : u.csr = s.csr := hgen ▸ rfl
    have hup : u.portUp p = true := by rw [State.portUp, State.rd_of_csr hcsr]; exact hu
    have hslot : (u.ulp p).rxSlot = (s.ulp p).rxSlot + 1 := by rw [← hgen, slotTaken_ulp, rxSlot_queueCell]
    have hseq : (u.ulp p).rxSeq = (s.ulp p).rxSeq := by rw [← hgen, slotTaken_ulp, queueCell_ulp]
    have hpkt : (u.ulp p).pkt = (s.ulp p).pkt := by rw [← hgen, slotTaken_ulp, queueCell_ulp]
    refine ⟨u, hcsr, hgen ▸ rfl, hgen ▸ rfl, hslot, fun hc => ?_, fun hp hc hk5 hs => ?_⟩
    · rw [cellPacket_badHcrc hup hc]
    · rw [← hseq] at hs
      rw [cellPacket_only hup hp hc hk5 hs, ← hpkt]
  · rw [exec_statusCellReceive hoff, statusArrive_clean hu hc]
  · rw [exec_alignmentCellReceive hoff, alignTake_up hu hlane ho]

end Sys2Proof.Machine
end

section
/-! What a port sends: cells outside packets, and the packets of each type with their fields (R31 to R34, R43 to R54). -/

namespace Sys2Proof.Machine

/-! ## The commands while the core is on -/

section
variable {s : State} (h : s.off = false)
include h

theorem exec_statusCellSend (p : Fin 17) : exec (.statusCellSend p) s = .next (s.statusSend p) :=
  s.does_on h fun s => s.statusSend p

theorem exec_alignmentCellSend (p : Fin 17) : exec (.alignmentCellSend p) s = .next (s.alignSend p) :=
  s.does_on h fun s => s.alignSend p

theorem exec_claimPacketSend (p : Fin 16) : exec (.claimPacketSend p) s = .next (s.claimSend p) :=
  s.does_on h fun s => s.claimSend p

theorem exec_timingPacketSend (p : Fin 16) : exec (.timingPacketSend p) s = .next (s.timingSend p) :=
  s.does_on h fun s => s.timingSend p

theorem exec_controlPacketSend (p : Fin 16) : exec (.controlPacketSend p) s = .next (s.controlSend p) :=
  s.does_on h fun s => s.controlSend p

theorem exec_voltagePacketSend (p : Fin 16) (b) :
    exec (.voltagePacketSend p b) s = .next (s.voltageSend p b).handCheck :=
  s.does_on h fun s => (s.voltageSend p b).handCheck

end

/-! ## Cells outside packets -/

theorem statusSend_enabled {s : State} {p : Nat} (h : s.rd (portState p) ≠ 0) :
    s.statusSend p = (s.idleFill p).sendCell p 6 (s.statusBody p) := if_neg h

/-- Cells that take no number all carry the number of the last counted cell. -/
theorem fold_sendUncounted (p kind : Nat) (body : Nat → Bytes) (l : List Nat) : ∀ s : State,
    s.fold l (fun s i => s.sendUncounted p i kind (body i))
      = { s with out := s.out ++ l.map (fun i => .cell p i (cellBytes kind (s.ulp p).txSeq (body i))) } := by
  unfold State.fold
  induction l with
  | nil => exact fun s => by rw [List.foldl_nil, List.map_nil, List.append_nil]
  | cons i r ih =>
    intro s
    rw [List.foldl_cons, ih, List.map_cons]
    simp only [State.sendUncounted, State.emit, List.append_assoc, List.singleton_append]
    rfl

theorem alignSend_enabled {s : State} {p : Nat} (h : s.rd (portState p) ≠ 0) :
    s.alignSend p = { s with out := s.out ++ (List.range (s.portLanes p)).map (fun i => .cell p i
      (cellBytes 1 (s.ulp p).txSeq
        (leBytes 1 i ++ leBytes 1 (s.portLanes p) ++ leBytes 8 Config.serial.toNat))) } := by
  rw [State.alignSend, if_neg h]
  exact fold_sendUncounted p 1 _ _ s

/-! ## Claim packets -/

/-- A string with its CRC-32C appended. -/
def withCrc (b : Bytes) : Bytes := b ++ leBytes 4 (crc32c b)

theorem length_withCrc (b : Bytes) : (withCrc b).length = b.length + 4 := by
  rw [withCrc, List.length_append, length_leBytes]

/-- The part of a claim packet that its CRC covers (R44). -/
def State.claimHead (s : State) : Bytes :=
  packetHead 3 ++ leBytes 2 Config.serial.toNat ++ zeros 2 ++ leBytes 8 (s.rq R.CS_CLAIM)
    ++ leBytes 8 Config.serial.toNat ++ zeros 4

theorem claimSend_up {s : State} {p : Fin 16} (h : s.portUp p = true) :
    s.claimSend p = (s.setUlp p { s.ulp p with claimDue := false }).sendPacket p (withCrc s.claimHead) := by
  rw [State.claimSend, h, decide_eq_true p.isLt]
  rfl

theorem length_claimHead (s : State) : s.claimHead.length = 28 := by simp [State.claimHead]

theorem claimHead_fields (s : State) (r : Bytes) :
    leAt (s.claimHead ++ r) 0 2 = 0x4C55 ∧ byteAt (s.claimHead ++ r) 2 = 1 ∧ byteAt (s.claimHead ++ r) 3 = 3
      ∧ leAt (s.claimHead ++ r) 8 8 = s.rq R.CS_CLAIM % 2 ^ 64
      ∧ leAt (s.claimHead ++ r) 16 8 = Config.serial.toNat % 2 ^ 64 := by
  simp only [State.claimHead, List.append_assoc]
  refine ⟨leAt_packetHead _ _, rfl, byteAt_packetHead_type _ _, ?_, ?_⟩ <;> simp [leAt_skip]

/-! ## Timing packets -/

/-- The part of a timing packet that its CRC covers (R43). -/
def State.timingHead (s : State) : Bytes :=
  let ok (x : Nat) : Nat := if s.sceValid then x else 0
  let set (x : Nat) : Nat := if s.on R.TB_STATUS_set then x else 0
  let m := s.tb.epoch
  packetHead 1 ++ leBytes 2 Config.serial.toNat ++ leBytes 1 (s.rd R.REF_STATUS_tq) ++ leBytes 1 (ok 1 + set 2)
    ++ leBytes 8 (ok m.sE) ++ leBytes 6 (ok (m.tE.toNat / 1000000000)) ++ leBytes 4 (ok (m.tE.toNat % 1000000000))
    ++ zeros 2 ++ leBytes 8 (ok (rateOf m)) ++ leBytes 6 (set s.taiS) ++ leBytes 4 (set s.taiNs) ++ zeros 14

theorem timingSend_up {s : State} {p : Fin 16} (h : s.portUp p = true) (hr : s.on R.IN_CTL_tim_rate = true)
    (hw : s.mustWait p 4 = false) : s.timingSend p = s.sendPacket p (withCrc s.timingHead) := by
  rw [State.timingSend, h, decide_eq_true p.isLt, hr, hw]
  rfl

theorem length_timingHead (s : State) : s.timingHead.length = 60 := by simp [State.timingHead]

theorem timingHead_fields (s : State) (r : Bytes) :
    leAt (s.timingHead ++ r) 0 2 = 0x4C55 ∧ byteAt (s.timingHead ++ r) 2 = 1 ∧ byteAt (s.timingHead ++ r) 3 = 1
      ∧ byteAt (s.timingHead ++ r) 6 = s.rd R.REF_STATUS_tq % 256
      ∧ byteAt (s.timingHead ++ r) 7
        = ((if s.sceValid then 1 else 0) + (if s.on R.TB_STATUS_set then 2 else 0)) % 256
      ∧ leAt (s.timingHead ++ r) 8 8 = (if s.sceValid then s.tb.epoch.sE else 0) % 2 ^ 64
      ∧ leAt (s.timingHead ++ r) 36 6 = (if s.on R.TB_STATUS_set then s.taiS else 0) % 2 ^ 48
      ∧ leAt (s.timingHead ++ r) 42 4 = (if s.on R.TB_STATUS_set then s.taiNs else 0) % 2 ^ 32 := by
  simp only [State.timingHead, List.append_assoc]
  refine ⟨leAt_packetHead _ _, rfl, byteAt_packetHead_type _ _, ?_, ?_, ?_, ?_, ?_⟩ <;> simp [leAt_skip, byteAt_skip]

/-! ## Control packets -/

/-- The transmit slot i of a port, from its opcode on. -/
def State.slotBody (s : State) (p i : Nat) : Bytes :=
  (List.range 61).flatMap (fun w => leBytes 4 (s.word (R.IN_TXSLOT p i w)).toNat)

/-- The part of a control packet from transmit slot i that its CRC covers (R46). -/
def State.slotHead (s : State) (p i : Nat) : Bytes :=
  packetHead 2 ++ (s.slotBody p i).take 2 ++ leBytes 2 (s.ulp p).cseq ++ (s.slotBody p i).drop 4

/-- The part of an answer to an ECHO_REQ that its CRC covers (R46). -/
def echoHead (q : Nat) (body : Bytes) : Bytes := packetHead 2 ++ [0x02] ++ body.take 1 ++ leBytes 2 q ++ body.drop 1

section
variable {s : State} {p : Nat} {rest : List CtlTx} (hm : s.mayControl p = true) (hw : s.mustWait p 5 = false)
include hm hw

theorem controlSend_slot {i : Nat} (hq : (s.ulp p).txQ = .slot i :: rest) :
    s.controlSend p = (((s.setUlp p { s.ulp p with
        txQ := rest, ctlSent := ((s.ulp p).ctlSent + 1) % 65536, cseq := ((s.ulp p).cseq + 1) % 65536 }).wr
          (R.IN_CTLTX_send p) (setBit (s.rd (R.IN_CTLTX_send p)) i false)).sendPacket p (withCrc (s.slotHead p i))).inc
            (R.IN_CNT p 19) := by
  simp only [State.controlSend, hm, hw, hq, Bool.not_true, Bool.or_self, Bool.false_eq_true, if_false]
  rfl

theorem controlSend_echo {q : Nat} {body : Bytes} (hq : (s.ulp p).txQ = .echo q body :: rest) :
    s.controlSend p = ((s.setUlp p { s.ulp p with
        txQ := rest, ctlSent := ((s.ulp p).ctlSent + 1) % 65536 }).sendPacket p (withCrc (echoHead q body))).inc
          (R.IN_CNT p 19) := by
  simp only [State.controlSend, hm, hw, hq, Bool.not_true, Bool.or_self, Bool.false_eq_true, if_false]
  rfl

end

@[simp] theorem length_slotBody (s : State) (p i : Nat) : (s.slotBody p i).length = 244 := by
  simp [State.slotBody, List.length_flatMap]

theorem length_slotHead (s : State) (p i : Nat) : (s.slotHead p i).length = 248 := by simp [State.slotHead]

theorem slotHead_fields (s : State) (p i : Nat) (r : Bytes) :
    leAt (s.slotHead p i ++ r) 0 2 = 0x4C55 ∧ byteAt (s.slotHead p i ++ r) 3 = 2
      ∧ leAt (s.slotHead p i ++ r) 6 2 = (s.ulp p).cseq % 2 ^ 16 := by
  simp only [State.slotHead, List.append_assoc]
  refine ⟨leAt_packetHead _ _, byteAt_packetHead_type _ _, ?_⟩
  simp [leAt_skip]

theorem echoHead_fields (q : Nat) (body r : Bytes) :
    byteAt (echoHead q body ++ r) 3 = 2 ∧ byteAt (echoHead q body ++ r) 4 = 2
      ∧ (body ≠ [] → leAt (echoHead q body ++ r) 6 2 = q % 2 ^ 16) := by
  simp only [echoHead, List.append_assoc]
  refine ⟨byteAt_packetHead_type _ _, rfl, fun hb => ?_⟩
  obtain ⟨b, l, rfl⟩ := List.exists_cons_of_ne_nil hb
  rw [List.take_succ_cons, List.take_zero]
  rw [leAt_skip (by decide), leAt_skip (by decide), leAt_skip (by exact Nat.le_refl 1)]
  exact leAt_front 2 q _

/-! ## Sample packets of voltage -/

/-- The header of a sample packet, without its CRC (R40). -/
def voltageHead (b first cp fmt uf sc spc len claim : Nat) : Bytes :=
  packetHead 0 ++ leBytes 2 b ++ leBytes 2 first ++ leBytes 2 cp ++ leBytes 1 fmt ++ leBytes 1 uf ++ leBytes 8 sc
    ++ leBytes 2 spc ++ leBytes 2 len ++ leBytes 4 claim

theorem voltageHead_fields {b first cp fmt uf sc spc len claim : Nat} {bs : Bytes}
    (h : voltageHead b first cp fmt uf sc spc len claim <+: bs) :
    leAt bs 0 2 = 0x4C55 ∧ byteAt bs 3 = 0 ∧ leAt bs 4 2 = b % 2 ^ 16 ∧ leAt bs 6 2 = first % 2 ^ 16
      ∧ leAt bs 8 2 = cp % 2 ^ 16 ∧ leAt bs 12 8 = sc % 2 ^ 64 ∧ leAt bs 20 2 = spc % 2 ^ 16
      ∧ leAt bs 24 4 = claim % 2 ^ 32 := by
  obtain ⟨r, rfl⟩ := h
  simp only [voltageHead, List.append_assoc]
  refine ⟨leAt_packetHead _ _, byteAt_packetHead_type _ _, ?_, ?_, ?_, ?_, ?_, ?_⟩ <;> simp [leAt_skip]

theorem sendPacket_ba (s : State) (p : Nat) (bs : Bytes) : (s.sendPacket p bs).ba = s.ba :=
  ba_of_blank (sendPacket_offCast s p bs) (by decide)

/-- The next packet of a stream of voltage beams leaves, is counted, and the stream moves on. -/
theorem voltageSend_next {s : State} {p : Fin 16} {b sc j first cp spc fmt : Nat} (hb : s.hasBeam = true)
    (hu : s.portUp p = true) (ht : s.on (R.IN_PORTCTL_tx_en p) = true) (hw : s.mustWait p 6 = false)
    (hn : s.nextVoltage p b = some (sc, j, first, cp, spc, fmt)) (hm : s.mayVoltage p sc = true) :
    ∃ uf len bs, voltageHead b first cp fmt uf sc spc len (s.rq R.CS_CLAIM % 2 ^ 32) <+: bs
      ∧ s.voltageSend p b = State.inc { (s.sendPacket p bs) with
          ba := { s.ba with vpos := smapSet 0 s.ba.vpos (p * 2048 + b) (sc * 4096 + j + 1) } } (R.IN_CNT p 18) := by
  simp only [State.voltageSend, hb, hu, ht, hw, hn, hm, decide_eq_true p.isLt, Bool.and_self, Bool.not_true,
    Bool.or_self, Bool.false_eq_true, if_false, sendPacket_ba]
  exact ⟨_, _, _, (List.prefix_append _ _).trans ((List.prefix_append _ _).trans (List.prefix_append _ _)), rfl⟩

theorem handCheck_of_ne {s : State} (h : s.csState ≠ 5) : s.handCheck = s := if_neg h

theorem csState_inc_count (s : State) (p : Fin 16) : (s.inc (R.IN_CNT p 18)).csState = s.csState := by
  have ha : R.CS_STATUS_state.a ≠ R.IN_CNT p 18 := by
    change R.CS_STATUS ≠ _
    unfold R.IN_CNT R.CS_STATUS
    omega
  simp only [State.csState, State.rd, State.inc, State.word_incBy_ne _ _ ha]

/-! ## What waits -/

section
variable {s : State} {p : Nat} (h : (s.ulp p).claimDue = true)
include h

theorem mustWait_claimDue (cls : Nat) : s.mustWait p cls = true := by rw [State.mustWait, h, Bool.true_or]

theorem timingSend_claimDue : s.timingSend p = s := by
  rw [State.timingSend, mustWait_claimDue h, Bool.not_true, Bool.and_false]
  rfl

theorem controlSend_claimDue : s.controlSend p = s := by
  rw [State.controlSend, mustWait_claimDue h, Bool.or_true]
  rfl

theorem voltageSend_claimDue (b : Nat) : s.voltageSend p b = s := by
  rw [State.voltageSend, mustWait_claimDue h, Bool.or_true]
  rfl

end

/-! ## The obligation -/

/-- Settles O4: each packet's bytes as a header with its CRC, and the fields of each header by their offsets. -/
theorem portSends : Obligations.PortSends := by
  unfold Obligations.PortSends
  intro s hoff
  refine ⟨fun p hp => ⟨?_, ?_⟩, fun p hu => ?_, fun p hu hr hw => ?_, fun p rest hm hw => ⟨fun i hq _ => ?_,
    fun q body hq => ?_⟩, fun p b sc j first cp spc fmt hb hu ht hw hn hm hcs => ?_, fun p _ hc => ⟨?_, ?_, fun b hcs => ?_⟩⟩
  · rw [exec_statusCellSend hoff, statusSend_enabled hp]
  · rw [exec_alignmentCellSend hoff, alignSend_enabled hp]
  · obtain ⟨hmark, hver, htyp, hclaim, hser⟩ := claimHead_fields s (leBytes 4 (crc32c s.claimHead))
    rw [Nat.mod_eq_of_lt Config.serial.isLt] at hser
    exact ⟨withCrc s.claimHead, by rw [exec_claimPacketSend hoff, claimSend_up hu],
      by rw [length_withCrc, length_claimHead], hmark, hver, htyp, hclaim, hser, leAt_crc32c (length_claimHead s)⟩
  · obtain ⟨hmark, hver, htyp, htq, hfl, hsc, hsec, hns⟩ := timingHead_fields s (leBytes 4 (crc32c s.timingHead))
    have hq : s.rd R.REF_STATUS_tq < 256 := lt_trans (getBits_lt _ _ _) (by decide)
    rw [Nat.mod_eq_of_lt hq] at htq
    refine ⟨withCrc s.timingHead, by rw [exec_timingPacketSend hoff, timingSend_up hu hr hw],
      by rw [length_withCrc, length_timingHead], hmark, hver, htyp, htq, hfl.trans ?_, hsc.trans ?_, hsec.trans ?_,
      hns.trans ?_, leAt_crc32c (length_timingHead s)⟩
    · split <;> split <;> rfl
    · split <;> rfl
    · split <;> rfl
    · split <;> rfl
  · obtain ⟨hmark, htyp, hseq⟩ := slotHead_fields s p i (leBytes 4 (crc32c (s.slotHead p i)))
    exact ⟨withCrc (s.slotHead p i), by rw [exec_controlPacketSend hoff, controlSend_slot hm hw hq],
      by rw [length_withCrc, length_slotHead], hmark, htyp, hseq, leAt_crc32c (length_slotHead s p i)⟩
  · exact ⟨withCrc (echoHead q body), by rw [exec_controlPacketSend hoff, controlSend_echo hm hw hq],
      echoHead_fields q body _⟩
  · obtain ⟨uf, len, bs, hpre, hv⟩ := voltageSend_next hb hu ht hw hn hm
    obtain ⟨hmark, htyp, hbeam, hfirst, hcp, hsc, hspc, hclaim⟩ := voltageHead_fields hpre
    rw [Nat.mod_mod] at hclaim
    have hkeep : (s.voltageSend p b).csState = s.csState := by
      rw [hv, csState_inc_count]
      exact State.rd_of_csr (s.sendPacket_csr p bs) _
    exact ⟨bs, by rw [exec_voltagePacketSend hoff, handCheck_of_ne (hkeep ▸ hcs), hv], hmark, htyp, hbeam, hfirst, hcp,
      hsc, hspc, hclaim⟩
  · rw [exec_timingPacketSend hoff, timingSend_claimDue hc]
  · rw [exec_controlPacketSend hoff, controlSend_claimDue hc]
  · rw [exec_voltagePacketSend hoff, voltageSend_claimDue hc, handCheck_of_ne hcs]

end Sys2Proof.Machine
end

section
/-! Writes that act on ports (R36, Table 2-4): what a disable of an UP port can bring with it. -/

namespace Sys2Proof.Machine

/-! ## A selector window that is still open when a port goes down (R245, R250)

Disabling an UP port disqualifies the link reference on it. The selector first closes the window that was open before, and
when a reference qualified in that window an automatic step of the time of day follows. Before a step every packet that
waits is placed, so that its samples reach the slab in HBM. -/

/-- A packet of one sample that waits to be placed in the slab of round 0. -/
def waitingPacket : Accepted := ⟨1, 0, 0, 1, 0, 0, 0, 1, false, false, zeros 32 ++ [0x11, 0x11], 0⟩

/-- Port 0 is UP with link reference 6, which is selected and qualified in selector window 1; round 0 is open, and a packet of
it waits. -/
def openWindow : State :=
  let s := [(portState 0, 3), (R.REF_STAT_state 6, 5), (R.REF_STATUS_sel, 6), (R.TB_CTL_auto_step, 1), (R.AL_CTL_en, 1),
    (R.AL_SLABGEO_blk_m1, 0), (R.AL_SLABGEO_c_cnt, 1)].foldl (fun s x => s.wr x.1 x.2) State.reset
  let rf : RfState := { s.rf with events := [.trust 6], window := 1 }
  let al : AlState := { s.al with gOpen := 1, nextStart := 1, open_ := [0] }
  { s with rnd := 1, ul := { s.ul with alignQ := [waitingPacket] }, rf := rf, al := al }

theorem locate_portControl : (locate (R.IN_PORTCTL_en 0).a).isSome = true := by decide +kernel

/-- Master 1 may write the enable of port 0 there. -/
theorem openWindow_takes : openWindow.takes 1 (R.IN_PORTCTL_en 0).a (force 0 (R.IN_PORTCTL_en 0) 0) :=
  ⟨⟨by decide +kernel, Option.isNone_iff_eq_none.1 (by decide +kernel), rfl, by decide +kernel⟩,
    (locate (R.IN_PORTCTL_en 0).a).get locate_portControl, (Option.some_get locate_portControl).symm, by decide +kernel,
    by decide +kernel, by decide +kernel, by decide +kernel, Option.isNone_iff_eq_none.1 (by decide +kernel)⟩

theorem openWindow_mem : openWindow.mem = [] := by decide +kernel

/-- The disable of port 0 writes the two bytes of the waiting sample. -/
theorem openWindow_portWritten_mem :
    ((openWindow.landed 1 (R.IN_PORTCTL_en 0).a (force 0 (R.IN_PORTCTL_en 0) 0)).portWritten 0 false).mem.length = 2 := by
  decide +kernel

/-- Refutes O5: PORT_DISABLE of an UP port can write HBM, where a link reference qualified on it in the selector window
before: that window closes with an automatic step, before which the waiting packets are placed. -/
theorem not_portWrites : ¬ Obligations.PortWrites := by
  unfold Obligations.PortWrites
  intro ⟨h, _⟩
  obtain ⟨_, rfl, _, _, _, hmem⟩ := ((h openWindow 1 0).1 0).2 openWindow_takes
  have hlen : List.length [] = 2 := (congrArg List.length (hmem.trans openWindow_mem)).symm.trans openWindow_portWritten_mem
  exact absurd hlen (by decide)

end Sys2Proof.Machine
end

section
/-! Alignment started and stopped, its window, and captures (R60, R67, R77, R78, R81). -/

namespace Sys2Proof.Machine

/-! ## The value that lands in a register -/

section
variable {s : State} {m a : Nat} {v : Word} {l : Loc}

/-- A write of a 32-bit register changes its word only. -/
theorem landed_eq_setWord (hl : locate a = some l) (hp : l.reg.pair = false) :
    s.landed m a v = s.setWord a (BitVec.ofNat 32 (s.merged m false l (s.before l a) v.toNat)) := by
  simp only [State.landed, hl, State.store, hp, Bool.false_eq_true, if_false]

theorem rd_landed_ne (hl : locate a = some l) (hp : l.reg.pair = false) {g : FRef} (hg : g.a ≠ a) :
    (s.landed m a v).rd g = s.rd g := by
  simp only [State.rd, landed_eq_setWord hl hp, State.word_setWord_ne _ _ hg]

/-- A bit that the master's write sets and no guard keeps takes the written value. -/
theorem merged_testBit_set {old raw i : Nat} (hfix : s.fixedBits l = (0, 0))
    (hset : (l.reg.bits (fun f => f.sets && s.owns m false l f)).testBit i = true)
    (hfree : (s.guards l).1.testBit i = false) (hw1c : (l.reg.bits (fun f => f.acc = .w1c)).testBit i = false) :
    (s.merged m false l old raw).testBit i = raw.testBit i := by
  simp only [State.merged, hard_of_noFixedBits hfix, Nat.testBit_or, Nat.testBit_and, without_testBit, blend_testBit, hset,
    Bool.false_eq_true, if_false, if_true, hfree, hw1c, Bool.and_false, Bool.not_false, Bool.and_true]
  cases raw.testBit i <;> simp

/-- A field that the master's write sets and no guard keeps reads the written value. -/
theorem rd_landed_set {f : FRef} (hl : locate f.a = some l) (hp : l.reg.pair = false) (hfix : s.fixedBits l = (0, 0))
    (hfit : f.lo + f.w ≤ 32)
    (hbits : ∀ i < f.w, (l.reg.bits (fun f => f.sets && s.owns m false l f)).testBit (f.lo + i) = true
      ∧ (s.guards l).1.testBit (f.lo + i) = false ∧ (l.reg.bits (fun f => f.acc = .w1c)).testBit (f.lo + i) = false) :
    (s.landed m f.a v).rd f = getBits v.toNat f.lo f.w := by
  refine Nat.eq_of_testBit_eq fun i => ?_
  rw [State.rd, landed_eq_setWord hl hp, State.word_setWord_same, getBits_testBit, getBits_testBit, BitVec.toNat_ofNat,
    Nat.testBit_mod_two_pow]
  by_cases hi : i < f.w
  · obtain ⟨hset, hfree, hw1c⟩ := hbits i hi
    have hlt : f.lo + i < 32 := by omega
    rw [merged_testBit_set hfix hset hfree hw1c, decide_eq_true hlt, Bool.true_and]
  · simp only [hi, decide_false, Bool.false_and]

end

theorem getBits_force (v : Word) {f : FRef} (x : Nat) (hf : f.lo + f.w ≤ 32) :
    getBits (force v f x).toNat f.lo f.w = x % 2 ^ f.w := by
  rw [force, BitVec.toNat_ofNat, Nat.mod_eq_of_lt (putBits_lt v.isLt hf), getBits_putBits_same]

/-! ## AL_CTL, AL_WIN and AL_CAPCTL -/

/-- AL_CTL. -/
def locAlCtl : Loc := ⟨⟨.AL_CTL, 0x0, [], false, [⟨1, 1, .rw, 0, []⟩, ⟨0, 0, .rw, 0, []⟩]⟩, [], false⟩

/-- AL_WIN. -/
def locAlWin : Loc := ⟨⟨.AL_WIN, 0x8, [], false, [⟨12, 0, .rw, 500, [(10, 4000)]⟩]⟩, [], false⟩

/-- AL_CAPCTL. -/
def locCapCtl : Loc := ⟨⟨.AL_CAPCTL, 0x90, [], false, [⟨5, 5, .rw, 0, []⟩, ⟨4, 4, .rw, 0, []⟩, ⟨3, 3, .rw, 0, []⟩,
  ⟨2, 2, .rw, 0, []⟩, ⟨1, 1, .wo, 0, []⟩, ⟨0, 0, .wo, 0, []⟩]⟩, [], false⟩

theorem locate_alCtl : locate R.AL_CTL = some locAlCtl := by decide
theorem locate_alWin : locate R.AL_WIN = some locAlWin := by decide
theorem locate_capCtl : locate R.AL_CAPCTL = some locCapCtl := by decide

section
variable {s : State} {m : Nat} {v : Word}

/-- Alignment's enable is no guarded bit of AL_CTL. -/
theorem rd_landed_alEn : (s.landed m R.AL_CTL v).rd R.AL_CTL_en = getBits v.toNat 0 1 := by
  have hset : locAlCtl.reg.bits (fun f => f.sets && s.owns m false locAlCtl f) = 3 := by
    simp [Reg.bits, locAlCtl, Fld.sets, State.owns, Fld.mask]
  have hguard : (s.guards locAlCtl).1 = if s.on R.AL_CTL_en = true then 2 else 0 := rfl
  refine rd_landed_set (f := R.AL_CTL_en) locate_alCtl rfl rfl (by decide) fun i hi => ?_
  obtain rfl : i = 0 := Nat.lt_one_iff.1 hi
  rw [hset, hguard]
  refine ⟨rfl, ?_, rfl⟩
  split <;> rfl

theorem rd_landed_window : (s.landed m R.AL_WIN v).rd R.AL_WIN_win_us = v.toNat % 2 ^ 13 := by
  have hset : locAlWin.reg.bits (fun f => f.sets && s.owns m false locAlWin f) = 2 ^ 13 - 1 := rfl
  have hw1c : locAlWin.reg.bits (fun f => f.acc = .w1c) = 0 := rfl
  have hguard : (s.guards locAlWin).1 = 0 := rfl
  refine rd_landed_set (f := R.AL_WIN_win_us) locate_alWin rfl rfl (by decide) fun i hi => ?_
  rw [hset, hw1c, hguard, Nat.testBit_two_pow_sub_one, Nat.zero_testBit]
  exact ⟨decide_eq_true (by simpa [R.AL_WIN_win_us] using hi), rfl, rfl⟩

end

/-! ## The commands by what their registers do -/

section
variable {s : State} {m : Fin 20} {v : Word}

/-- A write of AL_CTL starts or stops alignment when it changes en. -/
theorem writeWord_alCtl {w : Word} (h : s.takes m R.AL_CTL w) : s.writeWord m R.AL_CTL w =
    (let t := s.landed m R.AL_CTL w;
      if t.on R.AL_CTL_en = true then (if s.on R.AL_CTL_en = true then t else t.alignEnable)
      else if s.on R.AL_CTL_en = true then t.alignDisable else t).okResp [] :=
  writeWord_effect h locate_alCtl (by decide) rfl

theorem on_landed_force_alEn (x : Nat) :
    (s.landed m R.AL_CTL (force v R.AL_CTL_en x)).on R.AL_CTL_en = (x % 2 != 0) := by
  rw [State.on, rd_landed_alEn]
  exact congrArg (· != 0) (getBits_force v x (f := R.AL_CTL_en) (by decide))

theorem exec_alignmentEnable (h : s.takes m R.AL_CTL (force v R.AL_CTL_en 1)) (hoff : s.on R.AL_CTL_en = false) :
    exec (.alignmentEnable m v) s = .next (((s.landed m R.AL_CTL (force v R.AL_CTL_en 1)).alignEnable).okResp []) := by
  have hw := writeWord_alCtl h
  simp only [on_landed_force_alEn, hoff] at hw
  exact (s.does_on h.1.1 fun s => s.writeWord m R.AL_CTL (force v R.AL_CTL_en 1)).trans (congrArg _ hw)

theorem exec_alignmentDisable (h : s.takes m R.AL_CTL (force v R.AL_CTL_en 0)) (hon : s.on R.AL_CTL_en = true) :
    exec (.alignmentDisable m v) s = .next (((s.landed m R.AL_CTL (force v R.AL_CTL_en 0)).alignDisable).okResp []) := by
  have hw := writeWord_alCtl h
  simp only [on_landed_force_alEn, hon] at hw
  exact (s.does_on h.1.1 fun s => s.writeWord m R.AL_CTL (force v R.AL_CTL_en 0)).trans (congrArg _ hw)

theorem exec_windowChange (h : s.takes m R.AL_WIN v) :
    exec (.windowChange m v) s = .next ((s.landed m R.AL_WIN v).bindWindow.okResp []) := by
  have hw : s.writeWord m R.AL_WIN v = (s.landed m R.AL_WIN v).bindWindow.okResp [] :=
    writeWord_effect h locate_alWin (by decide) rfl
  exact (s.does_on h.1.1 fun s => s.writeWord m R.AL_WIN v).trans (congrArg _ hw)

/-- A write of AL_CAPCTL releases the held capture and asks for a freeze as its command bits say. -/
theorem writeWord_capCtl {w : Word} (h : s.takes m R.AL_CAPCTL w) : s.writeWord m R.AL_CAPCTL w
    = (((s.landed m R.AL_CAPCTL w).when (w.toNat.testBit 1) (·.captureRelease)).when (w.toNat.testBit 0)
        (·.freezeCommand)).okResp [] :=
  writeWord_effect h locate_capCtl (by decide) rfl

theorem exec_freezeCommand (h : s.takes m R.AL_CAPCTL (force v R.AL_CAPCTL_freeze 1)) (hv : v.toNat.testBit 1 = false) :
    exec (.freezeCommand m v) s
      = .next (((s.landed m R.AL_CAPCTL (force v R.AL_CAPCTL_freeze 1)).freezeCommand).okResp []) := by
  have hfreeze : (force v R.AL_CAPCTL_freeze 1).toNat.testBit 0 = true := force_testBit (by decide) 0
  have hkeep : (force v R.AL_CAPCTL_freeze 1).toNat.testBit 1 = false := (force_testBit (by decide) 1).trans hv
  have hw := writeWord_capCtl h
  rw [hfreeze, hkeep] at hw
  exact (s.does_on h.1.1 fun s => s.writeWord m R.AL_CAPCTL (force v R.AL_CAPCTL_freeze 1)).trans (congrArg _ hw)

theorem exec_captureRelease (h : s.takes m R.AL_CAPCTL (force v R.AL_CAPCTL_release 1)) (hv : v.toNat.testBit 0 = false) :
    exec (.captureRelease m v) s
      = .next (((s.landed m R.AL_CAPCTL (force v R.AL_CAPCTL_release 1)).captureRelease).okResp []) := by
  have hfree : (force v R.AL_CAPCTL_release 1).toNat.testBit 0 = false := (force_testBit (by decide) 0).trans hv
  have hrelease : (force v R.AL_CAPCTL_release 1).toNat.testBit 1 = true := force_testBit (by decide) 1
  have hw := writeWord_capCtl h
  rw [hfree, hrelease] at hw
  exact (s.does_on h.1.1 fun s => s.writeWord m R.AL_CAPCTL (force v R.AL_CAPCTL_release 1)).trans (congrArg _ hw)

end

/-! ## A window that binds (R67) -/

section
variable {s : State}

/-- While a window waits, AL_STATUS says so. -/
theorem notePending_window {n us : Nat} (h : (n, Change.win us) ∈ s.bound) :
    s.notePending.rd R.AL_STATUS_w_pending = 1 := by
  unfold State.notePending
  rw [State.rd_wr_ne _ _ (by decide), State.rd_wr_same _ _ _ (by decide), if_pos (List.any_eq_true.2 ⟨_, h, rfl⟩)]
  rfl

theorem rd_bindWindow_window : s.bindWindow.rd R.AL_WIN_win_us = s.rd R.AL_WIN_win_us := by
  unfold State.bindWindow State.notePending
  rw [State.rd_wr_ne _ _ (by decide), State.rd_wr_ne _ _ (by decide)]
  rfl

theorem bindWindow_bound : s.bindWindow.bound = s.bound ++ [(s.nextRound, .win (s.rd R.AL_WIN_win_us))] := by
  rw [State.bindWindow, State.notePending, State.wr_bound, State.wr_bound]
  rfl

theorem mem_bound_bindChange (n : Nat) (c : Change) : (n, c) ∈ (s.bindChange n c).bound :=
  List.mem_append_right _ (List.mem_singleton_self _)

theorem rd_bindWindow_pending : s.bindWindow.rd R.AL_STATUS_w_pending = 1 := by
  unfold State.bindWindow
  exact notePending_window (mem_bound_bindChange _ _)

/-- A window binds in registers and among the bound changes only. -/
theorem bindWindow_blank (s : State) : s.bindWindow.blank (2 ^ 2 + 2 ^ 7) = s.blank (2 ^ 2 + 2 ^ 7) :=
  (upd_csr _ (by decide) _ _).trans ((upd_csr _ (by decide) _ _).trans (upd_bound _ (by decide) s _))

/-- A written window waits, behind the changes bound already, for the next boundary. -/
theorem bindWindow_landed {m : Nat} {v : Word} {t : State} (ht : t = (s.landed m R.AL_WIN v).bindWindow.okResp []) :
    t.rd R.AL_WIN_win_us = v.toNat % 2 ^ 13 ∧ t.bound = s.bound ++ [(s.nextRound, .win (v.toNat % 2 ^ 13))]
      ∧ t.rd R.AL_STATUS_w_pending = 1 ∧ t.al = s.al ∧ t.mem = s.mem ∧ t.out = s.out := by
  have hwin := rd_landed_window (s := s) (m := m) (v := v)
  obtain ⟨x, hx⟩ : ∃ x, s.landed m R.AL_WIN v = s.setWord R.AL_WIN x := ⟨_, landed_eq_setWord locate_alWin rfl⟩
  have hblank := bindWindow_blank (s.landed m R.AL_WIN v)
  rw [ht]
  refine ⟨?_, ?_, ?_, ?_, ?_, ?_⟩
  · rw [State.rd_okResp, rd_bindWindow_window, hwin]
  · rw [State.okResp_bound, bindWindow_bound, hwin, hx, s.nextRound_setWord_ne x (by decide), State.setWord_bound]
  · rw [State.rd_okResp, rd_bindWindow_pending]
  · rw [State.okResp_al, al_of_blank hblank (by decide), hx, State.setWord_al]
  · rw [State.okResp_mem, mem_of_blank hblank (by decide), hx, State.setWord_mem]
  · rw [State.okResp_out, out_of_blank hblank (by decide), hx, State.setWord_out]

end

/-! ## Captures (R77, R78) -/

section
variable {s : State}

/-- A release ends the held capture: its instance leaves the output. -/
theorem captureRelease_held (h : s.on R.AL_STATUS_cap_held = true) :
    s.captureRelease = ((State.wr { s with ot := { s.ot with
      insts := s.ot.insts.filter (fun x => x.typ ≠ 5), sealed := s.ot.sealed.filter (fun k => k % 8 ≠ 5) } }
      R.AL_STATUS_cap_held 0).fire 86) := by
  simp only [State.captureRelease, h, if_true]

/-- A release of the held capture leaves none, and fires E086. -/
theorem captureRelease_landed {m : Nat} {w : Word} {t : State} (h : s.on R.AL_STATUS_cap_held = true)
    (ht : t = (s.landed m R.AL_CAPCTL w).captureRelease.okResp []) :
    t.on R.AL_STATUS_cap_held = false ∧ (86, 0) ∈ t.evq ∧ t.ot.insts = s.ot.insts.filter (fun x => x.typ ≠ 5)
      ∧ t.al = s.al ∧ t.mem = s.mem ∧ t.out = s.out := by
  obtain ⟨x, hx⟩ : ∃ x, s.landed m R.AL_CAPCTL w = s.setWord R.AL_CAPCTL x := ⟨_, landed_eq_setWord locate_capCtl rfl⟩
  have hheld : (s.setWord R.AL_CAPCTL x).on R.AL_STATUS_cap_held = true := by
    rw [← hx, State.on, rd_landed_ne locate_capCtl rfl (by decide)]
    exact h
  rw [hx, captureRelease_held hheld] at ht
  subst ht
  refine ⟨?_, List.mem_append_right _ (List.mem_singleton_self _), rfl, rfl, rfl, rfl⟩
  rw [State.on, State.rd_okResp, State.rd_fire, State.rd_wr_same _ _ _ (by decide)]
  rfl

theorem freezeRound_taken (m : Nat) (h : s.on R.AL_STATUS_cap_held = true ∨ s.al.freeze.isSome = true) :
    s.freezeRound m = (s.freezeRefuse 2, false) := by
  have hc : (s.on R.AL_STATUS_cap_held || s.al.freeze.isSome) = true := Bool.or_eq_true_iff.2 h
  simp only [State.freezeRound, hc, if_true]

/-- The freeze of round m waits, with the selection of channels and streams that the capture keeps. -/
def State.freezeWaits (s : State) (m : Nat) : State :=
  State.wr (State.wr { s with
    al := { s.al with freeze := some m }
    ot := { s.ot with
      capSel := (s.rd R.OT_CAPA_a_lo, s.rd R.OT_CAPA_a_num, s.rd R.OT_CAPC_c_lo, s.rd R.OT_CAPB_c_num) } }
    R.AL_CAPSTAT_result 1) R.AL_CAPSTAT_pending 1

theorem freezeRound_accepted {m : Nat} (hheld : s.on R.AL_STATUS_cap_held = false) (hfree : s.al.freeze = none)
    (hlate : s.al.nextStart ≤ m + 2) (hcap : s.on R.AL_CTL_cap_en = true) (heg : s.on R.AL_STATUS_endgame = false)
    (hfirst : s.al.first ≤ m) (hslab : m ∉ s.al.noSlab) (hen : s.on R.AL_CTL_en = true) :
    s.freezeRound m = (s.freezeWaits m, true) := by
  have hgone : (decide (m < s.al.first) || s.al.noSlab.contains m) = false := by simp [hfirst, hslab]
  simp only [State.freezeRound, hheld, hfree, hcap, heg, hen, hgone, not_lt.2 hlate]
  rfl

theorem rd_freezeWaits_result (m : Nat) : (s.freezeWaits m).rd R.AL_CAPSTAT_result = 1 := by
  unfold State.freezeWaits
  rw [State.rd_wr_disjoint (f := R.AL_CAPSTAT_pending) (g := R.AL_CAPSTAT_result) _ _ (by decide) rfl (by decide),
    State.rd_wr_same _ _ _ (by decide)]
  rfl

theorem rd_freezeWaits_pending (m : Nat) : (s.freezeWaits m).rd R.AL_CAPSTAT_pending = 1 :=
  State.rd_wr_same _ _ _ (by decide)

end

/-! ## Alignment starts and stops (R60, R81) -/

section
variable {s : State}

theorem alignEnable_refused {r : Nat} (h : s.alignReason = some r) :
    s.alignEnable = ((s.wr R.AL_CTL_en 0).wr R.AL_STATUS_cfg_reason r).flag R.AL_STATUS_cfg_err := by
  simp only [State.alignEnable, h]

/-- The first round after the horizon. -/
def State.roundAfter (s : State) : Nat := if s.horizon < s.origin then 0 else (s.horizon - s.origin) / s.roundLen + 1

/-- The slab buffers take their places, unless a capture is held in one of them. -/
def State.placeBuffers (s : State) : State :=
  if s.on R.AL_STATUS_cap_held then s
  else ((s.wr R.AL_STATUS_pos0_buf 0).wr R.AL_STATUS_pos1_buf 1).wr R.AL_STATUS_cap_buf 2

/-- A freeze of a round before the first is cancelled. -/
def State.cancelBefore (s : State) (first : Nat) : State :=
  match s.al.freeze with
  | some m => if m < first then s.freezeCancel else s
  | none => s

/-- The sizes of the slab and of the ring are shown, and a freeze of a round that will not be written is cancelled. -/
def State.sizeSlab (s : State) : State :=
  let t := (s.wq R.AL_SLABSIZE s.slabSize).wq R.AL_RINGSIZE (s.ringSize s.pktMin s.gOpenOf)
  (t.wr R.AL_TPCTL_tp_log2 t.tpLog2).cancelBefore s.roundAfter

/-- The state in which alignment starts, but for what it holds of rounds and whether it is active. -/
def State.readied (s : State) : State := s.dropAccepted.placeBuffers.sizeSlab

theorem alignEnable_starts (h : s.alignReason = none) : ∃ al : AlState,
    s.alignEnable = State.wr { s.readied with al := al } R.AL_STATUS_active (if s.readied.on R.AL_STATUS_endgame then 0 else 1)
      ∧ al.nextStart = s.dropAccepted.placeBuffers.roundAfter ∧ al.first = s.dropAccepted.placeBuffers.roundAfter
      ∧ al.open_ = [] := by
  simp only [State.alignEnable, h]
  exact ⟨_, rfl, rfl, rfl, rfl⟩

/-! ### What that leaves alone -/

/-- Packets that wait when alignment starts leave the queue and move the reach of their streams. -/
theorem dropAccepted_blank (s : State) : s.dropAccepted.blank (2 ^ 11 + 2 ^ 12) = s.blank (2 ^ 11 + 2 ^ 12) := by
  refine (upd_ul _ (by decide) _ _).trans (fold_blank _ _ (fun t x => ?_) _ _)
  unfold State.noteReach
  split
  · rfl
  · exact upd_al _ (by decide) t _

theorem word_dropAccepted (a : Nat) : s.dropAccepted.word a = s.word a :=
  State.word_of_csr (csr_of_blank (dropAccepted_blank s) (by decide)) a

theorem word_placeBuffers_ne {a : Nat} (h : a ≠ R.AL_STATUS) : s.placeBuffers.word a = s.word a := by
  unfold State.placeBuffers
  split
  · rfl
  · rw [State.word_wr_ne _ _ h, State.word_wr_ne _ _ h, State.word_wr_ne _ _ h]

theorem endgame_placeBuffers : s.placeBuffers.rd R.AL_STATUS_endgame = s.rd R.AL_STATUS_endgame := by
  have hkeep : ∀ (t : State) (f : FRef) (v : Nat), f.a = R.AL_STATUS → 6 ≤ f.lo → f.lo + f.w ≤ 32 →
      (t.wr f v).rd R.AL_STATUS_endgame = t.rd R.AL_STATUS_endgame := fun t f v ha hlo hfit =>
    t.rd_wr_disjoint v hfit ha.symm (.inl (Nat.le_trans (by decide) hlo))
  unfold State.placeBuffers
  split
  · rfl
  · rw [hkeep _ _ _ rfl (by decide) (by decide), hkeep _ _ _ rfl (by decide) (by decide),
      hkeep _ _ _ rfl (by decide) (by decide)]

theorem placeBuffers_mem : s.placeBuffers.mem = s.mem := by
  unfold State.placeBuffers
  split <;> rfl

/-- Cancelling a freeze changes CAPSTAT and a counter. -/
theorem word_freezeCancel_ne {a : Nat} (h : a ≠ R.AL_CAPSTAT) (hc : a ≠ R.AL_CNT 12) : s.freezeCancel.word a = s.word a := by
  unfold State.freezeCancel State.inc
  rw [State.word_incBy_ne _ _ hc, State.word_wr_ne _ _ h, State.word_wr_ne _ _ h]
  rfl

/-- What a pending freeze may bring: nothing, or its cancellation. -/
theorem cancelBefore_eq (first : Nat) : s.cancelBefore first = s ∨ s.cancelBefore first = s.freezeCancel := by
  unfold State.cancelBefore
  split
  · split
    · exact .inr rfl
    · exact .inl rfl
  · exact .inl rfl

theorem sizeSlab_status : s.sizeSlab.word R.AL_STATUS = s.word R.AL_STATUS := by
  have hcancel : ∀ (t : State) (n : Nat), (t.cancelBefore n).word R.AL_STATUS = t.word R.AL_STATUS := by
    intro t n
    rcases cancelBefore_eq (s := t) n with h | h
    · rw [h]
    · rw [h, word_freezeCancel_ne (by decide) (by decide)]
  unfold State.sizeSlab
  rw [hcancel, State.word_wr_ne _ _ (by decide), State.word_wq_ne _ _ (by decide) (by decide),
    State.word_wq_ne _ _ (by decide) (by decide)]

theorem cancelBefore_mem (first : Nat) : (s.cancelBefore first).mem = s.mem := by
  rcases cancelBefore_eq (s := s) first with h | h
  · rw [h]
  · rw [h]
    rfl

theorem sizeSlab_mem : s.sizeSlab.mem = s.mem := by
  rw [State.sizeSlab, cancelBefore_mem, State.wr_mem, State.wq_mem, State.wq_mem]

theorem readied_mem : s.readied.mem = s.mem := by
  rw [State.readied, sizeSlab_mem, placeBuffers_mem]
  exact mem_of_blank (dropAccepted_blank s) (by decide)

theorem on_readied_endgame : s.readied.on R.AL_STATUS_endgame = s.on R.AL_STATUS_endgame := by
  have hsize : s.readied.rd R.AL_STATUS_endgame = s.dropAccepted.placeBuffers.rd R.AL_STATUS_endgame := by
    unfold State.readied State.rd
    rw [show R.AL_STATUS_endgame.a = R.AL_STATUS from rfl, sizeSlab_status]
  rw [State.on, State.on, hsize, endgame_placeBuffers, State.rd, word_dropAccepted]
  rfl

theorem roundAfter_placeBuffers : s.dropAccepted.placeBuffers.roundAfter = s.roundAfter := by
  have hword : ∀ a, a ≠ R.AL_STATUS → s.dropAccepted.placeBuffers.word a = s.word a := fun a ha =>
    (word_placeBuffers_ne ha).trans (word_dropAccepted a)
  have hpair : ∀ a, a ≠ R.AL_STATUS → a + 4 ≠ R.AL_STATUS → s.dropAccepted.placeBuffers.rq a = s.rq a := by
    intro a h h4
    rw [State.rq, hword _ h, hword _ h4, State.rq]
  have hhor : s.dropAccepted.placeBuffers.horizon = s.horizon := hpair _ (by decide) (by decide)
  have horg : s.dropAccepted.placeBuffers.origin = s.origin := hpair _ (by decide) (by decide)
  have hlen : s.dropAccepted.placeBuffers.roundLen = s.roundLen := by
    rw [State.roundLen, State.rd, hword _ (by decide)]
    rfl
  rw [State.roundAfter, hhor, horg, hlen, State.roundAfter]

theorem alignEnable_state (h : s.alignReason = none) :
    s.alignEnable.al.nextStart = s.roundAfter ∧ s.alignEnable.al.first = s.roundAfter ∧ s.alignEnable.al.open_ = []
      ∧ s.alignEnable.on R.AL_STATUS_active = !s.on R.AL_STATUS_endgame ∧ s.alignEnable.mem = s.mem := by
  obtain ⟨al, he, hnext, hfirst, hopen⟩ := alignEnable_starts h
  rw [roundAfter_placeBuffers] at hnext hfirst
  rw [he]
  refine ⟨hnext, hfirst, hopen, ?_, readied_mem⟩
  rw [State.on, State.rd_wr_same _ _ _ (by decide), on_readied_endgame]
  cases s.on R.AL_STATUS_endgame <;> rfl

theorem alignDisable_open : s.alignDisable.al.open_ = [] := rfl

theorem alignDisable_active : s.alignDisable.on R.AL_STATUS_active = false := by
  have h : s.alignDisable.rd R.AL_STATUS_active = 0 := State.rd_wr_same _ _ _ (by decide)
  rw [State.on, h]
  rfl

theorem alignDisable_mem : s.alignDisable.mem = s.mem := by
  change (s.discardOpen true).mem = s.mem
  unfold State.discardOpen
  dsimp only
  split
  · split <;> rfl
  · rfl

end

/-- Settles O6: the commands by what AL_CTL, AL_WIN and AL_CAPCTL do, and then alignment's start by what it leaves alone. -/
theorem alignWrites : Obligations.AlignWrites := by
  unfold Obligations.AlignWrites
  refine ⟨fun s m v => ⟨fun ht hoff => exec_alignmentEnable ht hoff, fun ht hon => exec_alignmentDisable ht hon, fun ht => ?_,
    fun ht hv => exec_freezeCommand ht hv, fun ht hv hheld => ?_⟩, fun s => ⟨fun r hr => alignEnable_refused hr, fun hr => ?_,
    alignDisable_open, alignDisable_active, alignDisable_mem, ?_, fun m hm => freezeRound_taken m hm, fun m => ?_⟩⟩
  · exact ⟨_, exec_windowChange ht, bindWindow_landed rfl⟩
  · exact ⟨_, exec_captureRelease ht hv, captureRelease_landed hheld rfl⟩
  · exact alignEnable_state hr
  · exact ⟨_, rfl, fun htgt => if_pos htgt⟩
  · intro hheld hfree hlate hcap heg hfirst hslab hen
    rw [freezeRound_accepted hheld hfree hlate hcap heg hfirst hslab hen]
    exact ⟨rfl, rd_freezeWaits_result m, rd_freezeWaits_pending m⟩

end Sys2Proof.Machine
end

section
/-! Castling messages (R201, R205, R217): what taking the lease can write. -/

namespace Sys2Proof.Machine

/-! ## A held instance whose stream has no sequence number of its own

A standby that takes a resignation takes the lease and then numbers the instances that it holds without a number: it writes
OT_SEQ of their stream. For a stream far above those of Table 7-5 that place is not in the output's block; here it is
CS_STATUS itself. The state that the unit has just taken is overwritten, and as the unit no longer reads as an active it goes on
to acknowledge the LEASE. -/

/-- The stream whose place among the sequence numbers is CS_STATUS. -/
def strayStream : Nat := (R.CS_STATUS - R.OT_SEQ 0) / 8

/-- A synchronised standby that holds an instance of that stream without a number. The last watermark of the stream is above
every number, and as a value of CS_STATUS it reads SYNC. The pin has moved since the last LEASE. -/
def strayStandby : State :=
  let s := State.reset.wr R.CS_STATUS_state 2
  { s with
    ot := { s.ot with insts := [{ (default : Inst) with stream := strayStream, body := .lit [] }] }
    cs := { s.cs with peerWm := smapSet 0 [] strayStream (2 ^ 63 + 2), pinSeen := true } }

/-- The body of a LEASE message with the resign bit. -/
def resigning : Bytes := zeros 15 ++ [1]

/-- As every unit but an active does (R201), the standby judges the pins before it acknowledges. -/
theorem leaseTake_strayStandby_pinSeen : (strayStandby.leaseTake 0 0 resigning).cs.pinSeen = false := by decide +kernel

/-- The standby once it has read the sender's state. -/
def strayListener : State := { strayStandby with cs := { strayStandby.cs with peerState := byteAt resigning 14 } }

/-- Taking the lease leaves the pins to be judged. -/
theorem takeLease_strayListener_pinSeen : (strayListener.takeLease false).cs.pinSeen = true := by decide +kernel

/-- Refutes O21: a synchronised standby that takes a resignation does more than take the lease where it holds an instance
whose stream number puts its sequence number on CS_STATUS: it is no active afterwards, and acknowledges. -/
theorem not_messagesAct : ¬ Obligations.MessagesAct := by
  unfold Obligations.MessagesAct
  intro ⟨_, hlease, _⟩
  obtain ⟨-, -, -, htake, -⟩ := (hlease strayStandby 0 0 resigning).2 le_rfl
  have hsync : strayStandby.csState = 2 := by decide +kernel
  have heq : strayStandby.leaseTake 0 0 resigning = strayListener.takeLease false := htake hsync (by decide) (by decide)
  have hpin := takeLease_strayListener_pinSeen
  rw [← heq, leaseTake_strayStandby_pinSeen] at hpin
  exact absurd hpin (by decide)

end Sys2Proof.Machine
end

section
/-! The Board's registers written: its states, its drains, the pairing table and the positions of its lines
(Table 4-3, R95, R98, R103, R104). -/

namespace Sys2Proof.Machine

/-! ## Fields that only their owner changes (R300) -/

/-- The bits of a register that a test chooses are those of the fields it chooses. -/
theorem bits_testBit (r : Reg) (p : Fld → Bool) (i : Nat) :
    (r.bits p).testBit i = r.flds.any (fun f => p f && f.mask.testBit i) := by
  have hfold : ∀ (l : List Fld) (n : Nat), (l.foldl (fun n f => if p f then n ||| f.mask else n) n).testBit i
      = (n.testBit i || l.any (fun f => p f && f.mask.testBit i)) := by
    intro l
    induction l with
    | nil => intro n; simp
    | cons f r ih =>
      intro n
      rw [List.foldl_cons, ih, List.any_cons]
      cases p f <;> simp [Bool.or_assoc]
  simpa [Reg.bits] using hfold r.flds 0

section
variable {s : State} {m : Nat} {v : Word} {l : Loc}

/-- A bit of a field that a write can set reads, after an accepted write, as written: its owner set it, and for any other
master it stood so before. -/
theorem merged_testBit_accepted {old raw i : Nat} (hfor : s.foreign m false l old raw = false)
    (hfix : s.fixedBits l = (0, 0)) (hset : (l.reg.bits Fld.sets).testBit i = true)
    (hfree : (s.guards l).1.testBit i = false) (hw1c : (l.reg.bits (fun f => f.acc = .w1c)).testBit i = false) :
    (s.merged m false l old raw).testBit i = raw.testBit i := by
  cases hown : (l.reg.bits (fun f => f.sets && s.owns m false l f)).testBit i with
  | true => exact merged_testBit_set hfix hown hfree hw1c
  | false =>
    have hother : (l.reg.bits (fun f => f.sets && !s.owns m false l f)).testBit i = true := by
      rw [bits_testBit, List.any_eq_true] at hset ⊢
      obtain ⟨f, hf, hmask⟩ := hset
      rw [Bool.and_eq_true] at hmask
      have hnot : s.owns m false l f = false := by
        rw [bits_testBit, List.any_eq_false] at hown
        simpa [hmask.1, hmask.2] using hown f hf
      exact ⟨f, hf, by simp [hmask.1, hmask.2, hnot]⟩
    have hsame : old.testBit i = raw.testBit i := by
      have hzero : (old ^^^ raw) &&& l.reg.bits (fun f => f.sets && !s.owns m false l f) = 0 := by
        simpa [State.foreign] using hfor
      have hbit := congrArg (Nat.testBit · i) hzero
      simpa [Nat.testBit_and, Nat.testBit_xor, hother] using hbit
    simp only [State.merged, hard_of_noFixedBits hfix, Nat.testBit_or, Nat.testBit_and, without_testBit, blend_testBit,
      hown, hfree, hw1c, Bool.false_eq_true, if_false, Bool.and_false, Bool.not_false, Bool.and_true, hsame]
    cases raw.testBit i <;> simp

/-- A field that a write can set reads the written value after an accepted write. -/
theorem rd_landed_accepted {f : FRef} (hl : locate f.a = some l) (hp : l.reg.pair = false)
    (hfor : s.foreign m false l (s.before l f.a) v.toNat = false) (hfix : s.fixedBits l = (0, 0)) (hfit : f.lo + f.w ≤ 32)
    (hbits : ∀ i < f.w, (l.reg.bits Fld.sets).testBit (f.lo + i) = true ∧ (s.guards l).1.testBit (f.lo + i) = false
      ∧ (l.reg.bits (fun f => f.acc = .w1c)).testBit (f.lo + i) = false) :
    (s.landed m f.a v).rd f = getBits v.toNat f.lo f.w := by
  refine Nat.eq_of_testBit_eq fun i => ?_
  rw [State.rd, landed_eq_setWord hl hp, State.word_setWord_same, getBits_testBit, getBits_testBit, BitVec.toNat_ofNat,
    Nat.testBit_mod_two_pow]
  by_cases hi : i < f.w
  · obtain ⟨hset, hfree, hw1c⟩ := hbits i hi
    have hlt : f.lo + i < 32 := by omega
    rw [merged_testBit_accepted hfor hfix hset hfree hw1c, decide_eq_true hlt, Bool.true_and]
  · simp only [hi, decide_false, Bool.false_and]

end

/-! ## BD_CTL and BD_PTCMT -/

/-- BD_CTL. -/
def locBdCtl : Loc := ⟨⟨.BD_CTL, 0x0, [], false, [⟨2, 2, .wo, 0, []⟩, ⟨1, 1, .wo, 0, []⟩, ⟨0, 0, .rw, 0, []⟩]⟩, [], false⟩

/-- BD_PTCMT. -/
def locPtCmt : Loc := ⟨⟨.BD_PTCMT, 0x10, [], false, [⟨13, 8, .rw, 0, []⟩, ⟨1, 1, .rw, 0, []⟩, ⟨0, 0, .wo, 0, []⟩]⟩, [], false⟩

theorem locate_bdCtl : locate R.BD_CTL = some locBdCtl := by decide
theorem locate_ptCmt : locate R.BD_PTCMT = some locPtCmt := by decide

/-- A write of a word that neither a boundary nor the slab geometry rests on leaves the pairing table in force as valid as it
was. -/
theorem tableValid_setWord_ne (s : State) {a : Nat} (v : Word) (h : ∀ b ∈ R.AL_SLABGEO :: boundaryWords, b ≠ a) :
    (s.setWord a v).tableValid = s.tableValid := by
  have hround : (s.setWord a v).curRound = s.curRound := by
    unfold State.curRound
    rw [s.nextRound_setWord_ne v fun b hb => h b (List.mem_cons_of_mem _ hb)]
  have hblocks : (s.setWord a v).blocks = s.blocks := by
    unfold State.blocks State.rd
    rw [s.word_setWord_ne v (h R.AL_SLABGEO_blk_m1.a (List.mem_cons_self ..))]
  unfold State.tableValid State.tableOf
  rw [hround, hblocks, State.setWord_bd]

section
variable {s : State} {m : Nat} {w : Word}

theorem landed_bdCtl : ∃ x, s.landed m R.BD_CTL w = s.setWord R.BD_CTL x := ⟨_, landed_eq_setWord locate_bdCtl rfl⟩

theorem bdState_landed_bdCtl : (s.landed m R.BD_CTL w).bdState = s.bdState := rd_landed_ne locate_bdCtl rfl (by decide)

theorem on_landed_bdCtl {f : FRef} (h : f.a ≠ R.BD_CTL) : (s.landed m R.BD_CTL w).on f = s.on f := by
  rw [State.on, rd_landed_ne locate_bdCtl rfl h, State.on]

theorem tableValid_landed_bdCtl : (s.landed m R.BD_CTL w).tableValid = s.tableValid := by
  obtain ⟨x, hx⟩ := landed_bdCtl (s := s) (m := m) (w := w)
  rw [hx, tableValid_setWord_ne s x (by decide)]

theorem bd_landed_bdCtl : (s.landed m R.BD_CTL w).bd = s.bd := by
  obtain ⟨x, hx⟩ := landed_bdCtl (s := s) (m := m) (w := w)
  rw [hx, State.setWord_bd]

theorem writeWord_ptCmt (h : s.takes m R.BD_PTCMT w) : s.writeWord m R.BD_PTCMT w =
    ((s.landed m R.BD_PTCMT w).when (w.toNat.testBit 0) State.pairingCommit).okResp [] :=
  writeWord_effect h locate_ptCmt (by decide) rfl

end

section
variable {s : State} {m : Fin 20} {v : Word}

/-- A write of BD_CTL enables or disables the Board, and then asks for a drain and a halt as its command bits say. -/
theorem does_write_bdCtl {w : Word} {en halt drain : Bool} (h : s.takes m R.BD_CTL w) (hen : w.toNat.testBit 0 = en)
    (hhalt : w.toNat.testBit 1 = halt) (hdrain : w.toNat.testBit 2 = drain) :
    s.does (fun s => s.writeWord m R.BD_CTL w) = .next
      ((((if en then (s.landed m R.BD_CTL w).boardEnable else (s.landed m R.BD_CTL w).boardDisable).when drain
        State.requestDrain).when halt State.boardHalt).okResp []) := by
  subst hen hhalt hdrain
  exact (s.does_on h.1.1 _).trans (congrArg _ (writeWord_effect h locate_bdCtl (by decide) rfl))

theorem exec_boardEnable (h : s.takes m R.BD_CTL (force v R.BD_CTL_en 1)) (hhalt : v.toNat.testBit 1 = false)
    (hdrain : v.toNat.testBit 2 = false) :
    exec (.boardEnable m v) s = .next ((s.landed m R.BD_CTL (force v R.BD_CTL_en 1)).boardEnable.okResp []) :=
  does_write_bdCtl (en := true) h (force_testBit (by decide) 0) ((force_testBit (by decide) 1).trans hhalt)
    ((force_testBit (by decide) 2).trans hdrain)

theorem exec_boardDisable (h : s.takes m R.BD_CTL (force v R.BD_CTL_en 0)) (hhalt : v.toNat.testBit 1 = false)
    (hdrain : v.toNat.testBit 2 = false) :
    exec (.boardDisable m v) s = .next ((s.landed m R.BD_CTL (force v R.BD_CTL_en 0)).boardDisable.okResp []) :=
  does_write_bdCtl (en := false) h (force_testBit (by decide) 0) ((force_testBit (by decide) 1).trans hhalt)
    ((force_testBit (by decide) 2).trans hdrain)

theorem exec_boardHalt (h : s.takes m R.BD_CTL (force v R.BD_CTL_halt 1)) (hen : v.toNat.testBit 0 = true)
    (hdrain : v.toNat.testBit 2 = false) :
    exec (.boardHalt m v) s
      = .next ((s.landed m R.BD_CTL (force v R.BD_CTL_halt 1)).boardEnable.boardHalt.okResp []) := by
  have hw := does_write_bdCtl (halt := true) h ((force_testBit (by decide) 0).trans hen) (force_testBit (by decide) 1)
    ((force_testBit (by decide) 2).trans hdrain)
  simp only [State.when, if_true, Bool.false_eq_true, if_false] at hw
  exact hw

theorem exec_drainRequest (h : s.takes m R.BD_CTL (force v R.BD_CTL_drain 1)) (hen : v.toNat.testBit 0 = true)
    (hhalt : v.toNat.testBit 1 = false) :
    exec (.drainRequest m v) s
      = .next ((s.landed m R.BD_CTL (force v R.BD_CTL_drain 1)).boardEnable.requestDrain.okResp []) := by
  have hw := does_write_bdCtl (drain := true) h ((force_testBit (by decide) 0).trans hen)
    ((force_testBit (by decide) 1).trans hhalt) (force_testBit (by decide) 2)
  simp only [State.when, if_true, Bool.false_eq_true, if_false] at hw
  exact hw

theorem exec_pairingTableCommit (h : s.takes m R.BD_PTCMT (force v R.BD_PTCMT_commit 1)) :
    exec (.pairingTableCommit m v) s
      = .next ((s.landed m R.BD_PTCMT (force v R.BD_PTCMT_commit 1)).pairingCommit.okResp []) := by
  have h0 : (force v R.BD_PTCMT_commit 1).toNat.testBit 0 = true := force_testBit (by decide) 0
  have hw := writeWord_ptCmt h
  rw [h0] at hw
  exact (s.does_on h.1.1 fun s => s.writeWord m R.BD_PTCMT (force v R.BD_PTCMT_commit 1)).trans (congrArg _ hw)

end

/-! ## The Board's states (Table 4-3, R98) -/

section
variable {s : State}

theorem boardEnable_idle (h : s.bdState = 0) (hal : s.on R.AL_CTL_en = true) (ht : s.tableValid = true) :
    s.boardEnable = s.setBd 1 := by
  simp only [State.boardEnable, h, hal, ht, Bool.and_self, if_true]

theorem boardEnable_refused (h : s.bdState = 0) (hno : s.on R.AL_CTL_en = false ∨ s.tableValid = false) :
    s.boardEnable = ((s.wr R.BD_CTL_en 0).wr R.BD_STATUS_tbl_reason 7).flag R.BD_STATUS_tbl_err := by
  have hc : (s.on R.AL_CTL_en && s.tableValid) = false := Bool.and_eq_false_iff.2 hno
  simp only [State.boardEnable, h, hc, Bool.false_eq_true, if_true, if_false]

theorem boardEnable_halted (h : s.bdState = 4) (heg : s.on R.CK_STATUS_endgame = false) : s.boardEnable = s.setBd 1 := by
  simp [State.boardEnable, h, heg]

theorem boardEnable_busy (h : s.bdState = 1 ∨ s.bdState = 2 ∨ s.bdState = 3) : s.boardEnable = s := by
  rcases h with h | h | h <;> simp [State.boardEnable, h]

theorem boardDisable_wait (h : s.bdState = 1) : s.boardDisable = (s.setBd 0).dropQueue := by
  simp [State.boardDisable, h]

theorem boardDisable_halted (h : s.bdState = 4) : s.boardDisable = s.setBd 0 := by simp [State.boardDisable, h]

theorem boardDisable_run (h : s.bdState = 2) : s.boardDisable = s := by simp [State.boardDisable, h]

theorem dropQueue_nil (h : s.bd.queue = []) : s.dropQueue = s := by
  have hbd : { s.bd with queue := [] } = s.bd := by rw [← h]
  simp only [State.dropQueue, h, hbd]
  rfl

theorem boardHalt_run (h : s.bdState = 2) (hd : s.bd.drains = 0) : s.boardHalt =
    (((State.setBd (State.wr { s with bd := { s.bd with halting := true } } R.BD_STATUS_drain_busy 1) 3).inc
      (R.BD_CNT 5)).dropQueue) := by
  have hb : (s.bd.drains != 0) = false := by simp [hd]
  simp only [State.boardHalt, State.when, h, hb, Bool.false_eq_true, if_true, if_false]

theorem boardHalt_wait (h : s.bdState = 1) (hp : s.bd.plies = []) (hq : s.bd.queue = []) :
    s.boardHalt = ((s.inc (R.BD_CNT 5)).flag R.BD_STATUS_drain_done).setBd 4 := by
  have hdrop : (s.inc (R.BD_CNT 5)).dropQueue = s.inc (R.BD_CNT 5) := dropQueue_nil hq
  have hempty : (s.inc (R.BD_CNT 5)).bd.plies.isEmpty = true := List.isEmpty_iff.2 hp
  simp only [State.boardHalt, h, hdrop, hempty]
  rfl

/-- A drain asked for while a ply is in progress waits for its marker; one that shares it is counted. -/
theorem requestDrain_issuing {c : CurPly} (h : s.bd.cur = some c) : s.requestDrain =
    (let t := if s.bd.drains ≠ 0 ∨ s.bd.halting = true then s.inc (R.BD_CNT 2) else s;
      State.wr { t with bd := { t.bd with drains := s.bd.drains + 1 } } R.BD_STATUS_drain_busy 1) := by
  by_cases hc : s.bd.drains ≠ 0 ∨ s.bd.halting = true
  · have hb : (s.bd.drains != 0 || s.bd.halting) = true := by simpa using hc
    simp only [State.requestDrain, h, State.when, hb, if_pos hc, if_true]
    rfl
  · have hb : (s.bd.drains != 0 || s.bd.halting) = false := by simpa using hc
    simp only [State.requestDrain, h, State.when, hb, if_neg hc, Bool.false_eq_true, if_false]

end

/-! ## The pairing table (R104) -/

section
variable {s : State}

/-- The shadow of the pairing table, as long as BD_PTCMT says. -/
def State.shadowWords (s : State) : List Nat :=
  (List.range (s.rd R.BD_PTCMT_cnt)).map (fun e => (s.word (R.BD_PTBL_r e).a).toNat)

/-- A commit refused with a reason. -/
def State.tableRefused (s : State) (r : Nat) : State := (s.wr R.BD_STATUS_tbl_reason r).flag R.BD_STATUS_tbl_err

/-- The boundary to which a commit binds. -/
def State.commitBound (s : State) : Option Nat := s.bindTo (s.on R.BD_PTCMT_tgt) (s.rq R.BD_PTTGT)

theorem pairingCommit_long (h : 32 < s.rd R.BD_PTCMT_cnt) : s.pairingCommit = s.tableRefused 1 := by
  simp only [State.pairingCommit, h, if_true]
  rfl

variable (h : s.rd R.BD_PTCMT_cnt ≤ 32)
include h

theorem pairingCommit_invalid {r : Nat} (hr : tableReason s.blocks s.shadowWords = some r) :
    s.pairingCommit = s.tableRefused r := by
  unfold State.shadowWords at hr
  simp only [State.pairingCommit, not_lt.2 h, min_eq_left h, hr, if_false]
  rfl

variable (hr : tableReason s.blocks s.shadowWords = none)
include hr

theorem pairingCommit_waiting (hp : s.on R.BD_STATUS_tbl_pending = true) : s.pairingCommit = s.tableRefused 6 := by
  unfold State.shadowWords at hr
  simp only [State.pairingCommit, not_lt.2 h, min_eq_left h, hr, hp, Bool.true_or, if_false, if_true]
  split <;> rfl

theorem pairingCommit_begun (hp : s.on R.BD_STATUS_tbl_pending = false) (hb : s.commitBound = none) :
    s.pairingCommit = s.tableRefused 8 := by
  unfold State.shadowWords at hr
  unfold State.commitBound at hb
  simp only [State.pairingCommit, not_lt.2 h, min_eq_left h, hr, hp, hb, Bool.false_eq_true, if_false]
  rfl

theorem pairingCommit_binds {n : Nat} (hp : s.on R.BD_STATUS_tbl_pending = false) (hb : s.commitBound = some n)
    (hl : s.loadBinds 2 n = false) :
    s.pairingCommit = ((State.wq { s with bd := { s.bd with tables := bindRound s.bd.tables n ⟨s.blocks, s.shadowWords⟩ } }
      R.BD_PTBND n).wr R.BD_STATUS_tbl_pending 1).bindChange n .pairing := by
  unfold State.shadowWords at hr ⊢
  unfold State.commitBound at hb
  simp only [State.pairingCommit, not_lt.2 h, min_eq_left h, hr, hp, hb, hl, Bool.or_self, Bool.false_eq_true, if_false]

end

/-! ## The lines' positions (R103) -/

/-- The fields of a line's register. -/
def lineFlds : List Fld := [⟨17, 17, .ro, 0, []⟩, ⟨16, 16, .arb, 0, []⟩, ⟨14, 8, .ro, 64, []⟩, ⟨6, 0, .arb, 64, [(0, 64)]⟩]

/-- The register of a line: BD_RMAP of a tile row, BD_FMAP of a tile column. -/
def locLine (x : Nat) : Loc :=
  if x < 8 then ⟨⟨.BD_RMAP, 0x200, [(8, 0x4)], false, lineFlds⟩, [x], false⟩
  else ⟨⟨.BD_FMAP, 0x240, [(16, 0x4)], false, lineFlds⟩, [x - 8], false⟩

theorem locate_line : ∀ x : Fin 24, locate (lineOut x).a = some (locLine x) := by decide

theorem lineOut_ne_rrst : ∀ x : Fin 24, (lineOut x).a ≠ R.MG_RRST_rst.a := by decide

theorem lineOut_place (x : Nat) : (lineOut x).lo = 0 ∧ (lineOut x).w = 7 := by
  unfold lineOut; split <;> exact ⟨rfl, rfl⟩

theorem linePend_place (x : Nat) : (linePend x).a = (lineOut x).a ∧ (linePend x).lo = 17 ∧ (linePend x).w = 1 := by
  unfold linePend lineOut; split <;> exact ⟨rfl, rfl, rfl⟩

theorem locLine_pair (x : Nat) : (locLine x).reg.pair = false := by unfold locLine; split <;> rfl

theorem locLine_flds (x : Nat) : (locLine x).reg.flds = lineFlds := by unfold locLine; split <;> rfl

section
variable {s : State} {x : Nat}

theorem fixedBits_line : s.fixedBits (locLine x) = (0, 0) := by unfold locLine; split <;> rfl

theorem guards_line : (s.guards (locLine x)).1 = 0 := by unfold locLine; split <;> rfl

theorem ownWrite_line {base raw old new : Nat} : s.ownWrite (locLine x) base raw old new = none := by
  unfold locLine; split <;> rfl

/-- A position other than the one before is pending. -/
theorem wrote_line {was : State} {m raw old : Nat} : s.wrote was m (locLine x) raw old
    = s.when (decide (old % 128 ≠ s.rd (lineOut x))) (·.wr (linePend x) 1) := by
  unfold locLine lineOut linePend; split <;> rfl

theorem before_line : s.before (locLine x) (lineOut x).a % 128 = s.rd (lineOut x) := by
  obtain ⟨hlo, hw⟩ := lineOut_place x
  rw [State.before, hard_of_noFixedBits fixedBits_line, State.stored, locLine_pair, State.rd, hlo, hw]
  rfl

end

section
variable {s : State} {x : Fin 24} {v : Word}

/-- The position that an accepted write of a line names lands, whoever wrote it. -/
theorem rd_landed_line {m : Nat} (h : s.takes m (lineOut x).a v) :
    (s.landed m (lineOut x).a v).rd (lineOut x) = v.toNat % 128 := by
  obtain ⟨-, l, hl, -, -, hfor, -, -⟩ := h
  obtain rfl : locLine x = l := Option.some.inj ((locate_line x).symm.trans hl)
  obtain ⟨hlo, hw⟩ := lineOut_place x
  have hset : ∀ i < 7, ((locLine x).reg.bits Fld.sets).testBit i = true := by
    unfold Reg.bits
    rw [locLine_flds]
    decide
  have hw1c : (locLine x).reg.bits (fun f => f.acc = .w1c) = 0 := by
    unfold Reg.bits
    rw [locLine_flds]
    rfl
  rw [rd_landed_accepted (locate_line x) (locLine_pair x) hfor fixedBits_line (by omega), hlo, hw]
  · rfl
  · intro i hi
    rw [hlo, Nat.zero_add, guards_line, hw1c]
    exact ⟨hset i (hw ▸ hi), Nat.zero_testBit i, Nat.zero_testBit i⟩

variable {m : Fin 20}

/-- The state that an accepted write of a line's position leaves. -/
def State.remapped (s : State) (m : Nat) (x : Nat) (v : Word) : State :=
  (s.landed m (lineOut x).a v).when (decide (s.rd (lineOut x) ≠ (s.landed m (lineOut x).a v).rd (lineOut x)))
    (·.wr (linePend x) 1)

theorem exec_remapWrite (h : s.takes m (lineOut x).a v) :
    exec (.remapWrite m x v) s = .next ((s.remapped m x v).okResp []) := by
  have hw := writeWord_effect h (locate_line x) (lineOut_ne_rrst x) ownWrite_line
  rw [wrote_line, before_line] at hw
  exact (s.does_on h.1.1 fun s => s.writeWord m (lineOut x).a v).trans (congrArg _ hw)

theorem remapped_frame {m : Nat} : (s.remapped m x v).bd = s.bd ∧ (s.remapped m x v).mem = s.mem
    ∧ (s.remapped m x v).out = s.out := by
  unfold State.remapped
  rw [landed_eq_setWord (locate_line x) (locLine_pair x), State.when]
  split <;> exact ⟨rfl, rfl, rfl⟩

theorem rd_remapped_out {m : Nat} (h : s.takes m (lineOut x).a v) : (s.remapped m x v).rd (lineOut x) = v.toNat % 128 := by
  obtain ⟨hlo, hw⟩ := lineOut_place x
  obtain ⟨ha, hplo, hpw⟩ := linePend_place x
  have hland := rd_landed_line h
  unfold State.remapped State.when
  split
  · rw [State.rd_wr_disjoint _ _ (by omega) ha.symm (by omega), hland]
  · exact hland

theorem rd_remapped_pend {m : Nat} (h : s.takes m (lineOut x).a v) (hv : v.toNat % 128 ≠ s.rd (lineOut x)) :
    (s.remapped m x v).rd (linePend x) = 1 := by
  obtain ⟨-, hplo, hpw⟩ := linePend_place x
  rw [State.remapped, rd_landed_line h, decide_eq_true hv.symm, State.when, if_pos rfl, State.rd_wr_same _ _ _ (by omega), hpw]
  rfl

end

/-- Settles O8: each command by what its bit of BD_CTL does in the state that the write leaves, in which the Board stands as
before; then the commit by its checks in their order, and a line's position by its register. -/
theorem boardWrites : Obligations.BoardWrites := by
  unfold Obligations.BoardWrites
  refine ⟨fun s m v => ⟨?_, ?_, ?_, ?_, ?_, fun x ht => ?_⟩, fun s => ⟨pairingCommit_long, fun hc => ⟨fun r hr => ?_, fun hr =>
    ⟨pairingCommit_waiting hc hr, fun hp => ⟨pairingCommit_begun hc hr hp, fun n => pairingCommit_binds hc hr hp⟩⟩⟩⟩⟩
  · rintro w L rfl rfl ht hhalt hdrain
    rw [exec_boardEnable ht hhalt hdrain]
    refine ⟨fun hs hal hv => ?_, fun hs hno => ?_, fun hs heg => ?_, fun hs => ?_⟩ <;> rw [← bdState_landed_bdCtl] at hs
    · rw [boardEnable_idle hs ((on_landed_bdCtl (by decide)).trans hal) (tableValid_landed_bdCtl.trans hv)]
      rfl
    · rw [boardEnable_refused hs (hno.imp (on_landed_bdCtl (by decide)).trans tableValid_landed_bdCtl.trans)]
      rfl
    · rw [boardEnable_halted hs ((on_landed_bdCtl (by decide)).trans heg)]
      rfl
    · rw [boardEnable_busy hs]
      rfl
  · rintro w L rfl rfl ht hhalt hdrain
    rw [exec_boardDisable ht hhalt hdrain]
    refine ⟨fun hs => ?_, fun hs => ?_, fun hs => ?_⟩ <;> rw [← bdState_landed_bdCtl] at hs
    · rw [boardDisable_wait hs]
      rfl
    · rw [boardDisable_halted hs]
      rfl
    · rw [boardDisable_run hs]
      rfl
  · rintro w L rfl rfl ht hen hdrain
    rw [exec_boardHalt ht hen hdrain]
    refine ⟨fun hs hd => ?_, fun hs hp hq => ?_⟩ <;> rw [← bdState_landed_bdCtl] at hs
    · rw [boardEnable_busy (.inr (.inl hs)), boardHalt_run hs ((congrArg BdState.drains bd_landed_bdCtl).trans hd)]
      rfl
    · rw [boardEnable_busy (.inl hs), boardHalt_wait hs ((congrArg BdState.plies bd_landed_bdCtl).trans hp)
        ((congrArg BdState.queue bd_landed_bdCtl).trans hq)]
      rfl
  · rintro w c rfl ht hen hhalt hs hcur
    rw [← bdState_landed_bdCtl] at hs
    rw [exec_drainRequest ht hen hhalt, boardEnable_busy (.inr (.inl hs)),
      requestDrain_issuing ((congrArg BdState.cur bd_landed_bdCtl).trans hcur), bd_landed_bdCtl]
    rfl
  · rintro w rfl ht
    exact exec_pairingTableCommit ht
  · obtain ⟨hbd, hmem, hout⟩ := remapped_frame (s := s) (x := x) (v := v) (m := m)
    exact ⟨_, exec_remapWrite ht, rd_remapped_out ht, rd_remapped_pend ht, hbd, hmem, hout⟩
  · exact pairingCommit_invalid hc hr

end Sys2Proof.Machine
end

section
/-! The Board's passes: rounds that start, markers, plies that drain, their status and their re-runs
(R92, R94 to R97, R99 to R102, R186 to R189). -/

namespace Sys2Proof.Machine

/-! ## Rounds, markers and waits (R92, R94, R95, R97, R100) -/

section
variable {s : State}

theorem boardStart_ready {n : Nat} (hw : s.bdState = 1) (hc : s.bd.cur = none) (hr : s.readyRound = some n) :
    s.boardStart = s.startRound n true := by
  simp [State.boardStart, hw, hc, hr]

section
variable {c : CurPly} {t : Nat} (hc : s.bd.cur = some c)
include hc

theorem feederWait_issuing : s.feederWait = s.inc (R.BD_CNT 4) := by simp [State.feederWait, hc]

/-- A marker due that neither a drain nor a halt asked for ends the pass in progress. -/
theorem placeMarker_due (hh : s.bd.halting = false) (ht : c.stop ≤ t) (h0 : c.t0 ≤ c.stop) (hd : s.bd.drains = 0) :
    s.placeMarker t = (s.closePly c c.stop false).boardTestStep.afterPass := by
  simp [State.placeMarker, State.when, hc, hh, hd, ht, h0]

variable (hcut : c.cut = none) (ht : t < c.stop) (h0 : c.t0 ≤ t)
include hcut ht h0

/-- A marker that a drain asked for before the pass is done splits it: the pass goes on behind the marker. -/
theorem placeMarker_drain (hh : s.bd.halting = false) (hd : s.bd.drains ≠ 0) :
    s.placeMarker t = (let u := (s.inc (R.BD_CNT 1)).closePly c t true;
      State.showPass { u with bd := { u.bd with cur := some { c with idx := c.idx + 1, t0 := t } } }) := by
  have hasked : (s.bd.drains != 0) = true := bne_iff_ne.2 hd
  simp [State.placeMarker, State.when, hc, hcut, hh, hasked, not_le.2 ht, not_lt.2 h0, min_eq_left ht.le]

/-- A marker that a halt asked for leaves no ply in progress, and the passes left of every round are abandoned. -/
theorem placeMarker_halt (hh : s.bd.halting = true) :
    s.placeMarker t = (let u := (s.closePly c t true).abandon (fun _ => true);
      State.showPass { u with bd := { u.bd with cur := none } }) := by
  simp [State.placeMarker, State.when, hc, hcut, hh, not_le.2 ht, not_lt.2 h0, min_eq_left ht.le]

end

/-- A marker that waits behind a short ply, while another ply drains, is counted. -/
theorem markerRelease_short {p q : Ply} {rest : List Ply} (hp : s.bd.plies = p :: q :: rest) (hs : p.stage = .marker)
    (ht : p.t1 - p.t0 < 521) : s.markerRelease = s.inc (R.BD_CNT 3) := by
  simp [State.markerRelease, hp, hs, ht]

/-! ## A ply leaves the last cell and is held (R101) -/

theorem passEnd_marker {p : Ply} {rate least : Nat} (hp : s.firstPly .marker = some p) : s.passEnd rate least =
    (let u := s.movePly p { p with stage := .held };
      let u := if p.rerun = false ∧ p.t1 = s.roundLen ∧ p.cut = false then u.wq R.BD_PASSDONE (s.rq R.BD_PASSDONE + 1) else u;
      (u.wr R.BD_RATE_last_pass (min rate 65535)).wr R.BD_RATE_min_round (min least 65535)) := by
  have hlen : (s.movePly p { p with stage := .held }).roundLen = s.roundLen := rfl
  have hends : (!p.rerun && decide (p.t1 = s.roundLen) && !p.cut)
      = decide (p.rerun = false ∧ p.t1 = s.roundLen ∧ p.cut = false) := by
    simp [Bool.and_assoc]
  simp only [State.passEnd, hp, hlen, hends, State.when, decide_eq_true_eq]
  rfl

/-! ## The status of a held ply (R186 to R189) -/

theorem knownVectors_nil (p : Ply) : s.knownVectors p [] = s := rfl

/-- A ply without known-vector tests is counted where its cells came to their limit, and takes the status that its residuals
give. -/
theorem plyFinal_held {p : Ply} {f : PlyFaults} (hp : s.firstPly .held = some p) (hkv : f.kv = []) : s.plyFinal f =
    (let r := s.residuals p f;
      let l := s.limCells p f;
      let u := s.movePly p { p with stage := .writing };
      (if l = [] then u else (u.incBy (R.BD_CNT 8) l.length).flag R.BD_STATUS_limit).plyStatus p f r (classify r)) := by
  simp only [State.plyFinal, hp, hkv, knownVectors_nil, State.when]
  by_cases hl : s.limCells p f = []
  · simp only [hl, List.isEmpty_nil, Bool.not_true, Bool.false_eq_true, if_false, if_true]
  · have hne : (s.limCells p f).isEmpty = false := by simpa using hl
    simp only [hl, hne, Bool.not_false, if_true, if_false]

section
variable {p : Ply} (f : PlyFaults) (r : Resid) {v : Verdict}

theorem plyStatus_poisoned (h : p.poison = true) : s.plyStatus p f r v = s.plyInvalid p f v := by
  simp only [State.plyStatus, h, if_true]

variable (hp : p.poison = false)
include hp

theorem plyStatus_rerunLost (hv : v.status = 2) (hr : p.rerun = true) : s.plyStatus p f r v = s.plyInvalid p f v := by
  simp only [State.plyStatus, hp, hv, hr, Bool.false_eq_true, if_false, if_true]

theorem plyStatus_noRerunLeft (hv : v.status = 2) (hr : p.rerun = false) (hd : s.rerunsDone p.round = true) :
    s.plyStatus p f r v = (s.flag R.IG_STATUS_rr_limit).plyInvalid p f v := by
  simp only [State.plyStatus, hp, hv, hr, hd, Bool.false_eq_true, if_false, if_true]

theorem plyStatus_rerunLeft (hv : v.status = 2) (hr : p.rerun = false) (hd : s.rerunsDone p.round = false) :
    s.plyStatus p f r v = s.orderRerun p r := by
  simp only [State.plyStatus, hp, hv, hr, hd, Bool.false_eq_true, if_false, if_true]

/-- With everything in order the results of a ply are handed over and nothing is counted. -/
theorem plyStatus_clean (hv : v.status ≠ 2) (hk : v.kind = 0) (hc : v.checker = false) (hr : p.rerun = false) :
    s.plyStatus p f r v = (s.plyToGroups p f v v.status).noteFix p v := by
  simp [State.plyStatus, State.when, hp, hv, hk, hc, hr]

end

/-! ## A ply is written (R96) -/

/-- The state in which the ply p has been written: removed and counted, E083 fired, and drain_done shown when it was asked
for. -/
def State.plyWritten (s : State) (p : Ply) : State :=
  let u := (State.inc { s with bd := { s.bd with plies := s.bd.plies.filter (fun x => x ≠ p) } } (R.BD_CNT 0)).fire 83
  if p.asked = true then u.flag R.BD_STATUS_drain_done else u

/-- Whether a drain is still to be completed once the ply p is written. -/
def State.drainsLeft (s : State) (p : Ply) : Nat :=
  if s.bd.drains ≠ 0 ∨ (∃ x ∈ s.bd.plies, x ≠ p ∧ x.asked = true) then 1 else 0

theorem plyWritten_bd (p : Ply) : (s.plyWritten p).bd = { s.bd with plies := s.bd.plies.filter (fun x => x ≠ p) } := by
  unfold State.plyWritten
  dsimp only
  split
  · rw [State.flag_bd]
    rfl
  · rfl

theorem bdState_plyWritten (p : Ply) : (s.plyWritten p).bdState = s.bdState := by
  have hcount : ∀ t : State, ((t.inc (R.BD_CNT 0)).fire 83).rd R.BD_STATUS_state = t.rd R.BD_STATUS_state := by
    intro t
    rw [State.rd_fire, State.rd, State.inc, State.word_incBy_ne _ _ (by decide), State.rd]
  unfold State.plyWritten State.bdState
  dsimp only
  split
  · rw [State.rd_flag_disjoint (g := R.BD_STATUS_state) _ R.BD_STATUS_drain_done (by decide) rfl (by decide) (by decide), hcount]
    rfl
  · exact hcount _

/-- With no live round there is nothing to settle. -/
theorem bdState_settle (h : s.bd.live = []) : s.settle.bdState = s.bdState := by
  simp only [State.settle, h]
  rfl

/-- The state in which the ply p is gone from the Board, busy shows whether a drain is left, and rounds without passes are
settled. -/
def State.plyGone (s : State) (p : Ply) : State :=
  ((s.plyWritten p).wr R.BD_STATUS_drain_busy (s.drainsLeft p)).settle

/-- HALTING ends once nothing is left to drain (R98). -/
def State.haltEnds (s : State) : State :=
  if s.bdState = 3 && s.bd.plies.isEmpty && s.bd.cur.isNone then
    (({ s with bd := { s.bd with halting := false } }).flag R.BD_STATUS_drain_done).setBd 4
  else s

theorem haltEnds_of_ne (h : s.bdState ≠ 3) : s.haltEnds = s := by simp [State.haltEnds, h]

theorem drainDone_eq {p : Ply} (hp : s.firstPly .writing = some p) : s.drainDone = (s.plyGone p).haltEnds := by
  have hbusy : s.drainsLeft p
      = if ((s.plyWritten p).bd.drains != 0 || (s.plyWritten p).bd.plies.any (fun x => x.asked)) = true then 1 else 0 := by
    rw [plyWritten_bd]
    simp [State.drainsLeft]
  rw [State.plyGone, hbusy]
  simp only [State.drainDone, hp]
  rfl

theorem bdState_plyGone {p : Ply} (h : s.bd.live = []) : (s.plyGone p).bdState = s.bdState := by
  have hlive : ((s.plyWritten p).wr R.BD_STATUS_drain_busy (s.drainsLeft p)).bd.live = [] := by
    rw [State.wr_bd, plyWritten_bd]
    exact h
  rw [State.plyGone, bdState_settle hlive, State.bdState,
    State.rd_wr_disjoint (f := R.BD_STATUS_drain_busy) (g := R.BD_STATUS_state) _ _ (by decide) rfl (by decide)]
  exact bdState_plyWritten p

/-- Outside HALTING, with no round live, a ply that is written leaves the Board in its state. -/
theorem drainDone_writing {p : Ply} (hp : s.firstPly .writing = some p) (hs : s.bdState ≠ 3) (hl : s.bd.live = []) :
    s.drainDone = s.plyGone p := by
  rw [drainDone_eq hp, haltEnds_of_ne (bdState_plyGone hl ▸ hs)]

end

/-! ## The commands -/

section
variable {s : State} (h : s.off = false)
include h

theorem exec_boardRoundStart : exec .boardRoundStart s = .next s.boardStart := s.does_on h State.boardStart

theorem exec_plyMarkerIssue (t : Nat) : exec (.plyMarkerIssue t) s = .next (s.placeMarker t) :=
  s.does_on h fun s => s.placeMarker t

theorem exec_markerRelease : exec .markerRelease s = .next s.markerRelease := s.does_on h State.markerRelease

theorem exec_feederWaitEnd : exec .feederWaitEnd s = .next s.feederWait := s.does_on h State.feederWait

theorem exec_passEnd (rate least : Nat) : exec (.passEnd rate least) s = .next (s.passEnd rate least) :=
  s.does_on h fun s => s.passEnd rate least

theorem exec_plyStatusFinal (f : PlyFaults) : exec (.plyStatusFinal f) s = .next (s.plyFinal f) :=
  s.does_on h fun s => s.plyFinal f

theorem exec_drainComplete : exec .drainComplete s = .next s.drainDone.joinCheck := s.does_on h fun s => s.drainDone.joinCheck

end

/-- Settles O9: each command by the step of the Board that it makes, and the status of a ply by its verdict. -/
theorem boardRuns : Obligations.BoardRuns := by
  unfold Obligations.BoardRuns
  refine ⟨fun s h => ⟨fun n hw hc hr => ?_, fun c t hc hh ht h0 hd => ?_, fun c t hc hh hcut ht h0 hd => ?_,
    fun c t hc hh hcut ht h0 => ?_, fun p q rest hp hs ht => ?_, fun c hc => ?_, fun p rate least hp => ?_,
    fun p f hp hkv => ?_, exec_drainComplete h, fun p hp hs hl => drainDone_writing hp hs hl⟩,
    fun s p f r v => ⟨plyStatus_poisoned f r, fun hp hv => ⟨plyStatus_rerunLost f r hp hv, fun hr =>
      ⟨plyStatus_noRerunLeft f r hp hv hr, plyStatus_rerunLeft f r hp hv hr⟩⟩, plyStatus_clean f r⟩⟩
  · rw [exec_boardRoundStart h, boardStart_ready hw hc hr]
  · rw [exec_plyMarkerIssue h, placeMarker_due hc hh ht h0 hd]
  · rw [exec_plyMarkerIssue h, placeMarker_drain hc hcut ht h0 hh hd]
  · rw [exec_plyMarkerIssue h, placeMarker_halt hc hcut ht h0 hh]
  · rw [exec_markerRelease h, markerRelease_short hp hs ht]
  · rw [exec_feederWaitEnd h, feederWait_issuing hc]
  · rw [exec_passEnd h, passEnd_marker hp]
  · rw [exec_plyStatusFinal h, plyFinal_held hp hkv]

end Sys2Proof.Machine
end

section
/-! Group commands: what OPEN, CLOSE and ABORT do, and how they are answered (R119 to R122). -/

namespace Sys2Proof.Machine

/-! ## The answer in AG_CMDRES -/

section
variable {s : State} {g r : Nat}

/-- The command's answer in AG_CMDRES, before cmd_err is set. -/
def State.cmdShown (s : State) (g r : Nat) : State :=
  ((s.wr R.AG_CMDRES_valid 1).wr R.AG_CMDRES_group g).wr R.AG_CMDRES_reason r

theorem cmdRes_accepted : s.cmdRes g 0 = s.cmdShown g 0 := rfl

theorem cmdRes_refused (hr : r ≠ 0) : s.cmdRes g r = (s.cmdShown g r).flag R.AG_STATUS_cmd_err := by
  simp only [State.cmdRes, State.when, hr, ne_eq, not_false_eq_true, decide_true, if_true]
  rfl

/-- AG_CMDRES reads the same whether or not cmd_err is set with it. -/
theorem rd_cmdRes {f : FRef} (hf : f.a = R.AG_CMDRES) : (s.cmdRes g r).rd f = (s.cmdShown g r).rd f := by
  by_cases hr : r = 0
  · rw [hr, cmdRes_accepted]
  · rw [cmdRes_refused hr, State.rd_flag_ne _ _ (hf ▸ by decide) (hf ▸ by decide)]

theorem rd_cmdRes_reason (hr : r < 16) : (s.cmdRes g r).rd R.AG_CMDRES_reason = r := by
  rw [rd_cmdRes rfl, State.cmdShown, State.rd_wr_same _ _ _ (by decide)]
  exact Nat.mod_eq_of_lt hr

theorem rd_cmdRes_group (hg : g < 64) : (s.cmdRes g r).rd R.AG_CMDRES_group = g := by
  rw [rd_cmdRes rfl, State.cmdShown,
    State.rd_wr_disjoint (f := R.AG_CMDRES_reason) (g := R.AG_CMDRES_group) _ _ (by decide) rfl (by decide),
    State.rd_wr_same _ _ _ (by decide)]
  exact Nat.mod_eq_of_lt hg

theorem on_cmdRes_valid : (s.cmdRes g r).on R.AG_CMDRES_valid = true := by
  rw [State.on, rd_cmdRes rfl, State.cmdShown,
    State.rd_wr_disjoint (f := R.AG_CMDRES_reason) (g := R.AG_CMDRES_valid) _ _ (by decide) rfl (by decide),
    State.rd_wr_disjoint (f := R.AG_CMDRES_group) (g := R.AG_CMDRES_valid) _ _ (by decide) rfl (by decide),
    State.rd_wr_same _ _ _ (by decide)]
  rfl

theorem on_cmdRes_cmdErr (hr : r ≠ 0) : (s.cmdRes g r).on R.AG_STATUS_cmd_err = true := by
  rw [cmdRes_refused hr, State.on, State.rd_flag_same _ _ (by decide) rfl (by decide)]
  rfl

/-- An answer changes no group and no byte of HBM. -/
theorem cmdRes_frame : (s.cmdRes g r).ag = s.ag ∧ (s.cmdRes g r).mem = s.mem := by
  have hag : (s.cmdShown g r).ag = s.ag := by rw [State.cmdShown, State.wr_ag, State.wr_ag, State.wr_ag]
  have hmem : (s.cmdShown g r).mem = s.mem := by rw [State.cmdShown, State.wr_mem, State.wr_mem, State.wr_mem]
  by_cases hr : r = 0
  · subst hr
    exact ⟨hag, hmem⟩
  · rw [cmdRes_refused hr, State.flag_ag, State.flag_mem]
    exact ⟨hag, hmem⟩

end

/-! ## OPEN (R119, R121) -/

section
variable {s : State} {g : Nat}

theorem openReason_noGroup (h : 62 < g) : s.openReason g = some 1 := if_pos h

theorem openReason_notOff (h : g ≤ 62) (hs : s.gState g ≠ 0) : s.openReason g = some 9 :=
  (if_neg (not_lt.2 h)).trans (if_pos hs)

theorem groupOpen_refused {r : Nat} (h : s.openReason g = some r) : s.groupOpen g = s.cmdRes g r := by
  simp only [State.groupOpen, h]

theorem groupOpen_accepted (h : s.openReason g = none) : s.groupOpen g =
    (((s.setGrp g { (default : Grp) with s := s.rq (R.AG_GSTART g) }).wr (R.AG_GSTAT_state g) 1).wq (R.AG_GINT g) 0).cmdRes
      g 0 := by
  simp only [State.groupOpen, h]

end

/-! ## CLOSE and ABORT (R120, R122) -/

section
variable {s : State} {g : Nat} (abort : Bool) {tgt : Bool}

theorem groupEnd_noGroup (h : 62 < g) : s.groupEnd g abort tgt = s.cmdRes g 1 := by
  simp only [State.groupEnd, h, if_true]

variable (h : g ≤ 62)
include h

theorem groupEnd_begun (hb : s.bindTo tgt (s.rq R.AG_CMDTGT) = none) : s.groupEnd g abort tgt = s.cmdRes g 8 := by
  simp only [State.groupEnd, not_lt.2 h, hb, if_false]

variable {b : Nat} (hb : s.bindTo tgt (s.rq R.AG_CMDTGT) = some b)
include hb

theorem groupEnd_off (hs : s.gState g = 0) : s.groupEnd g abort tgt = s.cmdRes g 9 := by
  simp only [State.groupEnd, not_lt.2 h, hb, hs, if_false, if_true]

variable (hs : s.gState g ≠ 0)
include hs

theorem groupEnd_busy (hw : (s.grp g).cmd ≠ none ∨ s.gState g = 4) : s.groupEnd g abort tgt = s.cmdRes g 10 := by
  have hw' : (s.grp g).cmd.isSome = true ∨ s.gState g = 4 := hw.imp_left Option.isSome_iff_ne_none.2
  simp only [State.groupEnd, not_lt.2 h, hb, hs, if_pos hw', if_false]

theorem groupEnd_binds (h4 : s.gState g ≠ 4) (hc : (s.grp g).cmd = none) : s.groupEnd g abort tgt =
    (((s.setGrp g { s.grp g with cmd := some (abort, b) }).wq R.AG_CMDBND b).cmdPending).cmdRes g 0 := by
  simp only [State.groupEnd, not_lt.2 h, hb, hs, h4, hc, Option.isSome_none, Bool.false_eq_true, or_self, if_false]

end

/-! ## AG_CMD -/

/-- AG_CMD. -/
def locAgCmd : Loc := ⟨⟨.AG_CMD, 0x8, [], false, [⟨13, 8, .wo, 0, []⟩, ⟨4, 4, .wo, 0, []⟩, ⟨2, 0, .wo, 0, []⟩]⟩, [], false⟩

theorem locate_agCmd : locate R.AG_CMD = some locAgCmd := by decide

/-- Giving a field a value leaves the other fields of a word alone. -/
theorem getBits_force_disjoint (v : Word) {f : FRef} (x : Nat) (hf : f.lo + f.w ≤ 32) {lo w : Nat}
    (hd : lo + w ≤ f.lo ∨ f.lo + f.w ≤ lo) : getBits (force v f x).toNat lo w = getBits v.toNat lo w := by
  rw [force, BitVec.toNat_ofNat, Nat.mod_eq_of_lt (putBits_lt v.isLt hf), getBits_putBits_disjoint hd]

section
variable {s : State} {m : Fin 20} {v : Word}

/-- Giving AG_CMD an operation leaves the group and the target bit that it names. -/
theorem getBits_force_agCmd (v : Word) (op : Nat) : getBits (force v R.AG_CMD_op op).toNat 0 3 = op % 8
    ∧ getBits (force v R.AG_CMD_op op).toNat 8 6 = getBits v.toNat 8 6
    ∧ getBits (force v R.AG_CMD_op op).toNat 4 1 = getBits v.toNat 4 1 :=
  ⟨getBits_force v (f := R.AG_CMD_op) op (by decide), getBits_force_disjoint v op (by decide) (by decide),
    getBits_force_disjoint v op (by decide) (by decide)⟩

theorem groupCmd_open (v : Word) : s.groupCmd (force v R.AG_CMD_op 1).toNat = s.groupOpen (getBits v.toNat 8 6) := by
  obtain ⟨hop, hgroup, -⟩ := getBits_force_agCmd v 1
  simp only [State.groupCmd, hop, hgroup]

theorem groupCmd_close (v : Word) : s.groupCmd (force v R.AG_CMD_op 2).toNat
    = s.groupEnd (getBits v.toNat 8 6) false (getBits v.toNat 4 1 = 1) := by
  obtain ⟨hop, hgroup, htgt⟩ := getBits_force_agCmd v 2
  simp only [State.groupCmd, hop, hgroup, htgt]

theorem groupCmd_abort (v : Word) : s.groupCmd (force v R.AG_CMD_op 3).toNat
    = s.groupEnd (getBits v.toNat 8 6) true (getBits v.toNat 4 1 = 1) := by
  obtain ⟨hop, hgroup, htgt⟩ := getBits_force_agCmd v 3
  simp only [State.groupCmd, hop, hgroup, htgt]

/-- A write that AG_CMD takes is its command. -/
theorem does_write_agCmd {w : Word} (h : s.takes m R.AG_CMD w) :
    s.does (fun s => s.writeWord m R.AG_CMD w) = .next (((s.landed m R.AG_CMD w).groupCmd w.toNat).okResp []) :=
  (s.does_on h.1.1 _).trans (congrArg _ (writeWord_effect h locate_agCmd (by decide) rfl))

theorem exec_groupOpen (h : s.takes m R.AG_CMD (force v R.AG_CMD_op 1)) : exec (.groupOpen m v) s
    = .next (((s.landed m R.AG_CMD (force v R.AG_CMD_op 1)).groupOpen (getBits v.toNat 8 6)).okResp []) :=
  (does_write_agCmd h).trans (by rw [groupCmd_open])

theorem exec_groupClose (h : s.takes m R.AG_CMD (force v R.AG_CMD_op 2)) : exec (.groupClose m v) s
    = .next (((s.landed m R.AG_CMD (force v R.AG_CMD_op 2)).groupEnd (getBits v.toNat 8 6) false
      (getBits v.toNat 4 1 = 1)).okResp []) :=
  (does_write_agCmd h).trans (by rw [groupCmd_close])

theorem exec_groupAbort (h : s.takes m R.AG_CMD (force v R.AG_CMD_op 3)) : exec (.groupAbort m v) s
    = .next (((s.landed m R.AG_CMD (force v R.AG_CMD_op 3)).groupEnd (getBits v.toNat 8 6) true
      (getBits v.toNat 4 1 = 1)).okResp []) :=
  (does_write_agCmd h).trans (by rw [groupCmd_abort])

end

/-- Settles O11: OPEN by its reason, CLOSE and ABORT by their checks in order, and the answer by what AG_CMDRES and cmd_err
then read. -/
theorem groupCommandsAct : Obligations.GroupCommandsAct := by
  unfold Obligations.GroupCommandsAct
  intro s g
  refine ⟨⟨fun r => groupOpen_refused, openReason_noGroup, openReason_notOff, groupOpen_accepted⟩, fun abort tgt => ?_,
    fun r hr hg => ?_⟩
  · exact ⟨groupEnd_noGroup abort, fun h => ⟨groupEnd_begun abort h, fun b hb => ⟨groupEnd_off abort h hb,
      groupEnd_busy abort h hb, groupEnd_binds abort h hb⟩⟩⟩
  · obtain ⟨hag, hmem⟩ := cmdRes_frame (s := s) (g := g) (r := r)
    exact ⟨rd_cmdRes_reason hr, rd_cmdRes_group hg, on_cmdRes_valid, on_cmdRes_cmdErr, hag, hmem⟩

end Sys2Proof.Machine
end

section
/-! The Pair Map: its journal and its commit, a committed journal that reaches its round, the digest, and direct writes
(R109 to R113). -/

namespace Sys2Proof.Machine

/-! ## The commit of the journal (R111) -/

/-- AG_PMCMT. -/
def locPmCmt : Loc := ⟨⟨.AG_PMCMT, 0x40, [], false, [⟨30, 16, .rw, 0, []⟩, ⟨1, 1, .rw, 0, []⟩, ⟨0, 0, .wo, 0, []⟩]⟩, [], false⟩

theorem locate_pmCmt : locate R.AG_PMCMT = some locPmCmt := by decide

theorem exec_pairMapCommit {s : State} {m : Fin 20} {v : Word}
    (h : s.takes m R.AG_PMCMT (force v R.AG_PMCMT_commit 1)) :
    exec (.pairMapCommit m v) s = .next ((s.landed m R.AG_PMCMT (force v R.AG_PMCMT_commit 1)).pmCommit.okResp []) := by
  have hcommit : (force v R.AG_PMCMT_commit 1).toNat.testBit 0 = true := force_testBit (by decide) 0
  have hw : s.writeWord m R.AG_PMCMT (force v R.AG_PMCMT_commit 1) =
      ((s.landed m R.AG_PMCMT (force v R.AG_PMCMT_commit 1)).when
        ((force v R.AG_PMCMT_commit 1).toNat.testBit 0) State.pmCommit).okResp [] :=
    writeWord_effect h locate_pmCmt (by decide) rfl
  rw [hcommit] at hw
  exact (s.does_on h.1.1 fun s => s.writeWord m R.AG_PMCMT (force v R.AG_PMCMT_commit 1)).trans (congrArg _ hw)

section
variable {s : State}

/-- Some entry of a map breaks a condition of R109. -/
def State.mapBreaks (s : State) (m : SMap (BitVec 16)) (r : Nat) : Bool :=
  m.any fun p => s.entryFails m (p.1 / 4096) (p.1 % 4096) r

/-- A map is valid when no condition of R109 is broken by any of its entries. -/
theorem find?_mapBreaks_eq_none (m : SMap (BitVec 16)) : [2, 3, 4].find? (s.mapBreaks m) = none ↔ s.mapValid m = true := by
  simp only [List.find?_eq_none, State.mapBreaks, List.any_eq_true, not_exists, not_and, State.mapValid, List.all_eq_true,
    Bool.not_eq_true', Bool.not_eq_true]
  exact ⟨fun h p hp r hr => h r hr p hp, fun h r hr p hp => h p hp r hr⟩

/-- The map with the journal's edits. -/
def State.journalMap (s : State) : SMap (BitVec 16) := applyEdits s.ag.pm (s.pmEdits (s.rd R.AG_PMCMT_cnt))

/-- The round to which the journal's commit binds. -/
def State.journalBound (s : State) : Option Nat := s.bindTo (s.on R.AG_PMCMT_tgt) (s.rq R.AG_PMTGT)

/-- The length of the taint table with what the journal brings to it. -/
def State.journalRoom (s : State) : Nat :=
  s.ag.taints.length + (s.newTaints (s.applyTaints (s.journalBound.getD (s.rq R.AG_PMTGT))
    (s.pmEdits (s.rd R.AG_PMCMT_cnt)))).length

theorem pmCommit_count (h : s.rd R.AG_PMCMT_cnt = 0 ∨ 16384 < s.rd R.AG_PMCMT_cnt) : s.pmCommit = s.pmRefuse 1 0 0 0 := by
  simp only [State.pmCommit, if_pos h]

section
variable (h0 : 0 < s.rd R.AG_PMCMT_cnt) (h1 : s.rd R.AG_PMCMT_cnt ≤ 16384)
include h0 h1

/-- A map that breaks R109 is refused with the first condition broken, wherever it is. -/
theorem pmCommit_invalid (hv : s.mapValid s.journalMap = false) :
    ∃ r ∈ [2, 3, 4], ∃ e row col, s.pmCommit = s.pmRefuse r e row col := by
  have hcnt : ¬(s.rd R.AG_PMCMT_cnt = 0 ∨ 16384 < s.rd R.AG_PMCMT_cnt) := by omega
  obtain ⟨r, hr⟩ : ∃ r, [2, 3, 4].find? (s.mapBreaks s.journalMap) = some r :=
    Option.ne_none_iff_exists'.1 fun hnone => by simp [(find?_mapBreaks_eq_none _).1 hnone] at hv
  refine ⟨r, List.mem_of_find?_eq_some hr, ?_⟩
  unfold State.mapBreaks State.journalMap at hr
  simp only [State.pmCommit, if_neg hcnt, hr]
  split <;> exact ⟨_, _, _, rfl⟩

variable (hv : s.mapValid s.journalMap = true)
include hv

/-- What is left to judge of a journal whose map is valid. -/
theorem pmCommit_valid : s.pmCommit =
    if 65536 < s.journalRoom then s.pmRefuse 5 0 0 0
    else if s.ag.pmj.isSome = true then s.pmRefuse 6 0 0 0
    else if s.journalBound.isNone = true then s.pmRefuse 7 0 0 0
    else if s.on R.AG_CTL_pm_direct = true then s.pmRefuse 8 0 0 0
    else (State.wq { s with ag := { s.ag with pmj := some (s.journalBound.getD (s.rq R.AG_PMTGT),
      s.pmEdits (s.rd R.AG_PMCMT_cnt)) } } R.AG_PMBND (s.journalBound.getD (s.rq R.AG_PMTGT))).wr R.AG_STATUS_pm_pending 1 := by
  have hcnt : ¬(s.rd R.AG_PMCMT_cnt = 0 ∨ 16384 < s.rd R.AG_PMCMT_cnt) := by omega
  have hfind := (find?_mapBreaks_eq_none _).2 hv
  unfold State.mapBreaks State.journalMap at hfind
  simp only [State.pmCommit, if_neg hcnt, hfind]
  rfl

theorem pmCommit_full (h : 65536 < s.journalRoom) : s.pmCommit = s.pmRefuse 5 0 0 0 := by
  rw [pmCommit_valid h0 h1 hv, if_pos h]

variable (hr : s.journalRoom ≤ 65536)
include hr

theorem pmCommit_waiting (hj : s.ag.pmj ≠ none) : s.pmCommit = s.pmRefuse 6 0 0 0 := by
  rw [pmCommit_valid h0 h1 hv, if_neg (not_lt.2 hr), if_pos (Option.isSome_iff_ne_none.2 hj)]

variable (hj : s.ag.pmj = none)
include hj

theorem pmCommit_begun (hb : s.journalBound = none) : s.pmCommit = s.pmRefuse 7 0 0 0 := by
  simp only [pmCommit_valid h0 h1 hv, if_neg (not_lt.2 hr), hj, hb, Option.isSome_none, Option.isNone_none,
    Bool.false_eq_true, if_false, if_true]

variable {b : Nat} (hb : s.journalBound = some b)
include hb

theorem pmCommit_direct (hd : s.on R.AG_CTL_pm_direct = true) : s.pmCommit = s.pmRefuse 8 0 0 0 := by
  simp only [pmCommit_valid h0 h1 hv, if_neg (not_lt.2 hr), hj, hb, hd, Option.isSome_none, Option.isNone_some,
    Bool.false_eq_true, if_false, if_true]

theorem pmCommit_binds (hd : s.on R.AG_CTL_pm_direct = false) : s.pmCommit =
    (State.wq { s with ag := { s.ag with pmj := some (b, s.pmEdits (s.rd R.AG_PMCMT_cnt)) } } R.AG_PMBND b).wr
      R.AG_STATUS_pm_pending 1 := by
  simp only [pmCommit_valid h0 h1 hv, if_neg (not_lt.2 hr), hj, hb, hd, Option.isSome_none, Option.isNone_some,
    Option.getD_some, Bool.false_eq_true, if_false]

end

end

/-- Settles O10: each command by the operation that its write names, and then the commit by its checks in order. -/
theorem groupWrites : Obligations.GroupWrites := by
  unfold Obligations.GroupWrites
  refine ⟨fun s m v => ⟨?_, ?_, ?_, ?_⟩, fun s => ⟨pmCommit_count, fun h0 h1 => ⟨pmCommit_invalid h0 h1, fun hv =>
    ⟨pmCommit_full h0 h1 hv, fun hr => ⟨pmCommit_waiting h0 h1 hv hr, fun hj => ⟨pmCommit_begun h0 h1 hv hr hj, fun b hb =>
      ⟨pmCommit_direct h0 h1 hv hr hj hb, pmCommit_binds h0 h1 hv hr hj hb⟩⟩⟩⟩⟩⟩⟩
  · rintro w rfl ht
    exact exec_groupOpen ht
  · rintro w rfl ht
    exact exec_groupClose ht
  · rintro w rfl ht
    exact exec_groupAbort ht
  · rintro w rfl ht
    exact exec_pairMapCommit ht

/-! ## A committed journal at its round (R112, R113) -/

section
variable {s : State} {b : Nat} {es : List (Nat × Nat × Nat)}

/-- The map, the journal and the taint table after the journal's round. -/
def State.journalDone (s : State) (b : Nat) (es : List (Nat × Nat × Nat)) : State :=
  { s with ag := { s.ag with
    pm := applyEdits s.ag.pm es,
    pmOld := (s.ag.pmOld ++ [(b, s.ag.pm)]).drop ((s.ag.pmOld ++ [(b, s.ag.pm)]).length - 3),
    pmj := none,
    taints := s.ag.taints ++ s.newTaints (s.applyTaints b es) } }

variable (hj : s.ag.pmj = some (b, es)) (hb : s.begun b = true)
include hj hb

theorem pmApply_begun : s.pmApply = ((((s.journalDone b es).noteTaints).incBy (R.AG_CNT 9)
    (s.newTaints (s.applyTaints b es)).length).wr R.AG_STATUS_pm_pending 0).wr R.AG_STATUS_dig_busy 1 := by
  simp only [State.pmApply, hj, hb, if_true]
  rfl

theorem pmApply_ag : s.pmApply.ag = (s.journalDone b es).ag := by
  rw [pmApply_begun hj hb, State.wr_ag, State.wr_ag, State.incBy_ag, State.noteTaints, State.wr_ag]

theorem pmApply_frame : s.pmApply.mem = s.mem ∧ s.pmApply.out = s.out := by
  rw [pmApply_begun hj hb, State.wr_mem, State.wr_mem, State.incBy_mem, State.noteTaints, State.wr_mem, State.wr_out,
    State.wr_out, State.incBy_out, State.wr_out]
  exact ⟨rfl, rfl⟩

theorem on_pmApply_pmPending : s.pmApply.on R.AG_STATUS_pm_pending = false := by
  rw [pmApply_begun hj hb, State.on,
    State.rd_wr_disjoint (f := R.AG_STATUS_dig_busy) (g := R.AG_STATUS_pm_pending) _ _ (by decide) rfl (by decide),
    State.rd_wr_same _ _ _ (by decide)]
  rfl

theorem on_pmApply_digBusy : s.pmApply.on R.AG_STATUS_dig_busy = true := by
  rw [pmApply_begun hj hb, State.on, State.rd_wr_same _ _ _ (by decide)]
  rfl

end

/-! ## The digest (R113) -/

section
variable {s : State}

theorem pmDigestDone_busy (hash : Bytes → Bytes) (h : s.on R.AG_STATUS_dig_busy = true) : s.pmDigestDone hash =
    (s.wq R.AG_PMDIG (leNat ((hash (pmBytes s.ag.pm)).take 8))).wr R.AG_STATUS_dig_busy 0 := if_pos h

theorem pmDigestDone_mg (hash : Bytes → Bytes) : (s.pmDigestDone hash).mg = s.mg := by
  unfold State.pmDigestDone
  split <;> rfl

/-- With no digests kept from an Adjournment there is none to compare the map's with. -/
theorem pmDigestReady_noneKept (h : s.mg.digs = none) : s.pmDigestReady = s.pmDigestDone sha384 := by
  have hkept : (s.pmDigestDone sha384).mg.digs = none := by rw [pmDigestDone_mg, h]
  simp only [State.pmDigestReady, hkept]

end

/-! ## Direct writes (R110) -/

/-- A 16-bit word put byte by byte in place of another, low byte first. -/
theorem putBits_bytes (old x : BitVec 16) :
    BitVec.ofNat 16 (putBits (BitVec.ofNat 16 (putBits old.toNat 0 8 (BitVec.ofNat 8 x.toNat).toNat)).toNat 8 8
      (BitVec.ofNat 8 (x.toNat / 256)).toNat) = x := by
  have hx := x.isLt
  have hold := old.isLt
  apply BitVec.eq_of_toNat_eq
  simp only [BitVec.toNat_ofNat, putBits, Nat.shiftRight_eq_div_pow]
  omega

theorem targetOf_pairMap {o : Nat} (h : o < 0x2000000) : targetOf (0x6000000000 + o) = some (2, o) := by
  have hhbm : ¬0x6000000000 + o < 0x6000000000 := by omega
  have hmap : 0x6000000000 + o < 0x6002000000 := by omega
  simp only [targetOf, if_neg hhbm, if_pos hmap, Nat.add_sub_cancel_left]

section
variable {s : State}

/-- One byte of the map written in direct mode. -/
def State.mapPut (s : State) (o : Nat) (b : Byte) : State :=
  { s with ag := { s.ag with
    pm := smapSet 0 s.ag.pm (o / 2) (BitVec.ofNat 16 (putBits (smapGet 0 s.ag.pm (o / 2)).toNat (8 * (o % 2)) 8 b.toNat)),
    pmOld := [] } }

@[simp] theorem mapPut_csr (o : Nat) (b : Byte) : (s.mapPut o b).csr = s.csr := by simp only [State.mapPut]
@[simp] theorem mapPut_mem (o : Nat) (b : Byte) : (s.mapPut o b).mem = s.mem := by simp only [State.mapPut]
@[simp] theorem mapPut_out (o : Nat) (b : Byte) : (s.mapPut o b).out = s.out := by simp only [State.mapPut]

theorem pmDirect_byte (h : s.on R.AG_CTL_pm_direct = true) (o : Nat) (b : Byte) :
    (s.pmDirect (o / 2 / 4096) (o / 2 % 4096)
      (BitVec.ofNat 16 (putBits (smapGet 0 s.ag.pm (o / 2)).toNat (8 * (o % 2)) 8 b.toNat))).1 = s.mapPut o b := by
  simp only [State.pmDirect, h, if_true, Nat.div_add_mod']
  rfl

/-- Two bytes written to the map in direct mode, one after the other. -/
theorem accessMap_two (h : s.on R.AG_CTL_pm_direct = true) (o : Nat) (b c : Byte) :
    s.accessMap o (.write [some b, some c]) = ((s.mapPut o b).mapPut (o + 1) c, some []) := by
  have hnot : (!s.on R.AG_CTL_pm_direct) = false := by simp only [h, Bool.not_true]
  have h' : (s.mapPut o b).on R.AG_CTL_pm_direct = true := by
    rwa [State.on, State.rd_of_csr (mapPut_csr o b), ← State.on]
  simp only [State.accessMap, hnot, Bool.false_eq_true, if_false, State.fold, List.zipIdx_cons, List.zipIdx_nil,
    List.foldl_cons, List.foldl_nil, Nat.add_zero, Nat.zero_add, pmDirect_byte h, pmDirect_byte h']

/-- The two bytes of an entry written in direct mode, low byte first (R108). -/
def State.entryPut (s : State) (e : Nat) (x : BitVec 16) : State :=
  (s.mapPut (2 * e) (BitVec.ofNat 8 x.toNat)).mapPut (2 * e + 1) (BitVec.ofNat 8 (x.toNat / 256))

theorem entryPut_frame (e : Nat) (x : BitVec 16) :
    (s.entryPut e x).csr = s.csr ∧ (s.entryPut e x).mem = s.mem ∧ (s.entryPut e x).out = s.out := by
  simp only [State.entryPut, mapPut_csr, mapPut_mem, mapPut_out, and_self]

/-- The entry written reads its value, and the others are as they were. -/
theorem smapGet_entryPut (e : Nat) (x : BitVec 16) (k : Nat) :
    smapGet 0 (s.entryPut e x).ag.pm k = if k = e then x else smapGet 0 s.ag.pm k := by
  have hlo : 2 * e / 2 = e := by omega
  have hlo' : 2 * e % 2 = 0 := by omega
  have hhi : (2 * e + 1) / 2 = e := by omega
  have hhi' : (2 * e + 1) % 2 = 1 := by omega
  simp only [State.entryPut, State.mapPut, hlo, hlo', hhi, hhi']
  split
  · next hk =>
    rw [hk, smapGet_set_same, smapGet_set_same]
    exact putBits_bytes _ x
  · next hk => rw [smapGet_set_ne _ _ _ _ hk, smapGet_set_ne _ _ _ _ hk]

/-- A burst inside the map by a master with a path to it, the host's after Ready, reaches the map. -/
theorem access_pairMap {m : Nat} (ch : Nat) {o : Nat} {op : XbOp} (ho : o < 0x2000000) (hp : hasPath m 2 = true)
    (hlen : opLen op ≠ 0) (hfit : (0x6000000000 + o) % 1024 + opLen op ≤ 1024)
    (hready : m = 0 → s.on R.MG_STATUS_ready = true) : s.access m ch (0x6000000000 + o) op = s.accessMap o op := by
  have hburst : ¬(opLen op = 0 ∨ 1024 < (0x6000000000 + o) % 1024 + opLen op) := by omega
  have hhost : ¬(m = 0 && !s.hostTarget 2 o) = true := by
    simp only [Bool.and_eq_true, decide_eq_true_eq, Bool.not_eq_true']
    rintro ⟨hm, ht⟩
    simp [State.hostTarget, hready hm] at ht
  have hsec : (!s.secure m ch && s.secRefused 2 o op) = false := by
    cases op <;> simp [State.secRefused]
  simp only [State.access, targetOf_pairMap ho, hp, if_neg hburst, if_neg hhost, hsec, Bool.not_true, Bool.false_eq_true,
    if_false]

/-- A direct write of an entry puts its two bytes, and is answered without error. -/
theorem exec_pairMapDirectWrite (hoff : s.off = false) {m : Fin 20} (u v : Fin 4096) (x : BitVec 16)
    (hp : hasPath m 2 = true) (hq : s.quiesced m = false) (hready : m.val = 0 → s.on R.MG_STATUS_ready = true)
    (hd : s.on R.AG_CTL_pm_direct = true) :
    exec (.pairMapDirectWrite m u v x) s = .next ((s.entryPut (u.val * 4096 + v.val) x).okResp []) := by
  have hu := u.isLt
  have hv := v.isLt
  have hbytes : (leBytes 2 x.toNat).map some = [some (BitVec.ofNat 8 x.toNat), some (BitVec.ofNat 8 (x.toNat / 256))] := rfl
  have hacc := access_pairMap (s := s) (m := m) 0 (o := 2 * (u.val * 4096 + v.val))
    (op := .write [some (BitVec.ofNat 8 x.toNat), some (BitVec.ofNat 8 (x.toNat / 256))]) (by omega) hp (Nat.succ_ne_zero 1)
    (by simp only [opLen, List.length_cons, List.length_nil]; omega) hready
  refine (s.does_on hoff fun s => s.burst m 0 (0x6000000000 + 2 * (u.val * 4096 + v.val))
    (.write ((leBytes 2 x.toNat).map some)) false).trans (congrArg _ ?_)
  simp only [State.burst, hq, Bool.false_eq_true, if_false, hbytes, hacc, accessMap_two hd, Answer.respond,
    State.entryPut]

end

/-- Settles O12: a journal at its round, the digest of the map as it stands, and a direct write as two bytes of one entry. -/
theorem pairMapChanges : Obligations.PairMapChanges := by
  unfold Obligations.PairMapChanges
  intro s hoff
  refine ⟨fun b es hj hb => ?_, fun hbusy hkept => ?_, fun m u v x hp hq hready hd => ?_⟩
  · have hag := pmApply_ag hj hb
    obtain ⟨hmem, hout⟩ := pmApply_frame hj hb
    refine ⟨s.pmApply, s.does_on hoff State.pmApply, ?_, ?_, ?_, on_pmApply_pmPending hj hb, on_pmApply_digBusy hj hb, hmem,
      hout⟩ <;> rw [hag] <;> rfl
  · rw [← pmDigestDone_busy sha384 hbusy, ← pmDigestReady_noneKept hkept]
    exact s.does_on hoff State.pmDigestReady
  · obtain ⟨hcsr, hmem, hout⟩ := entryPut_frame (s := s) (u.val * 4096 + v.val) x
    refine ⟨_, exec_pairMapDirectWrite hoff u v x hp hq hready hd, ?_, fun k hk => ?_, rfl,
      (State.okResp_csr _ _).trans hcsr, (State.okResp_mem _ _).trans hmem, (State.okResp_out _ _).trans hout⟩
    · rw [State.okResp_ag, smapGet_entryPut, if_pos rfl]
    · rw [State.okResp_ag, smapGet_entryPut, if_neg hk]

end Sys2Proof.Machine
end

section
/-! The Beam Array's registers written: its states, weight sets, and the commit of the beam configuration
(Table 6-2, R138, R141 to R143, R145). -/

namespace Sys2Proof.Machine

/-! ## Confirming and switching weight sets (R142, R143) -/

section
variable {s : State}

/-- The boundary to which a switch of weight sets binds. -/
def State.switchBound (s : State) : Option Nat := s.bindTo (s.on R.BA_WSEL_tgt) (s.rq R.BA_WTGT)

/-- A write that confirms and switches confirms first. (Log entry 85.) -/
theorem weightSelect_confirmsFirst (a b : Bool) :
    s.weightSelect true a b = (s.weightSelect false a b).weightSelect true false false := rfl

theorem weightSwitch_waiting (hp : s.on R.BA_STATUS_w_pending = true) : s.weightSelect true false false = s.baErr 9 0 := by
  simp only [State.weightSelect, State.when, hp, Bool.false_eq_true, if_false, if_true]

section
variable (hp : s.on R.BA_STATUS_w_pending = false)
include hp

theorem weightSwitch_begun (hb : s.switchBound = none) : s.weightSelect true false false = s.baErr 10 0 := by
  unfold State.switchBound at hb
  simp only [State.weightSelect, State.when, hp, hb, Bool.false_eq_true, if_false, if_true]

variable {n : Nat} (hb : s.switchBound = some n)
include hb

theorem weightSwitch_unverified (hu : s.unverified (s.rd R.BA_WSEL_sel) = true) :
    s.weightSelect true false false = s.baErr 12 0 := by
  unfold State.switchBound at hb
  simp only [State.weightSelect, State.when, hp, hb, hu, Bool.false_eq_true, if_false, if_true]

theorem weightSwitch_binds (hu : s.unverified (s.rd R.BA_WSEL_sel) = false) :
    s.weightSelect true false false = (((State.wq { s with ba := { s.ba with
      sets := bindRound s.ba.sets n (s.rd R.BA_WSEL_sel), dig := s.ba.dig ++ [s.rd R.BA_WSEL_sel] } } R.BA_WBND n).wr
        R.BA_STATUS_w_pending 1).wr R.BA_STATUS_dig_busy 1).bindChange n .weights := by
  unfold State.switchBound at hb
  simp only [State.weightSelect, State.when, hp, hb, hu, Bool.false_eq_true, if_false, if_true]

end

end

/-- Settles O14: a confirmation clears its mark alone, and a switch makes its checks in their order. -/
theorem weightSetsSwitch : Obligations.WeightSetsSwitch := by
  unfold Obligations.WeightSetsSwitch
  exact fun s => ⟨rfl, rfl, weightSelect_confirmsFirst, weightSwitch_waiting, fun hp => ⟨weightSwitch_begun hp, fun n hb =>
    ⟨weightSwitch_unverified hp hb, weightSwitch_binds hp hb⟩⟩⟩

/-! ## BA_CTL, BA_WSEL and BA_BCMT -/

/-- BA_CTL. -/
def locBaCtl : Loc := ⟨⟨.BA_CTL, 0x0, [], false, [⟨1, 1, .wo, 0, []⟩, ⟨0, 0, .rw, 0, []⟩]⟩, [], false⟩

/-- BA_WSEL. -/
def locWsel : Loc := ⟨⟨.BA_WSEL, 0x30, [], false,
  [⟨5, 5, .wo, 0, []⟩, ⟨4, 4, .wo, 0, []⟩, ⟨2, 2, .rw, 0, []⟩, ⟨1, 1, .rw, 0, []⟩, ⟨0, 0, .wo, 0, []⟩]⟩, [], false⟩

/-- BA_BCMT. -/
def locBcmt : Loc := ⟨⟨.BA_BCMT, 0x28, [], false, [⟨1, 1, .rw, 0, []⟩, ⟨0, 0, .wo, 0, []⟩]⟩, [], false⟩

theorem locate_baCtl : locate R.BA_CTL = some locBaCtl := by decide
theorem locate_wsel : locate R.BA_WSEL = some locWsel := by decide
theorem locate_bcmt : locate R.BA_BCMT = some locBcmt := by decide

theorem landed_cf {s : State} {m a : Nat} {v : Word} {l : Loc} (hl : locate a = some l) (hp : l.reg.pair = false) :
    (s.landed m a v).cf = s.cf := by
  rw [landed_eq_setWord hl hp, State.setWord_cf]

/-- With no region load pending, no commit of beams or weights meets one (R372). -/
theorem beamHeld_of_noLoad {s : State} (h : s.cf.pending = none) (tgt : Bool) (n : Nat) : s.beamHeld tgt n = false := by
  unfold State.beamHeld State.loadBinds
  rw [h]
  split <;> rfl

section
variable {s : State} {m : Nat} {w : Word}

theorem baState_landed_baCtl : (s.landed m R.BA_CTL w).baState = s.baState := rd_landed_ne locate_baCtl rfl (by decide)

theorem endgame_landed_baCtl : (s.landed m R.BA_CTL w).on R.CK_STATUS_endgame = s.on R.CK_STATUS_endgame := by
  rw [State.on, rd_landed_ne locate_baCtl rfl (by decide), State.on]

theorem writeWord_wsel (h : s.takes m R.BA_WSEL w) : s.writeWord m R.BA_WSEL w =
    ((s.landed m R.BA_WSEL w).weightSelect (w.toNat.testBit 0) (w.toNat.testBit 4) (w.toNat.testBit 5)).okResp [] := by
  obtain ⟨-, -, hc, -⟩ := h.1
  have hfree := beamHeld_of_noLoad (s := s.landed m R.BA_WSEL w) ((congrArg CfState.pending (landed_cf locate_wsel rfl)).trans hc)
  rw [writeWord_effect h locate_wsel (by decide) rfl]
  simp only [State.wrote, locWsel, hfree, Bool.and_false, Bool.false_eq_true, if_false]

theorem writeWord_bcmt (h : s.takes m R.BA_BCMT w) : s.writeWord m R.BA_BCMT w =
    ((s.landed m R.BA_BCMT w).when (w.toNat.testBit 0) State.beamCommit).okResp [] := by
  obtain ⟨-, -, hc, -⟩ := h.1
  have hfree := beamHeld_of_noLoad (s := s.landed m R.BA_BCMT w) ((congrArg CfState.pending (landed_cf locate_bcmt rfl)).trans hc)
  rw [writeWord_effect h locate_bcmt (by decide) rfl]
  simp only [State.wrote, locBcmt, State.when, hfree, Bool.false_eq_true, if_false]

end

section
variable {s : State} {m : Fin 20} {v : Word}

/-- A write of BA_CTL enables or disables the Beam Array, and then halts it as its command bit says. -/
theorem does_write_baCtl {w : Word} {en halt : Bool} (h : s.takes m R.BA_CTL w) (hen : w.toNat.testBit 0 = en)
    (hhalt : w.toNat.testBit 1 = halt) : s.does (fun s => s.writeWord m R.BA_CTL w) = .next
      (((if en then (s.landed m R.BA_CTL w).beamEnable (s.on R.BA_CTL_en) else (s.landed m R.BA_CTL w).beamDisable).when halt
        State.beamHalt).okResp []) := by
  subst hen hhalt
  exact (s.does_on h.1.1 _).trans (congrArg _ (writeWord_effect h locate_baCtl (by decide) rfl))

theorem exec_beamArrayEnable (h : s.takes m R.BA_CTL (force v R.BA_CTL_en 1)) (hhalt : v.toNat.testBit 1 = false) :
    exec (.beamArrayEnable m v) s
      = .next (((s.landed m R.BA_CTL (force v R.BA_CTL_en 1)).beamEnable (s.on R.BA_CTL_en)).okResp []) :=
  does_write_baCtl (en := true) h (force_testBit (by decide) 0) ((force_testBit (by decide) 1).trans hhalt)

theorem exec_beamArrayDisable (h : s.takes m R.BA_CTL (force v R.BA_CTL_en 0)) (hhalt : v.toNat.testBit 1 = false) :
    exec (.beamArrayDisable m v) s = .next ((s.landed m R.BA_CTL (force v R.BA_CTL_en 0)).beamDisable.okResp []) :=
  does_write_baCtl (en := false) h (force_testBit (by decide) 0) ((force_testBit (by decide) 1).trans hhalt)

theorem exec_beamArrayHalt (h : s.takes m R.BA_CTL (force v R.BA_CTL_halt 1)) (hen : v.toNat.testBit 0 = true) :
    exec (.beamArrayHalt m v) s
      = .next (((s.landed m R.BA_CTL (force v R.BA_CTL_halt 1)).beamEnable (s.on R.BA_CTL_en)).beamHalt.okResp []) := by
  have hw := does_write_baCtl (en := true) (halt := true) h ((force_testBit (by decide) 0).trans hen)
    (force_testBit (by decide) 1)
  simp only [State.when, if_true] at hw
  exact hw

theorem exec_weightSetConfirm (h : s.takes m R.BA_WSEL v) : exec (.weightSetConfirm m v) s = .next
    (((s.landed m R.BA_WSEL v).weightSelect (v.toNat.testBit 0) (v.toNat.testBit 4) (v.toNat.testBit 5)).okResp []) :=
  (s.does_on h.1.1 fun s => s.writeWord m R.BA_WSEL v).trans (congrArg _ (writeWord_wsel h))

theorem exec_weightSetSwitch (h : s.takes m R.BA_WSEL (force v R.BA_WSEL_commit 1)) :
    exec (.weightSetSwitch m v) s = .next (((s.landed m R.BA_WSEL (force v R.BA_WSEL_commit 1)).weightSelect
      true (v.toNat.testBit 4) (v.toNat.testBit 5)).okResp []) := by
  have hcommit : (force v R.BA_WSEL_commit 1).toNat.testBit 0 = true := force_testBit (by decide) 0
  have ha : (force v R.BA_WSEL_commit 1).toNat.testBit 4 = v.toNat.testBit 4 := force_testBit (by decide) 4
  have hb : (force v R.BA_WSEL_commit 1).toNat.testBit 5 = v.toNat.testBit 5 := force_testBit (by decide) 5
  have hw := writeWord_wsel h
  rw [hcommit, ha, hb] at hw
  exact (s.does_on h.1.1 fun s => s.writeWord m R.BA_WSEL (force v R.BA_WSEL_commit 1)).trans (congrArg _ hw)

theorem exec_beamConfigCommit (h : s.takes m R.BA_BCMT (force v R.BA_BCMT_commit 1)) :
    exec (.beamConfigCommit m v) s
      = .next ((s.landed m R.BA_BCMT (force v R.BA_BCMT_commit 1)).beamCommit.okResp []) := by
  have hcommit : (force v R.BA_BCMT_commit 1).toNat.testBit 0 = true := force_testBit (by decide) 0
  have hw := writeWord_bcmt h
  simp only [hcommit, State.when, if_true] at hw
  exact (s.does_on h.1.1 fun s => s.writeWord m R.BA_BCMT (force v R.BA_BCMT_commit 1)).trans (congrArg _ hw)

end

/-! ## The Beam Array's states (Table 6-2) -/

section
variable {s : State} {was : Bool}

/-- The Beam Array waits, with nothing queued and no first round yet. -/
def State.beamWaits (s : State) : State :=
  State.wr { s with ba := { s.ba with start := none, queue := [] } } R.BA_STATUS_state 1

theorem beamEnable_idle_starts (h : s.baState = 0) (hr : s.baReason = none) : s.beamEnable was = s.beamWaits := by
  simp [State.beamEnable, h, hr, State.beamWaits]

theorem beamEnable_idle_refused (h : s.baState = 0) {r : Nat} (hr : s.baReason = some r) :
    s.beamEnable was = (s.baRefuse r).wr R.BA_CTL_en 0 := by
  simp [State.beamEnable, h, hr]

theorem beamEnable_halted_starts (h : s.baState = 3) (heg : s.on R.CK_STATUS_endgame = false) (hr : s.baReason = none) :
    s.beamEnable was = s.beamWaits := by
  simp [State.beamEnable, h, heg, hr, State.beamWaits]

theorem beamEnable_wait (h : s.baState = 1) : s.beamEnable was = s := by simp [State.beamEnable, h]

theorem beamEnable_run (h : s.baState = 2) : s.beamEnable true = s := by simp [State.beamEnable, h]

theorem beamDisable_stops (h : s.baState = 1 ∨ s.baState = 3) :
    s.beamDisable = State.wr { s with ba := { s.ba with queue := [] } } R.BA_STATUS_state 0 := if_pos h

theorem beamDisable_stays (h : s.baState = 0 ∨ s.baState = 2) : s.beamDisable = s := if_neg (by omega)

theorem beamHalt_stops (h : s.baState = 1 ∨ s.baState = 2) : s.beamHalt =
    State.wr { s.abandonBeam with ba := { s.abandonBeam.ba with queue := [] } } R.BA_STATUS_state 3 := if_pos h

theorem baState_beamHalt (h : s.baState = 1 ∨ s.baState = 2) : s.beamHalt.baState = 3 := by
  rw [beamHalt_stops h, State.baState, State.rd_wr_same _ _ _ (by decide)]
  rfl

end

/-! ## What the products of a round leave of the Beam Array -/

/-- The Beam Array with its staging and its products out of sight: its configurations, its queue and the round in progress. -/
def BaState.offProducts (b : BaState) : BaState :=
  { b with volt := [], det := [], vdone := [], due := [], bad := [], shed := [] }

theorem offProducts_det (b : BaState) (x : SMap DetRec) : BaState.offProducts { b with det := x } = b.offProducts := rfl

theorem offProducts_forget (b : BaState) (x : List BadSet) (y : SMap Nat) :
    BaState.offProducts { b with bad := x, shed := y } = b.offProducts := rfl

theorem offProducts_volt (b : BaState) (x : SMap (Int × Int × Nat)) :
    BaState.offProducts { b with volt := x } = b.offProducts := rfl

theorem offProducts_again (b : BaState) : b.offProducts.again = b.again := rfl

theorem offProducts_poison (b : BaState) : b.offProducts.poison = b.poison := rfl

theorem offProducts_round (b : BaState) : b.offProducts.round = b.round := rfl

section
variable (s : State)

/-- Steps that each change no more than staging and products change no more together. -/
theorem fold_offProducts {α : Type} (f : State → α → State) (h : ∀ t x, (f t x).ba.offProducts = t.ba.offProducts)
    (l : List α) : (s.fold l f).ba.offProducts = s.ba.offProducts :=
  foldl_keeps (P := fun t => t.ba.offProducts = s.ba.offProducts) (fun t x ht => (h t x).trans ht) l rfl

/-- A step that may be left out changes no more than it does when it is taken. -/
theorem when_offProducts (c : Bool) (f : State → State) (h : (f s).ba.offProducts = s.ba.offProducts) :
    (s.when c f).ba.offProducts = s.ba.offProducts := by
  cases c
  · rfl
  · exact h

theorem addDue_offProducts (x : Inst) : (s.addDue x).ba.offProducts = s.ba.offProducts := rfl

theorem windowsEnd_offProducts (n x : Nat) : (s.windowsEnd n x).ba.offProducts = s.ba.offProducts := by
  unfold State.windowsEnd
  by_cases h : (profBeams (s.baCfg n) x).isEmpty = true
  · rw [if_pos h]
  · rw [if_neg h, offProducts_det]
    refine fold_offProducts s _ ?_ _
    exact fun t _ => addDue_offProducts t _

theorem voltEnd_offProducts (n : Nat) : (s.voltEnd n).ba.offProducts = s.ba.offProducts := by
  unfold State.voltEnd
  refine fold_offProducts _ _ ?_ _
  exact fun t _ => addDue_offProducts t _

theorem beamOver_offProducts (n : Nat) : (s.beamOver n).ba.offProducts = s.ba.offProducts := by
  unfold State.beamOver
  rw [offProducts_forget, windowsEnd_offProducts, windowsEnd_offProducts,
    when_offProducts _ _ _ (voltEnd_offProducts s n)]

theorem beamOver_round (n : Nat) : (s.beamOver n).ba.round = s.ba.round := by
  rw [← offProducts_round, beamOver_offProducts, offProducts_round]

theorem abandonBeam_round : s.abandonBeam.ba.round = none := by
  unfold State.abandonBeam
  split
  · assumption
  · exact beamOver_round _ _

end

theorem ba_beamHalt {s : State} (h : s.baState = 1 ∨ s.baState = 2) :
    s.beamHalt.ba.queue = [] ∧ s.beamHalt.ba.round = none := by
  rw [beamHalt_stops h, State.wr_ba]
  exact ⟨rfl, abandonBeam_round s⟩

/-! ## The commit of the beam configuration (R145) -/

section
variable {s : State}

/-- The boundary to which a commit of the beam configuration binds. -/
def State.beamBound (s : State) : Option Nat := s.bindTo (s.on R.BA_BCMT_tgt) (s.rq R.BA_BTGT)

theorem beamCommit_refused {r i : Nat} (h : s.beamReason s.beamShadow = some (r, i)) (hr : r ≠ 11) :
    s.beamCommit = s.baErr r i := by
  unfold State.beamCommit
  simp only [h, hr, false_and, if_false]

variable (h : s.beamReason s.beamShadow = none)
include h

theorem beamCommit_waiting (hp : s.on R.BA_STATUS_b_pending = true) : s.beamCommit = s.baErr 9 0 := by
  unfold State.beamCommit
  simp only [h, hp, if_true]

variable (hp : s.on R.BA_STATUS_b_pending = false)
include hp

theorem beamCommit_begun (hb : s.beamBound = none) : s.beamCommit = s.baErr 10 0 := by
  unfold State.beamBound at hb
  unfold State.beamCommit
  simp only [h, hp, hb, Bool.false_eq_true, if_false]

theorem beamCommit_binds {n : Nat} (hb : s.beamBound = some n) : s.beamCommit = ((State.wq { s with
    ba := { s.ba with cfgs := bindRound s.ba.cfgs n s.beamShadow } } R.BA_BBND n).wr R.BA_STATUS_b_pending 1).bindChange
      n .beams := by
  unfold State.beamBound at hb
  unfold State.beamCommit
  simp only [h, hp, hb, Bool.false_eq_true, if_false]

end

/-- Settles O13: each command by what its register does in the state that the write leaves, in which the Beam Array stands as
before; then the halt by what the end of a round leaves, and the commit by its checks in their order. -/
theorem beamWrites : Obligations.BeamWrites := by
  unfold Obligations.BeamWrites
  refine ⟨fun s m v => ⟨?_, ?_, ?_, ?_, fun ht hc => ?_, ?_⟩, fun s => ⟨fun hs => ⟨baState_beamHalt hs, ba_beamHalt hs⟩,
    fun r i => beamCommit_refused, fun hr => ⟨beamCommit_waiting hr, fun hp => ⟨beamCommit_begun hr hp, fun n =>
      beamCommit_binds hr hp⟩⟩⟩⟩
  · rintro w L rfl rfl ht hhalt
    rw [exec_beamArrayEnable ht hhalt]
    refine ⟨fun hs => ⟨fun hr => ?_, fun r hr => ?_⟩, fun hs heg hr => ?_, fun hs => ?_⟩ <;>
      rw [← baState_landed_baCtl] at hs
    · rw [beamEnable_idle_starts hs hr]
      rfl
    · rw [beamEnable_idle_refused hs hr]
      rfl
    · rw [beamEnable_halted_starts hs (endgame_landed_baCtl.trans heg) hr]
      rfl
    · rw [beamEnable_wait hs]
      rfl
  · rintro w L rfl rfl ht hhalt
    rw [exec_beamArrayDisable ht hhalt]
    refine ⟨fun hs => ?_, fun hs => ?_⟩ <;> rw [← baState_landed_baCtl] at hs
    · rw [beamDisable_stops hs]
      rfl
    · rw [beamDisable_stays hs]
      rfl
  · rintro w L rfl rfl ht hen hon hs
    rw [exec_beamArrayHalt ht hen, hon]
    rcases hs with hs | hs <;> rw [← baState_landed_baCtl] at hs
    · rw [beamEnable_wait hs]
      rfl
    · rw [beamEnable_run hs]
      rfl
  · rintro w rfl ht
    exact exec_weightSetSwitch ht
  · rw [exec_weightSetConfirm ht, hc]
    rfl
  · rintro w rfl ht
    exact exec_beamConfigCommit ht

end Sys2Proof.Machine
end

section
/-! The Beam Array's rounds: a round that starts, its comparisons, its channel-sets, and the digest of a weight set
(R140, R143, R148, R190). -/

namespace Sys2Proof.Machine

/-! ## Staging leaves the round in progress as it is (R148, R150) -/

section
variable (s : State)

theorem noteClips_ba (k : Nat) : (s.noteClips k).ba = s.ba := by
  unfold State.noteClips
  split
  · rfl
  · rw [State.fire_ba, State.flag_ba, State.incBy_ba]

theorem stageVolt_offProducts (n v c tau : Nat) : (s.stageVolt n v c tau).ba.offProducts = s.ba.offProducts := by
  unfold State.stageVolt
  dsimp only
  split
  · rw [offProducts_volt]
  · rw [noteClips_ba, offProducts_volt]

theorem stageDet_offProducts (n x b c tau : Nat) : (s.stageDet n x b c tau).ba.offProducts = s.ba.offProducts := by
  unfold State.stageDet
  dsimp only
  rw [when_offProducts, offProducts_det]
  rw [State.flag_ba, State.inc_ba]

theorem stageSet_offProducts (n k t0 t1 : Nat) : (s.stageSet n k t0 t1).ba.offProducts = s.ba.offProducts := by
  unfold State.stageSet
  dsimp only
  refine (fold_offProducts _ _ (fun t x => fold_offProducts t _ (fun t b => fold_offProducts t _ (fun t c =>
    fold_offProducts t _ (fun t tau => stageDet_offProducts t n x b c tau) _) _) _) _).trans ?_
  exact fold_offProducts _ _ (fun t v => fold_offProducts t _ (fun t c => fold_offProducts t _ (fun t tau =>
    stageVolt_offProducts t n v c tau) _) _) _

theorem stageSet_again (n k t0 t1 : Nat) : (s.stageSet n k t0 t1).ba.again = s.ba.again := by
  rw [← offProducts_again, stageSet_offProducts, offProducts_again]

theorem stageSet_poison (n k t0 t1 : Nat) : (s.stageSet n k t0 t1).ba.poison = s.ba.poison := by
  rw [← offProducts_poison, stageSet_offProducts, offProducts_poison]

end

/-! ## Rounds that start and comparisons (R140, R190) -/

section
variable {s : State} {n : Nat}

/-- The state in which the Beam Array has taken a round with admitted work and loaded its first two weight banks. -/
def State.beamBegins (s : State) (n : Nat) : State :=
  let w := { s with ba := { s.ba with
    round := some n, cs := 0, t0 := 0, again := false, fail := none, failSl := 0, poison := false } }
  let w := (w.loadBank n 0).loadBank n 1
  ((w.wq R.BA_ROUND n).wr R.BA_STATUS_active_set (w.wsetOf n)).wr R.BA_STATUS_state 2

theorem beamStart_oldest {rest : List Nat} (hw : s.baState = 1) (hq : s.ba.queue = n :: rest) (hp : s.planOf n ≠ none)
    (hl : s.regionHolds [4] n = false) : s.beamStart =
      let w := (s.takeStaging n).shedBeams n
      if w.admitted n = 0 then w.beamOver n else (w.beamBegins n).startWork n := by
  have hplan : (s.planOf n).isNone = false := Option.isNone_eq_false_iff.2 (Option.isSome_iff_ne_none.2 hp)
  unfold State.beamStart
  rw [if_pos hw]
  simp only [hq, hplan, hl, Bool.or_self, Bool.false_eq_true, if_false]
  rfl

/-- Within a run of samples, the sample of a comparison is the one it names. -/
theorem clamp_of_inRange {t0 t len : Nat} (h0 : t0 ≤ t) (h1 : t < len) : max t0 (min t (len - 1)) = t := by omega

section
variable {t : Nat} (h0 : s.ba.t0 ≤ t) (h1 : t < s.roundLen)
include h0 h1

theorem suppress_first (hf : s.ba.fail = none) : s.suppress t = { s with ba := { s.ba with fail := some t } } := by
  simp only [State.suppress, clamp_of_inRange h0 h1, hf, Option.getD_none, min_self]

variable (hn : s.ba.round = some n) (sl d : Nat) (cols : List (Int × Int)) (chk : Int × Int)
include hn

theorem beamMismatch_equal (h : s.sliceDiffers n s.ba.cs sl d t cols chk = false) : s.beamMismatch sl d t cols chk = s := by
  simp only [State.beamMismatch, hn, clamp_of_inRange h0 h1, h, Bool.false_eq_true, if_false]

/-- The first comparison of a run that differs marks its slice and its sample. -/
theorem beamMismatch_first (h : s.sliceDiffers n s.ba.cs sl d t cols chk = true) (hf : s.ba.fail = none) :
    s.beamMismatch sl d t cols chk = { s with ba := { s.ba with failSl := sl, fail := some t } } := by
  have hsup := suppress_first (s := { s with ba := { s.ba with failSl := sl } }) h0 h1 hf
  simp only [State.beamMismatch, hn, clamp_of_inRange h0 h1, h, if_true]
  rw [← hn]
  exact hsup

end

end

/-! ## Channel-sets that end (R148, R190) -/

section
variable {n : Nat} (s : State) (rate least : Nat)

/-- The rates measured over a channel-set stand in BA_RATE. -/
def State.ratesShown : State :=
  (s.wr R.BA_RATE_last_set (min rate 65535)).wr R.BA_RATE_min_round (min least 65535)

theorem State.ratesShown_ba : (s.ratesShown rate least).ba = s.ba := by rw [State.ratesShown, State.wr_ba, State.wr_ba]

theorem State.roundLen_ratesShown : (s.ratesShown rate least).roundLen = s.roundLen := by
  have h1 : R.AL_ROUNDLEN_len.a ≠ R.BA_RATE_min_round.a := by decide
  have h2 : R.AL_ROUNDLEN_len.a ≠ R.BA_RATE_last_set.a := by decide
  rw [State.roundLen, State.ratesShown, State.rd_wr_ne _ _ h1, State.rd_wr_ne _ _ h2, State.roundLen]

variable {s}

section
variable (hn : s.ba.round = some n)
include hn

theorem setComplete_clean (hf : s.ba.fail = none) (ha : s.ba.again = false) : s.setComplete rate least
    = (((s.ratesShown rate least).stageSet n s.ba.cs s.ba.t0 s.roundLen).inc (R.BA_CNT 0)).nextSet n := by
  have hba := s.ratesShown_ba rate least
  have hlen := s.roundLen_ratesShown rate least
  unfold State.setComplete
  unfold State.ratesShown at hba hlen ⊢
  generalize (s.wr R.BA_RATE_last_set _).wr R.BA_RATE_min_round _ = u at hba hlen ⊢
  have hag := stageSet_again u n s.ba.cs s.ba.t0 s.roundLen
  simp only [hn, hba, hf, hlen]
  generalize u.stageSet n s.ba.cs s.ba.t0 s.roundLen = y at hag ⊢
  rw [hba, ha] at hag
  simp only [State.when, State.inc_ba, hag, Bool.false_eq_true, if_false]

variable {f : Nat} (hf : s.ba.fail = some f)
include hf

theorem setComplete_reruns (ha : s.ba.again = false) (hp : s.ba.poison = false)
    (hr : (((s.ratesShown rate least).stageSet n s.ba.cs s.ba.t0 f).inc (R.BA_CNT 0)).rerunsDone n = false) :
    s.setComplete rate least
      = let z := ((s.ratesShown rate least).stageSet n s.ba.cs s.ba.t0 f).inc (R.BA_CNT 0)
        ((State.countRerun { z with ba := { z.ba with t0 := f, again := true, fail := none } } n).inc (R.BA_CNT 1)).inc
          (R.IG_CNT 5) := by
  have hba := s.ratesShown_ba rate least
  unfold State.setComplete
  unfold State.ratesShown at hba hr ⊢
  generalize (s.wr R.BA_RATE_last_set _).wr R.BA_RATE_min_round _ = u at hba hr ⊢
  have hag := stageSet_again u n s.ba.cs s.ba.t0 f
  have hpo := stageSet_poison u n s.ba.cs s.ba.t0 f
  simp only [hn, hba, hf]
  generalize u.stageSet n s.ba.cs s.ba.t0 f = y at hag hpo hr ⊢
  rw [hba] at hag hpo
  simp only [State.when, hag, ha, hr, State.inc_ba, hpo, hp, Bool.not_false, Bool.or_self, Bool.false_eq_true, if_true,
    if_false]

theorem setComplete_invalid (ha : s.ba.again = true) : s.setComplete rate least
    = let y := (s.ratesShown rate least).stageSet n s.ba.cs s.ba.t0 f
      let z := { y with ba := { y.ba with
        bad := y.ba.bad ++ [(⟨n, y.baLo + s.ba.cs * y.setCh, y.setCh, f, true⟩ : BadSet)] } }
      ((((z.inc (R.BA_CNT 2)).inc (R.IG_CNT 6)).health 3 y.ba.failSl 2 0 n).impair n).nextSet n := by
  have hba := s.ratesShown_ba rate least
  unfold State.setComplete
  unfold State.ratesShown at hba ⊢
  generalize (s.wr R.BA_RATE_last_set _).wr R.BA_RATE_min_round _ = u at hba ⊢
  have hag := stageSet_again u n s.ba.cs s.ba.t0 f
  simp only [hn, hba, hf]
  generalize u.stageSet n s.ba.cs s.ba.t0 f = y at hag ⊢
  rw [hba, ha] at hag
  simp only [State.when, hag, Bool.not_true, Bool.true_or, Bool.false_and, Bool.false_eq_true, if_true, if_false]

end

end

/-! ## The digest of a weight set (R143) -/

theorem weightDigest_mg (s : State) (hash : Bytes → Bytes) : (s.weightDigest hash).mg = s.mg := by
  unfold State.weightDigest
  split <;> rfl

/-- With no digests kept from an Adjournment there is none to compare a set's with. -/
theorem weightDigestReady_noneKept {s : State} (h : s.mg.digs = none) : s.weightDigestReady = s.weightDigest sha384 := by
  have hkept : (s.weightDigest sha384).mg.digs = none := by rw [weightDigest_mg, h]
  simp only [State.weightDigestReady, hkept]

/-- Settles O15: each command by the step of the round that it makes. -/
theorem beamRuns : Obligations.BeamRuns := by
  unfold Obligations.BeamRuns
  intro s hoff
  refine ⟨fun n rest hw hq hp hl => ?_, fun n sl d t cols chk hn h0 h1 => ⟨fun h => ?_, fun h hf => ?_⟩,
    fun n rate least hn => ⟨fun hf ha => ?_, fun f hf => ⟨fun ha hp hr => ?_, fun ha => ?_⟩⟩, fun k rest hd hk => ?_⟩
  · exact (s.does_on hoff State.beamStart).trans (congrArg _ (beamStart_oldest hw hq hp hl))
  · exact (s.does_on hoff fun s => s.beamMismatch sl d t cols chk).trans
      (congrArg _ (beamMismatch_equal h0 h1 hn sl d cols chk h))
  · exact (s.does_on hoff fun s => s.beamMismatch sl d t cols chk).trans
      (congrArg _ (beamMismatch_first h0 h1 hn sl d cols chk h hf))
  · exact (s.does_on hoff fun s => s.setComplete rate least).trans (congrArg _ (setComplete_clean rate least hn hf ha))
  · exact (s.does_on hoff fun s => s.setComplete rate least).trans
      (congrArg _ (setComplete_reruns rate least hn hf ha hp hr))
  · exact (s.does_on hoff fun s => s.setComplete rate least).trans
      (congrArg _ (setComplete_invalid rate least hn hf ha))
  · exact (s.does_on hoff State.weightDigestReady).trans (congrArg _ (weightDigestReady_noneKept hk))

end Sys2Proof.Machine
end

section
/-! Ethernet ports: what a received frame counts, and how a port goes down and comes up (R154, R155, R231; Table 7-12). -/

namespace Sys2Proof.Machine

/-! ## The commands while the core is on -/

section
variable {s : State} (h : s.off = false) (p : Fin 8)
include h

theorem exec_ethernetFrameReceive (fcsOk : Bool) (f : Bytes) (ticks corr uncorr : Nat) :
    exec (.ethernetFrameReceive p fcsOk f ticks corr uncorr) s = .next (s.etherTake p fcsOk f ticks corr uncorr) :=
  s.does_on h fun s => s.etherTake p fcsOk f ticks corr uncorr

theorem exec_ethAlignmentLoss : exec (.ethAlignmentLoss p) s = .next (s.ethLost p) := s.does_on h fun s => s.ethLost p

theorem exec_ethLinkUp : exec (.ethLinkUp p) s = .next (s.ethRise p) := s.does_on h fun s => s.ethRise p

end

/-! ## A frame that a port receives while it is up (R155) -/

/-- The state in which the codewords that came with a frame are counted on its port. -/
def State.codewordsCounted (s : State) (p corr uncorr : Nat) : State :=
  (s.incBy (R.ET_CNT p 5) corr).incBy (R.ET_CNT p 6) uncorr

section
variable {s : State} {p : Nat} {f : Bytes} (ticks corr uncorr : Nat) (hup : s.ethUp p = true)
include hup

theorem etherTake_badCheck :
    s.etherTake p false f ticks corr uncorr = (s.codewordsCounted p corr uncorr).inc (R.ET_CNT p 4) := by
  simp only [State.etherTake, State.codewordsCounted, hup, Bool.not_true, Bool.not_false, Bool.false_eq_true, if_false, if_true]

theorem etherTake_pause (hf : beAt f 12 2 = 0x8808) :
    s.etherTake p true f ticks corr uncorr = (s.codewordsCounted p corr uncorr).inc (R.ET_CNT p 3) := by
  simp only [State.etherTake, State.codewordsCounted, hup, hf, Bool.not_true, Bool.false_eq_true, if_false, if_true]

theorem etherTake_noMessage (hf : beAt f 12 2 ≠ 0x8808) (hm : (s.codewordsCounted p corr uncorr).ptpIn p f = none) :
    s.etherTake p true f ticks corr uncorr = (s.codewordsCounted p corr uncorr).inc (R.ET_CNT p 2) := by
  unfold State.codewordsCounted at *
  simp only [State.etherTake, hup, if_neg hf, hm, Bool.not_true, Bool.false_eq_true, if_false]

end

/-! ## A port goes down and comes up (R154, R155, R231) -/

section
variable {s : State} {p : Nat}

theorem ethLost_up (hup : s.ethUp p = true) : s.ethLost p
    = (((s.setEth p 1).flag (R.ET_PORTSTAT_went_down p)).ptpSelect none).refPortDown true p := by
  simp only [State.ethLost, State.ethLoss, hup, if_true]

theorem ethRise_training (ht : s.rd (R.ET_PORTSTAT_state p) = 1) (hxo : s.on R.REF_STATUS_xo_lost = false) : s.ethRise p
    = ((s.setEth p 2).wr (R.ET_PORTSTAT_lane_lock p) (ethLanes (s.rd (R.ET_PORTCTL_speed p)))).ptpSelect none := by
  simp only [State.ethRise, State.ethUpNow, ht, hxo, decide_true, Bool.not_false, Bool.and_self, if_true]

end

/-- Settles O18: a received frame by its outcome, and then the two changes of a port's state. -/
theorem ethernetPorts : Obligations.EthernetPorts := by
  unfold Obligations.EthernetPorts
  refine fun s p hoff => ⟨fun f ticks corr uncorr hup => ⟨?_, fun hf => ?_, fun hf hm => ?_⟩, fun hup => ?_, fun ht hxo => ?_⟩
  · exact (exec_ethernetFrameReceive hoff p false f ticks corr uncorr).trans
      (congrArg _ (etherTake_badCheck ticks corr uncorr hup))
  · exact (exec_ethernetFrameReceive hoff p true f ticks corr uncorr).trans
      (congrArg _ (etherTake_pause ticks corr uncorr hup hf))
  · exact (exec_ethernetFrameReceive hoff p true f ticks corr uncorr).trans
      (congrArg _ (etherTake_noMessage ticks corr uncorr hup hf hm))
  · rw [exec_ethAlignmentLoss hoff, ethLost_up hup]
  · rw [exec_ethLinkUp hoff, ethRise_training ht hxo]

end Sys2Proof.Machine
end

section
/-! The output's commands: the release gate, the frames that leave, and the reports (R157, R162, R163, R167, R176 to R178). -/

namespace Sys2Proof.Machine

/-! ## The commands while the core is on -/

section
variable {s : State} (h : s.off = false)
include h

theorem exec_releaseGatePass {typ : Fin 6} {u : State} (hg : s.gatePass typ = u) :
    exec (.releaseGatePass typ) s = .next u.handCheck :=
  hg ▸ s.does_on h fun s => (s.gatePass typ).handCheck

theorem exec_frameSend (p : Fin 8) (first : Nat) : exec (.frameSend p first) s = .next (s.frameSend p first).handCheck :=
  s.does_on h fun s => (s.frameSend p first).handCheck

theorem exec_hltReport : exec .hltReport s = .next s.hltReport := s.does_on h State.hltReport

theorem exec_timReport : exec .timReport s = .next s.timReport := s.does_on h State.timReport

end

/-! ## The oldest product of a type (R178) -/

section
variable {s : State}

theorem gatePass_vis {g : Nat} {y : Integ} {rest : List (Nat × Integ)} (hc : s.ag.closed = (g, y) :: rest)
    (hy : y.rel = false) : s.gatePass 0 = s.releaseVis g y := by
  simp only [State.gatePass, hc, List.find?_cons, hy, Bool.not_false]

theorem gatePass_det {x : Inst} {rest : List Inst} (hd : s.ba.due = x :: rest) (hx : x.typ = 1) : s.gatePass 1
    = State.release { s with ba := { s.ba with due := rest } } { x with digs := 0 } (x.digs = 1) := by
  simp only [State.gatePass, hd, List.find?_cons, hx, decide_true, List.erase_cons_head]

theorem gatePass_tpw {k : Nat} {rest : List Nat} (hs : s.ot.sealed = k :: rest) (hk : k % 8 = 3)
    (hen : s.on R.OT_TPW_en = true) :
    s.gatePass 3 = State.releaseRound { s with ot := { s.ot with sealed := rest } } 3 (k / 8) := by
  have hen' : State.on { s with ot := { s.ot with sealed := rest } } R.OT_TPW_en = true := hen
  simp only [State.gatePass, hs, List.find?_cons, hk, decide_true, List.erase_cons_head, if_true, hen']

end

/-! ## What passes the gate (R163, R167) -/

section
variable {s : State} {x : Inst}

theorem stamped_report (hx : 6 ≤ x.typ) : s.stamped x = x := if_pos hx

/-- The header fields that a product takes as it passes. -/
theorem stamped_product (hx : x.typ < 6) :
    (s.stamped x).tq = s.rd R.REF_STATUS_tq ∧ (s.stamped x).seg = s.segSize x.route := by
  rw [State.stamped, if_neg (Nat.not_le.2 hx)]
  exact ⟨rfl, rfl⟩

/-- An instance that is numbered joins the others as the last of them. -/
theorem numberInst_ot (s : State) (x : Inst) : (s.numberInst x).ot
    = { s.ot with insts := s.ot.insts ++ [{ x with first := some (s.rq (R.OT_SEQ x.stream)) }] } := by
  unfold State.numberInst
  generalize R.OT_SEQ x.stream = a
  dsimp only
  rw [State.wq_ot]

theorem numberInst_mem (s : State) (x : Inst) : (s.numberInst x).mem = s.mem := by
  unfold State.numberInst
  generalize R.OT_SEQ x.stream = a
  dsimp only
  rw [State.wq_mem]

/-- Counting an instance at the gate leaves the castling state alone. -/
theorem csState_gateCount (invalid : Bool) :
    ((s.inc (R.OT_CNT 0)).when invalid (·.inc (R.OT_CNT 1))).csState = s.csState := by
  have hinc : ∀ (t : State) (k : Fin 2), (t.inc (R.OT_CNT k)).csState = t.csState := by
    intro t k
    have hne : R.CS_STATUS_state.a ≠ R.OT_CNT k := by revert k; decide
    rw [State.csState, State.rd, State.inc, State.word_incBy_ne _ _ hne]
    rfl
  cases invalid with
  | false => exact hinc s 0
  | true => exact (hinc _ 1).trans (hinc s 0)

theorem awaits_unpaired (hcs : s.csState = 0) (st : Nat) : s.awaits st = false := by
  simp [State.awaits, hcs]

/-- A unit without a peer counts every product and numbers it at once. -/
theorem release_unpaired (invalid : Bool) (hcs : s.csState = 0) : s.release x invalid
    = ((s.inc (R.OT_CNT 0)).when invalid (·.inc (R.OT_CNT 1))).numberInst (s.stamped x) := by
  have hpast : s.pastHand (s.stamped x) = false := by simp [State.pastHand, hcs]
  have hwait := awaits_unpaired ((csState_gateCount (s := s) invalid).trans hcs) (s.stamped x).stream
  have hjoin : ¬(s.csState = 1 ∨ s.csState = 2) := by omega
  simp only [State.release, hpast, hwait, hjoin, false_and, and_false, Bool.false_eq_true, if_false]

/-- A report is counted and numbered in every castling state. -/
theorem release_report (hx : 6 ≤ x.typ) : s.release x false = (s.inc (R.OT_CNT 0)).numberInst x := by
  have hlt : ¬x.typ < 6 := Nat.not_lt.2 hx
  have hpast : s.pastHand x = false := by simp [State.pastHand, hlt]
  simp only [State.release, stamped_report hx, hpast, hlt, State.when, false_and, and_false, Bool.false_eq_true, if_false]

end

/-! ## HLT and TIM reports (R176, R177) -/

section
variable {s : State} {t typ stream inst sc route : Nat} {body : Bytes}

/-- A report changes registers and adds one instance. -/
theorem reportAt_frame (ht : 6 ≤ typ) :
    (∃ l, (s.reportAt t typ stream inst sc route body).ot = { s.ot with insts := l })
      ∧ (s.reportAt t typ stream inst sc route body).mem = s.mem := by
  unfold State.reportAt
  dsimp only
  rw [release_report ht, numberInst_ot, numberInst_mem, State.inc_ot, State.inc_mem]
  exact ⟨⟨_, rfl⟩, rfl⟩

theorem hltSend_enabled (hen : s.on R.OT_HLT_en = true) : s.hltSend.ot.hltN = s.ot.hltN + 1
    ∧ s.hltSend.ot.hltAt = s.ot.hltAt ∧ s.hltSend.ig.hltDue = false ∧ s.hltSend.mem = s.mem := by
  unfold State.hltSend
  rw [if_pos hen]
  dsimp only
  obtain ⟨⟨l, hot⟩, hmem⟩ := reportAt_frame (s := s) (le_refl 6)
  rw [hot, hmem]
  exact ⟨rfl, rfl, rfl, rfl⟩

theorem timSend_enabled (hen : s.on R.OT_TIM_en = true) : (s.timSend t).ot.timN = s.ot.timN + 1
    ∧ (s.timSend t).ot.timAt = s.ot.timAt ∧ (s.timSend t).ot.timDue = s.ot.timDue ∧ (s.timSend t).mem = s.mem := by
  unfold State.timSend
  rw [if_pos hen]
  dsimp only
  obtain ⟨⟨l, hot⟩, hmem⟩ := reportAt_frame (s := s) (Nat.le_succ 6)
  rw [hot, hmem]
  exact ⟨rfl, rfl, rfl, rfl⟩

/-- The state in which a TIM report has left for the instant of counter value b, the last second or tenth reported. -/
def State.timSentFor (s : State) (b : Nat) : State := State.timSend { s with ot := { s.ot with timAt := b } } b

theorem timSentFor_enabled (b : Nat) (hen : s.on R.OT_TIM_en = true) : (s.timSentFor b).ot.timN = s.ot.timN + 1
    ∧ (s.timSentFor b).ot.timAt = b ∧ (s.timSentFor b).ot.timDue = s.ot.timDue ∧ (s.timSentFor b).mem = s.mem :=
  timSend_enabled (s := { s with ot := { s.ot with timAt := b } }) hen

theorem hltReport_due (h : s.ot.hltAt + s.rd R.OT_HLT_period * 1000000 * nsUnit ≤ s.tb.t) :
    s.hltReport = State.hltSend { s with ot := { s.ot with hltAt := s.tb.t } } := by
  simp only [State.hltReport, h, or_true, decide_true, if_true]

/-- The instant at which the second, or the tenth of a second, began last. -/
def State.timInstant (s : State) : Nat :=
  let step := (if s.on R.OT_TIM_period then 100000000 else 1000000000) * nsUnit
  s.tb.t / step * step

theorem timReport_same (hdue : s.ot.timDue = false) (hb : s.timInstant = s.ot.timAt) : s.timReport = s := by
  unfold State.timInstant at hb
  simp only [State.timReport, hb, State.when, hdue, ne_eq, not_true_eq_false, decide_false, Bool.false_eq_true, if_false]

theorem timReport_new (hen : s.on R.OT_TIM_en = true) (hdue : s.ot.timDue = false) (hb : s.timInstant ≠ s.ot.timAt) :
    s.timReport = s.timSentFor s.timInstant := by
  obtain ⟨-, -, hsent, -⟩ := timSentFor_enabled s.timInstant hen
  have hfirst : s.when (s.timInstant ≠ s.ot.timAt) (·.timSentFor s.timInstant) = s.timSentFor s.timInstant := by
    rw [State.when, decide_eq_true hb, if_pos rfl]
  have hrest : ∀ u : State, u.ot.timDue = false →
      u.when u.ot.timDue (fun u => State.timSend { u with ot := { u.ot with timDue := false } } u.tb.t) = u := by
    intro u hu
    rw [hu, State.when, if_neg Bool.false_ne_true]
  calc s.timReport
      = (s.when (s.timInstant ≠ s.ot.timAt) (·.timSentFor s.timInstant)).when
          (s.when (s.timInstant ≠ s.ot.timAt) (·.timSentFor s.timInstant)).ot.timDue
          (fun u => State.timSend { u with ot := { u.ot with timDue := false } } u.tb.t) := rfl
    _ = s.timSentFor s.timInstant := by rw [hfirst, hrest _ (hsent.trans hdue)]

end

/-! ## A frame of a route with one port (R157, R162) -/

theorem lowest_one {p : Nat → Bool} (h : p 0 = true) : lowest 1 p = some 0 := by simp [lowest, h]

section
variable {s : State}

theorem frameSend_onePort {p first i q : Nat} {x : Inst} {ot : OtState} (hn : s.nextInst p first = some (x, ot))
    (hi : s.segFor x p = some i) (hr : s.routePorts x.route = [q]) (hup : s.ethUp q = true) : s.frameSend p first =
      let u := { s with ot := ot }
      State.markSent ((u.inc (R.ET_CNT q 0)).emit (.frame q (withFcs (u.ethFrame q (u.rd (R.OT_RTCTL_e0 x.route)) x.stream
        (u.deviceFrame x i))))) x i := by
  have hport : lowest 1 (fun _ => State.ethUp { s with ot := ot } q) = some 0 := lowest_one hup
  simp only [State.frameSend, hn, hi, hr, List.length_singleton, max_self, Nat.mod_one, List.getD_cons_zero, hport,
    Nat.add_zero, State.etherSend, State.when, ne_eq, not_true_eq_false, decide_false, Bool.false_eq_true, if_false]

end

/-- Settles O17: each command by the operation that it runs, the gate of a unit that has no peer, and the numbering. -/
theorem outputRuns : Obligations.OutputRuns := by
  unfold Obligations.OutputRuns
  refine ⟨fun s hoff => ⟨fun g y rest hc hy => ?_, fun x rest hd hx => ?_, fun k rest hs hk hen => ?_,
    fun p first x ot i q hn hi hr hup => ?_, fun hen hdue => ?_, fun hen hnot => ⟨fun hb => ?_, fun hb => ?_⟩⟩,
    fun s x invalid _ hcs => release_unpaired invalid hcs,
    fun s x => ⟨congrArg OtState.insts (numberInst_ot s x), stamped_product⟩⟩
  · exact exec_releaseGatePass hoff (typ := 0) (gatePass_vis hc hy)
  · exact exec_releaseGatePass hoff (typ := 1) (gatePass_det hd hx)
  · exact exec_releaseGatePass hoff (typ := 3) (gatePass_tpw hs hk hen)
  · rw [exec_frameSend hoff, frameSend_onePort hn hi hr hup]
  · have hsend := hltSend_enabled (s := { s with ot := { s.ot with hltAt := s.tb.t } }) hen
    exact ⟨_, exec_hltReport hoff, (hltReport_due hdue).symm ▸ hsend⟩
  · obtain ⟨hN, hAt, -, hmem⟩ := timSentFor_enabled s.timInstant hen
    exact ⟨_, (exec_timReport hoff).trans (congrArg _ (timReport_new hen hnot hb)), hN, hAt, hmem⟩
  · rw [exec_timReport hoff, timReport_same hnot hb]

end Sys2Proof.Machine
end

section
/-! Routes written (R161): a write that leaves a route's word as it was. -/

namespace Sys2Proof.Machine

/-- An accepted write of a 32-bit register with a rule of its own: that rule's outcome is the whole of it. -/
theorem writeWord_own {s u : State} {m a : Nat} {v : Word} {l : Loc} (h : s.takes m a v) (hl : locate a = some l)
    (hr : a ≠ R.MG_RRST_rst.a)
    (ho : s.ownWrite l a v.toNat (s.before l a) (s.merged m false l (s.before l a) v.toNat) = some u) :
    s.writeWord m a v = u.okResp [] := by
  obtain ⟨k, hk, e⟩ := writeWord_takes h hr
  obtain ⟨-, k', hk', -, -, hf, hb, hw⟩ := h
  obtain rfl : l = k := Option.some.inj (hl.symm.trans hk)
  obtain rfl : l = k' := Option.some.inj (hl.symm.trans hk')
  rw [e, regWrite_own hf hb hw ho]

/-! ## A register listed at its reset value

A write of OT_RTCTL that would leave the word as it is does nothing. The statement has it store the word again, which
also takes a word that is the reset value off the list of registers. The statement is about every state, also one whose list is
not in canonical form: where it names a register at its reset value, the two outcomes hold the same registers, but they are
different states. -/

/-- The state after reset, but with the entry of route 255 listed at its reset value. -/
def listedRoute : State := { State.reset with csr := [(R.OT_RTCTL 255, 0)] }

/-- OT_RTCTL of route 255. -/
def locRoute255 : Loc := ⟨⟨.OT_RTCTL, 0x2000, [(256, 0x10)], false,
  [⟨31, 16, .rw, 0, []⟩, ⟨15, 8, .rw, 0, []⟩, ⟨7, 0, .rw, 0, []⟩]⟩, [255], false⟩

theorem locate_route255 : locate (R.OT_RTCTL 255) = some locRoute255 := by decide

theorem before_listedRoute : listedRoute.before locRoute255 (R.OT_RTCTL 255) = 0 := by decide

theorem merged_listedRoute : listedRoute.merged 1 false locRoute255 0 0 = 0 := by decide

/-- Master 1 may write 0 there. -/
theorem listedRoute_takes : listedRoute.takes 1 (R.OT_RTCTL 255) 0 :=
  ⟨⟨by decide, Option.isNone_iff_eq_none.1 (by decide +kernel), rfl, by decide +kernel⟩,
    locRoute255, locate_route255, rfl, by decide, by decide, by decide, Option.isNone_iff_eq_none.1 (by decide +kernel)⟩

/-- The route keeps its word, and so the whole state stays as it is. -/
theorem exec_routeWrite_listedRoute : exec (.routeWrite 1 255 0) listedRoute = .next (listedRoute.okResp []) := by
  have hsame : listedRoute.ownWrite locRoute255 (R.OT_RTCTL 255) 0 0 0 = some listedRoute := congrArg some (if_pos rfl)
  have hown : listedRoute.ownWrite locRoute255 (R.OT_RTCTL 255) (0 : Word).toNat
      (listedRoute.before locRoute255 (R.OT_RTCTL 255)) (listedRoute.merged 1 false locRoute255
        (listedRoute.before locRoute255 (R.OT_RTCTL 255)) (0 : Word).toNat) = some listedRoute := by
    rw [before_listedRoute]
    exact (congrArg _ merged_listedRoute).trans hsame
  exact (listedRoute.does_on (by decide) fun s => s.writeWord 1 (R.OT_RTCTL 255) 0).trans
    (congrArg _ (writeWord_own listedRoute_takes locate_route255 (by decide) hown))

/-- Storing the word again lists nothing any more. -/
theorem landed_listedRoute_csr : (listedRoute.landed 1 (R.OT_RTCTL 255) 0).csr = [] := by decide +kernel

/-- Refutes O16: a write of a free route that changes no bit of its entry leaves the state as it is, and not the one in which
the entry has been stored again; the two differ where the register was listed at its reset value. -/
theorem not_outputWrites : ¬ Obligations.OutputWrites := by
  unfold Obligations.OutputWrites
  intro ⟨h, _⟩
  obtain ⟨hroute, _⟩ := h listedRoute 1 0
  have hexec := (hroute 255 listedRoute_takes).1 (by decide +kernel) (by decide +kernel)
  have hstate := Host.Outcome.next.inj (exec_routeWrite_listedRoute.symm.trans hexec)
  have hcsr : [(R.OT_RTCTL 255, (0 : Word))] = [] := (congrArg State.csr hstate).trans landed_listedRoute_csr
  exact absurd hcsr (List.cons_ne_nil _ _)

end Sys2Proof.Machine
end

section
/-! Tests and calibrations that are asked for (R194, Table 8-3): what a request of IG_TESTREQ comes to, and what a test that
completes shows. -/

namespace Sys2Proof.Machine

/-! ## IG_TESTREQ -/

/-- IG_TESTREQ. -/
def locTestReq : Loc := ⟨⟨.IG_TESTREQ, 0x8, [], false, [⟨15, 8, .rw, 0, []⟩, ⟨3, 0, .wo, 0, []⟩]⟩, [], false⟩

theorem locate_testReq : locate R.IG_TESTREQ = some locTestReq := by decide

/-- The word of IG_TESTREQ that asks for an op of a unit. -/
def testWord (op : Nat) (u : BitVec 8) : Word := BitVec.ofNat 32 (u.toNat * 256 + op)

section
variable {op : Nat} {u : BitVec 8} (hop : op < 16)
include hop

theorem toNat_testWord : (testWord op u).toNat = u.toNat * 256 + op := by
  rw [testWord, BitVec.toNat_ofNat, Nat.mod_eq_of_lt (by omega)]

theorem testWord_op : (testWord op u).toNat % 16 = op := by
  rw [toNat_testWord hop]
  omega

theorem testWord_unit : getBits (testWord op u).toNat 8 8 = u.toNat := by
  rw [toNat_testWord hop, getBits, Nat.shiftRight_eq_div_pow]
  omega

theorem writeWord_testReq {s : State} {m : Nat} (h : s.takes m R.IG_TESTREQ (testWord op u)) :
    s.writeWord m R.IG_TESTREQ (testWord op u)
      = ((s.landed m R.IG_TESTREQ (testWord op u)).testRequest op u.toNat).okResp [] := by
  rw [writeWord_effect h locate_testReq (by decide) rfl]
  simp only [State.wrote, locTestReq, testWord_op hop, testWord_unit hop]

end

/-! ## The checks of a request, in their order -/

section
variable {s : State} {op u : Nat} (hop : 1 ≤ op ∧ op ≤ 5)

theorem testUnit_port (h : op = 4 ∨ op = 5) : s.testUnit op u = decide (u ≤ 25) := by
  rcases h with rfl | rfl <;> rfl

theorem testUnit_stack (hu : u < 8) (hs : s.stkState u = 2 ∨ s.stkState u = 5) : s.testUnit 3 u = true := by
  simp [State.testUnit, hu, hs]

theorem testUnit_noStack (hu : 8 ≤ u) : s.testUnit 3 u = false := by simp [State.testUnit, Nat.not_lt.2 hu]

include hop

theorem testRequest_busy (ht : s.ig.test ≠ none) : s.testRequest op u = s.wr R.IG_TESTRES_result 6 := by
  have hop' : ¬ (op = 0 ∨ 5 < op) := by omega
  have hbusy : s.ig.test.isSome = true := Option.isSome_iff_ne_none.2 ht
  simp only [State.testRequest, if_neg hop', hbusy, if_true]

variable (ht : s.ig.test = none)
include ht

theorem testRequest_noUnit (hu : s.testUnit op u = false) : s.testRequest op u = s.wr R.IG_TESTRES_result 7 := by
  have hop' : ¬ (op = 0 ∨ 5 < op) := by omega
  simp only [State.testRequest, if_neg hop', ht, hu, Option.isSome_none, Bool.not_false, Bool.false_eq_true, if_false, if_true]

variable (hu : s.testUnit op u = true)
include hu

theorem testRequest_inService (hs : 2 ≤ op ∧ op ≤ 4) (hf : s.testFree = false) :
    s.testRequest op u = s.wr R.IG_TESTRES_result 5 := by
  have hop' : ¬ (op = 0 ∨ 5 < op) := by omega
  simp only [State.testRequest, if_neg hop', ht, hu, hf, decide_eq_true hs, Option.isSome_none, Bool.not_true, Bool.not_false,
    Bool.and_self, Bool.false_eq_true, if_false, if_true]

/-- Only ops 2 to 4 need the maintenance state or a synchronised standby. -/
theorem testRequest_begins (hf : 2 ≤ op → op ≤ 4 → s.testFree = true) : s.testRequest op u = s.testBegin op u := by
  have hop' : ¬ (op = 0 ∨ 5 < op) := by omega
  have hgo : (decide (2 ≤ op ∧ op ≤ 4) && !s.testFree) = false := by
    by_cases hs : 2 ≤ op ∧ op ≤ 4
    · simp [hf hs.1 hs.2]
    · simp [hs]
  simp only [State.testRequest, if_neg hop', ht, hu, hgo, Option.isSome_none, Bool.not_true, Bool.false_eq_true, if_false]

end

/-! ## What a request rests on is what it was before the write -/

section
variable {s : State} {m : Nat} {w : Word}

theorem ig_landed_testReq : (s.landed m R.IG_TESTREQ w).ig = s.ig := by
  rw [landed_eq_setWord locate_testReq rfl, State.setWord_ig]

theorem testFree_landed_testReq : (s.landed m R.IG_TESTREQ w).testFree = s.testFree := by
  have hmaint : (s.landed m R.IG_TESTREQ w).on R.IG_CTL_maint = s.on R.IG_CTL_maint :=
    congrArg (· != 0) (rd_landed_ne locate_testReq rfl (by decide))
  have hcs : (s.landed m R.IG_TESTREQ w).csState = s.csState := rd_landed_ne locate_testReq rfl (by decide)
  rw [State.testFree, hmaint, hcs, State.testFree]

theorem testUnit_landed_testReq (op u : Nat) : (s.landed m R.IG_TESTREQ w).testUnit op u = s.testUnit op u := by
  have haddr : (R.HM_STK_state u).a ≠ R.IG_TESTREQ := by
    simp only [R.HM_STK_state, R.HM_STK, R.IG_TESTREQ]
    omega
  have hbeam : (s.landed m R.IG_TESTREQ w).hasBeam = s.hasBeam := by
    rw [landed_eq_setWord locate_testReq rfl, State.hasBeam, State.setWord_part, State.hasBeam]
  have hstk : (s.landed m R.IG_TESTREQ w).stkState u = s.stkState u := rd_landed_ne locate_testReq rfl haddr
  rw [State.testUnit, hbeam, hstk, State.testUnit]

end

/-! ## The commands -/

section
variable {s : State} {m : Fin 20} {op : Nat} {u : BitVec 8} (hop : 1 ≤ op ∧ op ≤ 5)
  (h : s.takes m R.IG_TESTREQ (testWord op u))
include hop h

/-- A request is judged in the state that its write has left. -/
theorem does_testReq : s.does (fun s => s.writeWord m R.IG_TESTREQ (testWord op u))
    = .next (((s.landed m R.IG_TESTREQ (testWord op u)).testRequest op u.toNat).okResp []) :=
  (s.does_on h.1.1 _).trans (congrArg _ (writeWord_testReq (by omega) h))

theorem does_testReq_busy (ht : s.ig.test ≠ none) : s.does (fun s => s.writeWord m R.IG_TESTREQ (testWord op u))
    = .next (((s.landed m R.IG_TESTREQ (testWord op u)).wr R.IG_TESTRES_result 6).okResp []) := by
  rw [does_testReq hop h, testRequest_busy hop (by rwa [ig_landed_testReq])]

variable (ht : s.ig.test = none)
include ht

theorem does_testReq_noUnit (hu : s.testUnit op u.toNat = false) :
    s.does (fun s => s.writeWord m R.IG_TESTREQ (testWord op u))
      = .next (((s.landed m R.IG_TESTREQ (testWord op u)).wr R.IG_TESTRES_result 7).okResp []) := by
  rw [does_testReq hop h, testRequest_noUnit hop (by rw [ig_landed_testReq, ht]) (by rw [testUnit_landed_testReq, hu])]

variable (hu : s.testUnit op u.toNat = true)
include hu

theorem does_testReq_inService (hs : 2 ≤ op ∧ op ≤ 4) (hf : s.testFree = false) :
    s.does (fun s => s.writeWord m R.IG_TESTREQ (testWord op u))
      = .next (((s.landed m R.IG_TESTREQ (testWord op u)).wr R.IG_TESTRES_result 5).okResp []) := by
  rw [does_testReq hop h, testRequest_inService hop (by rw [ig_landed_testReq, ht]) (by rw [testUnit_landed_testReq, hu]) hs
    (by rw [testFree_landed_testReq, hf])]

theorem does_testReq_begins (hf : 2 ≤ op → op ≤ 4 → s.testFree = true) :
    s.does (fun s => s.writeWord m R.IG_TESTREQ (testWord op u))
      = .next (((s.landed m R.IG_TESTREQ (testWord op u)).testBegin op u.toNat).okResp []) := by
  rw [does_testReq hop h, testRequest_begins hop (by rw [ig_landed_testReq, ht]) (by rw [testUnit_landed_testReq, hu])
    (by rwa [testFree_landed_testReq])]

end

/-! ## A test that completes -/

section
variable {s : State} {op unit k : Nat} (passed : Bool)

/-- No test is in hand any more, and IG_TESTRES shows the outcome. -/
def State.testShown (s : State) : State :=
  (State.wr { s with ig := { s.ig with test := none } } R.IG_STATUS_test_busy 0).wr R.IG_TESTRES_result (if passed then 3 else 4)

/-- A Board test has made its 1,024 steps; the others complete at any time. -/
theorem testComplete_done (ht : s.ig.test = some (op, unit, k)) (hk : op = 1 → 1024 ≤ k) : s.testComplete passed
    = ((s.testShown passed).when (op == 2 && !passed) (·.inc (R.IG_CNT 9))).when (op == 3) (·.trainingDone unit passed) := by
  have hnot : ¬ (op = 1 ∧ k < 1024) := fun hc => absurd (hk hc.1) (Nat.not_le.2 hc.2)
  simp only [State.testComplete, ht, if_neg hnot]
  rfl

theorem exec_testComplete (h : s.off = false) : exec (.testComplete passed) s = .next (s.testComplete passed) :=
  s.does_on h fun s => s.testComplete passed

end

/-- Settles O19: each request by its checks in their order, and a completed test by its op. -/
theorem testsRequested : Obligations.TestsRequested := by
  unfold Obligations.TestsRequested
  refine ⟨fun s m u hfree => ⟨?_, ?_, ?_, ?_, ?_⟩, fun s m u hbusy => ⟨?_, ?_, ?_, ?_, ?_⟩,
    fun s op unit k passed hoff ht hk => ?_⟩
  · rintro w L rfl rfl h
    exact does_testReq_begins (op := 1) (by omega) h hfree rfl (by omega)
  · rintro w L rfl rfl h
    refine ⟨fun hu hf => ?_, fun hu hf => ?_, fun hu => ?_⟩
    · exact does_testReq_begins (op := 2) (by omega) h hfree hu fun _ _ => hf
    · exact does_testReq_inService (op := 2) (by omega) h hfree hu (by omega) hf
    · exact does_testReq_noUnit (op := 2) (by omega) h hfree hu
  · rintro w L rfl rfl h
    refine ⟨fun ⟨hu, hs⟩ => ⟨fun hf => ?_, fun hf => ?_⟩, fun hu => ?_⟩
    · exact does_testReq_begins (op := 3) (by omega) h hfree (testUnit_stack hu hs) fun _ _ => hf
    · exact does_testReq_inService (op := 3) (by omega) h hfree (testUnit_stack hu hs) (by omega) hf
    · exact does_testReq_noUnit (op := 3) (by omega) h hfree (testUnit_noStack hu)
  · rintro w L rfl rfl h
    have hport := testUnit_port (s := s) (u := u.toNat) (.inl rfl)
    refine ⟨fun hu hf => ?_, fun hu hf => ?_, fun hu => ?_⟩
    · exact does_testReq_begins (op := 4) (by omega) h hfree (hport.trans (decide_eq_true hu)) fun _ _ => hf
    · exact does_testReq_inService (op := 4) (by omega) h hfree (hport.trans (decide_eq_true hu)) (by omega) hf
    · exact does_testReq_noUnit (op := 4) (by omega) h hfree (hport.trans (decide_eq_false (by omega)))
  · rintro w L rfl rfl h
    have hport := testUnit_port (s := s) (u := u.toNat) (.inr rfl)
    refine ⟨fun hu => ?_, fun hu => ?_⟩
    · exact does_testReq_begins (op := 5) (by omega) h hfree (hport.trans (decide_eq_true hu)) (by omega)
    · exact does_testReq_noUnit (op := 5) (by omega) h hfree (hport.trans (decide_eq_false (by omega)))
  · exact fun h => does_testReq_busy (op := 1) (by omega) h hbusy
  · exact fun h => does_testReq_busy (op := 2) (by omega) h hbusy
  · exact fun h => does_testReq_busy (op := 3) (by omega) h hbusy
  · exact fun h => does_testReq_busy (op := 4) (by omega) h hbusy
  · exact fun h => does_testReq_busy (op := 5) (by omega) h hbusy
  · rw [exec_testComplete passed hoff, testComplete_done passed ht hk]
    refine ⟨?_, ?_, fun h2 h3 => ?_, ?_⟩
    · rintro rfl rfl
      rfl
    · rintro rfl
      rfl
    · simp only [State.when, beq_false_of_ne h2, beq_false_of_ne h3, Bool.false_and, Bool.false_eq_true, if_false]
      rfl
    · rintro rfl rfl
      rfl

end Sys2Proof.Machine
end

section
/-! The health of the device: maintenance and the clearing of a fault, recovery, the Arbiter's restart, the time counter's
copies, and adders that disagree (R191, R194 to R196, R247). -/

namespace Sys2Proof.Machine

/-! ## IG_CTL -/

/-- IG_CTL. -/
def locIgCtl : Loc := ⟨⟨.IG_CTL, 0x0, [], false,
  [⟨15, 8, .rw, 64, []⟩, ⟨2, 2, .rw, 1, []⟩, ⟨1, 1, .wo, 0, []⟩, ⟨0, 0, .rw, 0, []⟩]⟩, [], false⟩

theorem locate_igCtl : locate R.IG_CTL = some locIgCtl := by decide

/-- A write of IG_CTL has landed, but for maint, which waits for its request to be judged. -/
def State.igLanded (s : State) (m : Nat) (w : Word) : State :=
  (s.landed m R.IG_CTL w).wr R.IG_CTL_maint (s.rd R.IG_CTL_maint)

section
variable {s : State} {m : Nat} {w : Word}

theorem rd_igLanded_ne {g : FRef} (h : g.a ≠ R.IG_CTL) : (s.igLanded m w).rd g = s.rd g :=
  ((s.landed m R.IG_CTL w).rd_wr_ne _ h).trans (rd_landed_ne locate_igCtl rfl h)

theorem on_igLanded_ne {g : FRef} (h : g.a ≠ R.IG_CTL) : (s.igLanded m w).on g = s.on g :=
  congrArg (· != 0) (rd_igLanded_ne h)

theorem on_igLanded_maint : (s.igLanded m w).on R.IG_CTL_maint = s.on R.IG_CTL_maint := by
  have hsame := (s.landed m R.IG_CTL w).rd_wr_same R.IG_CTL_maint (s.rd R.IG_CTL_maint) (by decide)
  rw [Nat.mod_eq_of_lt (show s.rd R.IG_CTL_maint < 2 ^ R.IG_CTL_maint.w from getBits_lt ..)] at hsame
  exact congrArg (· != 0) hsame

theorem isActive_igLanded : (s.igLanded m w).isActive = s.isActive := by
  have hcs : (s.igLanded m w).csState = s.csState := rd_igLanded_ne (by decide)
  rw [State.isActive, hcs, State.isActive]

/-- A write of IG_CTL without maint has landed. -/
def State.igLeft (s : State) (m : Nat) (w : Word) : State := (s.igLanded m w).wr R.IG_CTL_maint 0

theorem rd_igLeft_ne {g : FRef} (h : g.a ≠ R.IG_CTL) : (s.igLeft m w).rd g = s.rd g :=
  ((s.igLanded m w).rd_wr_ne 0 h).trans (rd_igLanded_ne h)

theorem on_igLeft_ne {g : FRef} (h : g.a ≠ R.IG_CTL) : (s.igLeft m w).on g = s.on g := congrArg (· != 0) (rd_igLeft_ne h)

theorem tb_igLeft : (s.igLeft m w).tb = s.tb := by
  rw [State.igLeft, State.igLanded, State.wr_tb, State.wr_tb, landed_eq_setWord locate_igCtl rfl, State.setWord_tb]

theorem ig_igLeft : (s.igLeft m w).ig = s.ig := by
  rw [State.igLeft, State.igLanded, State.wr_ig, State.wr_ig, landed_eq_setWord locate_igCtl rfl, State.setWord_ig]

theorem writeWord_igCtl (h : s.takes m R.IG_CTL w) : s.writeWord m R.IG_CTL w
    = (((s.igLanded m w).maintRequest (w.toNat.testBit 0)).when (w.toNat.testBit 1) (·.faultClear)).okResp [] :=
  writeWord_effect h locate_igCtl (by decide) rfl

end

/-! ## Maintenance and the clearing of a fault (R194, R195) -/

section
variable {s : State}

theorem maintRequest_leaves : s.maintRequest false = s.wr R.IG_CTL_maint 0 := rfl

theorem maintRequest_enters (hm : s.on R.IG_CTL_maint = false) (hb : s.bdState = 0 ∨ s.bdState = 4)
    (ha : s.baState = 0 ∨ s.baState = 3) (hx : s.isActive = false) : s.maintRequest true = s.wr R.IG_CTL_maint 1 := by
  simp [State.maintRequest, hm, hb, ha, hx]

theorem maintRequest_refused (hm : s.on R.IG_CTL_maint = false)
    (hno : (s.bdState ≠ 0 ∧ s.bdState ≠ 4) ∨ (s.baState ≠ 0 ∧ s.baState ≠ 3) ∨ s.isActive = true) :
    s.maintRequest true = s.flag R.IG_STATUS_maint_ref := by
  rcases hno with hb | ha | hx
  · simp [State.maintRequest, hm, hb]
  · simp [State.maintRequest, hm, ha]
  · simp [State.maintRequest, hm, hx]

theorem faultClear_clears (hh : s.rd R.IG_STATUS_hstate = 3) (ht : s.tb.t = s.tb.t2) (hxo : s.on R.REF_STATUS_xo_lost = false)
    (harb : s.ig.arbDown = false) (hset : s.on R.TB_STATUS_set = true) : s.faultClear = s.setCause 3 false := by
  simp [State.faultClear, hh, ht, hxo, harb, hset]

theorem faultClear_stays (hno : s.tb.t ≠ s.tb.t2 ∨ s.on R.REF_STATUS_xo_lost = true ∨ s.ig.arbDown = true
    ∨ s.on R.TB_STATUS_set = false) : s.faultClear = s := by
  rcases hno with ht | hxo | harb | hset
  · simp [State.faultClear, ht]
  · simp [State.faultClear, hxo]
  · simp [State.faultClear, harb]
  · simp [State.faultClear, hset]

end

section
variable {s : State} {m : Fin 20} {v : Word}

/-- A write of IG_CTL without fclr asks for maintenance, or leaves it. -/
theorem exec_maintenanceRequest {b : Bool} (h : s.takes m R.IG_CTL v) (hfclr : v.toNat.testBit 1 = false)
    (hmaint : v.toNat.testBit 0 = b) :
    exec (.maintenanceRequest m v) s = .next (((s.igLanded m v).maintRequest b).okResp []) := by
  have hw := writeWord_igCtl h
  rw [hfclr, hmaint] at hw
  exact (s.does_on h.1.1 fun s => s.writeWord m R.IG_CTL v).trans (congrArg _ hw)

/-- A write of IG_CTL with fclr and without maint leaves maintenance before it clears. -/
theorem exec_faultClear (h : s.takes m R.IG_CTL (force v R.IG_CTL_fclr 1)) (hmaint : v.toNat.testBit 0 = false) :
    exec (.faultClear m v) s
      = .next (((s.igLeft m (force v R.IG_CTL_fclr 1)).faultClear).okResp []) := by
  have hleave : (force v R.IG_CTL_fclr 1).toNat.testBit 0 = false := (force_testBit (by decide) 0).trans hmaint
  have hclear : (force v R.IG_CTL_fclr 1).toNat.testBit 1 = true := force_testBit (by decide) 1
  have hw := writeWord_igCtl h
  rw [hleave, hclear] at hw
  exact (s.does_on h.1.1 fun s => s.writeWord m R.IG_CTL (force v R.IG_CTL_fclr 1)).trans (congrArg _ hw)

end

/-! ## Recovery, the Arbiter and the time counter (R195, R196, R247) -/

section
variable {s : State}

theorem healthRecover_due (hh : s.rd R.IG_STATUS_hstate = 2) (hn : s.ig.impaired + 64 ≤ s.nextRound) : s.healthRecover
    = State.setHstate { s with ig := { s.ig with impaired := 0 } } (if s.anyDegraded = true then 1 else 0) :=
  if_pos ⟨hh, hn⟩

/-- The safety sequencer acts, M1 resets, and the request in progress is answered. -/
def State.arbiterHeld (s : State) : State :=
  ((State.wr { s with ig := { s.ig with arbDown := true } } R.IG_STATUS_seq_act 1).masterReset 1 0).mbxRestart

theorem arbiterStop_noLoad (hd : s.ig.arbDown = false) (hl : s.cf.loading = none) :
    s.arbiterStop = (s.arbiterHeld.flag R.MG_RSTCAUSE_arb).health 10 0 1 0 s.arbiterHeld.curRound := by
  simp only [State.arbiterStop, hd, hl, Bool.false_eq_true, if_false]
  rfl

theorem arbiterBack_down (hd : s.ig.arbDown = true) : s.arbiterBack = State.mbxSettle 16 ((State.wr { s with
    ig := { s.ig with arbDown := false } } R.IG_STATUS_seq_act 0).masterRelease 1) :=
  if_pos hd

theorem arbiterLost_down (hd : s.ig.arbDown = true) : s.arbiterLost = (s.health 10 0 3 0 s.curRound).fatalFault :=
  if_pos hd

/-- Copies that differ are reported. -/
theorem counterDisagree_differs {d : Int} (hd : d ≠ 0) (ht : 0 ≤ (s.tb.t : Int) + d) : s.counterDisagree d
    = State.raiseCounter { s with tb := { s.tb with t2 := ((s.tb.t : Int) + d).toNat } } := by
  have hne : s.tb.t ≠ ((s.tb.t : Int) + d).toNat := by omega
  exact if_pos (decide_eq_true hne)

end

section
variable {s : State} (h : s.off = false)
include h

theorem exec_healthRecovery : exec .healthRecovery s = .next s.healthRecover := s.does_on h State.healthRecover

theorem exec_arbiterLockstepFault : exec .arbiterLockstepFault s = .next s.arbiterStop := s.does_on h State.arbiterStop

theorem exec_arbiterRestartDone : exec .arbiterRestartDone s = .next s.arbiterBack := s.does_on h State.arbiterBack

theorem exec_arbiterRestartTimeout : exec .arbiterRestartTimeout s = .next s.arbiterLost := s.does_on h State.arbiterLost

theorem exec_counterDisagree (d : Int) : exec (.counterDisagree d) s = .next (s.counterDisagree d) :=
  s.does_on h fun s => s.counterDisagree d

theorem exec_adderMismatch (unit : Nat) (again : Bool) (site : AddSite) :
    exec (.adderMismatch unit again site) s = .next (s.adderMismatch unit again site) :=
  s.does_on h fun s => s.adderMismatch unit again site

end

/-! ## Adders that disagree again (R191) -/

/-- What an addition that stays wrong leaves where its sum would have gone. -/
def State.sumSpoilt (s : State) : AddSite → State
  | .record g area c a b =>
    (s.recPut g area c a b (s.recGet g area c a b) sentinel).noteMark g (s.wgtGet g area c a b) sentinel false
  | .detect x w b h => s.spoilDet (detKey x w b h)
  | .combine t => if s.ba.round.isSome then State.suppress { s with ba := { s.ba with poison := true } } t else s

/-- The faulty units are as listed, and a failure of one of them in round n is counted, recorded and impairs it. -/
def State.unitFails (s : State) (faulty : List Nat) (unit n : Nat) : State :=
  ((State.inc { s with ig := { s.ig with faulty := faulty } } (R.IG_CNT 8)).health 4 unit 2 0 n).impair n

section
variable {s : State} (site : AddSite)

theorem noteMark_noLimit_ig (g oldW newW : Nat) : (s.noteMark g oldW newW false).ig = s.ig := by
  simp only [State.noteMark, State.when, Bool.false_eq_true, if_false]
  split <;> rfl

theorem recPut_ig (g area c a b : Nat) (v : List Int) (w : Nat) : (s.recPut g area c a b v w).ig = s.ig := by
  rw [State.recPut, State.setBytes_ig, State.setBytes_ig]

theorem sumSpoilt_ig : (s.sumSpoilt site).ig = s.ig := by
  cases site with
  | record g area c a b => rw [State.sumSpoilt, noteMark_noLimit_ig, recPut_ig]
  | detect x w b h => rfl
  | combine t =>
    simp only [State.sumSpoilt]
    split <;> rfl

/-- A unit that fails for the first time joins the faulty ones. -/
theorem adderMismatch_newlyFaulty {unit : Nat} (hu : unit ∉ s.ig.faulty) : s.adderMismatch unit true site
    = (s.sumSpoilt site).unitFails (s.ig.faulty ++ [unit]) unit s.curRound := by
  have hmodel : s.adderMismatch unit true site = (s.sumSpoilt site).unitFails (if (s.sumSpoilt site).ig.faulty.contains unit
      then (s.sumSpoilt site).ig.faulty else (s.sumSpoilt site).ig.faulty ++ [unit]) unit s.curRound := by
    simp only [State.adderMismatch, Bool.not_true, Bool.false_eq_true, if_false]
    cases site <;> simp only [State.sumSpoilt, State.unitFails] <;> rfl
  have hnew : s.ig.faulty.contains unit = false := by simpa using hu
  rw [hmodel, sumSpoilt_ig, hnew, if_neg Bool.false_ne_true]

theorem sumSpoilt_combine {n : Nat} (t : Nat) (hr : s.ba.round = some n) :
    s.sumSpoilt (.combine t) = State.suppress { s with ba := { s.ba with poison := true } } t :=
  if_pos (by rw [hr, Option.isSome_some])

end

/-- Settles O20: IG_CTL by its two command bits, then each event by what it does to the health, and an adder by where its sum
would have gone. -/
theorem healthMoves : Obligations.HealthMoves := by
  unfold Obligations.HealthMoves
  refine ⟨fun s m v => ⟨?_, ?_⟩, fun s hoff => ⟨fun hh hn => ?_, fun hd hl => ?_, fun hd => ⟨?_, ?_⟩, fun d hd ht => ?_, rfl,
    fun unit site => ?_, fun unit hu => ⟨fun g area c a b => ?_, fun x w b h => ?_, fun t n hr => ?_⟩⟩⟩
  · rintro L rfl h hfclr
    refine ⟨fun hmaint hm => ⟨fun hb ha hx => ?_, fun hno => ?_⟩, fun hmaint => ?_⟩ <;>
      rw [exec_maintenanceRequest h hfclr hmaint]
    · rw [maintRequest_enters (on_igLanded_maint.trans hm) ?_ ?_ (isActive_igLanded.trans hx)]
      · rfl
      · rwa [State.bdState, rd_igLanded_ne (by decide)]
      · rwa [State.baState, rd_igLanded_ne (by decide)]
    · rw [maintRequest_refused (on_igLanded_maint.trans hm)]
      · rfl
      · rwa [State.bdState, State.baState, rd_igLanded_ne (by decide), rd_igLanded_ne (by decide), isActive_igLanded]
    · rw [maintRequest_leaves]
      rfl
  · rintro w L rfl rfl h hmaint hh
    refine ⟨fun ht hxo hd hset => ?_, fun hno => ?_⟩ <;> rw [exec_faultClear h hmaint]
    · rw [faultClear_clears ((rd_igLeft_ne (by decide)).trans hh) (by rwa [tb_igLeft]) ((on_igLeft_ne (by decide)).trans hxo)
        (by rwa [ig_igLeft]) ((on_igLeft_ne (by decide)).trans hset)]
      rfl
    · rw [faultClear_stays]
      · rfl
      · rwa [tb_igLeft, ig_igLeft, on_igLeft_ne (by decide), on_igLeft_ne (by decide)]
  · rw [exec_healthRecovery hoff, healthRecover_due hh hn]
  · rw [exec_arbiterLockstepFault hoff, arbiterStop_noLoad hd hl, State.arbiterHeld]
  · rw [exec_arbiterRestartDone hoff, arbiterBack_down hd]
  · rw [exec_arbiterRestartTimeout hoff, arbiterLost_down hd]
  · rw [exec_counterDisagree hoff, counterDisagree_differs hd ht]
  · exact exec_adderMismatch hoff unit false site
  · rw [exec_adderMismatch hoff, adderMismatch_newlyFaulty _ hu, State.sumSpoilt, State.unitFails]
  · rw [exec_adderMismatch hoff, adderMismatch_newlyFaulty _ hu, State.sumSpoilt, State.unitFails]
  · rw [exec_adderMismatch hoff, adderMismatch_newlyFaulty _ hu, sumSpoilt_combine t hr, State.unitFails]

end Sys2Proof.Machine
end

section
/-! The request that the Arbiter has in hand: what each op of the mailbox does and answers (R193, R292, R310, R380, R383, R385,
R386, Tables 14-10 and 19-6). -/

namespace Sys2Proof.Machine

/-! ## The commands while the core is on -/

section
variable {s : State} (h : s.off = false)
include h

theorem exec_mailboxEcho : exec .mailboxEcho s = .next s.mbxEcho := s.does_on h State.mbxEcho

theorem exec_firmwareVersion : exec .firmwareVersion s = .next s.mbxVersion := s.does_on h State.mbxVersion

theorem exec_boardLineRepairRequest : exec .boardLineRepairRequest s = .next s.lineRequest := s.does_on h State.lineRequest

theorem exec_hbmRowSpareRequest : exec .hbmRowSpareRequest s = .next s.rowRequest := s.does_on h State.rowRequest

theorem exec_adjournment : exec .adjournment s = .next s.adjournment := s.does_on h State.adjournment

theorem exec_resetRequest (o : Opening) : exec (.resetRequest o) s = .next (s.resetRequest o) :=
  s.does_on h fun s => s.resetRequest o

theorem exec_bootPrefSet : exec .bootPrefSet s = .next s.bootPref := s.does_on h State.bootPref

theorem exec_watchdogPeriodSet : exec .watchdogPeriodSet s = .next s.watchdogPeriod := s.does_on h State.watchdogPeriod

end

/-! ## The request in hand -/

section
variable {s : State} {r : MbxReq} (h : s.mbxHead = some r)
include h

/-- A request of the op named is acted on. -/
theorem mbxOp_inHand {op : Nat} (hop : r.op = op) (act : State → MbxReq → State) : s.mbxOp op act = act s r := by
  simp only [State.mbxOp, h, if_pos hop]

/-- While a full load is in progress no request is in hand. -/
theorem mbxHead_noLoad : s.cf.loading.isSome = false := by
  unfold State.mbxHead at h
  split at h
  · cases h
  · split at h
    · cases h
    · next hidle => exact Bool.eq_false_iff.2 fun hl => hidle (.inr hl)

theorem mbxEcho_inHand (hop : r.op = 1) : s.mbxEcho = s.mbxAnswer r 0 r.payload := mbxOp_inHand h hop _

theorem mbxVersion_inHand (hop : r.op = 2) : s.mbxVersion
    = State.mbxAnswer { s with fresh := s.fresh + 12 } r 0 (leBytes 4 (s.rd R.TOP_FW_ver) ++ s.freeBytes 12) :=
  mbxOp_inHand h hop _

theorem lineRequest_repairs (hop : r.op = 0x10) (hx : byteAt r.payload 0 ≤ 23) (hp : byteAt r.payload 1 ≤ 64) :
    s.lineRequest = (s.repairLine (byteAt r.payload 0) (byteAt r.payload 1) 1).mbxAnswer r 0 [] :=
  (mbxOp_inHand h hop _).trans (if_neg (by omega))

theorem lineRequest_refused (hop : r.op = 0x10) (hno : 23 < byteAt r.payload 0 ∨ 64 < byteAt r.payload 1) :
    s.lineRequest = s.mbxAnswer r 1 [] :=
  (mbxOp_inHand h hop _).trans (if_pos hno)

theorem rowRequest_spares (hop : r.op = 0x11) (hst : byteAt r.payload 0 < s.stacks) (hc : byteAt r.payload 1 ≤ 31)
    (hpc : byteAt r.payload 2 ≤ 1) (hb : byteAt r.payload 3 ≤ 31) : s.rowRequest
      = (s.dueSpare (byteAt r.payload 0) (rowId (byteAt r.payload 1) (byteAt r.payload 2) (byteAt r.payload 3)
          (leAt r.payload 4 4)) 1).mbxAnswer r 0 [] :=
  (mbxOp_inHand h hop _).trans (if_neg (by omega))

theorem rowRequest_refused (hop : r.op = 0x11) (hno : s.stacks ≤ byteAt r.payload 0 ∨ 31 < byteAt r.payload 1
    ∨ 1 < byteAt r.payload 2 ∨ 31 < byteAt r.payload 3) : s.rowRequest = s.mbxAnswer r 1 [] :=
  (mbxOp_inHand h hop _).trans (if_pos hno)

theorem adjournment_begins (hop : r.op = 0x30) (hcs : s.csState ≠ 5) : s.adjournment = (s.mbxRespond r.slot 0 []).adjourn := by
  have hgo : ¬ (s.cf.loading.isSome = true ∨ s.csState = 5) := by simp [mbxHead_noLoad h, hcs]
  exact (mbxOp_inHand h hop _).trans (if_neg hgo)

theorem adjournment_handing (hop : r.op = 0x30) (hcs : s.csState = 5) : s.adjournment = s.mbxAnswer r 1 [] :=
  (mbxOp_inHand h hop _).trans (if_pos (.inr hcs))

theorem resetRequest_inHand (hop : r.op = 0x31) (o : Opening) :
    s.resetRequest o = (s.mbxAnswer r 0 []).restart R.MG_RSTCAUSE_mbx o :=
  mbxOp_inHand h hop _

theorem bootPref_good (hop : r.op = 0x32) (hk : r.slotArg ≤ 3) (hs : s.slotState r.slotArg = 3) :
    s.bootPref = (s.bootWrite r.slotArg (s.bootRec).1.2.1).mbxAnswer r 0 [] :=
  (mbxOp_inHand h hop _).trans (if_pos ⟨hk, hs⟩)

theorem bootPref_refused (hop : r.op = 0x32) (hno : ¬ (r.slotArg ≤ 3 ∧ s.slotState r.slotArg = 3)) :
    s.bootPref = s.mbxAnswer r 1 [] :=
  (mbxOp_inHand h hop _).trans (if_neg hno)

theorem watchdogPeriod_set (hop : r.op = 0x33) (hsec : r.secure = true) (hlo : 10 ≤ leAt r.payload 0 2)
    (hhi : leAt r.payload 0 2 ≤ 10000) :
    s.watchdogPeriod = (s.wr R.MG_WDOG_period_ms (leAt r.payload 0 2)).mbxAnswer r 0 [] :=
  (mbxOp_inHand h hop _).trans (if_pos ⟨hsec, hlo, hhi⟩)

theorem watchdogPeriod_refused (hop : r.op = 0x33)
    (hno : r.secure = false ∨ leAt r.payload 0 2 < 10 ∨ 10000 < leAt r.payload 0 2) :
    s.watchdogPeriod = s.mbxAnswer r 1 [] := by
  have hbad : ¬ (r.secure = true ∧ 10 ≤ leAt r.payload 0 2 ∧ leAt r.payload 0 2 ≤ 10000) := by
    rintro ⟨hsec, hlo, hhi⟩
    rcases hno with hopen | hshort | hlong
    · exact Bool.false_ne_true (hopen.symm.trans hsec)
    · omega
    · omega
  exact (mbxOp_inHand h hop _).trans (if_neg hbad)

end

/-- Settles O42: each command by what the request in hand asks for and whether it may. -/
theorem mailboxRuns : Obligations.MailboxRuns := by
  unfold Obligations.MailboxRuns
  intro s r hoff h
  rw [exec_mailboxEcho hoff, exec_firmwareVersion hoff, exec_boardLineRepairRequest hoff, exec_hbmRowSpareRequest hoff,
    exec_adjournment hoff, exec_bootPrefSet hoff, exec_watchdogPeriodSet hoff]
  refine ⟨fun hop => ?_, fun hop => ?_, fun hop hx hp => ?_, fun hop hno => ?_, fun hop hst hc hpc hb => ?_, fun hop hno => ?_,
    fun hop hcs => ?_, fun hop hcs => ?_, fun o hop => ?_, fun hop hk hs => ?_, fun hop hno => ?_, fun hop hsec hlo hhi => ?_,
    fun hop hno => ?_⟩
  · rw [mbxEcho_inHand h hop]
  · rw [mbxVersion_inHand h hop]
  · rw [lineRequest_repairs h hop hx hp]
  · rw [lineRequest_refused h hop hno]
  · rw [rowRequest_spares h hop hst hc hpc hb]
  · rw [rowRequest_refused h hop hno]
  · rw [adjournment_begins h hop hcs]
  · rw [adjournment_handing h hop hcs]
  · rw [exec_resetRequest hoff, resetRequest_inHand h hop]
  · rw [bootPref_good h hop hk hs]
  · rw [bootPref_refused h hop hno]
  · rw [watchdogPeriod_set h hop hsec hlo hhi]
  · rw [watchdogPeriod_refused h hop hno]

end Sys2Proof.Machine
end

section
/-! The lease: its pins, its timers, and what taking it writes (R200 to R205, R208, R214, R215, R217). -/

namespace Sys2Proof.Machine

/-! ## What the shared steps of castling leave alone -/

section
variable {s : State}

/-- The states of the audio channels are the only registers that silencing changes. -/
theorem word_auCheck {a : Nat} (h : a < R.AU_CHSTAT 0) : s.auCheck.word a = s.word a := by
  have hne : ∀ m, a ≠ (R.AU_CHSTAT_state m).a := fun m => Nat.ne_of_lt (Nat.lt_of_lt_of_le h (Nat.le_add_right _ _))
  have hstep : ∀ (t : State) (m : Nat), t.word a = s.word a →
      (if t.auSilenced (m / 2) then t.auQuiet m else t).word a = s.word a := by
    intro t m ht
    split
    · exact (State.word_wr_ne _ 0 (hne m)).trans ht
    · exact ht
  unfold State.auCheck
  split
  · exact foldl_keeps hstep _ rfl
  · rfl

theorem rd_auCheck {f : FRef} (h : f.a < R.AU_CHSTAT 0) : s.auCheck.rd f = s.rd f := by
  simp only [State.rd, word_auCheck h]

/-- Registers and the audio channels. -/
def audioFields : Nat := 2 ^ 2 + 2 ^ 26

/-- Silencing changes registers and the audio channels only. -/
theorem auCheck_blank : s.auCheck.blank audioFields = s.blank audioFields := by
  have hquiet : ∀ (t : State) (m : Nat), (t.auQuiet m).blank audioFields = t.blank audioFields := fun t m =>
    (upd_csr audioFields (by decide) _ _).trans <| (upd_au audioFields (by decide) _ _).trans <|
      (upd_au audioFields (by decide) _ _).trans (upd_au audioFields (by decide) t _)
  have hstep : ∀ (t : State) (m : Nat),
      (if t.auSilenced (m / 2) then t.auQuiet m else t).blank audioFields = t.blank audioFields := by
    intro t m
    split
    · exact hquiet t m
    · rfl
  unfold State.auCheck
  split
  · exact fold_blank audioFields _ hstep _ _
  · rfl

@[simp] theorem auCheck_cs : s.auCheck.cs = s.cs := cs_of_blank auCheck_blank (by decide)
@[simp] theorem auCheck_mem : s.auCheck.mem = s.mem := mem_of_blank auCheck_blank (by decide)

@[simp] theorem setCast_cs (x : Nat) : (s.setCast x).cs = s.cs := auCheck_cs
@[simp] theorem setCast_mem (x : Nat) : (s.setCast x).mem = s.mem := auCheck_mem

/-- The castling state is as it is set. -/
theorem csState_setCast {x : Nat} (hx : x < 8) : (s.setCast x).csState = x := by
  rw [State.csState, State.setCast, rd_auCheck (by decide), State.rd_wr_fits (w := 3) s (by decide) hx]

/-- A field outside the castling state's stands as before. -/
theorem rd_setCast {x : Nat} {f : FRef} (ha : f.a < R.AU_CHSTAT 0) (hf : f.a ≠ R.CS_STATUS ∨ 3 ≤ f.lo) :
    (s.setCast x).rd f = s.rd f := by
  rw [State.setCast, rd_auCheck ha]
  by_cases hs : f.a = R.CS_STATUS
  · exact State.rd_wr_disjoint _ _ (by decide) hs (Or.inr (hf.resolve_left (not_not_intro hs)))
  · exact State.rd_wr_ne _ _ hs

@[simp] theorem castSend_csr (msg : Nat) (b : Bytes) : (s.castSend msg b).csr = s.csr :=
  csr_of_blank (castSend_offCast s msg b) (by decide)

@[simp] theorem castSend_mem (msg : Nat) (b : Bytes) : (s.castSend msg b).mem = s.mem :=
  mem_of_blank (castSend_offCast s msg b) (by decide)

@[simp] theorem sendPacket_cs (p : Nat) (b : Bytes) : (s.sendPacket p b).cs = s.cs := by
  refine foldl_keeps (P := fun t : State => t.cs = s.cs) ?_ _ ?_
  · exact fun _ _ h => h
  · rfl

/-- A message sent moves the sequence number of its type. -/
theorem castSend_cs (msg : Nat) (b : Bytes) : ∃ q, (s.castSend msg b).cs = { s.cs with mseq := q } := by
  unfold State.castSend
  split
  · exact ⟨_, sendPacket_cs _ _⟩
  · exact ⟨_, rfl⟩

@[simp] theorem sendLease_csr (resign handover : Bool) (n : Nat) : (s.sendLease resign handover n).csr = s.csr := castSend_csr ..

@[simp] theorem sendLease_mem (resign handover : Bool) (n : Nat) : (s.sendLease resign handover n).mem = s.mem := castSend_mem ..

/-- A LEASE sent moves the sequence numbers of leases and of messages. -/
theorem sendLease_cs (resign handover : Bool) (n : Nat) :
    ∃ k q, (s.sendLease resign handover n).cs = { s.cs with leaseSeq := k, mseq := q } := by
  unfold State.sendLease
  obtain ⟨q, h⟩ := castSend_cs (s := { s with cs := { s.cs with leaseSeq := s.cs.leaseSeq + 1 } }) 1
    (State.leaseBody { s with cs := { s.cs with leaseSeq := s.cs.leaseSeq + 1 } } resign handover n)
  exact ⟨_, q, h⟩

end

/-! ## Taking the lease (R205, R217) -/

section
variable {s : State} {sole : Bool}

/-- The unit's claim, and with it the highest claim seen, is one above the highest seen before. -/
def State.claimNumbered (s : State) : State :=
  (s.wq R.CS_CLAIM (s.rq R.CS_HCLAIM + 1)).wq R.CS_HCLAIM (s.rq R.CS_HCLAIM + 1)

/-- The registers of a unit that has claimed the lease, before its state says so. -/
def State.claimShown (s : State) (sole : Bool) : State :=
  (((s.claimNumbered.flag R.CS_STATUS_took_ev).inc (R.CS_CNT 3)).wr R.CS_STATUS_sole (if sole then 1 else 0)).wr
    R.CS_STATUS_prep 0

/-- The castling record of a unit that has claimed the lease. -/
def State.leaseHeld (s : State) : State :=
  { s with cs := { s.cs with waiting := false, guard := false, joined := none, acked := true } }

theorem leaseHeld_csr : s.leaseHeld.csr = s.csr := rfl
theorem leaseHeld_mem : s.leaseHeld.mem = s.mem := rfl
theorem leaseHeld_cs : s.leaseHeld.cs = { s.cs with waiting := false, guard := false, joined := none, acked := true } := rfl

/-- A new claim goes out on the Uhlain ports. -/
def State.claimPackets (s : State) : State :=
  s.claimNews.fold ((List.range 16).filter (fun p => s.claimNews.on (R.IN_PORTCTL_tx_en p))) (fun s p => s.claimSend p)

theorem claimLease_eq : s.claimLease sole
    = (((((s.claimShown sole).leaseHeld).setCast 3).sendLease false false 0).fire 95).claimPackets := rfl

theorem claimSend_offCast (p : Nat) : (s.claimSend p).offCast = s.offCast := by
  unfold State.claimSend
  split
  · exact (sendPacket_offCast _ _ _).trans (upd_ul castFields (by decide) s _)
  · rfl

theorem claimPackets_offCast : s.claimPackets.offCast = s.offCast :=
  (fold_blank castFields _ (fun _ p => claimSend_offCast p) _ _).trans
    (fold_blank castFields _ (fun t _ => upd_ul castFields (by decide) t _) _ s)

theorem claimSend_cs (p : Nat) : (s.claimSend p).cs = s.cs := by
  unfold State.claimSend
  split
  · exact sendPacket_cs _ _
  · rfl

theorem claimPackets_cs : s.claimPackets.cs = s.cs := by
  have hnews : s.claimNews.cs = s.cs := by
    refine foldl_keeps (P := fun t : State => t.cs = s.cs) ?_ _ rfl
    exact fun _ _ h => h
  refine foldl_keeps (P := fun t : State => t.cs = s.cs) ?_ _ hnews
  exact fun _ p h => (claimSend_cs p).trans h

/-- After its state is set, a unit that takes the lease changes no register. -/
theorem claimLease_csr : (s.claimLease sole).csr = (((s.claimShown sole).leaseHeld).setCast 3).csr := by
  rw [claimLease_eq, csr_of_blank claimPackets_offCast (by decide), State.fire_csr, sendLease_csr]

theorem claimShown_cs : (s.claimShown sole).cs = s.cs := by
  rw [State.claimShown, State.wr_cs, State.wr_cs, State.inc_cs, State.flag_cs, State.claimNumbered, State.wq_cs, State.wq_cs]

theorem claimShown_mem : (s.claimShown sole).mem = s.mem := by
  rw [State.claimShown, State.wr_mem, State.wr_mem, State.inc_mem, State.flag_mem, State.claimNumbered, State.wq_mem,
    State.wq_mem]

theorem claimLease_mem : (s.claimLease sole).mem = s.mem := by
  rw [claimLease_eq, mem_of_blank claimPackets_offCast (by decide), State.fire_mem, sendLease_mem, setCast_mem,
    leaseHeld_mem, claimShown_mem]

theorem claimLease_fires : (95, 0) ∈ (s.claimLease sole).evq := by
  rw [claimLease_eq, evq_of_blank claimPackets_offCast (by decide)]
  exact List.mem_append_right _ (List.mem_singleton_self _)

/-- A unit that takes the lease neither waits nor guards, and a handover goes on. -/
theorem claimLease_cs : (s.claimLease sole).cs.hand = s.cs.hand ∧ (s.claimLease sole).cs.guard = false
    ∧ (s.claimLease sole).cs.waiting = false := by
  obtain ⟨k, q, h⟩ := sendLease_cs (s := ((s.claimShown sole).leaseHeld).setCast 3) false false 0
  rw [claimLease_eq, claimPackets_cs, State.fire_cs, h, setCast_cs, leaseHeld_cs, claimShown_cs]
  exact ⟨rfl, rfl, rfl⟩

theorem csState_claimLease : (s.claimLease sole).csState = 3 :=
  (State.rd_of_csr claimLease_csr _).trans (csState_setCast (by decide))

theorem rd_claimLease {f : FRef} (ha : f.a < R.AU_CHSTAT 0) (hf : f.a ≠ R.CS_STATUS ∨ 3 ≤ f.lo) :
    (s.claimLease sole).rd f = (s.claimShown sole).rd f :=
  (State.rd_of_csr claimLease_csr f).trans ((rd_setCast ha hf).trans (State.rd_of_csr leaseHeld_csr f))

theorem rd_claimShown_tookEv : (s.claimShown sole).rd R.CS_STATUS_took_ev = 1 := by
  rw [State.claimShown, State.rd_wr_disjoint _ _ (by decide) (by decide) (by decide),
    State.rd_wr_disjoint _ _ (by decide) (by decide) (by decide), State.rd, State.inc, State.word_incBy_ne _ _ (by decide)]
  exact State.rd_flag_same _ _ (by decide) rfl (by decide)

theorem rd_claimShown_sole : (s.claimShown sole).rd R.CS_STATUS_sole = if sole then 1 else 0 := by
  rw [State.claimShown, State.rd_wr_disjoint _ _ (by decide) (by decide) (by decide), State.rd_wr_same _ _ _ (by decide)]
  cases sole <;> rfl

/-- Beside the two claims' words and CS_STATUS, taking the lease writes counts and the states of the audio channels. -/
theorem word_claimLease {a : Nat} (ha : a < R.CS_CNT 0) (hs : a ≠ R.CS_STATUS) (hp : a ≠ R.PE_CNT 2) :
    (s.claimLease sole).word a = s.claimNumbered.word a := by
  have hcnt : a ≠ R.CS_CNT 3 := by
    rintro rfl
    exact absurd ha (by decide)
  calc (s.claimLease sole).word a
    _ = (((s.claimShown sole).leaseHeld).setCast 3).word a := State.word_of_csr claimLease_csr a
    _ = (((s.claimShown sole).leaseHeld).wr R.CS_STATUS_state 3).word a := word_auCheck (ha.trans (by decide))
    _ = (s.claimShown sole).leaseHeld.word a := State.word_wr_ne _ _ hs
    _ = (s.claimShown sole).word a := State.word_of_csr leaseHeld_csr a
    _ = s.claimNumbered.word a := by
      rw [State.claimShown, State.word_wr_ne _ _ hs, State.word_wr_ne _ _ hs, State.inc, State.word_incBy_ne _ _ hcnt,
        State.word_flag_ne _ _ hs hp]

/-- The new claim is one above the highest claim seen, and is the highest claim seen from now on. -/
theorem rq_claimLease_claims : (s.claimLease sole).rq R.CS_CLAIM = (s.rq R.CS_HCLAIM + 1) % 2 ^ 64
    ∧ (s.claimLease sole).rq R.CS_HCLAIM = (s.rq R.CS_HCLAIM + 1) % 2 ^ 64 := by
  have hrq : ∀ a ∈ [R.CS_CLAIM, R.CS_HCLAIM], (s.claimLease sole).rq a = s.claimNumbered.rq a := by
    intro a ha
    have hwords : ∀ a ∈ [R.CS_CLAIM, R.CS_HCLAIM], ∀ b ∈ [a, a + 4],
        b < R.CS_CNT 0 ∧ b ≠ R.CS_STATUS ∧ b ≠ R.PE_CNT 2 := by decide
    have hkeep : ∀ b ∈ [a, a + 4], (s.claimLease sole).word b = s.claimNumbered.word b := fun b hb =>
      have ⟨hlt, hs, hp⟩ := hwords a ha b hb
      word_claimLease hlt hs hp
    rw [State.rq, hkeep a (by simp), hkeep (a + 4) (by simp), State.rq]
  rw [hrq R.CS_CLAIM (by simp), hrq R.CS_HCLAIM (by simp), State.claimNumbered,
    State.rq_wq_ne _ _ (by decide) (by decide) (by decide)]
  exact ⟨State.rq_wq_same .., State.rq_wq_same ..⟩

theorem takeLease_alone (h : s.cs.hand = none) :
    s.takeLease sole = (s.claimLease sole).numberRest.discardCovered.resumeVoltage := by
  obtain ⟨hhand, -, -⟩ := claimLease_cs (s := s) (sole := sole)
  simp [State.takeLease, hhand, h]

theorem takeLease_handover (h : s.cs.hand ≠ none) : s.takeLease sole = s.claimLease sole := by
  obtain ⟨hhand, -, -⟩ := claimLease_cs (s := s) (sole := sole)
  simp [State.takeLease, hhand, Option.isSome_iff_ne_none.2 h]

end

/-! ## Losing the shadow (Table 9-4) -/

section
variable {s : State}

@[simp] theorem outputDone_ot (g i area : Nat) : (s.outputDone g i area).ot = s.ot := rfl

/-- Instances that leave the unit's hands leave its list. -/
theorem forget_ot (l : List Inst) : (s.forget l).ot = { s.ot with insts := s.ot.insts.filter (fun x => !l.contains x) } := by
  refine foldl_keeps (P := fun t : State => t.ot = { s.ot with insts := s.ot.insts.filter (fun x => !l.contains x) }) ?_ l rfl
  intro t x ht
  split
  · exact ht
  · exact ht

/-- The instances that a standby holds as its shadow: all but the reports. -/
def State.shadow (s : State) : List Inst := s.ot.insts.filter (fun x => x.typ < 6)

theorem toUnsync_standby (h : s.csState = 2) : s.toUnsync =
    (let t := (s.noteLost s.shadow).forget s.shadow
     State.wr { t with cs := { t.cs with joined := none, guard := false } } R.CS_STATUS_state 1) := if_pos h

theorem toUnsync_other (h : s.csState ≠ 2) : s.toUnsync = s := if_neg h

theorem toUnsync_insts (h : s.csState = 2) : ∀ x ∈ s.toUnsync.ot.insts, 6 ≤ x.typ := by
  intro x hx
  rw [toUnsync_standby h, State.wr_ot] at hx
  dsimp only at hx
  rw [forget_ot] at hx
  obtain ⟨hin, hout⟩ := List.mem_filter.1 hx
  by_contra hlt
  have hshadow : x ∈ s.shadow := List.mem_filter.2 ⟨hin, by simpa using hlt⟩
  simp [hshadow] at hout

theorem csState_toUnsync (h : s.csState = 2) : s.toUnsync.csState = 1 := by
  rw [toUnsync_standby h]
  exact State.rd_wr_same _ _ _ (by decide)

theorem toUnsync_cs (h : s.csState = 2) : s.toUnsync.cs.joined = none ∧ s.toUnsync.cs.guard = false := by
  rw [toUnsync_standby h]
  exact ⟨rfl, rfl⟩

end

/-! ## The pins and the timers (R200 to R204, R209, R210) -/

section
variable {s : State}

/-- The peer's pin has moved. -/
def State.pinMoved (s : State) : State := { s.wr R.CS_STATUS_pins_ok 1 with cs := { s.cs with pinSeen := true } }

/-- The move of the peer's pin counts as an acknowledgment. -/
def State.pinAcked (s : State) : State := { s.pinMoved with cs := { s.pinMoved.cs with acked := true } }

theorem csState_pinMoved : s.pinMoved.csState = s.csState :=
  State.rd_wr_disjoint _ _ (f := R.CS_STATUS_pins_ok) (by decide) (by decide) (by decide)

theorem isActive_pinMoved : s.pinMoved.isActive = s.isActive := by
  rw [State.isActive, csState_pinMoved, State.isActive]

theorem isActive_of_csState {x : Nat} (h : s.csState = x) : s.isActive = (decide (x = 3) || decide (x = 5)) := by
  rw [State.isActive, h]

variable (hen : s.on R.CS_CTL_en = true)
include hen

theorem pinEdge_active (gap : Nat) (ha : s.isActive = true) :
    s.pinEdge gap = s.pinAcked.when (decide (s.csState = 3)) (·.wr R.CS_STATUS_sole 0) := by
  have hact : s.pinMoved.isActive = true := isActive_pinMoved.trans ha
  have hst : s.pinAcked.csState = s.csState := csState_pinMoved
  rw [← hst]
  exact (if_pos hen).trans (if_pos hact)

theorem pinEdge_resigned {gap : Nat} (h : s.csState = 2) (hg : gap ≤ 1000) :
    s.pinEdge gap = s.pinMoved.takeLease false := by
  have hact : ¬s.pinMoved.isActive = true := by simp [isActive_pinMoved, isActive_of_csState h]
  have hst : s.pinMoved.csState = 2 := csState_pinMoved.trans h
  exact (if_pos hen).trans ((if_neg hact).trans ((if_pos ⟨hg, hst⟩).trans (if_pos hst)))

theorem pinEdge_answered {gap : Nat} (ha : s.isActive = false) (hno : s.csState ≠ 2 ∨ 1000 < gap) :
    s.pinEdge gap = s.pinMoved.pinToggle := by
  have hact : ¬s.pinMoved.isActive = true := by simp [isActive_pinMoved, ha]
  have hst : ¬(gap ≤ 1000 ∧ s.pinMoved.csState = 2) := by rw [csState_pinMoved]; omega
  exact (if_pos hen).trans ((if_neg hact).trans (if_neg hst))

end

section
variable {s : State} (h : s.off = false)
include h

theorem exec_leasePinTransition (gap : Nat) : exec (.leasePinTransition gap) s = .next (s.pinEdge gap) :=
  s.does_on h fun s => s.pinEdge gap

theorem exec_leaseRenewal : exec .leaseRenewal s = .next s.leaseRenew := s.does_on h State.leaseRenew

theorem exec_wmarkSend : exec .wmarkSend s = .next s.wmarkSend := s.does_on h State.wmarkSend

theorem exec_digestSend : exec .digestSend s = .next s.digestSend := s.does_on h State.digestSend

theorem exec_leaseExpiry : exec .leaseExpiry s = .next s.leaseExpire := s.does_on h State.leaseExpire

theorem exec_guardExpiry : exec .guardExpiry s = .next s.guardExpire := s.does_on h State.guardExpire

theorem exec_ackTimeout : exec .ackTimeout s = .next s.ackExpire := s.does_on h State.ackExpire

theorem exec_cstLinkTimeout : exec .cstLinkTimeout s = .next s.linkExpire := s.does_on h State.linkExpire

theorem exec_planTimeout (n : Nat) : exec (.planTimeout n) s = .next (s.planExpire n) := s.does_on h fun s => s.planExpire n

theorem exec_leaseWaitExpiry : exec .leaseWaitExpiry s = .next s.waitExpire := s.does_on h State.waitExpire

end

section
variable {s : State}

theorem leaseRenew_active (ha : s.isActive = true) : s.leaseRenew = (
    let t := (if s.cs.acked = true then s else s.inc (R.CS_CNT 1)).pinsCheck
    let t := State.inc { t with cs := { t.cs with acked := false } } (R.CS_CNT 0)
    (t.sendLease false (t.csState = 5) (t.cs.hand.getD 0)).pinToggle) := by
  unfold State.leaseRenew
  rw [if_pos ha]
  cases hack : s.cs.acked <;> rfl

/-- The digests of an instance not yet reported, up to 1,000, go out in one message and meet the peer's. -/
theorem digestSend_oldest {x : Inst} {f : Nat} (hen : s.on R.CS_CTL_en = true)
    (hx : s.ot.insts.find? (fun y => y.typ < 6 && y.first.isSome && decide (y.digs < y.segs)) = some x)
    (hf : x.first = some f) : s.digestSend = (
      let n := min 1000 (x.segs - x.digs)
      let digs := (List.range n).map (fun i => s.frameDigest x (x.digs + i))
      let t := s.castSend 4 (leBytes 2 x.stream ++ leBytes 2 (if x.div = true then 1 else 0) ++ leBytes 4 n ++ leBytes 8 x.inst
        ++ leBytes 8 (f + x.digs) ++ digs.flatMap (leBytes 8))
      let t := t.fold digs.zipIdx (fun t d => t.digNote x.stream (f + x.digs + d.2) ⟨d.1, x.div, f, x.segs⟩ true)
      (State.pruneReported { t with ot := { t.ot with insts := t.ot.insts.map (fun y =>
        if sameInst y x = true then { y with digs := x.digs + n } else y) } }).joinCheck) := by
  have hon : ¬(s.csState = 0 ∧ ¬s.on R.CS_CTL_en = true) := fun hno => hno.2 hen
  simp only [State.digestSend, if_neg hon, hx, hf, Option.getD_some]

theorem planExpire_late {n : Nat} (hs : s.csState = 2) (hp : s.planOf n = none) (hl : n ≤ s.rq R.AL_SEALED)
    (hn : s.ck.next ≤ n) : s.planExpire n = ((s.inc (R.CS_CNT 10)).toUnsync).admitOwn n :=
  if_pos ⟨hs, Option.isNone_iff_eq_none.2 hp, hl, hn⟩

theorem ackExpire_paired (hs : s.csState = 3) (hsole : s.on R.CS_STATUS_sole = false) : s.ackExpire = s.fence :=
  if_pos ⟨hs, by simp [hsole]⟩

end

/-- Settles O22: the pins and timers by the castling state they meet, and the lease taken by the registers and the record that
claiming it writes before its state, its message and its packets follow. -/
theorem leaseKept : Obligations.LeaseKept := by
  unfold Obligations.LeaseKept
  refine ⟨fun s hoff => ⟨fun gap hen => ⟨fun h => ?_, fun h => ?_, fun h hg => ?_, fun ha hno => ?_⟩, fun ha => ?_, fun ha => ?_,
    fun x f hen hx hf => ?_, fun h => ?_, fun h hg => ?_, fun h hsole => ?_, fun hdown => ?_, fun n h hp hl hn => ?_,
    fun hw => ?_⟩, fun s => ⟨fun h => ?_, toUnsync_other, fun sole => ?_⟩⟩
  · rw [exec_leasePinTransition hoff, pinEdge_active hen gap (isActive_of_csState h), h]
    rfl
  · rw [exec_leasePinTransition hoff, pinEdge_active hen gap (isActive_of_csState h), h]
    rfl
  · rw [exec_leasePinTransition hoff, pinEdge_resigned hen h hg]
    rfl
  · rw [exec_leasePinTransition hoff, pinEdge_answered hen ha hno]
    rfl
  · rw [exec_leaseRenewal hoff, leaseRenew_active ha]
  · rw [exec_wmarkSend hoff, State.wmarkSend, if_pos ha]
  · rw [exec_digestSend hoff, digestSend_oldest hen hx hf]
  · rw [exec_leaseExpiry hoff, State.leaseExpire, if_pos h]
  · rw [exec_guardExpiry hoff, State.guardExpire, if_pos ⟨h, hg⟩]
  · rw [exec_ackTimeout hoff, ackExpire_paired h hsole]
    rfl
  · rw [exec_cstLinkTimeout hoff, State.linkExpire, hdown, if_neg Bool.false_ne_true]
  · rw [exec_planTimeout hoff, planExpire_late h hp hl hn]
  · rw [exec_leaseWaitExpiry hoff, State.waitExpire, if_pos hw]
  · obtain ⟨hjoined, hguard⟩ := toUnsync_cs h
    exact ⟨csState_toUnsync h, hjoined, hguard, toUnsync_insts h⟩
  · obtain ⟨hclaim, hseen⟩ := rq_claimLease_claims (s := s) (sole := sole)
    obtain ⟨-, hguard, hwaiting⟩ := claimLease_cs (s := s) (sole := sole)
    have htook : (s.claimLease sole).on R.CS_STATUS_took_ev = true := by
      rw [State.on, rd_claimLease (by decide) (by decide), rd_claimShown_tookEv]
      rfl
    have hsole : (s.claimLease sole).on R.CS_STATUS_sole = sole := by
      rw [State.on, rd_claimLease (by decide) (by decide), rd_claimShown_sole]
      cases sole <;> rfl
    exact ⟨hclaim, hseen, csState_claimLease, htook, hsole, hguard, hwaiting, claimLease_fires, claimLease_mem, takeLease_alone,
      takeLease_handover⟩

end Sys2Proof.Machine
end

section
/-! The host's castling commands, by what writes of CS_CTL and CS_CMD do (R209, R219, R224, R303, Table 9-4). -/

namespace Sys2Proof.Machine

/-! ## CS_CTL and CS_CMD -/

/-- CS_CTL. -/
def locCsCtl : Loc := ⟨⟨.CS_CTL, 0x0, [], false, [⟨3, 3, .rw, 0, []⟩, ⟨2, 2, .rw, 0, []⟩, ⟨1, 1, .rw, 0, []⟩, ⟨0, 0, .rw, 0, []⟩]⟩,
  [], false⟩

/-- CS_CMD. -/
def locCsCmd : Loc := ⟨⟨.CS_CMD, 0x4, [], false, [⟨2, 0, .wo, 0, []⟩]⟩, [], false⟩

theorem locate_csCtl : locate R.CS_CTL = some locCsCtl := by decide
theorem locate_csCmd : locate R.CS_CMD = some locCsCmd := by decide

section
variable {s : State} {m a : Nat} {v : Word} {l : Loc} (hl : locate a = some l) (hp : l.reg.pair = false)
include hl hp

theorem landed_cs : (s.landed m a v).cs = s.cs := by rw [landed_eq_setWord hl hp, State.setWord_cs]

theorem csState_landed (ha : R.CS_STATUS ≠ a) : (s.landed m a v).csState = s.csState :=
  rd_landed_ne hl hp (g := R.CS_STATUS_state) ha

theorem isActive_landed (ha : R.CS_STATUS ≠ a) : (s.landed m a v).isActive = s.isActive := by
  rw [State.isActive, csState_landed hl hp ha, State.isActive]

theorem rq_landed_ne {b : Nat} (hb : b ≠ a) (hb' : b + 4 ≠ a) : (s.landed m a v).rq b = s.rq b := by
  rw [landed_eq_setWord hl hp, State.rq, State.word_setWord_ne _ _ hb, State.word_setWord_ne _ _ hb', State.rq]

end

section
variable {s : State} {m : Nat} {w : Word}

theorem writeWord_csCtl (h : s.takes m R.CS_CTL w) :
    s.writeWord m R.CS_CTL w = ((s.landed m R.CS_CTL w).castWritten (s.on R.CS_CTL_en)).okResp [] :=
  writeWord_effect h locate_csCtl (by decide) rfl

theorem writeWord_csCmd (h : s.takes m R.CS_CMD w) :
    s.writeWord m R.CS_CMD w = ((s.landed m R.CS_CMD w).castCommand (w.toNat % 8)).okResp [] :=
  writeWord_effect h locate_csCmd (by decide) rfl

theorem csEn_landed_csCmd : (s.landed m R.CS_CMD w).on R.CS_CTL_en = s.on R.CS_CTL_en :=
  congrArg (· != 0) (rd_landed_ne locate_csCmd rfl (by decide))

/-- After an accepted write castling is on as the write says. -/
theorem on_landed_csEn {v : Word} (x : Nat) (h : s.takes m R.CS_CTL (force v R.CS_CTL_en x)) :
    (s.landed m R.CS_CTL (force v R.CS_CTL_en x)).on R.CS_CTL_en = (x % 2 != 0) := by
  obtain ⟨-, l, hl, -, -, hfor, -, -⟩ := h
  obtain rfl : locCsCtl = l := Option.some.inj (locate_csCtl.symm.trans hl)
  have hfree : (s.guards locCsCtl).1 = 0 := rfl
  have hread : (s.landed m R.CS_CTL (force v R.CS_CTL_en x)).rd R.CS_CTL_en = getBits (force v R.CS_CTL_en x).toNat 0 1 := by
    refine rd_landed_accepted (f := R.CS_CTL_en) locate_csCtl rfl hfor rfl (by decide) fun i hi => ?_
    obtain rfl : i = 0 := Nat.lt_one_iff.1 hi
    rw [hfree]
    exact ⟨rfl, rfl, rfl⟩
  exact congrArg (· != 0) (hread.trans (getBits_force v x (f := R.CS_CTL_en) (by decide)))

end

/-! ## What each command leaves of the enable -/

section
variable {s : State}

theorem csCtl_sendJoin : s.sendJoin.word R.CS_CTL = s.word R.CS_CTL := by
  unfold State.sendJoin
  rw [State.word_of_csr (castSend_csr ..), State.setCast, word_auCheck (by decide), State.word_wr_ne _ _ (by decide),
    State.word_wr_ne _ _ (by decide)]
  rfl

theorem csEn_sendJoin : s.sendJoin.on R.CS_CTL_en = s.on R.CS_CTL_en :=
  congrArg (fun w : Word => getBits w.toNat 0 1 != 0) csCtl_sendJoin

theorem csEn_castStop : s.castStop.on R.CS_CTL_en = false := by
  unfold State.castStop
  rw [State.on, rd_setCast (by decide) (by decide), State.rd_wr_ne _ _ (by decide), State.rd_wr_ne _ _ (by decide),
    State.rd_wr_ne _ _ (by decide), State.rd_wr_same _ _ _ (by decide)]
  rfl

theorem csEn_csRefuse : s.csRefuse.on R.CS_CTL_en = s.on R.CS_CTL_en :=
  congrArg (· != 0) (State.rd_flag_ne _ _ (by decide) (by decide))

/-- While castling is on, the port of M19 is released. -/
theorem agentPort_on (was : Bool) (hen : s.on R.CS_CTL_en = true) : s.agentPort was = s.masterRelease 19 := if_pos hen

/-- When castling goes off, the port of M19 is reset. -/
theorem agentPort_goesOff (hen : s.on R.CS_CTL_en = false) : s.agentPort true = s.masterReset 19 0 := by
  simp [State.agentPort, hen]

/-! ## CS_CTL.en written (R209) -/

theorem castEnable_waits (hcs : s.csState = 0) (htake : s.on R.CS_CTL_take = true) :
    s.castEnable = { s with cs := { s.cs with waiting := true } } := (if_pos hcs).trans (if_pos htake)

theorem castEnable_joins (hcs : s.csState = 0) (htake : s.on R.CS_CTL_take = false) : s.castEnable = s.sendJoin :=
  (if_pos hcs).trans (if_neg (by simp [htake]))

section
variable (hen : s.on R.CS_CTL_en = true)
include hen

theorem castWritten_waits (hcs : s.csState = 0) (htake : s.on R.CS_CTL_take = true) : s.castWritten false
    = (State.masterRelease { s with cs := { s.cs with waiting := true } } 19).auCheck := by
  have hkeep : State.on { s with cs := { s.cs with waiting := true } } R.CS_CTL_en = true := hen
  simp only [State.castWritten, hen, if_true, Bool.false_eq_true, if_false, castEnable_waits hcs htake,
    agentPort_on false hkeep]

theorem castWritten_joins (hcs : s.csState = 0) (htake : s.on R.CS_CTL_take = false) : s.castWritten false
    = (s.sendJoin.masterRelease 19).auCheck := by
  have hkeep : s.sendJoin.on R.CS_CTL_en = true := csEn_sendJoin.trans hen
  simp only [State.castWritten, hen, if_true, Bool.false_eq_true, if_false, castEnable_joins hcs htake,
    agentPort_on false hkeep]

end

section
variable (hen : s.on R.CS_CTL_en = false)
include hen

theorem castWritten_stops (ha : s.isActive = false) : s.castWritten true = (s.castStop.masterReset 19 0).auCheck := by
  simp only [State.castWritten, hen, ha, Bool.false_eq_true, if_true, if_false, agentPort_goesOff csEn_castStop]

theorem castWritten_refused (ha : s.isActive = true) : s.castWritten true
    = ((s.wr R.CS_CTL_en 1).csRefuse.masterRelease 19).auCheck := by
  have hback : (s.wr R.CS_CTL_en 1).on R.CS_CTL_en = true := congrArg (· != 0) (s.rd_wr_same R.CS_CTL_en 1 (by decide))
  simp only [State.castWritten, hen, ha, Bool.false_eq_true, if_true, if_false,
    agentPort_on true (csEn_csRefuse.trans hback)]

end

/-! ## The commands (R209, R219, R224) -/

theorem castResign_sync (hcs : s.csState = 3) (hp : s.cs.peerState = 2) :
    s.castResign = ((s.resignNow false 2).wr R.CS_STATUS_sole 0).auCheck := (if_pos hcs).trans (if_pos hp)

theorem castResign_noStandby (hcs : s.csState = 3) (hp : s.cs.peerState ≠ 2) :
    s.castResign = (s.inc (R.CS_CNT 11)).csRefuse := (if_pos hcs).trans (if_neg hp)

theorem castResign_refused (hcs : s.csState ≠ 3) : s.castResign = s.csRefuse := if_neg hcs

theorem castSole_takes (hcs : s.csState = 1 ∨ s.csState = 2 ∨ s.csState = 4) :
    s.castSole = State.takeLease { s with cs := { s.cs with hand := none, handed := [] } } true := if_pos hcs

theorem castSole_refused (hcs : s.csState = 0 ∨ s.csState = 3 ∨ s.csState = 5) : s.castSole = s.csRefuse :=
  if_neg (by omega)

theorem leave_stops (ha : s.isActive = false) : s.castLeave.agentPort true = s.castStop.masterReset 19 0 := by
  simp only [State.castLeave, ha, Bool.false_eq_true, if_false, agentPort_goesOff csEn_castStop]

theorem leave_refused (ha : s.isActive = true) (hen : s.on R.CS_CTL_en = true) :
    s.castLeave.agentPort true = s.csRefuse.masterRelease 19 := by
  simp only [State.castLeave, ha, if_true, agentPort_on true (csEn_csRefuse.trans hen)]

theorem castJoin_unsync (hcs : s.csState = 1) : s.castJoin = s.sendJoin := if_pos hcs

theorem castJoin_refused (hcs : s.csState ≠ 1) : s.castJoin = s.csRefuse := if_neg hcs

theorem castHand_prepared (hcs : s.csState = 3) (hp : s.cs.peerState = 1) (hprep : s.cs.peerPrep = true) : s.castHand =
    (let t : State := { s with cs := { s.cs with hand := some (s.rq R.CS_HOTGT), handed := [], toHand := s.handStreams } }
     ((t.setCast 5).sendLease false true (s.rq R.CS_HOTGT)).handCheck) := if_pos ⟨hcs, hp, hprep⟩

theorem castHand_refused (hno : s.csState ≠ 3 ∨ s.cs.peerState ≠ 1 ∨ s.cs.peerPrep = false) : s.castHand = s.csRefuse := by
  refine if_neg fun ⟨hcs, hp, hprep⟩ => ?_
  simp [hcs, hp, hprep] at hno

end

/-! ## The commands by what their registers do -/

section
variable {s : State} {m : Fin 20} {v : Word}

theorem exec_castlingEnable (h : s.takes m R.CS_CTL (force v R.CS_CTL_en 1)) (hoff : s.on R.CS_CTL_en = false) :
    exec (.castlingEnable m v) s = .next (((s.landed m R.CS_CTL (force v R.CS_CTL_en 1)).castWritten false).okResp []) := by
  have hw := writeWord_csCtl h
  rw [hoff] at hw
  exact (s.does_on h.1.1 fun s => s.writeWord m R.CS_CTL (force v R.CS_CTL_en 1)).trans (congrArg _ hw)

theorem exec_castlingDisable (h : s.takes m R.CS_CTL (force v R.CS_CTL_en 0)) (hon : s.on R.CS_CTL_en = true) :
    exec (.castlingDisable m v) s = .next (((s.landed m R.CS_CTL (force v R.CS_CTL_en 0)).castWritten true).okResp []) := by
  have hw := writeWord_csCtl h
  rw [hon] at hw
  exact (s.does_on h.1.1 fun s => s.writeWord m R.CS_CTL (force v R.CS_CTL_en 0)).trans (congrArg _ hw)

/-- A write of CS_CMD is the command that its op names. -/
theorem does_csCmd {w : Word} (h : s.takes m R.CS_CMD w) : s.does (fun s => s.writeWord m R.CS_CMD w)
    = .next (((s.landed m R.CS_CMD w).castCommand (w.toNat % 8)).okResp []) :=
  (s.does_on h.1.1 _).trans (congrArg _ (writeWord_csCmd h))

theorem exec_castResign (h : s.takes m R.CS_CMD 1) :
    exec (.castResign m) s = .next ((s.landed m R.CS_CMD 1).castResign.okResp []) := does_csCmd h

theorem exec_takeAsSole (h : s.takes m R.CS_CMD 2) :
    exec (.takeAsSole m) s = .next ((s.landed m R.CS_CMD 2).castSole.okResp []) := does_csCmd h

theorem exec_castLeave (h : s.takes m R.CS_CMD 3) (hen : s.on R.CS_CTL_en = true) :
    exec (.castLeave m) s = .next (((s.landed m R.CS_CMD 3).castLeave.agentPort true).okResp []) := by
  have hact : exec (.castLeave m) s = .next (((s.landed m R.CS_CMD 3).castLeave.agentPort
      ((s.landed m R.CS_CMD 3).on R.CS_CTL_en)).okResp []) := does_csCmd h
  rw [hact, csEn_landed_csCmd, hen]

theorem exec_castJoin (h : s.takes m R.CS_CMD 4) :
    exec (.castJoin m) s = .next ((s.landed m R.CS_CMD 4).castJoin.okResp []) := does_csCmd h

theorem exec_handOver (h : s.takes m R.CS_CMD 5) :
    exec (.handOver m) s = .next ((s.landed m R.CS_CMD 5).castHand.okResp []) := does_csCmd h

end

/-- Settles O23: each command by what its register's write does, in the castling state that the write leaves. -/
theorem castlingWrites : Obligations.CastlingWrites := by
  unfold Obligations.CastlingWrites
  simp only [show R.CS_CTL_en.a = R.CS_CTL from rfl, show R.CS_CMD_op.a = R.CS_CMD from rfl]
  intro s m v
  have hctl : ∀ w, (s.landed m R.CS_CTL w).csState = s.csState := fun _ => csState_landed locate_csCtl rfl (by decide)
  have hctlAct : ∀ w, (s.landed m R.CS_CTL w).isActive = s.isActive := fun _ => isActive_landed locate_csCtl rfl (by decide)
  have hcmd : ∀ w, (s.landed m R.CS_CMD w).csState = s.csState := fun _ => csState_landed locate_csCmd rfl (by decide)
  have hcmdAct : ∀ w, (s.landed m R.CS_CMD w).isActive = s.isActive := fun _ => isActive_landed locate_csCmd rfl (by decide)
  have hpeer : ∀ w, (s.landed m R.CS_CMD w).cs = s.cs := fun _ => landed_cs locate_csCmd rfl
  have htgt : ∀ w, (s.landed m R.CS_CMD w).rq R.CS_HOTGT = s.rq R.CS_HOTGT := fun _ =>
    rq_landed_ne locate_csCmd rfl (by decide) (by decide)
  refine ⟨?_, ?_, ?_, ?_, ?_, ?_, ?_, rfl⟩
  · rintro _ _ rfl rfl h hoff hcs
    have hon := on_landed_csEn 1 h
    refine ⟨fun htake => ?_, fun htake => ?_⟩
    · rw [exec_castlingEnable h hoff, castWritten_waits hon ((hctl _).trans hcs) htake]
    · rw [exec_castlingEnable h hoff, castWritten_joins hon ((hctl _).trans hcs) htake]
  · rintro _ _ rfl rfl h hon
    have hoff := on_landed_csEn 0 h
    refine ⟨fun ha => ?_, fun ha => ?_⟩
    · rw [exec_castlingDisable h hon, castWritten_stops hoff ((hctlAct _).trans ha)]
    · rw [exec_castlingDisable h hon, castWritten_refused hoff ((hctlAct _).trans ha)]
  · rintro _ rfl h
    refine ⟨fun hcs hp => ?_, fun hcs hp => ?_, fun hcs => ?_⟩
    · rw [exec_castResign h, castResign_sync ((hcmd 1).trans hcs) (hpeer 1 ▸ hp)]
    · rw [exec_castResign h, castResign_noStandby ((hcmd 1).trans hcs) (hpeer 1 ▸ hp)]
    · rw [exec_castResign h, castResign_refused (hcmd 1 ▸ hcs)]
  · rintro _ rfl h
    refine ⟨fun hcs => ?_, fun hcs => ?_⟩
    · rw [exec_takeAsSole h, castSole_takes (hcmd 2 ▸ hcs)]
    · rw [exec_takeAsSole h, castSole_refused (hcmd 2 ▸ hcs)]
  · rintro _ rfl h hen
    refine ⟨fun ha => ?_, fun ha => ?_⟩
    · rw [exec_castLeave h hen, leave_stops ((hcmdAct 3).trans ha)]
    · rw [exec_castLeave h hen, leave_refused ((hcmdAct 3).trans ha) (csEn_landed_csCmd.trans hen)]
  · rintro _ rfl h
    refine ⟨fun hcs => ?_, fun hcs => ?_⟩
    · rw [exec_castJoin h, castJoin_unsync ((hcmd 4).trans hcs)]
    · rw [exec_castJoin h, castJoin_refused (hcmd 4 ▸ hcs)]
  · rintro _ rfl h
    refine ⟨fun hcs hp hprep => ?_, fun hno => ?_⟩
    · rw [exec_handOver h, castHand_prepared ((hcmd 5).trans hcs) (hpeer 5 ▸ hp) (hpeer 5 ▸ hprep), htgt 5]
    · rw [exec_handOver h, castHand_refused (hcmd 5 ▸ hpeer 5 ▸ hno)]

end Sys2Proof.Machine
end

section
/-! The host's commands on references, and the selector's windows (R231, R234 to R236, R239, R245, Table 10-3). -/

namespace Sys2Proof.Machine

/-! ## REF_CFG, REF_CMD and REF_CTL -/

/-- REF_CFG of slot r. -/
def locRefCfg (r : Nat) : Loc := ⟨⟨.REF_CFG, 0x100, [(8, 0x20)], false, [⟨23, 16, .rw, 0, [(1, 255)]⟩, ⟨15, 12, .rw, 0, []⟩,
  ⟨11, 10, .rw, 1, [(0, 2)]⟩, ⟨7, 5, .rw, 7, []⟩, ⟨0, 0, .rw, 0, []⟩]⟩, [r], false⟩

/-- REF_CMD. -/
def locRefCmd : Loc := ⟨⟨.REF_CMD, 0x1C, [], false, [⟨7, 0, .wo, 0, []⟩]⟩, [], false⟩

/-- REF_CTL. -/
def locRefCtl : Loc := ⟨⟨.REF_CTL, 0x0, [], false, [⟨11, 8, .rw, 0, [(0, 7)]⟩, ⟨2, 2, .rw, 0, []⟩, ⟨1, 1, .rw, 0, []⟩,
  ⟨0, 0, .rw, 0, []⟩]⟩, [], false⟩

theorem locate_refCfg : ∀ r : Fin 8, locate (R.REF_CFG r) = some (locRefCfg r) := by decide
theorem locate_refCmd : locate R.REF_CMD = some locRefCmd := by decide
theorem locate_refCtl : locate R.REF_CTL = some locRefCtl := by decide

theorem refCfg_ne_rrst : ∀ r : Fin 8, R.REF_CFG r ≠ R.MG_RRST_rst.a := by decide

section
variable {s : State} {m : Nat} {v w : Word}

theorem writeWord_refCfg {r : Fin 8} (h : s.takes m (R.REF_CFG r) w) :
    s.writeWord m (R.REF_CFG r) w
      = ((s.landed m (R.REF_CFG r) w).refConfigured r (s.on (R.REF_CFG_en r))).okResp [] :=
  writeWord_effect h (locate_refCfg r) (refCfg_ne_rrst r) rfl

theorem writeWord_refCmd (h : s.takes m R.REF_CMD w) :
    s.writeWord m R.REF_CMD w = ((s.landed m R.REF_CMD w).refClear (w.toNat % 256)).okResp [] :=
  writeWord_effect h locate_refCmd (by decide) rfl

/-- A write of REF_CTL is the register's own rule, of the value that would land. -/
theorem writeWord_refCtl (h : s.takes m R.REF_CTL w) : s.writeWord m R.REF_CTL w
    = (s.refControl (s.merged m false locRefCtl (s.before locRefCtl R.REF_CTL) w.toNat)).okResp [] :=
  writeWord_own h locate_refCtl (by decide) rfl

/-- The enable of a slot is no guarded bit of its register. -/
theorem guards_refCfg_en (r : Nat) : (s.guards (locRefCfg r)).1.testBit 0 = false := by
  have hguard : (s.guards (locRefCfg r)).1 = if s.on (R.REF_CFG_en r) = true then 0xFFFC00 else 0 := rfl
  rw [hguard]
  split <;> rfl

/-- After an accepted write a slot is enabled as the write says. -/
theorem on_landed_refEn {r : Fin 8} (x : Nat) (h : s.takes m (R.REF_CFG r) (force v (R.REF_CFG_en r) x)) :
    (s.landed m (R.REF_CFG r) (force v (R.REF_CFG_en r) x)).on (R.REF_CFG_en r) = (x % 2 != 0) := by
  obtain ⟨-, l, hl, -, -, hfor, -, -⟩ := h
  obtain rfl : locRefCfg r = l := Option.some.inj ((locate_refCfg r).symm.trans hl)
  have hread : (s.landed m (R.REF_CFG r) (force v (R.REF_CFG_en r) x)).rd (R.REF_CFG_en r)
      = getBits (force v (R.REF_CFG_en r) x).toNat 0 1 := by
    refine rd_landed_accepted (f := R.REF_CFG_en r) (locate_refCfg r) rfl hfor rfl (Nat.le_add_left 1 31) fun i hi => ?_
    obtain rfl : i = 0 := Nat.lt_one_iff.1 hi
    have hset : ((locRefCfg r).reg.bits Fld.sets).testBit 0 = true := by
      rw [bits_testBit]
      rfl
    have hw1c : ((locRefCfg r).reg.bits (fun f => f.acc = .w1c)).testBit 0 = false := by
      rw [bits_testBit]
      rfl
    exact ⟨hset, guards_refCfg_en r, hw1c⟩
  exact congrArg (· != 0) (hread.trans (getBits_force v x (f := R.REF_CFG_en r) (Nat.le_add_left 1 31)))

/-- An accepted write with manual set leaves manual set. -/
theorem on_landed_manual (h : s.takes m R.REF_CTL (force v R.REF_CTL_manual 1)) :
    (s.landed m R.REF_CTL (force v R.REF_CTL_manual 1)).on R.REF_CTL_manual = true := by
  obtain ⟨-, l, hl, -, -, hfor, -, -⟩ := h
  obtain rfl : locRefCtl = l := Option.some.inj (locate_refCtl.symm.trans hl)
  have hfree : (s.guards locRefCtl).1 = 0 := rfl
  have hread : (s.landed m R.REF_CTL (force v R.REF_CTL_manual 1)).rd R.REF_CTL_manual
      = getBits (force v R.REF_CTL_manual 1).toNat 0 1 := by
    refine rd_landed_accepted (f := R.REF_CTL_manual) locate_refCtl rfl hfor rfl (by decide) fun i hi => ?_
    obtain rfl : i = 0 := Nat.lt_one_iff.1 hi
    rw [hfree]
    exact ⟨rfl, rfl, rfl⟩
  exact congrArg (· != 0) (hread.trans (getBits_force v 1 (f := R.REF_CTL_manual) (by decide)))

end

/-! ## What the writes do (R235, Table 10-3) -/

section
variable {s : State}

theorem refConfigured_enables {r : Nat} (hen : s.on (R.REF_CFG_en r) = true) :
    s.refConfigured r false = (s.noteSel (.enable r)).setQuality := by
  simp only [State.refConfigured, hen, Bool.not_false, Bool.and_self, if_true]

theorem refConfigured_disables {r : Nat} (hen : s.on (R.REF_CFG_en r) = false) :
    s.refConfigured r true = (s.noteSel (.disable r)).setQuality := by
  simp only [State.refConfigured, hen, Bool.not_true, Bool.not_false, Bool.and_self, Bool.false_eq_true, if_false, if_true]

/-- The selector's fields of REF_CTL as they stood, until its window is over. -/
def State.keepSelect (t s : State) : State :=
  (t.wr R.REF_CTL_manual (s.rd R.REF_CTL_manual)).wr R.REF_CTL_msel (s.rd R.REF_CTL_msel)

theorem on_hold_keepSelect (t s : State) : (t.keepSelect s).on R.REF_CTL_hold = t.on R.REF_CTL_hold :=
  congrArg (· != 0) (.trans
    (State.rd_wr_disjoint (f := R.REF_CTL_msel) (g := R.REF_CTL_hold) _ _ (by decide) rfl (by decide))
    (State.rd_wr_disjoint (f := R.REF_CTL_manual) (g := R.REF_CTL_hold) _ _ (by decide) rfl (by decide)))

theorem refSel_keepSelect (t s : State) : (t.keepSelect s).refSel = t.refSel := by
  have hsel : (t.keepSelect s).rd R.REF_STATUS_sel = t.rd R.REF_STATUS_sel :=
    (State.rd_wr_ne _ _ (by decide)).trans (State.rd_wr_ne _ _ (by decide))
  simp only [State.refSel, hsel]

/-- Manual selection asked for, without a change of hold in free run: manual and msel wait for the selector's window. -/
theorem refControl_manual {t : State} {x : Nat} (ht : t = s.setWord R.REF_CTL (BitVec.ofNat 32 x))
    (hman : t.on R.REF_CTL_manual = true)
    (hhold : s.refSel.isSome = true ∨ t.on R.REF_CTL_hold = s.on R.REF_CTL_hold) :
    s.refControl x = (t.keepSelect s).noteSel (.select true (t.rd R.REF_CTL_msel)) := by
  have hsel : (t.keepSelect s).refSel = s.refSel := by
    have hword : t.rd R.REF_STATUS_sel = s.rd R.REF_STATUS_sel := by
      rw [ht, State.rd, State.word_setWord_ne _ _ (by decide), State.rd]
    rw [refSel_keepSelect, State.refSel, hword, State.refSel]
  have hstays : ((t.keepSelect s).refSel.isNone && (t.keepSelect s).on R.REF_CTL_hold != s.on R.REF_CTL_hold) = false := by
    rw [hsel, on_hold_keepSelect]
    rcases hhold with h | h
    · rw [Option.isNone_eq_false_iff.2 h, Bool.false_and]
    · rw [h, bne_self_eq_false, Bool.and_false]
  have hrule : s.refControl x = (
      let u := (t.keepSelect s).when
        ((t.keepSelect s).refSel.isNone && (t.keepSelect s).on R.REF_CTL_hold != s.on R.REF_CTL_hold) State.freeSlew
      if t.on R.REF_CTL_manual || s.on R.REF_CTL_manual || t.rd R.REF_CTL_msel != s.rd R.REF_CTL_msel then
        u.noteSel (.select (t.on R.REF_CTL_manual) (t.rd R.REF_CTL_msel))
      else u) := by
    subst ht
    rfl
  rw [hrule, hstays, hman]
  rfl

end

section
variable {s : State} {m : Fin 20} {v : Word}

theorem exec_referenceEnable {r : Fin 8} (h : s.takes m (R.REF_CFG r) (force v (R.REF_CFG_en r) 1))
    (hoff : s.on (R.REF_CFG_en r) = false) : exec (.referenceEnable m r v) s = .next
      ((((s.landed m (R.REF_CFG r) (force v (R.REF_CFG_en r) 1)).noteSel (.enable r)).setQuality).okResp []) := by
  refine (s.does_on h.1.1 fun s => s.writeWord m (R.REF_CFG r) (force v (R.REF_CFG_en r) 1)).trans
    (congrArg _ ((writeWord_refCfg h).trans ?_))
  rw [hoff, refConfigured_enables (on_landed_refEn 1 h)]

theorem exec_referenceDisable {r : Fin 8} (h : s.takes m (R.REF_CFG r) (force v (R.REF_CFG_en r) 0))
    (hon : s.on (R.REF_CFG_en r) = true) : exec (.referenceDisable m r v) s = .next
      ((((s.landed m (R.REF_CFG r) (force v (R.REF_CFG_en r) 0)).noteSel (.disable r)).setQuality).okResp []) := by
  refine (s.does_on h.1.1 fun s => s.writeWord m (R.REF_CFG r) (force v (R.REF_CFG_en r) 0)).trans
    (congrArg _ ((writeWord_refCfg h).trans ?_))
  rw [hon, refConfigured_disables (on_landed_refEn 0 h)]

theorem exec_referenceLatchClear (h : s.takes m R.REF_CMD v) : exec (.referenceLatchClear m v) s
    = .next (((s.landed m R.REF_CMD v).refClear (v.toNat % 256)).okResp []) :=
  (s.does_on h.1.1 fun s => s.writeWord m R.REF_CMD v).trans (congrArg _ (writeWord_refCmd h))

theorem exec_manualSelect {L : State} (hL : L = s.landed m R.REF_CTL (force v R.REF_CTL_manual 1))
    (h : s.takes m R.REF_CTL (force v R.REF_CTL_manual 1))
    (hhold : s.refSel.isSome = true ∨ L.on R.REF_CTL_hold = s.on R.REF_CTL_hold) :
    exec (.manualSelect m v) s
      = .next (((L.keepSelect s).noteSel (.select true (L.rd R.REF_CTL_msel))).okResp []) := by
  refine (s.does_on h.1.1 fun s => s.writeWord m R.REF_CTL (force v R.REF_CTL_manual 1)).trans
    (congrArg _ ((writeWord_refCtl h).trans ?_))
  rw [refControl_manual (hL.trans (landed_eq_setWord locate_refCtl rfl)) (hL ▸ on_landed_manual h) hhold]

end

/-! ## The selector's windows (R245) -/

section
variable {s : State}

theorem selCheck_open (h : s.rf.events = [] ∨ s.rf.window = s.selWindow) : s.selCheck = s := if_pos h

theorem selCheck_over (hev : s.rf.events ≠ []) (hw : s.rf.window ≠ s.selWindow) : s.selCheck = s.closeWindow :=
  if_neg (not_or.2 ⟨hev, hw⟩)

/-- Only disqualifications are of the first class. -/
theorem order_first_iff {e : SelEvent} : e.order.1 = 0 ↔ ∃ r k, e = .disqualify r k := by
  cases e <;> simp [SelEvent.order]

theorem closeWindow_disqualifies (h : ∀ e ∈ selOrder s.rf.events, ∃ r k, e = SelEvent.disqualify r k) : s.closeWindow
    = (State.fold { s with rf := { s.rf with events := [] } } (selOrder s.rf.events) State.applySel).reselect := by
  have hfirst : (selOrder s.rf.events).filter (fun e => e.order.1 = 0) = selOrder s.rf.events :=
    List.filter_eq_self.2 fun e he => decide_eq_true (order_first_iff.2 (h e he))
  have hrest : (selOrder s.rf.events).filter (fun e => e.order.1 ≠ 0) = [] :=
    List.filter_eq_nil_iff.2 fun e he => by simp [order_first_iff.2 (h e he)]
  simp only [State.closeWindow, hfirst, hrest]
  rfl

theorem closeWindow_others (h : ∀ e ∈ selOrder s.rf.events, ¬∃ r k, e = SelEvent.disqualify r k) : s.closeWindow
    = State.fold (State.reselect { s with rf := { s.rf with events := [] } }) (selOrder s.rf.events) State.applySel := by
  have hfirst : (selOrder s.rf.events).filter (fun e => e.order.1 = 0) = [] :=
    List.filter_eq_nil_iff.2 fun e he => by simpa [order_first_iff] using h e he
  have hrest : (selOrder s.rf.events).filter (fun e => e.order.1 ≠ 0) = selOrder s.rf.events :=
    List.filter_eq_self.2 fun e he => by simpa [order_first_iff] using h e he
  simp only [State.closeWindow, hfirst, hrest]
  rfl

/-! ## The events of a window (R231, R234, R235, Table 10-3) -/

theorem selectable_iff {r : Nat} : s.selectable r = true ↔ s.refState r = 4 ∨ s.refState r = 5 := by
  simp [State.selectable]

theorem applySel_select {r : Nat} (h : s.selectable r = true) :
    s.applySel (.select true r) = ((s.wr R.REF_CTL_manual 1).wr R.REF_CTL_msel r).switchTo r := if_pos h

theorem applySel_select_refused {r : Nat} (h : ¬s.selectable r = true) :
    s.applySel (.select true r) = s.flag R.REF_STATUS_cmd_err := if_neg h

section
variable {r reason : Nat} (h : s.selectable r = true)
include h

/-- A hard-window fault or a drift latches its slot and is recorded. -/
theorem applySel_disqualify_latches (hr : reason = 2 ∨ reason = 3) : s.applySel (.disqualify r reason)
    = (let t := ((s.wr (R.REF_STAT_reason r) reason).inc (R.REF_DISQ r)).wr (R.REF_STAT_state r) 1
       t.health 9 r 1 reason t.curRound) := by
  simp only [State.applySel, h, hr, if_true, decide_true, State.when]

theorem applySel_disqualify_invalid (hr : ¬(reason = 2 ∨ reason = 3)) : s.applySel (.disqualify r reason)
    = ((s.wr (R.REF_STAT_reason r) reason).inc (R.REF_DISQ r)).wr (R.REF_STAT_state r) 2 := by
  simp only [State.applySel, h, hr, if_true, if_false, decide_false, State.when, Bool.false_eq_true]

end

/-! ## The selection judged (R236) -/

section
variable {r : Nat} (hsel : s.refSel = some r)
include hsel

theorem reselect_stays (h : s.selectable r = true) : s.reselect = s.setQuality := by
  simp only [State.reselect, hsel, h, if_true]

theorem reselect_falls (h : s.selectable r = false) : s.reselect = s.fallBack := by
  simp only [State.reselect, hsel, h, Bool.false_eq_true, if_false]

end

/-- With its selection lost, y holds the mean of the last second, unless a slew is on its way. -/
def State.heldMean (s : State) : State :=
  let t := if s.on R.REF_STATUS_slewing = true then s else s.holdY s.meanY
  { t with rf := { t.rf with held := s.meanY } }

theorem fallBack_eq : s.fallBack = s.heldMean.bestRef.elim s.heldMean.freeRun s.heldMean.switchTo := by
  unfold State.fallBack
  change (match s.heldMean.bestRef with
    | some r => s.heldMean.switchTo r
    | none => s.heldMean.freeRun) = _
  cases s.heldMean.bestRef <;> rfl

theorem fallBack_best {b : Nat} (h : s.heldMean.bestRef = some b) : s.fallBack = s.heldMean.switchTo b := by
  rw [fallBack_eq, h, Option.elim_some]

theorem fallBack_free (h : s.heldMean.bestRef = none) : s.fallBack = s.heldMean.freeRun := by
  rw [fallBack_eq, h, Option.elim_none]

end

/-- Settles O25: each command by what its register's write does, and each event of a window by its row of Table 10-3. -/
theorem referenceWrites : Obligations.ReferenceWrites := by
  unfold Obligations.ReferenceWrites
  refine ⟨fun s m v r => ⟨?_, ?_, ?_, ?_⟩, fun s e => ⟨?_, ?_, ⟨?_, ?_⟩, ?_, ?_, ?_, ?_, ?_, ?_, ?_, ?_, ?_⟩⟩
  · rintro _ _ rfl rfl h hoff
    exact exec_referenceEnable h hoff
  · rintro _ _ rfl rfl h hon
    exact exec_referenceDisable h hon
  · rintro _ rfl h
    exact exec_referenceLatchClear h
  · rintro _ _ rfl rfl h hhold
    exact exec_manualSelect rfl h hhold
  · intro hopen
    rw [State.noteSel, selCheck_open hopen]
  · intro hev hw
    rw [State.noteSel, selCheck_over hev hw]
  · exact closeWindow_disqualifies
  · exact closeWindow_others
  · intro r h
    exact if_pos h
  · intro r
    rfl
  · intro r h
    exact if_pos h
  · intro r h
    exact applySel_select (selectable_iff.2 h)
  · intro r h4 h5
    exact applySel_select_refused fun h => (selectable_iff.1 h).elim h4 h5
  · intro r reason h hr
    exact applySel_disqualify_latches h hr
  · intro r reason h h2 h3
    exact applySel_disqualify_invalid h (not_or.2 ⟨h2, h3⟩)
  · intro r hsel h
    exact reselect_stays hsel h
  · intro r hsel h
    rw [reselect_falls hsel h]
    exact ⟨fun _ => fallBack_best, fallBack_free⟩

end Sys2Proof.Machine
end

section
/-! The events of the references and of the clock that follows them (R226, R227, R230 to R234, R236 to R243). -/

namespace Sys2Proof.Machine

/-! ## What the registers of the references leave alone -/

section
variable {s : State}

theorem word_setQuality_ne {a : Nat} (h : a ≠ R.REF_STATUS) : s.setQuality.word a = s.word a := by
  have hwr : (s.wr R.REF_STATUS_tq s.quality).word a = s.word a := s.word_wr_ne _ h
  unfold State.setQuality
  dsimp only
  split
  · rfl
  · exact hwr

theorem rd_unlock_ne {f : FRef} (h : f.a ≠ R.REF_STATUS) : s.unlock.rd f = s.rd f := by
  rw [State.unlock, State.rd, word_setQuality_ne h, State.word_wr_ne _ _ h, State.rd]

theorem refSel_wr_ne {f : FRef} (v : Nat) (h : R.REF_STATUS ≠ f.a) : (s.wr f v).refSel = s.refSel := by
  rw [State.refSel, State.rd_wr_ne _ v (g := R.REF_STATUS_sel) h, State.refSel]

/-- A slot's status is not the selector's. -/
theorem refStatus_ne_refStat (r : Nat) : R.REF_STATUS ≠ R.REF_STAT r := by
  unfold R.REF_STATUS R.REF_STAT
  omega

/-- A slot's count of anomalies is not its status. -/
theorem refStat_ne_refAnom (r : Nat) : R.REF_STAT r ≠ R.REF_ANOM r := by
  unfold R.REF_STAT R.REF_ANOM
  omega

theorem refSlot_setRefSlot (r : Nat) (x : RefSlot) : (s.setRefSlot r x).refSlot r = x := smapGet_set_same ..

end

/-! ## Monitors (R230, R231, R234, Table 10-3) -/

section
variable {s : State} {r : Nat}

/-- What a normal event does to its slot, the loop apart. -/
def State.normalSeen (s : State) (r : Nat) : State :=
  (s.wr (R.REF_STAT_streak r) 0).when (s.refState r = 2 && !s.on R.REF_STATUS_xo_lost) (·.wr (R.REF_STAT_state r) 3)

theorem refSel_normalSeen : (s.normalSeen r).refSel = s.refSel := by
  have hstreak : (s.wr (R.REF_STAT_streak r) 0).refSel = s.refSel := refSel_wr_ne _ (refStatus_ne_refStat r)
  unfold State.normalSeen State.when
  split
  · exact (refSel_wr_ne _ (refStatus_ne_refStat r)).trans hstreak
  · exact hstreak

/-- Off the selected reference a normal event does not reach the loop. -/
theorem refNormal_unselected (err : Int) (h : s.refSel ≠ some r) : s.refNormal r err = s.normalSeen r := by
  refine if_neg fun hloop => h ?_
  obtain ⟨hsel, -⟩ := Bool.and_eq_true_iff.1 (Bool.and_eq_true_iff.1 hloop).1
  exact refSel_normalSeen.symm.trans (of_decide_eq_true hsel)

theorem refNormal_keeps (err : Int) (h : s.refSel ≠ some r) (hst : s.refState r ≠ 2) :
    s.refNormal r err = s.wr (R.REF_STAT_streak r) 0 := by
  simp only [refNormal_unselected err h, State.normalSeen, hst, decide_false, Bool.false_and, State.when,
    Bool.false_eq_true, if_false]

theorem refNormal_qualifies (err : Int) (h : s.refSel ≠ some r) (hst : s.refState r = 2)
    (hxo : s.on R.REF_STATUS_xo_lost = false) :
    s.refNormal r err = (s.wr (R.REF_STAT_streak r) 0).wr (R.REF_STAT_state r) 3 := by
  simp only [refNormal_unselected err h, State.normalSeen, hst, hxo, decide_true, Bool.not_false, Bool.and_self, State.when,
    if_true]

/-- Anomalies in a row, this one among them, as far as they are counted. -/
def State.streak (s : State) (r : Nat) : Nat := min 3 (s.rd (R.REF_STAT_streak r) + 1)

/-- An anomaly has been counted, and the time without one begins anew. -/
def State.anomalyCounted (s : State) (r : Nat) : State :=
  let t := (s.inc (R.REF_ANOM r)).wr (R.REF_STAT_streak r) (s.streak r)
  t.setRefSlot r { t.refSlot r with clean := 0 }

theorem refState_anomalyCounted : (s.anomalyCounted r).refState r = s.refState r :=
  calc (s.anomalyCounted r).refState r
    _ = ((s.inc (R.REF_ANOM r)).wr (R.REF_STAT_streak r) (s.streak r)).rd (R.REF_STAT_state r) := State.rd_of_csr rfl _
    _ = (s.inc (R.REF_ANOM r)).rd (R.REF_STAT_state r) :=
      State.rd_wr_disjoint _ _ (by decide : 8 + 2 ≤ 32) rfl (.inl (by decide : 0 + 3 ≤ 8))
    _ = s.rd (R.REF_STAT_state r) := by
      rw [State.rd, State.inc, State.word_incBy_ne s 1 (b := (R.REF_STAT_state r).a) (refStat_ne_refAnom r), State.rd]

theorem qbad_anomalyCounted : ((s.anomalyCounted r).refSlot r).qbad = (s.refSlot r).qbad := by
  rw [State.anomalyCounted, refSlot_setRefSlot]
  rfl

theorem refAnomaly_eq : s.refAnomaly r = (let t := s.anomalyCounted r
    if s.refState r = 3 then t.wr (R.REF_STAT_state r) 2
    else if s.streak r = 3 then t.disqualify r (if 3 ≤ (s.refSlot r).qbad then 5 else 1) else t) := by
  rw [← refState_anomalyCounted, ← qbad_anomalyCounted]
  rfl

theorem refAnomaly_qualifying (h : s.refState r = 3) : s.refAnomaly r = (s.anomalyCounted r).wr (R.REF_STAT_state r) 2 :=
  refAnomaly_eq.trans (if_pos h)

theorem refAnomaly_counts (h : s.refState r ≠ 3) (hk : s.streak r < 3) : s.refAnomaly r = s.anomalyCounted r :=
  refAnomaly_eq.trans ((if_neg h).trans (if_neg hk.ne))

theorem refAnomaly_third (h : s.refState r ≠ 3) (hk : s.streak r = 3) : s.refAnomaly r
    = (s.anomalyCounted r).disqualify r (if 3 ≤ (s.refSlot r).qbad then 5 else 1) :=
  refAnomaly_eq.trans ((if_neg h).trans (if_pos hk))

end

/-! ## Edges (R230, R254) -/

section
variable {s : State} {r interval fine : Nat}

/-- The slots from 4 on are of types N and L. -/
theorem refType_of_four_le (h : 4 ≤ r) : refType r ≠ .f ∧ refType r ≠ .p := by
  have h2 : ¬r < 2 := by omega
  have h4 : ¬r < 4 := by omega
  unfold refType
  rw [if_neg h2, if_neg h4]
  split <;> decide

/-- Slot r has seen an edge. -/
def State.edgeSeen (s : State) (r : Nat) : State := s.setRefSlot r { s.refSlot r with seen := true }

/-- The nominal period of a type F slot, in 20 ps steps. -/
def State.refPeriod (s : State) (r : Nat) : Nat := nominal20 (s.rd (R.REF_CFG_fnom r))

theorem edgeF_eq : s.edgeF r interval =
    if (s.refSlot r).seen && decide (4 * interval < 3 * s.refPeriod r ∨ 5 * s.refPeriod r < 4 * interval) then
      (s.edgeSeen r).refAnomaly r
    else (s.edgeSeen r).refNormal r (if (s.refSlot r).seen then ((interval : Int) - s.refPeriod r) * 20 else 0) := rfl

theorem edgeF_first (h : (s.refSlot r).seen = false) : s.edgeF r interval = (s.edgeSeen r).refNormal r 0 := by
  simp only [edgeF_eq, h, Bool.false_and, Bool.false_eq_true, if_false]

theorem edgeF_normal (h : (s.refSlot r).seen = true) (hlo : 3 * s.refPeriod r ≤ 4 * interval)
    (hhi : 4 * interval ≤ 5 * s.refPeriod r) :
    s.edgeF r interval = (s.edgeSeen r).refNormal r (((interval : Int) - s.refPeriod r) * 20) := by
  simp only [edgeF_eq, h, hlo.not_gt, hhi.not_gt, or_self, decide_false, Bool.and_false, Bool.false_eq_true, if_false,
    if_true]

theorem edgeF_anomaly (h : (s.refSlot r).seen = true)
    (hout : 4 * interval < 3 * s.refPeriod r ∨ 5 * s.refPeriod r < 4 * interval) :
    s.edgeF r interval = (s.edgeSeen r).refAnomaly r := by
  simp only [edgeF_eq, h, hout, decide_true, Bool.and_self, if_true]

/-- How far an edge of a type P slot may stray, in 20 ps steps. -/
def State.edgeTol (s : State) (r : Nat) : Nat := s.rd (R.REF_TOL_tol_ns r) * 50

/-- The time since the last normal edge of a type P slot, in 20 ps steps. -/
def State.sinceEdge (s : State) (r interval : Nat) : Nat := (s.refSlot r).since + interval

theorem edgeP_normal
    (h : (s.refSlot r).seen = true → 50000000000 ≤ s.sinceEdge r interval + s.edgeTol r
      ∧ s.sinceEdge r interval ≤ 50000000000 + s.edgeTol r) :
    s.edgeP r interval fine = (let ps : Nat := s.tb.t * 1000 / nsUnit % 1000000000000 + 20 * fine
      (s.setRefSlot r { s.refSlot r with seen := true, since := 0 }).timedEvent r
        (if 500000000000 < ps then (ps : Int) - 1000000000000 else ps)) := by
  refine if_neg fun hout => ?_
  obtain ⟨hseen, hfar⟩ := Bool.and_eq_true_iff.1 hout
  obtain ⟨hlo, hhi⟩ := h hseen
  exact (of_decide_eq_true hfar).elim hlo.not_gt hhi.not_gt

theorem edgeP_anomaly (h : (s.refSlot r).seen = true)
    (hout : s.sinceEdge r interval + s.edgeTol r < 50000000000 ∨ 50000000000 + s.edgeTol r < s.sinceEdge r interval) :
    s.edgeP r interval fine = (s.setRefSlot r { s.refSlot r with
      since := if s.refState r = 2 then 0 else s.sinceEdge r interval }).refAnomaly r :=
  if_pos (Bool.and_eq_true_iff.2 ⟨h, decide_eq_true hout⟩)

theorem refEdge_f (hst : s.refState r ≠ 0) (hf : refType r = .f) : s.refEdge r interval fine = s.edgeF r interval := by
  have hr : ¬4 ≤ r := fun hr => (refType_of_four_le hr).1 hf
  simp only [State.refEdge, hst, hf, hr, or_self, if_false, if_true]

section
variable (hst : s.refState r ≠ 0) (hp : refType r = .p)
include hst hp

theorem refEdge_p : s.refEdge r interval fine
    = (s.edgeP r interval fine).tb.step.elim (s.edgeP r interval fine) fun st =>
      if st.mode = 3 ∧ s.refSel = some r then (s.edgeP r interval fine).stepNow st else s.edgeP r interval fine := by
  have hr : ¬4 ≤ r := fun hr => (refType_of_four_le hr).2 hp
  simp only [State.refEdge, hst, hp, hr, or_self, if_false, reduceCtorEq]
  cases (s.edgeP r interval fine).tb.step <;> rfl

end

/-- An edge of a type P slot, and the step of mode 3 that waits for it on the selected slot. -/
theorem exec_referenceEdge_p {r : Fin 8} {t : State} (hoff : s.off = false) (hst : s.refState r ≠ 0) (hp : refType r = .p)
    (he : s.edgeP r interval fine = t) :
    (t.tb.step = none → exec (.referenceEdge r interval fine) s = .next t)
    ∧ ∀ st, t.tb.step = some st →
      (st.mode = 3 → s.refSel = some r.val → exec (.referenceEdge r interval fine) s = .next (t.stepNow st))
      ∧ ((st.mode ≠ 3 ∨ s.refSel ≠ some r.val) → exec (.referenceEdge r interval fine) s = .next t) := by
  have hexec := s.does_on hoff fun s => s.refEdge r interval fine
  subst he
  rw [refEdge_p hst hp] at hexec
  refine ⟨fun hnone => ?_, fun st hsome => ⟨fun hm hsel => ?_, fun hno => ?_⟩⟩
  · rw [hnone] at hexec
    exact hexec
  · rw [hsome, Option.elim_some, if_pos ⟨hm, hsel⟩] at hexec
    exact hexec
  · rw [hsome, Option.elim_some, if_neg fun ⟨hm, hsel⟩ => hno.elim (· hm) (· hsel)] at hexec
    exact hexec

end

/-! ## The selector's other events (R233, R234, R237) -/

section
variable {s : State} {r : Nat}

theorem refTimeout_anomaly (hst : s.refState r ≠ 0) : s.refTimeout r = s.refAnomaly r := if_neg hst

theorem refQualified_waits (hst : s.refState r = 3) : s.refQualified r = s.noteSel (.qualify r) := if_pos hst

/-- The distance of the selected reference from y, after a gate that measured an offset in units of 10^-12. -/
def State.gateFreq (s : State) (off : Int) : State := { s with rf := { s.rf with freq := off * 1000000 - s.yNow } }

/-- What a gate does to the lock of the selected reference (R227). -/
def State.gateLock (s : State) (off : Int) : State :=
  if s.on R.REF_STATUS_locked = true ∧ 1000000000 ≤ (s.gateFreq off).rf.freq.natAbs then (s.gateFreq off).unlock
  else s.gateFreq off

theorem window_gateLock (off : Int) : (s.gateLock off).rd R.REF_XOWIN_win_ppm = s.rd R.REF_XOWIN_win_ppm := by
  unfold State.gateLock
  split
  · exact rd_unlock_ne (by decide)
  · rfl

section
variable {off : Int} (hst : s.refState r ≠ 0)
include hst

theorem refGate_beyond (hsel : s.refSel ≠ some r) (hout : s.rd R.REF_XOWIN_win_ppm * 1000000 < off.natAbs) :
    s.refGate r off = s.disqualify r 2 := by
  simp only [State.refGate, hst, hsel, hout, decide_false, State.when, Bool.false_eq_true, if_false, if_true]

theorem refGate_within (hsel : s.refSel ≠ some r) (hin : off.natAbs ≤ s.rd R.REF_XOWIN_win_ppm * 1000000) :
    s.refGate r off = s := by
  simp only [State.refGate, hst, hsel, hin.not_gt, decide_false, State.when, Bool.false_eq_true, if_false]

theorem refGate_selected (hsel : s.refSel = some r) (hin : off.natAbs ≤ s.rd R.REF_XOWIN_win_ppm * 1000000) :
    s.refGate r off = s.gateLock off := by
  have hlock : (s.gateFreq off).when ((s.gateFreq off).on R.REF_STATUS_locked
      && decide (1000000000 ≤ (s.gateFreq off).rf.freq.natAbs)) State.unlock = s.gateLock off := by
    unfold State.when State.gateLock
    refine if_congr ?_ rfl rfl
    rw [Bool.and_eq_true, decide_eq_true_eq]
    exact Iff.rfl
  have hgate : s.refGate r off = if (s.gateLock off).rd R.REF_XOWIN_win_ppm * 1000000 < off.natAbs then
      (s.gateLock off).disqualify r 2 else s.gateLock off := by
    rw [← hlock]
    simp only [State.refGate, hst, hsel, if_false, decide_true]
    rfl
  rw [hgate, window_gateLock, if_neg hin.not_gt]

end

theorem refRevert_switches {q : Nat} (hsel : s.refSel = some q) (hrev : s.on R.REF_CTL_revert = true)
    (hst : s.refState r = 4) (hrank : s.rd (R.REF_CFG_pri r) < s.rd (R.REF_CFG_pri q)
      ∨ (s.on R.REF_CTL_manual = true ∧ s.rd R.REF_CTL_msel = r)) : s.refRevert r = s.switchTo r := by
  simp only [State.refRevert, hsel, hrev, hst, decide_true, Bool.true_and]
  exact if_pos (by simpa using hrank)

end

/-! ## The loop: lock and slew (R227, R238, R239) -/

section
variable {s : State}

theorem dpllLock_locks {r : Nat} (hsel : s.refSel = some r) (hslew : s.on R.REF_STATUS_slewing = false)
    (hdisc : s.on R.TB_STATUS_disc = false) (hxo : s.on R.REF_STATUS_xo_lost = false) (hfreq : s.rf.freq.natAbs < 1000000000)
    (hphase : refType r = .f ∨ s.rf.phase.natAbs < s.rd R.REF_SLEW_lock_ns * 1000) :
    s.dpllLock = (s.wr R.REF_STATUS_locked 1).setQuality := by
  have hmay : s.mayLock r = true := by simpa [State.mayLock, hfreq] using hphase
  simp only [State.dpllLock, hsel, hslew, hdisc, hxo, hmay, Bool.not_true, Bool.or_self, Bool.false_eq_true, if_false]

theorem slewDone_holds (hslew : s.on R.REF_STATUS_slewing = true) (hnear : (s.rf.goal - s.yNow).natAbs < 10000000) :
    s.slewDone = (s.holdY (if s.refSel.isSome = true then s.yNow else s.rf.goal)).setQuality := by
  simp only [State.slewDone, hslew, hnear, decide_true, Bool.and_self, if_true]

end

/-! ## XO_IN (R240) -/

section
variable {s : State}

/-- XO_IN present or not. -/
def State.setXo (s : State) (b : Bool) : State := { s with mg := { s.mg with xo := b } }

variable (hoff : s.off = false) (hwait : s.on R.MG_STATUS_xo_wait = false)
include hoff hwait

theorem xoGone_serves : s.xoGone = (s.setXo false).xoLost.serdesLost := by
  have hoff' : (s.setXo false).off = false := hoff
  have hwait' : (s.setXo false).on R.MG_STATUS_xo_wait = false := hwait
  exact if_neg (not_or.2 ⟨ne_true_of_eq_false hoff', ne_true_of_eq_false hwait'⟩)

theorem xoBack_serves : s.xoBack = (s.setXo true).xoReturn := by
  have hoff' : (s.setXo true).off = false := hoff
  have hwait' : (s.setXo true).on R.MG_STATUS_xo_wait = false := hwait
  exact (if_neg (ne_true_of_eq_false hwait')).trans (if_neg (ne_true_of_eq_false hoff'))

end

section
variable {s : State}

/-- The loss of XO_IN with references in service: they are INVALID, y runs free, and the device is in fault. -/
theorem xoLost_enters (h : s.on R.REF_STATUS_xo_lost = false) : s.xoLost = (
    let t := s.wr R.REF_STATUS_xo_lost 1
    let t : State := { t with rf := { t.rf with held := t.yNow } }
    let t := t.fold (List.range 8) (fun t r => if t.refState r = 0 then t else t.wr (R.REF_STAT_state r) 2)
    ((t.freeRun).health 8 0 3 0 t.curRound).fatalFault) := if_neg (ne_true_of_eq_false h)

theorem xoReturn_frees (h : s.on R.REF_STATUS_xo_lost = true) :
    s.xoReturn = (s.wr R.REF_STATUS_xo_lost 0).freeRun := if_pos h

end

/-! ## Cross-comparison (R241, R243) -/

section
variable {s : State} {short long : List Int}

/-- The participants that disagree with another. -/
def State.disputed (s : State) (short long : List Int) : List Nat :=
  s.participants.filter (fun i => s.participants.any (fun j => i != j && s.disagrees short long i j))

section
variable {t : State} (ht : s.takeMeans short long = t)
include ht

theorem crossCompare_eq : s.crossCompare short long = (outlierOf t.participants (t.disagrees short long)).elim
    (if (t.disputed short long).isEmpty then
      t.calmSecond (t.participants.foldl (fun a r => max a (t.cmpWindow r)) (t.rd R.REF_XCMP_win_s))
    else (tieBreak (t.disputed short long) (t.breakers t.participants) (t.disagrees short long)).elim
      (t.raiseDisagree (t.disputed short long)) t.markOutlier) t.markOutlier := by
  unfold State.crossCompare State.disputed
  rw [ht]
  dsimp only
  cases outlierOf t.participants (t.disagrees short long) with
  | some r => rfl
  | none =>
    dsimp only [Option.elim_none]
    split
    · rfl
    · cases tieBreak _ _ _ <;> rfl

theorem crossCompare_outlier {r : Nat} (ho : outlierOf t.participants (t.disagrees short long) = some r) :
    s.crossCompare short long = t.markOutlier r := by
  rw [crossCompare_eq ht, ho, Option.elim_some]

variable (ho : outlierOf t.participants (t.disagrees short long) = none)
include ho

theorem crossCompare_calm (hbad : t.disputed short long = []) : s.crossCompare short long
    = t.calmSecond (t.participants.foldl (fun a r => max a (t.cmpWindow r)) (t.rd R.REF_XCMP_win_s)) := by
  rw [crossCompare_eq ht, ho, Option.elim_none, if_pos (List.isEmpty_iff.2 hbad)]

variable (hbad : t.disputed short long ≠ [])
include hbad

theorem crossCompare_tieBreak {r : Nat}
    (htie : tieBreak (t.disputed short long) (t.breakers t.participants) (t.disagrees short long) = some r) :
    s.crossCompare short long = t.markOutlier r := by
  rw [crossCompare_eq ht, ho, Option.elim_none, if_neg (mt List.isEmpty_iff.1 hbad), htie, Option.elim_some]

theorem crossCompare_disagree
    (htie : tieBreak (t.disputed short long) (t.breakers t.participants) (t.disagrees short long) = none) :
    s.crossCompare short long = t.raiseDisagree (t.disputed short long) := by
  rw [crossCompare_eq ht, ho, Option.elim_none, if_neg (mt List.isEmpty_iff.1 hbad), htie, Option.elim_none]

end

end

/-- Settles O24: each event by its monitor's or the loop's rule, while the core is on. -/
theorem referencesMove : Obligations.ReferencesMove := by
  unfold Obligations.ReferencesMove
  refine ⟨fun s r hoff hst => ⟨?_, ?_, ?_, ?_, ?_, ?_⟩, fun s hoff => ⟨?_, ?_, ?_, ?_, ?_⟩,
    fun s r err => ⟨fun hsel => ⟨?_, ?_⟩, ⟨?_, ?_, ?_⟩⟩⟩
  · intro interval fine hf
    have hexec := s.does_on hoff fun s => s.refEdge r interval fine
    rw [refEdge_f hst hf] at hexec
    refine ⟨fun h => ?_, fun h hlo hhi => ?_, fun h hout => ?_⟩
    · exact hexec.trans (congrArg _ (edgeF_first h))
    · exact hexec.trans (congrArg _ (edgeF_normal h hlo hhi))
    · exact hexec.trans (congrArg _ (edgeF_anomaly h hout))
  · intro interval fine hp
    exact ⟨fun h => exec_referenceEdge_p hoff hst hp (edgeP_normal h),
      fun h hout => exec_referenceEdge_p hoff hst hp (edgeP_anomaly h hout)⟩
  · exact (s.does_on hoff fun s => s.refTimeout r).trans (congrArg _ (refTimeout_anomaly hst))
  · intro h
    exact (s.does_on hoff fun s => s.refQualified r).trans (congrArg _ (refQualified_waits h))
  · intro off
    have hexec := s.does_on hoff fun s => s.refGate r off
    refine ⟨fun hsel => ⟨fun hout => ?_, fun hin => ?_⟩, fun hsel hin => ?_⟩
    · exact hexec.trans (congrArg _ (refGate_beyond hst hsel hout))
    · exact hexec.trans (congrArg _ (refGate_within hst hsel hin))
    · exact hexec.trans (congrArg _ (refGate_selected hst hsel hin))
  · intro q hsel hrev hq hrank
    exact (s.does_on hoff fun s => s.refRevert r).trans (congrArg _ (refRevert_switches hsel hrev hq hrank))
  · intro r hsel hslew hdisc hxo hfreq hphase
    exact (s.does_on hoff State.dpllLock).trans (congrArg _ (dpllLock_locks hsel hslew hdisc hxo hfreq hphase))
  · intro hslew hnear
    exact (s.does_on hoff State.slewDone).trans (congrArg _ (slewDone_holds hslew hnear))
  · intro hwait hxo
    have hlost : (s.setXo false).on R.REF_STATUS_xo_lost = false := hxo
    exact congrArg Host.Outcome.next ((xoGone_serves hoff hwait).trans (congrArg State.serdesLost (xoLost_enters hlost)))
  · intro hwait hxo
    have hlost : (s.setXo true).on R.REF_STATUS_xo_lost = true := hxo
    exact congrArg Host.Outcome.next ((xoBack_serves hoff hwait).trans (xoReturn_frees hlost))
  · intro short long
    have hexec := s.does_on hoff fun s => s.crossCompare short long
    generalize ht : s.takeMeans short long = t
    refine ⟨fun r ho => ?_, fun ho => ⟨fun hbad => ?_, fun hbad => ⟨fun r htie => ?_, fun htie => ?_⟩⟩⟩
    · exact hexec.trans (congrArg _ (crossCompare_outlier ht ho))
    · exact hexec.trans (congrArg _ (crossCompare_calm ht ho hbad))
    · exact hexec.trans (congrArg _ (crossCompare_tieBreak ht ho hbad htie))
    · exact hexec.trans (congrArg _ (crossCompare_disagree ht ho hbad htie))
  · exact refNormal_keeps err hsel
  · exact refNormal_qualifies err hsel
  · exact refAnomaly_qualifying
  · exact refAnomaly_counts
  · exact refAnomaly_third

end Sys2Proof.Machine
end

section
/-! The canonical form of the three memories (R278, R295, R310, R360): what every function of the state does to it. A
function that writes none of the three is said to leave them alone (`_mems`), and one that may write one keeps their form
(`_memsOk`), in the order of the model's files. -/

namespace Sys2Proof.Machine

/-! ## The three memories -/

/-- The three memories whose canonical form `State.memOk` states: HBM, the mailbox and the configuration store. -/
def State.mems (s : State) : Memory × Memory × Memory := (s.mem, s.xb.mbx, s.cf.store)

/-- An update of the state that leaves the three memories alone. -/
theorem mk_mems {t : State} {x0 x1 x2 x3 x4 x5 x7 x8 x9 x10 x11 x12 x13 x14 x15 x16 x17 x18 x19 x20 x21
    x22 x23 x24 x25 x26 x27 x28 x29 x30 x31} (hx : x23.mbx = t.xb.mbx) (hc : x29.store = t.cf.store) :
    (State.mk x0 x1 x2 x3 x4 x5 t.mem x7 x8 x9 x10 x11 x12 x13 x14 x15 x16 x17 x18 x19 x20 x21
    x22 x23 x24 x25 x26 x27 x28 x29 x30 x31).mems = t.mems := by
  simp only [State.mems, hx, hc]

theorem ite_mems (c : Prop) [Decidable c] (a b : State) : (if c then a else b).mems = if c then a.mems else b.mems :=
  apply_ite _ _ _ _

theorem bif_mems (c : Bool) (a b : State) : (bif c then a else b).mems = if c = true then a.mems else b.mems := by
  cases c <;> rfl

theorem when_mems {s : State} {c : Bool} {f : State → State} (hf : (f s).mems = s.mems) : (s.when c f).mems = s.mems := by
  unfold State.when
  split
  · exact hf
  · rfl

theorem foldl_mems {α : Type} {f : State → α → State} (hf : ∀ t x, (f t x).mems = t.mems) (l : List α) :
    ∀ s : State, (l.foldl f s).mems = s.mems := by
  induction l with
  | nil => exact fun s => rfl
  | cons x r ih => exact fun s => (ih _).trans (hf s x)

theorem fold_mems {α : Type} {s : State} {f : State → α → State} (hf : ∀ t x, (f t x).mems = t.mems) (l : List α) :
    (s.fold l f).mems = s.mems := foldl_mems hf l s

/-- The canonical form of three memories. -/
def MemsOk (x : Memory × Memory × Memory) : Prop := x.1.wf = true ∧ Memory.wf x.2.1 = true ∧ Memory.wf x.2.2 = true

theorem MemsOk.congr {s t : State} (h : MemsOk s.mems) (e : t.mems = s.mems) : MemsOk t.mems := e ▸ h

theorem memsOk_ite (c : Prop) [Decidable c] (x y : Memory × Memory × Memory) :
    MemsOk (if c then x else y) ↔ (c → MemsOk x) ∧ (¬c → MemsOk y) := by
  by_cases h : c <;> simp [h]

theorem when_memsOk {s : State} (h : MemsOk s.mems) {c : Bool} {f : State → State} (hf : MemsOk s.mems → MemsOk (f s).mems) :
    MemsOk (s.when c f).mems := by
  unfold State.when
  split
  · exact hf h
  · exact h

theorem foldl_memsOk {α : Type} {f : State → α → State} (hf : ∀ t x, MemsOk t.mems → MemsOk (f t x).mems) (l : List α) :
    ∀ {s : State}, MemsOk s.mems → MemsOk (l.foldl f s).mems := by
  induction l with
  | nil => exact fun h => h
  | cons x r ih => exact fun h => ih (hf _ x h)

theorem fold_memsOk {α : Type} {s : State} (h : MemsOk s.mems) {f : State → α → State}
    (hf : ∀ t x, MemsOk t.mems → MemsOk (f t x).mems) (l : List α) : MemsOk (s.fold l f).mems := foldl_memsOk hf l h

theorem ite_memsOk {c : Prop} [Decidable c] {a b : State} (ha : MemsOk a.mems) (hb : MemsOk b.mems) :
    MemsOk (if c then a else b).mems := by
  split
  · exact ha
  · exact hb

theorem ite_fst_memsOk {α : Type} {c : Prop} [Decidable c] {a b : State × α} (ha : MemsOk a.1.mems) (hb : MemsOk b.1.mems) :
    MemsOk (if c then a else b).1.mems := by
  split
  · exact ha
  · exact hb

/-- A function of the state keeps the three memories in their canonical form. A definition by cases on a 64 bit number is
    unfolded under this predicate: the kernel then compares two functions and need not evaluate the number. -/
def KeepsMemsOk (f : State → State) : Prop := ∀ s : State, MemsOk s.mems → MemsOk (f s).mems

theorem KeepsMemsOk.intro {f : State → State} (h : ∀ s : State, MemsOk s.mems → MemsOk (f s).mems) : KeepsMemsOk f := h

/-- `KeepsMemsOk` for a function that takes two numbers besides. -/
def KeepsMemsOk₂ (f : State → Nat → Nat → State) : Prop := ∀ (s : State) (a b : Nat), MemsOk s.mems → MemsOk (f s a b).mems

theorem KeepsMemsOk₂.intro {f : State → Nat → Nat → State} (h : ∀ (s : State) (a b : Nat), MemsOk s.mems → MemsOk (f s a
    b).mems) :
    KeepsMemsOk₂ f := h

/-! ## The memories under the functions of the shared operations -/

theorem setWord_mems (s : State) (a : Nat) (v : Word) : (s.setWord a v).mems = s.mems := by
  simp only [State.setWord, mk_mems]

theorem wr_mems (s : State) (f : FRef) (v : Nat) : (s.wr f v).mems = s.mems := by
  simp only [State.wr, setWord_mems]

theorem wq_mems (s : State) (a v : Nat) : (s.wq a v).mems = s.mems := by
  simp only [State.wq, setWord_mems]

theorem incBy_mems (s : State) (a n : Nat) : (s.incBy a n).mems = s.mems := by
  simp only [State.incBy, setWord_mems]

theorem inc_mems (s : State) (a : Nat) : (s.inc a).mems = s.mems := by
  simp only [State.inc, incBy_mems]

theorem emit_mems (s : State) (e : Emit) : (s.emit e).mems = s.mems := by
  simp only [State.emit, mk_mems]

theorem fire_mems (s : State) (e : Nat) : (s.fire e).mems = s.mems := by
  simp only [State.fire, mk_mems]

theorem msix_mems (s : State) (v : Nat) : (s.msix v).mems = s.mems := by
  simp only [State.msix, emit_mems, inc_mems]

theorem irq_mems (s : State) (src : Nat) : (s.irq src).mems = s.mems := by
  simp only [State.irq, msix_mems, mk_mems, ite_mems, ite_self]

theorem smbAlert_mems (s : State) : s.smbAlert.mems = s.mems := by
  simp only [State.smbAlert, emit_mems, mk_mems]

theorem flag_mems (s : State) (f : FRef) : (s.flag f).mems = s.mems := by
  simp only [State.flag, irq_mems, smbAlert_mems, when_mems, wr_mems, ite_mems, ite_self]

theorem setByte_memsOk {s : State} (h : MemsOk s.mems) (a : Nat) (v : Byte) : MemsOk (s.setByte a v).mems :=
  ⟨Memory.wf_set h.1 a v, h.2⟩

theorem setBytes_memsOk {s : State} (h : MemsOk s.mems) (a : Nat) (bs : Bytes) : MemsOk (s.setBytes a bs).mems :=
  ⟨Memory.wf_put bs a h.1, h.2⟩

theorem tick_mems (s : State) : s.tick.mems = s.mems := by
  simp only [State.tick, mk_mems]

theorem health_mems (s : State) (src unit sev detail round : Nat) : (s.health src unit sev detail round).mems = s.mems := by
  simp only [State.health, mk_mems]

theorem setHstate_mems (s : State) (h : Nat) : (s.setHstate h).mems = s.mems := by
  simp only [State.setHstate, fire_mems, smbAlert_mems, wr_mems, mk_mems, ite_mems, ite_self]

/-! ## The memories under the functions of rounds and slabs -/

theorem bindChange_mems (s : State) (n : Nat) (c : Change) : (s.bindChange n c).mems = s.mems := by
  simp only [State.bindChange, mk_mems]

theorem setFlagBit_memsOk {s : State} (h : MemsOk s.mems) (base a j g : Nat) (b : Bool) :
    MemsOk (s.setFlagBit base a j g b).mems := by
  simp +contextual only [State.setFlagBit, setByte_memsOk, h]

theorem countRerun_mems (s : State) (n : Nat) : (s.countRerun n).mems = s.mems := by
  simp only [State.countRerun, flag_mems, when_mems, mk_mems]

theorem startWork_mems (s : State) (n : Nat) : (s.startWork n).mems = s.mems := by
  unfold State.startWork
  dsimp only
  split <;> simp only [mk_mems, ite_mems, ite_self]

/-! ## The memories under the functions of the sending side of the cell layer -/

theorem setUlp_mems (s : State) (p : Nat) (x : UlPort) : (s.setUlp p x).mems = s.mems := by
  simp only [State.setUlp, mk_mems]

theorem sendCell_mems (s : State) (p kind : Nat) (body : Bytes) : (s.sendCell p kind body).mems = s.mems := by
  simp only [State.sendCell, emit_mems, setUlp_mems]

theorem sendUncounted_mems (s : State) (p lane kind : Nat) (body : Bytes) :
    (s.sendUncounted p lane kind body).mems = s.mems := by
  simp only [State.sendUncounted, emit_mems]

theorem idleFill_mems (s : State) (p : Nat) : (s.idleFill p).mems = s.mems := by
  simp only [State.idleFill, emit_mems, setUlp_mems, tick_mems]

theorem sendPacket_mems (s : State) (p : Nat) (bs : Bytes) : (s.sendPacket p bs).mems = s.mems := by
  simp only [State.sendPacket, fold_mems, idleFill_mems, sendCell_mems, implies_true]

theorem castSend_mems (s : State) (msg : Nat) (body : Bytes) : (s.castSend msg body).mems = s.mems := by
  simp only [State.castSend, sendPacket_mems, mk_mems, ite_mems, ite_self]

theorem pinToggle_mems (s : State) : s.pinToggle.mems = s.mems := by
  simp only [State.pinToggle, emit_mems, mk_mems]

theorem sendLease_mems (s : State) (resign handover : Bool) (round : Nat) :
    (s.sendLease resign handover round).mems = s.mems := by
  simp only [State.sendLease, castSend_mems, mk_mems]

theorem outputDone_mems (s : State) (g i area : Nat) : (s.outputDone g i area).mems = s.mems := by
  simp only [State.outputDone, wr_mems, mk_mems]

theorem noteLost_mems (s : State) (l : List Inst) : (s.noteLost l).mems = s.mems := by
  simp only [State.noteLost, incBy_mems]

theorem truncateArea_mems (s : State) (g area : Nat) : (s.truncateArea g area).mems = s.mems := by
  simp only [State.truncateArea, flag_mems, fold_mems, incBy_mems, noteLost_mems, outputDone_mems, mk_mems, ite_mems, ite_self,
      implies_true]

theorem auSetQ_mems (s : State) (m : Nat) (q : List Nat) : (s.auSetQ m q).mems = s.mems := by
  simp only [State.auSetQ, mk_mems]

theorem auSetG_mems (s : State) (m g : Nat) : (s.auSetG m g).mems = s.mems := by
  simp only [State.auSetG, mk_mems]

theorem auFlush_mems (s : State) (m : Nat) (b : Bool) : (s.auFlush m b).mems = s.mems := by
  simp only [State.auFlush, mk_mems]

theorem auQuiet_mems (s : State) (m : Nat) : (s.auQuiet m).mems = s.mems := by
  simp only [State.auQuiet, auFlush_mems, auSetG_mems, auSetQ_mems, wr_mems]

theorem auCheck_mems (s : State) : s.auCheck.mems = s.mems := by
  simp only [State.auCheck, auQuiet_mems, fold_mems, ite_mems, ite_self, implies_true]

theorem resignNow_mems (s : State) (handover : Bool) (next : Nat) : (s.resignNow handover next).mems = s.mems := by
  simp only [State.resignNow, auCheck_mems, castSend_mems, pinToggle_mems, sendLease_mems, wr_mems]

theorem resignFault_mems (s : State) : s.resignFault.mems = s.mems := by
  simp only [State.resignFault, inc_mems, resignNow_mems, wr_mems, mk_mems, ite_mems, ite_self]

theorem forget_mems (s : State) (l : List Inst) : (s.forget l).mems = s.mems := by
  unfold State.forget
  refine (fold_mems (fun t _ => ?_) l).trans (mk_mems rfl rfl)
  split
  · exact outputDone_mems ..
  · rfl

theorem toUnsync_mems (s : State) : s.toUnsync.mems = s.mems := by
  simp only [State.toUnsync, forget_mems, noteLost_mems, wr_mems, mk_mems, ite_mems, ite_self]

theorem shadowReuse_mems (s : State) (n : Nat) (staged : Nat → Bool) : (s.shadowReuse n staged).mems = s.mems := by
  simp only [State.shadowReuse, forget_mems, noteLost_mems, ite_mems, ite_self]

theorem impair_mems (s : State) (round : Nat) : (s.impair round).mems = s.mems := by
  simp only [State.impair, resignFault_mems, setHstate_mems, toUnsync_mems, mk_mems, ite_mems, ite_self]

theorem degrade_mems (s : State) : s.degrade.mems = s.mems := by
  simp only [State.degrade, setHstate_mems, ite_mems, ite_self]

/-! ## The memories under the functions of accumulation -/

theorem recPut_memsOk {s : State} (h : MemsOk s.mems) (g area c a b : Nat) (v : List Int) (w : Nat) :
    MemsOk (s.recPut g area c a b v w).mems := by
  simp +contextual only [State.recPut, setBytes_memsOk, h]

theorem setGrp_mems (s : State) (g : Nat) (x : Grp) : (s.setGrp g x).mems = s.mems := by
  simp only [State.setGrp, mk_mems]

theorem setInt_mems (s : State) (g : Nat) (x : Integ) : (s.setInt g x).mems = s.mems := by
  simp only [State.setInt, setGrp_mems]

theorem noteMark_mems (s : State) (g oldW newW : Nat) (hit : Bool) : (s.noteMark g oldW newW hit).mems = s.mems := by
  simp only [State.noteMark, flag_mems, inc_mems, when_mems]

theorem addPair_memsOk {s : State} (h : MemsOk s.mems) (g area c : Nat) (fresh bad6 : Bool) (mask : Nat) (r : PairRes) :
    MemsOk (s.addPair g area c fresh bad6 mask r).1.mems :=
  (recPut_memsOk h ..).congr (noteMark_mems ..)

theorem zeroPair_memsOk {s : State} (h : MemsOk s.mems) (g area c a b : Nat) : MemsOk (s.zeroPair g area c a b).mems := by
  simp +contextual only [State.zeroPair, recPut_memsOk, h]

theorem addToGroup_memsOk {s : State} (h : MemsOk s.mems) (n c bp : Nat) (res : List PairRes) (g : Nat) :
    MemsOk (s.addToGroup n c bp res g).mems := by
  have hfold : ∀ (f : State × Bool → PairRes × Nat → State × Bool), (∀ q p, MemsOk q.1.mems → MemsOk (f q p).1.mems) →
      ∀ (l : List (PairRes × Nat)) (q : State × Bool), MemsOk q.1.mems → MemsOk (l.foldl f q).1.mems := by
    intro f hf l
    induction l with
    | nil => exact fun q hq => hq
    | cons p l ih => exact fun q hq => ih _ (hf q p hq)
  unfold State.addToGroup
  split
  · exact h
  · dsimp only
    split
    · exact h
    · refine MemsOk.congr ?_ ((when_mems (inc_mems ..)).trans ((when_mems (inc_mems ..)).trans (setInt_mems ..)))
      refine hfold _ (fun q p hq => ?_) _ _ (h.congr (truncateArea_mems ..))
      split
      · exact addPair_memsOk hq ..
      · split
        · exact zeroPair_memsOk hq ..
        · exact hq

theorem addPly_memsOk {s : State} (h : MemsOk s.mems) (n c bp : Nat) (res : List PairRes) :
    MemsOk (s.addPly n c bp res).mems := by
  simp +contextual only [State.addPly, addToGroup_memsOk, fold_memsOk, implies_true, h]

theorem markIncomplete_memsOk {s : State} (h : MemsOk s.mems) (n c bp : Nat) : MemsOk (s.markIncomplete n c bp).mems := by
  unfold State.markIncomplete
  refine fold_memsOk h (fun t g ht => ?_) _
  split
  · exact ht
  · dsimp only
    split
    · exact ht
    · refine MemsOk.congr ?_ ((flag_mems ..).trans (setInt_mems ..))
      refine fold_memsOk ?_ (fun u p hu => (setBytes_memsOk hu ..).congr (noteMark_mems ..)) _
      refine when_memsOk (ht.congr (truncateArea_mems ..)) fun hu => MemsOk.congr ?_ (inc_mems ..)
      exact fold_memsOk hu (fun v p hv => zeroPair_memsOk hv ..) _

theorem noteTaints_mems (s : State) : s.noteTaints.mems = s.mems := by
  simp only [State.noteTaints, wr_mems]

theorem beginInt_mems (s : State) (g i : Nat) : (s.beginInt g i).mems = s.mems := by
  simp only [State.beginInt, setGrp_mems, wq_mems, wr_mems]

theorem cmdPending_mems (s : State) : s.cmdPending.mems = s.mems := by
  simp only [State.cmdPending, wr_mems]

theorem asDefined_mems (s : State) (y : Integ) : (s.asDefined y).mems = s.mems := by
  simp only [State.asDefined, fold_mems, setWord_mems, implies_true]

theorem closeInt_mems (s : State) (g : Nat) (y : Integ) : (s.closeInt g y).mems = s.mems := by
  simp only [State.closeInt, fire_mems, flag_mems, inc_mems, noteTaints_mems, setGrp_mems, when_mems, wr_mems, mk_mems,
      ite_mems, ite_self]

theorem groupRoundDone_mems (s : State) (n g : Nat) : (s.groupRoundDone n g).mems = s.mems := by
  simp only [State.groupRoundDone, closeInt_mems, fold_mems, setGrp_mems, wr_mems, ite_mems, ite_self, implies_true]

theorem groupsRoundDone_mems (s : State) (n : Nat) : (s.groupsRoundDone n).mems = s.mems := by
  simp only [State.groupsRoundDone, cmdPending_mems, fold_mems, groupRoundDone_mems, implies_true]

theorem groupCmdEffect_mems (s : State) (g : Nat) (abort : Bool) (b : Nat) : (s.groupCmdEffect g abort b).mems = s.mems := by
  simp only [State.groupCmdEffect, groupRoundDone_mems, setGrp_mems, wr_mems, ite_mems, ite_self]

theorem groupSeal_mems (s : State) (n g : Nat) : (s.groupSeal n g).mems = s.mems := by
  simp only [State.groupSeal, beginInt_mems, groupCmdEffect_mems, wr_mems, ite_mems, ite_self]

theorem groupsSeal_mems (s : State) (n : Nat) : (s.groupsSeal n).mems = s.mems := by
  simp only [State.groupsSeal, cmdPending_mems, fold_mems, groupSeal_mems, implies_true]

theorem shedRound_mems (s : State) (n g : Nat) : (s.shedRound n g).mems = s.mems := by
  simp only [State.shedRound, inc_mems, setGrp_mems, ite_mems, ite_self]

theorem voidInts_mems (s : State) (g : Nat) (bad : Integ → Bool) : (s.voidInts g bad).mems = s.mems := by
  simp only [State.voidInts, flag_mems, fold_mems, inc_mems, setGrp_mems, mk_mems, implies_true]

theorem voidGroup_mems (s : State) (g : Nat) : (s.voidGroup g).mems = s.mems := by
  simp only [State.voidGroup, setGrp_mems, voidInts_mems, wr_mems, ite_mems, ite_self]

theorem voidAll_mems (s : State) : s.voidAll.mems = s.mems := by
  simp only [State.voidAll, cmdPending_mems, fold_mems, noteTaints_mems, voidGroup_mems, wr_mems, implies_true]

theorem retarget_mems (s : State) (first : Nat) : (s.retarget first).mems = s.mems := by
  simp only [State.retarget, fold_mems, setGrp_mems, ite_mems, ite_self, implies_true]

theorem resumeGroups_mems (s : State) (first : Nat) : (s.resumeGroups first).mems = s.mems := by
  simp only [State.resumeGroups, retarget_mems, wr_mems]

theorem joinGroups_mems (s : State) (first : Nat) : (s.joinGroups first).mems = s.mems := by
  simp only [State.joinGroups, cmdPending_mems, fold_mems, noteTaints_mems, retarget_mems, setGrp_mems, voidInts_mems, wr_mems,
      ite_mems, ite_self, implies_true]

/-! ## The memories under the functions of the Board -/

theorem setOut_mems (s : State) (x v : Nat) : (s.setOut x v).mems = s.mems := by
  simp only [State.setOut, wr_mems]

theorem applyMaps_mems (s : State) : s.applyMaps.mems = s.mems := by
  simp only [State.applyMaps, fold_mems, wr_mems, implies_true]

theorem plyToGroups_memsOk {s : State} (h : MemsOk s.mems) (p : Ply) (f : PlyFaults) (v : Verdict) (status : Nat) :
    MemsOk (s.plyToGroups p f v status).mems := by
  unfold State.plyToGroups
  dsimp only
  split <;> simp +contextual only [addPly_memsOk, h]

theorem logRepair_mems (s : State) (kind unit detail row origin : Nat) :
    (s.logRepair kind unit detail row origin).mems = s.mems := by
  simp only [State.logRepair, mk_mems]

theorem repairLine_mems (s : State) (x pos origin : Nat) : (s.repairLine x pos origin).mems = s.mems := by
  simp only [State.repairLine, degrade_mems, health_mems, logRepair_mems, setOut_mems, wr_mems, ite_mems, ite_self]

theorem noteLocated_mems (s : State) (x pos n : Nat) : (s.noteLocated x pos n).mems = s.mems := by
  simp only [State.noteLocated, repairLine_mems, wr_mems, mk_mems, ite_mems, ite_self]

theorem noteTestFail_mems (s : State) (n x pos : Nat) : (s.noteTestFail n x pos).mems = s.mems := by
  simp only [State.noteTestFail, flag_mems, health_mems, inc_mems, repairLine_mems, wr_mems, mk_mems, ite_mems, ite_self]

theorem rotate_mems (s : State) (n : Nat) : (s.rotate n).mems = s.mems := by
  simp only [State.rotate, fold_mems, setOut_mems, ite_mems, ite_self, implies_true]

theorem boardTestStep_mems (s : State) : s.boardTestStep.mems = s.mems := by
  unfold State.boardTestStep
  dsimp only
  split <;> simp only [setOut_mems, when_mems, wr_mems, mk_mems, ite_mems, ite_self]

theorem setBd_mems (s : State) (x : Nat) : (s.setBd x).mems = s.mems := by
  simp only [State.setBd, fire_mems, when_mems, wr_mems]

theorem showPass_mems (s : State) : s.showPass.mems = s.mems := by
  unfold State.showPass
  split <;> simp only [wr_mems]

theorem issuePass_mems (s : State) (n q : Nat) : (s.issuePass n q).mems = s.mems := by
  simp only [State.issuePass, showPass_mems, mk_mems]

theorem issueRerun_mems (s : State) (c : CurPly) (hits : List (Nat × Nat)) : (s.issueRerun c hits).mems = s.mems := by
  simp only [State.issueRerun, fold_mems, inc_mems, showPass_mems, wr_mems, mk_mems, implies_true]

theorem settle_mems (s : State) : s.settle.mems = s.mems := by
  simp only [State.settle, fold_mems, groupsRoundDone_mems, mk_mems, implies_true]

theorem startRound_mems (s : State) (n : Nat) (fromWait : Bool) : (s.startRound n fromWait).mems = s.mems := by
  simp only [State.startRound, issuePass_mems, rotate_mems, setBd_mems, settle_mems, startWork_mems, when_mems, wq_mems,
      wr_mems, mk_mems, ite_mems, ite_self]

theorem nextRoundStarts_mems (s : State) : s.nextRoundStarts.mems = s.mems := by
  unfold State.nextRoundStarts
  simp only [ite_mems, applyMaps_mems, setBd_mems, ite_self]
  refine fold_mems (fun t _ => ?_) _
  split
  · exact when_mems (startRound_mems ..)
  · rfl

theorem afterPass_mems (s : State) : s.afterPass.mems = s.mems := by
  unfold State.afterPass
  dsimp only
  repeat' split
  all_goals simp only [issuePass_mems, issueRerun_mems, nextRoundStarts_mems, showPass_mems, mk_mems]

theorem passIncomplete_memsOk {s : State} (h : MemsOk s.mems) (n q : Nat) : MemsOk (s.passIncomplete n q).mems := by
  simp +contextual only [State.passIncomplete, flag_mems, inc_mems, markIncomplete_memsOk, fold_memsOk, implies_true, h]

theorem abandon_memsOk {s : State} (h : MemsOk s.mems) (of : Nat → Bool) : MemsOk (s.abandon of).mems := by
  simp +contextual only [State.abandon, passIncomplete_memsOk, fold_memsOk, mk_mems, implies_true, h]

theorem closePly_mems (s : State) (c : CurPly) (t1 : Nat) (asked : Bool) : (s.closePly c t1 asked).mems = s.mems := by
  simp only [State.closePly, applyMaps_mems, wq_mems, wr_mems, mk_mems]

theorem requestDrain_mems (s : State) : s.requestDrain.mems = s.mems := by
  unfold State.requestDrain
  dsimp only
  split <;> simp only [inc_mems, when_mems, wr_mems, mk_mems]

theorem placeMarker_memsOk {s : State} (h : MemsOk s.mems) (t : Nat) : MemsOk (s.placeMarker t).mems := by
  unfold State.placeMarker
  dsimp only
  split <;> simp +contextual only [abandon_memsOk, afterPass_mems, boardTestStep_mems, closePly_mems, inc_mems, showPass_mems,
      when_mems, mk_mems, ite_mems, ite_self, memsOk_ite, implies_true, and_self, h]

theorem movePly_mems (s : State) (p q : Ply) : (s.movePly p q).mems = s.mems := by
  simp only [State.movePly, mk_mems]

theorem passEnd_mems (s : State) (rate minRate : Nat) : (s.passEnd rate minRate).mems = s.mems := by
  unfold State.passEnd
  dsimp only
  split <;> simp only [movePly_mems, when_mems, wq_mems, wr_mems]

theorem markerRelease_mems (s : State) : s.markerRelease.mems = s.mems := by
  simp only [State.markerRelease, inc_mems, ite_mems, ite_self]

theorem feederWait_mems (s : State) : s.feederWait.mems = s.mems := by
  simp only [State.feederWait, inc_mems, ite_mems, ite_self]

theorem noteFix_mems (s : State) (p : Ply) (v : Verdict) : (s.noteFix p v).mems = s.mems := by
  unfold State.noteFix
  dsimp only
  split <;> simp only [health_mems, noteLocated_mems, mk_mems, ite_mems, ite_self]

theorem plyInvalid_memsOk {s : State} (h : MemsOk s.mems) (p : Ply) (f : PlyFaults) (v : Verdict) :
    MemsOk (s.plyInvalid p f v).mems := by
  simp +contextual only [State.plyInvalid, health_mems, impair_mems, inc_mems, plyToGroups_memsOk, h]

theorem orderRerun_memsOk {s : State} (h : MemsOk s.mems) (p : Ply) (r : Resid) : MemsOk (s.orderRerun p r).mems := by
  simp +contextual only [State.orderRerun, afterPass_mems, countRerun_mems, health_mems, inc_mems, passIncomplete_memsOk,
      setBd_mems, wq_mems, mk_mems, ite_mems, ite_self, memsOk_ite, implies_true, and_self, h]

theorem plyStatus_memsOk {s : State} (h : MemsOk s.mems) (p : Ply) (f : PlyFaults) (r : Resid) (v : Verdict) :
    MemsOk (s.plyStatus p f r v).mems := by
  simp +contextual only [State.plyStatus, flag_mems, health_mems, inc_mems, noteFix_mems, orderRerun_memsOk, plyInvalid_memsOk,
      plyToGroups_memsOk, when_mems, ite_mems, memsOk_ite, implies_true, and_self, h]

theorem knownVectors_mems (s : State) (p : Ply) (kv : List (Nat × List Int × List Int)) :
    (s.knownVectors p kv).mems = s.mems := by
  simp only [State.knownVectors, fold_mems, noteTestFail_mems, implies_true]

theorem plyFinal_memsOk {s : State} (h : MemsOk s.mems) (f : PlyFaults) : MemsOk (s.plyFinal f).mems := by
  unfold State.plyFinal
  dsimp only
  split <;> simp +contextual only [flag_mems, incBy_mems, knownVectors_mems, movePly_mems, plyStatus_memsOk, when_mems, h]

theorem drainDone_mems (s : State) : s.drainDone.mems = s.mems := by
  unfold State.drainDone
  dsimp only
  split <;> simp only [fire_mems, flag_mems, inc_mems, setBd_mems, settle_mems, when_mems, wr_mems, mk_mems, ite_mems, ite_self]

theorem dropQueue_mems (s : State) : s.dropQueue.mems = s.mems := by
  simp only [State.dropQueue, fold_mems, groupsRoundDone_mems, mk_mems, implies_true]

theorem boardHalt_mems (s : State) : s.boardHalt.mems = s.mems := by
  simp only [State.boardHalt, dropQueue_mems, flag_mems, inc_mems, setBd_mems, when_mems, wr_mems, mk_mems, ite_mems, ite_self]

theorem boardEnable_mems (s : State) : s.boardEnable.mems = s.mems := by
  simp only [State.boardEnable, flag_mems, setBd_mems, wr_mems, ite_mems, ite_self]

theorem boardDisable_mems (s : State) : s.boardDisable.mems = s.mems := by
  simp only [State.boardDisable, dropQueue_mems, setBd_mems, ite_mems, ite_self]

theorem boardOverrun_memsOk {s : State} (h : MemsOk s.mems) (n : Nat) : MemsOk (s.boardOverrun n).1.mems := by
  unfold State.boardOverrun
  dsimp only
  refine MemsOk.congr ?_ (settle_mems ..)
  refine MemsOk.congr ?_ (when_mems (groupsRoundDone_mems ..))
  refine MemsOk.congr ?_ (when_mems ((incBy_mems ..).trans (flag_mems ..)))
  refine MemsOk.congr ?_ (mk_mems rfl rfl)
  exact abandon_memsOk (fold_memsOk h (fun t x ht => passIncomplete_memsOk ht ..) _) _

theorem boardSeal_mems (s : State) (n : Nat) : (s.boardSeal n).mems = s.mems := by
  simp only [State.boardSeal, groupsRoundDone_mems, mk_mems, ite_mems, ite_self]

theorem boardStart_mems (s : State) : s.boardStart.mems = s.mems := by
  unfold State.boardStart
  simp only [ite_mems]
  repeat' split
  all_goals simp only [startRound_mems]

/-! ## The memories under the functions of output -/

theorem otRefuse_mems (s : State) (reason : Nat) : (s.otRefuse reason).mems = s.mems := by
  simp only [State.otRefuse, flag_mems, wr_mems]

theorem routeWrite_mems (s : State) (r : Nat) (v : Word) : (s.routeWrite r v).mems = s.mems := by
  simp only [State.routeWrite, otRefuse_mems, setWord_mems, ite_mems, ite_self]

theorem endpointWrite_mems (s : State) (e a : Nat) (v : Word) : (s.endpointWrite e a v).mems = s.mems := by
  simp only [State.endpointWrite, otRefuse_mems, setWord_mems, ite_mems, ite_self]

theorem setEth_mems (s : State) (p x : Nat) : (s.setEth p x).mems = s.mems := by
  simp only [State.setEth, fire_mems, when_mems, wr_mems]

theorem ethControl_mems (s : State) (p : Nat) (v : Word) : (s.ethControl p v).mems = s.mems := by
  simp only [State.ethControl, otRefuse_mems, setEth_mems, setWord_mems, wr_mems, ite_mems, ite_self]

theorem seqSet_mems (s : State) (st v : Nat) : (s.seqSet st v).mems = s.mems := by
  simp only [State.seqSet, otRefuse_mems, wq_mems, ite_mems, ite_self]

theorem numberInst_mems (s : State) (x : Inst) : (s.numberInst x).mems = s.mems := by
  simp only [State.numberInst, wq_mems, mk_mems]

theorem release_mems (s : State) (x : Inst) (invalid : Bool) : (s.release x invalid).mems = s.mems := by
  unfold State.release
  dsimp only
  repeat' split
  all_goals simp only [forget_mems, inc_mems, numberInst_mems, when_mems, wq_mems, mk_mems]

theorem releaseVis_mems (s : State) (g : Nat) (y : Integ) : (s.releaseVis g y).mems = s.mems := by
  simp only [State.releaseVis, release_mems, truncateArea_mems, mk_mems, ite_mems, ite_self]

theorem releaseRound_mems (s : State) (typ n : Nat) : (s.releaseRound typ n).mems = s.mems := by
  simp only [State.releaseRound, release_mems]

theorem releaseCap_mems (s : State) : s.releaseCap.mems = s.mems := by
  simp only [State.releaseCap, release_mems, mk_mems]

theorem gatePass_mems (s : State) (typ : Nat) : (s.gatePass typ).mems = s.mems := by
  unfold State.gatePass
  dsimp only
  repeat' split
  all_goals simp only [release_mems, releaseCap_mems, releaseRound_mems, releaseVis_mems, mk_mems]

theorem reportAt_mems (s : State) (t typ stream inst sc route : Nat) (body : Bytes) :
    (s.reportAt t typ stream inst sc route body).mems = s.mems := by
  simp only [State.reportAt, release_mems]

theorem hltSend_mems (s : State) : s.hltSend.mems = s.mems := by
  simp only [State.hltSend, reportAt_mems, mk_mems, ite_mems, ite_self]

theorem hltReport_mems (s : State) : s.hltReport.mems = s.mems := by
  simp only [State.hltReport, hltSend_mems, when_mems, mk_mems, ite_mems, ite_self]

theorem timSend_mems (s : State) (t : Nat) : (s.timSend t).mems = s.mems := by
  simp only [State.timSend, reportAt_mems, mk_mems, ite_mems, ite_self]

theorem timReport_mems (s : State) : s.timReport.mems = s.mems := by
  simp only [State.timReport, timSend_mems, when_mems, mk_mems]

theorem captureRelease_mems (s : State) : s.captureRelease.mems = s.mems := by
  simp only [State.captureRelease, fire_mems, wr_mems, mk_mems, ite_mems, ite_self]

theorem instDone_mems (s : State) (x : Inst) : (s.instDone x).mems = s.mems := by
  unfold State.instDone
  split <;> simp only [captureRelease_mems, inc_mems, outputDone_mems, when_mems]

theorem markSent_mems (s : State) (x : Inst) (i : Nat) : (s.markSent x i).mems = s.mems := by
  simp only [State.markSent, instDone_mems, mk_mems, ite_mems, ite_self]

theorem etherSend_mems (s : State) (p : Nat) (bs : Bytes) : (s.etherSend p bs).mems = s.mems := by
  simp only [State.etherSend, emit_mems, inc_mems]

theorem frameSend_mems (s : State) (p first : Nat) : (s.frameSend p first).mems = s.mems := by
  unfold State.frameSend
  dsimp only
  repeat' split
  all_goals simp only [etherSend_mems, inc_mems, markSent_mems, when_mems, mk_mems]

theorem ethLoss_mems (s : State) (p : Nat) : (s.ethLoss p).mems = s.mems := by
  simp only [State.ethLoss, flag_mems, setEth_mems, ite_mems, ite_self]

theorem ethUpNow_mems (s : State) (p : Nat) : (s.ethUpNow p).mems = s.mems := by
  simp only [State.ethUpNow, setEth_mems, wr_mems, ite_mems, ite_self]

/-! ## The memories under the functions of the Beam Array -/

theorem loadBank_mems (s : State) (n k : Nat) : (s.loadBank n k).mems = s.mems := by
  simp only [State.loadBank, mk_mems, ite_mems, ite_self]

theorem noteClips_mems (s : State) (k : Nat) : (s.noteClips k).mems = s.mems := by
  simp only [State.noteClips, fire_mems, flag_mems, incBy_mems, ite_mems, ite_self]

theorem stageVolt_mems (s : State) (n v c tau : Nat) : (s.stageVolt n v c tau).mems = s.mems := by
  simp only [State.stageVolt, noteClips_mems, mk_mems, ite_mems, ite_self]

theorem spoilDet_mems (s : State) (key : Nat) : (s.spoilDet key).mems = s.mems := by
  simp only [State.spoilDet, mk_mems]

theorem stageDet_mems (s : State) (n x b c tau : Nat) : (s.stageDet n x b c tau).mems = s.mems := by
  simp only [State.stageDet, flag_mems, inc_mems, when_mems, mk_mems]

theorem stageSet_mems (s : State) (n k t0 t1 : Nat) : (s.stageSet n k t0 t1).mems = s.mems :=
  (fold_mems (fun _ _ => fold_mems (fun _ _ => fold_mems (fun _ _ => fold_mems (fun _ _ => stageDet_mems ..) _) _) _) _).trans
    (fold_mems (fun _ _ => fold_mems (fun _ _ => fold_mems (fun _ _ => stageVolt_mems ..) _) _) _)

theorem addDue_mems (s : State) (x : Inst) : (s.addDue x).mems = s.mems := by
  simp only [State.addDue, mk_mems]

theorem windowsEnd_mems (s : State) (n x : Nat) : (s.windowsEnd n x).mems = s.mems := by
  simp only [State.windowsEnd, addDue_mems, fold_mems, mk_mems, ite_mems, ite_self, implies_true]

theorem voltEnd_mems (s : State) (n : Nat) : (s.voltEnd n).mems = s.mems := by
  simp only [State.voltEnd, addDue_mems, fold_mems, tick_mems, mk_mems, implies_true]

theorem shedBeams_mems (s : State) (n : Nat) : (s.shedBeams n).mems = s.mems := by
  simp only [State.shedBeams, incBy_mems, mk_mems]

theorem beamOver_mems (s : State) (n : Nat) : (s.beamOver n).mems = s.mems := by
  simp only [State.beamOver, voltEnd_mems, when_mems, windowsEnd_mems, mk_mems]

theorem baRefuse_mems (s : State) (r : Nat) : (s.baRefuse r).mems = s.mems := by
  simp only [State.baRefuse, flag_mems, wr_mems]

theorem beamEnable_mems (s : State) (was : Bool) : (s.beamEnable was).mems = s.mems := by
  unfold State.beamEnable
  split <;> simp only [baRefuse_mems, wr_mems, mk_mems, ite_mems, ite_self]

theorem beamDisable_mems (s : State) : s.beamDisable.mems = s.mems := by
  simp only [State.beamDisable, wr_mems, mk_mems, ite_mems, ite_self]

theorem setsIncomplete_mems (s : State) (n k0 t0 : Nat) : (s.setsIncomplete n k0 t0).mems = s.mems := by
  simp only [State.setsIncomplete, flag_mems, incBy_mems, mk_mems]

theorem abandonBeam_mems (s : State) : s.abandonBeam.mems = s.mems := by
  unfold State.abandonBeam
  dsimp only
  split <;> simp only [beamOver_mems, setsIncomplete_mems, mk_mems]

theorem beamHalt_mems (s : State) : s.beamHalt.mems = s.mems := by
  simp only [State.beamHalt, abandonBeam_mems, wr_mems, mk_mems, ite_mems, ite_self]

theorem beamSeal_mems (s : State) (n : Nat) : (s.beamSeal n).mems = s.mems := by
  simp only [State.beamSeal, mk_mems, ite_mems, ite_self]

theorem dropStream_mems (s : State) (r : Nat) : (s.dropStream r).mems = s.mems := by
  simp only [State.dropStream, flag_mems, fold_mems, incBy_mems, mk_mems, ite_mems, ite_self, implies_true]

theorem takeStaging_mems (s : State) (n : Nat) : (s.takeStaging n).mems = s.mems := by
  simp only [State.takeStaging, dropStream_mems, fold_mems, shadowReuse_mems, mk_mems, implies_true]

theorem beamStart_mems (s : State) : s.beamStart.mems = s.mems := by
  unfold State.beamStart
  dsimp only
  repeat' split
  all_goals simp only [beamOver_mems, loadBank_mems, shedBeams_mems, startWork_mems, takeStaging_mems, wq_mems, wr_mems,
      mk_mems]

theorem suppress_mems (s : State) (t : Nat) : (s.suppress t).mems = s.mems := by
  simp only [State.suppress, mk_mems]

theorem beamMismatch_mems (s : State) (sl d t : Nat) (cols : List (Int × Int)) (chk : Int × Int) :
    (s.beamMismatch sl d t cols chk).mems = s.mems := by
  unfold State.beamMismatch
  dsimp only
  split <;> simp only [suppress_mems, mk_mems, ite_mems, ite_self]

theorem nextSet_mems (s : State) (n : Nat) : (s.nextSet n).mems = s.mems := by
  simp only [State.nextSet, beamOver_mems, fire_mems, loadBank_mems, wr_mems, mk_mems, ite_mems, ite_self]

theorem setComplete_mems (s : State) (rate minRate : Nat) : (s.setComplete rate minRate).mems = s.mems := by
  unfold State.setComplete
  dsimp only
  repeat' split
  all_goals simp only [countRerun_mems, flag_mems, health_mems, impair_mems, inc_mems, nextSet_mems, stageSet_mems, when_mems,
      wr_mems, mk_mems]

theorem beamOverrun_mems (s : State) (n : Nat) : (s.beamOverrun n).1.mems = s.mems := by
  unfold State.beamOverrun
  dsimp only
  repeat' split
  all_goals simp only [wr_mems, flag_mems, abandonBeam_mems, beamOver_mems, shedBeams_mems, setsIncomplete_mems, mk_mems]

theorem beamVoid_mems (s : State) : s.beamVoid.mems = s.mems := by
  simp only [State.beamVoid, mk_mems]

theorem beamVoidBefore_mems (s : State) (first : Nat) : (s.beamVoidBefore first).mems = s.mems := by
  simp only [State.beamVoidBefore, mk_mems]

theorem baErr_mems (s : State) (reason index : Nat) : (s.baErr reason index).mems = s.mems := by
  simp only [State.baErr, flag_mems, wr_mems]

theorem weightSelect_mems (s : State) (commit confA confB : Bool) : (s.weightSelect commit confA confB).mems = s.mems := by
  unfold State.weightSelect
  dsimp only
  repeat' split
  all_goals simp only [baErr_mems, bindChange_mems, when_mems, wq_mems, wr_mems, mk_mems]

theorem beamCommit_mems (s : State) : s.beamCommit.mems = s.mems := by
  unfold State.beamCommit
  dsimp only
  repeat' split
  all_goals simp only [baErr_mems, bindChange_mems, wq_mems, wr_mems, mk_mems]

theorem weightDigest_mems (s : State) (hash : Bytes → Bytes) : (s.weightDigest hash).mems = s.mems := by
  unfold State.weightDigest
  dsimp only
  split <;> simp only [wq_mems, wr_mems, mk_mems]

/-! ## The memories under the functions of group commands and Pair Map changes -/

theorem pmRefuse_mems (s : State) (reason edit row col : Nat) : (s.pmRefuse reason edit row col).mems = s.mems := by
  simp only [State.pmRefuse, flag_mems, wr_mems]

theorem pmCommit_mems (s : State) : s.pmCommit.mems = s.mems := by
  unfold State.pmCommit
  dsimp only
  repeat' split
  all_goals simp only [pmRefuse_mems, wq_mems, wr_mems, mk_mems]

theorem pmDigestDue_mems (s : State) : s.pmDigestDue.mems = s.mems := by
  simp only [State.pmDigestDue, wr_mems]

theorem pmApply_mems (s : State) : s.pmApply.mems = s.mems := by
  unfold State.pmApply
  dsimp only
  split <;> simp only [incBy_mems, noteTaints_mems, pmDigestDue_mems, wr_mems, mk_mems, ite_mems, ite_self]

theorem pmDirect_mems (s : State) (u v : Nat) (x : BitVec 16) : (s.pmDirect u v x).1.mems = s.mems := by
  unfold State.pmDirect
  split
  · exact mk_mems rfl rfl
  · rfl

theorem pmMode_mems (s : State) (v : Nat) : (s.pmMode v).mems = s.mems := by
  simp only [State.pmMode, flag_mems, pmDigestDue_mems, wr_mems, ite_mems, ite_self]

theorem pmDigestDone_mems (s : State) (hash : Bytes → Bytes) : (s.pmDigestDone hash).mems = s.mems := by
  simp only [State.pmDigestDone, wq_mems, wr_mems, ite_mems, ite_self]

theorem cmdRes_mems (s : State) (g reason : Nat) : (s.cmdRes g reason).mems = s.mems := by
  simp only [State.cmdRes, flag_mems, when_mems, wr_mems]

theorem groupOpen_mems (s : State) (g : Nat) : (s.groupOpen g).mems = s.mems := by
  unfold State.groupOpen
  dsimp only
  split <;> simp only [cmdRes_mems, setGrp_mems, wq_mems, wr_mems]

theorem groupEnd_mems (s : State) (g : Nat) (abort tgt : Bool) : (s.groupEnd g abort tgt).mems = s.mems := by
  unfold State.groupEnd
  dsimp only
  repeat' split
  all_goals simp only [cmdPending_mems, cmdRes_mems, setGrp_mems, wq_mems]

theorem groupCmd_mems (s : State) (v : Nat) : (s.groupCmd v).mems = s.mems := by
  unfold State.groupCmd
  dsimp only
  split <;> simp only [groupEnd_mems, groupOpen_mems]

/-! ## The memories under the functions of the Chess Clock -/

theorem noteCap_mems (s : State) : s.noteCap.mems = s.mems := by
  simp only [State.noteCap, fire_mems, when_mems, wr_mems]

theorem takeSettings_mems (s : State) : s.takeSettings.mems = s.mems := by
  simp only [State.takeSettings, noteCap_mems, mk_mems]

theorem thermalCap_mems (s : State) : s.thermalCap.mems = s.mems := by
  simp only [State.thermalCap, noteCap_mems, mk_mems]

theorem energyUpdate_mems (s : State) (bd ba : Nat) (rest rails : List Nat) :
    (s.energyUpdate bd ba rest rails).mems = s.mems := by
  simp only [State.energyUpdate, fold_mems, wq_mems, mk_mems, implies_true]

theorem trimRail_mems (s : State) (n k : Nat) : (s.trimRail n k).mems = s.mems := by
  simp only [State.trimRail, health_mems, when_mems, wr_mems, mk_mems, ite_mems, ite_self]

theorem updateKrate_mems (s : State) (n : Nat) : (s.updateKrate n).mems = s.mems := by
  unfold State.updateKrate
  dsimp only
  repeat' split
  all_goals simp only [wr_mems]

theorem setPoint_mems (s : State) (v : Nat) : (s.setPoint v).mems = s.mems := by
  simp only [State.setPoint, wr_mems, mk_mems, ite_mems, ite_self]

theorem takePlan_mems (s : State) (p : Plan) : (s.takePlan p).mems = s.mems := by
  simp only [State.takePlan, fire_mems, fold_mems, inc_mems, setPoint_mems, shedRound_mems, when_mems, wr_mems, mk_mems,
      implies_true]

theorem setCause_mems (s : State) (i : Nat) (b : Bool) : (s.setCause i b).mems = s.mems := by
  simp only [State.setCause, wr_mems]

theorem admitStart_mems (s : State) (n : Nat) : (s.admitStart n).mems = s.mems := by
  simp only [State.admitStart, fold_mems, takeSettings_mems, trimRail_mems, updateKrate_mems, mk_mems, implies_true]

theorem allowanceReport_mems (s : State) (n : Nat) (a : Rat) : (s.allowanceReport n a).mems = s.mems := by
  simp only [State.allowanceReport, castSend_mems, ite_mems, ite_self]

theorem energyRecovers_mems (s : State) (n : Nat) (a : Rat) : (s.energyRecovers n a).mems = s.mems := by
  simp only [State.energyRecovers, setCause_mems, when_mems, mk_mems, ite_mems, ite_self]

theorem countL4_mems (s : State) (lvl : Nat) : (s.countL4 lvl).mems = s.mems := by
  simp only [State.countL4, setCause_mems, when_mems, mk_mems, ite_mems, ite_self]

theorem admitBy_mems (s : State) (skip : Bool) (n : Nat) : (s.admitBy skip n).mems = s.mems := by
  simp only [State.admitBy, admitStart_mems, allowanceReport_mems, castSend_mems, countL4_mems, energyRecovers_mems, inc_mems,
      takePlan_mems, when_mems, mk_mems, ite_mems, ite_self]

theorem admitOwn_mems (s : State) (n : Nat) : (s.admitOwn n).mems = s.mems := by
  simp only [State.admitOwn, admitBy_mems]

theorem planAdmit_mems (s : State) (n : Nat) : (s.planAdmit n).mems = s.mems := by
  simp only [State.planAdmit, admitOwn_mems, ite_mems, ite_self]

theorem planSkip_mems (s : State) (n : Nat) : (s.planSkip n).mems = s.mems := by
  simp only [State.planSkip, admitBy_mems, ite_mems, ite_self]

theorem admitMirrored_mems (s : State) (n : Nat) (rec : Bytes) : (s.admitMirrored n rec).mems = s.mems := by
  simp only [State.admitMirrored, admitStart_mems, allowanceReport_mems, takePlan_mems, mk_mems]

theorem paceCheck_mems (s : State) (steps : Nat) : (s.paceCheck steps).mems = s.mems := by
  unfold State.paceCheck
  dsimp only
  repeat' split
  all_goals simp only [flag_mems, inc_mems, setPoint_mems, wr_mems]

theorem settlePoint_mems (s : State) : s.settlePoint.mems = s.mems := by
  simp only [State.settlePoint, mk_mems]

theorem paceFail_mems (s : State) (n : Nat) : (s.paceFail n).mems = s.mems := by
  simp only [State.paceFail, fire_mems, flag_mems, health_mems, impair_mems, inc_mems]

/-! ## The memories under the functions of round boundaries -/

theorem showTable_mems (s : State) (n : Nat) : (s.showTable n).mems = s.mems := by
  simp only [State.showTable, fold_mems, setWord_mems, wr_mems, implies_true]

theorem dropUnverified_mems (s : State) (n : Nat) : (s.dropUnverified n).mems = s.mems := by
  simp only [State.dropUnverified, baErr_mems, mk_mems, ite_mems, ite_self]

theorem applyChange_mems (s : State) (n : Nat) (c : Change) : (s.applyChange n c).mems = s.mems := by
  cases c <;> simp only [State.applyChange, wr_mems, showTable_mems, dropUnverified_mems, fire_mems, mk_mems]

theorem notePending_mems (s : State) : s.notePending.mems = s.mems := by
  simp only [State.notePending, wr_mems]

theorem hostEndgame_mems (s : State) (n : Nat) : (s.hostEndgame n).mems = s.mems := by
  simp only [State.hostEndgame, setCause_mems, when_mems, wr_mems, mk_mems]

theorem boundaryAt_mems (s : State) (n : Nat) : (s.boundaryAt n).mems = s.mems := by
  simp only [State.boundaryAt, fire_mems, hostEndgame_mems, thermalCap_mems, notePending_mems, fold_mems, applyChange_mems,
    implies_true, mk_mems]

theorem boundariesTo_mems (s : State) (top : Nat) : (s.boundariesTo top).mems = s.mems := by
  simp only [State.boundariesTo, boundaryAt_mems, fold_mems, ite_mems, ite_self, implies_true]

theorem passBoundaries_mems (s : State) : s.passBoundaries.mems = s.mems := by
  simp only [State.passBoundaries, boundariesTo_mems]

/-! ## The memories under the functions of alignment -/

theorem logFlag_memsOk {s : State} (h : MemsOk s.mems) (n : Nat) (rec : Bytes) : MemsOk (s.logFlag n rec).mems := by
  simp +contextual only [State.logFlag, fire_mems, flag_mems, inc_mems, setBytes_memsOk, when_mems, mk_mems, ite_mems,
      memsOk_ite, implies_true, and_self, h]

theorem zeroFill_memsOk {s : State} (h : MemsOk s.mems) (n g a c : Nat) : MemsOk (s.zeroFill n g a c).mems := by
  simp +contextual only [State.zeroFill, setBytes_memsOk, fold_memsOk, ite_mems, memsOk_ite, implies_true, and_self, h]

theorem closeRange_memsOk {s : State} (h : MemsOk s.mems) (n g a first num : Nat) :
    MemsOk (s.closeRange n g a first num).mems := by
  have hcount : ∀ (a1 n1 a2 n2 a3 n3 a4 n4 : Nat) (c : Bool) (f : State → State), (∀ u, (f u).mems = u.mems) →
      MemsOk ((((((s.incBy a1 n1).incBy a2 n2).incBy a3 n3).incBy a4 n4).when c f).mems) := by
    intro a1 n1 a2 n2 a3 n3 a4 n4 c f hf
    refine h.congr ((when_mems (hf _)).trans ?_)
    simp only [incBy_mems]
  unfold State.closeRange
  dsimp only
  split
  · exact h
  · split
    · exact hcount _ _ _ _ _ _ _ _ _ _ fun u => mk_mems rfl rfl
    · have hfold : ∀ (u : State) (l : List (Nat × Nat × Bool)), MemsOk u.mems → ∀ (b : Nat) (fl : Nat → Bool),
          MemsOk (u.fold l fun s p => (s.zeroFill n g a p.1).setFlagBit (s.slabBase n) a (p.1 - s.chBase) g (fl p.2.1)).mems :=
        fun u l hu b fl => fold_memsOk hu (fun v p hv => setFlagBit_memsOk (zeroFill_memsOk hv ..) ..) _
      split
      · refine fold_memsOk (logFlag_memsOk (fold_memsOk ?_ (fun v p hv => setFlagBit_memsOk (zeroFill_memsOk hv ..) ..) _) ..)
          (fun v p hv => logFlag_memsOk hv ..) _
        exact hcount _ _ _ _ _ _ _ _ _ _ fun u => mk_mems rfl rfl
      · refine fold_memsOk ?_ (fun v p hv => setFlagBit_memsOk (zeroFill_memsOk hv ..) ..) _
        exact hcount _ _ _ _ _ _ _ _ _ _ fun u => mk_mems rfl rfl

theorem closeAbsent_memsOk {s : State} (h : MemsOk s.mems) (n g a : Nat) : MemsOk (s.closeAbsent n g a).mems := by
  simp +contextual only [State.closeAbsent, incBy_mems, setFlagBit_memsOk, fold_memsOk, ite_mems, memsOk_ite, implies_true,
      and_self, h]

theorem closeGranule_memsOk {s : State} (h : MemsOk s.mems) (n g : Nat) : MemsOk (s.closeGranule n g).mems := by
  unfold State.closeGranule
  dsimp only
  refine MemsOk.congr ?_ (mk_mems rfl rfl)
  split
  · exact fold_memsOk h (fun t a ht => closeAbsent_memsOk (fold_memsOk ht (fun u r hu => closeRange_memsOk hu ..) _) ..) _
  · split
    · exact fold_memsOk h (fun t a ht => fold_memsOk ht (fun u j hu => setFlagBit_memsOk hu ..) _) _
    · exact h

theorem copyPower_memsOk {s : State} (h : MemsOk s.mems) (n : Nat) : MemsOk (s.copyPower n).mems := by
  simp +contextual only [State.copyPower, setBytes_memsOk, fold_memsOk, implies_true, h]

theorem sealRound_memsOk {s : State} (h : MemsOk s.mems) (n : Nat) : MemsOk (s.sealRound n).mems := by
  simp +contextual only [State.sealRound, beamSeal_mems, boardSeal_mems, copyPower_memsOk, fire_mems, groupsSeal_mems,
      toUnsync_mems, when_mems, wq_mems, mk_mems, ite_mems, memsOk_ite, implies_true, and_self, h]

theorem freezeRefuse_mems (s : State) (r : Nat) : (s.freezeRefuse r).mems = s.mems := by
  simp only [State.freezeRefuse, inc_mems, wr_mems]

theorem freezeCancel_mems (s : State) : s.freezeCancel.mems = s.mems := by
  simp only [State.freezeCancel, inc_mems, wr_mems, mk_mems]

theorem freezeRound_mems (s : State) (m : Nat) : (s.freezeRound m).1.mems = s.mems := by
  unfold State.freezeRound
  dsimp only
  split
  · exact freezeRefuse_mems ..
  · simp only [wr_mems, mk_mems]

theorem substitute_mems (s : State) (m p : Nat) : (s.substitute m p).mems = s.mems := by
  simp only [State.substitute, fire_mems, wq_mems, wr_mems, mk_mems]

theorem ingestStart_memsOk {s : State} (h : MemsOk s.mems) (n : Nat) (jump : Bool) : MemsOk (s.ingestStart n jump).mems := by
  have hover : ∀ (u : State) (m : Nat), MemsOk u.mems → MemsOk ((u.boardOverrun m).1.beamOverrun m).1.mems :=
    fun u m hu => (boardOverrun_memsOk hu m).congr (beamOverrun_mems ..)
  have hfreeze : ∀ (u : State) (c d : Nat → Bool), MemsOk u.mems → MemsOk (match u.al.freeze with
      | some m => if c m then u.substitute m (n % 2) else if d m then u.freezeCancel else u
      | none => u).mems := by
    intro u c d hu
    split
    · exact ite_memsOk (hu.congr (substitute_mems ..)) (ite_memsOk (hu.congr (freezeCancel_mems ..)) hu)
    · exact hu
  have hresume : ∀ c : Bool, (s.when c fun s =>
      (State.wr { s with al := { s.al with resume := none, first := n } } R.AL_STATUS_endgame 0).wr R.AL_STATUS_active 1).mems
        = s.mems := fun c => when_mems ((wr_mems ..).trans ((wr_mems ..).trans (mk_mems rfl rfl)))
  unfold State.ingestStart
  refine MemsOk.congr ?_ (mk_mems rfl rfl)
  refine hfreeze _ (fun m => _ && _ && _) (fun m => _ && _) (ite_memsOk (fold_memsOk ?_ (fun t m ht => ?_) _) ?_)
  · exact (h.congr (hresume _)).congr (shadowReuse_mems ..)
  · exact ite_memsOk ((hover t m ht).congr (paceFail_mems ..)) (hover t m ht)
  · exact (h.congr (hresume _)).congr (shadowReuse_mems ..)

theorem skipRound_mems (s : State) (n : Nat) : (s.skipRound n).mems = s.mems := by
  simp only [State.skipRound, beamOver_mems, beamSeal_mems, boardSeal_mems, freezeCancel_mems, groupsRoundDone_mems,
      groupsSeal_mems, inc_mems, planSkip_mems, shedBeams_mems, when_mems, mk_mems, ite_mems, ite_self]

theorem closeRound_memsOk {s : State} (h : MemsOk s.mems) (r n : Nat) : MemsOk (s.closeRound r n).mems := by
  have hfold : ∀ l : List Nat, MemsOk (s.fold l fun s g =>
      if smapGet 0 s.al.closed n = g ∧ s.slotHi n g ≤ r then s.closeGranule n g else s).mems := by
    refine fun l => fold_memsOk h (fun t g ht => ?_) _
    split
    · exact closeGranule_memsOk ht ..
    · exact ht
  unfold State.closeRound
  dsimp only
  split
  · exact sealRound_memsOk ((hfold _).congr (boundariesTo_mems ..)) _
  · exact hfold _

theorem startOne_memsOk {s : State} (h : MemsOk s.mems) (t : Nat) (jump : Bool) : MemsOk (s.startOne t jump).1.mems := by
  unfold State.startOne
  exact ite_fst_memsOk (ingestStart_memsOk (h.congr (boundariesTo_mems ..)) ..) h

theorem startDue_memsOk {s : State} (h : MemsOk s.mems) (t : Nat) (jump : Bool) : MemsOk (s.startDue t jump).mems :=
  startOne_memsOk (startOne_memsOk h t jump) ..

theorem advanceTo_memsOk {s : State} (h : MemsOk s.mems) (x : Nat) : MemsOk (s.advanceTo x).mems := by
  have hq : MemsOk (s.wq R.AL_HORIZ x).mems := h.congr (wq_mems ..)
  have hclose : MemsOk ((s.wq R.AL_HORIZ x).fold (s.wq R.AL_HORIZ x).al.open_ fun s n => s.closeRound x n).mems :=
    fold_memsOk hq (fun t n ht => closeRound_memsOk ht ..) _
  unfold State.advanceTo
  refine ite_memsOk h (ite_memsOk (ite_memsOk ?_ ?_) ?_)
  · refine (ingestStart_memsOk (MemsOk.congr ?_ (boundariesTo_mems ..)) ..).congr (passBoundaries_mems ..)
    exact hclose.congr (fold_mems (fun t n => (skipRound_mems ..).trans (boundariesTo_mems ..)) _)
  · exact hclose.congr (passBoundaries_mems ..)
  · exact hq.congr (passBoundaries_mems ..)

theorem moveTo_memsOk {s : State} (h : MemsOk s.mems) (t : Nat) : MemsOk (s.moveTo t).mems := by
  have honce : ∀ u : State, MemsOk u.mems → MemsOk (match u.candidateAt t with
      | some h => u.advanceTo h
      | none => u).mems := by
    intro u hu
    split
    · exact advanceTo_memsOk hu _
    · exact hu
  exact startDue_memsOk (honce _ (honce s h)) ..

theorem sumSample_mems (s : State) (n g a c : Nat) (x y : Int × Int) : (s.sumSample n g a c x y).mems = s.mems := by
  simp only [State.sumSample, mk_mems]

theorem placeSample_memsOk {s : State} (h : MemsOk s.mems) (x : Accepted) (t i : Nat) : MemsOk (s.placeSample x t i).mems := by
  simp +contextual only [State.placeSample, setBytes_memsOk, sumSample_mems, when_memsOk, ite_mems, memsOk_ite, implies_true,
      and_self, h]

theorem noteUflags_mems (s : State) (x : Accepted) : (s.noteUflags x).mems = s.mems := by
  unfold State.noteUflags
  refine fold_mems (fun t _ => ?_) _
  split
  · exact fold_mems (fun _ _ => mk_mems rfl rfl) _
  · rfl

/-- The definition as a function: so stated, the kernel need not evaluate the round to check it. -/
theorem startFor_fun : State.startFor = fun s x => match s.roundOf (x.sc + x.spc - 1) with
    | none => s
    | some m =>
      let n0 := s.al.nextStart
      s.fold ((List.range (m + 1 - n0)).map (· + n0)) (fun s n => (s.boundariesTo n).ingestStart n false) := rfl

theorem startFor_eq (s : State) (x : Accepted) : s.startFor x = match s.roundOf (x.sc + x.spc - 1) with
    | none => s
    | some m =>
      let n0 := s.al.nextStart
      s.fold ((List.range (m + 1 - n0)).map (· + n0)) (fun s n => (s.boundariesTo n).ingestStart n false) :=
  congrFun (congrFun startFor_fun s) x

theorem startFor_memsOk {s : State} (h : MemsOk s.mems) (x : Accepted) : MemsOk (s.startFor x).mems := by
  rw [startFor_eq]
  generalize s.roundOf _ = o
  cases o with
  | none => exact h
  | some m => exact fold_memsOk h (fun t n ht => ingestStart_memsOk (ht.congr (boundariesTo_mems ..)) ..) _

theorem placePacket_memsOk {s : State} (h : MemsOk s.mems) (x : Accepted) : MemsOk (s.placePacket x).mems := by
  unfold State.placePacket
  dsimp only
  generalize hu : State.when (State.when s _ _) _ _ = u
  have hum : MemsOk u.mems := by
    rw [← hu]
    exact when_memsOk (when_memsOk h fun hs => startFor_memsOk hs x) fun hs => hs.congr (inc_mems ..)
  split
  · exact hum.congr (inc_mems ..)
  · split
    · exact hum.congr ((inc_mems ..).trans (inc_mems ..))
    · split
      · split
        · exact hum
        · exact hum.congr (inc_mems ..)
      · have hnote : ∀ (c : Bool), ((u.when c fun s => (s.inc (R.AL_CNT 0)).inc (R.AL_STRLATE x.stream)).noteUflags x).mems
            = u.mems := fun c => (noteUflags_mems ..).trans (when_mems ((inc_mems ..).trans (inc_mems ..)))
        split
        · exact hum.congr ((mk_mems rfl rfl).trans (hnote _))
        · refine fold_memsOk (hum.congr ?_) (fun t i ht => fold_memsOk ht (fun v j hv => placeSample_memsOk hv ..) _) _
          exact (when_mems (inc_mems ..)).trans ((when_mems (inc_mems ..)).trans ((mk_mems rfl rfl).trans (hnote _)))

theorem noteReach_mems (s : State) (x : Accepted) : (s.noteReach x).mems = s.mems := by
  simp only [State.noteReach, mk_mems, ite_mems, ite_self]

theorem alignPacket_memsOk {s : State} (h : MemsOk s.mems) (x : Accepted) : MemsOk (s.alignPacket x).mems := by
  have hmove : MemsOk (if s.timeMode then s.moveTo x.stamp else s).mems := by
    split
    · exact moveTo_memsOk h _
    · exact h
  have hplace : ∀ u : State, MemsOk u.mems → MemsOk (if u.on R.AL_CTL_en then u.placePacket x else u).mems := by
    intro u hu
    split
    · exact placePacket_memsOk hu x
    · exact hu
  exact moveTo_memsOk ((hplace _ hmove).congr (noteReach_mems ..)) _

theorem placeNext_memsOk {s : State} (h : MemsOk s.mems) : MemsOk s.placeNext.mems := by
  unfold State.placeNext
  dsimp only
  split <;> simp +contextual only [alignPacket_memsOk, mk_mems, h]

theorem placeAll_memsOk {s : State} (h : MemsOk s.mems) : MemsOk s.placeAll.mems := by
  simp +contextual only [State.placeAll, placeNext_memsOk, fold_memsOk, implies_true, h]

theorem moveHorizon_memsOk {s : State} (h : MemsOk s.mems) : MemsOk s.moveHorizon.mems := by
  simp +contextual only [State.moveHorizon, moveTo_memsOk, placeAll_memsOk, h]

theorem dropAccepted_mems (s : State) : s.dropAccepted.mems = s.mems := by
  simp only [State.dropAccepted, fold_mems, noteReach_mems, mk_mems, implies_true]

theorem ingestNext_memsOk {s : State} (h : MemsOk s.mems) : MemsOk s.ingestNext.mems := by
  unfold State.ingestNext
  dsimp only
  repeat' split
  all_goals simp +contextual only [placeAll_memsOk, startDue_memsOk, startFor_memsOk, h]

theorem alignEnable_mems (s : State) : s.alignEnable.mems = s.mems := by
  unfold State.alignEnable
  dsimp only
  repeat' split
  all_goals simp only [dropAccepted_mems, flag_mems, freezeCancel_mems, wq_mems, wr_mems, mk_mems]

theorem discardOpen_mems (s : State) (stop : Bool) : (s.discardOpen stop).mems = s.mems := by
  unfold State.discardOpen
  dsimp only
  split <;> simp only [freezeCancel_mems, mk_mems, ite_mems, ite_self]

theorem alignDisable_mems (s : State) : s.alignDisable.mems = s.mems := by
  simp only [State.alignDisable, discardOpen_mems, wr_mems, mk_mems]

theorem alignEndgame_mems (s : State) : s.alignEndgame.mems = s.mems := by
  simp only [State.alignEndgame, discardOpen_mems, wr_mems]

theorem freezeCommand_mems (s : State) : s.freezeCommand.mems = s.mems := freezeRound_mems ..

theorem freezeTask_mems (s : State) : s.freezeTask.mems = s.mems := by
  simp only [State.freezeTask, ite_mems, castSend_mems, freezeRound_mems, ite_self]

theorem bitmapSend_mems (s : State) : s.bitmapSend.mems = s.mems := by
  simp only [State.bitmapSend, castSend_mems, fold_mems, mk_mems, ite_mems, ite_self, implies_true]

theorem spanTake_mems (s : State) (body : Bytes) : (s.spanTake body).mems = s.mems := by
  simp only [State.spanTake, castSend_mems, fold_mems, mk_mems, ite_mems, ite_self, implies_true]

theorem rprqTake_mems (s : State) (body : Bytes) : (s.rprqTake body).mems = s.mems := by
  unfold State.rprqTake
  split
  · refine fold_mems (fun t _ => ?_) _
    dsimp only
    split
    · simp only [ite_mems, inc_mems, castSend_mems, ite_self]
    · rfl
  · rfl

/-! ## The memories under the functions of the timebase -/

theorem setQuality_mems (s : State) : s.setQuality.mems = s.mems := by
  simp only [State.setQuality, fire_mems, wr_mems, mk_mems, ite_mems, ite_self]

theorem setTrim_mems (s : State) (r : Rat) : (s.setTrim r).mems = s.mems := by
  simp only [State.setTrim, wq_mems, wr_mems]

theorem setTarget_mems (s : State) (k x : Nat) : (s.setTarget k x).mems = s.mems := by
  simp only [State.setTarget, wq_mems, wr_mems]

theorem setPulses_mems (s : State) (l : List Nat) : (s.setPulses l).mems = s.mems := by
  simp only [State.setPulses, emit_mems, fold_mems, mk_mems, ite_mems, ite_self, implies_true]

theorem trgFire_mems (s : State) (k : Nat) (late : Bool) : (s.trgFire k late).mems = s.mems := by
  simp only [State.trgFire, fire_mems, flag_mems, inc_mems, setPulses_mems, setTarget_mems, when_mems, wr_mems, ite_mems,
      ite_self]

theorem trgArm_mems (s : State) (k : Nat) : (s.trgArm k).mems = s.mems := by
  simp only [State.trgArm, trgFire_mems, wr_mems, mk_mems, ite_mems, ite_self]

theorem trgStep_mems (s : State) (k : Nat) (fwd : Bool) : (s.trgStep k fwd).mems = s.mems := by
  simp only [State.trgStep, incBy_mems, setTarget_mems, trgFire_mems, ite_mems, ite_self]

theorem stamp_mems (s : State) (k fine : Nat) (rise : Bool) : (s.stamp k fine rise).mems = s.mems := by
  simp only [State.stamp, fire_mems, flag_mems, inc_mems, wr_mems, mk_mems, ite_mems, ite_self]

theorem captureEdge_mems (s : State) (pin fine : Nat) (rise : Bool) : (s.captureEdge pin fine rise).mems = s.mems := by
  simp only [State.captureEdge, fold_mems, stamp_mems, ite_mems, ite_self, implies_true]

theorem captureTask_mems (s : State) (k fine : Nat) : (s.captureTask k fine).mems = s.mems := by
  simp only [State.captureTask, stamp_mems, ite_mems, ite_self]

theorem stampRead_mems (s : State) (k : Nat) : (s.stampRead k).mems = s.mems := by
  unfold State.stampRead
  dsimp only
  split <;> simp only [wq_mems, wr_mems, mk_mems]

theorem nextEpoch_mems (s : State) : s.nextEpoch.mems = s.mems := by
  simp only [State.nextEpoch, fire_mems, wr_mems, mk_mems]

theorem showEpoch_mems (s : State) (m : ScMap) : (s.showEpoch m).mems = s.mems := by
  simp only [State.showEpoch, wq_mems, wr_mems, mk_mems]

theorem takeEpoch_mems (s : State) (m : ScMap) : (s.takeEpoch m).mems = s.mems := by
  simp only [State.takeEpoch, showEpoch_mems, wr_mems]

theorem epochNow_memsOk {s : State} (h : MemsOk s.mems) (m : ScMap) : MemsOk (s.epochNow m).mems := by
  simp +contextual only [State.epochNow, moveHorizon_memsOk, nextEpoch_mems, passBoundaries_mems, placeAll_memsOk,
      takeEpoch_mems, mk_mems, h]

theorem epochAt_mems (s : State) (n : Nat) (m : ScMap) : (s.epochAt n m).mems = s.mems := by
  simp only [State.epochAt, takeEpoch_mems, wr_mems, mk_mems]

theorem epochCommit_keeps : KeepsMemsOk State.epochCommit := by
  delta State.epochCommit
  refine KeepsMemsOk.intro fun s h => ?_
  simp only []
  split
  · exact h.congr (wr_mems ..)
  · split
    · exact h.congr ((wq_mems ..).trans ((wr_mems ..).trans ((wr_mems ..).trans (mk_mems rfl rfl))))
    · exact epochNow_memsOk h _

theorem epochCommit_memsOk {s : State} (h : MemsOk s.mems) : MemsOk s.epochCommit.mems := epochCommit_keeps s h

theorem epochInvalidate_memsOk {s : State} (h : MemsOk s.mems) : MemsOk s.epochInvalidate.mems := by
  simp +contextual only [State.epochInvalidate, moveHorizon_memsOk, placeAll_memsOk, wr_mems, mk_mems, ite_mems, memsOk_ite,
      implies_true, and_self, h]

theorem stepRequest_mems (s : State) : s.stepRequest.mems = s.mems := by
  unfold State.stepRequest
  dsimp only
  split <;> simp only [wq_mems, wr_mems, mk_mems]

theorem epochFollows_mems (s : State) (n : Nat) (ns : Int) : (s.epochFollows n ns).mems = s.mems := by
  simp only [State.epochFollows, showEpoch_mems, mk_mems, ite_mems, ite_self]

theorem epochWith_mems (s : State) (bnd : Option Nat) : (s.epochWith bnd).mems = s.mems := by
  unfold State.epochWith
  split <;> simp only [epochAt_mems, ite_mems, ite_self]

theorem discSettles_mems (s : State) (ns : Int) : (s.discSettles ns).mems = s.mems := by
  unfold State.discSettles
  split <;> simp only [wr_mems, ite_mems, ite_self]

theorem loopStepped_mems (s : State) (d : Int) : (s.loopStepped d).mems = s.mems := by
  simp only [State.loopStepped, mk_mems]

theorem stepCounter_mems (s : State) (st : TimeStep) : (s.stepCounter st).mems = s.mems := by
  simp only [State.stepCounter, discSettles_mems, epochFollows_mems, epochWith_mems, flag_mems, fold_mems, inc_mems,
      loopStepped_mems, nextEpoch_mems, trgStep_mems, wr_mems, mk_mems, ite_mems, ite_self, implies_true]

theorem stepNow_memsOk {s : State} (h : MemsOk s.mems) (st : TimeStep) : MemsOk (s.stepNow st).mems := by
  simp +contextual only [State.stepNow, moveHorizon_memsOk, passBoundaries_mems, placeAll_memsOk, setQuality_mems,
      stepCounter_mems, h]

theorem stepApply_memsOk {s : State} (h : MemsOk s.mems) : MemsOk s.stepApply.mems := by
  unfold State.stepApply
  split
  · split
    · exact h
    · split
      · exact stepNow_memsOk h _
      · exact ite_memsOk (stepNow_memsOk (h.congr (boundariesTo_mems ..)) _) h
  · exact h

theorem epochApply_memsOk {s : State} (h : MemsOk s.mems) : MemsOk s.epochApply.mems := by
  unfold State.epochApply
  dsimp only
  repeat' split
  all_goals simp +contextual only [boundariesTo_mems, epochAt_mems, moveHorizon_memsOk, nextEpoch_mems, passBoundaries_mems,
      placeAll_memsOk, stepNow_memsOk, h]

theorem autoStep_memsOk {s : State} (h : MemsOk s.mems) (r : Nat) : MemsOk (s.autoStep r).mems := by
  simp +contextual only [State.autoStep, stepNow_memsOk, wq_mems, wr_mems, mk_mems, ite_mems, memsOk_ite, implies_true,
      and_self, h]

theorem tickClock_mems (s : State) : s.tickClock.mems = s.mems := by
  simp only [State.tickClock, fire_mems, when_mems, mk_mems]

theorem toNextSecond_mems (s : State) : s.toNextSecond.mems = s.mems := by
  simp only [State.toNextSecond, fire_mems, mk_mems]

theorem elapseTo_mems (s : State) (goal : Nat) : (s.elapseTo goal).mems = s.mems := by
  simp only [State.elapseTo, fire_mems, when_mems, mk_mems]

theorem trgReach_mems (s : State) (k : Nat) : (s.trgReach k).mems = s.mems := by
  simp only [State.trgReach, elapseTo_mems, trgFire_mems, ite_mems, ite_self]

theorem trgPulseEnd_mems (s : State) (k : Nat) : (s.trgPulseEnd k).mems = s.mems := by
  simp only [State.trgPulseEnd, setPulses_mems]

theorem timeLost_mems (s : State) : s.timeLost.mems = s.mems := by
  simp only [State.timeLost, setQuality_mems, wr_mems, ite_mems, ite_self]

theorem fatalFault_mems (s : State) : s.fatalFault.mems = s.mems := by
  simp only [State.fatalFault, resignFault_mems, setCause_mems, setHstate_mems, timeLost_mems, toUnsync_mems, ite_mems,
      ite_self]

theorem raiseCounter_mems (s : State) : s.raiseCounter.mems = s.mems := by
  simp only [State.raiseCounter, fatalFault_mems, flag_mems, health_mems, inc_mems]

theorem compareCopies_mems (s : State) : s.compareCopies.mems = s.mems := by
  simp only [State.compareCopies, raiseCounter_mems, when_mems]

theorem counterDisagree_mems (s : State) (delta : Int) : (s.counterDisagree delta).mems = s.mems := by
  simp only [State.counterDisagree, raiseCounter_mems, when_mems, mk_mems]

/-! ## The memories under the functions of the reference inputs -/

theorem setRefSlot_mems (s : State) (r : Nat) (x : RefSlot) : (s.setRefSlot r x).mems = s.mems := by
  simp only [State.setRefSlot, mk_mems]

theorem holdY_mems (s : State) (y : Int) : (s.holdY y).mems = s.mems := by
  simp only [State.holdY, wq_mems, wr_mems]

theorem startSlew_mems (s : State) (goal : Int) : (s.startSlew goal).mems = s.mems := by
  simp only [State.startSlew, holdY_mems, wr_mems, mk_mems]

theorem keepY_mems (s : State) : s.keepY.mems = s.mems := by
  simp only [State.keepY, mk_mems]

theorem loopMove_mems (s : State) (r : Nat) (err : Int) : (s.loopMove r err).mems = s.mems := by
  simp only [State.loopMove, wq_mems, mk_mems]

theorem unlock_mems (s : State) : s.unlock.mems = s.mems := by
  simp only [State.unlock, setQuality_mems, wr_mems]

theorem discBegin_mems (s : State) : s.discBegin.mems = s.mems := by
  simp only [State.discBegin, flag_mems, inc_mems, setTrim_mems, unlock_mems, wr_mems, ite_mems, ite_self]

theorem moveZero_mems (s : State) : s.moveZero.mems = s.mems := by
  simp only [State.moveZero, mk_mems]

theorem offsetSample_mems (s : State) (r : Nat) (phi : Int) : (s.offsetSample r phi).mems = s.mems := by
  simp only [State.offsetSample, discBegin_mems, setRefSlot_mems, setTrim_mems, unlock_mems, when_mems, wq_mems, wr_mems,
      mk_mems, ite_mems, ite_self]

theorem noteSwitch_mems (s : State) : s.noteSwitch.mems = s.mems := by
  simp only [State.noteSwitch, fire_mems, flag_mems, inc_mems]

theorem switchTo_mems (s : State) (r : Nat) : (s.switchTo r).mems = s.mems := by
  simp only [State.switchTo, discBegin_mems, noteSwitch_mems, setQuality_mems, setTrim_mems, startSlew_mems, tick_mems,
      when_mems, wr_mems, mk_mems, ite_mems, ite_self]

theorem freeSlew_mems (s : State) : s.freeSlew.mems = s.mems := by
  simp only [State.freeSlew, holdY_mems, startSlew_mems, ite_mems, ite_self]

theorem freeRun_mems (s : State) : s.freeRun.mems = s.mems := by
  simp only [State.freeRun, freeSlew_mems, noteSwitch_mems, setQuality_mems, setTrim_mems, when_mems, wr_mems]

theorem fallBack_mems (s : State) : s.fallBack.mems = s.mems := by
  unfold State.fallBack
  dsimp only
  split <;> simp only [freeRun_mems, holdY_mems, switchTo_mems, mk_mems, ite_mems, ite_self]

theorem manualSelect_mems (s : State) (r : Nat) : (s.manualSelect r).mems = s.mems := by
  simp only [State.manualSelect, flag_mems, switchTo_mems, wr_mems, ite_mems, ite_self]

theorem stepOnQualified_memsOk {s : State} (h : MemsOk s.mems) (r : Nat) : MemsOk (s.stepOnQualified r).mems := by
  simp +contextual only [State.stepOnQualified, autoStep_memsOk, ite_mems, memsOk_ite, implies_true, and_self, h]

theorem reselect_mems (s : State) : s.reselect.mems = s.mems := by
  unfold State.reselect
  split <;> simp only [fallBack_mems, setQuality_mems, ite_mems, ite_self]

theorem applySel_memsOk {s : State} (h : MemsOk s.mems) (e : SelEvent) : MemsOk (s.applySel e).mems := by
  cases e with
  | disqualify r reason =>
    exact ite_memsOk (h.congr ((when_mems (health_mems ..)).trans ((wr_mems ..).trans ((inc_mems ..).trans (wr_mems ..))))) h
  | qualify r =>
    have hsel : ∀ t : State, t.mems = s.mems →
        (if t.refSel.isNone then (match t.bestRef with | some b => t.switchTo b | none => t) else t.setQuality).mems = s.mems
            := by
      intro t ht
      split
      · split
        · exact (switchTo_mems ..).trans ht
        · exact ht
      · exact (setQuality_mems ..).trans ht
    exact ite_memsOk h (stepOnQualified_memsOk (h.congr (hsel _ ((setRefSlot_mems ..).trans (wr_mems ..)))) r)
  | trust r => exact ite_memsOk (stepOnQualified_memsOk (h.congr ((setQuality_mems ..).trans (wr_mems ..))) r) h
  | enable r =>
    exact ite_memsOk (h.congr ((setQuality_mems ..).trans ((setRefSlot_mems ..).trans ((wr_mems ..).trans (wr_mems ..))))) h
  | disable r => exact h.congr ((reselect_mems ..).trans ((setRefSlot_mems ..).trans (wr_mems ..)))
  | clear r => exact ite_memsOk (h.congr (wr_mems ..)) h
  | select manual m =>
    cases manual with
    | true => exact h.congr (manualSelect_mems ..)
    | false => exact h.congr ((wr_mems ..).trans (wr_mems ..))

theorem closeWindow_memsOk {s : State} (h : MemsOk s.mems) : MemsOk s.closeWindow.mems := by
  unfold State.closeWindow
  refine fold_memsOk (MemsOk.congr ?_ (reselect_mems ..)) (fun t e ht => applySel_memsOk ht e) _
  exact fold_memsOk (h.congr (mk_mems rfl rfl)) (fun t e ht => applySel_memsOk ht e) _

theorem selCheck_memsOk {s : State} (h : MemsOk s.mems) : MemsOk s.selCheck.mems := by
  simp +contextual only [State.selCheck, closeWindow_memsOk, ite_mems, memsOk_ite, implies_true, and_self, h]

theorem noteSel_memsOk {s : State} (h : MemsOk s.mems) (e : SelEvent) : MemsOk (s.noteSel e).mems := by
  simp +contextual only [State.noteSel, selCheck_memsOk, mk_mems, h]

theorem disqualify_memsOk {s : State} (h : MemsOk s.mems) (r reason : Nat) : MemsOk (s.disqualify r reason).mems := by
  simp +contextual only [State.disqualify, noteSel_memsOk, wr_mems, ite_mems, ite_self, memsOk_ite, implies_true, and_self, h]

theorem refNormal_mems (s : State) (r : Nat) (err : Int) : (s.refNormal r err).mems = s.mems := by
  simp only [State.refNormal, keepY_mems, loopMove_mems, when_mems, wr_mems, ite_mems, ite_self]

theorem timedEvent_mems (s : State) (r : Nat) (phi : Int) : (s.timedEvent r phi).mems = s.mems := by
  simp only [State.timedEvent, moveZero_mems, offsetSample_mems, refNormal_mems]

theorem refAnomaly_memsOk {s : State} (h : MemsOk s.mems) (r : Nat) : MemsOk (s.refAnomaly r).mems := by
  simp +contextual only [State.refAnomaly, disqualify_memsOk, inc_mems, setRefSlot_mems, wr_mems, ite_mems, memsOk_ite,
      implies_true, and_self, h]

theorem edgeF_memsOk {s : State} (h : MemsOk s.mems) (r interval : Nat) : MemsOk (s.edgeF r interval).mems := by
  simp +contextual only [State.edgeF, refAnomaly_memsOk, refNormal_mems, setRefSlot_mems, ite_mems, memsOk_ite, implies_true,
      and_self, h]

theorem edgeP_memsOk {s : State} (h : MemsOk s.mems) (r interval fine : Nat) : MemsOk (s.edgeP r interval fine).mems := by
  simp +contextual only [State.edgeP, refAnomaly_memsOk, setRefSlot_mems, timedEvent_mems, ite_mems, memsOk_ite, implies_true,
      and_self, h]

theorem refEdge_memsOk {s : State} (h : MemsOk s.mems) (r interval fine : Nat) : MemsOk (s.refEdge r interval fine).mems := by
  unfold State.refEdge
  dsimp only
  repeat' split
  all_goals simp +contextual only [edgeF_memsOk, edgeP_memsOk, stepNow_memsOk, h]

theorem refTimeout_memsOk {s : State} (h : MemsOk s.mems) (r : Nat) : MemsOk (s.refTimeout r).mems := by
  simp +contextual only [State.refTimeout, refAnomaly_memsOk, ite_mems, memsOk_ite, implies_true, and_self, h]

theorem refSample_memsOk {s : State} (h : MemsOk s.mems) (r : Nat) (phi : Int) (bad : Bool) :
    MemsOk (s.refSample r phi bad).mems := by
  simp +contextual only [State.refSample, offsetSample_mems, refAnomaly_memsOk, setRefSlot_mems, timedEvent_mems, ite_mems,
      memsOk_ite, implies_true, and_self, h]

theorem refQualified_memsOk {s : State} (h : MemsOk s.mems) (r : Nat) : MemsOk (s.refQualified r).mems := by
  simp +contextual only [State.refQualified, noteSel_memsOk, ite_mems, memsOk_ite, implies_true, and_self, h]

theorem refGate_memsOk {s : State} (h : MemsOk s.mems) (r : Nat) (off : Int) : MemsOk (s.refGate r off).mems := by
  unfold State.refGate
  refine ite_memsOk h ?_
  have hw : ∀ t : State, t.mems = s.mems → MemsOk (if t.rd R.REF_XOWIN_win_ppm * 1000000 < off.natAbs then t.disqualify r 2
      else t).mems :=
    fun t ht => ite_memsOk (disqualify_memsOk (h.congr ht) r 2) (h.congr ht)
  exact hw _ (when_mems ((when_mems (unlock_mems ..)).trans (mk_mems rfl rfl)))

theorem refRevert_mems (s : State) (r : Nat) : (s.refRevert r).mems = s.mems := by
  unfold State.refRevert
  split <;> simp only [switchTo_mems, ite_mems, ite_self]

theorem dpllLock_mems (s : State) : s.dpllLock.mems = s.mems := by
  unfold State.dpllLock
  split <;> simp only [setQuality_mems, wr_mems, ite_mems, ite_self]

theorem slewDone_mems (s : State) : s.slewDone.mems = s.mems := by
  simp only [State.slewDone, holdY_mems, setQuality_mems, ite_mems, ite_self]

theorem refConfigured_memsOk {s : State} (h : MemsOk s.mems) (r : Nat) (was : Bool) : MemsOk (s.refConfigured r was).mems := by
  simp +contextual only [State.refConfigured, noteSel_memsOk, setQuality_mems, ite_mems, memsOk_ite, implies_true, and_self, h]

theorem refClear_memsOk {s : State} (h : MemsOk s.mems) (mask : Nat) : MemsOk (s.refClear mask).mems := by
  simp +contextual only [State.refClear, noteSel_memsOk, fold_memsOk, implies_true, h]

theorem refPortDown_memsOk {s : State} (h : MemsOk s.mems) (eth : Bool) (p : Nat) : MemsOk (s.refPortDown eth p).mems := by
  simp +contextual only [State.refPortDown, disqualify_memsOk, fold_memsOk, ite_mems, memsOk_ite, implies_true, and_self, h]

theorem markOutlier_memsOk {s : State} (h : MemsOk s.mems) (r : Nat) : MemsOk (s.markOutlier r).mems := by
  simp +contextual only [State.markOutlier, disqualify_memsOk, flag_mems, inc_mems, mk_mems, h]

theorem calmSecond_memsOk {s : State} (h : MemsOk s.mems) (w : Nat) : MemsOk (s.calmSecond w).mems := by
  simp +contextual only [State.calmSecond, noteSel_memsOk, wr_mems, fold_memsOk, mk_mems, ite_mems, memsOk_ite, implies_true,
      and_self, h]

theorem takeMeans_mems (s : State) (short long : List Int) : (s.takeMeans short long).mems = s.mems := by
  simp only [State.takeMeans, fold_mems, setRefSlot_mems, wq_mems, ite_mems, ite_self, implies_true]

theorem raiseDisagree_mems (s : State) (bad : List Nat) : (s.raiseDisagree bad).mems = s.mems := by
  simp only [State.raiseDisagree, flag_mems, fold_mems, inc_mems, setQuality_mems, when_mems, wr_mems, mk_mems, implies_true]

theorem crossCompare_memsOk {s0 : State} (h : MemsOk s0.mems) (short long : List Int) :
    MemsOk (s0.crossCompare short long).mems := by
  unfold State.crossCompare
  dsimp only
  repeat' split
  all_goals simp +contextual only [calmSecond_memsOk, markOutlier_memsOk, raiseDisagree_mems, takeMeans_mems, h]

theorem xoLost_mems (s : State) : s.xoLost.mems = s.mems := by
  simp only [State.xoLost, fatalFault_mems, fold_mems, freeRun_mems, health_mems, wr_mems, mk_mems, ite_mems, ite_self,
      implies_true]

theorem xoReturn_mems (s : State) : s.xoReturn.mems = s.mems := by
  simp only [State.xoReturn, freeRun_mems, wr_mems, ite_mems, ite_self]

theorem ticked_memsOk {s : State} (h : MemsOk s.mems) : MemsOk s.ticked.mems := by
  simp +contextual only [State.ticked, compareCopies_mems, selCheck_memsOk, h]

/-! ## The memories under the functions of the upstream ports -/

theorem portCount_mems (s : State) (p i : Nat) : (s.portCount p i).mems = s.mems := by
  simp only [State.portCount, inc_mems, ite_mems, ite_self]

theorem showActive_mems (s : State) : s.showActive.mems = s.mems := by
  simp only [State.showActive, wr_mems]

theorem statusSend_mems (s : State) (p : Nat) : (s.statusSend p).mems = s.mems := by
  simp only [State.statusSend, idleFill_mems, sendCell_mems, ite_mems, ite_self]

theorem alignSend_mems (s : State) (p : Nat) : (s.alignSend p).mems = s.mems := by
  simp only [State.alignSend, fold_mems, sendUncounted_mems, ite_mems, ite_self, implies_true]

theorem setLanes_mems (s : State) (p mask : Nat) : (s.setLanes p mask).mems = s.mems := by
  simp only [State.setLanes, statusSend_mems, wr_mems, ite_mems, ite_self]

theorem setPort_mems (s : State) (p x : Nat) : (s.setPort p x).mems = s.mems := by
  simp only [State.setPort, fire_mems, showActive_mems, statusSend_mems, wr_mems, ite_mems, ite_self]

theorem train_mems (s : State) (p : Nat) : (s.train p).mems = s.mems := by
  simp only [State.train, setPort_mems, setUlp_mems]

theorem leaveUp_memsOk {s : State} (h : MemsOk s.mems) (p : Nat) : MemsOk (s.leaveUp p).mems := by
  simp +contextual only [State.leaveUp, inc_mems, portCount_mems, refPortDown_memsOk, setUlp_mems, when_mems, ite_mems,
      memsOk_ite, implies_true, and_self, h]

theorem portStart_mems (s : State) (p : Nat) : (s.portStart p).mems = s.mems := by
  simp only [State.portStart, alignSend_mems, setLanes_mems, setUlp_mems, train_mems, ite_mems, ite_self]

theorem portStop_memsOk {s : State} (h : MemsOk s.mems) (p : Nat) : MemsOk (s.portStop p).mems := by
  simp +contextual only [State.portStop, leaveUp_memsOk, setPort_mems, setUlp_mems, wr_mems, ite_mems, memsOk_ite,
      implies_true, and_self, h]

theorem portLoss_memsOk {s : State} (h : MemsOk s.mems) (p mask : Nat) : MemsOk (s.portLoss p mask).mems := by
  simp +contextual only [State.portLoss, flag_mems, leaveUp_memsOk, setLanes_mems, setPort_mems, train_mems, wr_mems, ite_mems,
      ite_self, memsOk_ite, implies_true, and_self, h]

theorem lanesLocked_memsOk {s : State} (h : MemsOk s.mems) (p mask : Nat) : MemsOk (s.lanesLocked p mask).mems := by
  simp +contextual only [State.lanesLocked, portLoss_memsOk, setLanes_mems, setPort_mems, ite_mems, ite_self, memsOk_ite,
      implies_true, and_self, h]

theorem trainTimeout_mems (s : State) (p : Nat) : (s.trainTimeout p).mems = s.mems := by
  simp only [State.trainTimeout, flag_mems, ite_mems, ite_self]

theorem enterUp_mems (s : State) (p : Nat) : (s.enterUp p).mems = s.mems := by
  simp only [State.enterUp, setPort_mems, setUlp_mems, wr_mems]

theorem deskewDone_mems (s : State) (p : Nat) : (s.deskewDone p).mems = s.mems := by
  simp only [State.deskewDone, enterUp_mems, flag_mems, train_mems, wr_mems, ite_mems, ite_self]

theorem deskewTimeout_mems (s : State) (p : Nat) : (s.deskewTimeout p).mems = s.mems := by
  simp only [State.deskewTimeout, flag_mems, train_mems, ite_mems, ite_self]

theorem overlapped_mems (s : State) (p lane : Nat) : (s.overlapped p lane).2.mems = s.mems := by
  unfold State.overlapped
  dsimp only
  split
  · rfl
  · exact setUlp_mems ..

theorem alignTake_memsOk {s : State} (h : MemsOk s.mems) (p lane : Nat) (inPlace : Bool) (at_ns : Nat) (body : Bytes) :
    MemsOk (s.alignTake p lane inPlace at_ns body).mems := by
  have ho : MemsOk (s.overlapped p lane).2.mems := h.congr (overlapped_mems ..)
  unfold State.alignTake
  refine ite_memsOk h ?_
  dsimp only
  refine ite_memsOk (ite_memsOk (ho.congr (setUlp_mems ..)) ho) (ite_memsOk (ite_memsOk ?_ ?_) ho)
  · exact portLoss_memsOk (ho.congr (setUlp_mems ..)) ..
  · exact ho.congr (setUlp_mems ..)

theorem bufferFull_mems (s : State) (p : Nat) : (s.bufferFull p).mems = s.mems := by
  simp only [State.bufferFull, fire_mems, flag_mems, health_mems, inc_mems]

theorem acceptSample_mems (s : State) (p : Nat) (bs : Bytes) (repair : Bool) (arr : Nat) :
    (s.acceptSample p bs repair arr).mems = s.mems := by
  simp only [State.acceptSample, mk_mems]

theorem sampleTake_mems (s : State) (p : Nat) (bs : Bytes) (arr : Nat) : (s.sampleTake p bs arr).mems = s.mems := by
  unfold State.sampleTake
  dsimp only
  split <;> simp only [acceptSample_mems, inc_mems, when_mems]

theorem linkEvent_memsOk {s : State} (h : MemsOk s.mems) (p arr : Nat) (bs : Bytes) : MemsOk (s.linkEvent p arr bs).mems := by
  simp +contextual only [State.linkEvent, refAnomaly_memsOk, refNormal_mems, refSample_memsOk, setRefSlot_mems, fold_memsOk,
      ite_mems, memsOk_ite, implies_true, and_self, h]

theorem timingTake_memsOk {s : State} (h : MemsOk s.mems) (p : Nat) (bs : Bytes) (arr : Nat) :
    MemsOk (s.timingTake p bs arr).mems := by
  simp +contextual only [State.timingTake, inc_mems, linkEvent_memsOk, setUlp_mems, ite_mems, ite_self, memsOk_ite,
      implies_true, and_self, h]

theorem setSlots_mems (s : State) (p occ : Nat) : (s.setSlots p occ).mems = s.mems := by
  simp only [State.setSlots, setUlp_mems, wr_mems]

theorem placeMessage_mems (s : State) (p : Nat) (bs : Bytes) : (s.placeMessage p bs).mems = s.mems := by
  unfold State.placeMessage
  dsimp only
  split <;> simp only [fold_mems, inc_mems, setSlots_mems, setWord_mems, implies_true]

theorem controlTake_mems (s : State) (p : Nat) (bs : Bytes) : (s.controlTake p bs).mems = s.mems := by
  simp only [State.controlTake, inc_mems, placeMessage_mems, setUlp_mems, ite_mems, ite_self]

theorem claimTake_mems (s : State) (p : Nat) (bs : Bytes) : (s.claimTake p bs).mems = s.mems := by
  simp only [State.claimTake, flag_mems, inc_mems, wq_mems, mk_mems, ite_mems, ite_self]

theorem packetTake_memsOk {s : State} (h : MemsOk s.mems) (p : Nat) (bs : Bytes) (arr : Nat) :
    MemsOk (s.packetTake p bs arr).mems := by
  simp +contextual only [State.packetTake, bufferFull_mems, claimTake_mems, controlTake_mems, inc_mems, sampleTake_mems,
      timingTake_memsOk, ite_mems, ite_self, memsOk_ite, implies_true, and_self, h]

theorem statusTake_mems (s : State) (p : Nat) (body : Bytes) : (s.statusTake p body).mems = s.mems := by
  simp only [State.statusTake, setUlp_mems, wr_mems, ite_mems, ite_self]

theorem cellTake_mems (s : State) (p : Nat) (cell : Bytes) : (s.cellTake p cell).1.mems = s.mems := by
  unfold State.cellTake
  dsimp only
  repeat' split
  all_goals simp only [portCount_mems, setUlp_mems, statusTake_mems, when_mems]

theorem queueCell_mems (s : State) (p lane : Nat) (c : Option (Bytes × Nat)) : (s.queueCell p lane c).mems = s.mems := by
  simp only [State.queueCell, setUlp_mems]

theorem nextCell_mems (s : State) (p : Nat) {c : Option (Bytes × Nat)} {t : State} (h : s.nextCell p = some (c, t)) :
    t.mems = s.mems := by
  unfold State.nextCell at h
  dsimp only at h
  split at h
  · cases h
  · cases h
    exact setUlp_mems ..

theorem skipCell_mems (s : State) (p : Nat) : (s.skipCell p).mems = s.mems := by
  simp only [State.skipCell, setUlp_mems]

theorem countCells_mems (s : State) (p len : Nat) : (s.countCells p len).mems = s.mems := by
  simp only [State.countCells, setUlp_mems]

theorem wholeCell_mems (s : State) (p kind : Nat) (body : Bytes) : (s.wholeCell p kind body).1.mems = s.mems := by
  unfold State.wholeCell
  dsimp only
  split
  · simp only [skipCell_mems, overlapped_mems, setUlp_mems]
  · simp only [cellTake_mems, overlapped_mems, setUlp_mems]

theorem wholeCells_mems (s : State) (p : Nat) (bs : Bytes) : (s.wholeCells p bs).1.mems = s.mems := by
  have hfold : ∀ (l : List (Bytes × Nat)) (n : Nat) (r : State × Option Bytes),
      (l.foldl (fun r c => r.1.wholeCell p (cellKind n c.2) c.1) r).1.mems = r.1.mems := fun l n => by
    induction l with
    | nil => exact fun r => rfl
    | cons c l ih => exact fun r => (ih _).trans (wholeCell_mems ..)
  exact hfold _ _ _

theorem packetArrive_memsOk {s : State} (h : MemsOk s.mems) (p : Nat) (bs : Bytes) (ticks : Nat) :
    MemsOk (s.packetArrive p bs ticks).mems := by
  have hw : MemsOk (s.wholeCells p bs).1.mems := h.congr (wholeCells_mems ..)
  unfold State.packetArrive
  refine ite_memsOk h (ite_memsOk (packetTake_memsOk (h.congr (countCells_mems ..)) ..) ?_)
  split
  next t b heq => exact packetTake_memsOk (heq ▸ hw : MemsOk (t, some b).1.mems) ..
  next t heq => exact (heq ▸ hw : MemsOk (t, (none : Option Bytes)).1.mems)

theorem statusArrive_mems (s : State) (p : Nat) (body : Bytes) : (s.statusArrive p body).mems = s.mems := by
  simp only [State.statusArrive, ite_mems, statusTake_mems, setUlp_mems, wholeCell_mems, ite_self]

theorem codeword_mems (s : State) (p lane outcome overlap : Nat) : (s.codeword p lane outcome overlap).mems = s.mems := by
  simp only [State.codeword, portCount_mems, setUlp_mems, ite_mems, ite_self]

theorem claimNews_mems (s : State) : s.claimNews.mems = s.mems := by
  simp only [State.claimNews, fold_mems, setUlp_mems, implies_true]

theorem claimSend_mems (s : State) (p : Nat) : (s.claimSend p).mems = s.mems := by
  simp only [State.claimSend, sendPacket_mems, setUlp_mems, ite_mems, ite_self]

theorem timingSend_mems (s : State) (p : Nat) : (s.timingSend p).mems = s.mems := by
  simp only [State.timingSend, sendPacket_mems, ite_mems, ite_self]

theorem controlQueue_mems (s : State) (p mask : Nat) : (s.controlQueue p mask).mems = s.mems := by
  simp only [State.controlQueue, fold_mems, setUlp_mems, wr_mems, ite_mems, ite_self, implies_true]

theorem controlSend_mems (s : State) (p : Nat) : (s.controlSend p).mems = s.mems := by
  unfold State.controlSend
  dsimp only
  repeat' split
  all_goals simp only [inc_mems, sendPacket_mems, setUlp_mems, wr_mems]

theorem slotFree_mems (s : State) (p mask : Nat) : (s.slotFree p mask).mems = s.mems := by
  simp only [State.slotFree, setSlots_mems, setUlp_mems, statusSend_mems, ite_mems, ite_self]

theorem domainReset_mems (s : State) (mask : Nat) : (s.domainReset mask).1.mems = s.mems := by
  unfold State.domainReset
  dsimp only
  split
  · rfl
  · exact fold_mems (fun _ _ => (mk_mems rfl rfl).trans (wq_mems ..)) _

theorem voltageSend_mems (s : State) (p b : Nat) : (s.voltageSend p b).mems = s.mems := by
  unfold State.voltageSend
  dsimp only
  repeat' split
  all_goals simp only [inc_mems, sendPacket_mems, mk_mems]

theorem streamCommit_mems (s : State) : s.streamCommit.mems = s.mems := by
  unfold State.streamCommit
  dsimp only
  split <;> simp only [bindChange_mems, flag_mems, wq_mems, wr_mems, mk_mems]

/-! ## The memories under the functions of PTP -/

theorem setPtp_mems (s : State) (p : Nat) (x : PtPort) : (s.setPtp p x).mems = s.mems := by
  simp only [State.setPtp, mk_mems]

theorem ptpQualify_mems (s : State) (p : Nat) : (s.ptpQualify p).mems = s.mems := by
  simp only [State.ptpQualify, wr_mems, ite_mems, ite_self]

theorem ptpSend_mems (s : State) (p : Nat) (event peer : Bool) (msg : Bytes) : (s.ptpSend p event peer msg).mems = s.mems := by
  simp only [State.ptpSend, etherSend_mems]

theorem syncSend_mems (s : State) (p : Nat) : (s.syncSend p).mems = s.mems := by
  simp only [State.syncSend, inc_mems, ptpQualify_mems, ptpSend_mems, setPtp_mems, ite_mems, ite_self]

theorem dreqSend_mems (s : State) (p : Nat) : (s.dreqSend p).mems = s.mems := by
  simp only [State.dreqSend, ptpSend_mems, setPtp_mems, ite_mems, ite_self]

theorem preqSend_mems (s : State) (p : Nat) : (s.preqSend p).mems = s.mems := by
  simp only [State.preqSend, ptpSend_mems, setPtp_mems, ite_mems, ite_self]

theorem announceSend_mems (s : State) (p : Nat) : (s.announceSend p).mems = s.mems := by
  simp only [State.announceSend, ptpQualify_mems, ptpSend_mems, setPtp_mems, ite_mems, ite_self]

theorem ptpMove_mems (s : State) (p : Nat) (d : Nat × Option Nat) : (s.ptpMove p d).mems = s.mems := by
  simp only [State.ptpMove, setPtp_mems, wr_mems, ite_mems, ite_self]

theorem ptpSelect_mems (s : State) (gone : Option Nat) : (s.ptpSelect gone).mems = s.mems := by
  simp only [State.ptpSelect, fold_mems, ptpMove_mems, ptpQualify_mems, implies_true]

theorem announceTimeout_mems (s : State) (p : Nat) : (s.announceTimeout p).mems = s.mems := by
  simp only [State.announceTimeout, ptpSelect_mems, setPtp_mems, ite_mems, ite_self]

theorem noteDelay_mems (s : State) (p : Nat) (d : Int) : (s.noteDelay p d).mems = s.mems := by
  simp only [State.noteDelay, setPtp_mems, wq_mems]

theorem offerOffset_memsOk {s : State} (h : MemsOk s.mems) (p : Nat) : MemsOk (s.offerOffset p).mems := by
  unfold State.offerOffset
  dsimp only
  split <;> simp +contextual only [refSample_memsOk, wq_mems, wr_mems, fold_memsOk, ite_mems, memsOk_ite, implies_true,
      and_self, h]

theorem syncDone_memsOk {s : State} (h : MemsOk s.mems) (p : Nat) (t1 t2 : Int) : MemsOk (s.syncDone p t1 t2).mems := by
  simp +contextual only [State.syncDone, offerOffset_memsOk, setPtp_mems, h]

theorem takeSync_memsOk {s : State} (h : MemsOk s.mems) (p : Nat) (m : Bytes) (ticks : Nat) :
    MemsOk (s.takeSync p m ticks).mems := by
  simp +contextual only [State.takeSync, inc_mems, setPtp_mems, syncDone_memsOk, ite_mems, memsOk_ite, implies_true, and_self,
      h]

theorem takeFollowUp_memsOk {s : State} (h : MemsOk s.mems) (p : Nat) (m : Bytes) : MemsOk (s.takeFollowUp p m).mems := by
  unfold State.takeFollowUp
  split <;> simp +contextual only [syncDone_memsOk, ite_mems, memsOk_ite, implies_true, and_self, h]

theorem takeDelayReq_mems (s : State) (p : Nat) (m : Bytes) (ticks : Nat) : (s.takeDelayReq p m ticks).mems = s.mems := by
  simp only [State.takeDelayReq, ptpSend_mems, ite_mems, ite_self]

theorem takeDelayResp_memsOk {s : State} (h : MemsOk s.mems) (p : Nat) (m : Bytes) : MemsOk (s.takeDelayResp p m).mems := by
  unfold State.takeDelayResp
  dsimp only
  split <;> simp +contextual only [noteDelay_mems, offerOffset_memsOk, setPtp_mems, ite_mems, memsOk_ite, implies_true,
      and_self, h]

theorem takePdelayReq_mems (s : State) (p : Nat) (m : Bytes) (ticks : Nat) : (s.takePdelayReq p m ticks).mems = s.mems := by
  simp only [State.takePdelayReq, ptpSend_mems, ite_mems, ite_self]

theorem takePdelayResp_mems (s : State) (p : Nat) (m : Bytes) (ticks : Nat) : (s.takePdelayResp p m ticks).mems = s.mems := by
  unfold State.takePdelayResp
  dsimp only
  split <;> simp only [noteDelay_mems, setPtp_mems, ite_mems, ite_self]

theorem takePdelayFollow_mems (s : State) (p : Nat) (m : Bytes) : (s.takePdelayFollow p m).mems = s.mems := by
  unfold State.takePdelayFollow
  dsimp only
  split <;> simp only [noteDelay_mems, setPtp_mems, ite_mems, ite_self]

theorem takeAnnounce_mems (s : State) (p : Nat) (m : Bytes) : (s.takeAnnounce p m).mems = s.mems := by
  simp only [State.takeAnnounce, inc_mems, ptpSelect_mems, setPtp_mems, ite_mems, ite_self]

theorem ptpTake_memsOk {s : State} (h : MemsOk s.mems) (p : Nat) (m : Bytes) (ticks : Nat) :
    MemsOk (s.ptpTake p m ticks).mems := by
  simp +contextual only [State.ptpTake, inc_mems, takeAnnounce_mems, takeDelayReq_mems, takeDelayResp_memsOk,
      takeFollowUp_memsOk, takePdelayFollow_mems, takePdelayReq_mems, takePdelayResp_mems, takeSync_memsOk, ite_mems, ite_self,
      memsOk_ite, implies_true, and_self, h]

theorem ptpArrive_memsOk {s : State} (h : MemsOk s.mems) (p : Nat) (m : Bytes) (ticks : Nat) :
    MemsOk (s.ptpArrive p m ticks).mems := by
  simp +contextual only [State.ptpArrive, ptpTake_memsOk, ite_mems, memsOk_ite, implies_true, and_self, h]

theorem etherTake_memsOk {s : State} (h : MemsOk s.mems) (p : Nat) (fcsOk : Bool) (f : Bytes) (ticks corr uncorr : Nat) :
    MemsOk (s.etherTake p fcsOk f ticks corr uncorr).mems := by
  unfold State.etherTake
  dsimp only
  repeat' split
  all_goals simp +contextual only [inc_mems, incBy_mems, ptpTake_memsOk, h]

theorem ethLost_memsOk {s : State} (h : MemsOk s.mems) (p : Nat) : MemsOk (s.ethLost p).mems := by
  simp +contextual only [State.ethLost, ethLoss_mems, ptpSelect_mems, refPortDown_memsOk, ite_mems, memsOk_ite, implies_true,
      and_self, h]

theorem ethRise_mems (s : State) (p : Nat) : (s.ethRise p).mems = s.mems := by
  simp only [State.ethRise, ethUpNow_mems, ptpSelect_mems]

/-! ## The memories under the functions of the HBM controllers -/

theorem setHchan_mems (s : State) (st c : Nat) (x : HbmChan) : (s.setHchan st c x).mems = s.mems := by
  simp only [State.setHchan, mk_mems]

theorem setHstk_mems (s : State) (st : Nat) (x : HbmStack) : (s.setHstk st x).mems = s.mems := by
  simp only [State.setHstk, mk_mems]

theorem admitReq_mems (s : State) (st c : Nat) (r : HbmReq) : (s.admitReq st c r).mems = s.mems := by
  simp only [State.admitReq, setHchan_mems, setHstk_mems, wr_mems, ite_mems, ite_self]

theorem admitWaiting_mems (s : State) (st : Nat) : (s.admitWaiting st).mems = s.mems := by
  simp only [State.admitWaiting, admitReq_mems, fold_mems, setHstk_mems, implies_true]

theorem dueSpare_mems (s : State) (st row origin : Nat) : (s.dueSpare st row origin).mems = s.mems := by
  simp only [State.dueSpare, setHstk_mems, ite_mems, ite_self]

theorem eccCorrected_mems (s : State) (st row : Nat) : (s.eccCorrected st row).mems = s.mems := by
  simp only [State.eccCorrected, flag_mems, health_mems, inc_mems]

theorem eccPoisoned_mems (s : State) (st chan cls bank row pc col word : Nat) :
    (s.eccPoisoned st chan cls bank row pc col word).mems = s.mems := by
  simp only [State.eccPoisoned, dueSpare_mems, fire_mems, flag_mems, health_mems, inc_mems, mk_mems]

theorem withhold_mems (s : State) (st stream inst seg : Nat) : (s.withhold st stream inst seg).mems = s.mems := by
  unfold State.withhold
  split <;> simp only [inc_mems, markSent_mems, ite_mems, ite_self]

theorem poisonReact_memsOk {s : State} (h : MemsOk s.mems) (st : Nat) (u : HbmUse) : MemsOk (s.poisonReact st u).mems := by
  cases u with
  | board => exact ite_memsOk (h.congr (mk_mems rfl rfl)) h
  | beam => exact ite_memsOk (h.congr (mk_mems rfl rfl)) h
  | drain g area c a b => exact (recPut_memsOk h ..).congr ((impair_mems ..).trans (noteMark_mems ..))
  | detect x w b c => exact h.congr ((impair_mems ..).trans (spoilDet_mems ..))
  | output stream inst seg => exact h.congr (withhold_mems ..)
  | staging p b =>
    unfold State.poisonReact
    dsimp only
    split
    · exact h.congr ((inc_mems ..).trans (mk_mems rfl rfl))
    · exact h
  | master m => exact h.congr (mk_mems rfl rfl)

theorem neighbour_mems (s : State) (st c bank row draw : Nat) : (s.neighbour st c bank row draw).mems = s.mems := by
  simp only [State.neighbour, admitReq_mems, setHchan_mems, ite_mems, ite_self]

theorem serveReq_memsOk {s : State} (h : MemsOk s.mems) (st c : Nat) (r : HbmReq) (v : HbmService) :
    MemsOk (s.serveReq st c r v).mems := by
  unfold State.serveReq
  dsimp only
  generalize hq : (s.setHchan st c _).admitWaiting st = t
  have ht : MemsOk t.mems := h.congr (hq ▸ (admitWaiting_mems ..).trans (setHchan_mems ..))
  refine ite_memsOk (ht.congr (inc_mems ..)) ?_
  have hn : MemsOk (if v.act = true then t.neighbour st c r.bank r.row v.draw else t).mems :=
    ite_memsOk (ht.congr (neighbour_mems ..)) ht
  generalize (if v.act = true then t.neighbour st c r.bank r.row v.draw else t) = u at hn
  split
  · exact hn
  · refine ite_memsOk hn (ite_memsOk (hn.congr (eccCorrected_mems ..)) ?_)
    exact poisonReact_memsOk (hn.congr (eccPoisoned_mems ..)) ..

theorem hbmServe_memsOk {s : State} (h : MemsOk s.mems) (st c : Nat) (new : List HbmArrival) (ready : List Nat)
    (v : HbmService) : MemsOk (s.hbmServe st c new ready v).mems := by
  have ha : ∀ f : HbmArrival → HbmReq, (s.fold new (fun s a => s.admitReq st c (f a))).mems = s.mems :=
    fun f => fold_mems (fun t a => admitReq_mems ..) _
  unfold State.hbmServe
  refine ite_memsOk (fold_memsOk h (fun t a ht => ?_) _) (ite_memsOk h (ite_memsOk (h.congr ?_) ?_))
  · split
    · exact poisonReact_memsOk ht ..
    · exact ht
  · exact fold_mems (fun t a => admitReq_mems ..) _
  · split
    · exact serveReq_memsOk (h.congr (fold_mems (fun t a => admitReq_mems ..) _)) ..
    · exact h.congr (fold_mems (fun t a => admitReq_mems ..) _)

theorem agePromote_mems (s : State) (st c : Nat) : (s.agePromote st c).mems = s.mems := by
  simp only [State.agePromote, incBy_mems, setHchan_mems]

theorem showOwed_mems (s : State) (st : Nat) : (s.showOwed st).mems = s.mems := by
  simp only [State.showOwed, wr_mems]

theorem refreshDue_mems (s : State) (st c : Nat) (paid : Bool) : (s.refreshDue st c paid).mems = s.mems := by
  simp only [State.refreshDue, setHchan_mems, showOwed_mems, ite_mems, ite_self]

theorem stackHot_mems (s : State) (st : Nat) : (s.stackHot st).mems = s.mems := by
  unfold State.stackHot
  dsimp only
  split <;> simp only [fold_mems, inc_mems, setHchan_mems, setHstk_mems, showOwed_mems, wr_mems, ite_mems, ite_self,
      implies_true]

theorem stackCool_mems (s : State) (st : Nat) : (s.stackCool st).mems = s.mems := by
  simp only [State.stackCool, wr_mems]

theorem hbmTemp_mems (s : State) (st temp : Nat) : (s.hbmTemp st temp).mems = s.mems := by
  simp only [State.hbmTemp, setHstk_mems, stackCool_mems, stackHot_mems, wr_mems, ite_mems, ite_self]

theorem trngFail_mems (s : State) : s.trngFail.mems = s.mems := by
  simp only [State.trngFail, flag_mems, health_mems, mk_mems, ite_mems, ite_self]

theorem trngRetry_mems (s : State) (passes : Bool) : (s.trngRetry passes).mems = s.mems := by
  simp only [State.trngRetry, wr_mems, mk_mems, ite_mems, ite_self]

theorem scrubRead_mems (s : State) (st c bank row pc col word pass outcome : Nat) (newer : Bool) :
    (s.scrubRead st c bank row pc col word pass outcome newer).mems = s.mems := by
  simp only [State.scrubRead, dueSpare_mems, eccCorrected_mems, eccPoisoned_mems, inc_mems, setHstk_mems, when_mems, ite_mems,
      ite_self]

theorem rowSpare_mems (s : State) (st : Nat) : (s.rowSpare st).mems = s.mems := by
  unfold State.rowSpare
  dsimp only
  split <;> simp only [setHchan_mems, setHstk_mems, wr_mems, ite_mems, ite_self]

theorem useSpare_mems (s : State) (st id : Nat) : (s.useSpare st id).mems = s.mems := by
  simp only [State.useSpare, setHstk_mems, wr_mems]

theorem rowCopied_mems (s : State) (st : Nat) : (s.rowCopied st).mems = s.mems := by
  unfold State.rowCopied
  split <;> simp only [inc_mems, logRepair_mems, useSpare_mems]

theorem phyCentre_mems (s : State) (st c : Nat) : (s.phyCentre st c).mems = s.mems := by
  simp only [State.phyCentre, setHchan_mems, ite_mems, ite_self]

theorem trainingDone_mems (s : State) (st : Nat) (ok : Bool) : (s.trainingDone st ok).mems = s.mems := by
  simp only [State.trainingDone, wr_mems, mk_mems, ite_mems, ite_self]

/-! ## The memories under the functions of the cores -/

theorem setCore_mems (s : State) (n : Nat) (c : SpCore) : (s.setCore n c).mems = s.mems := by
  simp only [State.setCore, mk_mems]

theorem spSet_mems (s : State) (n i v : Nat) : (s.spSet n i v).mems = s.mems := by
  simp only [State.spSet, setCore_mems]

theorem spLate_mems (s : State) (n view slots i v : Nat) : (s.spLate n view slots i v).mems = s.mems := by
  simp only [State.spLate, setCore_mems]

theorem setSpWord_mems (s : State) (n w v : Nat) : (s.setSpWord n w v).mems = s.mems := mk_mems rfl rfl

theorem spFree_mems (s : State) (w : Nat) : (s.spFree w).2.mems = s.mems := tick_mems s

theorem spFault_mems (s : State) (n code : Nat) : (s.spFault n code).mems = s.mems := by
  simp only [State.spFault, flag_mems, setCore_mems, wr_mems]

theorem spEmpty_mems (s : State) (n : Nat) : (s.spEmpty n).mems = s.mems := by
  simp only [State.spEmpty, setCore_mems]

theorem spBoundary_mems (s : State) (n : Nat) : (s.spBoundary n).mems = s.mems := by
  simp only [State.spBoundary, setCore_mems, spEmpty_mems, wr_mems, ite_mems, ite_self]

theorem spTicked_mems (s : State) (n : Nat) : (s.spTicked n).mems = s.mems := by
  simp only [State.spTicked, inc_mems, setCore_mems]

theorem spAdvance_mems (s : State) (n : Nat) : (s.spAdvance n).mems = s.mems := by
  unfold State.spAdvance
  dsimp only
  split <;> simp only [setCore_mems, spBoundary_mems, wr_mems, ite_mems, ite_self]

/-- What the body of an instruction answers leaves the memories alone. -/
def AspOut.Keeps (s : State) : AspOut → Prop
  | .done t => t.mems = s.mems
  | _ => True

theorem aspTurns_mems {body : AspBody} (hb : ∀ s x t, (body s x t).Keeps s) (i : Instr) (n : Nat) (rep : Bool) (k : Nat) :
    ∀ (t : Nat) (x : Option Nat) (s : State), (aspTurns body i n rep k t x s).mems = s.mems := by
  have hkeep : ∀ (s : State) (r : Option Nat), (s.when rep fun s => s.setCore n { s.core n with rpt := r }).mems = s.mems :=
    fun s r => when_mems (setCore_mems ..)
  induction k with
  | zero => exact fun t x s => (spAdvance_mems ..).trans (hkeep s none)
  | succ k ih =>
    intro t x s
    have hs := hb s x t
    unfold aspTurns
    dsimp only
    split
    · next u hu =>
      rw [hu] at hs
      exact (ih ..).trans ((spTicked_mems ..).trans hs)
    · exact hkeep s _
    · exact (setCore_mems ..).trans (hkeep s _)
    · exact spFault_mems ..

theorem spCache_mems (s : State) (n : Nat) : (s.spCache n).mems = s.mems := by
  simp only [State.spCache, setCore_mems]

theorem aspExec_mems (s : State) (n : Nat) (ctl : Bool) (i : Instr) {body : AspBody} (hb : ∀ s x t, (body s x t).Keeps s) :
    (s.aspExec n ctl i body).mems = s.mems := by
  unfold State.aspExec
  dsimp only
  split
  · split
    · exact spFault_mems ..
    · split
      · exact aspTurns_mems hb ..
      · exact (aspTurns_mems hb ..).trans (spCache_mems ..)
  · rfl

theorem spStatusSet_mems (s : State) (n v : Nat) : (s.spStatusSet n v).mems = s.mems := by
  simp only [State.spStatusSet, setCore_mems]

theorem spFlags_mems (s : State) (n : Nat) (acc v z neg c : Bool) : (s.spFlags n acc v z neg c).mems = s.mems := by
  simp only [State.spFlags, spStatusSet_mems]

theorem spFreeBit_mems (s : State) : s.spFreeBit.2.mems = s.mems := tick_mems s

theorem spFlagsLate_mems (s : State) (n : Nat) (v z neg c : Bool) : (s.spFlagsLate n v z neg c).mems = s.mems := by
  simp only [State.spFlagsLate, spLate_mems]

theorem spBump_mems (s : State) (n : Nat) (o : AspMem) (p : Option Nat) : (s.spBump n o p).mems = s.mems := by
  unfold State.spBump
  split <;> simp only [spSet_mems]

theorem spEcc_mems (s : State) (n t : Nat) (e : AspEcc) {u : State} (h : s.spEcc n t e = some u) : u.mems = s.mems := by
  unfold State.spEcc at h
  split at h
  · cases h
  · split at h
    · cases h
      exact (flag_mems ..).trans (inc_mems ..)
    · cases h
      rfl

theorem spBranch_mems (s : State) (n : Nat) (target : Option Nat) (reti : Bool) : (s.spBranch n target reti).mems = s.mems := by
  simp only [State.spBranch, setCore_mems]

theorem aspBranchBody_keeps (n cond target : Nat) (s : State) (x : Option Nat) (t : Nat) :
    (aspBranchBody n cond target s x t).Keeps s := by
  unfold aspBranchBody
  repeat' split
  all_goals simp only [AspOut.Keeps, spBranch_mems]

theorem aspCallBody_keeps (n target : Nat) (s : State) (x : Option Nat) (t : Nat) :
    (aspCallBody n target s x t).Keeps s := by
  unfold aspCallBody
  dsimp only
  repeat' split
  all_goals simp only [AspOut.Keeps, spBranch_mems, setCore_mems]

theorem aspRetBody_keeps (n : Nat) (s : State) (x : Option Nat) (t : Nat) :
    (aspRetBody n s x t).Keeps s := by
  unfold aspRetBody
  dsimp only
  repeat' split
  all_goals simp only [AspOut.Keeps, spBranch_mems, setCore_mems]

theorem aspLoopBody_keeps (n target : Nat) (s : State) (x : Option Nat) (t : Nat) :
    (aspLoopBody n target s x t).Keeps s := by
  unfold aspLoopBody
  simp only [AspOut.Keeps, spBranch_mems, spSet_mems]

theorem aspWaitBody_keeps (n : Nat) (s : State) (x : Option Nat) (t : Nat) :
    (aspWaitBody n s x t).Keeps s := by
  unfold aspWaitBody
  simp only [AspOut.Keeps, when_mems, wr_mems]

theorem aspEnableBody_keeps (n : Nat) (on : Bool) (s : State) (x : Option Nat) (t : Nat) :
    (aspEnableBody n on s x t).Keeps s := by
  unfold aspEnableBody
  simp only [AspOut.Keeps, spLate_mems]

theorem aspRetiBody_keeps (n : Nat) (s : State) (x : Option Nat) (t : Nat) :
    (aspRetiBody n s x t).Keeps s := by
  unfold aspRetiBody
  simp only [AspOut.Keeps, spBranch_mems]

theorem aspSigBody_keeps (n o : Nat) (s : State) (x : Option Nat) (t : Nat) :
    (aspSigBody n o s x t).Keeps s := by
  unfold aspSigBody
  simp only [AspOut.Keeps, fire_mems]

theorem aspHintBody_keeps (n : Nat) (s : State) (x : Option Nat) (t : Nat) :
    (aspHintBody n s x t).Keeps s := by
  unfold aspHintBody
  simp only [AspOut.Keeps, irq_mems, flag_mems]

theorem aspRptBody_keeps (n : Nat) (count : Option (BitVec 12)) (s : State) (x : Option Nat) (t : Nat) :
    (aspRptBody n count s x t).Keeps s := by
  unfold aspRptBody
  dsimp only
  repeat' split
  all_goals simp only [AspOut.Keeps, setCore_mems]

theorem spMoveTo_mems (s : State) (n : Nat) (r : AspReg) (v : Nat) : (s.spMoveTo n r v).mems = s.mems := by
  unfold State.spMoveTo
  dsimp only
  repeat' split
  all_goals simp only [setCore_mems, spLate_mems, spSet_mems, spStatusSet_mems]

theorem aspMoviBody_keeps (n : Nat) (dst : AspReg) (high : Bool) (imm : BitVec 16) (s : State) (x : Option Nat) (t : Nat) :
    (aspMoviBody n dst high imm s x t).Keeps s := by
  unfold aspMoviBody
  repeat' split
  all_goals simp only [AspOut.Keeps, spMoveTo_mems]

theorem outPush_mems (s : State) (n k w : Nat) {u : State} (h : s.outPush n k w = some u) : u.mems = s.mems := by
  unfold State.outPush at h
  dsimp only at h
  repeat' split at h
  all_goals cases h
  · rfl
  · exact inc_mems ..
  · exact setCore_mems ..

theorem spWiden_mems (s : State) (v m n : Nat) : (s.spWiden v m n).2.mems = s.mems := by
  unfold State.spWiden
  split
  · exact tick_mems s
  · rfl

theorem spPut_keeps (s : State) (n : Nat) (dst : AspReg) (v w : Nat) (load : Bool) : (s.spPut n dst v w load).Keeps s := by
  unfold State.spPut
  dsimp only
  split
  case h_4 =>
    split
    · trivial
    · next h => exact (outPush_mems _ _ _ _ h).trans (spWiden_mems ..)
  all_goals simp only [AspOut.Keeps, ite_mems, spLate_mems, spSet_mems, spMoveTo_mems, spWiden_mems, ite_self]

theorem aspMovBody_keeps (n : Nat) (dst src : AspReg) (s : State) (x : Option Nat) (t : Nat) :
    (aspMovBody n dst src s x t).Keeps s := by
  have hput : ∀ (u : State) (v w : Nat) (load : Bool), u.mems = s.mems → (u.spPut n dst v w load).Keeps s := by
    intro u v w load hu
    have hk := spPut_keeps u n dst v w load
    unfold AspOut.Keeps at hk ⊢
    rw [← hu]
    exact hk
  unfold aspMovBody
  dsimp only
  split
  · trivial
  · trivial
  · exact hput _ _ _ _ rfl
  · exact hput _ _ _ _ rfl
  · split
    · split <;> trivial
    · exact hput _ _ _ _ (setCore_mems ..)
  · split
    · trivial
    · exact hput _ _ _ _ rfl

theorem aspModpBody_keeps (n : Nat) (ptr : Fin 8) (step : BitVec 16) (s : State) (x : Option Nat) (t : Nat) :
    (aspModpBody n ptr step s x t).Keeps s := by
  unfold aspModpBody
  simp only [AspOut.Keeps, spMoveTo_mems]

theorem aspExtBody_keeps (n : Nat) (dst src : AspReg) (pos width1 : Nat) (s : State) (x : Option Nat) (t : Nat) :
    (aspExtBody n dst src pos width1 s x t).Keeps s := by
  unfold aspExtBody
  dsimp only
  repeat' split
  all_goals simp only [AspOut.Keeps, spMoveTo_mems, spWiden_mems]

theorem aspInsBody_keeps (n : Nat) (dst src : AspReg) (pos width1 : Nat) (s : State) (x : Option Nat) (t : Nat) :
    (aspInsBody n dst src pos width1 s x t).Keeps s := by
  unfold aspInsBody
  dsimp only
  repeat' split
  all_goals simp only [AspOut.Keeps, spMoveTo_mems, spWiden_mems]

theorem aspLoadBody_keeps (n : Nat) (y : Bool) (op : AspMem) (dst : Fin 16) (e : AspEcc) (s : State) (x : Option Nat) (t : Nat)
    :
    (aspLoadBody n y op dst e s x t).Keeps s := by
  unfold aspLoadBody
  split
  · trivial
  · split
    · trivial
    · trivial
    · split
      · trivial
      · next h => exact (spBump_mems ..).trans ((spLate_mems ..).trans (spEcc_mems s n t e h))

theorem aspStoreBody_keeps (n : Nat) (y : Bool) (op : AspMem) (src : Fin 16) (s : State) (x : Option Nat) (t : Nat) :
    (aspStoreBody n y op src s x t).Keeps s := by
  unfold aspStoreBody
  dsimp only
  repeat' split
  all_goals simp only [AspOut.Keeps, spBump_mems, setSpWord_mems]

theorem aspAluBody_keeps (n : Nat) (o : AluOp) (sat : Bool) (dst : Option (Fin 16)) (a : Fin 16) (b : AspSrc)
    (s : State) (x : Option Nat) (t : Nat) : (aspAluBody n o sat dst a b s x t).Keeps s := by
  unfold aspAluBody
  dsimp only
  cases aluExact o (s.spInt n a) (s.spSrc n b) <;> cases dst <;> dsimp only <;> split <;>
    simp only [AspOut.Keeps, spFlags_mems, spSet_mems, spFreeBit_mems, spFree_mems]

theorem aspMulBody_keeps (n : Nat) (f : Int → Int → Int) (sat : Bool) (acc : Fin 4) (a b : AspHalf) (par : AspPar)
    (e : AspEcc) (s : State) (x : Option Nat) (t : Nat) : (aspMulBody n f sat acc a b par e s x t).Keeps s := by
  unfold aspMulBody
  split
  · trivial
  · split
    · trivial
    · trivial
    · split
      · trivial
      · next h => simp only [AspOut.Keeps, spBump_mems, spLate_mems, spFlagsLate_mems, spFreeBit_mems, spEcc_mems s n t e h]

theorem spPair_mems (s : State) (n : Nat) (sat : Bool) (a : Nat) (p : Int × Int) : (s.spPair n sat a p).1.mems = s.mems :=
  (spLate_mems ..).trans (spLate_mems ..)

theorem spPairFlags_mems (s : State) (n : Nat) (v : Bool) (accs : List Nat) : (s.spPairFlags n v accs).mems = s.mems :=
  (spFlagsLate_mems ..).trans ((spFreeBit_mems _).trans (spFreeBit_mems s))

theorem aspCmacBody_keeps (n : Nat) (sat conj : Bool) (pair : Fin 2) (x : AspMem) (hp : Bool) (h : AspMem) (e : AspEcc)
    (s : State) (w : Option Nat) (t : Nat) : (aspCmacBody n sat conj pair x hp h e s w t).Keeps s := by
  unfold aspCmacBody
  split
  · trivial
  · split
    · split
      · trivial
      · trivial
      · split
        · trivial
        · next he => simp only [AspOut.Keeps, spBump_mems, spPairFlags_mems, spPair_mems, when_mems, tick_mems, spEcc_mems s n
            t e he]
      · trivial
      · trivial
    · trivial

theorem aspCmac2Body_keeps (n : Nat) (sat conj : Bool) (x y h : AspMem) (e : AspEcc) (s : State) (w : Option Nat) (t : Nat) :
    (aspCmac2Body n sat conj x y h e s w t).Keeps s := by
  unfold aspCmac2Body
  split
  · trivial
  · split
    · split
      · trivial
      · trivial
      · split
        · trivial
        · next he => simp only [AspOut.Keeps, spBump_mems, spPairFlags_mems, spPair_mems, tick_mems, spEcc_mems s n t e he]
      · trivial
      · trivial
    · trivial

theorem aspMovaBody_keeps (n : Nat) (sat : Bool) (dst : Fin 16) (a : Fin 4) (b : Option (Fin 4)) (sh : Nat) (s : State) (x :
    Option Nat) (t : Nat) :
    (aspMovaBody n sat dst a b sh s x t).Keeps s := by
  unfold aspMovaBody
  dsimp only
  repeat' split
  all_goals simp only [AspOut.Keeps, spSet_mems, spFlags_mems, spFreeBit_mems]

theorem aspClraBody_keeps (n : Nat) (mask : BitVec 4) (s : State) (x : Option Nat) (t : Nat) :
    (aspClraBody n mask s x t).Keeps s := by
  unfold aspClraBody
  simp only [AspOut.Keeps, spFlags_mems, spFreeBit_mems, fold_mems, when_mems, spSet_mems, implies_true]

theorem aspAddaBody_keeps (n : Nat) (sat : Bool) (dst a b : Fin 4) (s : State) (x : Option Nat) (t : Nat) :
    (aspAddaBody n sat dst a b s x t).Keeps s := by
  unfold aspAddaBody
  simp only [AspOut.Keeps, spSet_mems, spFlags_mems]

theorem aspShaBody_keeps (n : Nat) (sat : Bool) (a : Fin 4) (left : Bool) (sh : Nat) (s : State) (x : Option Nat) (t : Nat) :
    (aspShaBody n sat a left sh s x t).Keeps s := by
  unfold aspShaBody
  simp only [AspOut.Keeps, spSet_mems, spFlags_mems, spFreeBit_mems]

theorem aspResume_keeps {n : Nat} {i : Instr} {body : AspBody} (h : aspResume n i = some body) (s : State) (x : Option Nat)
    (t : Nat) : (body s x t).Keeps s := by
  unfold aspResume at h
  split at h
  all_goals cases h
  · exact aspLoadBody_keeps ..
  · exact aspStoreBody_keeps ..
  · exact aspMulBody_keeps ..
  · exact aspMulBody_keeps ..
  · exact aspMulBody_keeps ..
  · exact aspCmacBody_keeps ..
  · exact aspCmac2Body_keeps ..

theorem aspExternDone_mems (s : State) (n : Nat) (x : AspExt) (answer : Option Nat) :
    (s.aspExternDone n x answer).mems = s.mems := by
  unfold State.aspExternDone
  dsimp only
  split
  next w body _ heq => exact (aspTurns_mems (aspResume_keeps heq) ..).trans (setCore_mems ..)
  next => exact setCore_mems ..
  next => exact (spFault_mems ..).trans (setCore_mems ..)

theorem aspInterrupt_mems (s : State) (n : Nat) : (s.aspInterrupt n).mems = s.mems := by
  unfold State.aspInterrupt
  dsimp only
  repeat' split
  all_goals simp only [inc_mems, setCore_mems, when_mems, wr_mems]

theorem streamMove_mems (s : State) (n k m p : Nat) : (s.streamMove n k m p).mems = s.mems := by
  simp only [State.streamMove, setCore_mems]

theorem streamDeliver_mems (s : State) (n k : Nat) : (s.streamDeliver n k).mems = s.mems := by
  unfold State.streamDeliver
  dsimp only
  split <;> simp only [setCore_mems, tick_mems, ite_mems, ite_self]

theorem aspStream_mems (s : State) (n k : Nat) : (s.aspStream n k).mems = s.mems := by
  unfold State.aspStream
  simp only [ite_mems]
  repeat' split
  all_goals simp only [streamDeliver_mems, streamMove_mems]

theorem aspReset_mems (s : State) (n : Nat) : (s.aspReset n).mems = s.mems := by
  simp only [State.aspReset, setCore_mems, wr_mems]

theorem aspRelease_mems (s : State) (n : Nat) : (s.aspRelease n).mems = s.mems := by
  simp only [State.aspRelease, wr_mems, ite_mems, ite_self]

theorem aspRun_mems (s : State) (n : Nat) : (s.aspRun n).mems = s.mems := by
  simp only [State.aspRun, wr_mems, ite_mems, ite_self]

theorem aspStop_mems (s : State) (n : Nat) : (s.aspStop n).mems = s.mems := by
  simp only [State.aspStop, setCore_mems, spBoundary_mems, wr_mems, ite_mems, ite_self]

theorem aspStep_mems (s : State) (n : Nat) : (s.aspStep n).mems = s.mems := by
  simp only [State.aspStep, setCore_mems, ite_mems, ite_self]

theorem aspControl_mems (s : State) (n v : Nat) : (s.aspControl n v).mems = s.mems := by
  simp only [State.aspControl, aspRelease_mems, aspReset_mems, aspRun_mems, aspStep_mems, aspStop_mems, when_mems, ite_mems,
      ite_self]

theorem aspSuspend_mems (s : State) (n : Nat) : (s.aspSuspend n).mems = s.mems := by
  simp only [State.aspSuspend, setCore_mems, spBoundary_mems, ite_mems, ite_self]

theorem aspResumeRun_mems (s : State) (n : Nat) : (s.aspResumeRun n).mems = s.mems := by
  simp only [State.aspResumeRun, flag_mems, setCore_mems, wr_mems, ite_mems, ite_self]

theorem aspMessage_mems (s : State) (n : Nat) (v : Word) : (s.aspMessage n v).mems = s.mems := by
  simp only [State.aspMessage, setCore_mems, setWord_mems]

/-! ## The memories under the functions of the event fabric -/

theorem taskOver_mems (s : State) (t : Nat) : (s.taskOver t).mems = s.mems := by
  simp only [State.taskOver, flag_mems, inc_mems]

theorem taskArrive_mems (s : State) (t hop : Nat) : (s.taskArrive t hop).mems = s.mems := by
  simp only [State.taskArrive, inc_mems, taskOver_mems, when_mems, wr_mems, mk_mems, ite_mems, ite_self]

theorem chanEnter_mems (e : State) (hop c : Nat) (x : State × List Nat × List Nat) :
    (e.chanEnter hop c x).1.mems = x.1.mems := by
  obtain ⟨s, on, off⟩ := x
  unfold State.chanEnter
  dsimp only
  repeat' split
  all_goals simp only [inc_mems, flag_mems, taskArrive_mems]

theorem eventEnter_mems (e : State) (x : State × List Nat × List Nat) (ev : Nat × Nat) :
    (e.eventEnter x ev).1.mems = x.1.mems := by
  unfold State.eventEnter
  generalize List.filter _ _ = l
  induction l generalizing x with
  | nil => rfl
  | cons c l ih => exact (ih _).trans (chanEnter_mems ..)

theorem deliverEvents_mems (s : State) (more : Nat) : (s.deliverEvents more).mems = s.mems := by
  have hfold : ∀ (l : List (Nat × Nat)) (x : State × List Nat × List Nat), (l.foldl s.eventEnter x).1.mems = x.1.mems :=
    fun l => by
      induction l with
      | nil => exact fun x => rfl
      | cons e l ih => exact fun x => (ih _).trans (eventEnter_mems ..)
  exact (wr_mems ..).trans ((hfold _ _).trans (mk_mems rfl rfl))

theorem relay_mems (s : State) (k : Nat) : (s.relay k).mems = s.mems := by
  unfold State.relay
  dsimp only
  split <;> simp only [mk_mems]

theorem evioDrive_mems (s : State) (p : Nat) (b : Bool) : (s.evioDrive p b).mems = s.mems := by
  simp only [State.evioDrive, emit_mems, mk_mems, ite_mems, ite_self]

theorem evioAction_mems (s : State) (p : Nat) : (s.evioAction p).mems = s.mems := by
  simp only [State.evioAction, evioDrive_mems, mk_mems, ite_mems, ite_self]

theorem evioPulseEnd_mems (s : State) (p : Nat) : (s.evioPulseEnd p).mems = s.mems := by
  simp only [State.evioPulseEnd, evioDrive_mems, mk_mems, ite_mems, ite_self]

theorem evioEdge_mems (s : State) (p : Nat) (rise : Bool) (held : Nat) : (s.evioEdge p rise held).mems = s.mems := by
  simp only [State.evioEdge, fire_mems, inc_mems, when_mems, mk_mems, ite_mems, ite_self]

theorem taskTake_mems {s : State} (t : Nat) {f : State → State} (hf : ∀ u, (f u).mems = u.mems) :
    (s.taskTake t f).mems = s.mems := by
  simp only [State.taskTake, ite_mems, hf, wr_mems, ite_self]

/-! ## The memories under the functions of the listening post -/

theorem auRefill_mems (s : State) (m : Nat) : (s.auRefill m).mems = s.mems := by
  simp only [State.auRefill, auFlush_mems, auSetQ_mems, incBy_mems, wr_mems]

theorem auStore_mems (s : State) (m w : Nat) : (s.auStore m w).mems = s.mems := by
  simp only [State.auStore, auSetQ_mems, mk_mems]

theorem auOverrun_mems (s : State) (m : Nat) : (s.auOverrun m).mems = s.mems := by
  simp only [State.auOverrun, auFlush_mems, auRefill_mems, flag_mems, inc_mems, wr_mems, ite_mems, ite_self]

theorem auAppend_mems (s : State) (m w : Nat) : (s.auAppend m w).mems = s.mems := by
  simp only [State.auAppend, auOverrun_mems, auStore_mems, inc_mems, ite_mems, ite_self]

theorem auWord_mems (s : State) (m : Nat) (x : Option Word) : (s.auWord m x).mems = s.mems := by
  unfold State.auWord
  dsimp only
  repeat' split
  all_goals simp only [auAppend_mems, inc_mems, setCore_mems]

theorem auTurn_mems (s : State) (m : Nat) : (s.auTurn m).mems = s.mems := by
  simp only [State.auTurn, flag_mems, inc_mems, wr_mems, ite_mems, ite_self]

theorem auChannel_mems (s : State) (m : Nat) : (s.auChannel m).1.mems = s.mems := by
  unfold State.auChannel
  dsimp only
  repeat' split
  all_goals simp only [auQuiet_mems, auTurn_mems, auSetQ_mems, auSetG_mems, auRefill_mems, wr_mems, when_mems]

theorem auInstant_memsOk {s : State} (h : MemsOk s.mems) : MemsOk s.auInstant.1.mems := by
  unfold State.auInstant
  refine ite_fst_memsOk (h.congr (mk_mems rfl rfl)) ?_
  exact (ticked_memsOk (h.congr (elapseTo_mems ..))).congr (mk_mems rfl rfl)

theorem auOutput_mems (s : State) (f o : Nat) : (s.auOutput f o).mems = s.mems :=
  (emit_mems ..).trans ((auChannel_mems ..).trans (auChannel_mems s (2 * o)))

theorem aesFrame_memsOk {s : State} (h : MemsOk s.mems) : MemsOk s.aesFrame.mems := by
  unfold State.aesFrame
  refine ite_memsOk ?_ h
  dsimp only
  refine (auInstant_memsOk h).congr ((fold_mems (fun t o => auOutput_mems ..) _).trans ?_)
  split
  · exact (tick_mems ..).trans (mk_mems rfl rfl)
  · rfl

theorem auClock_mems (s : State) (ref : Bool) : (s.auClock ref).mems = s.mems := by
  simp only [State.auClock, wr_mems, mk_mems]

theorem auLost_mems (s : State) : s.auLost.mems = s.mems := by
  simp only [State.auLost, flag_mems, wr_mems, mk_mems, ite_mems, ite_self]

theorem auMeasure_mems (s : State) (off : Int) : (s.auMeasure off).mems = s.mems := by
  simp only [State.auMeasure, auLost_mems, flag_mems, wr_mems, mk_mems, ite_mems, ite_self]

theorem auLock_mems (s : State) : s.auLock.mems = s.mems := by
  simp only [State.auLock, wr_mems, mk_mems, ite_mems, ite_self]

/-! ## The memories under the functions of castling -/

theorem setCast_mems (s : State) (x : Nat) : (s.setCast x).mems = s.mems := by
  simp only [State.setCast, auCheck_mems, wr_mems]

theorem discardCovered_mems (s : State) : s.discardCovered.mems = s.mems := by
  unfold State.discardCovered
  refine fold_mems (fun t _ => ?_) _
  split
  · rfl
  · refine fold_mems (fun t _ => ?_) _
    split
    · exact markSent_mems ..
    · rfl

theorem numberHeld_mems (s : State) (stream f : Nat) (old : Inst → Bool) : (s.numberHeld stream f old).mems = s.mems := by
  simp only [State.numberHeld, fold_mems, instDone_mems, numberInst_mems, wq_mems, mk_mems, ite_mems, ite_self, implies_true]

theorem numberRest_mems (s : State) : s.numberRest.mems = s.mems := by
  simp only [State.numberRest, fold_mems, numberHeld_mems, implies_true]

theorem ulpResume_mems (s : State) (p sc : Nat) : (s.ulpResume p sc).mems = s.mems := by
  simp only [State.ulpResume, mk_mems]

theorem resumeVoltage_mems (s : State) : s.resumeVoltage.mems = s.mems := by
  simp only [State.resumeVoltage, fold_mems, ulpResume_mems, implies_true]

theorem claimLease_mems (s : State) (sole : Bool) : (s.claimLease sole).mems = s.mems := by
  simp only [State.claimLease, claimNews_mems, claimSend_mems, fire_mems, flag_mems, fold_mems, inc_mems, sendLease_mems,
      setCast_mems, wq_mems, wr_mems, mk_mems, implies_true]

theorem takeLease_mems (s : State) (sole : Bool) : (s.takeLease sole).mems = s.mems := by
  simp only [State.takeLease, claimLease_mems, discardCovered_mems, numberRest_mems, resumeVoltage_mems, ite_mems, ite_self]

theorem fence_mems (s : State) : s.fence.mems = s.mems := by
  simp only [State.fence, fire_mems, flag_mems, inc_mems, setCast_mems, wr_mems, mk_mems]

theorem sendJoin_mems (s : State) : s.sendJoin.mems = s.mems := by
  simp only [State.sendJoin, castSend_mems, setCast_mems, wr_mems, mk_mems]

theorem joinTake_mems (s : State) (body : Bytes) : (s.joinTake body).mems = s.mems := by
  simp only [State.joinTake, castSend_mems, mk_mems]

theorem jresTake_mems (s : State) (body : Bytes) : (s.jresTake body).mems = s.mems := by
  simp only [State.jresTake, beamVoidBefore_mems, joinGroups_mems, wr_mems, mk_mems, ite_mems, ite_self]

theorem joinCheck_mems (s : State) : s.joinCheck.mems = s.mems := by
  simp only [State.joinCheck, setCast_mems, ite_mems, ite_self]

theorem digCompare_mems (s : State) (stream : Nat) (own peer : DigRec) : (s.digCompare stream own peer).mems = s.mems := by
  simp only [State.digCompare, fire_mems, flag_mems, health_mems, inc_mems, toUnsync_mems, when_mems, mk_mems, ite_mems,
      ite_self]

theorem digNote_mems (s : State) (stream seq : Nat) (x : DigRec) (mine : Bool) :
    (s.digNote stream seq x mine).mems = s.mems := by
  unfold State.digNote
  dsimp only
  repeat' split
  all_goals simp only [digCompare_mems, mk_mems]

theorem pruneReported_mems (s : State) : s.pruneReported.mems = s.mems := by
  simp only [State.pruneReported, fold_mems, instDone_mems, mk_mems, ite_mems, ite_self, implies_true]

theorem digestSend_mems (s : State) : s.digestSend.mems = s.mems := by
  unfold State.digestSend
  dsimp only
  repeat' split
  all_goals simp only [castSend_mems, digNote_mems, fold_mems, joinCheck_mems, pruneReported_mems, mk_mems, implies_true]

theorem digestFirst_mems (s : State) (stream inst first : Nat) : (s.digestFirst stream inst first).mems = s.mems := by
  unfold State.digestFirst
  dsimp only
  repeat' split
  all_goals simp only [numberHeld_mems, mk_mems]

theorem takeHanded_mems (s : State) (stream next : Nat) : (s.takeHanded stream next).mems = s.mems := by
  simp only [State.takeHanded, numberHeld_mems, takeLease_mems, ulpResume_mems, when_mems, mk_mems, ite_mems, ite_self]

theorem digestTake_mems (s : State) (body : Bytes) : (s.digestTake body).mems = s.mems := by
  simp only [State.digestTake, digNote_mems, digestFirst_mems, fold_mems, joinCheck_mems, takeHanded_mems, ite_mems, ite_self,
      implies_true]

theorem wmarkSend_mems (s : State) : s.wmarkSend.mems = s.mems := by
  simp only [State.wmarkSend, castSend_mems, ite_mems, ite_self]

theorem wmarkTake_mems (s : State) (body : Bytes) : (s.wmarkTake body).mems = s.mems := by
  simp only [State.wmarkTake, forget_mems, joinCheck_mems, when_mems, mk_mems, ite_mems, ite_self]

theorem onResign_mems (s : State) : s.onResign.mems = s.mems := by
  simp only [State.onResign, takeLease_mems, ite_mems, ite_self]

theorem pinsCheck_mems (s : State) : s.pinsCheck.mems = s.mems := by
  simp only [State.pinsCheck, inc_mems, when_mems, wr_mems, mk_mems]

theorem leaseTake_mems (s : State) (claim h : Nat) (body : Bytes) : (s.leaseTake claim h body).mems = s.mems := by
  unfold State.leaseTake
  dsimp only
  repeat' split
  all_goals simp only [castSend_mems, fence_mems, inc_mems, onResign_mems, pinsCheck_mems, sendJoin_mems, when_mems, mk_mems]

theorem ackTake_mems (s : State) (body : Bytes) : (s.ackTake body).mems = s.mems := by
  simp only [State.ackTake, when_mems, wr_mems, mk_mems]

theorem pinEdge_mems (s : State) (gap : Nat) : (s.pinEdge gap).mems = s.mems := by
  simp only [State.pinEdge, onResign_mems, pinToggle_mems, when_mems, wr_mems, mk_mems, ite_mems, ite_self]

theorem leaseRenew_mems (s : State) : s.leaseRenew.mems = s.mems := by
  simp only [State.leaseRenew, inc_mems, pinToggle_mems, pinsCheck_mems, sendLease_mems, when_mems, mk_mems, ite_mems, ite_self]

theorem leaseExpire_mems (s : State) : s.leaseExpire.mems = s.mems := by
  simp only [State.leaseExpire, mk_mems, ite_mems, ite_self]

theorem guardExpire_mems (s : State) : s.guardExpire.mems = s.mems := by
  simp only [State.guardExpire, takeLease_mems, ite_mems, ite_self]

theorem ackExpire_mems (s : State) : s.ackExpire.mems = s.mems := by
  simp only [State.ackExpire, fence_mems, ite_mems, ite_self]

theorem linkExpire_mems (s : State) : s.linkExpire.mems = s.mems := by
  simp only [State.linkExpire, toUnsync_mems, ite_mems, ite_self]

theorem planExpire_mems (s : State) (n : Nat) : (s.planExpire n).mems = s.mems := by
  simp only [State.planExpire, admitOwn_mems, inc_mems, toUnsync_mems, ite_mems, ite_self]

theorem waitExpire_mems (s : State) : s.waitExpire.mems = s.mems := by
  simp only [State.waitExpire, takeLease_mems, ite_mems, ite_self]

theorem planTake_mems (s : State) (body : Bytes) : (s.planTake body).mems = s.mems := by
  simp only [State.planTake, admitMirrored_mems, setCause_mems, mk_mems, ite_mems, ite_self]

theorem rpktTake_mems (s : State) (bs : Bytes) : (s.rpktTake bs).mems = s.mems := by
  simp only [State.rpktTake, acceptSample_mems, ite_mems, ite_self]

theorem freezeTake_mems (s : State) (body : Bytes) : (s.freezeTake body).mems = s.mems := by
  simp only [State.freezeTake, ite_mems, freezeRound_mems, ite_self]

theorem castAct_mems (s : State) (msg claim h : Nat) (body : Bytes) : (s.castAct msg claim h body).mems = s.mems := by
  unfold State.castAct
  split <;> simp only [ackTake_mems, digestTake_mems, freezeTake_mems, joinTake_mems, jresTake_mems, leaseTake_mems,
      planTake_mems, rpktTake_mems, rprqTake_mems, spanTake_mems, wmarkTake_mems]

theorem castTake_mems (s : State) (bs : Bytes) (serial : Option Nat) : (s.castTake bs serial).mems = s.mems := by
  unfold State.castTake
  dsimp only
  repeat' split
  all_goals simp only [castAct_mems, inc_mems, wq_mems]

theorem castArrive_mems (s : State) (msg : Nat) (bs : Bytes) (serial : Option Nat) :
    (s.castArrive msg bs serial).mems = s.mems := by
  simp only [State.castArrive, castTake_mems, ite_mems, ite_self]

theorem csRefuse_mems (s : State) : s.csRefuse.mems = s.mems := by
  simp only [State.csRefuse, flag_mems]

theorem castEnable_mems (s : State) : s.castEnable.mems = s.mems := by
  simp only [State.castEnable, sendJoin_mems, mk_mems, ite_mems, ite_self]

theorem castStop_mems (s : State) : s.castStop.mems = s.mems := by
  simp only [State.castStop, setCast_mems, wr_mems, mk_mems]

theorem castResign_mems (s : State) : s.castResign.mems = s.mems := by
  simp only [State.castResign, auCheck_mems, csRefuse_mems, inc_mems, resignNow_mems, wr_mems, ite_mems, ite_self]

theorem castSole_mems (s : State) : s.castSole.mems = s.mems := by
  simp only [State.castSole, csRefuse_mems, takeLease_mems, mk_mems, ite_mems, ite_self]

theorem castJoin_mems (s : State) : s.castJoin.mems = s.mems := by
  simp only [State.castJoin, csRefuse_mems, sendJoin_mems, ite_mems, ite_self]

theorem handStream_mems (s : State) (b st : Nat) : (s.handStream b st).mems = s.mems := by
  simp only [State.handStream, castSend_mems, mk_mems]

theorem handCheck_mems (s : State) : s.handCheck.mems = s.mems := by
  simp only [State.handCheck, auCheck_mems, fold_mems, handStream_mems, resignNow_mems, when_mems, wr_mems, mk_mems, ite_mems,
      ite_self, implies_true]

theorem castHand_mems (s : State) : s.castHand.mems = s.mems := by
  simp only [State.castHand, csRefuse_mems, handCheck_mems, sendLease_mems, setCast_mems, mk_mems, ite_mems, ite_self]

/-! ## The memories under the functions of the control fabric -/

theorem xbViol_mems (s : State) (kind m target : Nat) (write : Bool) (addr : Nat) :
    (s.xbViol kind m target write addr).mems = s.mems := by
  simp only [State.xbViol, flag_mems, inc_mems, wr_mems, mk_mems, ite_mems, ite_self]

theorem xbUnmapped_mems (s : State) (m : Nat) (write : Bool) (addr : Nat) : (s.xbUnmapped m write addr).mems = s.mems := by
  simp only [State.xbUnmapped, tick_mems, xbViol_mems]

theorem errResp_mems (s : State) : s.errResp.mems = s.mems := by
  simp only [State.errResp, mk_mems]

theorem okResp_mems (s : State) (bs : Bytes) : (s.okResp bs).mems = s.mems := by
  simp only [State.okResp, mk_mems]

theorem masterReset_mems (s : State) (m bursts : Nat) : (s.masterReset m bursts).mems = s.mems := by
  simp only [State.masterReset, incBy_mems, wr_mems, mk_mems]

theorem masterRelease_mems (s : State) (m : Nat) : (s.masterRelease m).mems = s.mems := by
  simp only [State.masterRelease, wr_mems]

theorem mbxPut_memsOk {s : State} (h : MemsOk s.mems) (a : Nat) (bs : Bytes) (q : List (Nat × Bool)) :
    MemsOk ({ s with xb := { s.xb with mbx := memPut s.xb.mbx a bs, mbxQ := q } } : State).mems :=
  ⟨h.1, Memory.wf_put _ _ h.2.1, h.2.2⟩

theorem mbxRespond_memsOk {s : State} (h : MemsOk s.mems) (slot status : Nat) (payload : Bytes) :
    MemsOk (s.mbxRespond slot status payload).mems := by
  simp only [State.mbxRespond, irq_mems, wr_mems, mbxPut_memsOk h]

theorem mbxSettle_memsOk (k : Nat) : ∀ {s : State}, MemsOk s.mems → MemsOk (State.mbxSettle k s).mems := by
  induction k with
  | zero => exact fun h => h
  | succ k ih =>
    intro s h
    unfold State.mbxSettle
    split
    · exact h
    · exact ite_memsOk h (ite_memsOk (ih (mbxRespond_memsOk h ..)) (ite_memsOk (ih (mbxRespond_memsOk h ..)) h))

theorem mbxAnswer_memsOk {s : State} (h : MemsOk s.mems) (r : MbxReq) (status : Nat) (payload : Bytes) :
    MemsOk (s.mbxAnswer r status payload).mems := mbxSettle_memsOk 16 (mbxRespond_memsOk h ..)

theorem mbxOp_memsOk {s : State} (h : MemsOk s.mems) (op : Nat) {act : State → MbxReq → State}
    (hact : ∀ t r, MemsOk t.mems → MemsOk (act t r).mems) : MemsOk (s.mbxOp op act).mems := by
  unfold State.mbxOp
  split
  · exact h
  · exact ite_memsOk (hact _ _ h) h

theorem doorbell_memsOk {s : State} (h : MemsOk s.mems) (slot : Nat) (sec : Bool) : MemsOk (s.doorbell slot sec).mems :=
  ite_memsOk (h.congr (inc_mems ..)) (mbxSettle_memsOk 16 (h.congr ((mk_mems rfl rfl).trans (wr_mems ..))))

theorem mbxRestart_memsOk {s : State} (h : MemsOk s.mems) : MemsOk s.mbxRestart.mems := by
  unfold State.mbxRestart
  split <;> simp +contextual only [mbxRespond_memsOk, h]

theorem mbxEcho_memsOk {s : State} (h : MemsOk s.mems) : MemsOk s.mbxEcho.mems := by
  simp +contextual only [State.mbxEcho, mbxAnswer_memsOk, mbxOp_memsOk, implies_true, h]

theorem mbxVersion_memsOk {s : State} (h : MemsOk s.mems) : MemsOk s.mbxVersion.mems :=
  mbxOp_memsOk h 2 fun _ _ ht => mbxAnswer_memsOk (ht.congr (mk_mems rfl rfl)) ..

theorem dmaGo_mems (s : State) (c : Nat) : (s.dmaGo c).mems = s.mems := by
  simp only [State.dmaGo, wq_mems, wr_mems, ite_mems, ite_self]

theorem dmaAbort_mems (s : State) (c : Nat) : (s.dmaAbort c).mems = s.mems := by
  simp only [State.dmaAbort, wr_mems, ite_mems, ite_self]

theorem dmaIdle_mems (s : State) : s.dmaIdle.mems = s.mems := by
  simp only [State.dmaIdle, fold_mems, setWord_mems, implies_true]

theorem peAbort_mems (s : State) : s.peAbort.mems = s.mems := by
  simp only [State.peAbort, flag_mems, inc_mems]

theorem peUnsupported_mems (s : State) : s.peUnsupported.mems = s.mems := by
  simp only [State.peUnsupported, flag_mems, inc_mems]

theorem pcieCore_mems (s : State) : s.pcieCore.mems = s.mems := by
  simp only [State.pcieCore, fold_mems, setWord_mems, wq_mems, mk_mems, implies_true]

/-! ## The memories under the functions of integrity -/

theorem adderMismatch_memsOk {s : State} (h : MemsOk s.mems) (unit : Nat) (again : Bool) (site : AddSite) :
    MemsOk (s.adderMismatch unit again site).mems := by
  unfold State.adderMismatch
  dsimp only
  repeat' split
  all_goals simp +contextual only [health_mems, impair_mems, inc_mems, noteMark_mems, recPut_memsOk, spoilDet_mems,
      suppress_mems, mk_mems, h]

theorem testBegin_mems (s : State) (op u : Nat) : (s.testBegin op u).mems = s.mems := by
  simp only [State.testBegin, wr_mems, mk_mems, ite_mems, ite_self]

theorem testRequest_mems (s : State) (op u : Nat) : (s.testRequest op u).mems = s.mems := by
  simp only [State.testRequest, testBegin_mems, wr_mems, ite_mems, ite_self]

theorem testComplete_mems (s : State) (passed : Bool) : (s.testComplete passed).mems = s.mems := by
  unfold State.testComplete
  dsimp only
  split <;> simp only [inc_mems, trainingDone_mems, when_mems, wr_mems, mk_mems, ite_mems, ite_self]

theorem maintRequest_mems (s : State) (on : Bool) : (s.maintRequest on).mems = s.mems := by
  simp only [State.maintRequest, flag_mems, wr_mems, ite_mems, ite_self]

theorem healthRecover_mems (s : State) : s.healthRecover.mems = s.mems := by
  simp only [State.healthRecover, setHstate_mems, mk_mems, ite_mems, ite_self]

theorem faultClear_mems (s : State) : s.faultClear.mems = s.mems := by
  simp only [State.faultClear, setCause_mems, ite_mems, ite_self]

theorem shutdown_mems (s : State) : s.shutdown.mems = s.mems := by
  simp only [State.shutdown, emit_mems, fold_mems, resignFault_mems, setHstate_mems, setWord_mems, toUnsync_mems, wr_mems,
      ite_mems, ite_self, implies_true]

theorem arbiterStop_memsOk {s : State} (h : MemsOk s.mems) : MemsOk s.arbiterStop.mems := by
  unfold State.arbiterStop
  dsimp only
  repeat' split
  all_goals simp +contextual only [flag_mems, health_mems, inc_mems, masterReset_mems, mbxRestart_memsOk, wr_mems, mk_mems, h]

theorem arbiterBack_memsOk {s : State} (h : MemsOk s.mems) : MemsOk s.arbiterBack.mems :=
  ite_memsOk (mbxSettle_memsOk 16 (h.congr ((masterRelease_mems ..).trans ((wr_mems ..).trans (mk_mems rfl rfl))))) h

theorem arbiterLost_mems (s : State) : s.arbiterLost.mems = s.mems := by
  simp only [State.arbiterLost, fatalFault_mems, health_mems, ite_mems, ite_self]

theorem haltAll_mems (s : State) : s.haltAll.mems = s.mems := by
  simp only [State.haltAll, alignEndgame_mems, aspSuspend_mems, beamHalt_mems, beamVoid_mems, boardHalt_mems, fold_mems,
      voidAll_mems, wr_mems, mk_mems, implies_true]

theorem endgameEnter_mems (s : State) : s.endgameEnter.mems = s.mems := by
  simp only [State.endgameEnter, auCheck_mems, fire_mems, haltAll_mems, inc_mems, setPoint_mems, mk_mems, ite_mems, ite_self]

theorem selfRefreshIn_mems (s : State) : s.selfRefreshIn.mems = s.mems := by
  simp only [State.selfRefreshIn, fold_mems, wr_mems, mk_mems, ite_mems, ite_self, implies_true]

theorem endgameLeave_mems (s : State) : s.endgameLeave.mems = s.mems := by
  simp only [State.endgameLeave, mk_mems, ite_mems, ite_self]

theorem stacksOut_mems (s : State) (temps : List Nat) : (s.stacksOut temps).mems = s.mems := by
  simp only [State.stacksOut, fold_mems, setHchan_mems, showOwed_mems, stackCool_mems, stackHot_mems, when_mems, wr_mems,
      ite_mems, ite_self, implies_true]

theorem workResumes_mems (s : State) : s.workResumes.mems = s.mems := by
  simp only [State.workResumes, aspResumeRun_mems, fold_mems, resumeGroups_mems, setBd_mems, when_mems, wr_mems, mk_mems,
      ite_mems, ite_self, implies_true]

theorem selfRefreshOut_mems (s : State) (temps : List Nat) : (s.selfRefreshOut temps).mems = s.mems := by
  simp only [State.selfRefreshOut, fire_mems, setHstate_mems, stacksOut_mems, when_mems, workResumes_mems, wr_mems, mk_mems,
      ite_mems, ite_self]

/-! ## The memories under the functions of register writes -/

theorem deny_mems (s : State) (m a : Nat) (d : Denial) : (s.deny m a d).mems = s.mems := by
  cases d <;> simp only [State.deny, xbViol_mems, flag_mems, wr_mems]

theorem drivePins_mems (s : State) (old : State) : (s.drivePins old).mems = s.mems := by
  simp only [State.drivePins, emit_mems, fold_mems, ite_mems, ite_self, implies_true]

theorem bindFlags_mems (s : State) : s.bindFlags.mems = s.mems := by
  simp only [State.bindFlags, bindChange_mems, notePending_mems, mk_mems]

theorem bindWindow_mems (s : State) : s.bindWindow.mems = s.mems := by
  simp only [State.bindWindow, bindChange_mems, notePending_mems]

theorem pairingCommit_mems (s : State) : s.pairingCommit.mems = s.mems := by
  unfold State.pairingCommit
  dsimp only
  repeat' split
  all_goals simp only [bindChange_mems, flag_mems, wq_mems, wr_mems, mk_mems]

theorem endgameWrite_mems (s : State) (req clr : Bool) : (s.endgameWrite req clr).mems = s.mems := by
  unfold State.endgameWrite
  dsimp only
  repeat' split
  all_goals simp only [flag_mems, when_mems, wr_mems, mk_mems]

theorem portWritten_memsOk {s : State} (h : MemsOk s.mems) (p : Nat) (en : Bool) : MemsOk (s.portWritten p en).mems := by
  simp +contextual only [State.portWritten, portStart_mems, portStop_memsOk, showActive_mems, ite_mems, memsOk_ite,
      implies_true, and_self, h]

theorem ethWritten_memsOk {s : State} (h : MemsOk s.mems) (p : Nat) (v : Word) : MemsOk (s.ethWritten p v).mems := by
  simp +contextual only [State.ethWritten, ethControl_mems, ptpSelect_mems, refPortDown_memsOk, when_memsOk, implies_true, h]

theorem castLeave_mems (s : State) : s.castLeave.mems = s.mems := by
  simp only [State.castLeave, castStop_mems, csRefuse_mems, ite_mems, ite_self]

theorem agentPort_mems (s : State) (was : Bool) : (s.agentPort was).mems = s.mems := by
  simp only [State.agentPort, masterRelease_mems, masterReset_mems, ite_mems, ite_self]

theorem castWritten_mems (s : State) (was : Bool) : (s.castWritten was).mems = s.mems := by
  simp only [State.castWritten, agentPort_mems, auCheck_mems, castEnable_mems, castStop_mems, csRefuse_mems, wr_mems, ite_mems,
      ite_self]

theorem castCommand_mems (s : State) (op : Nat) : (s.castCommand op).mems = s.mems := by
  unfold State.castCommand
  split <;> simp only [agentPort_mems, castHand_mems, castJoin_mems, castLeave_mems, castResign_mems, castSole_mems]

theorem aspWritten_mems (s : State) (n raw : Nat) : (s.aspWritten n raw).mems = s.mems := by
  simp only [State.aspWritten, aspControl_mems, masterRelease_mems, masterReset_mems, ite_mems, ite_self]

theorem spWinWrite_mems (s : State) (n i v : Nat) : (s.spWinWrite n i v).mems = s.mems := by
  simp only [State.spWinWrite, setCore_mems, ite_mems, ite_self]

theorem auWritten_mems (s : State) (was : Bool) : (s.auWritten was).mems = s.mems := by
  simp only [State.auWritten, auCheck_mems, auClock_mems, ite_mems, ite_self]

theorem refControl_memsOk {s : State} (h : MemsOk s.mems) (v : Nat) : MemsOk (s.refControl v).mems := by
  simp +contextual only [State.refControl, freeSlew_mems, noteSel_memsOk, setWord_mems, when_mems, wr_mems, ite_mems,
      memsOk_ite, implies_true, and_self, h]

theorem winWrite_mems (s : State) (raw : Nat) : (s.winWrite raw).mems = s.mems := by
  simp only [State.winWrite, flag_mems, wq_mems, ite_mems, ite_self]

theorem ownWrite_memsOk {s t : State} (h : MemsOk s.mems) {l : Loc} {base raw old new : Nat}
    (hw : s.ownWrite l base raw old new = some t) : MemsOk t.mems := by
  unfold State.ownWrite at hw
  split at hw
  all_goals simp only [Option.some.injEq, reduceCtorEq] at hw
  all_goals subst hw
  case h_9 => exact ethWritten_memsOk h ..
  case h_10 => exact refControl_memsOk h ..
  all_goals refine h.congr ?_
  all_goals simp only [ite_mems, controlQueue_mems, pmMode_mems, seqSet_mems, routeWrite_mems, endpointWrite_mems,
      otRefuse_mems, wq_mems,
    spWinWrite_mems, winWrite_mems, ite_self]

theorem wrote_memsOk {s : State} (h : MemsOk s.mems) (was : State) (m : Nat) (l : Loc) (raw old : Nat) :
    MemsOk (s.wrote was m l raw old).mems := by
  unfold State.wrote
  dsimp only
  split
  case h_35 => exact when_memsOk (when_memsOk h epochInvalidate_memsOk) epochCommit_memsOk
  all_goals simp +contextual only [showActive_mems, streamCommit_mems, domainReset_mems, xbViol_mems, portWritten_memsOk,
      slotFree_mems, alignEnable_mems,
    alignDisable_mems, bindWindow_mems, bindFlags_mems, captureRelease_mems, freezeCommand_mems, boardEnable_mems,
        boardDisable_mems,
    boardHalt_mems, requestDrain_mems, pairingCommit_mems, groupCmd_mems, pmCommit_mems, beamEnable_mems, beamDisable_mems,
        beamHalt_mems, 
    baErr_mems, beamCommit_mems, weightSelect_mems, ptpSelect_mems, maintRequest_mems, faultClear_mems, testRequest_mems,
        castWritten_mems,
    castCommand_mems, refClear_memsOk, refConfigured_memsOk, stepRequest_mems, trgArm_mems, 
    drivePins_mems, endgameWrite_mems, trngRetry_mems, doorbell_memsOk, dmaAbort_mems, dmaGo_mems, fold_mems, fire_mems,
        emit_mems,
    aspWritten_mems, aspMessage_mems, auWritten_mems, auCheck_mems, wr_mems, when_mems, ite_mems, mk_mems, h, ite_self,
        implies_true]

theorem store_mems (s : State) (l : Loc) (base v : Nat) : (s.store l base v).mems = s.mems := by
  simp only [State.store, setWord_mems, wq_mems, ite_mems, ite_self]

theorem regWrite_memsOk {s : State} (h : MemsOk s.mems) (m : Nat) (load : Bool) (l : Loc) (a base raw : Nat) :
    MemsOk (s.regWrite m load l a base raw).mems := by
  unfold State.regWrite
  dsimp only
  generalize ht : State.when (State.when s _ _) _ _ = t
  have htm : MemsOk t.mems := h.congr (ht ▸ (when_mems (deny_mems ..)).trans (when_mems (deny_mems ..)))
  split
  · exact htm.congr (deny_mems ..)
  · split
    next heq => exact ownWrite_memsOk htm heq
    next => exact wrote_memsOk (htm.congr (store_mems ..)) ..

theorem setLatch_mems (s : State) (m : Nat) (x : Latch) : (s.setLatch m x).mems = s.mems := by
  simp only [State.setLatch, mk_mems]

theorem csrCore_memsOk {s : State} (h : MemsOk s.mems) (m : Nat) (load : Bool) (a : Nat) (v : Word) :
    MemsOk (s.csrCore m load a v).mems := by
  unfold State.csrCore
  dsimp only
  split <;> simp +contextual only [flag_mems, regWrite_memsOk, setLatch_mems, ite_mems, ite_self, memsOk_ite, implies_true,
      and_self, h]

/-! ## The memories under the functions of register reads -/

theorem latchTiming_mems (s : State) (p : Nat) : (s.latchTiming p).mems = s.mems := by
  simp only [State.latchTiming, wq_mems, wr_mems]

theorem latchPlan_mems (s : State) : s.latchPlan.mems = s.mems := by
  unfold State.latchPlan
  split <;> simp only [fold_mems, wq_mems, wr_mems, implies_true]

theorem latchHeader_mems (s : State) (n k : Nat) : (s.latchHeader n k).mems = s.mems := by
  simp only [State.latchHeader, fold_mems, wr_mems, implies_true]

theorem snap_mems (s : State) (l : Loc) : (s.snap l).mems = s.mems := by
  unfold State.snap
  dsimp only
  repeat' split
  all_goals simp only [latchHeader_mems, latchPlan_mems, latchTiming_mems, stampRead_mems, wq_mems, wr_mems]

theorem csrRead_mems (s : State) (m a : Nat) : (s.csrRead m a).1.mems = s.mems := by
  have hsnap : ∀ (l : Loc) (b : Bool) (x : Latch), (if b then (s.snap l).setLatch m x else s.snap l).mems = s.mems := by
    intro l b x
    simp only [ite_mems, setLatch_mems, snap_mems, ite_self]
  unfold State.csrRead
  split
  · rfl
  · dsimp only
    split
    · rfl
    · split
      · rfl
      · dsimp only
        rw [ite_mems, setWord_mems, hsnap, ite_self]

theorem failTo_mems (s : State) (m : Nat) : (s.failTo m).mems = s.mems := by
  simp only [State.failTo, errResp_mems, peAbort_mems, when_mems]

theorem csrDenied_mems (s : State) (m a : Nat) (w : Bool) {t : State} (h : s.csrDenied m a w = some t) :
    t.mems = s.mems := by
  unfold State.csrDenied at h
  repeat' split at h
  all_goals cases h
  all_goals simp only [failTo_mems, xbViol_mems]

theorem readWord_mems (s : State) (m a : Nat) : (s.readWord m a).mems = s.mems := by
  unfold State.readWord
  split
  · next h => exact csrDenied_mems s m a false h
  · exact (okResp_mems ..).trans (csrRead_mems ..)

/-! ## The memories under the functions of the configuration store -/

theorem stPut_memsOk {s : State} (h : MemsOk s.mems) (o : Nat) (bs : Bytes) : MemsOk (s.stPut o bs).mems :=
  ⟨h.1, h.2.1, Memory.wf_put bs o h.2.2⟩

theorem cfRefuse_memsOk {s : State} (h : MemsOk s.mems) (r : MbxReq) (reason : Nat) : MemsOk (s.cfRefuse r reason).mems := by
  simp +contextual only [State.cfRefuse, inc_mems, mbxAnswer_memsOk, when_mems, wr_mems, h]

theorem cfRefuseFree_memsOk {s : State} (h : MemsOk s.mems) (r : MbxReq) : MemsOk (s.cfRefuseFree r).mems := by
  simp +contextual only [State.cfRefuseFree, cfRefuse_memsOk, tick_mems, h]

theorem cfDone_memsOk {s : State} (h : MemsOk s.mems) (r : MbxReq) : MemsOk (s.cfDone r).mems := by
  simp +contextual only [State.cfDone, mbxAnswer_memsOk, h]

theorem showRecord_mems (s : State) : s.showRecord.mems = s.mems := by
  simp only [State.showRecord, fold_mems, wr_mems, implies_true]

theorem showSlot_mems (s : State) (k : Nat) : (s.showSlot k).mems = s.mems := by
  simp only [State.showSlot, wr_mems]

theorem containerWrite_memsOk {s : State} (h : MemsOk s.mems) : MemsOk s.containerWrite.mems := by
  refine mbxOp_memsOk h _ fun t r ht => ?_
  dsimp only
  refine ite_memsOk (cfRefuseFree_memsOk ht r) (ite_memsOk (cfRefuse_memsOk ht ..) (ite_memsOk (cfRefuse_memsOk ht ..) ?_))
  have hput : ∀ o bs a n k, MemsOk (((t.stPut o bs).incBy a n).showSlot k).mems := fun o bs a n k =>
    (stPut_memsOk ht ..).congr ((showSlot_mems ..).trans (incBy_mems ..))
  split
  · exact cfRefuse_memsOk ((hput ..).congr (wr_mems ..)) ..
  · exact cfDone_memsOk ((hput ..).congr (wr_mems ..)) ..

theorem reverify_mems (s : State) (k : Nat) : (s.reverify k).1.mems = s.mems := by
  unfold State.reverify
  split <;> exact when_mems (wr_mems ..)

theorem reverify_memsOk {s t : State} {k : Nat} {o : Option Nat} (h : MemsOk s.mems) (he : s.reverify k = (t, o)) : MemsOk
    t.mems :=
  h.congr (he ▸ reverify_mems s k :)

theorem containerVerify_memsOk {s : State} (h : MemsOk s.mems) : MemsOk s.containerVerify.mems := by
  refine mbxOp_memsOk h _ fun t r ht => ite_memsOk (cfRefuseFree_memsOk ht r) ?_
  split
  next heq => exact cfRefuse_memsOk (reverify_memsOk ht heq) ..
  next heq => exact cfDone_memsOk (reverify_memsOk ht heq) r

theorem slotEmpty_memsOk {s : State} (h : MemsOk s.mems) : MemsOk s.slotEmpty.mems := by
  simp +contextual only [State.slotEmpty, cfDone_memsOk, cfRefuse_memsOk, cfRefuseFree_memsOk, mbxOp_memsOk, wr_mems, ite_mems,
      memsOk_ite, implies_true, and_self, h]

theorem slotMarkGood_memsOk {s : State} (h : MemsOk s.mems) : MemsOk s.slotMarkGood.mems := by
  simp +contextual only [State.slotMarkGood, cfDone_memsOk, cfRefuseFree_memsOk, mbxOp_memsOk, wr_mems, ite_mems, memsOk_ite,
      implies_true, and_self, h]

theorem keyProgram_memsOk {s : State} (h : MemsOk s.mems) : MemsOk s.keyProgram.mems := by
  refine mbxOp_memsOk h _ fun t r ht => ?_
  refine ite_memsOk ht (ite_memsOk (cfRefuseFree_memsOk ht r) (ite_memsOk (cfRefuse_memsOk ht ..) (cfDone_memsOk ?_ r)))
  simp only [wr_mems, mk_mems, ht]

theorem keyRevoke_memsOk {s : State} (h : MemsOk s.mems) : MemsOk s.keyRevoke.mems := by
  simp +contextual only [State.keyRevoke, cfDone_memsOk, cfRefuse_memsOk, cfRefuseFree_memsOk, mbxOp_memsOk, wr_mems, ite_mems,
      memsOk_ite, implies_true, and_self, h]

theorem applyRecords_memsOk {s : State} (h : MemsOk s.mems) (recs : List (Nat × Nat)) : MemsOk (s.applyRecords recs).mems := by
  simp +contextual only [State.applyRecords, csrCore_memsOk, fold_memsOk, implies_true, h]

theorem inForce_mems (s : State) (kind n : Nat) (recs : List (Nat × Nat)) : (s.inForce kind n recs).mems = s.mems := by
  unfold State.inForce
  dsimp only
  repeat' split
  all_goals simp only [showTable_mems, mk_mems]

theorem loadMap_mems (s : State) (bs : Bytes) : (s.loadMap bs).mems = s.mems := by
  simp only [State.loadMap, pmDigestDue_mems, mk_mems]

theorem loadImage_mems (s : State) (x : AspImage) : (s.loadImage x).mems = s.mems := by
  simp only [State.loadImage, fold_mems, setSpWord_mems, ite_mems, ite_self, implies_true]

theorem startCore_mems (s : State) (imgs : List AspImage) (n : Nat) : (s.startCore imgs n).mems = s.mems := by
  simp only [State.startCore, wr_mems, ite_mems, ite_self]

theorem resetCores_mems (s : State) : s.resetCores.mems = s.mems := by
  simp only [State.resetCores, aspReset_mems, fold_mems, implies_true]

theorem loadAsps_memsOk {s : State} (h : MemsOk s.mems) (secs : List Sec) : MemsOk (s.loadAsps secs).mems := by
  simp +contextual only [State.loadAsps, applyRecords_memsOk, fold_mems, loadImage_mems, startCore_mems, fold_memsOk,
      implies_true, h]

theorem setHash_mems (s : State) : s.setHash.mems = s.mems := by
  simp only [State.setHash, fold_mems, wr_mems, implies_true]

theorem setCfgEpoch_mems (s : State) (n ep : Nat) : (s.setCfgEpoch n ep).mems = s.mems := by
  simp only [State.setCfgEpoch, wr_mems, mk_mems]

theorem applyFull_memsOk {s : State} (h : MemsOk s.mems) (k : Nat) : MemsOk (s.applyFull k).1.mems := by
  have hload : MemsOk ((s.resetCores.fold ((s.sections k).filter fun x => x.kind = 8) fun s x =>
      s.applyRecords (s.secRecords x)).loadAsps (s.sections k)).mems :=
    loadAsps_memsOk (fold_memsOk (h.congr (resetCores_mems ..)) (fun t x ht => applyRecords_memsOk ht _) _) _
  simp only [State.applyFull, showRecord_mems, setCfgEpoch_mems, setHash_mems, mk_mems, loadMap_mems, inForce_mems, fold_mems,
    implies_true]
  exact fold_memsOk hload (fun t kind ht => applyRecords_memsOk ht _) _

theorem fullLoad_memsOk {s : State} (h : MemsOk s.mems) : MemsOk s.fullLoad.mems := by
  refine mbxOp_memsOk h _ fun t r ht => ?_
  dsimp only
  refine ite_memsOk (cfRefuseFree_memsOk ht r) ?_
  split
  next heq => exact cfRefuse_memsOk (reverify_memsOk ht heq) ..
  next heq =>
    have hu := reverify_memsOk ht heq
    split
    · exact cfRefuse_memsOk hu ..
    · exact ite_memsOk (hu.congr ((wr_mems ..).trans (mk_mems rfl rfl))) (cfRefuseFree_memsOk hu r)

theorem endFull_memsOk {s : State} (h : MemsOk s.mems) (k : Nat) (ok : Bool) : MemsOk (s.endFull k ok).1.mems := by
  unfold State.endFull
  have hs : MemsOk ({ s with cf := { s.cf with loading := none } } : State).mems := h.congr (mk_mems rfl rfl)
  generalize ({ s with cf := { s.cf with loading := none } } : State) = t at hs ⊢
  exact ite_fst_memsOk ((applyFull_memsOk hs k).congr ((inc_mems ..).trans ((wr_mems ..).trans (wr_mems ..))))
    (hs.congr ((inc_mems ..).trans (wr_mems ..)))

theorem endFull_memsOk_of {s t : State} {k : Nat} {ok b : Bool} (h : MemsOk s.mems) (he : s.endFull k ok = (t, b)) : MemsOk
    t.mems :=
  (he ▸ endFull_memsOk h k ok :)

theorem fullComplete_memsOk {s : State} (h : MemsOk s.mems) (ok : Bool) : MemsOk (s.fullComplete ok).mems := by
  unfold State.fullComplete
  split
  · dsimp only
    split
    next heq => exact cfDone_memsOk (endFull_memsOk_of h heq) _
    next heq => exact mbxAnswer_memsOk ((endFull_memsOk_of h heq).congr (tick_mems ..)) ..
  · exact h

theorem regionTake_memsOk {s : State} (h : MemsOk s.mems) (p : RegionLoad) : MemsOk (s.regionTake p).mems := by
  simp +contextual only [State.regionTake, applyRecords_memsOk, inForce_mems, loadMap_mems, setCfgEpoch_mems, setHash_mems,
      showRecord_mems, mk_mems, ite_mems, ite_self, h]

theorem regionLoad_memsOk {s : State} (h : MemsOk s.mems) : MemsOk s.regionLoad.mems := by
  refine mbxOp_memsOk h _ fun t r ht => ?_
  dsimp only
  refine ite_memsOk (cfRefuseFree_memsOk ht r) ?_
  split
  next heq => exact cfRefuse_memsOk (reverify_memsOk ht heq) ..
  next heq =>
    have hu := reverify_memsOk ht heq
    split
    · exact cfRefuse_memsOk hu ..
    · split
      · exact cfRefuse_memsOk hu ..
      · refine ite_memsOk (cfDone_memsOk ?_ r) (cfRefuseFree_memsOk hu r)
        simp only [wq_mems, wr_mems, mk_mems, hu]

theorem regionApply_mems (s : State) : s.regionApply.mems = s.mems := by
  unfold State.regionApply
  dsimp only
  split <;> simp only [auQuiet_mems, fold_mems, when_mems, mk_mems, ite_mems, ite_self, implies_true]

theorem regionOver_mems (s : State) : s.regionOver.mems = s.mems := by
  simp only [State.regionOver, wr_mems, mk_mems]

theorem regionComplete_memsOk {s : State} (h : MemsOk s.mems) (ok : Bool) : MemsOk (s.regionComplete ok).mems := by
  unfold State.regionComplete
  dsimp only
  split <;> simp +contextual only [flag_mems, health_mems, inc_mems, regionOver_mems, regionTake_memsOk, resignFault_mems,
      toUnsync_mems, ite_mems, memsOk_ite, implies_true, and_self, h]

theorem regionCancel_mems (s : State) : s.regionCancel.mems = s.mems := by
  simp only [State.regionCancel, flag_mems, regionOver_mems, ite_mems, ite_self]

theorem regionState_mems (s : State) (r : Nat) : (s.regionState r).mems = s.mems := by
  unfold State.regionState
  dsimp only
  split <;> simp only [mk_mems]

theorem keepLines_mems (s : State) (old : State) : (s.keepLines old).mems = s.mems := by
  simp only [State.keepLines, fold_mems, wr_mems, ite_mems, ite_self, implies_true]

theorem regionReset_memsOk {s : State} (h : MemsOk s.mems) (r : Nat) : MemsOk (s.regionReset r).mems := by
  simp +contextual only [State.regionReset, applyRecords_memsOk, flag_mems, inForce_mems, keepLines_mems, regionState_mems,
      mk_mems, ite_mems, memsOk_ite, implies_true, and_self, h]

theorem showActiveRepairs_mems (s : State) : s.showActiveRepairs.mems = s.mems := by
  simp only [State.showActiveRepairs, wr_mems]

theorem logWrite_memsOk {s : State} (h : MemsOk s.mems) (x : LogRec) (bad : Nat) : MemsOk (s.logWrite x bad).mems := by
  have hzero : ∀ f : Nat → Nat, MemsOk (s.fold (List.range bad) fun s i => s.stPut (f i) (zeros 32)).mems :=
    fun f => fold_memsOk h (fun t i ht => stPut_memsOk ht ..) _
  simp only [State.logWrite, inc_mems, mk_mems, wr_mems]
  exact stPut_memsOk ((hzero _).congr (when_mems (flag_mems ..))) ..

theorem checkpoint_memsOk {s : State} (h : MemsOk s.mems) : MemsOk s.checkpoint.mems := by
  simp +contextual only [State.checkpoint, logWrite_memsOk, fold_memsOk, mk_mems, implies_true, h]

theorem logAppend_memsOk {s : State} (h : MemsOk s.mems) (bad : Nat) : MemsOk (s.logAppend bad).mems := by
  unfold State.logAppend
  split
  next => exact h
  next rest _ =>
    have hrest : MemsOk ({ s with cf := { s.cf with logDue := rest } } : State).mems := h.congr (mk_mems rfl rfl)
    refine ite_memsOk h (MemsOk.congr ?_ (showActiveRepairs_mems ..))
    exact when_memsOk (logWrite_memsOk hrest ..) checkpoint_memsOk

theorem replayRecord_mems (s : State) (x : LogRec) : (s.replayRecord x).mems = s.mems := by
  unfold State.replayRecord
  dsimp only
  split <;> simp only [setHstk_mems, useSpare_mems, wr_mems, ite_mems, ite_self]

theorem logReplay_mems (s : State) : s.logReplay.mems = s.mems := by
  simp only [State.logReplay, fold_mems, replayRecord_mems, showActiveRepairs_mems, implies_true]

theorem repairClear_memsOk {s : State} (h : MemsOk s.mems) : MemsOk s.repairClear.mems := by
  refine mbxOp_memsOk h _ fun t r ht => ?_
  dsimp only
  refine ite_memsOk (cfRefuse_memsOk ht ..) (ite_memsOk (cfRefuse_memsOk ht ..) (ite_memsOk (cfDone_memsOk (ht.congr ?_) r) ?_))
  · exact (showActiveRepairs_mems ..).trans ((logRepair_mems ..).trans (wr_mems ..))
  · split
    · refine cfDone_memsOk ?_ r
      simp only [showActiveRepairs_mems, logRepair_mems, wr_mems, setHstk_mems, ht]
    · exact cfRefuseFree_memsOk ht r

theorem lineRequest_memsOk {s : State} (h : MemsOk s.mems) : MemsOk s.lineRequest.mems := by
  simp +contextual only [State.lineRequest, mbxAnswer_memsOk, mbxOp_memsOk, repairLine_mems, ite_mems, memsOk_ite,
      implies_true, and_self, h]

theorem rowRequest_memsOk {s : State} (h : MemsOk s.mems) : MemsOk s.rowRequest.mems := by
  simp +contextual only [State.rowRequest, dueSpare_mems, mbxAnswer_memsOk, mbxOp_memsOk, ite_mems, memsOk_ite, implies_true,
      and_self, h]

theorem showBoot_mems (s : State) : s.showBoot.mems = s.mems := by
  simp only [State.showBoot, wr_mems]

theorem bootWrite_memsOk {s : State} (h : MemsOk s.mems) (pref good : Nat) : MemsOk (s.bootWrite pref good).mems := by
  simp +contextual only [State.bootWrite, showBoot_mems, stPut_memsOk, h]

theorem bootPref_memsOk {s : State} (h : MemsOk s.mems) : MemsOk s.bootPref.mems :=
  mbxOp_memsOk h _ fun _ _ ht => ite_memsOk (mbxAnswer_memsOk (bootWrite_memsOk ht ..) ..) (mbxAnswer_memsOk ht ..)

theorem watchdogPeriod_memsOk {s : State} (h : MemsOk s.mems) : MemsOk s.watchdogPeriod.mems := by
  simp +contextual only [State.watchdogPeriod, mbxAnswer_memsOk, mbxOp_memsOk, wr_mems, ite_mems, memsOk_ite, implies_true,
      and_self, h]

theorem csrWrite_memsOk {s : State} (h : MemsOk s.mems) (m a : Nat) (v : Word) : MemsOk (s.csrWrite m a v).mems := by
  simp +contextual only [State.csrWrite, csrCore_memsOk, regionReset_memsOk, fold_memsOk, ite_mems, memsOk_ite, implies_true,
      and_self, h]

theorem writeWord_memsOk {s : State} (h : MemsOk s.mems) (m a : Nat) (v : Word) : MemsOk (s.writeWord m a v).mems := by
  unfold State.writeWord
  split
  next heq => exact h.congr (csrDenied_mems _ _ _ _ heq)
  next => exact (csrWrite_memsOk h ..).congr (okResp_mems ..)

theorem writePair_memsOk {s : State} (h : MemsOk s.mems) (m a : Nat) (v : BitVec 64) : MemsOk (s.writePair m a v).mems := by
  simp +contextual only [State.writePair, writeWord_memsOk, h]

/-! ## The memories under the functions of Opening and the resets -/

theorem powerReset_memsOk {s : State} (h : MemsOk s.mems) : MemsOk s.powerReset.mems := ⟨Memory.wf_nil, Memory.wf_nil, h.2.2⟩

theorem coldReset_memsOk {s : State} (h : MemsOk s.mems) : MemsOk s.coldReset.mems := by
  simp +contextual only [State.coldReset, powerReset_memsOk, setQuality_mems, wr_mems, mk_mems, h]

theorem setStep_mems (s : State) (k : Nat) : (s.setStep k).mems = s.mems := by
  simp only [State.setStep, wr_mems]

theorem openReady_mems (s : State) (ms : Nat) : (s.openReady ms).mems = s.mems := by
  simp only [State.openReady, fire_mems, setStep_mems, wr_mems]

theorem bootedFrom_memsOk {s : State} (h : MemsOk s.mems) (k : Nat) : MemsOk (s.bootedFrom k).mems := by
  simp +contextual only [State.bootedFrom, bootWrite_memsOk, wr_mems, h]

theorem openChecks_memsOk {s : State} (h : MemsOk s.mems) : MemsOk s.openChecks.mems := by
  unfold State.openChecks
  refine MemsOk.congr (when_memsOk (h.congr ?_) fun ht => bootedFrom_memsOk ht _) (openReady_mems ..)
  refine (showBoot_mems ..).trans ((setStep_mems ..).trans ((when_mems (degrade_mems ..)).trans ((fold_mems (fun t l => ?_)
      _).trans ?_)))
  · rw [ite_mems, repairLine_mems, ite_self]
  · exact (pmDigestDone_mems ..).trans ((pmDigestDue_mems ..).trans ((logReplay_mems ..).trans (wr_mems ..)))

theorem bootTry_memsOk {s : State} (h : MemsOk s.mems) (k : Nat) : MemsOk (s.bootTry k).1.mems := by
  unfold State.bootTry
  split
  next heq => exact reverify_memsOk h heq
  next heq => exact endFull_memsOk ((reverify_memsOk h heq).congr (mk_mems rfl rfl)) ..

theorem bootTries_memsOk (l : List Nat) : ∀ {s : State}, MemsOk s.mems → MemsOk (State.bootTries l s).1.mems := by
  induction l with
  | nil => exact fun h => h
  | cons k rest ih =>
    intro s h
    unfold State.bootTries
    refine ite_fst_memsOk h ?_
    split
    next heq => exact (heq ▸ bootTry_memsOk h k :)
    next heq => exact ih (heq ▸ bootTry_memsOk h k :)

theorem openLoad_memsOk {s : State} (h : MemsOk s.mems) : MemsOk s.openLoad.mems := by
  have ht : MemsOk (State.bootTries ((s.setStep 7).showBoot).bootOrder ((s.setStep 7).showBoot)).1.mems :=
    bootTries_memsOk _ (h.congr ((showBoot_mems ..).trans (setStep_mems ..)))
  unfold State.openLoad
  dsimp only
  split
  next heq => exact openChecks_memsOk (heq ▸ ht :)
  next heq => exact (heq ▸ ht :).congr (wr_mems ..)

theorem openStacks_memsOk {s : State} (h : MemsOk s.mems) : MemsOk s.openStacks.mems := by
  have hf : ∀ f : State → Nat → State, (∀ t st, (f t st).mems = t.mems) → MemsOk (s.fold s.stackList f).mems :=
    fun f hf => h.congr (fold_mems hf _)
  unfold State.openStacks
  refine openLoad_memsOk (MemsOk.congr ?_ (setStep_mems ..))
  exact ⟨Memory.wf_nil, (hf _ fun t st => (trainingDone_mems ..).trans (wr_mems ..)).2⟩

theorem readFirmware_mems (s : State) : s.readFirmware.mems = s.mems := by
  simp only [State.readFirmware, emit_mems, ite_mems, ite_self]

theorem openFirmware_memsOk {s : State} (h : MemsOk s.mems) : MemsOk s.openFirmware.mems := by
  simp +contextual only [State.openFirmware, openStacks_memsOk, readFirmware_mems, setStep_mems, wr_mems, ite_mems, memsOk_ite,
      implies_true, and_self, h]

theorem openTime_memsOk {s : State} (h : MemsOk s.mems) : MemsOk s.openTime.mems := by
  simp +contextual only [State.openTime, emit_mems, fold_mems, openFirmware_memsOk, setQuality_mems, setStep_mems, wr_mems,
      ite_mems, memsOk_ite, implies_true, and_self, h]

theorem openStart_memsOk {s : State} (h : MemsOk s.mems) : MemsOk s.openStart.mems := by
  simp +contextual only [State.openStart, emit_mems, openTime_memsOk, setStep_mems, wr_mems, ite_mems, memsOk_ite,
      implies_true, and_self, h]

theorem powerOn_memsOk {s : State} (h : MemsOk s.mems) (o : Opening) : MemsOk (s.powerOn o).mems := by
  unfold State.powerOn
  dsimp only
  generalize hu : ({ s with mg := { s.mg with vin := true, env := o, resetLow := o.resetLow, xo := o.xo } } : State) = u
  have hum : MemsOk u.mems := h.congr (by rw [← hu, mk_mems rfl rfl])
  refine ite_memsOk hum (openStart_memsOk (MemsOk.congr ?_ (when_mems (wr_mems ..))))
  exact (powerReset_memsOk hum).congr (wr_mems ..)

theorem powerLoss_mems (s : State) : s.powerLoss.mems = s.mems := by
  simp only [State.powerLoss, mk_mems]

theorem restart_memsOk {s : State} (h : MemsOk s.mems) (cause : FRef) (o : Opening) : MemsOk (s.restart cause o).mems := by
  unfold State.restart
  dsimp only
  generalize hu : ({ s with mg := { s.mg with env := o, xo := o.xo } } : State) = u
  have hum : MemsOk u.mems := h.congr (by rw [← hu, mk_mems rfl rfl])
  refine openStart_memsOk (MemsOk.congr ?_ (when_mems (wr_mems ..)))
  exact (coldReset_memsOk hum).congr ((wr_mems ..).trans (wr_mems ..))

theorem resetN_memsOk {s : State} (h : MemsOk s.mems) (o : Opening) : MemsOk (s.resetN o).mems := by
  simp +contextual only [State.resetN, restart_memsOk, mk_mems, ite_mems, memsOk_ite, implies_true, and_self, h]

theorem resetNHigh_memsOk {s : State} (h : MemsOk s.mems) : MemsOk s.resetNHigh.mems := by
  simp +contextual only [State.resetNHigh, openTime_memsOk, setStep_mems, mk_mems, ite_mems, memsOk_ite, implies_true,
      and_self, h]

theorem resetRequest_memsOk {s : State} (h : MemsOk s.mems) (o : Opening) : MemsOk (s.resetRequest o).mems :=
  mbxOp_memsOk h _ fun _ _ ht => restart_memsOk (mbxAnswer_memsOk ht ..) ..

theorem xoBack_memsOk {s : State} (h : MemsOk s.mems) : MemsOk s.xoBack.mems := by
  simp +contextual only [State.xoBack, openTime_memsOk, xoReturn_mems, mk_mems, ite_mems, ite_self, memsOk_ite, implies_true,
      and_self, h]

theorem serdesLost_memsOk {s : State} (h : MemsOk s.mems) : MemsOk s.serdesLost.mems :=
  fold_memsOk (fold_memsOk h (fun _ p ht => portLoss_memsOk ht p 0) _) (fun _ p ht => ethLost_memsOk ht p) _

theorem xoGone_memsOk {s : State} (h : MemsOk s.mems) : MemsOk s.xoGone.mems := by
  simp +contextual only [State.xoGone, serdesLost_memsOk, xoLost_mems, mk_mems, ite_mems, memsOk_ite, implies_true, and_self, h]

theorem fullLoadDone_memsOk {s : State} (h : MemsOk s.mems) (ok : Bool) : MemsOk (s.fullLoadDone ok).mems := by
  simp +contextual only [State.fullLoadDone, fullComplete_memsOk, openChecks_memsOk, ite_mems, memsOk_ite, implies_true,
      and_self, h]

theorem pcieReset_mems (s : State) (perst : Bool) (link : PcieLink) : (s.pcieReset perst link).mems = s.mems := by
  simp only [State.pcieReset, masterRelease_mems, masterReset_mems, pcieCore_mems, setWord_mems, wr_mems, mk_mems, ite_mems,
      ite_self]

theorem perstHigh_mems (s : State) (link : PcieLink) : (s.perstHigh link).mems = s.mems := by
  simp only [State.perstHigh, masterRelease_mems, wr_mems, mk_mems, ite_mems, ite_self]

theorem functionReset_mems (s : State) : s.functionReset.mems = s.mems := by
  simp only [State.functionReset, dmaIdle_mems, masterRelease_mems, masterReset_mems, pcieCore_mems]

theorem contextWords_mems (s : State) : s.contextWords.mems = s.mems := by
  unfold State.contextWords
  refine fold_mems (fun t _ => ?_) _
  split
  · exact setWord_mems ..
  · rfl

theorem coreOff_memsOk {s : State} (h : MemsOk s.mems) : MemsOk s.coreOff.mems := ⟨h.1, Memory.wf_nil, h.2.2⟩

theorem pinsLow_mems (s : State) : s.pinsLow.mems = s.mems := by
  simp only [State.pinsLow, emit_mems, fold_mems, ite_mems, ite_self, implies_true]

theorem adjourn_memsOk {s : State} (h : MemsOk s.mems) : MemsOk s.adjourn.mems := by
  unfold State.adjourn
  dsimp only
  simp only [wr_mems, masterReset_mems, setWord_mems]
  refine coreOff_memsOk ((MemsOk.congr ?_ ((when_mems (wr_mems ..)).trans (when_mems (setBd_mems ..)))))
  refine MemsOk.congr ?_ (fold_mems (fun t p => setEth_mems ..) _)
  refine fold_memsOk ?_ (fun t p ht => portStop_memsOk ht p) _
  simp only [pinsLow_mems, fold_mems, wr_mems, resetCores_mems, mk_mems, ite_mems, regionCancel_mems, haltAll_mems,
      castStop_mems,
    resignNow_mems, ite_self, implies_true, h]

theorem adjournment_memsOk {s : State} (h : MemsOk s.mems) : MemsOk s.adjournment.mems :=
  mbxOp_memsOk h _ fun _ _ ht => ite_memsOk (mbxAnswer_memsOk ht ..) (adjourn_memsOk (mbxRespond_memsOk ht ..))

theorem reapply_memsOk {s : State} (h : MemsOk s.mems) (record : List Nat) : MemsOk (s.reapply record).mems := by
  unfold State.reapply
  split
  next => exact h
  next k regions =>
    dsimp only
    rw [mk_mems rfl rfl]
    refine fold_memsOk ((applyFull_memsOk h k).congr ((wr_mems ..).trans (wr_mems ..))) (fun t k ht => ?_) _
    split
    · exact regionTake_memsOk ht _
    · exact ht

theorem withMem_memsOk {s t : State} (hs : MemsOk s.mems) (ht : MemsOk t.mems) (a : HmState) (b : AgState) (c : MgState) :
    MemsOk ({ t with mem := s.mem, hm := a, ag := b, mg := c } : State).mems := ⟨hs.1, ht.2⟩

theorem lostContext_keeps : KeepsMemsOk State.lostContext := by
  delta State.lostContext
  refine KeepsMemsOk.intro fun s h => ?_
  simp only [flag_mems]
  refine reapply_memsOk ?_ _
  simp only [wq_mems, wr_mems, setWord_mems, fold_mems, implies_true]
  exact withMem_memsOk h (coldReset_memsOk h) ..

theorem lostContext_memsOk {s : State} (h : MemsOk s.mems) : MemsOk s.lostContext.mems := lostContext_keeps s h

theorem keptContext_memsOk {s : State} (h : MemsOk s.mems) : MemsOk s.keptContext.mems := by
  simp +contextual only [State.keptContext, contextWords_mems, loadAsps_memsOk, h]

theorem doubtDigests_mems (s : State) : s.doubtDigests.mems = s.mems := by
  simp only [State.doubtDigests, pmDigestDue_mems, wr_mems, mk_mems, ite_mems, ite_self]

theorem timeAgain_mems (s : State) : s.timeAgain.mems = s.mems := by
  simp only [State.timeAgain, fold_mems, freeRun_mems, wr_mems, mk_mems, ite_mems, ite_self, implies_true]

theorem linksAgain_mems (s : State) : s.linksAgain.mems = s.mems := by
  simp only [State.linksAgain, castEnable_mems, fold_mems, portStart_mems, setEth_mems, wr_mems, ite_mems, ite_self,
      implies_true]

theorem wake_memsOk {s : State} (h : MemsOk s.mems) (w : Wake) : MemsOk (s.wake w).mems := by
  simp +contextual only [State.wake, doubtDigests_mems, inc_mems, keptContext_memsOk, linksAgain_mems, logReplay_mems,
      lostContext_memsOk, masterRelease_mems, openReady_mems, setStep_mems, stacksOut_mems, timeAgain_mems, when_mems,
      workResumes_mems, wr_mems, mk_mems, ite_mems, memsOk_ite, implies_true, and_self, h]

theorem wakeAtTime_memsOk {s : State} (h : MemsOk s.mems) (w : Wake) : MemsOk (s.wakeAtTime w).mems := by
  have htick : ∀ goal, MemsOk (s.elapseTo goal).ticked.mems := fun goal => ticked_memsOk (h.congr (elapseTo_mems s goal))
  simp only [State.wakeAtTime]
  split
  · refine wake_memsOk ?_ w
    generalize s.rq R.MG_WAKETIME % 2 ^ 48 * 1000000000 * nsUnit = goal
    exact when_memsOk h (f := fun s => (s.elapseTo goal).ticked) fun _ => htick goal
  · exact h

theorem pmDigestReady_mems (s : State) : s.pmDigestReady.mems = s.mems := by
  unfold State.pmDigestReady
  dsimp only
  split <;> simp only [pmDigestDone_mems, wr_mems, ite_mems, ite_self]

theorem weightDigestReady_mems (s : State) : s.weightDigestReady.mems = s.mems := by
  unfold State.weightDigestReady
  dsimp only
  split <;> simp only [weightDigest_mems, wr_mems, ite_mems, ite_self]

/-! ## The memories under the functions of the electrical interfaces -/

theorem noteVin_mems (s : State) (mv cma : Nat) : (s.noteVin mv cma).mems = s.mems := by
  simp only [State.noteVin, wr_mems]

theorem vinLow_mems (s : State) (mv cma : Nat) : (s.vinLow mv cma).mems = s.mems := by
  simp only [State.vinLow, flag_mems, health_mems, noteVin_mems, wr_mems, ite_mems, ite_self]

theorem vinBack_mems (s : State) (mv cma : Nat) : (s.vinBack mv cma).mems = s.mems := by
  simp only [State.vinBack, noteVin_mems, wr_mems, ite_mems, ite_self]

theorem vinOver_mems (s : State) (mv cma : Nat) : (s.vinOver mv cma).mems = s.mems := by
  simp only [State.vinOver, flag_mems, health_mems, noteVin_mems, shutdown_mems, ite_mems, ite_self]

theorem railExcursion_mems (s : State) (k mv amps : Nat) : (s.railExcursion k mv amps).mems = s.mems := by
  simp only [State.railExcursion, health_mems, shutdown_mems, when_mems, wr_mems, ite_mems, ite_self]

theorem noteTemps_mems (s : State) (temps : List Int) : (s.noteTemps temps).mems = s.mems := by
  simp only [State.noteTemps, fold_mems, wr_mems, implies_true]

theorem thermalUpdate_mems (s : State) (temps : List Int) : (s.thermalUpdate temps).mems = s.mems := by
  simp only [State.thermalUpdate, health_mems, noteTemps_mems, resignFault_mems, setCause_mems, shutdown_mems, toUnsync_mems,
      ite_mems, ite_self]

theorem thermalClear_mems (s : State) : s.thermalClear.mems = s.mems := by
  simp only [State.thermalClear, setCause_mems, ite_mems, ite_self]

theorem smbNext_mems (s : State) : s.smbNext.mems = s.mems := by
  simp only [State.smbNext, mk_mems]

theorem smbTake_mems {s : State} (pec : Bool) {f : State → State} (hf : (f s).mems = s.mems) :
    (s.smbTake pec f).mems = s.mems := by
  simp only [State.smbTake, ite_mems, emit_mems, hf, ite_self]

theorem smbSet_mems (s : State) (pec : Bool) (bs : Bytes) : (s.smbSet pec bs).mems = s.mems :=
  smbTake_mems pec (by simp only [ite_mems, mk_mems, ite_self])

theorem smbRead_mems (s : State) (pec : Bool) : (s.smbRead pec).mems = s.mems :=
  smbTake_mems pec (by simp only [ite_mems, smbNext_mems, emit_mems, flag_mems, csrRead_mems, ite_self])

theorem smbTake_memsOk {s : State} (h : MemsOk s.mems) (pec : Bool) {f : State → State} (hf : MemsOk s.mems → MemsOk (f
    s).mems) :
    MemsOk (s.smbTake pec f).mems := by
  unfold State.smbTake
  exact ite_memsOk h (ite_memsOk (hf h) (h.congr (emit_mems ..)))

theorem smbWrite_memsOk {s : State} (h : MemsOk s.mems) (pec : Bool) (bs : Bytes) : MemsOk (s.smbWrite pec bs).mems :=
  smbTake_memsOk h pec fun ht => ite_memsOk ht (ite_memsOk ((csrCore_memsOk ht ..).congr (smbNext_mems ..))
    (ht.congr ((smbNext_mems ..).trans (flag_mems ..))))

theorem smbWake_memsOk {s : State} (h : MemsOk s.mems) (pec : Bool) (w : Wake) : MemsOk (s.smbWake pec w).mems :=
  smbTake_memsOk h pec fun ht => wake_memsOk ht w

theorem smbFirmware_memsOk {s : State} (h : MemsOk s.mems) (pec : Bool) (bs : Bytes) (verified : Option Word) :
    MemsOk (s.smbFirmware pec bs verified).mems := by
  refine smbTake_memsOk h pec fun ht => ite_memsOk ?_ ht
  dsimp only
  split
  · refine openStacks_memsOk ?_
    simp only [wr_mems, mk_mems, ht]
  · exact ht.congr (mk_mems rfl rfl)

theorem smbAlertAnswer_mems (s : State) : s.smbAlertAnswer.mems = s.mems := by
  simp only [State.smbAlertAnswer, emit_mems, mk_mems, ite_mems, ite_self]

theorem jtagLoad_mems (s : State) (ir : JtagIr) (reg : String) (bits : Nat) : (s.jtagLoad ir reg bits).mems = s.mems := by
  simp only [State.jtagLoad, emit_mems, mk_mems, ite_mems, ite_self]

theorem jtagBypass_mems (s : State) : s.jtagBypass.mems = s.mems := by
  simp only [State.jtagBypass, jtagLoad_mems]

theorem jtagSample_mems (s : State) (pins preload : Nat) : (s.jtagSample pins preload).mems = s.mems := by
  simp only [State.jtagSample, jtagLoad_mems, mk_mems, ite_mems, ite_self]

theorem jtagTest_mems (s : State) (ir : JtagIr) (pins preload : Nat) : (s.jtagTest ir pins preload).mems = s.mems := by
  simp only [State.jtagTest, jtagBypass_mems, jtagLoad_mems, mk_mems, ite_mems, ite_self]

theorem jtagHold_mems (s : State) (ir : JtagIr) : (s.jtagHold ir).mems = s.mems := by
  simp only [State.jtagHold, jtagBypass_mems, jtagLoad_mems, ite_mems, ite_self]

theorem jtagReset_mems (s : State) : s.jtagReset.mems = s.mems := by
  simp only [State.jtagReset, mk_mems]

theorem jtagRelease_mems (s : State) : s.jtagRelease.mems = s.mems := by
  simp only [State.jtagRelease, mk_mems, ite_mems, ite_self]

theorem resetNRelease_memsOk {s : State} (h : MemsOk s.mems) : MemsOk s.resetNRelease.mems := by
  simp +contextual only [State.resetNRelease, jtagRelease_mems, resetNHigh_memsOk, h]

/-! ## The memories under the functions of accesses over the crossbar -/

theorem hbmWrite_memsOk {s : State} (h : MemsOk s.mems) (a : Nat) (d : List (Option Byte)) : MemsOk (s.hbmWrite a d).1.mems :=
    by
  unfold State.hbmWrite
  dsimp only
  refine fold_memsOk (h.congr (mk_mems rfl rfl)) (fun t x ht => ?_) _
  split
  · exact ite_memsOk ht (setByte_memsOk ht ..)
  · exact ht

theorem accessHbm_memsOk {s : State} (h : MemsOk s.mems) (x : Nat) (op : XbOp) : MemsOk (s.accessHbm x op).1.mems := by
  unfold State.accessHbm
  refine ite_fst_memsOk h ?_
  split
  next n => exact ite_fst_memsOk h h
  next d =>
    have hw := hbmWrite_memsOk h x d
    split
    next heq => exact (heq ▸ hw :)
    next heq => exact (heq ▸ hw :)

theorem accessCsr_memsOk {s : State} (h : MemsOk s.mems) (m a : Nat) (op : XbOp) : MemsOk (s.accessCsr m a op).1.mems := by
  unfold State.accessCsr
  dsimp only
  split
  · exact ite_fst_memsOk (h.congr (csrRead_mems ..)) (h.congr (xbViol_mems ..))
  · exact ite_fst_memsOk (csrWrite_memsOk h ..) (h.congr (xbViol_mems ..))

theorem accessMap_mems (s : State) (o : Nat) (op : XbOp) : (s.accessMap o op).1.mems = s.mems := by
  unfold State.accessMap
  split
  · rfl
  · split
    · rfl
    · refine fold_mems (fun t _ => ?_) _
      split
      · exact pmDirect_mems ..
      · rfl

theorem accessAsp_mems (s : State) (o : Nat) (op : XbOp) : (s.accessAsp o op).1.mems = s.mems := by
  unfold State.accessAsp
  dsimp only
  split
  · rfl
  · split
    · exact flag_mems ..
    · refine fold_mems (fun t _ => ?_) _
      split
      · exact (setCore_mems ..).trans (setSpWord_mems ..)
      · rfl

theorem accessStore_memsOk {s : State} (h : MemsOk s.mems) (o : Nat) (op : XbOp) : MemsOk (s.accessStore o op).1.mems := by
  cases op with
  | read n => exact h
  | write d => exact stPut_memsOk h ..

theorem accessPost_mems (s : State) (o : Nat) (op : XbOp) : (s.accessPost o op).1.mems = s.mems := by
  unfold State.accessPost
  dsimp only
  split
  · rfl
  · refine fold_mems (fun t _ => ?_) _
    simp only [ite_mems, auWord_mems, ite_self]

theorem accessMbx_memsOk {s : State} (h : MemsOk s.mems) (o : Nat) (op : XbOp) : MemsOk (s.accessMbx o op).1.mems := by
  cases op with
  | read n => exact h
  | write d => exact ⟨h.1, Memory.wf_put _ _ h.2.1, h.2.2⟩

theorem access_memsOk {s : State} (h : MemsOk s.mems) (m ch a : Nat) (op : XbOp) : MemsOk (s.access m ch a op).1.mems := by
  unfold State.access
  split
  · exact h.congr (xbUnmapped_mems ..)
  · refine ite_fst_memsOk (h.congr (xbViol_mems ..)) (ite_fst_memsOk (h.congr (xbViol_mems ..)) (ite_fst_memsOk h
      (ite_fst_memsOk (h.congr (xbViol_mems ..)) ?_)))
    split
    · exact accessHbm_memsOk h ..
    · exact accessCsr_memsOk h ..
    · exact h.congr (accessMap_mems ..)
    · exact h.congr (accessAsp_mems ..)
    · exact accessStore_memsOk h ..
    · exact h.congr (accessPost_mems ..)
    · exact accessMbx_memsOk h ..

theorem respond_mems (x : Answer) (m : Nat) : (Answer.respond x m).mems = x.1.mems := by
  unfold Answer.respond
  split
  · exact okResp_mems ..
  · exact failTo_mems ..

theorem busError_mems (s : State) : s.busError.mems = s.mems := by
  simp only [State.busError, health_mems]

theorem burst_memsOk {s : State} (h : MemsOk s.mems) (m ch a : Nat) (op : XbOp) (ecc : Bool) :
    MemsOk (s.burst m ch a op ecc).mems :=
  ite_memsOk h (ite_memsOk (h.congr ((failTo_mems ..).trans (busError_mems ..))) ((access_memsOk h ..).congr (respond_mems ..)))

theorem resetMaster_memsOk {s : State} (h : MemsOk s.mems) (m : Nat) (lead : List XbLead) (bursts : Nat) :
    MemsOk (s.resetMaster m lead bursts).mems := by
  unfold State.resetMaster
  rw [masterReset_mems]
  exact ite_memsOk h (fold_memsOk h (fun t x ht => access_memsOk ht ..) _)

theorem hostBursts_memsOk (l : List (Nat × XbOp)) : ∀ {x : Answer}, MemsOk x.1.mems → MemsOk (hostBursts l x).1.mems := by
  induction l with
  | nil => exact fun h => h
  | cons p rest ih =>
    obtain ⟨a, op⟩ := p
    rintro ⟨s, acc⟩ h
    unfold hostBursts
    split
    next heq => exact ih (heq ▸ access_memsOk h 0 0 a op :)
    next heq => exact (heq ▸ access_memsOk h 0 0 a op :)

theorem hostAccess_memsOk {s : State} (h : MemsOk s.mems) (a : Nat) (op : XbOp) : MemsOk (s.hostAccess a op).mems :=
  (hostBursts_memsOk _ h).congr (respond_mems ..)

theorem msixWrite_mems (s : State) (k : Nat) (v : Word) : (s.msixWrite k v).mems = s.mems := by
  simp only [State.msixWrite, msix_mems, mk_mems, ite_mems, ite_self]

theorem msixAccess_mems (s : State) (o : Nat) (op : XbOp) : (s.msixAccess o op).mems = s.mems := by
  unfold State.msixAccess
  dsimp only
  split <;> simp only [fold_mems, msixWrite_mems, okResp_mems, implies_true]

theorem bell_memsOk {s : State} (h : MemsOk s.mems) (o v : Nat) : MemsOk (s.bell o v).mems := by
  simp +contextual only [State.bell, dmaGo_mems, doorbell_memsOk, fire_mems, ite_mems, ite_self, memsOk_ite, implies_true,
      and_self, h]

theorem bellAccess_memsOk {s : State} (h : MemsOk s.mems) (o : Nat) (op : XbOp) : MemsOk (s.bellAccess o op).mems := by
  unfold State.bellAccess
  simp +contextual only [failTo_mems, ite_mems, memsOk_ite, implies_true, h]
  repeat' split
  all_goals simp +contextual only [bell_memsOk, okResp_mems, implies_true, and_self, h]

theorem pcieRequest_memsOk {s : State} (h : MemsOk s.mems) (bar : PcieBar) (o : Nat) (op : XbOp) :
    MemsOk (s.pcieRequest bar o op).mems := by
  have hbad : MemsOk s.peUnsupported.errResp.mems := h.congr ((errResp_mems ..).trans (peUnsupported_mems ..))
  unfold State.pcieRequest
  refine ite_memsOk h ?_
  cases bar with
  | bar0 => exact ite_memsOk ((access_memsOk h ..).congr (respond_mems ..)) hbad
  | bar2 => exact ite_memsOk (hostAccess_memsOk h ..) hbad
  | bar4 =>
    refine ite_memsOk (hostAccess_memsOk h ..) (ite_memsOk (bellAccess_memsOk h ..) (ite_memsOk (hostAccess_memsOk h ..)
      (ite_memsOk (ite_memsOk (h.congr (msixAccess_mems ..)) (h.congr (failTo_mems ..))) (ite_memsOk ?_ hbad))))
    cases op with
    | read n => exact ite_memsOk (h.congr (okResp_mems ..)) (h.congr (failTo_mems ..))
    | write d => exact h.congr (okResp_mems ..)

theorem dmaFail_memsOk {s : State} (h : MemsOk s.mems) (c err ctl : Nat) (mark : Bool) : MemsOk (s.dmaFail c err ctl mark).mems
    := by
  unfold State.dmaFail
  simp only [fire_mems, irq_mems, wr_mems]
  exact ite_memsOk (access_memsOk h ..) h

theorem hostPut_mems (s : State) (a : Nat) (bs : Bytes) : (s.hostPut a bs).mems = s.mems := by
  simp only [State.hostPut, emit_mems, fold_mems, implies_true]

theorem access_memsOk_of {s t : State} {m ch a : Nat} {op : XbOp} {o : Option Bytes} (h : MemsOk s.mems)
    (he : s.access m ch a op = (t, o)) : MemsOk t.mems := (he ▸ access_memsOk h m ch a op :)

theorem dmaGot_memsOk {s t : State} {host : Option Bytes} {c src k : Nat} {o : Option Bytes} (h : MemsOk s.mems)
    (he : (match host with | some bs => ((s, some (bs.take k)) : Answer) | none => s.access 18 c src (.read k)) = (t, o)) :
    MemsOk t.mems := by
  cases host with
  | some bs => cases he; exact h
  | none => exact access_memsOk_of h he

theorem dmaPut_memsOk {s t : State} {toHost : Bool} {c dst : Nat} {bs : Bytes} {o : Option Bytes} (h : MemsOk s.mems)
    (he : (if toHost then ((s.hostPut dst bs, some []) : Answer) else s.access 18 c dst (.write (bs.map some))) = (t, o)) :
    MemsOk t.mems := by
  cases toHost with
  | true => cases he; exact h.congr (hostPut_mems ..)
  | false => exact access_memsOk_of h he

theorem dmaCopy_memsOk (f : Nat) : ∀ {c : Nat} {host : Option Bytes} {toHost : Bool} {src dst len : Nat} {s : State},
    MemsOk s.mems → MemsOk (dmaCopy f c host toHost src dst len s).1.mems := by
  induction f with
  | zero => exact fun h => h
  | succ f ih =>
    intro c host toHost src dst len s h
    unfold dmaCopy
    refine ite_fst_memsOk h ?_
    dsimp only
    split
    next heq => exact dmaGot_memsOk h heq
    next heq =>
      have hu := dmaGot_memsOk h heq
      split
      next heq => exact dmaPut_memsOk hu heq
      next heq => exact ih (dmaPut_memsOk hu heq)

theorem dmaNext_keeps : KeepsMemsOk₂ State.dmaNext := by
  delta State.dmaNext
  refine KeepsMemsOk₂.intro fun s c ctl h => ?_
  generalize s.rq (R.XB_DMACUR c) = cur
  revert cur
  refine id fun cur => ?_
  simp only []
  split
  next heq => exact dmaFail_memsOk (access_memsOk_of h heq) ..
  next t bs heq =>
    have ht := access_memsOk_of h heq
    have hw : MemsOk (t.wr (R.XB_DMASTAT_pend c) 0).mems := ht.congr (wr_mems ..)
    split
    · exact ht.congr (wq_mems ..)
    · split
      · split
        next heq => exact dmaFail_memsOk (access_memsOk_of hw heq) ..
        next heq =>
          have hu := access_memsOk_of hw heq
          split
          · exact hu.congr (wq_mems ..)
          · exact hu.congr (wr_mems ..)
      · exact ht.congr (wr_mems ..)

theorem dmaNext_memsOk {s : State} (h : MemsOk s.mems) (c ctl : Nat) : MemsOk (s.dmaNext c ctl).mems := dmaNext_keeps s c ctl h

theorem dmaDone_keeps : KeepsMemsOk₂ State.dmaDone := by
  delta State.dmaDone
  refine KeepsMemsOk₂.intro fun s c ctl h => ?_
  generalize s.rq (R.XB_DMACUR c) = cur
  revert cur
  refine id fun cur => ?_
  simp only []
  split
  next heq => exact dmaFail_memsOk (access_memsOk_of h heq) ..
  next t _ heq =>
    refine dmaNext_memsOk (MemsOk.congr (access_memsOk_of h heq) ?_) ..
    simp only [when_mems, irq_mems, fire_mems, inc_mems]

theorem dmaDone_memsOk {s : State} (h : MemsOk s.mems) (c ctl : Nat) : MemsOk (s.dmaDone c ctl).mems := dmaDone_keeps s c ctl h

theorem dmaStep_memsOk {s : State} (h : MemsOk s.mems) (c : Nat) (hostData : Bytes) (hostError ecc : Bool) :
    MemsOk (s.dmaStep c hostData hostError ecc).mems := by
  unfold State.dmaStep
  refine ite_memsOk h (ite_memsOk (dmaFail_memsOk h ..) ?_)
  split
  next heq => exact dmaFail_memsOk (access_memsOk_of h heq) ..
  next t d heq =>
    have ht := access_memsOk_of h heq
    refine ite_memsOk (dmaFail_memsOk ht ..) (ite_memsOk (dmaFail_memsOk (ht.congr (busError_mems ..)) ..)
      (ite_memsOk (dmaFail_memsOk ht ..) ?_))
    split
    next heq => exact dmaFail_memsOk (heq ▸ dmaCopy_memsOk _ ht :) ..
    next heq => exact dmaDone_memsOk (heq ▸ dmaCopy_memsOk _ ht :) ..

theorem externComplete_memsOk {s : State} (h : MemsOk s.mems) (n : Nat) : MemsOk (s.externComplete n).mems := by
  unfold State.externComplete
  split
  · exact h
  · exact ite_memsOk h ((access_memsOk h ..).congr (aspExternDone_mems ..))

theorem taskAct_mems (s : State) (t fine : Nat) : (s.taskAct t fine).mems = s.mems := by
  simp only [State.taskAct, captureRelease_mems, captureTask_mems, dmaGo_mems, evioAction_mems, freezeTask_mems, hltSend_mems,
      irq_mems, relay_mems, requestDrain_mems, timSend_mems, trgArm_mems, ite_mems, ite_self]

theorem taskExecute_mems (s : State) (t fine : Nat) : (s.taskExecute t fine).mems = s.mems := by
  unfold State.taskExecute
  split
  · rfl
  · exact taskTake_mems t fun u => taskAct_mems u t fine

/-! ## The memories under the functions of commands of several parts -/

theorem cellPacket_memsOk {s : State} (h : MemsOk s.mems) (p : Nat) (cell : Bytes) (arr : Nat) :
    MemsOk (s.cellPacket p cell arr).mems := by
  have ht : MemsOk (s.cellTake p cell).1.mems := h.congr (cellTake_mems ..)
  unfold State.cellPacket
  split
  next t _ heq =>
    have hu : MemsOk t.mems := (heq ▸ ht :)
    exact ite_memsOk (packetTake_memsOk hu ..) (hu.congr (castTake_mems ..))
  next heq => exact (heq ▸ ht :)

theorem drainCells_memsOk (n : Nat) (p : Nat) : ∀ {s : State}, MemsOk s.mems → MemsOk (drainCells n s p).mems := by
  induction n with
  | zero => exact fun h => h
  | succ n ih =>
    intro s h
    unfold drainCells
    split
    next => exact h
    next heq => exact ih ((h.congr (nextCell_mems s p heq)).congr (skipCell_mems ..))
    next heq => exact ih (cellPacket_memsOk (h.congr (nextCell_mems s p heq)) ..)

theorem cellArrive_memsOk {s : State} (h : MemsOk s.mems) (p lane : Nat) (cell : Bytes) (ticks : Nat) :
    MemsOk (s.cellArrive p lane cell ticks).mems := by
  unfold State.cellArrive
  refine ite_memsOk h (drainCells_memsOk _ p ?_)
  exact h.congr ((queueCell_mems ..).trans (overlapped_mems ..))

theorem clockQuiet_mems (s t : State) : (s.clockQuiet t).mems = t.mems := by
  simp only [State.clockQuiet, ite_mems, mk_mems, ite_self]

theorem secondPasses_memsOk {s : State} (h : MemsOk s.mems) : MemsOk s.secondPasses.mems := by
  simp +contextual only [State.secondPasses, clockQuiet_mems, ticked_memsOk, toNextSecond_mems, ite_mems, memsOk_ite,
      implies_true, and_self, h]

theorem idleTick_memsOk {s : State} (h : MemsOk s.mems) : MemsOk s.idleTick.mems := by
  simp +contextual only [State.idleTick, clockQuiet_mems, tickClock_mems, ticked_memsOk, ite_mems, memsOk_ite, implies_true,
      and_self, h]

/-! ## The memories under the commands -/

/-- What an outcome leaves, if it is a next state, has its memories in their canonical form. -/
def NextMemsOk (o : Host.Outcome State Fault Refusal) : Prop := ∀ t, o = .next t → MemsOk t.mems

theorem next_memsOk {t : State} (h : MemsOk t.mems) : NextMemsOk (.next t) := by
  rintro _ ⟨rfl⟩
  exact h

theorem does_memsOk {s : State} (h : MemsOk s.mems) {f : State → State} (hf : MemsOk (f s).mems) : NextMemsOk (s.does f) :=
  next_memsOk (ite_memsOk h hf)

/-- Every command keeps the memories in their canonical form. -/
theorem exec_memsOk {s : State} (h : MemsOk s.mems) (i : Instr) : NextMemsOk (exec i s) := by
  cases i
  all_goals dsimp only [exec]
  case xoInLost => exact next_memsOk (xoGone_memsOk h ..)
  case xoInReturn => exact next_memsOk (xoBack_memsOk h ..)
  case taiSecondRollover => exact next_memsOk (secondPasses_memsOk h ..)
  case powerOn => exact next_memsOk (powerOn_memsOk h ..)
  case powerLoss => exact next_memsOk (h.congr (powerLoss_mems ..))
  case vinLow => exact next_memsOk (h.congr (vinLow_mems ..))
  case vinRecover => exact next_memsOk (h.congr (vinBack_mems ..))
  case overvoltage => exact next_memsOk (h.congr (vinOver_mems ..))
  case regulatorExcursion => exact next_memsOk (h.congr (railExcursion_mems ..))
  case thermalSensorUpdate => exact next_memsOk (h.congr (thermalUpdate_mems ..))
  case resetNAssert => exact next_memsOk (resetN_memsOk h ..)
  case resetNRelease => exact next_memsOk (resetNRelease_memsOk h ..)
  case wakePin => exact next_memsOk (wake_memsOk h ..)
  case wakeTime => exact next_memsOk (wakeAtTime_memsOk h ..)
  case smbusSetOffset => exact next_memsOk (h.congr (smbSet_mems ..))
  case smbusRead => exact next_memsOk (h.congr (smbRead_mems ..))
  case smbusWrite => exact next_memsOk (smbWrite_memsOk h ..)
  case smbusWake => exact next_memsOk (smbWake_memsOk h ..)
  case smbusFirmwareAppend => exact next_memsOk (smbFirmware_memsOk h ..)
  case smbusAlertResponse => exact next_memsOk (h.congr (smbAlertAnswer_mems ..))
  case jtagBypass => exact next_memsOk (h.congr (jtagBypass_mems ..))
  case jtagIdcode => exact next_memsOk (h.congr (jtagLoad_mems ..))
  case jtagSamplePreload => exact next_memsOk (h.congr (jtagSample_mems ..))
  case jtagExtest | jtagExtestPulse | jtagExtestTrain => exact next_memsOk (h.congr (jtagTest_mems ..))
  case jtagHighz | jtagClamp => exact next_memsOk (h.congr (jtagHold_mems ..))
  case testLogicReset => exact next_memsOk (h.congr (jtagReset_mems ..))
  case perstNRelease => exact next_memsOk (h.congr (perstHigh_mems ..))
  all_goals refine does_memsOk h ?_
  case registerWrite | pairLoWrite | pairHiWrite | portEnable | portDisable | controlTxQueue | controlSlotFree |
      streamTableCommit | claimDomainReset | alignmentEnable | alignmentDisable | windowChange | freezeCommand |
      captureRelease | boardEnable | boardDisable | boardHalt | drainRequest | pairingTableCommit | remapWrite |
      groupOpen | groupClose | groupAbort | pairMapCommit | beamArrayEnable | beamArrayDisable | beamArrayHalt |
      weightSetSwitch | weightSetConfirm | beamConfigCommit | routeWrite | endpointWrite | ethPortControlWrite |
      boardTestRequest | beamTestRequest | hbmRetrainRequest | serdesRecalibrateRequest | laneCalibrateRequest |
      maintenanceRequest | faultClear | castlingEnable | castlingDisable | castResign | takeAsSole | castLeave |
      castJoin | handOver | referenceEnable | referenceDisable | referenceLatchClear | manualSelect | timeStepRequest |
      scEpochCommit | scEpochInvalidate | comparatorArm | endgameRequest | endgameClear | dmaGo | dmaAbort |
      mailboxDoorbell | hostEvent | channelConfigWrite | channelOwnerWrite | aspRun | aspStop | aspStep | aspReset |
      hostMessage | audioClockSelect | regionReset | watchdogKick | pairMapConfirm => exact writeWord_memsOk h ..
  case pairLoRead | counterRead | snapshotRead | planRecordRead | timeRead | captureStampRead => exact h.congr (readWord_mems
      ..)
  case roundBoundary =>
    exact ((moveHorizon_memsOk (h.congr (passBoundaries_mems ..)) ..).congr (handCheck_mems ..)).congr (joinCheck_mems ..)
  case ingestRoundStart => exact ingestNext_memsOk h ..
  case horizonAdvance => exact ((moveHorizon_memsOk h ..).congr (handCheck_mems ..)).congr (joinCheck_mems ..)
  case packetPlace => exact placeNext_memsOk h ..
  case samplePacketReceive | timingPacketReceive | controlPacketReceive | claimPacketReceive => exact packetArrive_memsOk h ..
  case statusCellReceive => exact h.congr (statusArrive_mems ..)
  case alignmentCellReceive => exact alignTake_memsOk h ..
  case lanesLocked => exact lanesLocked_memsOk h ..
  case trainingTimeout => exact h.congr (trainTimeout_mems ..)
  case deskewComplete => exact h.congr (deskewDone_mems ..)
  case deskewTimeout => exact h.congr (deskewTimeout_mems ..)
  case portLinkLoss => exact portLoss_memsOk h ..
  case statusCellSend => exact h.congr (statusSend_mems ..)
  case alignmentCellSend => exact h.congr (alignSend_mems ..)
  case claimPacketSend => exact h.congr (claimSend_mems ..)
  case timingPacketSend => exact h.congr (timingSend_mems ..)
  case controlPacketSend => exact h.congr (controlSend_mems ..)
  case voltagePacketSend => exact h.congr ((handCheck_mems ..).trans (voltageSend_mems ..))
  case repairBitmapSend => exact h.congr (bitmapSend_mems ..)
  case boardRoundStart => exact h.congr (boardStart_mems ..)
  case plyMarkerIssue => exact placeMarker_memsOk h ..
  case markerRelease => exact h.congr (markerRelease_mems ..)
  case feederWaitEnd => exact h.congr (feederWait_mems ..)
  case passEnd => exact h.congr (passEnd_mems ..)
  case plyStatusFinal => exact plyFinal_memsOk h ..
  case drainComplete => exact h.congr ((joinCheck_mems ..).trans (drainDone_mems ..))
  case pairMapApply => exact h.congr (pmApply_mems ..)
  case pairMapDirectWrite | crossbarBurst => exact burst_memsOk h ..
  case pairMapDigestDone => exact h.congr (pmDigestReady_mems ..)
  case beamRoundStart => exact h.congr (beamStart_mems ..)
  case channelSetComplete => exact h.congr (setComplete_mems ..)
  case beamCheckMismatch => exact h.congr (beamMismatch_mems ..)
  case weightDigestDone => exact h.congr (weightDigestReady_mems ..)
  case releaseGatePass => exact h.congr ((handCheck_mems ..).trans (gatePass_mems ..))
  case frameSend => exact h.congr ((handCheck_mems ..).trans (frameSend_mems ..))
  case hltReport => exact h.congr (hltReport_mems ..)
  case timReport => exact h.congr (timReport_mems ..)
  case ethernetFrameReceive => exact etherTake_memsOk h ..
  case ethAlignmentLoss => exact ethLost_memsOk h ..
  case ethLinkUp => exact h.congr (ethRise_mems ..)
  case sequenceSet | peWinWrite => exact writePair_memsOk h ..
  case adderMismatch => exact adderMismatch_memsOk h ..
  case testComplete => exact h.congr (testComplete_mems ..)
  case healthRecovery => exact h.congr (healthRecover_mems ..)
  case arbiterLockstepFault => exact arbiterStop_memsOk h ..
  case arbiterRestartDone => exact arbiterBack_memsOk h ..
  case arbiterRestartTimeout => exact h.congr (arbiterLost_mems ..)
  case counterDisagree => exact h.congr (counterDisagree_mems ..)
  case leaseReceive | ackReceive => exact h.congr ((handCheck_mems ..).trans (castArrive_mems ..))
  case wmarkReceive | digestReceive | planReceive | spanReceive | rprqReceive | rpktReceive | joinReceive |
      jresReceive | freezeReceive => exact h.congr (castArrive_mems ..)
  case leasePinTransition => exact h.congr (pinEdge_mems ..)
  case leaseRenewal => exact h.congr (leaseRenew_mems ..)
  case wmarkSend => exact h.congr (wmarkSend_mems ..)
  case digestSend => exact h.congr (digestSend_mems ..)
  case leaseExpiry => exact h.congr (leaseExpire_mems ..)
  case guardExpiry => exact h.congr (guardExpire_mems ..)
  case ackTimeout => exact h.congr (ackExpire_mems ..)
  case cstLinkTimeout => exact h.congr (linkExpire_mems ..)
  case planTimeout => exact h.congr (planExpire_mems ..)
  case referenceEdge => exact refEdge_memsOk h ..
  case referenceEventTimeout => exact refTimeout_memsOk h ..
  case referenceQualified => exact refQualified_memsOk h ..
  case hardWindowGate => exact refGate_memsOk h ..
  case crossComparisonUpdate => exact crossCompare_memsOk h ..
  case revertWaitExpiry => exact h.congr (refRevert_mems ..)
  case dpllLock => exact h.congr (dpllLock_mems ..)
  case slewComplete => exact h.congr (slewDone_mems ..)
  case timeStepApply => exact (stepApply_memsOk h ..).congr (passBoundaries_mems ..)
  case scEpochApply => exact (epochApply_memsOk h ..).congr (passBoundaries_mems ..)
  case syncReceive | followUpReceive | delayReqReceive | delayRespReceive | pdelayReqReceive | pdelayRespReceive |
      pdelayRespFollowUpReceive | announceReceive => exact ptpArrive_memsOk h ..
  case announceReceiptTimeout => exact h.congr (announceTimeout_mems ..)
  case syncSend => exact h.congr (syncSend_mems ..)
  case announceSend => exact h.congr (announceSend_mems ..)
  case delayReqSend => exact h.congr (dreqSend_mems ..)
  case pdelayReqSend => exact h.congr (preqSend_mems ..)
  case comparatorFire => exact ticked_memsOk (h.congr (trgReach_mems ..)) ..
  case triggerPulseEnd => exact h.congr (trgPulseEnd_mems ..)
  case captureEdge => exact h.congr (captureEdge_mems ..)
  case planAdmission => exact h.congr (planAdmit_mems ..)
  case energyCountUpdate => exact h.congr (energyUpdate_mems ..)
  case paceCheck => exact h.congr (paceCheck_mems ..)
  case voltagePointSettle => exact h.congr (settlePoint_mems ..)
  case endgameEntry => exact h.congr (endgameEnter_mems ..)
  case endgameExit => exact h.congr (endgameLeave_mems ..)
  case thermalCauseClear => exact h.congr (thermalClear_mems ..)
  case hbmRequestServe => exact hbmServe_memsOk h ..
  case agePromotion => exact h.congr (agePromote_mems ..)
  case refreshDue => exact h.congr (refreshDue_mems ..)
  case hbmTemperatureRead => exact h.congr (hbmTemp_mems ..)
  case trngHealthFail => exact h.congr (trngFail_mems ..)
  case trngRetry => exact writeWord_memsOk (h.congr (mk_mems rfl rfl)) ..
  case scrubRead => exact h.congr (scrubRead_mems ..)
  case rowSpare => exact h.congr (rowSpare_mems ..)
  case rowCopyComplete => exact h.congr (rowCopied_mems ..)
  case phyCentring => exact h.congr (phyCentre_mems ..)
  case hbmTrainingDone => exact h.congr (trainingDone_mems ..)
  case selfRefreshEntryDone => exact h.congr (selfRefreshIn_mems ..)
  case selfRefreshExitDone => exact h.congr (selfRefreshOut_mems ..)
  case masterReset => exact resetMaster_memsOk h ..
  case dmaDescriptorComplete => exact dmaStep_memsOk h ..
  case pcieRequest => exact pcieRequest_memsOk h ..
  case mailboxEcho => exact mbxEcho_memsOk h ..
  case firmwareVersion => exact mbxVersion_memsOk h ..
  case boardLineRepairRequest => exact lineRequest_memsOk h ..
  case hbmRowSpareRequest => exact rowRequest_memsOk h ..
  case eventDelivery => exact h.congr (deliverEvents_mems ..)
  case taskExecute => exact h.congr (taskExecute_mems ..)
  case evioEdge => exact h.congr (evioEdge_mems ..)
  case evioPulseEnd => exact h.congr (evioPulseEnd_mems ..)
  case aspNop => exact h.congr (aspExec_mems _ _ _ _ fun _ _ _ => rfl)
  case aspBr | aspBrcc => exact h.congr (aspExec_mems _ _ _ _ fun _ _ _ => aspBranchBody_keeps ..)
  case aspCall => exact h.congr (aspExec_mems _ _ _ _ fun _ _ _ => aspCallBody_keeps ..)
  case aspRet => exact h.congr (aspExec_mems _ _ _ _ fun _ _ _ => aspRetBody_keeps ..)
  case aspReti => exact h.congr (aspExec_mems _ _ _ _ fun _ _ _ => aspRetiBody_keeps ..)
  case aspLoopnz => exact h.congr (aspExec_mems _ _ _ _ fun _ _ _ => aspLoopBody_keeps ..)
  case aspWait => exact h.congr (aspExec_mems _ _ _ _ fun _ _ _ => aspWaitBody_keeps ..)
  case aspEi | aspDi => exact h.congr (aspExec_mems _ _ _ _ fun _ _ _ => aspEnableBody_keeps ..)
  case aspSig => exact h.congr (aspExec_mems _ _ _ _ fun _ _ _ => aspSigBody_keeps ..)
  case aspHint => exact h.congr (aspExec_mems _ _ _ _ fun _ _ _ => aspHintBody_keeps ..)
  case aspRpt => exact h.congr (aspExec_mems _ _ _ _ fun _ _ _ => aspRptBody_keeps ..)
  case aspMovi => exact h.congr (aspExec_mems _ _ _ _ fun _ _ _ => aspMoviBody_keeps ..)
  case aspMov => exact h.congr (aspExec_mems _ _ _ _ fun _ _ _ => aspMovBody_keeps ..)
  case aspModp => exact h.congr (aspExec_mems _ _ _ _ fun _ _ _ => aspModpBody_keeps ..)
  case aspLoad => exact h.congr (aspExec_mems _ _ _ _ fun _ _ _ => aspLoadBody_keeps ..)
  case aspStore => exact h.congr (aspExec_mems _ _ _ _ fun _ _ _ => aspStoreBody_keeps ..)
  case aspAdd | aspSub | aspAnd | aspOr | aspXor | aspShl | aspShr | aspAsr | aspMin | aspMax | aspAbs | aspNeg |
      aspCmp => exact h.congr (aspExec_mems _ _ _ _ fun _ _ _ => aspAluBody_keeps ..)
  case aspMpy | aspMac | aspMsu => exact h.congr (aspExec_mems _ _ _ _ fun _ _ _ => aspMulBody_keeps ..)
  case aspCmac => exact h.congr (aspExec_mems _ _ _ _ fun _ _ _ => aspCmacBody_keeps ..)
  case aspCmac2 => exact h.congr (aspExec_mems _ _ _ _ fun _ _ _ => aspCmac2Body_keeps ..)
  case aspMova => exact h.congr (aspExec_mems _ _ _ _ fun _ _ _ => aspMovaBody_keeps ..)
  case aspClra => exact h.congr (aspExec_mems _ _ _ _ fun _ _ _ => aspClraBody_keeps ..)
  case aspAdda => exact h.congr (aspExec_mems _ _ _ _ fun _ _ _ => aspAddaBody_keeps ..)
  case aspSha => exact h.congr (aspExec_mems _ _ _ _ fun _ _ _ => aspShaBody_keeps ..)
  case aspExt => exact h.congr (aspExec_mems _ _ _ _ fun _ _ _ => aspExtBody_keeps ..)
  case aspIns => exact h.congr (aspExec_mems _ _ _ _ fun _ _ _ => aspInsBody_keeps ..)
  case interruptAccept => exact h.congr (aspInterrupt_mems ..)
  case externalAccessComplete => exact externComplete_memsOk h ..
  case aspStreamDelivery => exact h.congr (aspStream_mems ..)
  case aes3Frame => exact aesFrame_memsOk h ..
  case bufferWordAppend => exact h.congr (auWord_mems ..)
  case aes3RefMeasure => exact h.congr (auMeasure_mems ..)
  case aes3RefLock => exact h.congr (auLock_mems ..)
  case aes3RefLoss => exact h.congr (auLost_mems ..)
  case containerWrite => exact containerWrite_memsOk h ..
  case containerVerify => exact containerVerify_memsOk h ..
  case slotEmpty => exact slotEmpty_memsOk h ..
  case fullLoad => exact fullLoad_memsOk h ..
  case fullLoadComplete => exact fullLoadDone_memsOk h ..
  case regionLoad => exact regionLoad_memsOk h ..
  case regionLoadApply => exact h.congr (regionApply_mems ..)
  case regionLoadComplete => exact regionComplete_memsOk h ..
  case slotMarkGood => exact slotMarkGood_memsOk h ..
  case keyProgram => exact keyProgram_memsOk h ..
  case keyRevoke => exact keyRevoke_memsOk h ..
  case repairClear => exact repairClear_memsOk h ..
  case repairLogAppend => exact logAppend_memsOk h ..
  case pcieReset => exact h.congr (pcieReset_mems ..)
  case functionLevelReset => exact h.congr (functionReset_mems ..)
  case watchdogExpiry => exact ite_memsOk (arbiterStop_memsOk h) h
  case adjournment => exact adjournment_memsOk h ..
  case resetRequest => exact resetRequest_memsOk h ..
  case bootPrefSet => exact bootPref_memsOk h ..
  case watchdogPeriodSet => exact watchdogPeriod_memsOk h ..
  case codewordReceive => exact h.congr (codeword_mems ..)
  case cellReceive => exact cellArrive_memsOk h ..
  case leaseWaitExpiry => exact h.congr (waitExpire_mems ..)

/-- Settles O60: each command, and the idle tick, writes the three memories byte by byte through `smapSet`, if at all. -/
theorem memoryKept : Obligations.MemoryKept := by
  unfold Obligations.MemoryKept
  intro s t h hst
  unfold step at hst
  split at hst
  next => exact next_memsOk (idleTick_memsOk h) t hst
  next c rest _ => exact exec_memsOk (s := { s with pending := rest }) (h : MemsOk s.mems) c t hst

end Sys2Proof.Machine
end

section
/-! One step of the device (log entries 1 and 2). -/

namespace Sys2Proof.Machine

/-- Settles O58: the two branches of `step`. -/
theorem stepRunsFront : Obligations.StepRunsFront := by
  unfold Obligations.StepRunsFront
  exact ⟨fun _ _ => rfl, fun s h => by rw [step, h]⟩

end Sys2Proof.Machine
end

section
/-! What a host request reaches (R305 to R309, Tables 14-6 and 14-7). -/

namespace Sys2Proof.Machine

theorem exec_pcieRequest {s : State} (hoff : s.off = false) (bar : PcieBar) (o : BitVec 36) (op : XbOp) :
    exec (.pcieRequest bar o op) s = .next (s.pcieRequest bar o.toNat op) :=
  s.does_on hoff fun s => s.pcieRequest bar o.toNat op

theorem pcieRequest_quiesced {s : State} (hq : s.quiesced 0 = true) (bar : PcieBar) (o : Nat) (op : XbOp) :
    s.pcieRequest bar o op = s := if_pos hq

section
variable {s : State} (hq : s.quiesced 0 = false) {o : Nat} {op : XbOp}
include hq

theorem pcieRequest_bar0 : s.pcieRequest .bar0 o op
    = if o + opLen op ≤ 0x10000000 then Answer.respond (s.access 0 0 (csrAddr o) op) 0 else s.peUnsupported.errResp := by
  simp [State.pcieRequest, hq]

theorem pcieRequest_bar2 : s.pcieRequest .bar2 o op
    = if o + opLen op ≤ 0x1000000000 then s.hostAccess (s.rq R.PE_WIN + o) op else s.peUnsupported.errResp := by
  simp [State.pcieRequest, hq]

theorem pcieRequest_map (h : o + opLen op ≤ 0x2000000) :
    s.pcieRequest .bar4 o op = s.hostAccess (0x6000000000 + o) op := by
  simp [State.pcieRequest, hq, h]

theorem pcieRequest_mailbox (hlo : 0x2010000 ≤ o) (hhi : o + opLen op ≤ 0x2020000) :
    s.pcieRequest .bar4 o op = s.hostAccess (0x6500000000 + (o - 0x2010000)) op := by
  have hmap : ¬ o + opLen op ≤ 0x2000000 := by omega
  have hbell : ¬ o + opLen op ≤ 0x2001000 := by omega
  simp [State.pcieRequest, hq, hmap, hbell, hlo, hhi]

theorem pcieRequest_bell (hlo : 0x2000000 ≤ o) (hhi : o + opLen op ≤ 0x2001000) (hlen : 0 < opLen op) :
    s.pcieRequest .bar4 o op = s.bellAccess (o - 0x2000000) op := by
  have hmap : ¬ o + opLen op ≤ 0x2000000 := by omega
  simp [State.pcieRequest, hq, hmap, hlo, hhi]

theorem pcieRequest_msix (hlo : 0x2020000 ≤ o) (hhi : o + opLen op ≤ 0x2021000) (hlen : 0 < opLen op) :
    s.pcieRequest .bar4 o op = if s.on R.MG_STATUS_ready then s.msixAccess (o - 0x2020000) op else s.failTo 0 := by
  have hmap : ¬ o + opLen op ≤ 0x2000000 := by omega
  have hbell : ¬ o + opLen op ≤ 0x2001000 := by omega
  have hmbx : ¬ o + opLen op ≤ 0x2020000 := by omega
  simp [State.pcieRequest, hq, hmap, hbell, hmbx, hlo, hhi]

theorem pcieRequest_pba {n : Nat} (hlo : 0x2021000 ≤ o) (hhi : o + n ≤ 0x2021020) (hlen : 0 < n)
    (hready : s.on R.MG_STATUS_ready = true) : s.pcieRequest .bar4 o (.read n)
      = s.okResp ((List.range n).map (fun i => s.pbaByte (o - 0x2021000 + i))) := by
  have hmap : ¬ o + n ≤ 0x2000000 := by omega
  have hbell : ¬ o + n ≤ 0x2001000 := by omega
  have hmbx : ¬ o + n ≤ 0x2020000 := by omega
  have htable : ¬ o + n ≤ 0x2021000 := by omega
  simp [State.pcieRequest, opLen, hq, hmap, hbell, hmbx, htable, hlo, hhi, hready]

theorem pcieRequest_gap (hlo : 0x2001000 ≤ o) (hhi : o + opLen op ≤ 0x2010000) (hlen : 0 < opLen op) :
    s.pcieRequest .bar4 o op = s.peUnsupported.errResp := by
  have hmap : ¬ o + opLen op ≤ 0x2000000 := by omega
  have hbell : ¬ o + opLen op ≤ 0x2001000 := by omega
  have hmbx : ¬ 0x2010000 ≤ o := by omega
  have htable : ¬ 0x2020000 ≤ o := by omega
  have hpba : ¬ 0x2021000 ≤ o := by omega
  simp [State.pcieRequest, hq, hmap, hbell, hmbx, htable, hpba]

theorem pcieRequest_past (h : 0x2021020 < o + opLen op) : s.pcieRequest .bar4 o op = s.peUnsupported.errResp := by
  have hmap : ¬ o + opLen op ≤ 0x2000000 := by omega
  have hbell : ¬ o + opLen op ≤ 0x2001000 := by omega
  have hmbx : ¬ o + opLen op ≤ 0x2020000 := by omega
  have htable : ¬ o + opLen op ≤ 0x2021000 := by omega
  simp [State.pcieRequest, hq, hmap, hbell, hmbx, htable, h]

end

/-- Settles O40: each clause is the branch of `State.pcieRequest` that the BAR and the offset select. -/
theorem hostRequests : Obligations.HostRequests := by
  unfold Obligations.HostRequests
  intro s o op hoff
  simp only [exec_pcieRequest hoff]
  refine ⟨fun hq bar => congrArg _ (pcieRequest_quiesced hq bar _ op), fun hq => ⟨?_, ?_, ?_, ?_, ?_, ?_, ?_, ?_, ?_, ?_, ?_⟩⟩
  · exact fun h => congrArg _ ((pcieRequest_bar0 hq).trans (if_pos h))
  · exact fun h => congrArg _ ((pcieRequest_bar0 hq).trans (if_neg (Nat.not_le.2 h)))
  · exact fun h => congrArg _ ((pcieRequest_bar2 hq).trans (if_pos h))
  · exact fun h => congrArg _ ((pcieRequest_bar2 hq).trans (if_neg (Nat.not_le.2 h)))
  · exact fun h => congrArg _ (pcieRequest_map hq h)
  · exact fun hlo hhi _ => congrArg _ (pcieRequest_mailbox hq hlo hhi)
  · exact fun hlo hhi hlen _ => congrArg _ (pcieRequest_bell hq hlo hhi hlen)
  · exact fun hlo hhi hlen => congrArg _ (pcieRequest_msix hq hlo hhi hlen)
  · rintro n rfl hlo hhi hlen hready
    exact congrArg _ (pcieRequest_pba hq hlo hhi hlen hready)
  · exact fun hlo hhi hlen => congrArg _ (pcieRequest_gap hq hlo hhi hlen)
  · exact fun h => congrArg _ (pcieRequest_past hq h)

end Sys2Proof.Machine
end

section
/-! What a mailbox response leaves in the mailbox and its registers (R310, Table 14-9). -/

namespace Sys2Proof.Machine

theorem testBit_setBit_same (m i : Nat) (b : Bool) : (setBit m i b).testBit i = b := by
  have h := getBits_putBits_same m i 1 (if b then 1 else 0)
  rw [getBits, Nat.shiftRight_eq_div_pow] at h
  rw [setBit, Nat.testBit_eq_decide_div_mod_eq]
  cases b <;> simpa using h

/-! ## Bytes of a memory -/

@[simp] theorem length_memGet (m : Memory) (a n : Nat) : (memGet m a n).length = n := by
  rw [memGet, List.length_map, List.length_range]

/-- Bytes written read back, part by part. -/
theorem memGet_put (m : Memory) (a : Nat) {bs : Bytes} {i n : Nat} (h : i + n ≤ bs.length) :
    memGet (memPut m a bs) (a + i) n = (bs.drop i).take n := by
  refine List.ext_getElem ?_ fun k hk _ => ?_
  · rw [length_memGet, List.length_take, List.length_drop]
    omega
  · rw [length_memGet] at hk
    simp only [memGet, List.getElem_map, List.getElem_range, List.getElem_take, List.getElem_drop, Nat.add_assoc]
    exact memPut_same _ _ _ _ (by omega)

/-- A part of a string that is put together of three. -/
theorem take_drop_append {α : Type} {a b : List α} {i n : Nat} (ha : a.length = i) (hb : b.length = n) (c : List α) :
    ((a ++ b ++ c).drop i).take n = b := by
  rw [List.append_assoc, List.drop_left' ha, List.take_left' hb]

/-! ## The response -/

/-- The bytes of a response: the tag, the status, the payload's length and the payload at its place (Table 14-9). -/
def mbxAnswerBytes (tag : Bytes) (status : Nat) (payload : Bytes) : Bytes :=
  tag ++ leBytes 2 status ++ leBytes 2 payload.length ++ zeros 24 ++ payload

section
variable (s : State) (slot status : Nat) (payload : Bytes)

theorem mbxRespond_xb : (s.mbxRespond slot status payload).xb = { s.xb with
    mbx := memPut s.xb.mbx (1024 * slot + 512) (mbxAnswerBytes (s.mbxBytes (1024 * slot + 4) 4) status payload)
    mbxQ := s.xb.mbxQ.drop 1 } := by
  simp only [State.mbxRespond, State.irq_xb, State.wr_xb, mbxAnswerBytes]

theorem mbxRespond_busy : (s.mbxRespond slot status payload).rd R.XB_MBXBUSY_busy
    = setBit (s.rd R.XB_MBXBUSY_busy) slot false % 2 ^ 16 := by
  rw [State.mbxRespond, State.rd_irq _ _ (by decide), State.rd_wr_same _ _ _ (by decide)]
  rfl

theorem length_mbxAnswerBytes {tag : Bytes} (ht : tag.length = 4) :
    (mbxAnswerBytes tag status payload).length = 32 + payload.length := by
  simp only [mbxAnswerBytes, List.length_append, length_leBytes, length_zeros, ht]

variable {s slot status payload}

/-- What the answer's half of the slot reads after the response. -/
theorem mbxRespond_bytes {i n : Nat} (h : i + n ≤ 32 + payload.length) :
    (s.mbxRespond slot status payload).mbxBytes (1024 * slot + 512 + i) n
      = ((mbxAnswerBytes (s.mbxBytes (1024 * slot + 4) 4) status payload).drop i).take n := by
  have hbs := length_mbxAnswerBytes status payload (length_memGet s.xb.mbx (1024 * slot + 4) 4)
  simp only [State.mbxBytes, mbxRespond_xb]
  generalize 1024 * slot + 512 = a
  exact memGet_put _ a (h.trans_eq hbs.symm)

theorem mbxRespond_bytes_ne {a : Nat} (hlen : payload.length ≤ 480) (h : a < 1024 * slot + 512 ∨ 1024 * slot + 1024 ≤ a) :
    (s.mbxRespond slot status payload).mbxBytes a 1 = s.mbxBytes a 1 := by
  have hbs := length_mbxAnswerBytes status payload (length_memGet s.xb.mbx (1024 * slot + 4) 4)
  have hbyte : ∀ m : Memory, memGet m a 1 = [smapGet 0 m a] := fun m => rfl
  simp only [State.mbxBytes, mbxRespond_xb, hbyte]
  rw [memPut_ne _ _ _ _ (by omega)]

end

/-- Settles O41: a response is one string of bytes written at the answer's half of its slot. -/
theorem mailboxAnswers : Obligations.MailboxAnswers := by
  unfold Obligations.MailboxAnswers
  intro s slot status payload hslot hstatus hlen
  have hl : (s.mbxBytes (1024 * slot + 4) 4).length = 4 := length_memGet ..
  have hread := fun i n => mbxRespond_bytes (s := s) (slot := slot) (status := status) (payload := payload) (i := i) (n := n)
  refine ⟨?_, ?_, ?_, ?_, ?_, ?_, ?_⟩
  · refine (hread 0 4 (by omega)).trans ?_
    simp only [mbxAnswerBytes, List.append_assoc, List.drop_zero]
    exact List.take_left' hl
  · refine (congrArg leNat (hread 4 2 (by omega))).trans ?_
    rw [mbxAnswerBytes, List.append_assoc, List.append_assoc, take_drop_append hl (length_leBytes ..), leNat_leBytes]
    exact Nat.mod_eq_of_lt hstatus
  · refine (congrArg leNat (hread 6 2 (by omega))).trans ?_
    rw [mbxAnswerBytes, List.append_assoc, take_drop_append (by simp [hl]) (length_leBytes ..), leNat_leBytes]
    exact Nat.mod_eq_of_lt (by omega)
  · refine (hread 32 payload.length (by omega)).trans ?_
    rw [mbxAnswerBytes, List.drop_left' (by simp [hl]), List.take_length]
  · rw [mbxRespond_xb]
  · rw [mbxRespond_busy, Nat.testBit_mod_two_pow, testBit_setBit_same, Bool.and_false]
  · exact fun k hk i hi => mbxRespond_bytes_ne hlen (by omega)

end Sys2Proof.Machine
end

section
/-! The BAR2 window (R306). -/

namespace Sys2Proof.Machine

/-- The halves of PE_WIN. -/
def locPeWin (hi : Bool) : Loc := ⟨⟨.PE_WIN, 0x8, [], true, [⟨63, 30, .rw, 0, []⟩]⟩, [], hi⟩

theorem locate_peWin_lo : locate R.PE_WIN = some (locPeWin false) := by decide
theorem locate_peWin_hi : locate (R.PE_WIN + 4) = some (locPeWin true) := by decide

theorem absent_peWin (s : State) (hi : Bool) {a : Nat} (ha : a / 0x100000 = 0x14) : s.absent a (locPeWin hi) = false := by
  simp [State.absent, ha, locPeWin]

theorem ite_some_eq_none {α : Type} {c : Prop} [Decidable c] {x : α} {o : Option α} :
    (if c then some x else o) = none ↔ ¬c ∧ o = none := by
  split <;> simp [*]

/-- The checks of an access look at the registers alone. -/
theorem csrDenied_none_of_csr {s t : State} (h : t.csr = s.csr) {m a : Nat} {w : Bool} (hd : s.csrDenied m a w = none) :
    t.csrDenied m a w = none := by
  have hrd := State.rd_of_csr h
  have hs : t.secure m 0 = s.secure m 0 := by simp only [State.secure, State.on, hrd]
  unfold State.csrDenied State.quiesced State.hostReach State.on at hd ⊢
  simp only [hrd, hs, ite_some_eq_none] at hd ⊢
  exact hd

/-- The two halves of 64 bits make them up. -/
theorem halves_toNat (v : BitVec 64) :
    (v.setWidth 32).toNat + ((v >>> 32).setWidth 32).toNat * 2 ^ 32 = v.toNat := by
  have h := v.isLt
  simp only [BitVec.toNat_setWidth, BitVec.toNat_ushiftRight, Nat.shiftRight_eq_div_pow]
  omega

section
variable {s : State} {m a : Nat} (v : BitVec 64) {lo hi : Loc}

/-- What a write of a whole pair comes to, where both halves reach the register: the write of the 64 bits, on a state that
    differs in its latches and its response alone. -/
theorem writePair_reaches (hw : s.writable m a) (hw' : s.writable m (a + 4)) (hlo : locate a = some lo)
    (hhi : locate (a + 4) = some hi) (hp : lo.reg.pair = true) (hp' : hi.reg.pair = true) (hh : lo.hi = false)
    (hh' : hi.hi = true) (hab : s.absent a lo = false) (hab' : s.absent (a + 4) hi = false) :
    ∃ t : State, t.csr = s.csr ∧ t.part = s.part ∧ t.mem = s.mem
      ∧ s.writePair m a v = (t.regWrite m false hi (a + 4) a v.toNat).okResp [] := by
  obtain ⟨-, hd, hc, hu⟩ := hw
  obtain ⟨-, hd', -, hu'⟩ := hw'
  obtain ⟨t, ht⟩ : ∃ t, t = (s.setLatch m { s.latchOf m with wr := some (a, v.setWidth 32) }).okResp [] := ⟨_, rfl⟩
  have hfirst : s.writeWord m a (v.setWidth 32) = t := by
    rw [writeWord_reaches _ hd (pair_ne_rrst hlo hp), csrCore_lo m _ hlo hp hh hab hu, ht]
  have hlatch : (t.latchOf m).wr = some (a, v.setWidth 32) := by
    rw [ht]
    exact congrArg Latch.wr (smapGet_set_same default s.latch m _)
  have hcsr : t.csr = s.csr := by rw [ht]; rfl
  have hpart : t.part = s.part := by rw [ht]; rfl
  have hct : t.cf.pending = none := by rw [ht]; exact hc
  have hut : t.unusable (a + 4) = false := by rw [State.unusable, State.rd_of_csr hcsr]; exact hu'
  have hat : t.absent (a + 4) hi = false := by rw [ht]; exact hab'
  refine ⟨t.setLatch m { t.latchOf m with wr := none }, hcsr, hpart, by rw [ht]; rfl, ?_⟩
  rw [State.writePair, hfirst, writeWord_reaches _ (csrDenied_none_of_csr hcsr hd') (pair_ne_rrst hhi hp'),
    csrCore_hi m _ hhi hp' hh' hat hut hct, Nat.add_sub_cancel, Latch.loFor_held hlatch, halves_toNat]

end

section
variable {s : State} {m : Nat}

/-- A write of PE_WIN is its own rule: no field of it belongs to another master, is guarded, or has a range. -/
theorem regWrite_peWin (raw : Nat) : s.regWrite m false (locPeWin true) (R.PE_WIN + 4) R.PE_WIN raw = s.winWrite raw := by
  have hforeign : (locPeWin true).reg.bits (fun f => f.sets && !s.owns m false (locPeWin true) f) = 0 := rfl
  have hguards : (s.guards (locPeWin true)).1 = 0 := rfl
  refine regWrite_own ?_ ?_ rfl rfl
  · rw [State.foreign, hforeign, Nat.and_zero]
    rfl
  · rw [State.barred, hguards, Nat.and_zero]
    rfl

variable (v : BitVec 64) (hw : s.writable m R.PE_WIN) (hw' : s.writable m (R.PE_WIN + 4))
include hw hw'

theorem writePair_peWin : ∃ t : State, t.csr = s.csr ∧ t.part = s.part ∧ t.mem = s.mem
    ∧ s.writePair m R.PE_WIN v = (t.winWrite v.toNat).okResp [] := by
  obtain ⟨t, hcsr, hpart, hmem, h⟩ := writePair_reaches v hw hw' locate_peWin_lo locate_peWin_hi rfl rfl rfl rfl
    (absent_peWin s false rfl) (absent_peWin s true rfl)
  exact ⟨t, hcsr, hpart, hmem, h.trans (congrArg (State.okResp · []) (regWrite_peWin _))⟩

end

theorem State.rd_wq_ne (s : State) {f : FRef} {a : Nat} (v : Nat) (h : f.a ≠ a) (h' : f.a ≠ a + 4) :
    (s.wq a v).rd f = s.rd f := by
  rw [State.rd, State.word_wq_ne s v h h', State.rd]

theorem State.rq_flag_ne (s : State) {f : FRef} {a : Nat} (h : a ≠ f.a ∧ a + 4 ≠ f.a) (hp : a ≠ R.PE_CNT 2 ∧ a + 4 ≠ R.PE_CNT 2) :
    (s.flag f).rq a = s.rq a := by
  rw [State.rq, s.word_flag_ne f h.1 hp.1, s.word_flag_ne f h.2 hp.2, State.rq]

section
variable {s : State} {raw : Nat}

theorem winWrite_moves (h : raw % 2 ^ 30 = 0 ∧ raw + 2 ^ 36 ≤ s.hbmSize) : s.winWrite raw = s.wq R.PE_WIN raw := if_pos h

theorem winWrite_discards (h : ¬ (raw % 2 ^ 30 = 0 ∧ raw + 2 ^ 36 ≤ s.hbmSize)) : s.winWrite raw = s.flag R.PE_ERR_win := if_neg h

end

/-- Settles O56: a write of both halves comes to `State.winWrite`, the rule of R306. -/
theorem windowMoves : Obligations.WindowMoves := by
  unfold Obligations.WindowMoves
  intro s m v hw hw'
  have hexec : exec (.peWinWrite m v) s = .next (s.writePair m R.PE_WIN v) := s.does_on hw.1 fun s => s.writePair m R.PE_WIN v
  obtain ⟨t, hcsr, hpart, hmem, hwin⟩ := writePair_peWin v hw hw'
  have hsize : t.hbmSize = s.hbmSize := by rw [State.hbmSize, hpart, State.hbmSize]
  refine ⟨?_, fun hal hfit => ?_, fun hbad => ?_, fun o op hq hfit => ?_⟩
  · unfold State.hbmSize
    cases s.part <;> rfl
  · rw [winWrite_moves ⟨hal, hsize ▸ hfit⟩] at hwin
    refine ⟨_, hexec.trans (congrArg _ hwin), ?_, ?_, hmem⟩
    · exact (State.rq_wq_same t R.PE_WIN _).trans (Nat.mod_eq_of_lt v.isLt)
    · have herr : (t.wq R.PE_WIN v.toNat).rd R.PE_ERR_win = t.rd R.PE_ERR_win := t.rd_wq_ne _ (by decide) (by decide)
      exact congrArg (· != 0) (herr.trans (State.rd_of_csr hcsr _))
  · rw [winWrite_discards (hsize ▸ hbad)] at hwin
    refine ⟨_, hexec.trans (congrArg _ hwin), ?_, ?_, (State.flag_mem ..).trans hmem⟩
    · exact (t.rq_flag_ne (by decide) (by decide)).trans (State.rq_of_csr hcsr _)
    · exact congrArg (· != 0) (State.rd_flag_same t R.PE_ERR_win (by decide) rfl (by decide))
  · exact (exec_pcieRequest hw.1 .bar2 o op).trans (congrArg _ ((pcieRequest_bar2 hq).trans (if_pos hfit)))

end Sys2Proof.Machine
end

section
/-! What a counter leaves alone: every register but its own. -/

namespace Sys2Proof.Machine

variable (s : State)

theorem State.rd_incBy_ne {f : FRef} {a : Nat} (n : Nat) (h : f.a ≠ a) : (s.incBy a n).rd f = s.rd f := by
  simp only [State.rd, State.word_incBy_ne (s := s) n h]

theorem State.rd_inc_ne {f : FRef} {a : Nat} (h : f.a ≠ a) : (s.inc a).rd f = s.rd f := s.rd_incBy_ne 1 h

theorem State.on_inc_ne {f : FRef} {a : Nat} (h : f.a ≠ a) : (s.inc a).on f = s.on f := by
  simp only [State.on, s.rd_inc_ne h]

theorem State.rq_inc_ne {a b : Nat} (h : b ≠ a) (h' : b + 4 ≠ a) : (s.inc a).rq b = s.rq b := by
  unfold State.inc State.rq
  rw [State.word_incBy_ne (s := s) 1 h, State.word_incBy_ne (s := s) 1 h']

/-- A command of a core that is on ends in what its function gives. -/
theorem State.does_eq {s t : State} {f : State → State} (hoff : s.off = false) (h : f s = t) : s.does f = .next t :=
  (s.does_on hoff f).trans (congrArg _ h)

theorem State.on_eq_true {f : FRef} : s.on f = true ↔ s.rd f ≠ 0 := by simp [State.on]

end Sys2Proof.Machine
end

section
/-! The PTP messages that a port sends (R257 to R259). -/

namespace Sys2Proof.Machine

section
variable {s : State} {p : Nat}

theorem ptpQualify_of_ne (h : s.ptpState p ≠ 5) : s.ptpQualify p = s := by simp [State.ptpQualify, h]

theorem ptpQualify_of_due (h : s.ptpState p = 5) (ht : (s.ptp p).qualAt ≤ s.tb.t) :
    s.ptpQualify p = s.wr (R.ET_PTPPSTAT_state p) 6 := by simp [State.ptpQualify, h, ht]

theorem ptpState_wr (s : State) (p v : Nat) : (s.wr (R.ET_PTPPSTAT_state p) v).ptpState p = v % 16 :=
  State.rd_wr_same (s := s) (R.ET_PTPPSTAT_state p) v (show 0 + 4 ≤ 32 by decide)

/-- A port whose qualification timeout has passed qualifies once. -/
theorem ptpQualify_twice (h : s.ptpState p = 5) (ht : (s.ptp p).qualAt ≤ s.tb.t) :
    (s.wr (R.ET_PTPPSTAT_state p) 6).ptpQualify p = s.ptpQualify p := by
  rw [ptpQualify_of_due h ht, ptpQualify_of_ne]
  rw [ptpState_wr]; decide

/-- A MASTER that is up sends its Sync, and in two steps its Follow_Up. -/
theorem syncSend_of_master (hon : s.ptpOn p = true) (hup : s.ethUp p = true) (hm : s.ptpState p = 6) :
    s.syncSend p =
      (let x := s.ptp p
       let t := stampBytes (s.egress p)
       let li := logByte (s.rd (R.ET_PTPPCTL_log_sync p))
       let u := (s.setPtp p { x with sSeq := (x.sSeq + 1) % 65536 }).inc (R.ET_PTPCNT p 2)
       if u.on (R.ET_PTPPCTL_one_step p) then u.ptpSend p true false (u.ptpHead p 0 44 0 t.2 x.sSeq 0 li ++ t.1)
       else
         let w := u.ptpSend p true false (u.ptpHead p 0 44 0x0200 0 x.sSeq 0 li ++ zeros 10)
         w.ptpSend p false false (w.ptpHead p 8 44 0 t.2 x.sSeq 2 li ++ t.1)) := by
  unfold State.syncSend
  rw [ptpQualify_of_ne (by omega)]
  exact if_pos (by simp [hon, hup, hm])

theorem announceSend_of_master (hon : s.ptpOn p = true) (hup : s.ethUp p = true) (hm : s.ptpState p = 6) :
    s.announceSend p =
      (let x := s.ptp p
       let a := s.announced
       (s.setPtp p { x with aSeq := (x.aSeq + 1) % 65536 }).ptpSend p false false
          (s.ptpHead p 11 64 a.flags 0 x.aSeq 5 (logByte (s.rd (R.ET_PTPPCTL_log_ann p))) ++ (zeros 10 ++ beBytes 2 a.utc ++ zeros 1
            ++ beBytes 1 a.p1 ++ beBytes 1 a.cls ++ beBytes 1 a.acc ++ beBytes 2 a.var ++ beBytes 1 a.p2 ++ beBytes 8 a.gm
            ++ beBytes 2 a.steps ++ beBytes 1 a.tsrc))) := by
  unfold State.announceSend
  rw [ptpQualify_of_ne (by omega)]
  exact if_pos (by simp [hon, hup, hm])

/-- The one-step bit stands apart from the counters of PTP messages. -/
theorem one_step_ne_ptpCnt {p q k : Nat} (hk : k < 4) : (R.ET_PTPPCTL_one_step p).a ≠ R.ET_PTPCNT q k := by
  simp only [R.ET_PTPPCTL_one_step, R.ET_PTPPCTL, R.ET_PTPCNT]
  omega

end

/-- Settles O29: each message of a port that runs, by the branch that its state and profile choose. -/
theorem ptpSent : Obligations.PtpSent := by
  intro s p hoff hon hup x
  refine ⟨fun hm => ?_, fun hm => ?_, fun h5 hq => ?_, fun hst hpr => ?_, fun hpr => ?_, ?_⟩
  · have hsend := syncSend_of_master hon hup hm
    intro t li u
    have hstep : u.on (R.ET_PTPPCTL_one_step p) = s.on (R.ET_PTPPCTL_one_step p) :=
      State.on_inc_ne _ (one_step_ne_ptpCnt (by omega))
    constructor <;> intro h1 <;> apply State.does_eq hoff
    · exact hsend.trans (if_pos (hstep.trans h1))
    · exact hsend.trans (if_neg (Bool.eq_false_iff.mp (hstep.trans h1)))
  · apply State.does_eq hoff
    exact announceSend_of_master hon hup hm
  · have hqual := ptpQualify_twice h5 hq
    constructor <;> apply State.does_eq hoff
    · unfold State.syncSend
      rw [hqual]
    · unfold State.announceSend
      rw [hqual]
  · apply State.does_eq hoff
    exact if_pos (by rcases hst with h | h <;> simp [hon, hup, h, hpr])
  · apply State.does_eq hoff
    exact if_pos (by simp [hon, hup, hpr])
  · apply State.does_eq hoff
    exact if_pos hon

end Sys2Proof.Machine
end

section
/-! The PTP messages that a port takes (R257 to R259). -/

namespace Sys2Proof.Machine

/-- A port hears the message types of its profile. -/
theorem ptpArrive_of_hears {s : State} {p typ : Nat} {m : Bytes} (ticks : Nat) (h : s.ptpHears p m typ)
    (hk : typ ∈ [0, 1, 2, 3, 8, 9, 10, 11]) :
    s.ptpArrive p m ticks =
      (let u := s.inc (R.ET_CNT p 1)
       if typ = 0 then u.takeSync p m ticks
       else if typ = 1 then u.takeDelayReq p m ticks
       else if typ = 2 then u.takePdelayReq p m ticks
       else if typ = 3 then u.takePdelayResp p m ticks
       else if typ = 8 then u.takeFollowUp p m
       else if typ = 9 then u.takeDelayResp p m
       else if typ = 10 then u.takePdelayFollow p m
       else u.takeAnnounce p m) := by
  obtain ⟨hup, hon, rfl, hver, hdom, hlen, hp2p, he2e⟩ := h
  refine (if_pos hup).trans ?_
  unfold State.ptpTake
  dsimp only
  rw [if_neg (by simp [hon]), if_neg]
  simp only [hver, hdom, Nat.not_lt.mpr hlen]
  simp only [List.mem_cons, List.not_mem_nil, or_false] at hk hp2p he2e
  rcases hk with h | h | h | h | h | h | h | h <;> simp [h] at hp2p he2e ⊢ <;> assumption

theorem fromParent_counted (s : State) {p k : Nat} (hk : k < 4) (m : Bytes) : (s.inc (R.ET_PTPCNT p k)).fromParent p m = s.fromParent p m := by
  have h : (s.inc (R.ET_PTPCNT p k)).ptpState p = s.ptpState p :=
    s.rd_inc_ne (by simp only [R.ET_PTPPSTAT_state, R.ET_PTPPSTAT, R.ET_PTPCNT]; omega)
  unfold State.fromParent
  rw [h]
  rfl

section
variable (s : State) {p : Nat} (hp : p < 8)
include hp

/-- The counter of a port's messages stands below the registers of PTP. -/
theorem ptpReg_ne_etCnt {a : Nat} (ha : 0x708000 ≤ a) : a ≠ R.ET_CNT p 1 := by
  simp only [R.ET_CNT]
  omega

theorem rd_heard {f : FRef} (hf : 0x708000 ≤ f.a) : (s.inc (R.ET_CNT p 1)).rd f = s.rd f :=
  s.rd_inc_ne (ptpReg_ne_etCnt hp hf)

theorem on_heard {f : FRef} (hf : 0x708000 ≤ f.a) : (s.inc (R.ET_CNT p 1)).on f = s.on f :=
  s.on_inc_ne (ptpReg_ne_etCnt hp hf)

theorem ptpState_heard : (s.inc (R.ET_CNT p 1)).ptpState p = s.ptpState p :=
  rd_heard s hp (by simp only [R.ET_PTPPSTAT_state, R.ET_PTPPSTAT]; omega)

theorem rq_ptpId_heard : (s.inc (R.ET_CNT p 1)).rq R.ET_PTPID = s.rq R.ET_PTPID :=
  s.rq_inc_ne (ptpReg_ne_etCnt hp (by decide)) (ptpReg_ne_etCnt hp (by decide))

theorem portId_heard : (s.inc (R.ET_CNT p 1)).portId p = s.portId p := by
  unfold State.portId
  rw [rq_ptpId_heard s hp]

theorem asym_heard : (s.inc (R.ET_CNT p 1)).rd (R.ET_PTPASYM_v p) = s.rd (R.ET_PTPASYM_v p) :=
  rd_heard s hp (by simp only [R.ET_PTPASYM_v, R.ET_PTPASYM]; omega)

theorem fromParent_heard (m : Bytes) : (s.inc (R.ET_CNT p 1)).fromParent p m = s.fromParent p m := by
  unfold State.fromParent
  rw [ptpState_heard s hp]
  rfl

end

section
variable {s : State} {p : Nat} {m : Bytes}

theorem takeSync_of_parent (ticks : Nat) (h : (s.inc (R.ET_PTPCNT p 0)).fromParent p m = true) :
    s.takeSync p m ticks =
      (let w := s.inc (R.ET_PTPCNT p 0)
       if (byteAt m 6).testBit 1 then w.setPtp p { w.ptp p with sync := some (seqOf m, w.ingress p ticks, corrPs (beAt m 8 8)) }
       else w.syncDone p (stampPs m 34 + corrPs (beAt m 8 8)) (w.ingress p ticks)) :=
  if_neg (by simp [h])

theorem takeFollowUp_of_open {q : Nat} {t2 c : Int} (hs : (s.ptp p).sync = some (q, t2, c)) (hf : s.fromParent p m = true)
    (hq : q = seqOf m) : s.takeFollowUp p m = s.syncDone p (stampPs m 34 + c + corrPs (beAt m 8 8)) t2 := by
  simp only [State.takeFollowUp, hs, hf, hq, decide_true, Bool.and_self, if_true]

theorem takeDelayResp_of_open {q : Nat} {t1 t2 t3 : Int} (hd : (s.ptp p).dreq = some (q, t3)) (hl : (s.ptp p).last = some (t1, t2))
    (hf : s.fromParent p m = true) (hq : q = seqOf m) (hi : beAt m 44 10 = s.portId p) :
    s.takeDelayResp p m = ((s.setPtp p { s.ptp p with dreq := none }).noteDelay p
      (((t2 - t1) + (stampPs m 34 - corrPs (beAt m 8 8) - t3)) / 2)).offerOffset p := by
  simp only [State.takeDelayResp, hd, hl, hf, hq, hi, decide_true, Bool.and_self, if_true]

theorem takePdelayResp_of_open {q ticks : Nat} {t1 : Int} (hr : (s.ptp p).preq = some (q, t1)) (hq : q = seqOf m)
    (hi : beAt m 44 10 = s.portId p) :
    s.takePdelayResp p m ticks =
      (let c := corrPs (beAt m 8 8) + toSigned 32 (s.rd (R.ET_PTPASYM_v p))
       if (byteAt m 6).testBit 1 then s.setPtp p { s.ptp p with presp := some (q, stampPs m 34 - c, s.ingress p ticks) }
       else (s.setPtp p { s.ptp p with preq := none }).noteDelay p ((s.ingress p ticks - t1 - c) / 2)) := by
  simp only [State.takePdelayResp, hr, hq, hi, decide_true, Bool.and_self, if_true]

theorem takePdelayFollow_of_open {q : Nat} {t1 t2 t4 : Int} (hr : (s.ptp p).preq = some (q, t1))
    (hp : (s.ptp p).presp = some (q, t2, t4)) (hq : q = seqOf m) (hi : beAt m 44 10 = s.portId p) :
    s.takePdelayFollow p m = (s.setPtp p { s.ptp p with preq := none, presp := none }).noteDelay p
      (((t4 - t1) - (stampPs m 34 + corrPs (beAt m 8 8) - t2)) / 2) := by
  simp only [State.takePdelayFollow, hr, hp, hq, hi, decide_true, Bool.and_self, if_true]

/-- An Announce of another clock joins the foreign masters, seen once more and at most twice. -/
theorem takeAnnounce_of_other (h : srcOf m / 65536 ≠ (s.inc (R.ET_PTPCNT p 1)).rq R.ET_PTPID) :
    s.takeAnnounce p m = ((s.inc (R.ET_PTPCNT p 1)).setPtp p { s.ptp p with
      foreign := (s.ptp p).foreign.filter (fun a => a.src ≠ srcOf m)
        ++ [⟨srcOf m, min 2 ((((s.ptp p).foreign.find? (fun a => a.src = srcOf m)).map AnnRec.seen).getD 0 + 1),
            byteAt m 47, byteAt m 48, byteAt m 49, beAt m 50 2, byteAt m 52, beAt m 53 8, beAt m 61 2, byteAt m 63,
            beAt m 44 2, byteAt m 7⟩] }).ptpSelect none :=
  if_neg h

end

/-- Settles O28: a port that hears a message runs the branch of its type, and the count of the message moves nothing that the
branch reads. -/
theorem ptpTaken : Obligations.PtpTaken := by
  intro s p b hoff u asym corr
  have hp := p.isLt
  have hfrom : u.fromParent p b = s.fromParent p b := fromParent_heard s hp b
  have hid : u.portId p = s.portId p := portId_heard s hp
  have hasym : toSigned 32 (u.rd (R.ET_PTPASYM_v p)) = asym := congrArg _ (asym_heard s hp)
  refine ⟨fun ticks h => ?_, fun q t2 c h hs hf hq => ?_, fun ticks h hm => ?_, fun q t3 t1 t2 h hd hl hf hq hi => ?_,
    fun ticks h => ?_, fun ticks q t1 h hr hq hi => ?_, fun q t1 t2 t4 h hr hpr hq hi => ?_, fun h hsrc => ?_⟩
  · intro w
    have ha : s.ptpArrive p b ticks = u.takeSync p b ticks := ptpArrive_of_hears ticks h (by decide)
    have hw : w.fromParent p b = s.fromParent p b := (fromParent_counted u (by decide) b).trans hfrom
    refine ⟨fun hf => ?_, fun hf h2 => ?_, fun hf h1 => ?_⟩ <;> apply State.does_eq hoff <;> refine ha.trans ?_
    · exact if_pos (by simp [w, hw, hf])
    · exact (takeSync_of_parent ticks (hw.trans hf)).trans (if_pos h2)
    · exact (takeSync_of_parent ticks (hw.trans hf)).trans (if_neg (Bool.eq_false_iff.mp h1))
  · apply State.does_eq hoff
    exact (ptpArrive_of_hears 0 h (by decide)).trans (takeFollowUp_of_open hs (hfrom.trans hf) hq)
  · apply State.does_eq hoff
    refine (ptpArrive_of_hears ticks h (by decide)).trans ?_
    have hlog : u.rd (R.ET_PTPPCTL_log_dreq p) = s.rd (R.ET_PTPPCTL_log_dreq p) :=
      rd_heard s hp (by simp only [R.ET_PTPPCTL_log_dreq, R.ET_PTPPCTL]; omega)
    rw [← hlog]
    exact if_pos ((ptpState_heard s hp).trans hm)
  · apply State.does_eq hoff
    exact (ptpArrive_of_hears 0 h (by decide)).trans (takeDelayResp_of_open hd hl (hfrom.trans hf) hq (hi.trans hid.symm))
  · have ha : s.ptpArrive p b ticks = u.takePdelayReq p b ticks := ptpArrive_of_hears ticks h (by decide)
    have hstep : u.on (R.ET_PTPPCTL_one_step p) = s.on (R.ET_PTPPCTL_one_step p) :=
      on_heard s hp (by simp only [R.ET_PTPPCTL_one_step, R.ET_PTPPCTL]; omega)
    intro t2 t3 id
    constructor <;> intro h1 <;> apply State.does_eq hoff <;> refine ha.trans ?_
    · exact if_pos (hstep.trans h1)
    · exact if_neg (Bool.eq_false_iff.mp (hstep.trans h1))
  · have ha : s.ptpArrive p b ticks = u.takePdelayResp p b ticks := ptpArrive_of_hears ticks h (by decide)
    have htake := ha.trans (takePdelayResp_of_open hr hq (hi.trans hid.symm))
    rw [← hasym]
    constructor <;> intro h1 <;> apply State.does_eq hoff
    · exact htake.trans (if_neg (Bool.eq_false_iff.mp h1))
    · exact htake.trans (if_pos h1)
  · apply State.does_eq hoff
    exact (ptpArrive_of_hears 0 h (by decide)).trans (takePdelayFollow_of_open hr hpr hq (hi.trans hid.symm))
  · apply State.does_eq hoff
    have ha : s.ptpArrive p b 0 = u.takeAnnounce p b := ptpArrive_of_hears 0 h (by decide)
    have hown : (u.inc (R.ET_PTPCNT p 1)).rq R.ET_PTPID = s.rq R.ET_PTPID := by
      refine (u.rq_inc_ne ?_ ?_).trans (rq_ptpId_heard s hp) <;> simp only [R.ET_PTPCNT, R.ET_PTPID] <;> omega
    exact ha.trans (takeAnnounce_of_other (hown ▸ hsrc))

end Sys2Proof.Machine
end

section
/-! The requests of the timebase (R254 to R256, R260). -/

namespace Sys2Proof.Machine

/-- A settable bit that the write forces reads, after an accepted write, as forced. -/
theorem on_landed_forced {s : State} {m x : Nat} {v : Word} {f : FRef} {l : Loc} (h : s.takes m f.a (force v f x))
    (hl : locate f.a = some l) (hp : l.reg.pair = false) (hfix : s.fixedBits l = (0, 0)) (hw : f.w = 1) (hfit : f.lo + 1 ≤ 32)
    (hset : (l.reg.bits Fld.sets).testBit f.lo = true) (hfree : (s.guards l).1.testBit f.lo = false)
    (hw1c : (l.reg.bits (fun f => f.acc = .w1c)).testBit f.lo = false) :
    (s.landed m f.a (force v f x)).on f = (x % 2 != 0) := by
  obtain ⟨-, k, hk, -, -, hfor, -, -⟩ := h
  obtain rfl : l = k := Option.some.inj (hl.symm.trans hk)
  have hread := rd_landed_accepted hl hp hfor hfix (hw ▸ hfit) (v := force v f x) (f := f) fun i hi => by
    obtain rfl : i = 0 := by omega
    exact ⟨hset, hfree, hw1c⟩
  rw [getBits_force v x (hw ▸ hfit), hw] at hread
  exact congrArg (· != 0) hread

/-! ## The registers of the requests -/

/-- TB_STEPCTL. -/
def locStepCtl : Loc := ⟨⟨.TB_STEPCTL, 0x30, [], false, [⟨11, 8, .ro, 0, []⟩, ⟨4, 4, .rw, 0, []⟩, ⟨3, 2, .rw, 0, []⟩,
  ⟨0, 0, .wo, 0, []⟩]⟩, [], false⟩

/-- TB_SCECTL. -/
def locSceCtl : Loc := ⟨⟨.TB_SCECTL, 0x60, [], false, [⟨15, 12, .ro, 0, []⟩, ⟨11, 8, .rw, 0, []⟩, ⟨4, 4, .rw, 1, []⟩,
  ⟨3, 3, .rw, 0, []⟩, ⟨2, 2, .rw, 0, []⟩, ⟨1, 1, .wo, 0, []⟩, ⟨0, 0, .wo, 0, []⟩]⟩, [], false⟩

/-- TB_TRGCTL of comparator k. -/
def locTrgCtl (k : Nat) : Loc := ⟨⟨.TB_TRGCTL, 0x1000, [(16, 0x40)], false, [⟨12, 8, .rw, 0, []⟩, ⟨5, 5, .rw, 1, []⟩,
  ⟨4, 4, .rw, 0, []⟩, ⟨2, 2, .w1c, 0, []⟩, ⟨1, 1, .w1c, 0, []⟩, ⟨0, 0, .rw, 0, []⟩]⟩, [k], false⟩

theorem locate_stepCtl : locate R.TB_STEPCTL = some locStepCtl := by decide
theorem locate_sceCtl : locate R.TB_SCECTL = some locSceCtl := by decide
theorem locate_trgCtl : ∀ k : Fin 16, locate (R.TB_TRGCTL k) = some (locTrgCtl k) := by decide
theorem trgCtl_ne_rrst : ∀ k : Fin 16, R.TB_TRGCTL k ≠ R.MG_RRST_rst.a := by decide

section
variable {s : State} {m : Nat} {w : Word}

theorem writeWord_stepCtl (h : s.takes m R.TB_STEPCTL w) : s.writeWord m R.TB_STEPCTL w
    = ((s.landed m R.TB_STEPCTL w).when (w.toNat.testBit 0) (fun s => s.stepRequest)).okResp [] :=
  writeWord_effect h locate_stepCtl (by decide) rfl

theorem writeWord_sceCtl (h : s.takes m R.TB_SCECTL w) : s.writeWord m R.TB_SCECTL w
    = (((s.landed m R.TB_SCECTL w).when (w.toNat.testBit 1) (fun s => s.epochInvalidate)).when (w.toNat.testBit 0)
        (fun s => s.epochCommit)).okResp [] :=
  writeWord_effect h locate_sceCtl (by decide) rfl

/-- A write of TB_TRGCTL arms a comparator that it makes armed; the pins follow the outputs named. -/
theorem writeWord_trgCtl {k : Fin 16} (h : s.takes m (R.TB_TRGCTL k) w) : s.writeWord m (R.TB_TRGCTL k) w
    = (((if (s.landed m (R.TB_TRGCTL k) w).on (R.TB_TRGCTL_arm k) && !s.on (R.TB_TRGCTL_arm k)
        then (s.landed m (R.TB_TRGCTL k) w).trgArm k else s.landed m (R.TB_TRGCTL k) w).drivePins s).okResp []) :=
  writeWord_effect h (locate_trgCtl k) (trgCtl_ne_rrst k) rfl

end

section
variable {s : State} {m : Fin 20} {v : Word}

theorem exec_timeStepRequest (h : s.takes m R.TB_STEPCTL (force v R.TB_STEPCTL_go 1)) : exec (.timeStepRequest m v) s
    = .next ((s.landed m R.TB_STEPCTL (force v R.TB_STEPCTL_go 1)).stepRequest.okResp []) := by
  have hgo : (force v R.TB_STEPCTL_go 1).toNat.testBit 0 = true := force_testBit (by decide) 0
  have hw := writeWord_stepCtl h
  simp only [hgo, State.when, if_true] at hw
  apply State.does_eq h.1.1
  exact hw

theorem exec_scEpochCommit (h : s.takes m R.TB_SCECTL (force v R.TB_SCECTL_commit 1)) (hv : v.toNat.testBit 1 = false) :
    exec (.scEpochCommit m v) s
      = .next ((s.landed m R.TB_SCECTL (force v R.TB_SCECTL_commit 1)).epochCommit.okResp []) := by
  have hcommit : (force v R.TB_SCECTL_commit 1).toNat.testBit 0 = true := force_testBit (by decide) 0
  have hkeep : (force v R.TB_SCECTL_commit 1).toNat.testBit 1 = false := (force_testBit (by decide) 1).trans hv
  have hw := writeWord_sceCtl h
  simp only [hcommit, hkeep, State.when, if_true, Bool.false_eq_true, if_false] at hw
  apply State.does_eq h.1.1
  exact hw

theorem exec_scEpochInvalidate (h : s.takes m R.TB_SCECTL (force v R.TB_SCECTL_inval 1)) (hv : v.toNat.testBit 0 = false) :
    exec (.scEpochInvalidate m v) s
      = .next ((s.landed m R.TB_SCECTL (force v R.TB_SCECTL_inval 1)).epochInvalidate.okResp []) := by
  have hkeep : (force v R.TB_SCECTL_inval 1).toNat.testBit 0 = false := (force_testBit (by decide) 0).trans hv
  have hinval : (force v R.TB_SCECTL_inval 1).toNat.testBit 1 = true := force_testBit (by decide) 1
  have hw := writeWord_sceCtl h
  simp only [hkeep, hinval, State.when, if_true, Bool.false_eq_true, if_false] at hw
  apply State.does_eq h.1.1
  exact hw

theorem on_landed_arm {k : Fin 16} (h : s.takes m (R.TB_TRGCTL k) (force v (R.TB_TRGCTL_arm k) 1)) :
    (s.landed m (R.TB_TRGCTL k) (force v (R.TB_TRGCTL_arm k) 1)).on (R.TB_TRGCTL_arm k) = true := by
  have hset : ((locTrgCtl k).reg.bits Fld.sets).testBit (R.TB_TRGCTL_arm k).lo = true := by
    rw [bits_testBit]
    exact (rfl : ((locTrgCtl 0).reg.flds.any fun f => f.sets && f.mask.testBit 0) = true)
  have hw1c : ((locTrgCtl k).reg.bits (fun f => f.acc = .w1c)).testBit (R.TB_TRGCTL_arm k).lo = false := by
    rw [bits_testBit]
    exact (rfl : ((locTrgCtl 0).reg.flds.any fun f => decide (f.acc = .w1c) && f.mask.testBit 0) = false)
  have hfree : (s.guards (locTrgCtl k)).1.testBit 0 = false := Nat.zero_testBit 0
  exact on_landed_forced (f := R.TB_TRGCTL_arm k) h (locate_trgCtl k) rfl rfl rfl (Nat.le_add_left 1 31) hset hfree hw1c

theorem exec_comparatorArm {k : Fin 16} (h : s.takes m (R.TB_TRGCTL k) (force v (R.TB_TRGCTL_arm k) 1))
    (hoff : s.on (R.TB_TRGCTL_arm k) = false) : exec (.comparatorArm m k v) s
      = .next ((((s.landed m (R.TB_TRGCTL k) (force v (R.TB_TRGCTL_arm k) 1)).trgArm k).drivePins s).okResp []) := by
  have hw := writeWord_trgCtl h
  simp only [on_landed_arm h, hoff, Bool.not_false, Bool.and_self, if_true] at hw
  apply State.does_eq h.1.1
  exact hw

end

/-! ## A step (R254) -/

section
variable {s : State}

/-- What a request of a step adds to the counter, in ns: TB_STEPS and TB_STEPNS in mode 0, the reference's offset in mode 1. -/
def State.stepAdd (s : State) : Int :=
  match s.rd R.TB_STEPCTL_mode, s.refSel with
  | 0, _ => toSigned 64 (s.rq R.TB_STEPS) * 1000000000 + s.rd R.TB_STEPNS_ns
  | 1, some r => -(psToNs (s.refOffset r))
  | _, _ => 0

theorem stepAdd_ofFields (h : s.rd R.TB_STEPCTL_mode = 0) :
    s.stepAdd = toSigned 64 (s.rq R.TB_STEPS) * 1000000000 + s.rd R.TB_STEPNS_ns := by
  simp only [State.stepAdd, h]

theorem stepAdd_ofReference {r : Nat} (h : s.rd R.TB_STEPCTL_mode = 1) (hr : s.refSel = some r) :
    s.stepAdd = -(psToNs (s.refOffset r)) := by
  simp only [State.stepAdd, h, hr]

theorem stepAdd_noReference (h : s.rd R.TB_STEPCTL_mode = 1) (hr : s.refSel = none) : s.stepAdd = 0 := by
  simp only [State.stepAdd, h, hr]

theorem stepAdd_ofMode {d : Nat} (h : s.rd R.TB_STEPCTL_mode = d + 2) : s.stepAdd = 0 := by
  simp only [State.stepAdd, h]

/-- The counter or its seconds would be negative after the step. -/
def State.stepNegative (s : State) : Bool :=
  if s.rd R.TB_STEPCTL_mode < 2 then decide ((s.nowNs : Int) + s.stepAdd < 0) else decide (toSigned 64 (s.rq R.TB_STEPS) < 0)

/-- The selected reference has a time of day. -/
def State.refTimed (s : State) : Bool :=
  match s.refSel with
  | some r => refType r != .f
  | none => false

/-- The selected reference is a pulse per second. -/
def State.refPulse (s : State) : Bool :=
  match s.refSel with
  | some r => refType r = .p
  | none => false

/-- The mode cannot use the selected reference. -/
def State.stepUnfit (s : State) : Bool :=
  (s.rd R.TB_STEPCTL_mode = 1 && !s.refTimed) || (s.rd R.TB_STEPCTL_mode = 3 && (s.sceValid || !s.refPulse))

theorem refPulse_iff : s.refPulse = true ↔ ∃ r, s.refSel = some r ∧ refType r = .p := by
  unfold State.refPulse
  cases s.refSel <;> simp

/-- The boundary that the step is bound to. -/
def State.stepBound (s : State) : Option Nat := s.bindTo (s.on R.TB_STEPCTL_tgt) (s.rq R.TB_STEPTGT)

/-- Why the step that the registers ask for is refused: the lowest result. -/
def State.stepRefusal (s : State) : Option Nat :=
  if s.stepNegative then some 3
  else if s.tb.step.isSome then some 4
  else if s.stepBound.isNone then some 5
  else if s.stepUnfit then some 6
  else none

theorem stepRequest_eq (s : State) : s.stepRequest = match s.stepRefusal with
    | some x => s.wr R.TB_STEPCTL_result x
    | none =>
      let b := if s.sceValid then s.stepBound else none
      let st : TimeStep := ⟨b, s.rd R.TB_STEPCTL_mode, s.stepAdd, (toSigned 64 (s.rq R.TB_STEPS)).toNat, s.rd R.TB_STEPNS_ns⟩
      ((State.wr { s with tb := { s.tb with step := some st } } R.TB_STEPCTL_result 1).wr R.TB_STATUS_step_pend 1).wq
        R.TB_STEPBND (b.getD 0) := by
  unfold State.stepRequest State.stepReason State.stepRefusal State.stepNegative State.stepUnfit State.refTimed State.refPulse
    State.stepBound State.stepAdd
  rfl

theorem stepRequest_refused {r : Nat} (h : s.stepRefusal = some r) : s.stepRequest = s.wr R.TB_STEPCTL_result r := by
  rw [stepRequest_eq, h]

theorem stepNegative_ofTime (h : s.rd R.TB_STEPCTL_mode < 2) :
    s.stepNegative = decide ((s.nowNs : Int) + s.stepAdd < 0) := if_pos h

theorem stepNegative_ofSeconds (h : 2 ≤ s.rd R.TB_STEPCTL_mode) :
    s.stepNegative = decide (toSigned 64 (s.rq R.TB_STEPS) < 0) := if_neg (Nat.not_lt.mpr h)

theorem stepRequest_negative (h : s.stepNegative = true) : s.stepRequest = s.wr R.TB_STEPCTL_result 3 :=
  stepRequest_refused (if_pos h)

/-- A step that leaves no negative time: the checks that follow, in their order. -/
theorem stepRequest_judged {add : Int} {ok : Prop} (hneg : s.stepNegative = false) (hadd : s.stepAdd = add)
    (hok : s.stepUnfit = false ↔ ok) :
    (s.tb.step ≠ none → s.stepRequest = s.wr R.TB_STEPCTL_result 4)
      ∧ (s.tb.step = none → s.stepBound = none → s.stepRequest = s.wr R.TB_STEPCTL_result 5)
      ∧ (s.tb.step = none → s.stepBound ≠ none → ¬ok → s.stepRequest = s.wr R.TB_STEPCTL_result 6)
      ∧ (∀ n, s.tb.step = none → s.stepBound = some n → ok → let b := if s.sceValid = true then some n else none;
        s.stepRequest = ((State.wr { s with tb := { s.tb with step := some ⟨b, s.rd R.TB_STEPCTL_mode, add,
            (toSigned 64 (s.rq R.TB_STEPS)).toNat, s.rd R.TB_STEPNS_ns⟩ } } R.TB_STEPCTL_result 1).wr
          R.TB_STATUS_step_pend 1).wq R.TB_STEPBND (b.getD 0)) := by
  refine ⟨fun hw => ?_, fun hw hb => ?_, fun hw hb hno => ?_, fun n hw hb hyes => ?_⟩
  · obtain ⟨st, hst⟩ := Option.ne_none_iff_exists'.mp hw
    exact stepRequest_refused (by simp [State.stepRefusal, hneg, hst])
  · exact stepRequest_refused (by simp [State.stepRefusal, hneg, hw, hb])
  · obtain ⟨n, hn⟩ := Option.ne_none_iff_exists'.mp hb
    rw [← hok, Bool.not_eq_false] at hno
    exact stepRequest_refused (by simp [State.stepRefusal, hneg, hw, hn, hno])
  · have hfree : s.stepRefusal = none := by simp [State.stepRefusal, hneg, hw, hb, hok.mpr hyes]
    rw [stepRequest_eq, hfree]
    simp only [hadd, hb]

end

/-! ## An SC epoch (R255, R256) -/

section
variable {s : State}

/-- The mapping that a commit takes: the one that the port named has heard, or the one of the registers. -/
def State.committedEpoch (s : State) : ScMap :=
  let port := (s.ulp (s.rd R.TB_SCECTL_port)).tim
  if s.on R.TB_SCECTL_src then ⟨port.sc, (port.epS : Int) * 1000000000 + port.epNs, s.rq R.TB_SCEPER, 0⟩
  else ⟨s.rq R.TB_SCESC, ((s.rq R.TB_SCETS * 1000000000 + s.rd R.TB_SCETNS_ns : Nat) : Int), s.rq R.TB_SCEPER, 0⟩

/-- The commit asks for the epoch of a port that has heard none. -/
def State.epochUnheard (s : State) : Bool :=
  s.on R.TB_SCECTL_src && !(s.ulp (s.rd R.TB_SCECTL_port)).tim.tflags.testBit 0

/-- The boundary that the commit is bound to. -/
def State.epochBound (s : State) : Option Nat := s.bindTo (s.on R.TB_SCECTL_tgt) (s.rq R.TB_SCETGT)

/-- A commit by its checks in their order. -/
theorem epochCommit_eq : State.epochCommit = fun s =>
    if s.rq R.TB_SCEPER = 0 then s.wr R.TB_SCECTL_result 3
    else if s.epochUnheard then s.wr R.TB_SCECTL_result 4
    else if s.tb.sce.isSome then s.wr R.TB_SCECTL_result 5
    else if s.epochBound.isNone then s.wr R.TB_SCECTL_result 6
    else if s.sceValid then
        ((State.wr { s with tb := { s.tb with sce := some (s.epochBound.getD 0, s.committedEpoch) } } R.TB_SCECTL_result 1).wr
          R.TB_STATUS_sce_pend 1).wq R.TB_SCEBND (s.epochBound.getD 0)
      else s.epochNow s.committedEpoch := by
  delta State.epochCommit State.epochUnheard State.epochBound State.committedEpoch
  refine funext fun s => ?_
  generalize s.rq R.TB_SCEPER = p
  revert p
  refine id fun p => ?_
  simp only []
  by_cases h3 : p = 0
  · rw [if_pos h3, if_pos h3]
  · rw [if_neg h3, if_neg h3]
    generalize (s.on R.TB_SCECTL_src && !(s.ulp (s.rd R.TB_SCECTL_port)).tim.tflags.testBit 0) = u
    generalize s.bindTo (s.on R.TB_SCECTL_tgt) (s.rq R.TB_SCETGT) = b
    revert u b
    refine id fun u b => ?_
    cases u
    · cases b with
      | none => cases s.tb.sce <;> rfl
      | some n => cases s.tb.sce <;> rfl
    · rfl

theorem epochCommit_noPeriod (h : s.rq R.TB_SCEPER = 0) : s.epochCommit = s.wr R.TB_SCECTL_result 3 :=
  (congrFun epochCommit_eq s).trans (if_pos h)

section
variable (hp : s.rq R.TB_SCEPER ≠ 0)
include hp

theorem epochCommit_unheard (h : s.epochUnheard = true) : s.epochCommit = s.wr R.TB_SCECTL_result 4 :=
  (congrFun epochCommit_eq s).trans ((if_neg hp).trans (if_pos h))

/-- A commit of an epoch with a period that is known: the checks that follow, in their order. -/
theorem epochCommit_judged {e : ScMap} (hu : s.epochUnheard = false) (he : s.committedEpoch = e) :
    (s.tb.sce ≠ none → s.epochCommit = s.wr R.TB_SCECTL_result 5)
      ∧ (s.tb.sce = none → s.epochBound = none → s.epochCommit = s.wr R.TB_SCECTL_result 6)
      ∧ (∀ n, s.tb.sce = none → s.epochBound = some n → s.sceValid = true → s.epochCommit
        = ((State.wr { s with tb := { s.tb with sce := some (n, e) } } R.TB_SCECTL_result 1).wr R.TB_STATUS_sce_pend 1).wq
            R.TB_SCEBND n)
      ∧ (s.tb.sce = none → s.epochBound ≠ none → s.sceValid = false → s.epochCommit = s.epochNow e) := by
  have hknown := (congrFun epochCommit_eq s).trans ((if_neg hp).trans (if_neg (Bool.eq_false_iff.mp hu)))
  have hfree (hw : s.tb.sce = none) := hknown.trans (if_neg (by simp [hw]))
  have hbound (hw : s.tb.sce = none) (hb : s.epochBound ≠ none) :=
    (hfree hw).trans (if_neg (by rwa [Option.isNone_iff_eq_none]))
  refine ⟨fun hw => ?_, fun hw hb => ?_, fun n hw hb hv => ?_, fun hw hb hv => ?_⟩
  · exact hknown.trans (if_pos (Option.isSome_iff_ne_none.mpr hw))
  · exact (hfree hw).trans (if_pos (by rw [hb]; rfl))
  · refine (hbound hw (by simp [hb])).trans ((if_pos hv).trans ?_)
    rw [he, hb]
    rfl
  · exact (hbound hw hb).trans ((if_neg (Bool.eq_false_iff.mp hv)).trans (congrArg _ he))

end

theorem epochInvalidate_valid (h : s.sceValid = true) : s.epochInvalidate
    = (State.wr { s.placeAll with tb := { s.placeAll.tb with
        maps := s.tb.maps.filter (fun q => q.1 < s.nextRound) ++ [(s.nextRound, none)] } } R.TB_STATUS_sce_valid 0).moveHorizon :=
  if_pos h

/-! ## A comparator (R260) -/

/-- Arming a comparator moves no target. -/
theorem trgTarget_armed (k : Nat) : (s.wr (R.TB_TRGCTL_arm k) 1).trgTarget k = s.trgTarget k := by
  have hs : (s.wr (R.TB_TRGCTL_arm k) 1).rq (R.TB_TRGS k) = s.rq (R.TB_TRGS k) := by
    refine State.rq_wr_ne s 1 ?_ ?_ <;> simp only [R.TB_TRGS, R.TB_TRGCTL_arm, R.TB_TRGCTL] <;> omega
  have hns : (s.wr (R.TB_TRGCTL_arm k) 1).rd (R.TB_TRGNS_ns k) = s.rd (R.TB_TRGNS_ns k) :=
    State.rd_wr_ne _ _ (by simp only [R.TB_TRGNS_ns, R.TB_TRGNS, R.TB_TRGCTL_arm, R.TB_TRGCTL]; omega)
  have hfr : (s.wr (R.TB_TRGCTL_arm k) 1).rd (R.TB_TRGFR_fr k) = s.rd (R.TB_TRGFR_fr k) :=
    State.rd_wr_ne _ _ (by simp only [R.TB_TRGFR_fr, R.TB_TRGFR, R.TB_TRGCTL_arm, R.TB_TRGCTL]; omega)
  unfold State.trgTarget
  rw [hs, hns, hfr]

theorem trgArm_noPeriod {k : Nat} (hp : s.on (R.TB_TRGCTL_periodic k) = true) (h0 : s.trgPeriod k = 0) :
    s.trgArm k = s.wr (R.TB_TRGCTL_arm k) 0 :=
  if_pos (by simp [hp, h0])

/-- The comparator is armed with its present target kept as its first. -/
def State.armed (s : State) (k : Nat) : State :=
  { s.wr (R.TB_TRGCTL_arm k) 1 with tb := { s.tb with trgFirst := smapSet 0 s.tb.trgFirst k (s.trgTarget k) } }

theorem trgArm_armed {k : Nat} (h : s.on (R.TB_TRGCTL_periodic k) = false ∨ s.trgPeriod k ≠ 0) :
    s.trgArm k = if (s.armed k).dueSoon k then (s.armed k).trgFire k true else s.armed k :=
  if_neg (by rcases h with h | h <;> simp [h])

end

/-- Settles O26: each request by what its register's write does, then the results in the order of their checks. -/
theorem timeWrites : Obligations.TimeWrites := by
  refine ⟨fun s m v => ⟨?_, ?_, ?_, ?_⟩, fun s => ?_, fun s => ?_⟩
  · rintro w L rfl rfl h
    exact exec_timeStepRequest h
  · rintro w L rfl rfl h hv
    exact exec_scEpochCommit h hv
  · rintro w L rfl rfl h hv
    exact exec_scEpochInvalidate h hv
  · rintro k w L rfl rfl h hoff
    exact exec_comparatorArm h hoff
  · intro mode sec ns bnd result judged
    refine ⟨fun hm => ?_, fun r hm hr => ?_, fun hm hr => ?_, fun hm hsec => ?_, fun hm hsec => ?_, fun hm hsec => ?_⟩
    · have hneg := stepNegative_ofTime (s := s) (by omega)
      rw [stepAdd_ofFields hm] at hneg
      have hok : s.stepUnfit = false ↔ True := by simp [State.stepUnfit, show s.rd R.TB_STEPCTL_mode = 0 from hm]
      exact ⟨fun h => stepRequest_negative (hneg.trans (decide_eq_true h)),
        fun h => stepRequest_judged (hneg.trans (decide_eq_false (Int.not_lt.mpr h))) (stepAdd_ofFields hm) hok⟩
    · have hneg := stepNegative_ofTime (s := s) (by omega)
      rw [stepAdd_ofReference hm hr] at hneg
      have hok : s.stepUnfit = false ↔ refType r ≠ .f := by
        simp [State.stepUnfit, State.refTimed, show s.rd R.TB_STEPCTL_mode = 1 from hm, hr]
      exact ⟨fun h => stepRequest_negative (hneg.trans (decide_eq_true h)),
        fun h => stepRequest_judged (hneg.trans (decide_eq_false (Int.not_lt.mpr h))) (stepAdd_ofReference hm hr) hok⟩
    · have hneg := stepNegative_ofTime (s := s) (by omega)
      rw [stepAdd_noReference hm hr] at hneg
      have hok : s.stepUnfit = false ↔ False := by
        simp [State.stepUnfit, State.refTimed, show s.rd R.TB_STEPCTL_mode = 1 from hm, hr]
      exact stepRequest_judged (hneg.trans (decide_eq_false (by omega))) (stepAdd_noReference hm hr) hok
    · exact stepRequest_negative ((stepNegative_ofSeconds (by omega)).trans (decide_eq_true hsec))
    · have hok : s.stepUnfit = false ↔ True := by simp [State.stepUnfit, show s.rd R.TB_STEPCTL_mode = 2 from hm]
      exact stepRequest_judged ((stepNegative_ofSeconds (by omega)).trans (decide_eq_false (Int.not_lt.mpr hsec)))
        (stepAdd_ofMode hm) hok
    · have hok : s.stepUnfit = false ↔ (s.sceValid = false ∧ ∃ r, s.refSel = some r ∧ refType r = .p) := by
        simp [State.stepUnfit, show s.rd R.TB_STEPCTL_mode = 3 from hm, ← refPulse_iff]
      exact stepRequest_judged ((stepNegative_ofSeconds (by omega)).trans (decide_eq_false (Int.not_lt.mpr hsec)))
        (stepAdd_ofMode hm) hok
  · intro port p own heard bnd result judged
    refine ⟨fun hp => ?_, fun hp hsrc hno => ?_, fun hp hsrc hyes => ?_, fun hp hsrc => ?_, fun hv => ?_, fun hv => ?_,
      fun k => ⟨fun hper h0 => trgArm_noPeriod hper h0, fun harm => ?_⟩⟩
    · exact epochCommit_noPeriod hp
    · have hflag : (s.ulp (s.rd R.TB_SCECTL_port)).tim.tflags.testBit 0 = false := hno
      have hu : s.epochUnheard = true := by simp only [State.epochUnheard, hsrc, hflag, Bool.not_false, Bool.and_self]
      exact epochCommit_unheard hp hu
    · have hflag : (s.ulp (s.rd R.TB_SCECTL_port)).tim.tflags.testBit 0 = true := hyes
      have hu : s.epochUnheard = false := by simp only [State.epochUnheard, hflag, Bool.not_true, Bool.and_false]
      exact epochCommit_judged hp hu (if_pos hsrc)
    · have hu : s.epochUnheard = false := by simp [State.epochUnheard, hsrc]
      exact epochCommit_judged hp hu (if_neg (Bool.eq_false_iff.mp hsrc))
    · exact if_neg (Bool.eq_false_iff.mp hv)
    · exact epochInvalidate_valid hv
    · intro u t
      have ht : t = s.armed k := by
        show ({ u with tb := { u.tb with trgFirst := smapSet 0 u.tb.trgFirst k (u.trgTarget k) } } : State) = _
        rw [trgTarget_armed]
        rfl
      rw [ht]
      exact ⟨fun hd => (trgArm_armed harm).trans (if_neg (Bool.eq_false_iff.mp hd)),
        fun hd => (trgArm_armed harm).trans (if_pos hd)⟩

end Sys2Proof.Machine
end

section
/-! The events of the timebase (R246, R251, R254 to R256, R260 to R262). -/

namespace Sys2Proof.Machine

/-! ## What the parts of a step leave alone -/

/-- The counter, its copy and the step that waits, the given fields, and the events fired are as before. -/
structure CounterKept (l : List FRef) (s t : State) : Prop where
  time : t.tb.t = s.tb.t
  copy : t.tb.t2 = s.tb.t2
  step : t.tb.step = s.tb.step
  fields : ∀ g ∈ l, t.rd g = s.rd g
  events : ∀ e ∈ s.evq, e ∈ t.evq

/-- Two fields of registers do not meet. -/
@[reducible] def FRef.apart (f g : FRef) : Prop := g.a ≠ f.a ∨ (g.lo + g.w ≤ f.lo ∨ f.lo + f.w ≤ g.lo)

section
variable {l : List FRef} {s t u : State}

theorem CounterKept.refl (s : State) : CounterKept l s s := ⟨rfl, rfl, rfl, fun _ _ => rfl, fun _ h => h⟩

theorem CounterKept.trans (h : CounterKept l s t) (h' : CounterKept l t u) : CounterKept l s u :=
  ⟨h'.time.trans h.time, h'.copy.trans h.copy, h'.step.trans h.step, fun g hg => (h'.fields g hg).trans (h.fields g hg),
    fun e he => h'.events e (h.events e he)⟩

/-- An update of other parts of the state. -/
theorem CounterKept.of_csr (hc : t.csr = s.csr) (ht : t.tb.t = s.tb.t) (hk : t.tb.t2 = s.tb.t2) (hs : t.tb.step = s.tb.step)
    (he : ∀ e ∈ s.evq, e ∈ t.evq) : CounterKept l s t :=
  ⟨ht, hk, hs, fun g _ => State.rd_of_csr hc g, he⟩

theorem CounterKept.setTb (h : CounterKept l s t) (x : TbState) (ht : x.t = t.tb.t) (hk : x.t2 = t.tb.t2)
    (hs : x.step = t.tb.step) : CounterKept l s { t with tb := x } :=
  h.trans (.of_csr rfl ht hk hs fun _ h => h)

theorem CounterKept.wr (s : State) {f : FRef} (v : Nat) (hf : f.lo + f.w ≤ 32) (h : ∀ g ∈ l, f.apart g) :
    CounterKept l s (s.wr f v) := by
  refine ⟨rfl, rfl, rfl, fun g hg => ?_, fun _ h => h⟩
  by_cases ha : g.a = f.a
  · exact State.rd_wr_disjoint _ _ hf ha ((h g hg).resolve_left (not_not_intro ha))
  · exact State.rd_wr_ne _ _ ha

theorem CounterKept.wq (s : State) {a : Nat} (v : Nat) (h : ∀ g ∈ l, g.a ≠ a ∧ g.a ≠ a + 4) : CounterKept l s (s.wq a v) :=
  ⟨rfl, rfl, rfl, fun g hg => s.rd_wq_ne v (h g hg).1 (h g hg).2, fun _ h => h⟩

theorem CounterKept.incBy (s : State) {a : Nat} (n : Nat) (h : ∀ g ∈ l, g.a ≠ a) : CounterKept l s (s.incBy a n) :=
  ⟨rfl, rfl, rfl, fun g hg => s.rd_incBy_ne n (h g hg), fun _ h => h⟩

theorem CounterKept.flag (s : State) {f : FRef} (hf : f.lo + f.w ≤ 32) (h : ∀ g ∈ l, f.apart g ∧ g.a ≠ R.PE_CNT 2) :
    CounterKept l s (s.flag f) := by
  refine ⟨by rw [State.flag_tb], by rw [State.flag_tb], by rw [State.flag_tb], fun g hg => ?_, fun e he => by rwa [State.flag_evq]⟩
  obtain ⟨hd, hp⟩ := h g hg
  by_cases ha : g.a = f.a
  · exact State.rd_flag_disjoint _ _ hf ha (hd.resolve_left (not_not_intro ha)) hp
  · exact State.rd_flag_ne _ _ ha hp

theorem CounterKept.fire (s : State) (e : Nat) : CounterKept l s (s.fire e) :=
  .of_csr rfl rfl rfl rfl fun _ h => List.mem_append_left _ h

theorem CounterKept.ite {c : Prop} [Decidable c] (ht : CounterKept l s t) (hu : CounterKept l s u) :
    CounterKept l s (if c then t else u) := by
  split
  · exact ht
  · exact hu

theorem CounterKept.fold {α : Type} {f : State → α → State} (h : ∀ t x, CounterKept l t (f t x)) (xs : List α) :
    CounterKept l s (s.fold xs f) :=
  foldl_keeps (P := CounterKept l s) (fun t x ht => ht.trans (h t x)) xs (.refl s)

end

section
variable (s : State)

/-- A fold of emissions to pins changes nothing but what is sent out. -/
theorem pins_of_fold {l : List Nat} (c : Nat → Prop) [DecidablePred c] (e : Nat → Emit) {P : State → Prop}
    (hP : ∀ t e, P t → P (t.emit e)) (h : P s) : P (s.fold l fun x o => if c o then x else x.emit (e o)) :=
  foldl_keeps (P := P) (fun t o ht => by split; exacts [ht, hP t _ ht]) l h

theorem setPulses_tb (l : List Nat) : (s.setPulses l).tb = { s.tb with pulse := l } :=
  pins_of_fold _ _ _ (P := fun t => t.tb = { s.tb with pulse := l }) (fun _ _ h => h) rfl

theorem setPulses_csr (l : List Nat) : (s.setPulses l).csr = s.csr :=
  pins_of_fold _ _ _ (P := fun t => t.csr = s.csr) (fun _ _ h => h) rfl

theorem setPulses_mem (l : List Nat) : (s.setPulses l).mem = s.mem :=
  pins_of_fold _ _ _ (P := fun t => t.mem = s.mem) (fun _ _ h => h) rfl

theorem setPulses_evq (l : List Nat) : (s.setPulses l).evq = s.evq :=
  pins_of_fold _ _ _ (P := fun t => t.evq = s.evq) (fun _ _ h => h) rfl

end

/-- The fields that tell of a step and of the time's standing. -/
def stepFields : List FRef := [R.TB_STEPCTL_result, R.TB_STATUS_epoch, R.TB_STATUS_set, R.TB_STATUS_lost]

theorem stepFields_below : ∀ g ∈ stepFields, g.a < 0xB01000 := by decide

section
variable (s : State)

/-- The registers of the comparators stand above those of a step. -/
theorem stepField_ne_trg {g : FRef} (hg : g ∈ stepFields) {a : Nat} (ha : 0xB01000 ≤ a) : g.a ≠ a :=
  Nat.ne_of_lt (Nat.lt_of_lt_of_le (stepFields_below g hg) ha)

theorem setTarget_kept (k x : Nat) : CounterKept stepFields s (s.setTarget k x) := by
  have hs : 0xB01000 ≤ R.TB_TRGS k := by simp only [R.TB_TRGS]; omega
  have hns : 0xB01000 ≤ R.TB_TRGNS k := by simp only [R.TB_TRGNS]; omega
  have hfr : 0xB01000 ≤ R.TB_TRGFR k := by simp only [R.TB_TRGFR]; omega
  refine .trans (.trans ?_ (.wr _ _ (show 0 + 30 ≤ 32 by decide) fun g hg => .inl (stepField_ne_trg hg hns)))
    (.wr _ _ (show 0 + 7 ≤ 32 by decide) fun g hg => .inl (stepField_ne_trg hg hfr))
  exact .wq s _ fun g hg => ⟨stepField_ne_trg hg hs, stepField_ne_trg hg (by omega)⟩

theorem trgCtl_above (k : Nat) : 0xB01000 ≤ R.TB_TRGCTL k := Nat.le_add_right ..

theorem trgFlag_kept {f : FRef} (ha : 0xB01000 ≤ f.a) (hf : f.lo + f.w ≤ 32) : CounterKept stepFields s (s.flag f) :=
  CounterKept.flag s hf fun _ hg => ⟨.inl (stepField_ne_trg hg ha),
    (show ∀ g ∈ stepFields, g.a ≠ R.PE_CNT 2 by decide) _ hg⟩

theorem setPulses_kept (l : List Nat) : CounterKept stepFields s (s.setPulses l) :=
  .of_csr (setPulses_csr s l) (by rw [setPulses_tb]) (by rw [setPulses_tb]) (by rw [setPulses_tb])
    fun e he => by rwa [setPulses_evq]

theorem lateNoted_kept (k : Nat) (c : Bool) :
    CounterKept stepFields s (s.when c fun s => ((s.flag (R.TB_TRGCTL_late k)).inc (R.TB_CNT 2)).fire 189) := by
  refine CounterKept.ite (.trans (.trans ?_ (.incBy _ 1 (by decide))) (.fire _ 189)) (.refl s)
  exact trgFlag_kept s (f := R.TB_TRGCTL_late k) (trgCtl_above k) (show 1 + 1 ≤ 32 by decide)

theorem trgFire_kept (k : Nat) (late : Bool) : CounterKept stepFields s (s.trgFire k late) := by
  have hfired : CounterKept stepFields s (((s.setPulses (s.tb.pulse.filter (· ≠ k) ++ [k])).fire k).flag (R.TB_TRGCTL_fired k)) :=
    ((setPulses_kept s _).trans (.fire _ k)).trans
      (trgFlag_kept _ (f := R.TB_TRGCTL_fired k) (trgCtl_above k) (show 2 + 1 ≤ 32 by decide))
  refine (hfired.trans (lateNoted_kept _ k late)).trans (.ite (setTarget_kept _ k _) ?_)
  exact .wr _ _ (show 0 + 1 ≤ 32 by decide) fun g hg => .inl (stepField_ne_trg hg (trgCtl_above k))

theorem trgStep_kept (k : Nat) (fwd : Bool) : CounterKept stepFields s (s.trgStep k fwd) := by
  have hskip : 0xB01000 ≤ R.TB_TRGSKIP k := by simp only [R.TB_TRGSKIP]; omega
  refine CounterKept.ite (.refl s) (CounterKept.ite ?_ (CounterKept.ite (trgFire_kept s k true) (.refl s)))
  exact (CounterKept.incBy s _ fun g hg => stepField_ne_trg hg hskip).trans (setTarget_kept _ k _)

theorem discSettles_kept (ns : Int) : CounterKept stepFields s (s.discSettles ns) := by
  unfold State.discSettles
  split
  · exact CounterKept.ite (CounterKept.wr s _ (by decide) (by decide)) (.refl s)
  · exact .refl s

theorem showEpoch_kept (m : ScMap) : CounterKept stepFields s (s.showEpoch m) := by
  refine .trans (.trans (.trans (.trans ?_ (.wq _ _ (by decide))) (.wq _ _ (by decide))) (.wr _ _ (by decide) (by decide)))
    (.wq _ _ (by decide))
  exact .of_csr rfl rfl rfl rfl fun _ h => h

theorem epochFollows_kept (n : Nat) (ns : Int) : CounterKept stepFields s (s.epochFollows n ns) := by
  unfold State.epochFollows
  refine .ite ?_ (.refl s)
  exact (showEpoch_kept s _).setTb _ rfl rfl rfl

theorem takeEpoch_kept (m : ScMap) : CounterKept stepFields s (s.takeEpoch m) :=
  .trans (.trans (showEpoch_kept s _) (.wr _ _ (by decide) (by decide))) (.wr _ _ (by decide) (by decide))

theorem epochAt_kept (n : Nat) (m : ScMap) : CounterKept stepFields s (s.epochAt n m) := by
  unfold State.epochAt
  have hpend := (takeEpoch_kept s m).trans (.wr _ (f := R.TB_STATUS_sce_pend) 0 (by decide) (by decide))
  exact hpend.setTb _ rfl rfl rfl

theorem epochWith_kept (bnd : Option Nat) : CounterKept stepFields s (s.epochWith bnd) := by
  unfold State.epochWith
  split
  · exact CounterKept.ite (epochAt_kept s _ _) (.refl s)
  · exact .refl s

end

/-! ## A step (R251) -/

section
variable (s : State) (st : TimeStep)

/-- How far a step moves the counter. -/
def State.stepMove : Int := s.steppedTo st - s.tb.t

/-- The counter and its copy have moved and nothing waits; the epoch has incremented and the step is counted and shown. -/
def State.stepBegun : State :=
  let t := State.loopStepped { s with tb := { s.tb with t := (s.steppedTo st).toNat, t2 := (s.steppedTo st).toNat, step := none } }
    (s.stepMove st)
  ((((t.nextEpoch).inc (R.TB_CNT 0)).flag R.TB_STATUS_step_ev).wr R.TB_STATUS_step_pend 0).wr R.TB_STEPCTL_result 2

/-- The time is set and not lost after a step by a mode that gives it whole, or when it was set or lost before. -/
def State.timeKnown (mode : Nat) : State :=
  if s.on R.TB_STATUS_set || s.on R.TB_STATUS_lost || 2 ≤ mode then (s.wr R.TB_STATUS_set 1).wr R.TB_STATUS_lost 0 else s

/-- The step's epochs, and what they say of the time. -/
def State.stepPlaced : State :=
  let t := s.stepBegun st
  ((t.epochFollows (st.bnd.getD t.nextRound) (s.stepMove st / (nsUnit : Nat))).epochWith st.bnd).timeKnown st.mode

theorem stepCounter_eq : s.stepCounter st = ((s.stepPlaced st).discSettles (s.stepMove st / (nsUnit : Nat))).fold (List.range 16)
    (fun t k => t.trgStep k (decide (0 < s.stepMove st))) := rfl

theorem stepCounter_kept : CounterKept stepFields (s.stepPlaced st) (s.stepCounter st) :=
  (discSettles_kept _ _).trans (.fold (fun t k => trgStep_kept t k _) _)

theorem timeKnown_kept (mode : Nat) : CounterKept [R.TB_STEPCTL_result, R.TB_STATUS_epoch] s (s.timeKnown mode) :=
  .ite (.trans (.wr s _ (by decide) (by decide)) (.wr _ _ (by decide) (by decide))) (.refl s)

theorem timeKnown_set {mode : Nat} (h : 2 ≤ mode) :
    (s.timeKnown mode).on R.TB_STATUS_set = true ∧ (s.timeKnown mode).on R.TB_STATUS_lost = false := by
  have hk : s.timeKnown mode = (s.wr R.TB_STATUS_set 1).wr R.TB_STATUS_lost 0 := if_pos (by simp [h])
  have hset : (s.timeKnown mode).rd R.TB_STATUS_set = 1 := by
    rw [hk, State.rd_wr_disjoint _ _ (by decide) (by rfl) (by decide), State.rd_wr_same _ _ _ (by decide)]
    rfl
  have hlost : (s.timeKnown mode).rd R.TB_STATUS_lost = 0 := by
    rw [hk, State.rd_wr_same _ _ _ (by decide)]
    rfl
  exact ⟨by rw [State.on, hset]; rfl, by rw [State.on, hlost]; rfl⟩

theorem CounterKept.mono {l m : List FRef} {s t : State} (h : CounterKept l s t) (hm : ∀ g ∈ m, g ∈ l) : CounterKept m s t :=
  ⟨h.time, h.copy, h.step, fun g hg => h.fields g (hm g hg), h.events⟩

theorem stepPlaced_kept : CounterKept [R.TB_STEPCTL_result, R.TB_STATUS_epoch] (s.stepBegun st) (s.stepCounter st) := by
  have hepoch := (epochFollows_kept (s.stepBegun st) (st.bnd.getD (s.stepBegun st).nextRound)
    (s.stepMove st / (nsUnit : Nat))).trans (epochWith_kept _ st.bnd)
  exact ((hepoch.mono (by decide)).trans (timeKnown_kept _ st.mode)).trans ((stepCounter_kept s st).mono (by decide))

theorem stepBegun_result : (s.stepBegun st).rd R.TB_STEPCTL_result = 2 := State.rd_wr_same _ _ _ (by decide)

theorem rd_wr_epoch (v : Nat) : (s.wr R.TB_STATUS_epoch v).rd R.TB_STATUS_epoch = v % 65536 := by
  have hw : 2 ^ R.TB_STATUS_epoch.w = 65536 := by decide
  rw [State.rd_wr_same _ _ _ (by decide), hw]

theorem rd_epochShown (v : Nat) (x : OtState) :
    State.rd { (s.wr R.TB_STATUS_epoch v).fire 89 with ot := x } R.TB_STATUS_epoch = v % 65536 := by
  refine Eq.trans ?_ (rd_wr_epoch s v)
  apply State.rd_of_csr
  rfl

theorem nextEpoch_epoch : s.nextEpoch.rd R.TB_STATUS_epoch = (s.rd R.TB_STATUS_epoch + 1) % 65536 := by
  unfold State.nextEpoch
  rw [rd_epochShown]

theorem stepBegun_epoch : (s.stepBegun st).rd R.TB_STATUS_epoch = (s.rd R.TB_STATUS_epoch + 1) % 65536 := by
  unfold State.stepBegun
  dsimp only
  rw [State.rd_wr_ne _ _ (by decide), State.rd_wr_disjoint _ _ (by decide) (by rfl) (by decide),
    State.rd_flag_disjoint _ _ (by decide) (by rfl) (by decide) (by decide), State.rd_inc_ne _ (by decide), nextEpoch_epoch]
  exact congrArg (fun x => (x + 1) % 65536) (State.rd_of_csr rfl _)

theorem stepBegun_tb : (s.stepBegun st).tb.t = (s.steppedTo st).toNat ∧ (s.stepBegun st).tb.t2 = (s.steppedTo st).toNat
    ∧ (s.stepBegun st).tb.step = none := by
  unfold State.stepBegun
  dsimp only
  rw [State.wr_tb, State.wr_tb, State.flag_tb, State.inc_tb]
  exact ⟨rfl, rfl, rfl⟩

theorem stepBegun_fires : (89, 0) ∈ (s.stepBegun st).evq := by
  unfold State.stepBegun
  dsimp only
  rw [State.wr_evq, State.wr_evq, State.flag_evq, State.inc_evq]
  exact List.mem_append_right _ (List.mem_singleton.mpr rfl)

theorem stepCounter_set (h : 2 ≤ st.mode) :
    (s.stepCounter st).on R.TB_STATUS_set = true ∧ (s.stepCounter st).on R.TB_STATUS_lost = false := by
  have hkept := (stepCounter_kept s st).fields
  obtain ⟨hset, hlost⟩ : (s.stepPlaced st).on R.TB_STATUS_set = true ∧ (s.stepPlaced st).on R.TB_STATUS_lost = false :=
    timeKnown_set _ h
  unfold State.on at hset hlost ⊢
  rw [hkept _ (by decide), hkept _ (by decide)]
  exact ⟨hset, hlost⟩

end

/-! ## Seconds (R246) -/

/-- The least number of parts of i that covers x covers it, and leaves less than i over. -/
theorem ceilDiv_covers (x : Nat) {i : Nat} (hi : 0 < i) : x ≤ ceilDiv x i * i ∧ ceilDiv x i * i < x + i := by
  have h := Nat.div_add_mod (x + i - 1) i
  have hlt := Nat.mod_lt (x + i - 1) hi
  rw [Nat.mul_comm] at h
  unfold ceilDiv
  omega

section
variable (s : State)

theorem nextSecond_ahead : s.tb.t < (s.taiS + 1) * 1000000000 * 2 ^ 48 := by
  have h : s.taiS = s.tb.t / 2 ^ 48 / 1000000000 := rfl
  omega

theorem toNextSecond_time (h : s.rq R.TB_INC ≠ 0) : (s.taiS + 1) * 1000000000 * 2 ^ 48 ≤ s.toNextSecond.tb.t
    ∧ s.toNextSecond.tb.t < (s.taiS + 1) * 1000000000 * 2 ^ 48 + s.rq R.TB_INC := by
  have ht : s.toNextSecond.tb.t = s.tb.t
      + ceilDiv ((s.taiS + 1) * 1000000000 * 2 ^ 48 - s.tb.t) (max 1 (s.rq R.TB_INC)) * max 1 (s.rq R.TB_INC) := rfl
  have hi : max 1 (s.rq R.TB_INC) = s.rq R.TB_INC := by omega
  have hahead := nextSecond_ahead s
  have hcovers := ceilDiv_covers ((s.taiS + 1) * 1000000000 * 2 ^ 48 - s.tb.t) (Nat.pos_of_ne_zero h)
  rw [ht, hi]
  omega

end

/-! ## The commands -/

section
variable {s : State} (hoff : s.off = false)
include hoff

theorem exec_taiSecondRollover (hc : s.clockRuns = true) : exec .taiSecondRollover s = .next s.toNextSecond.ticked := by
  refine congrArg Host.Outcome.next ((if_pos hc).trans (if_neg ?_))
  simp [hoff]

theorem exec_timeStepApply : exec .timeStepApply s = .next s.stepApply.passBoundaries :=
  s.does_on hoff fun s => s.stepApply.passBoundaries

theorem exec_scEpochApply : exec .scEpochApply s = .next s.epochApply.passBoundaries :=
  s.does_on hoff fun s => s.epochApply.passBoundaries

theorem exec_comparatorFire (k : Fin 16) : exec (.comparatorFire k) s = .next (s.trgReach k).ticked :=
  s.does_on hoff fun s => (s.trgReach k).ticked

end

section
variable {s : State}

theorem stepApply_unbound {st : TimeStep} (hs : s.tb.step = some st) (hm : st.mode ≠ 3) (hb : st.bnd = none) :
    s.stepApply = s.stepNow st := by
  simp only [State.stepApply, hs, if_neg hm, hb]

theorem stepApply_reached {st : TimeStep} {n : Nat} (hs : s.tb.step = some st) (hm : st.mode ≠ 3) (hb : st.bnd = some n)
    (hr : s.reached n = true) : s.stepApply = (s.boundariesTo n).stepNow st := by
  simp only [State.stepApply, hs, if_neg hm, hb, hr, if_true]

theorem epochApply_alone {n : Nat} {e : ScMap} (hs : s.tb.sce = some (n, e)) (hr : s.reached n = true)
    (hno : ∀ st, (s.placeAll.boundariesTo n).tb.step = some st → st.bnd ≠ some n) :
    s.epochApply = (((s.placeAll.boundariesTo n).nextEpoch.epochAt n e).moveHorizon).passBoundaries := by
  simp only [State.epochApply, hs, hr, if_true]
  split
  · next st hst => exact if_neg (hno st hst)
  · rfl

theorem epochApply_withStep {n : Nat} {e : ScMap} {st : TimeStep} (hs : s.tb.sce = some (n, e)) (hr : s.reached n = true)
    (hst : (s.placeAll.boundariesTo n).tb.step = some st) (hb : st.bnd = some n) :
    s.epochApply = (s.placeAll.boundariesTo n).stepNow st := by
  simp only [State.epochApply, hs, hr, hst, hb, if_true]

theorem trgReach_come {k : Nat} (ha : s.on (R.TB_TRGCTL_arm k) = true) (hp : s.past (s.trgTarget k) = true) :
    s.trgReach k = s.trgFire k false := by
  simp only [State.trgReach, ha, hp, if_true]

theorem trgReach_ahead {k : Nat} (ha : s.on (R.TB_TRGCTL_arm k) = true) (hp : s.past (s.trgTarget k) = false) :
    s.trgReach k = (s.elapseTo (ceilDiv (s.trgTarget k * 2 ^ 48) 100)).trgFire k false := by
  simp only [State.trgReach, ha, hp, if_true, Bool.false_eq_true, if_false]

/-- An edge reaches the units that watch its pin for its sense. -/
theorem captureEdge_eq (pin fine : Nat) (rise : Bool) :
    s.captureEdge pin fine rise = s.fold (List.range 16) (fun t k =>
      if t.on (R.TB_CAPCTL_src k) = false ∧ t.rd (R.TB_CAPCTL_pin k) = pin ∧
        (t.rd (R.TB_CAPCTL_edge k)).testBit (if rise = true then 0 else 1) = true then t.stamp k fine rise else t) := by
  unfold State.captureEdge
  congr 1
  funext t k
  refine if_congr ?_ rfl rfl
  cases rise <;> simp [and_assoc]

theorem trgFire_single {k : Nat} : let t := ((s.setPulses (s.tb.pulse.filter (· ≠ k) ++ [k])).fire k).flag (R.TB_TRGCTL_fired k);
    (t.on (R.TB_TRGCTL_periodic k) = false → s.trgFire k false = t.wr (R.TB_TRGCTL_arm k) 0)
      ∧ (t.on (R.TB_TRGCTL_periodic k) = true → s.trgFire k false = t.setTarget k (t.trgTarget k + t.trgPeriod k)) :=
  ⟨fun h => if_neg (Bool.eq_false_iff.mp h), fun h => if_pos h⟩

end

/-- Settles O27: each event by its branch; of a step, what its parts leave of the counter, the fields and the events. -/
theorem timeRuns : Obligations.TimeRuns := by
  refine ⟨fun s hoff => ⟨fun hc => exec_taiSecondRollover hoff hc, fun st hs hm hb => ?_, fun st n hs hm hb hr => ?_,
    fun n e hs hr => ⟨fun hno => ?_, fun st hst hb => ?_⟩, fun k ha => ⟨fun hp => ?_, fun hp => ?_⟩, fun k => ?_,
    fun pin fine rise => ?_⟩, fun s => ⟨fun h => ?_, fun k => trgFire_single, fun l => ?_, fun k fine rise => ?_, fun st => ?_⟩⟩
  · rw [exec_timeStepApply hoff, stepApply_unbound hs hm hb]
  · rw [exec_timeStepApply hoff, stepApply_reached hs hm hb hr]
  · rw [exec_scEpochApply hoff, epochApply_alone hs hr hno]
  · rw [exec_scEpochApply hoff, epochApply_withStep hs hr hst hb]
  · rw [exec_comparatorFire hoff, trgReach_come ha hp]
  · rw [exec_comparatorFire hoff, trgReach_ahead ha hp]
  · exact s.does_on hoff fun s => s.trgPulseEnd k
  · refine (s.does_on hoff fun s => s.captureEdge pin fine rise).trans (congrArg _ (captureEdge_eq ..))
  · obtain ⟨hlo, hhi⟩ := toNextSecond_time s h
    exact ⟨hlo, hhi, rfl, rfl, rfl⟩
  · exact ⟨setPulses_tb s l, setPulses_csr s l, setPulses_mem s l⟩
  · exact ⟨fun h => if_pos h, fun h => if_neg (Nat.not_le.mpr h)⟩
  · have hkept := stepPlaced_kept s st
    obtain ⟨ht, hk, hs⟩ := stepBegun_tb s st
    refine ⟨rfl, hkept.time.trans ht, hkept.copy.trans (hk.trans ?_), hkept.step.trans hs, ?_, ?_,
      hkept.events _ (stepBegun_fires s st), stepCounter_set s st⟩
    · exact (hkept.time.trans ht).symm
    · exact (hkept.fields _ (by decide)).trans (stepBegun_result s st)
    · exact (hkept.fields _ (by decide)).trans (stepBegun_epoch s st)

end Sys2Proof.Machine
end

section
/-! Accesses to HBM over the crossbar (R289, R295, R297, R301, Table 8-4). -/

namespace Sys2Proof.Machine

section
variable {s : State} {m ch a : Nat}

/-- A burst of a port that is open reaches its target, when its check bits and parity are right. -/
theorem burst_reaches (hq : s.quiesced m = false) (op : XbOp) :
    s.burst m ch a op false = Answer.respond (s.access m ch a op) m := by
  simp only [State.burst, hq, Bool.false_eq_true, if_false]

theorem burst_spoilt (hq : s.quiesced m = false) (op : XbOp) : s.burst m ch a op true = s.busError.failTo m := by
  simp only [State.burst, hq, Bool.false_eq_true, if_false, if_true]

theorem access_noPath {t o : Nat} (ht : targetOf a = some (t, o)) (hp : hasPath m t = false) (op : XbOp) :
    s.access m ch a op = (s.xbViol 1 m t (opWrites op) a, none) := by
  simp only [State.access, ht, hp, Bool.not_false, if_true]

/-- No secure write is asked of HBM. -/
theorem secRefused_hbm (o : Nat) (op : XbOp) : s.secRefused 0 o op = false := by
  cases op <;> rfl

/-- An access to HBM by a master with a path there, within one block of 1 KiB. -/
theorem access_hbm {op : XbOp} (ha : a < 0x6000000000) (hp : hasPath m 0 = true) (hr : m = 0 → s.on R.MG_STATUS_ready = true)
    (hpos : opLen op ≠ 0) (hblk : a % 1024 + opLen op ≤ 1024) : s.access m ch a op = s.accessHbm a op := by
  have hlen : ¬(opLen op = 0 ∨ 1024 < a % 1024 + opLen op) := by omega
  have hhost : (decide (m = 0) && !s.hostTarget 0 a) = false := by
    by_cases hm : m = 0
    · simp [State.hostTarget, hr hm]
    · simp [hm]
  simp only [State.access, targetOf_hbm ha, hp, hlen, hhost, secRefused_hbm, Bool.not_true, Bool.and_false, Bool.false_eq_true,
    if_false]

end

section
variable {s : State} {a : Nat}

/-- An access that HBM takes: within the part, outside Endgame, to a stack that is ready. -/
theorem accessHbm_open {op : XbOp} (hsize : a < s.hbmSize) (heg : s.ck.eg = 0) (hst : s.stackTakes a = true) :
    s.accessHbm a op = match op with
      | .read n => if (wordsOf a n).any (fun w => smapGet false s.hm.poison w) then (s, none) else (s, some (s.bytes a n))
      | .write d => match s.hbmWrite a d with
        | (s, true) => (s, some [])
        | (s, false) => (s, none) := by
  unfold State.accessHbm
  rw [if_neg (by simp [heg, hst, hsize])] <;> rfl

/-- Bytes stored one after another are bytes stored. -/
theorem fold_setByte (bs : List (BitVec 8)) (k : Nat) (s : State) :
    s.fold ((bs.map some).zipIdx k) (fun s x =>
      match x.1 with
      | some b => if ([] : List Nat).contains ((a + x.2) / 32) then s else s.setByte (a + x.2) b
      | none => s) = s.setBytes (a + k) bs := by
  unfold State.fold
  induction bs generalizing k s with
  | nil => rfl
  | cons b r ih => exact ih (k + 1) (s.setByte (a + k) b)

/-- A write of words without poison stores exactly its bytes. -/
theorem hbmWrite_clean (bs : List (BitVec 8)) (hp : ∀ w ∈ wordsOf a bs.length, smapGet false s.hm.poison w = false) :
    ∃ p, s.hbmWrite a (bs.map some) = (State.setBytes { s with hm := { s.hm with poison := p } } a bs, true) := by
  have hbad : ∀ (f g : Nat → Bool), ((wordsOf a (bs.map some).length).filter f).filter
      (fun w => smapGet false s.hm.poison w && g w) = [] := by
    intro f g
    rw [List.filter_eq_nil_iff]
    intro w hw
    rw [List.length_map] at hw
    simp [hp w (List.mem_of_mem_filter hw)]
  unfold State.hbmWrite
  simp only [hbad]
  exact ⟨_, Prod.ext (fold_setByte bs 0 _) rfl⟩

end

/-- Settles O33: the checks that an access passes, and then what HBM does with it. -/
theorem hbmAccessed : Obligations.HbmAccessed := by
  intro s m ch a hoff hq
  refine ⟨fun bs ha hpath hready hne hblk hsize heg hst hpoison => ?_, fun n ha hpath hready hn hblk hsize heg hst hpoison => ?_,
    fun op t o ht hp => ?_, fun op => ?_⟩
  · have hlen : 0 < bs.length := List.length_pos_iff.mpr hne
    obtain ⟨p, hw⟩ := hbmWrite_clean (s := s) bs hpoison
    have hacc : s.access m ch a.toNat (.write (bs.map some))
        = (State.setBytes { s with hm := { s.hm with poison := p } } a.toNat bs, some []) := by
      have hdata : opLen (.write (bs.map some)) = bs.length := by simp only [opLen, List.length_map]
      rw [access_hbm ha hpath hready (by omega) (by omega), accessHbm_open (by omega) heg hst]
      simp only [hw]
    refine ⟨State.okResp (State.setBytes { s with hm := { s.hm with poison := p } } a.toNat bs) [], ?_, rfl, rfl, fun i h => ?_,
      fun x hx => ?_⟩
    · rw [exec_crossbarBurst hoff, burst_reaches hq, hacc]
      rfl
    · exact memPut_same bs s.mem a.toNat i h
    · exact memPut_ne bs s.mem a.toNat x hx
  · have hclean : ((wordsOf a.toNat n).any fun w => smapGet false s.hm.poison w) = false := by
      simpa only [List.any_eq_false, Bool.not_eq_true] using hpoison
    have hacc : s.access m ch a.toNat (.read n) = (s, some (s.bytes a.toNat n)) := by
      rw [access_hbm (op := .read n) ha hpath hready (Nat.ne_of_gt hn) hblk, accessHbm_open (by omega) heg hst]
      simp only [hclean, Bool.false_eq_true, if_false]
    rw [exec_crossbarBurst hoff, burst_reaches hq, hacc]
    rfl
  · rw [exec_crossbarBurst hoff, burst_reaches hq, access_noPath ht hp]
    rfl
  · rw [exec_crossbarBurst hoff, burst_spoilt hq]
    rfl

end Sys2Proof.Machine
end

section
/-! The commands of the Chess Clock and Endgame (R263, R268, R270 to R272, R275, R276). -/

namespace Sys2Proof.Machine

/-! ## Counted energy (R263) -/

/-- Two register pairs do not meet. -/
def pairsApart (a b : Nat) : Prop := a ≠ b ∧ a ≠ b + 4 ∧ a + 4 ≠ b

section
variable {A : Nat → Nat} (F : Nat → Nat → Nat)

/-- Writes of register pairs leave every other pair. -/
theorem rq_fold_wq_ne {b : Nat} (l : List Nat) (h : ∀ k ∈ l, pairsApart b (A k)) (s : State) :
    (s.fold l fun t k => t.wq (A k) (F (t.rq (A k)) k)).rq b = s.rq b := by
  unfold State.fold
  induction l generalizing s with
  | nil => rfl
  | cons k r ih =>
    obtain ⟨h1, h2, h3⟩ := h k (List.mem_cons_self ..)
    exact (ih (fun j hj => h j (List.mem_cons_of_mem _ hj)) _).trans (s.rq_wq_ne _ h1 h2 h3)

/-- Each of the pairs written holds what its write gave it. -/
theorem rq_fold_wq_mem (hA : ∀ i j, i ≠ j → pairsApart (A i) (A j)) (l : List Nat) (hl : l.Nodup) (s : State) {k : Nat}
    (hk : k ∈ l) : (s.fold l fun t k => t.wq (A k) (F (t.rq (A k)) k)).rq (A k) = F (s.rq (A k)) k % 2 ^ 64 := by
  induction l generalizing s with
  | nil => exact absurd hk List.not_mem_nil
  | cons j r ih =>
    obtain ⟨hj, hr⟩ := List.nodup_cons.mp hl
    rcases List.mem_cons.mp hk with rfl | hmem
    · exact (rq_fold_wq_ne F r (fun i hi => hA _ _ (ne_of_mem_of_not_mem hi hj).symm) _).trans (s.rq_wq_same _ _)
    · have hne : k ≠ j := ne_of_mem_of_not_mem hmem hj
      obtain ⟨h1, h2, h3⟩ := hA k j hne
      have hrest := ih hr (s.wq (A j) (F (s.rq (A j)) j)) hmem
      rw [s.rq_wq_ne _ h1 h2 h3] at hrest
      exact hrest

theorem fold_wq_frame (l : List Nat) (s : State) : let t : State := s.fold l fun t k => t.wq (A k) (F (t.rq (A k)) k);
    t.ck = s.ck ∧ t.mem = s.mem ∧ t.out = s.out := by
  refine foldl_keeps (P := fun t : State => t.ck = s.ck ∧ t.mem = s.mem ∧ t.out = s.out) ?_ l ⟨rfl, rfl, rfl⟩
  exact fun _ _ h => h

end

theorem ckE_apart : ∀ i j, i ≠ j → pairsApart (R.CK_E i) (R.CK_E j) := by
  intro i j h
  simp only [pairsApart, R.CK_E]
  omega

theorem ckRail_apart : ∀ i j, i ≠ j → pairsApart (R.CK_RAIL i) (R.CK_RAIL j) := by
  intro i j h
  simp only [pairsApart, R.CK_RAIL]
  omega

theorem getD_addLists {n i : Nat} (a b : List Nat) (h : i < n) : (addLists n a b).getD i 0 = a.getD i 0 + b.getD i 0 := by
  simp [addLists, h]

section
variable (s : State) (bd ba : Nat) (rest rails : List Nat)

/-- The energy counted since the last update, by region. -/
def State.energyRaw : List Nat :=
  [bd * (s.word (R.CK_COEF 1)).toNat * vptFactor (s.rd R.CK_STATUS_vpoint),
    if s.hasBeam then ba * (s.word (R.CK_COEF 2)).toNat * vptFactor (s.rd R.CK_STATUS_vpoint) else 0]
    ++ (List.range 7).map (fun i => rest.getD i 0 * 10000)

/-- The Chess Clock's record after an update. -/
def State.energyCk : CkState :=
  let raw := s.energyRaw bd ba rest
  { s.ck with
    acc := addLists 9 s.ck.acc (raw.zipIdx.map (fun p => p.1 * s.trim (railOf p.2)))
    raw := addLists 4 s.ck.raw ((List.range 4).map (fun k => ((raw.zipIdx.filter (fun p => railOf p.2 = k)).map Prod.fst).sum))
    meas := addLists 4 s.ck.meas rails }

/-- Counted energy in µJ, as the counters show it. -/
def microjoules (x : Nat) : Nat := x / (10000 * 4096 * 1000000) % 2 ^ 48

/-- The regions' counters show the record. -/
def State.energyShown : State :=
  let x := s.energyCk bd ba rest rails
  ((State.fold { s with ck := x } (List.range 9) fun t r => t.wq (R.CK_E r) (microjoules (x.acc.getD r 0))).wq (R.CK_E 9)
    (microjoules x.acc.sum))

theorem energyShown_frame : (s.energyShown bd ba rest rails).ck = s.energyCk bd ba rest rails
    ∧ (s.energyShown bd ba rest rails).mem = s.mem ∧ (s.energyShown bd ba rest rails).out = s.out := by
  unfold State.energyShown
  generalize s.energyCk bd ba rest rails = x
  obtain ⟨hck, hmem, hout⟩ := fold_wq_frame (A := R.CK_E) (fun _ r => microjoules (x.acc.getD r 0)) (List.range 9)
    { s with ck := x }
  exact ⟨(State.wq_ck ..).trans hck, (State.wq_mem ..).trans hmem, (State.wq_out ..).trans hout⟩

theorem microjoules_mod (x : Nat) : microjoules x % 2 ^ 64 = microjoules x :=
  Nat.mod_eq_of_lt ((Nat.mod_lt _ (by decide)).trans (by decide))

theorem rq_energyShown {r : Nat} (h : r < 9) : (s.energyShown bd ba rest rails).rq (R.CK_E r)
    = microjoules ((s.energyCk bd ba rest rails).acc.getD r 0) := by
  obtain ⟨h1, h2, h3⟩ := ckE_apart r 9 (by omega)
  have hfold := rq_fold_wq_mem (fun _ r => microjoules ((s.energyCk bd ba rest rails).acc.getD r 0)) ckE_apart (List.range 9)
    List.nodup_range { s with ck := s.energyCk bd ba rest rails } (List.mem_range.mpr h)
  rw [microjoules_mod] at hfold
  exact (State.rq_wq_ne _ _ h1 h2 h3).trans hfold

theorem rq_energyShown_total : (s.energyShown bd ba rest rails).rq (R.CK_E 9)
    = microjoules (s.energyCk bd ba rest rails).acc.sum :=
  (State.rq_wq_same _ _ _).trans (microjoules_mod _)

theorem rq_energyShown_rail (k : Nat) : (s.energyShown bd ba rest rails).rq (R.CK_RAIL k) = s.rq (R.CK_RAIL k) := by
  have happart : ∀ r < 10, pairsApart (R.CK_RAIL k) (R.CK_E r) := by
    intro r hr
    simp only [pairsApart, R.CK_RAIL, R.CK_E]
    omega
  obtain ⟨h1, h2, h3⟩ := happart 9 (by decide)
  refine (State.rq_wq_ne _ _ h1 h2 h3).trans ?_
  exact rq_fold_wq_ne (fun _ r => microjoules ((s.energyCk bd ba rest rails).acc.getD r 0)) _
    (fun r hr => happart r ((List.mem_range.mp hr).trans (by decide))) _

theorem energyUpdate_eq : s.energyUpdate bd ba rest rails = (s.energyShown bd ba rest rails).fold (List.range 4)
    (fun t k => t.wq (R.CK_RAIL k) ((t.rq (R.CK_RAIL k) + rails.getD k 0) % 2 ^ 48)) := rfl


theorem energyUpdate_frame : (s.energyUpdate bd ba rest rails).ck = s.energyCk bd ba rest rails
    ∧ (s.energyUpdate bd ba rest rails).mem = s.mem ∧ (s.energyUpdate bd ba rest rails).out = s.out := by
  obtain ⟨hck, hmem, hout⟩ := fold_wq_frame (A := R.CK_RAIL) (fun x k => (x + rails.getD k 0) % 2 ^ 48) (List.range 4)
    (s.energyShown bd ba rest rails)
  obtain ⟨hck', hmem', hout'⟩ := energyShown_frame s bd ba rest rails
  rw [energyUpdate_eq]
  exact ⟨hck.trans hck', hmem.trans hmem', hout.trans hout'⟩

theorem rq_energyUpdate_rail {k : Nat} (h : k < 4) : (s.energyUpdate bd ba rest rails).rq (R.CK_RAIL k)
    = (s.rq (R.CK_RAIL k) + rails.getD k 0) % 2 ^ 48 := by
  have hfold := rq_fold_wq_mem (fun x k => (x + rails.getD k 0) % 2 ^ 48) ckRail_apart (List.range 4) List.nodup_range
    (s.energyShown bd ba rest rails) (List.mem_range.mpr h)
  have hsmall : (s.rq (R.CK_RAIL k) + rails.getD k 0) % 2 ^ 48 < 2 ^ 64 := (Nat.mod_lt _ (by decide)).trans (by decide)
  rw [rq_energyShown_rail, Nat.mod_eq_of_lt hsmall] at hfold
  rw [energyUpdate_eq]
  exact hfold

theorem rq_energyUpdate_region {r : Nat} (h : r ≤ 9) :
    (s.energyUpdate bd ba rest rails).rq (R.CK_E r) = (s.energyShown bd ba rest rails).rq (R.CK_E r) := by
  rw [energyUpdate_eq]
  refine rq_fold_wq_ne (fun x k => (x + rails.getD k 0) % 2 ^ 48) _ (fun k _ => ?_) _
  simp only [pairsApart, R.CK_RAIL, R.CK_E]
  omega

/-- The Board's steps are charged at its coefficient, the point's factor and the first rail's trim. -/
theorem energyCk_board : (s.energyCk bd ba rest rails).acc.getD 0 0 = s.ck.acc.getD 0 0
    + bd * (s.word (R.CK_COEF 1)).toNat * vptFactor (s.rd R.CK_STATUS_vpoint) * s.rd (R.CK_TRIM_f 0) := by
  have hfirst : ∀ (x y : Nat) (l : List Nat) (f : Nat × Nat → Nat), ((([x, y] ++ l).zipIdx).map f).getD 0 0 = f (x, 0) :=
    fun _ _ _ _ => rfl
  refine (getD_addLists _ _ (by decide)).trans (congrArg _ ?_)
  unfold State.energyRaw
  rw [hfirst]
  rfl

end

/-! ## Pace (R272) and Endgame (R275) -/

section
variable {s : State}

theorem planAdmit_open {n : Nat} (hr : n + 1 < s.rnd) (hp : s.planOf n = none) (hb : s.ck.next ≤ n ∨ s.roundBusy n = true)
    (hcs : s.csState ≠ 2) : s.planAdmit n = s.admitOwn n := by
  have hround : ¬s.rnd ≤ n + 1 := by omega
  have hwork : ¬(n < s.ck.next ∧ (!s.roundBusy n) = true) := by
    rintro ⟨hlt, hidle⟩
    rcases hb with h | h
    · omega
    · simp [h] at hidle
  exact if_neg (by simp only [hp, Option.isSome_none, Bool.false_eq_true]; tauto)

/-- A check of pace of a round in progress shows its ratio, and raises the point when that is below 1 and can rise. -/
theorem paceCheck_shown {n t0 steps : Nat} {p : Plan} (hw : s.ck.work = some (n, t0)) (hp : s.planOf n = some p) :
    s.paceCheck steps =
      (let full : Rat := (max p.nBd p.nBa : Nat)
       let due := if s.roundDur = 0 then full else min full (full / s.roundDur * (((s.nowNs - t0 : Nat) : Rat) / 1000000000))
       let ratio := if due ≤ 0 then 65535 else min 65535 (((steps * 1000 : Nat) : Rat) / due).floor.toNat
       let t := s.wr R.CK_PACE_pace ratio
       let v := t.rd R.CK_STATUS_vpoint
       if ratio < 1000 ∧ v < 15 then ((t.setPoint (v + 1)).flag R.CK_STATUS_raised).inc (R.CK_CNT 2) else t) := by
  unfold State.paceCheck
  simp only [hw, hp]

theorem vpoint_wr_pace (s : State) (v : Nat) : (s.wr R.CK_PACE_pace v).rd R.CK_STATUS_vpoint = s.rd R.CK_STATUS_vpoint :=
  State.rd_wr_ne _ _ (by decide)

theorem endgameEnter_caused (hc : s.rd R.CK_STATUS_eg_cause ≠ 0) (h0 : s.ck.eg = 0) :
    s.endgameEnter = (let h := s.haltAll
      (((State.setPoint { h with ck := { h.ck with eg := 1, fit := 0 } } 0).inc (R.CK_CNT 4)).fire 92).auCheck) :=
  if_neg (by simp [hc, h0])

end

/-! ## What the start of an admission leaves alone -/

/-- The castling state, Endgame with its request, and the causes are as before. -/
structure AdmissionKept (s t : State) : Prop where
  castling : t.csState = s.csState
  endgame : t.ck.eg = s.ck.eg
  request : t.ck.egReq = s.ck.egReq
  causes : t.rd R.CK_STATUS_eg_cause = s.rd R.CK_STATUS_eg_cause

theorem AdmissionKept.refl (s : State) : AdmissionKept s s := ⟨rfl, rfl, rfl, rfl⟩

theorem AdmissionKept.trans {s t u : State} (h : AdmissionKept s t) (h' : AdmissionKept t u) : AdmissionKept s u :=
  ⟨h'.castling.trans h.castling, h'.endgame.trans h.endgame, h'.request.trans h.request, h'.causes.trans h.causes⟩

theorem AdmissionKept.of_csr {s t : State} (hc : t.csr = s.csr) (he : t.ck.eg = s.ck.eg) (hr : t.ck.egReq = s.ck.egReq) :
    AdmissionKept s t :=
  ⟨State.rd_of_csr hc _, he, hr, State.rd_of_csr hc _⟩

theorem AdmissionKept.setCk {s t : State} (h : AdmissionKept s t) (x : CkState) (he : x.eg = t.ck.eg) (hr : x.egReq = t.ck.egReq) :
    AdmissionKept s { t with ck := x } :=
  h.trans (.of_csr rfl he hr)

section
variable (s : State)

theorem AdmissionKept.wr {f : FRef} (v : Nat) (hs : R.CS_STATUS ≠ f.a) (hf : f.lo + f.w ≤ 32) (hc : f.apart R.CK_STATUS_eg_cause) :
    AdmissionKept s (s.wr f v) := by
  refine ⟨State.rd_wr_ne _ _ hs, rfl, rfl, ?_⟩
  by_cases ha : R.CK_STATUS_eg_cause.a = f.a
  · exact State.rd_wr_disjoint _ _ hf ha (hc.resolve_left (not_not_intro ha))
  · exact State.rd_wr_ne _ _ ha

theorem AdmissionKept.when {c : Bool} {f : State → State} (h : AdmissionKept s (f s)) : AdmissionKept s (s.when c f) := by
  cases c
  · exact .refl s
  · exact h

theorem AdmissionKept.fire (e : Nat) : AdmissionKept s (s.fire e) := .of_csr rfl rfl rfl

theorem AdmissionKept.health (x u v d n : Nat) : AdmissionKept s (s.health x u v d n) := .of_csr rfl rfl rfl

theorem noteCap_admissionKept : AdmissionKept s s.noteCap := by
  unfold State.noteCap
  exact (AdmissionKept.wr s (f := R.CK_STATUS_therm) _ (by decide) (by decide) (by decide)).trans (.when _ (.fire _ _))

theorem takeSettings_admissionKept : AdmissionKept s s.takeSettings := by
  have hset := (AdmissionKept.refl s).setCk { s.ck with
    set := ⟨s.rd R.CK_CAP_cap, s.rd R.CK_THERM_thr_c, s.rd R.CK_THERM_step_w, s.rd R.CK_THERM_rec_w⟩ } rfl rfl
  exact hset.trans (noteCap_admissionKept _)

theorem trim_place (k : Nat) : R.CS_STATUS ≠ (R.CK_TRIM_f k).a ∧ (R.CK_TRIM_f k).apart R.CK_STATUS_eg_cause := by
  have h : R.CS_STATUS < (R.CK_TRIM_f k).a ∧ R.CK_STATUS_eg_cause.a < (R.CK_TRIM_f k).a := by
    simp only [R.CK_TRIM_f, R.CK_TRIM, R.CS_STATUS, R.CK_STATUS_eg_cause, R.CK_STATUS]
    omega
  exact ⟨Nat.ne_of_lt h.1, .inl (Nat.ne_of_lt h.2)⟩

theorem trimRail_admissionKept (n k : Nat) : AdmissionKept s (s.trimRail n k) := by
  obtain ⟨hs, hc⟩ := trim_place k
  unfold State.trimRail
  dsimp only
  split
  · exact .refl s
  · have htrim := fun v => AdmissionKept.wr s (f := R.CK_TRIM_f k) v hs (show 0 + 16 ≤ 32 by decide) hc
    refine .trans ?_ (.when _ (.health _ _ _ _ _ _))
    exact (htrim _).setCk _ rfl rfl

theorem updateKrate_admissionKept (n : Nat) : AdmissionKept s (s.updateKrate n) := by
  unfold State.updateKrate
  split
  · exact .refl s
  · dsimp only
    split
    · exact .refl s
    · split
      · exact .refl s
      · exact .wr s _ (by decide) (by decide) (by decide)

theorem admitStart_kept (n : Nat) : AdmissionKept s (s.admitStart n) := by
  have hfold : AdmissionKept s.takeSettings (s.takeSettings.fold (List.range 4) fun s k => s.trimRail n k) :=
    foldl_keeps (P := AdmissionKept s.takeSettings) (fun t k h => h.trans (trimRail_admissionKept t n k)) _ (.refl _)
  have hrate := ((takeSettings_admissionKept s).trans hfold).trans (updateKrate_admissionKept _ n)
  unfold State.admitStart
  dsimp only
  generalize State.updateKrate (s.takeSettings.fold (List.range 4) fun s k => s.trimRail n k) n = t at hrate ⊢
  exact hrate.setCk _ rfl rfl

end

/-! ## The plan that an admission takes (R270, R271) -/

section
variable {s : State}

theorem planOf_of_plans {t : State} (h : t.ck.plans = s.ck.plans) (n : Nat) : t.planOf n = s.planOf n := by
  simp only [State.planOf, h]

theorem shedRound_ck (n g : Nat) : (s.shedRound n g).ck = s.ck := by
  unfold State.shedRound
  split <;> rfl

theorem setPoint_plans (v : Nat) : (s.setPoint v).ck.plans = s.ck.plans := by
  unfold State.setPoint
  split <;> rfl

theorem when_plans (c : Bool) (f : State → State) (h : (f s).ck.plans = s.ck.plans) : (s.when c f).ck.plans = s.ck.plans := by
  cases c
  · rfl
  · exact h

theorem castSend_ck (msg : Nat) (b : Bytes) : (s.castSend msg b).ck = s.ck := ck_of_blank (castSend_offCast s msg b) (by decide)

theorem allowanceReport_plans (n : Nat) (a : Rat) : (s.allowanceReport n a).ck.plans = s.ck.plans := by
  unfold State.allowanceReport
  split
  · rfl
  · rw [castSend_ck]

theorem countL4_plans (lvl : Nat) : (s.countL4 lvl).ck.plans = s.ck.plans := by
  unfold State.countL4
  split
  · rfl
  · exact when_plans _ _ rfl

/-- A plan that takes effect is the plan of its round. -/
theorem planOf_takePlan (p : Plan) : (s.takePlan p).planOf p.round = some p := by
  have hplans : (s.takePlan p).ck.plans = ((s.ck.plans.filter (fun q => q.round ≠ p.round)).filter s.planNeeded) ++ [p] := by
    unfold State.takePlan
    dsimp only
    refine (when_plans _ _ rfl).trans ((when_plans _ _ rfl).trans ((when_plans _ _ ?_).trans (when_plans _ _ ?_)))
    · rw [setPoint_plans]
      rfl
    · exact foldl_keeps (P := fun t : State => t.ck.plans = _) (fun t g h => by rw [shedRound_ck, h]) _ rfl
  have hother : ((s.ck.plans.filter (fun q => q.round ≠ p.round)).filter s.planNeeded).find? (fun q => q.round = p.round) = none := by
    rw [List.find?_eq_none]
    intro q hq
    simpa using List.of_mem_filter (List.mem_of_mem_filter hq)
  simp only [State.planOf, hplans, List.find?_append, hother, List.find?_cons, decide_true, Option.none_or]

theorem planOf_reported (t : State) (m n : Nat) (b : Bytes) (a : Rat) :
    State.planOf (if t.isActive = true then t.castSend 5 b else t.allowanceReport n a) m = t.planOf m := by
  split
  · exact planOf_of_plans (congrArg CkState.plans (castSend_ck 5 b)) m
  · exact planOf_of_plans (allowanceReport_plans n a) m

theorem planOf_counted (t : State) (m lvl : Nat) :
    ((t.when false fun x => x.inc (R.CK_CNT 5)).when true fun x => x.countL4 lvl).planOf m = t.planOf m :=
  (planOf_of_plans (when_plans true _ (countL4_plans lvl)) m).trans
    (planOf_of_plans (when_plans false _ (congrArg CkState.plans (State.inc_ck ..))) m)

/-- The level and point of the lowest level that fits an allowance. -/
def State.fitting (u : State) (n : Nat) (a : Rat) : Option (Nat × Nat) :=
  (List.range 4).findSome? (fun lvl => (u.levelFits n lvl a).map (fun v => (lvl, v)))

/-- The plan that an admission makes of what fits. -/
def State.planFor (u : State) (n : Nat) (pick : Option (Nat × Nat)) : Plan :=
  let a := u.allowance.1
  let pf := if u.allowance.2 < 0 then 4 else 0
  match pick with
  | some (lvl, v) => u.mkPlan n lvl v pf (u.levelSet n lvl) a
  | none => u.mkPlan n 4 0 pf ([], 0) a

theorem round_planFor (u : State) (n : Nat) (pick : Option (Nat × Nat)) : (u.planFor n pick).round = n := by
  cases pick <;> rfl

/-- An admission outside Endgame by a unit with no peer to follow takes the unit's own plan. -/
theorem planOf_admitOwn {n : Nat} {u : State} {pick : Option (Nat × Nat)} (hu : s.admitStart n = u) (hact : u.isActive = false)
    (heg : u.ck.eg = 0) (hreq : u.ck.egReq = none) (h0 : u.cause 0 = false) (h4 : u.cause 4 = false)
    (hpick : (if u.roundDur = 0 then none else u.fitting n u.allowance.1) = pick) :
    (s.admitOwn n).planOf n = some (u.planFor n pick) := by
  have htake : ∀ t : State, (t.takePlan (u.planFor n pick)).planOf n = some (u.planFor n pick) := by
    intro t
    have h := planOf_takePlan (s := t) (u.planFor n pick)
    rwa [round_planFor] at h
  unfold State.fitting at hpick
  unfold State.admitOwn State.admitBy
  simp only [hu, hact, heg, hreq, h0, h4, Bool.false_eq_true, if_false, bne_self_eq_false, Bool.or_false, Bool.false_or,
    Nat.zero_add, Bool.not_false, Nat.add_zero, decide_eq_true_eq, hpick, planOf_reported, planOf_counted]
  cases pick with
  | none => exact htake _
  | some x => exact htake _

theorem fitting_lowest {u : State} {n lvl v : Nat} {a : Rat} (hl : lvl < 4) (hv : u.levelFits n lvl a = some v)
    (hno : ∀ l < lvl, u.levelFits n l a = none) : u.fitting n a = some (lvl, v) := by
  unfold State.fitting
  have hrange : ∀ l < 4, List.range 4 = List.range l ++ l :: List.range' (l + 1) (3 - l) := by decide
  rw [List.findSome?_eq_some_iff]
  refine ⟨List.range lvl, lvl, List.range' (lvl + 1) (3 - lvl), hrange lvl hl, by rw [hv]; rfl, ?_⟩
  intro l hl'
  rw [hno l (List.mem_range.mp hl')]
  rfl

theorem fitting_none {u : State} {n : Nat} {a : Rat} (hno : ∀ l < 4, u.levelFits n l a = none) : u.fitting n a = none := by
  unfold State.fitting
  rw [List.findSome?_eq_none_iff]
  intro l hl
  rw [hno l (List.mem_range.mp hl)]
  rfl

theorem cause_of_rd {t : State} (h : t.rd R.CK_STATUS_eg_cause = s.rd R.CK_STATUS_eg_cause) (i : Nat) : t.cause i = s.cause i := by
  simp only [State.cause, h]

end

/-- Settles O30: each command by its branch; an admission by what its start leaves alone and what then fits. -/
theorem energyPlanned : Obligations.EnergyPlanned := by
  refine ⟨fun s hoff => ⟨fun n hr hp hb hcs => ?_, fun bd ba rest rails => ?_, fun n t0 steps p hw hp => ?_, ?_, fun hc h0 => ?_,
    fun hc h2 => ?_, fun htj => ?_⟩, fun s n hact heg hreq h0 h4 => ?_⟩
  · apply State.does_eq hoff
    exact planAdmit_open hr hp hb hcs
  · obtain ⟨hck, hmem, hout⟩ := energyUpdate_frame s bd ba rest rails
    refine ⟨s.energyUpdate bd ba rest rails, s.does_on hoff fun s => s.energyUpdate bd ba rest rails,
      fun k hk => rq_energyUpdate_rail s bd ba rest rails hk, by rw [hck]; rfl, ?_, fun r hr => ?_, ?_, hmem, hout⟩
    · rw [hck]
      exact energyCk_board s bd ba rest rails
    · rw [hck]
      exact (rq_energyUpdate_region s bd ba rest rails (by omega)).trans (rq_energyShown s bd ba rest rails hr)
    · rw [hck]
      exact (rq_energyUpdate_region s bd ba rest rails (by decide)).trans (rq_energyShown_total s bd ba rest rails)
  · have hpace := paceCheck_shown (steps := steps) hw hp
    intro full due ratio t v
    have hv : t.rd R.CK_STATUS_vpoint = v := vpoint_wr_pace s ratio
    refine ⟨fun hstay => ?_, fun hlow hroom => ?_⟩ <;> apply State.does_eq hoff <;> refine hpace.trans ?_
    · refine if_neg ?_
      rintro ⟨hlow, hroom⟩
      exact hstay.elim (Nat.not_le.mpr hlow) (Nat.not_le.mpr (hv ▸ hroom))
    · refine (if_pos ⟨hlow, hv.symm ▸ hroom⟩).trans ?_
      rw [hv]
  · exact s.does_on hoff fun s => s.settlePoint
  · apply State.does_eq hoff
    exact endgameEnter_caused hc h0
  · apply State.does_eq hoff
    exact if_pos ⟨h2, hc⟩
  · apply State.does_eq hoff
    exact if_pos htj
  · intro u a pf
    have hkept := admitStart_kept s n
    have hact' : u.isActive = false := by
      have hcs : u.csState = s.csState := hkept.castling
      rw [← hact]
      simp only [State.isActive, hcs]
    have hplan := fun pick => planOf_admitOwn (pick := pick) (u := u) rfl hact' (hkept.endgame.trans heg) (hkept.request.trans hreq)
      ((cause_of_rd hkept.causes 0).trans h0) ((cause_of_rd hkept.causes 4).trans h4)
    refine ⟨fun lvl v hd hl hv hno => ?_, fun hno => ?_⟩
    · exact hplan (some (lvl, v)) ((if_neg hd).trans (fitting_lowest hl hv hno))
    · refine hplan none ?_
      rcases hno with h | h
      · exact if_pos h
      · rw [fitting_none h, ite_self]

end Sys2Proof.Machine
end

section
/-! One instruction of a core: what its registers read, and what executing an instruction leaves (R323 to R330). -/

namespace Sys2Proof.Machine

/-! ## A core's registers -/

section
variable (s : State) (n : Nat)

@[simp] theorem core_setCore (c : SpCore) : (s.setCore n c).core n = c := smapGet_set_same _ _ _ _

theorem spGet_eq (i : Nat) : s.spGet n i = smapGet 0 (s.core n).reg (i + 64 * s.rd (R.SP_STAT_bank n)) := rfl

/-- A core whose registers and bank are those of another reads the same. -/
theorem spGet_congr {s t : State} (hreg : (t.core n).reg = (s.core n).reg)
    (hbank : t.rd (R.SP_STAT_bank n) = s.rd (R.SP_STAT_bank n)) (i : Nat) : t.spGet n i = s.spGet n i := by
  rw [spGet_eq, spGet_eq, hreg, hbank]

/-- The registers after one of the bank in use has been given a value. -/
theorem spGet_put {s t : State} {j v : Nat} (hreg : (t.core n).reg = smapSet 0 (s.core n).reg (s.spReg n j) v)
    (hbank : t.rd (R.SP_STAT_bank n) = s.rd (R.SP_STAT_bank n)) (i : Nat) :
    t.spGet n i = if i = j then v else s.spGet n i := by
  rw [spGet_eq, hreg, hbank]
  split
  · next h =>
    subst h
    exact smapGet_set_same _ _ _ _
  · next h =>
    refine smapGet_set_ne _ _ _ _ fun e => h ?_
    unfold State.spReg at e
    omega

@[simp] theorem spGet_spSet (i j v : Nat) : (s.spSet n j v).spGet n i = if i = j then v else s.spGet n i := by
  apply spGet_put
  · exact congrArg SpCore.reg (core_setCore s n _)
  · rfl

@[simp] theorem spGet_spLate (i view slots j v : Nat) :
    (s.spLate n view slots j v).spGet n i = if i = j then v else s.spGet n i := by
  apply spGet_put
  · exact congrArg SpCore.reg (core_setCore s n _)
  · rfl

@[simp] theorem spGet_spStatusSet (i v : Nat) : (s.spStatusSet n v).spGet n i = if i = 41 then v else s.spGet n i := by
  apply spGet_put
  · exact congrArg SpCore.reg (core_setCore s n _)
  · rfl

@[simp] theorem spGet_spFlags (i : Nat) (acc v z neg c : Bool) : (s.spFlags n acc v z neg c).spGet n i
    = if i = 41 then flagWord (s.spGet n 41) acc v z neg c else s.spGet n i := spGet_spStatusSet s n i _

@[simp] theorem spGet_spFlagsLate (i : Nat) (v z neg c : Bool) : (s.spFlagsLate n v z neg c).spGet n i
    = if i = 41 then flagWord (s.spGet n 41) true v z neg c else s.spGet n i := spGet_spLate s n i _ _ _ _

@[simp] theorem spGet_tick (i : Nat) : s.tick.spGet n i = s.spGet n i := rfl

@[simp] theorem spGet_setSpWord (i k w v : Nat) : (s.setSpWord k w v).spGet n i = s.spGet n i := rfl

end

/-! ## What an instruction that only writes registers leaves alone -/

/-- The CSRs, HBM and the branch of core n are as before. -/
structure RegsOnly (s u : State) (n : Nat) : Prop where
  csr : u.csr = s.csr
  mem : u.mem = s.mem
  br : (u.core n).br = (s.core n).br

section
variable {s t u : State} {n : Nat}

theorem RegsOnly.refl (s : State) (n : Nat) : RegsOnly s s n := ⟨rfl, rfl, rfl⟩

theorem RegsOnly.trans (h : RegsOnly s t n) (h' : RegsOnly t u n) : RegsOnly s u n :=
  ⟨h'.csr.trans h.csr, h'.mem.trans h.mem, h'.br.trans h.br⟩

theorem RegsOnly.setCore (h : RegsOnly s t n) {c : SpCore} (hc : c.br = (t.core n).br) : RegsOnly s (t.setCore n c) n :=
  h.trans ⟨rfl, rfl, by rw [core_setCore, hc]⟩

theorem RegsOnly.tick (h : RegsOnly s t n) : RegsOnly s t.tick n := h.trans ⟨rfl, rfl, rfl⟩

theorem RegsOnly.setSpWord (h : RegsOnly s t n) (w v : Nat) : RegsOnly s (t.setSpWord n w v) n := h.trans ⟨rfl, rfl, rfl⟩

theorem RegsOnly.spSet (h : RegsOnly s t n) (i v : Nat) : RegsOnly s (t.spSet n i v) n := h.setCore rfl

theorem RegsOnly.spLate (h : RegsOnly s t n) (view slots i v : Nat) : RegsOnly s (t.spLate n view slots i v) n := h.setCore rfl

theorem RegsOnly.spStatusSet (h : RegsOnly s t n) (v : Nat) : RegsOnly s (t.spStatusSet n v) n := h.setCore rfl

theorem RegsOnly.spFlags (h : RegsOnly s t n) (acc v z neg c : Bool) : RegsOnly s (t.spFlags n acc v z neg c) n :=
  h.spStatusSet _

theorem RegsOnly.spFlagsLate (h : RegsOnly s t n) (v z neg c : Bool) : RegsOnly s (t.spFlagsLate n v z neg c) n :=
  h.spLate _ _ _ _

theorem RegsOnly.spBump (h : RegsOnly s t n) (o : AspMem) (p : Option Nat) : RegsOnly s (t.spBump n o p) n := by
  cases p with
  | none => exact h
  | some v => exact h.spSet _ _

end

/-! ## Executing an instruction -/

/-- An instruction has executed. -/
def State.spDone (u : State) (n : Nat) : State := (u.spTicked n).spAdvance n

section
variable {s u : State} {n : Nat} {ctl : Bool} {i : Instr} {body : AspBody}

theorem aspExec_turn (h : s.aspReady n) : s.aspExec n ctl i body = aspTurns body i n false 1 0 none s := by
  obtain ⟨-, hruns, hbr, hrpt⟩ := h
  simp [State.aspExec, hruns, hbr, hrpt]

theorem aspExec_done (h : s.aspReady n) (hb : body s none 0 = .done u) : s.aspExec n ctl i body = u.spDone n := by
  rw [aspExec_turn h, aspTurns, hb]
  rfl

theorem aspExec_waits (h : s.aspReady n) (hb : body s none 0 = .wait) : s.aspExec n ctl i body = s := by
  rw [aspExec_turn h, aspTurns, hb]
  rfl

theorem aspExec_extern {w : Bool} {a d : Nat} (h : s.aspReady n) (hb : body s none 0 = .extern w a d) :
    s.aspExec n ctl i body = s.setCore n { s.core n with ext := some ⟨w, a, d, i⟩ } := by
  rw [aspExec_turn h, aspTurns, hb]
  rfl

end

/-! ## The boundary behind an instruction (R329) -/

/-- The parts of a core that a boundary leaves alone. -/
def SpCore.inner (c : SpCore) : SpCore :=
  { c with stepping := false, stopReq := false, susReq := false, inQ := [], outQ := [], hdrNew := [] }

section
variable (s : State) (n : Nat)

@[simp] theorem core_wr (f : FRef) (v : Nat) : (s.wr f v).core n = s.core n := rfl

@[simp] theorem core_inc (a : Nat) : (s.inc a).core n = s.core n := rfl

theorem spEmpty_inner : ((s.spEmpty n).core n).inner = (s.core n).inner := by
  unfold State.spEmpty
  rw [core_setCore]
  rfl

theorem spBoundary_inner : ((s.spBoundary n).core n).inner = (s.core n).inner := by
  unfold State.spBoundary
  dsimp only
  split
  · rfl
  split
  · rw [core_setCore]
    rfl
  split
  · rw [core_wr, core_setCore]
    rfl
  split
  · rw [spEmpty_inner, core_wr, core_setCore]
    rfl
  · rfl

/-- The registers a boundary leaves: the core's state may have changed. -/
theorem spBoundary_csr : (s.spBoundary n).csr = s.csr ∨ ∃ v, (s.spBoundary n).csr = (s.wr (R.SP_STAT_state n) v).csr := by
  unfold State.spBoundary
  dsimp only
  split
  · exact .inl rfl
  split
  · exact .inl rfl
  split
  · exact .inr ⟨1, rfl⟩
  split
  · exact .inr ⟨5, rfl⟩
  · exact .inl rfl

/-- A boundary changes no register but the core's state. -/
theorem spBoundary_word {a : Nat} (h : a ≠ R.SP_STAT n) : (s.spBoundary n).word a = s.word a := by
  obtain he | ⟨v, he⟩ := spBoundary_csr s n
  · exact State.word_of_csr he a
  · rw [State.word_of_csr he a]
    exact s.word_wr_ne (f := R.SP_STAT_state n) v h

/-- The state of a core and its bank are fields of one register. -/
theorem bank_wr_state (v : Nat) : (s.wr (R.SP_STAT_state n) v).rd (R.SP_STAT_bank n) = s.rd (R.SP_STAT_bank n) := by
  apply State.rd_wr_disjoint
  · exact show 0 + 3 ≤ 32 by decide
  · rfl
  · exact .inr (show 0 + 3 ≤ 3 by decide)

theorem spBoundary_bank : (s.spBoundary n).rd (R.SP_STAT_bank n) = s.rd (R.SP_STAT_bank n) := by
  obtain he | ⟨v, he⟩ := spBoundary_csr s n
  · exact State.rd_of_csr he _
  · rw [State.rd_of_csr he]
    exact bank_wr_state s n v

theorem spBoundary_other : (s.spBoundary n).mem = s.mem ∧ (s.spBoundary n).sp.mem = s.sp.mem ∧ (s.spBoundary n).evq = s.evq := by
  unfold State.spBoundary
  dsimp only
  split
  · exact ⟨rfl, rfl, rfl⟩
  split
  · exact ⟨rfl, rfl, rfl⟩
  split
  · exact ⟨rfl, rfl, rfl⟩
  split <;> exact ⟨rfl, rfl, rfl⟩

/-- Nothing asked for, a boundary changes nothing. -/
theorem spBoundary_calm (hstep : (s.core n).stepping = false) (hstop : (s.core n).stopReq = false)
    (hsus : (s.core n).susReq = false) : s.spBoundary n = s := by
  unfold State.spBoundary
  simp only [hstep, hstop, hsus, Bool.false_eq_true, if_false, ite_self]

end

/-! ## What an instruction that has executed leaves -/

/-- An instruction has run in u, and t is behind its boundary: the program counter and the count have gone on, a branch is one
delay slot nearer. -/
structure Stepped (u t : State) (n : Nat) : Prop where
  reg : (t.core n).reg = (u.core n).reg
  stack : (t.core n).stack = (u.core n).stack
  rpt : (t.core n).rpt = (u.core n).rpt
  br : (t.core n).br = (u.core n).br.map (fun b => { b with left := b.left - 1 })
  bank : t.rd (R.SP_STAT_bank n) = u.rd (R.SP_STAT_bank n)
  word : ∀ a, a ≠ R.SP_STAT n → a ≠ R.SP_PC n → a ≠ R.SP_CNT n 0 → t.word a = u.word a
  pc : t.rd (R.SP_PC_pc n) = (u.rd (R.SP_PC_pc n) + 1) % 32768
  count : (t.word (R.SP_CNT n 0)).toNat = min ((u.word (R.SP_CNT n 0)).toNat + 1) 0xFFFFFFFF
  mem : t.mem = u.mem
  words : t.sp.mem = u.sp.mem
  evq : t.evq = u.evq

theorem spPc_ne_count (n : Nat) : R.SP_PC n ≠ R.SP_CNT n 0 := by
  unfold R.SP_PC R.SP_CNT
  omega

theorem spStat_ne_count (n : Nat) : R.SP_STAT n ≠ R.SP_CNT n 0 := by
  unfold R.SP_STAT R.SP_CNT
  omega

theorem spStat_ne_pc (n : Nat) : R.SP_STAT n ≠ R.SP_PC n := by
  unfold R.SP_STAT R.SP_PC
  omega

/-- The registers once an instruction is counted and the program counter has moved. -/
structure Counted (u w : State) (n : Nat) : Prop where
  csr : w.csr = ((u.inc (R.SP_CNT n 0)).wr (R.SP_PC_pc n) ((u.rd (R.SP_PC_pc n) + 1) % 32768)).csr
  reg : (w.core n).reg = (u.core n).reg
  stack : (w.core n).stack = (u.core n).stack
  rpt : (w.core n).rpt = (u.core n).rpt
  br : (w.core n).br = (u.core n).br.map (fun b => { b with left := b.left - 1 })
  asked : (w.core n).stepping = (u.core n).stepping ∧ (w.core n).stopReq = (u.core n).stopReq
    ∧ (w.core n).susReq = (u.core n).susReq
  mem : w.mem = u.mem
  words : w.sp.mem = u.sp.mem
  evq : w.evq = u.evq

section
variable {s u w t : State} {n : Nat}

theorem Counted.word (h : Counted u w n) {a : Nat} (hp : a ≠ R.SP_PC n) (hc : a ≠ R.SP_CNT n 0) : w.word a = u.word a := by
  rw [State.word_of_csr h.csr, State.word_wr_ne (f := R.SP_PC_pc n) _ _ hp]
  exact State.word_incBy_ne _ 1 hc

theorem Counted.stat (h : Counted u w n) : w.word (R.SP_STAT n) = u.word (R.SP_STAT n) :=
  h.word (spStat_ne_pc n) (spStat_ne_count n)

theorem Counted.pc (h : Counted u w n) : w.rd (R.SP_PC_pc n) = (u.rd (R.SP_PC_pc n) + 1) % 32768 := by
  rw [State.rd_of_csr h.csr, State.rd_wr_same _ _ _ (show 0 + 15 ≤ 32 by decide)]
  exact Nat.mod_mod _ _

theorem Counted.count (h : Counted u w n) : (w.word (R.SP_CNT n 0)).toNat = min ((u.word (R.SP_CNT n 0)).toNat + 1) 0xFFFFFFFF := by
  rw [State.word_of_csr h.csr, State.word_wr_ne (f := R.SP_PC_pc n) _ _ (spPc_ne_count n).symm]
  exact State.word_incBy_same _ _ 1

theorem Counted.boundary (h : Counted u w n) : Stepped u (w.spBoundary n) n where
  reg := (congrArg SpCore.reg (spBoundary_inner w n)).trans h.reg
  stack := (congrArg SpCore.stack (spBoundary_inner w n)).trans h.stack
  rpt := (congrArg SpCore.rpt (spBoundary_inner w n)).trans h.rpt
  br := (congrArg SpCore.br (spBoundary_inner w n)).trans h.br
  bank := (spBoundary_bank w n).trans (congrArg (fun x : Word => getBits x.toNat 3 1) h.stat)
  word := fun _ hs hp hc => (spBoundary_word w n hs).trans (h.word hp hc)
  pc := (congrArg (fun x : Word => getBits x.toNat 0 15) (spBoundary_word w n (spStat_ne_pc n).symm)).trans h.pc
  count := (congrArg BitVec.toNat (spBoundary_word w n (spStat_ne_count n).symm)).trans h.count
  mem := (spBoundary_other w n).1.trans h.mem
  words := (spBoundary_other w n).2.1.trans h.words
  evq := (spBoundary_other w n).2.2.trans h.evq

theorem spTicked_core (u : State) (n : Nat) : ∃ l, (u.spTicked n).core n = { u.core n with late := l } :=
  ⟨_, core_setCore u n _⟩

/-- What a write of a field makes of the registers follows from the map of registers alone. -/
theorem State.wr_csr {s t : State} (h : t.csr = s.csr) (f : FRef) (v : Nat) : (t.wr f v).csr = (s.wr f v).csr := by
  have hw : t.word f.a = s.word f.a := State.word_of_csr h _
  unfold State.wr State.setWord
  rw [hw, h]

theorem spTicked_frame (u : State) (n : Nat) : (u.spTicked n).csr = (u.inc (R.SP_CNT n 0)).csr ∧ (u.spTicked n).mem = u.mem
    ∧ (u.spTicked n).sp.mem = u.sp.mem ∧ (u.spTicked n).evq = u.evq := ⟨rfl, rfl, rfl, rfl⟩

theorem spTicked_pc (u : State) (n : Nat) : (u.spTicked n).rd (R.SP_PC_pc n) = u.rd (R.SP_PC_pc n) :=
  State.rd_inc_ne _ (spPc_ne_count n)

theorem spAdvance_plain (h : (u.core n).br = none) :
    u.spAdvance n = (u.wr (R.SP_PC_pc n) ((u.rd (R.SP_PC_pc n) + 1) % 32768)).spBoundary n := by
  unfold State.spAdvance
  simp only [h]

theorem spAdvance_slot {b : AspBranch} (h : (u.core n).br = some b) (hl : 1 < b.left) :
    u.spAdvance n = ((u.setCore n { u.core n with br := some { b with left := b.left - 1 } }).wr (R.SP_PC_pc n)
      ((u.rd (R.SP_PC_pc n) + 1) % 32768)).spBoundary n := by
  unfold State.spAdvance
  simp only [h, if_pos hl]

/-- An instruction has executed, with no branch whose last delay slot it is. -/
theorem spDone_counted (hbr : ∀ b, (u.core n).br = some b → 1 < b.left) :
    ∃ w, u.spDone n = w.spBoundary n ∧ Counted u w n := by
  obtain ⟨l, hc⟩ := spTicked_core u n
  obtain ⟨hcsr, hmem, hwords, hevq⟩ := spTicked_frame u n
  have hbr' : ((u.spTicked n).core n).br = (u.core n).br := by rw [hc]
  cases hb : (u.core n).br with
  | none =>
    refine ⟨_, spAdvance_plain (hbr'.trans hb), ?_⟩
    rw [spTicked_pc]
    refine ⟨State.wr_csr hcsr _ _, ?_, ?_, ?_, ?_, ?_, hmem, hwords, hevq⟩
    all_goals rw [core_wr, hc]
    · rw [hb]
      rfl
    · exact ⟨rfl, rfl, rfl⟩
  | some b =>
    refine ⟨_, spAdvance_slot (hbr'.trans hb) (hbr b hb), ?_⟩
    rw [spTicked_pc]
    refine ⟨State.wr_csr hcsr _ _, ?_, ?_, ?_, ?_, ?_, hmem, hwords, hevq⟩
    all_goals rw [core_wr, core_setCore, hc]
    · rw [hb]
      rfl
    · exact ⟨rfl, rfl, rfl⟩

theorem spDone_steps (hbr : ∀ b, (u.core n).br = some b → 1 < b.left) : Stepped u (u.spDone n) n := by
  obtain ⟨w, he, hw⟩ := spDone_counted hbr
  rw [he]
  exact hw.boundary

/-- Nothing asked of the core, the boundary changes nothing. -/
theorem spDone_state (hbr : ∀ b, (u.core n).br = some b → 1 < b.left) (hstep : (u.core n).stepping = false)
    (hstop : (u.core n).stopReq = false) (hsus : (u.core n).susReq = false) : (u.spDone n).spState n = u.spState n := by
  obtain ⟨w, he, hw⟩ := spDone_counted hbr
  obtain ⟨hs, ht, hu⟩ := hw.asked
  rw [he, spBoundary_calm w n (hs.trans hstep) (ht.trans hstop) (hu.trans hsus)]
  exact congrArg (fun x : Word => getBits x.toNat 0 3) hw.stat

theorem Stepped.spGet (h : Stepped u t n) (i : Nat) : t.spGet n i = u.spGet n i := spGet_congr n h.reg h.bank i

theorem Stepped.went (h : Stepped u t n) (hpc : u.word (R.SP_PC n) = s.word (R.SP_PC n))
    (hcnt : u.word (R.SP_CNT n 0) = s.word (R.SP_CNT n 0)) (hmem : u.mem = s.mem) : s.aspWent t n :=
  ⟨h.pc.trans (congrArg (fun x : Word => (getBits x.toNat 0 15 + 1) % 32768) hpc),
    h.count.trans (congrArg (fun x : Word => min (x.toNat + 1) 0xFFFFFFFF) hcnt), h.mem.trans hmem⟩

theorem RegsOnly.went (h : RegsOnly s u n) (ht : Stepped u t n) : s.aspWent t n :=
  ht.went (State.word_of_csr h.csr _) (State.word_of_csr h.csr _) h.mem

/-- A core that is ready runs an instruction that only writes registers. -/
theorem aspExec_leaves {ctl : Bool} {i : Instr} {body : AspBody} (hr : s.aspReady n) (hb : body s none 0 = .done u)
    (hu : RegsOnly s u n) :
    ∃ t, s.does (fun s => s.aspExec n ctl i body) = .next t ∧ Stepped u t n ∧ s.aspWent t n := by
  have ht : Stepped u (u.spDone n) n := by
    refine spDone_steps fun b h => ?_
    rw [hu.br, hr.2.2.1] at h
    cases h
  exact ⟨u.spDone n, State.does_eq hr.1 (aspExec_done hr hb), ht, hu.went ht⟩

end

end Sys2Proof.Machine
end

section
/-! O46: the ALU instructions of a core. -/

namespace Sys2Proof.Machine

/-- A result with its flags, written to a register or only to the flags. -/
def State.aluPut (s : State) (n : Nat) (dst : Option (Fin 16)) (r : Nat) (v c : Bool) : State :=
  let s := s.spFlags n false v (r = 0) (decide (2 ^ 31 ≤ r)) c
  match dst with
  | none => s
  | some d => s.spSet n d.val r

section
variable {s t : State} {n : Nat} {sat : Bool} {a : Fin 16} {b : AspSrc} {dst : Option (Fin 16)} {o : AluOp} {i : Instr} {e : Int}

theorem aluPut_regsOnly (h : RegsOnly s t n) (r : Nat) (v c : Bool) : RegsOnly s (t.aluPut n dst r v c) n := by
  cases dst with
  | none => exact h.spFlags _ _ _ _ _
  | some d => exact (h.spFlags _ _ _ _ _).spSet _ _

/-- The destination, ST and no other register take the result. -/
theorem aluPut_spGet (r : Nat) (v c : Bool) (j : Nat) : (s.aluPut n dst r v c).spGet n j
    = if j ∈ (dst.map Fin.val).toList then r
      else if j = 41 then flagWord (s.spGet n 41) false v (decide (r = 0)) (decide (2 ^ 31 ≤ r)) c else s.spGet n j := by
  cases dst with
  | none => simp [State.aluPut]
  | some d => simp [State.aluPut]

theorem aluBody_add {d : Fin 16} : aspAluBody n .add sat (some d) a b s none 0
    = .done (s.aluPut n (some d) (reduceTo 32 sat (s.spInt n a + s.spSrc n b)).1 (reduceTo 32 sat (s.spInt n a + s.spSrc n b)).2
      (decide (2 ^ 32 ≤ (s.spInt n a % 2 ^ 32).toNat + (s.spSrc n b % 2 ^ 32).toNat))) := by
  simp only [aspAluBody, aluExact, if_true, State.aluPut]
  rfl

/-- Every other operation with an exact result leaves it, with a carry that the spec does not define. -/
theorem aluBody_exact (ho : o ≠ .add) (he : aluExact o (s.spInt n a) (s.spSrc n b) = some e) : aspAluBody n o sat dst a b s none 0
    = .done (s.tick.aluPut n dst (reduceTo 32 sat e).1 (reduceTo 32 sat e).2 s.spFreeBit.1) := by
  simp only [aspAluBody, he, if_neg ho, State.aluPut]
  cases dst <;> rfl

/-- A shift by an amount with no stated result still writes its destination and ST. -/
theorem aluBody_unstated (ho : o ≠ .add) (he : aluExact o (s.spInt n a) (s.spSrc n b) = none) :
    ∃ r v c, aspAluBody n o sat dst a b s none 0 = .done (s.tick.tick.tick.aluPut n dst r v c) := by
  refine ⟨(s.spFree 32).1, s.tick.spFreeBit.1, s.tick.tick.spFreeBit.1, ?_⟩
  simp only [aspAluBody, he, if_neg ho, State.aluPut]
  cases dst <;> rfl

/-- An ALU instruction whose result is put, in a state with the same registers. -/
theorem aluLeaves_of_put {c : Bool} (hdst : ∀ d, dst = some d → d.val ≠ 41) (hr : s.aspReady n)
    (ht : RegsOnly s t n) (hget : ∀ j, t.spGet n j = s.spGet n j)
    (hb : aspAluBody n o sat dst a b s none 0 = .done (t.aluPut n dst (reduceTo 32 sat e).1 (reduceTo 32 sat e).2 c)) :
    ∃ u, s.does (fun s => s.aspExec n false i (aspAluBody n o sat dst a b)) = .next u ∧ s.aluLeaves u n dst sat e c := by
  obtain ⟨u, hx, hu, hw⟩ := aspExec_leaves (i := i) (ctl := false) hr hb (aluPut_regsOnly ht _ _ _)
  refine ⟨u, hx, fun d hd => ?_, ?_, fun j hj => ?_, hw⟩
  · rw [hu.spGet, aluPut_spGet, if_pos (by simp [hd])]
  · rw [hu.spGet, aluPut_spGet, if_neg, if_pos rfl, hget]
    cases dst with
    | none => simp
    | some d => simpa using (hdst d rfl).symm
  · rw [List.mem_cons, not_or] at hj
    rw [hu.spGet, aluPut_spGet, if_neg hj.2, if_neg hj.1, hget]

theorem data_ne_status (d : Fin 16) : d.val ≠ 41 := by omega

theorem aluLeaves_of_exact (ho : o ≠ .add) (hr : s.aspReady n) (he : aluExact o (s.spInt n a) (s.spSrc n b) = some e) :
    ∃ u c, s.does (fun s => s.aspExec n false i (aspAluBody n o sat dst a b)) = .next u ∧ s.aluLeaves u n dst sat e c := by
  obtain ⟨u, hu⟩ := aluLeaves_of_put (i := i) (fun d _ => data_ne_status d) hr (RegsOnly.refl s n).tick (fun j => spGet_tick s n j)
    (aluBody_exact (sat := sat) (dst := dst) ho he)
  exact ⟨u, _, hu⟩

theorem aluKeeps_of_unstated {d : Fin 16} (ho : o ≠ .add) (hr : s.aspReady n)
    (he : aluExact o (s.spInt n a) (s.spSrc n b) = none) :
    ∃ u, s.does (fun s => s.aspExec n false i (aspAluBody n o sat (some d) a b)) = .next u ∧ s.aspKeeps u n [41, d.val]
      ∧ s.aspWent u n := by
  obtain ⟨r, v, c, hb⟩ := aluBody_unstated (sat := sat) (dst := some d) ho he
  obtain ⟨u, hx, hu, hw⟩ := aspExec_leaves (i := i) (ctl := false) hr hb (aluPut_regsOnly (RegsOnly.refl s n).tick.tick.tick _ _ _)
  refine ⟨u, hx, fun j hj => ?_, hw⟩
  simp only [List.mem_cons, List.not_mem_nil, or_false, not_or] at hj
  rw [hu.spGet, aluPut_spGet, if_neg (by simpa using hj.2), if_neg hj.1, spGet_tick, spGet_tick, spGet_tick]

/-- A shift outside 0 to 31 has no exact result. -/
theorem aluExact_shift {x y : Int} (h : ¬ (0 ≤ y ∧ y < 32)) :
    aluExact .shl x y = none ∧ aluExact .shr x y = none ∧ aluExact .asr x y = none := by
  simp [aluExact, h]

end

/-- Settles O46: each instruction puts its exact result, reduced, into its destination and its flags into ST. -/
theorem aluResults : Obligations.AluResults := by
  unfold Obligations.AluResults
  intro s n sat d a b hr
  refine ⟨aluLeaves_of_put (fun d _ => data_ne_status d) hr (RegsOnly.refl s n) (fun _ => rfl) aluBody_add, ?_,
    aluLeaves_of_exact (by decide) hr rfl, aluLeaves_of_exact (by decide) hr rfl, aluLeaves_of_exact (by decide) hr rfl, ?_⟩
  · intro p hp e he
    simp only [List.mem_cons, List.not_mem_nil, or_false] at hp
    obtain rfl | rfl | rfl | rfl | rfl | rfl | rfl | rfl | rfl := hp
    all_goals exact aluLeaves_of_exact (by decide) hr he
  · intro i hi hsh
    obtain ⟨hshl, hshr, hasr⟩ := aluExact_shift (x := s.spInt n a) hsh
    simp only [List.mem_cons, List.not_mem_nil, or_false] at hi
    obtain rfl | rfl | rfl := hi
    · exact aluKeeps_of_unstated (by decide) hr hshl
    · exact aluKeeps_of_unstated (by decide) hr hshr
    · exact aluKeeps_of_unstated (by decide) hr hasr

end Sys2Proof.Machine
end

section
/-! O47: moves, loads, stores and bit fields of a core. -/

namespace Sys2Proof.Machine

section
variable {s t : State} {n : Nat}

/-! ## Where a move goes -/

/-- A move to a place of the window writes that register, whatever consumers see it late. -/
theorem spMoveTo_writes {r : AspReg} {i w : Nat} (hp : regPlace r = some (i, w)) (hst : r ≠ .st) (v : Nat) :
    RegsOnly s (s.spMoveTo n r v) n ∧ ∀ j, (s.spMoveTo n r v).spGet n j = if j = i then v % 2 ^ w else s.spGet n j := by
  have h := RegsOnly.refl s n
  cases r <;> simp only [regPlace, Option.some.injEq, Prod.mk.injEq, reduceCtorEq] at hp
  case st => exact absurd rfl hst
  all_goals obtain ⟨rfl, rfl⟩ := hp
  case d i => exact ⟨h.spSet _ _, fun j => spGet_spSet _ _ _ _ _⟩
  case a i => exact ⟨h.spSet _ _, fun j => spGet_spSet _ _ _ _ _⟩
  case p i => exact ⟨h.spLate _ _ _ _, fun j => spGet_spLate _ _ _ _ _ _ _⟩
  case m i => exact ⟨h.spLate _ _ _ _, fun j => spGet_spLate _ _ _ _ _ _ _⟩
  case lc => exact ⟨h.spLate _ _ _ _, fun j => spGet_spLate _ _ _ _ _ _ _⟩

/-- An instruction that moves one value to one place. -/
theorem aspExec_moves {ctl : Bool} {x : Instr} {body : AspBody} {r : AspReg} {i w v : Nat} (hr : s.aspReady n)
    (hp : regPlace r = some (i, w)) (hst : r ≠ .st) (hb : body s none 0 = .done (s.spMoveTo n r v)) :
    ∃ t, s.does (fun s => s.aspExec n ctl x body) = .next t ∧ t.spGet n i = v % 2 ^ w ∧ s.aspKeeps t n [i] ∧ s.aspWent t n := by
  obtain ⟨hregs, hget⟩ := spMoveTo_writes (s := s) (n := n) hp hst v
  obtain ⟨t, hx, ht, hw⟩ := aspExec_leaves (ctl := ctl) (i := x) hr hb hregs
  refine ⟨t, hx, ?_, fun j hj => ?_, hw⟩
  · rw [ht.spGet, hget, if_pos rfl]
  · rw [ht.spGet, hget, if_neg (by simpa using hj)]

/-- A value that is as wide as its place is moved as it is. -/
theorem spWiden_narrow (v : Nat) {from' to' : Nat} (h : to' ≤ from') : s.spWiden v from' to' = (v, s) :=
  if_neg (by omega)

theorem movBody_data {dst : AspReg} {i w : Nat} (j : Fin 16) (hp : regPlace dst = some (i, w)) (hw : w ≤ 32) :
    aspMovBody n dst (.d j) s none 0 = .done (s.spMoveTo n dst (s.spD n j)) := by
  cases dst <;> simp only [regPlace, Option.some.injEq, Prod.mk.injEq, reduceCtorEq] at hp
  all_goals obtain ⟨-, rfl⟩ := hp
  case a i => exact absurd hw (by decide)
  all_goals
    simp only [aspMovBody, State.spSource, State.spPut, regPlace, Option.map_some, Option.getD_some]
    rw [spWiden_narrow _ (by decide)]
  case d i => rfl

/-! ## Stream ports -/

theorem movBody_inEmpty {d : Fin 16} {k : Fin 4} (h : smapGet [] (s.core n).inQ k = []) :
    aspMovBody n (.d d) (.inp k) s none 0 = .wait := by
  simp only [aspMovBody, h]

theorem movBody_in {d : Fin 16} {k : Fin 4} {w : Nat} {q : List Nat} (h : smapGet [] (s.core n).inQ k = w :: q) :
    aspMovBody n (.d d) (.inp k) s none 0 = .done ((s.setCore n { s.core n with inQ := smapSet [] (s.core n).inQ k q }).spLate
      n 0 1 d (w % 2 ^ 32)) := by
  simp only [aspMovBody, h, State.spPut, spWiden_narrow (s := s.setCore n _) w (show 32 ≤ 32 from le_refl _), if_true]

/-- The words of the input ports are no registers. -/
theorem inQ_regsOnly (x : SMap (List Nat)) : RegsOnly s (s.setCore n { s.core n with inQ := x }) n := by
  apply RegsOnly.setCore (.refl s n)
  rfl

theorem inQ_spGet (x : SMap (List Nat)) (j : Nat) : (s.setCore n { s.core n with inQ := x }).spGet n j = s.spGet n j := by
  apply spGet_congr
  · rw [core_setCore]
  · rfl

theorem movBody_outFull {j : Fin 16} {k : Fin 4} (hd : s.rd (R.SP_OUTCFG_dst n k) = 1)
    (hq : 1024 ≤ (smapGet [] (s.core n).outQ k).length) : aspMovBody n (.out k) (.d j) s none 0 = .wait := by
  have hpush : ∀ v, s.outPush n k v = none := by
    intro v
    simp only [State.outPush, State.outDst, hd, OfNat.one_ne_ofNat, one_ne_zero, false_and, if_false, if_pos hq]
  simp only [aspMovBody, State.spSource, State.spPut, spWiden_narrow (s := s) _ (show 32 ≤ 32 from le_refl _), hpush]

/-! ## Loads and stores -/

/-- A pointer is post-modified when its mode says so. -/
theorem spGet_spBump (o : AspMem) (p : Option Nat) (i : Nat) :
    (s.spBump n o p).spGet n i = if i = 16 + o.ptr ∧ p.isSome then p.getD 0 else s.spGet n i := by
  cases p with
  | none => simp [State.spBump]
  | some v => simp [State.spBump]

theorem spEcc_clean {e : AspEcc} (h : e.kind = 0) (turn : Nat) : s.spEcc n turn e = some s := by
  simp [State.spEcc, h]

/-- A read of X or Y within its 16,384 words. -/
theorem spRead_inside (y : Bool) {a : Nat} (x : Option Nat) (ha : a < 0x4000) :
    s.spRead n (if y then 1 else 0) a x = .word (s.spWord n ((if y then 0xC000 else 0x8000) + a)) := by
  cases y <;> simp [State.spRead, ha]

theorem spRead_window {a : Nat} (h : 0x4000 ≤ a) (h' : a < 0x8000) : s.spRead n 1 a none = .extern (s.spWindow n a) := by
  simp [State.spRead, h', Nat.not_lt.mpr h]

theorem loadBody_inside {y : Bool} {op : AspMem} {d : Fin 16} {e : AspEcc} {a : Nat} {p : Option Nat}
    (h : s.spAddr n op = some (a, p)) (ha : a < 0x4000) (he : e.kind = 0) : aspLoadBody n y op d e s none 0
    = .done ((s.spLate n 0 1 d (s.spWord n ((if y then 0xC000 else 0x8000) + a))).spBump n op p) := by
  simp only [aspLoadBody, h, spRead_inside y none ha, spEcc_clean he]

theorem loadBody_window {op : AspMem} {d : Fin 16} {e : AspEcc} {a : Nat} {p : Option Nat}
    (h : s.spAddr n op = some (a, p)) (ha : 0x4000 ≤ a) (ha' : a < 0x8000) :
    aspLoadBody n true op d e s none 0 = .extern false (s.spWindow n a) 0 := by
  simp only [aspLoadBody, h, if_true, spRead_window ha ha']

theorem storeBody_inside {y : Bool} {op : AspMem} {r : Fin 16} {a : Nat} {p : Option Nat}
    (h : s.spAddr n op = some (a, p)) (ha : a < 0x4000) : aspStoreBody n y op r s none 0
    = .done ((s.setSpWord n ((if y then 0xC000 else 0x8000) + a) (s.spD n r)).spBump n op p) := by
  simp only [aspStoreBody, h, if_pos ha]

theorem spBump_words (o : AspMem) (p : Option Nat) : (s.spBump n o p).sp.mem = s.sp.mem := by
  cases p <;> rfl

/-- Data registers are below the pointers. -/
theorem ptr_ne_data (d : Fin 16) (o : AspMem) : 16 + o.ptr.val ≠ d.val := by omega

/-! ## Bit fields -/

theorem extBody_data {d j : Fin 16} {pos w1 : Nat} (h : pos + w1 + 1 ≤ 32) :
    aspExtBody n (.d d) (.d j) pos w1 s none 0 = .done (s.spMoveTo n (.d d) (getBits (s.spD n j) pos (w1 + 1))) := by
  simp only [aspExtBody, State.spSource, regPlace, spWiden_narrow (s := s) _ (show max 32 (pos + w1 + 1) ≤ 32 by omega)]

theorem insBody_data {d j : Fin 16} {pos w1 : Nat} (h : w1 + 1 ≤ 32) :
    aspInsBody n (.d d) (.d j) pos w1 s none 0
      = .done (s.spMoveTo n (.d d) (putBits (s.spD n d) pos (w1 + 1) (s.spD n j))) := by
  simp only [aspInsBody, State.spSource, spWiden_narrow (s := s) _ (show max 32 (w1 + 1) ≤ 32 by omega)]

end

section
variable {s : State} {n : Nat} {op : AspMem} {a : Nat} {p : Option Nat}

/-- A load or store that starts an access of the external window changes only what the core waits for. -/
theorem aspExec_starts {ctl : Bool} {i : Instr} {body : AspBody} {w : Bool} {x v : Nat} (hr : s.aspReady n)
    (hb : body s none 0 = .extern w x v) :
    ∃ t, s.does (fun s => s.aspExec n ctl i body) = .next t ∧ (t.core n).ext = some ⟨w, x, v, i⟩ ∧ t.csr = s.csr
      ∧ t.mem = s.mem :=
  ⟨_, State.does_eq hr.1 (aspExec_extern hr hb), congrArg SpCore.ext (core_setCore s n _), rfl, rfl⟩

theorem aspExec_stalls {ctl : Bool} {i : Instr} {body : AspBody} (hr : s.aspReady n) (hb : body s none 0 = .wait) :
    s.does (fun s => s.aspExec n ctl i body) = .next s := State.does_eq hr.1 (aspExec_waits hr hb)

theorem load_acts {i : Instr} {y : Bool} {d : Fin 16} {e : AspEcc} (hr : s.aspReady n) (h : s.spAddr n op = some (a, p))
    (ha : a < 0x4000) (he : e.kind = 0) :
    ∃ t, s.does (fun s => s.aspExec n false i (aspLoadBody n y op d e)) = .next t
      ∧ t.spGet n d.val = s.spWord n ((if y then 0xC000 else 0x8000) + a)
      ∧ (∀ v, p = some v → t.spGet n (16 + op.ptr) = v) ∧ s.aspKeeps t n [d.val, 16 + op.ptr.val] ∧ s.aspWent t n := by
  obtain ⟨t, hx, ht, hw⟩ := aspExec_leaves (ctl := false) (i := i) hr (loadBody_inside (y := y) (d := d) h ha he)
    (((RegsOnly.refl s n).spLate _ _ _ _).spBump _ _)
  refine ⟨t, hx, ?_, fun v hv => ?_, fun j hj => ?_, hw⟩
  · rw [ht.spGet, spGet_spBump, if_neg fun g => ptr_ne_data d op g.1.symm, spGet_spLate, if_pos rfl]
  · rw [ht.spGet, spGet_spBump, hv]
    simp
  · simp only [List.mem_cons, List.not_mem_nil, or_false, not_or] at hj
    rw [ht.spGet, spGet_spBump, if_neg fun g => hj.2 g.1, spGet_spLate, if_neg hj.1]

theorem store_acts {i : Instr} {y : Bool} {r : Fin 16} (hr : s.aspReady n) (h : s.spAddr n op = some (a, p)) (ha : a < 0x4000) :
    ∃ t, s.does (fun s => s.aspExec n false i (aspStoreBody n y op r)) = .next t
      ∧ t.spWord n ((if y then 0xC000 else 0x8000) + a) = s.spD n r % 2 ^ 32
      ∧ (∀ w, w ≠ n * 65536 + ((if y then 0xC000 else 0x8000) + a) → smapGet 0 t.sp.mem w = smapGet 0 s.sp.mem w)
      ∧ (∀ v, p = some v → t.spGet n (16 + op.ptr) = v) ∧ s.aspKeeps t n [16 + op.ptr.val] ∧ s.aspWent t n := by
  obtain ⟨t, hx, ht, hw⟩ := aspExec_leaves (ctl := false) (i := i) hr (storeBody_inside (y := y) (r := r) h ha)
    (((RegsOnly.refl s n).setSpWord _ _).spBump _ _)
  have hmem := ht.words.trans (spBump_words op p)
  refine ⟨t, hx, ?_, fun w hne => ?_, fun v hv => ?_, fun j hj => ?_, hw⟩
  · rw [State.spWord, hmem]
    exact (congrArg BitVec.toNat (smapGet_set_same _ _ _ _)).trans (BitVec.toNat_ofNat _ _)
  · rw [hmem]
    exact smapGet_set_ne _ _ _ _ hne
  · rw [ht.spGet, spGet_spBump, hv]
    simp
  · rw [ht.spGet, spGet_spBump, if_neg fun g => hj (by simp [g.1]), spGet_setSpWord]

end

/-- Settles O47: each move, load and store by what its body comes to, through the rule for an instruction that executes. -/
theorem movesAct : Obligations.MovesAct := by
  unfold Obligations.MovesAct
  intro s n hr
  refine ⟨fun dst i w high imm hp hst => ?_, fun dst i w j hp hst hw => aspExec_moves hr hp hst (movBody_data j hp hw),
    fun d k hq => aspExec_stalls hr (movBody_inEmpty hq), fun d k w q hq hw => ?_,
    fun j k hd hq => aspExec_stalls hr (movBody_outFull hd hq), fun p step => aspExec_moves hr rfl AspReg.noConfusion rfl,
    fun y op d e a p h ha he => load_acts hr h ha he, fun op d e a p h ha ha' => aspExec_starts hr (loadBody_window h ha ha'),
    fun y op r a p h ha => store_acts hr h ha, fun d j pos w1 hw => ⟨?_, ?_⟩⟩
  · refine aspExec_moves hr hp hst ?_
    simp only [aspMoviBody, hp]
  · obtain ⟨t, hx, ht, hwent⟩ := aspExec_leaves (ctl := false) (i := .aspMov n (.d d) (.inp k)) hr (movBody_in hq)
      ((inQ_regsOnly _).spLate _ _ _ _)
    refine ⟨t, hx, ?_, fun j hj => ?_, hwent.2.2⟩
    · rw [ht.spGet, spGet_spLate, if_pos rfl, Nat.mod_eq_of_lt hw]
    · rw [ht.spGet, spGet_spLate, if_neg (by simpa using hj), inQ_spGet]
  · exact aspExec_moves hr rfl AspReg.noConfusion (extBody_data hw)
  · exact aspExec_moves hr rfl AspReg.noConfusion (insBody_data (by omega))

end Sys2Proof.Machine
end

section
/-! O48: multiplies and accumulators of a core. -/

namespace Sys2Proof.Machine

section
variable {s : State} {n : Nat} {sat : Bool}

/-! ## Multiply-accumulates (classes 0x7 to 0xA) -/

/-- What MPY, MAC and MSU leave: the accumulator, the word loaded beside it and ST. -/
def State.mulPut (s : State) (n : Nat) (acc : Fin 4) (par : AspPar) (r : Nat × Bool) (w : Nat) (p : Option Nat) : State :=
  ((((s.spLate n 3 1 (32 + acc) r.1).tick.spFlagsLate n r.2 (r.1 = 0) (decide (2 ^ 39 ≤ r.1))
    (s.spLate n 3 1 (32 + acc) r.1).spFreeBit.1).spLate n 0 1 par.dst.val w).spBump n par.op p)

theorem mulBody_inside {f : Int → Int → Int} {acc : Fin 4} {a b : AspHalf} {par : AspPar} {e : AspEcc} {ad : Nat} {p : Option Nat}
    (h : s.spAddr n par.op = some (ad, p)) (ha : ad < 0x4000) (he : e.kind = 0) :
    aspMulBody n f sat acc a b par e s none 0
      = .done (s.mulPut n acc par (reduceTo 40 sat (f (s.spAccNew n acc) (s.spHalf n a * s.spHalf n b)))
          (s.spWord n ((if par.y then 0xC000 else 0x8000) + ad)) p) := by
  simp only [aspMulBody, h, spRead_inside par.y none ha, spEcc_clean he, State.mulPut]
  rfl

theorem mulPut_regsOnly (acc : Fin 4) (par : AspPar) (r : Nat × Bool) (w : Nat) (p : Option Nat) :
    RegsOnly s (s.mulPut n acc par r w p) n :=
  (((((RegsOnly.refl s n).spLate _ _ _ _).tick).spFlagsLate _ _ _ _).spLate _ _ _ _).spBump _ _

theorem mulPut_spGet (acc : Fin 4) (par : AspPar) (r : Nat × Bool) (w : Nat) (p : Option Nat) :
    (s.mulPut n acc par r w p).spGet n (32 + acc) = r.1 ∧ (s.mulPut n acc par r w p).spGet n par.dst.val = w
    ∧ (∀ v, p = some v → (s.mulPut n acc par r w p).spGet n (16 + par.op.ptr) = v)
    ∧ s.aspKeeps (s.mulPut n acc par r w p) n [32 + acc.val, par.dst.val, 16 + par.op.ptr.val, 41] := by
  unfold State.mulPut
  refine ⟨?_, ?_, ?_, ?_⟩
  · rw [spGet_spBump, if_neg (by omega), spGet_spLate, if_neg (by omega), spGet_spFlagsLate, if_neg (by omega), spGet_tick,
      spGet_spLate, if_pos rfl]
  · rw [spGet_spBump, if_neg (by omega), spGet_spLate, if_pos rfl]
  · rintro v rfl
    exact (spGet_spBump _ _ _).trans (by simp)
  · intro j hj
    simp only [List.mem_cons, List.not_mem_nil, or_false, not_or] at hj
    obtain ⟨hacc, hdst, hptr, hst⟩ := hj
    rw [spGet_spBump, if_neg fun g => hptr g.1, spGet_spLate, if_neg hdst, spGet_spFlagsLate, if_neg hst, spGet_tick, spGet_spLate,
      if_neg hacc]

theorem mul_acts {i : Instr} {f : Int → Int → Int} {acc : Fin 4} {a b : AspHalf} {par : AspPar} {e : AspEcc} {ad : Nat}
    {p : Option Nat} (hr : s.aspReady n) (h : s.spAddr n par.op = some (ad, p)) (ha : ad < 0x4000) (he : e.kind = 0) :
    ∃ t, s.does (fun s => s.aspExec n false i (aspMulBody n f sat acc a b par e)) = .next t
      ∧ t.spGet n (32 + acc) = (reduceTo 40 sat (f (s.spAccNew n acc) (s.spHalf n a * s.spHalf n b))).1
      ∧ t.spGet n par.dst.val = s.spWord n ((if par.y then 0xC000 else 0x8000) + ad)
      ∧ (∀ v, p = some v → t.spGet n (16 + par.op.ptr) = v)
      ∧ s.aspKeeps t n [32 + acc.val, par.dst.val, 16 + par.op.ptr.val, 41] ∧ s.aspWent t n := by
  obtain ⟨t, hx, ht, hw⟩ := aspExec_leaves (ctl := false) (i := i) hr (mulBody_inside (f := f) (sat := sat) (acc := acc) (a := a)
    (b := b) h ha he) (mulPut_regsOnly _ _ _ _ _)
  obtain ⟨hacc, hdst, hptr, hkeep⟩ := mulPut_spGet (s := s) (n := n) acc par
    (reduceTo 40 sat (f (s.spAccNew n acc) (s.spHalf n a * s.spHalf n b))) (s.spWord n ((if par.y then 0xC000 else 0x8000) + ad)) p
  exact ⟨t, hx, (ht.spGet _).trans hacc, (ht.spGet _).trans hdst, fun v hv => (ht.spGet _).trans (hptr v hv),
    fun j hj => (ht.spGet _).trans (hkeep j hj), hw⟩

/-! ## Complex products -/

theorem spPair_regsOnly {t : State} (h : RegsOnly s t n) (a : Nat) (p : Int × Int) : RegsOnly s (t.spPair n sat a p).1 n :=
  (h.spLate _ _ _ _).spLate _ _ _ _

theorem spPairFlags_regsOnly {t : State} (h : RegsOnly s t n) (v : Bool) (accs : List Nat) :
    RegsOnly s (t.spPairFlags n v accs) n := h.tick.tick.spFlagsLate _ _ _ _

/-- Both accumulators of the pair take their part. -/
theorem spGet_spPair (a : Nat) (p : Int × Int) (j : Nat) : (s.spPair n sat a p).1.spGet n j
    = if j = 32 + a + 1 then (reduceTo 40 sat (s.spAccNew n (a + 1) + p.2)).1
      else if j = 32 + a then (reduceTo 40 sat (s.spAccNew n a + p.1)).1 else s.spGet n j := by
  unfold State.spPair
  dsimp only
  rw [spGet_spLate, spGet_spLate]

theorem spGet_spPairFlags (v : Bool) (accs : List Nat) {j : Nat} (h : j ≠ 41) :
    (s.spPairFlags n v accs).spGet n j = s.spGet n j := by
  unfold State.spPairFlags
  dsimp only
  rw [spGet_spFlagsLate, if_neg h]
  rfl

theorem cmacBody_inside {conj : Bool} {pair : Fin 2} {x h : AspMem} {e : AspEcc} {xa ha : Nat} {xp hp : Option Nat}
    (hne : x.ptr ≠ h.ptr) (hx : s.spAddr n x = some (xa, xp)) (hh : s.spAddr n h = some (ha, hp)) (hxa : xa < 0x4000)
    (hha : ha < 0x4000) (he : e.kind = 0) :
    ∃ v, aspCmacBody n sat conj pair x false h e s none 0
      = .done ((((s.spPair n sat (2 * pair) (complexProduct conj (s.spWord n (0x8000 + xa)) (s.spWord n (0xC000 + ha)))).1.spPairFlags
          n v [2 * pair.val, 2 * pair.val + 1]).spBump n x xp).spBump n h hp) := by
  have hrx : s.spRead n 0 xa none = .word (s.spWord n (0x8000 + xa)) := spRead_inside false none hxa
  have hrh : s.spRead n 1 ha none = .word (s.spWord n (0xC000 + ha)) := spRead_inside true none hha
  exact ⟨_, by simp only [aspCmacBody, if_neg hne, hx, hh, hrx, Bool.false_eq_true, if_false, hrh, spEcc_clean he, State.when]; rfl⟩

theorem cmac2Body_inside {conj : Bool} {x y h : AspMem} {e : AspEcc} {xa ya ha : Nat} {xp yp hp : Option Nat}
    (hxh : x.ptr ≠ h.ptr) (hxy : x.ptr ≠ y.ptr) (hyh : y.ptr ≠ h.ptr) (hx : s.spAddr n x = some (xa, xp))
    (hy : s.spAddr n y = some (ya, yp)) (hh : s.spAddr n h = some (ha, hp)) (hxa : xa < 0x4000) (hya : ya < 0x4000)
    (hha : ha < 0x8000) (he : e.kind = 0) :
    ∃ v, aspCmac2Body n sat conj x y h e s none 0
      = .done ((((((s.tick.spPair n sat 0 (complexProduct conj (s.spWord n (0x8000 + xa)) (s.spWord n ha))).1.spPair n sat 2
          (complexProduct conj (s.spWord n (0xC000 + ya)) (s.spWord n ha))).1.spPairFlags n v [0, 1, 2, 3]).spBump n x xp).spBump
          n y yp).spBump n h hp) := by
  have hrx : s.spRead n 0 xa none = .word (s.spWord n (0x8000 + xa)) := spRead_inside false none hxa
  have hry : s.spRead n 1 ya none = .word (s.spWord n (0xC000 + ya)) := spRead_inside true none hya
  have hrh : s.spRead n 2 ha none = .word (s.spWord n ha) := by simp [State.spRead, hha]
  have hne : ¬(x.ptr = h.ptr ∨ x.ptr = y.ptr ∨ y.ptr = h.ptr) := by simp [hxh, hxy, hyh]
  exact ⟨_, by simp only [aspCmac2Body, if_neg hne, hx, hy, hh, hrx, hry, hrh, spEcc_clean he]; rfl⟩

theorem cmac_acts {i : Instr} {conj : Bool} {pair : Fin 2} {x h : AspMem} {e : AspEcc} {xa ha : Nat} {xp hp : Option Nat}
    (hr : s.aspReady n) (hne : x.ptr ≠ h.ptr) (hx : s.spAddr n x = some (xa, xp)) (hh : s.spAddr n h = some (ha, hp))
    (hxa : xa < 0x4000) (hha : ha < 0x4000) (he : e.kind = 0) :
    ∃ t, s.does (fun s => s.aspExec n false i (aspCmacBody n sat conj pair x false h e)) = .next t
      ∧ t.spGet n (32 + 2 * pair) = (reduceTo 40 sat (s.spAccNew n (2 * pair)
          + (complexProduct conj (s.spWord n (0x8000 + xa)) (s.spWord n (0xC000 + ha))).1)).1
      ∧ t.spGet n (33 + 2 * pair) = (reduceTo 40 sat (s.spAccNew n (2 * pair + 1)
          + (complexProduct conj (s.spWord n (0x8000 + xa)) (s.spWord n (0xC000 + ha))).2)).1
      ∧ s.aspKeeps t n [32 + 2 * pair.val, 33 + 2 * pair.val, 16 + x.ptr.val, 16 + h.ptr.val, 41] ∧ s.aspWent t n := by
  obtain ⟨v, hb⟩ := cmacBody_inside (sat := sat) (conj := conj) (pair := pair) hne hx hh hxa hha he
  obtain ⟨t, hx, ht, hw⟩ := aspExec_leaves (ctl := false) (i := i) hr hb
    (((spPairFlags_regsOnly (spPair_regsOnly (.refl s n) _ _) _ _).spBump _ _).spBump _ _)
  refine ⟨t, hx, ?_, ?_, fun j hj => ?_, hw⟩
  · rw [ht.spGet, spGet_spBump, if_neg (by omega), spGet_spBump, if_neg (by omega), spGet_spPairFlags _ _ (by omega), spGet_spPair,
      if_neg (by omega), if_pos rfl]
  · rw [ht.spGet, spGet_spBump, if_neg (by omega), spGet_spBump, if_neg (by omega), spGet_spPairFlags _ _ (by omega), spGet_spPair,
      if_pos (by omega)]
  · simp only [List.mem_cons, List.not_mem_nil, or_false, not_or] at hj
    obtain ⟨hre, him, hpx, hph, hst⟩ := hj
    rw [ht.spGet, spGet_spBump, if_neg fun g => hph g.1, spGet_spBump, if_neg fun g => hpx g.1, spGet_spPairFlags _ _ hst,
      spGet_spPair, if_neg (by omega), if_neg hre]

theorem spAccNew_tick (a : Nat) : s.tick.spAccNew n a = s.spAccNew n a := rfl

/-- The first pair does not reach the second. -/
theorem spAccNew_spPair_zero (p : Int × Int) {a : Nat} (h : 2 ≤ a) : (s.spPair n sat 0 p).1.spAccNew n a = s.spAccNew n a := by
  unfold State.spAccNew
  rw [spGet_spPair, if_neg (by omega), if_neg (by omega)]

theorem cmac2_acts {i : Instr} {conj : Bool} {x y h : AspMem} {e : AspEcc} {xa ya ha : Nat} {xp yp hp : Option Nat}
    (hr : s.aspReady n) (hxh : x.ptr ≠ h.ptr) (hxy : x.ptr ≠ y.ptr) (hyh : y.ptr ≠ h.ptr) (hx : s.spAddr n x = some (xa, xp))
    (hy : s.spAddr n y = some (ya, yp)) (hh : s.spAddr n h = some (ha, hp)) (hxa : xa < 0x4000) (hya : ya < 0x4000)
    (hha : ha < 0x8000) (he : e.kind = 0) :
    ∃ t, s.does (fun s => s.aspExec n false i (aspCmac2Body n sat conj x y h e)) = .next t
      ∧ t.spGet n 32 = (reduceTo 40 sat (s.spAccNew n 0
          + (complexProduct conj (s.spWord n (0x8000 + xa)) (s.spWord n ha)).1)).1
      ∧ t.spGet n 34 = (reduceTo 40 sat (s.spAccNew n 2
          + (complexProduct conj (s.spWord n (0xC000 + ya)) (s.spWord n ha)).1)).1
      ∧ s.aspKeeps t n [32, 33, 34, 35, 16 + x.ptr.val, 16 + y.ptr.val, 16 + h.ptr.val, 41] ∧ s.aspWent t n := by
  obtain ⟨v, hb⟩ := cmac2Body_inside (sat := sat) (conj := conj) hxh hxy hyh hx hy hh hxa hya hha he
  obtain ⟨t, hx, ht, hw⟩ := aspExec_leaves (ctl := false) (i := i) hr hb
    ((((spPairFlags_regsOnly (spPair_regsOnly (spPair_regsOnly (RegsOnly.refl s n).tick _ _) _ _) _ _).spBump _ _).spBump _ _).spBump
      _ _)
  refine ⟨t, hx, ?_, ?_, fun j hj => ?_, hw⟩
  · rw [ht.spGet, spGet_spBump, if_neg (by omega), spGet_spBump, if_neg (by omega), spGet_spBump, if_neg (by omega),
      spGet_spPairFlags _ _ (by omega), spGet_spPair, if_neg (by omega), if_neg (by omega), spGet_spPair, if_neg (by omega),
      if_pos rfl, spAccNew_tick]
  · rw [ht.spGet, spGet_spBump, if_neg (by omega), spGet_spBump, if_neg (by omega), spGet_spBump, if_neg (by omega),
      spGet_spPairFlags _ _ (by omega), spGet_spPair, if_neg (by omega), if_pos rfl, spAccNew_spPair_zero _ (le_refl 2), spAccNew_tick]
  · simp only [List.mem_cons, List.not_mem_nil, or_false, not_or] at hj
    obtain ⟨h0, h1, h2, h3, hpx, hpy, hph, hst⟩ := hj
    rw [ht.spGet, spGet_spBump, if_neg fun g => hph g.1, spGet_spBump, if_neg fun g => hpy g.1, spGet_spBump, if_neg fun g => hpx g.1,
      spGet_spPairFlags _ _ hst, spGet_spPair, if_neg h3, if_neg h2, spGet_spPair, if_neg h1, if_neg h0, spGet_tick]

/-! ## Accumulators alone -/

/-- An instruction that sets the flags and one register, after a free carry or none. -/
theorem aspExec_puts {i : Instr} {body : AspBody} {t : State} {acc v z neg c : Bool} {d r : Nat} (hr : s.aspReady n)
    (ht : RegsOnly s t n) (hget : ∀ j, t.spGet n j = s.spGet n j)
    (hb : body s none 0 = .done ((t.spFlags n acc v z neg c).spSet n d r)) :
    ∃ u, s.does (fun s => s.aspExec n false i body) = .next u ∧ u.spGet n d = r ∧ s.aspKeeps u n [d, 41] ∧ s.aspWent u n := by
  obtain ⟨u, hx, hu, hw⟩ := aspExec_leaves (ctl := false) (i := i) hr hb ((ht.spFlags _ _ _ _ _).spSet _ _)
  refine ⟨u, hx, ?_, fun j hj => ?_, hw⟩
  · rw [hu.spGet, spGet_spSet, if_pos rfl]
  · simp only [List.mem_cons, List.not_mem_nil, or_false, not_or] at hj
    rw [hu.spGet, spGet_spSet, if_neg hj.1, spGet_spFlags, if_neg hj.2, hget]

/-- The accumulators of a mask, cleared in turn. -/
def State.clearAccs (s : State) (n : Nat) (mask : BitVec 4) (l : List Nat) : State :=
  s.fold l (fun s a => s.when (mask.getLsbD a) (·.spSet n (32 + a) 0))

theorem clearAccs_regsOnly (mask : BitVec 4) (l : List Nat) : RegsOnly s (s.clearAccs n mask l) n := by
  refine foldl_keeps (P := fun t : State => RegsOnly s t n) (fun t a ht => ?_) l (.refl s n)
  cases mask.getLsbD a
  · exact ht
  · exact ht.spSet _ _

theorem clearAccs_spGet (mask : BitVec 4) (l : List Nat) (j : Nat) : (s.clearAccs n mask l).spGet n j
    = if ∃ a ∈ l, j = 32 + a ∧ mask.getLsbD a = true then 0 else s.spGet n j := by
  unfold State.clearAccs State.fold
  induction l generalizing s with
  | nil => simp
  | cons a l ih =>
    rw [List.foldl_cons, ih]
    cases hm : mask.getLsbD a
    · simp [State.when, hm]
    · by_cases hj : j = 32 + a
      · simp [State.when, hm, hj]
      · simp [State.when, hm, hj]

theorem clra_acts {i : Instr} {mask : BitVec 4} (hr : s.aspReady n) :
    ∃ t, s.does (fun s => s.aspExec n false i (aspClraBody n mask)) = .next t
      ∧ (∀ a : Fin 4, t.spGet n (32 + a) = if mask.getLsbD a then 0 else s.spGet n (32 + a))
      ∧ s.aspKeeps t n [32, 33, 34, 35, 41] ∧ s.aspWent t n := by
  have hb : aspClraBody n mask s none 0 = .done ((s.clearAccs n mask [0, 1, 2, 3]).tick.spFlags n true false true false
      (s.clearAccs n mask [0, 1, 2, 3]).spFreeBit.1) := rfl
  obtain ⟨t, hx, ht, hw⟩ := aspExec_leaves (ctl := false) (i := i) hr hb ((clearAccs_regsOnly mask _).tick.spFlags _ _ _ _ _)
  refine ⟨t, hx, fun a => ?_, fun j hj => ?_, hw⟩
  · rw [ht.spGet, spGet_spFlags, if_neg (by omega), spGet_tick, clearAccs_spGet]
    refine if_congr ⟨?_, fun h => ⟨a, ?_, rfl, h⟩⟩ rfl rfl
    · rintro ⟨b, -, hb, h⟩
      rwa [show a.val = b by omega]
    · fin_cases a <;> simp
  · simp only [List.mem_cons, List.not_mem_nil, or_false, not_or] at hj
    rw [ht.spGet, spGet_spFlags, if_neg hj.2.2.2.2, spGet_tick, clearAccs_spGet, if_neg]
    rintro ⟨a, ha, hja, -⟩
    simp only [List.mem_cons, List.not_mem_nil, or_false] at ha
    omega

end

/-- Settles O48: the multiplies through what they put, the others through their flags and their one register. -/
theorem accumulatorsAct : Obligations.AccumulatorsAct := by
  unfold Obligations.AccumulatorsAct
  intro s n sat hr
  have hfree := (RegsOnly.refl s n).tick
  have hsame := fun j => spGet_tick s n j
  refine ⟨fun acc a b par e ad p h ha he q hq => ?_,
    fun conj pair x h e xa xp ha hp hne hx hh hxa hha he => cmac_acts hr hne hx hh hxa hha he,
    fun conj x y h e xa xp ya yp ha hp hxh hxy hyh hx hy hh hxa hya hha he =>
      cmac2_acts hr hxh hxy hyh hx hy hh hxa hya hha he,
    fun d a sh => aspExec_puts hr hfree hsame rfl,
    fun d a b sh => aspExec_puts hr hfree hsame rfl, fun mask => clra_acts hr,
    fun d a b => aspExec_puts hr (.refl s n) (fun _ => rfl) rfl,
    fun a left sh => aspExec_puts hr hfree hsame rfl⟩
  simp only [List.mem_cons, List.not_mem_nil, or_false] at hq
  obtain rfl | rfl | rfl := hq
  · exact mul_acts (f := fun _ p => p) hr h ha he
  · exact mul_acts (f := fun x p => x + p) hr h ha he
  · exact mul_acts (f := fun x p => x - p) hr h ha he

end Sys2Proof.Machine
end

section
/-! O49: control instructions of a core. -/

namespace Sys2Proof.Machine

section
variable {s w u t : State} {n : Nat}

theorem core_of_sp {s t : State} (h : t.sp = s.sp) (n : Nat) : t.core n = s.core n := by rw [State.core, State.core, h]

/-- What a control instruction must leave for the step behind it to be the one of `aspWent`: the program counter, the count, HBM. -/
structure CountKept (s u : State) (n : Nat) : Prop where
  pc : u.word (R.SP_PC n) = s.word (R.SP_PC n)
  count : u.word (R.SP_CNT n 0) = s.word (R.SP_CNT n 0)
  mem : u.mem = s.mem

theorem CountKept.of_csr (h : u.csr = s.csr) (hm : u.mem = s.mem) : CountKept s u n :=
  ⟨State.word_of_csr h _, State.word_of_csr h _, hm⟩

/-- A core that is ready runs an instruction that may set up a branch. -/
theorem aspExec_steps {ctl : Bool} {i : Instr} {body : AspBody} (hr : s.aspReady n) (hb : body s none 0 = .done u)
    (hbr : ∀ b, (u.core n).br = some b → 1 < b.left) (hk : CountKept s u n) :
    ∃ t, s.does (fun s => s.aspExec n ctl i body) = .next t ∧ Stepped u t n ∧ s.aspWent t n :=
  ⟨u.spDone n, State.does_eq hr.1 (aspExec_done hr hb), spDone_steps hbr, (spDone_steps hbr).went hk.pc hk.count hk.mem⟩

/-! ## Branches -/

theorem spBranch_core (target : Option Nat) (reti : Bool) :
    (s.spBranch n target reti).core n = { s.core n with br := some ⟨target, 3, reti⟩ } := core_setCore _ _ _

theorem spBranch_spGet (target : Option Nat) (reti : Bool) (j : Nat) : (s.spBranch n target reti).spGet n j = s.spGet n j := by
  apply spGet_congr
  · rw [spBranch_core]
  · rfl

/-- After a branch instruction two delay slots remain. -/
theorem branch_acts {ctl : Bool} {i : Instr} {body : AspBody} {target : Option Nat} {reti : Bool} (hr : s.aspReady n)
    (hb : body s none 0 = .done (w.spBranch n target reti)) (hw : RegsOnly s w n) :
    ∃ t, s.does (fun s => s.aspExec n ctl i body) = .next t ∧ (t.core n).br = some ⟨target, 2, reti⟩
      ∧ (t.core n).stack = (w.core n).stack ∧ (∀ j, t.spGet n j = w.spGet n j) ∧ s.aspWent t n := by
  have hcore := spBranch_core (s := w) (n := n) target reti
  obtain ⟨t, hx, ht, hwent⟩ := aspExec_steps (ctl := ctl) (i := i) hr hb
    (fun b h => by rw [hcore] at h; injection h with h; rw [← h]; exact show 1 < 3 by decide) (CountKept.of_csr hw.csr hw.mem)
  exact ⟨t, hx, ht.br.trans (by rw [hcore]; rfl), ht.stack.trans (by rw [hcore]),
    fun j => (ht.spGet j).trans (spBranch_spGet target reti j), hwent⟩

theorem branchBody_taken {cond target : Nat} {taken : Bool} (h : s.spCond n cond = some taken) :
    aspBranchBody n cond target s none 0 = .done (s.spBranch n (if taken then some target else none) false) := by
  simp only [aspBranchBody, h]

/-- A branch that changes nothing else of the core. -/
theorem branch_keeps {ctl : Bool} {i : Instr} {body : AspBody} {target : Option Nat} {reti : Bool} (hr : s.aspReady n)
    (hb : body s none 0 = .done (s.spBranch n target reti)) :
    ∃ t, s.does (fun s => s.aspExec n ctl i body) = .next t ∧ (t.core n).br = some ⟨target, 2, reti⟩ ∧ s.aspKeeps t n []
      ∧ s.aspWent t n := by
  obtain ⟨t, hx, hbr, -, hget, hw⟩ := branch_acts (ctl := ctl) (i := i) hr hb (.refl s n)
  exact ⟨t, hx, hbr, fun j _ => hget j, hw⟩

/-! ## The call stack -/

theorem stack_regsOnly (x : List Nat) : RegsOnly s (s.setCore n { s.core n with stack := x }) n := by
  apply RegsOnly.setCore (.refl s n)
  rfl

theorem stack_spGet (x : List Nat) (j : Nat) : (s.setCore n { s.core n with stack := x }).spGet n j = s.spGet n j := by
  apply spGet_congr
  · rw [core_setCore]
  · rfl

theorem callBody_room {target : Nat} (h : (s.core n).stack.length < 8) : aspCallBody n target s none 0
    = .done ((s.setCore n { s.core n with stack := (s.rd (R.SP_PC_pc n) + 3) % 32768 :: (s.core n).stack }).spBranch n
      (some target) false) := by
  simp only [aspCallBody, if_neg (Nat.not_le.mpr h)]

theorem retBody_some {x : Nat} {r : List Nat} (h : (s.core n).stack = x :: r) :
    aspRetBody n s none 0 = .done ((s.setCore n { s.core n with stack := r }).spBranch n (some x) false) := by
  simp only [aspRetBody, h]

theorem stack_acts {ctl : Bool} {i : Instr} {body : AspBody} {target : Option Nat} {x : List Nat} (hr : s.aspReady n)
    (hb : body s none 0 = .done ((s.setCore n { s.core n with stack := x }).spBranch n target false)) :
    ∃ t, s.does (fun s => s.aspExec n ctl i body) = .next t ∧ (t.core n).br = some ⟨target, 2, false⟩ ∧ (t.core n).stack = x
      ∧ s.aspKeeps t n [] ∧ s.aspWent t n := by
  obtain ⟨t, hx, hbr, hst, hget, hw⟩ := branch_acts (ctl := ctl) (i := i) hr hb (stack_regsOnly x)
  exact ⟨t, hx, hbr, hst.trans (congrArg SpCore.stack (core_setCore s n _)), fun j _ => (hget j).trans (stack_spGet x j), hw⟩

theorem loop_acts {i : Instr} {target : Nat} (hr : s.aspReady n) :
    ∃ t, s.does (fun s => s.aspExec n true i (aspLoopBody n target)) = .next t
      ∧ t.spGet n 40 = (s.spView n 2 40 + 65535) % 65536
      ∧ (t.core n).br = some ⟨if (s.spView n 2 40 + 65535) % 65536 = 0 then none else some target, 2, false⟩
      ∧ s.aspKeeps t n [40] ∧ s.aspWent t n := by
  obtain ⟨t, hx, hbr, -, hget, hw⟩ := branch_acts (ctl := true) (i := i) (body := aspLoopBody n target) hr rfl
    ((RegsOnly.refl s n).spSet _ _)
  refine ⟨t, hx, ?_, hbr, fun j hj => ?_, hw⟩
  · rw [hget, spGet_spSet, if_pos rfl]
  · rw [hget, spGet_spSet, if_neg (by simpa using hj)]

/-! ## Waiting, interrupts, events -/

theorem wait_acts {i : Instr} (hr : s.aspReady n) (hstop : (s.core n).stopReq = false) (hsus : (s.core n).susReq = false)
    (hstep : (s.core n).stepping = false) (h : s.spState n = 2) :
    ∃ t, s.does (fun s => s.aspExec n true i (aspWaitBody n)) = .next t ∧ t.spState n = 3 ∧ s.aspWent t n := by
  have hb : aspWaitBody n s none 0 = .done (s.wr (R.SP_STAT_state n) 3) := by simp only [aspWaitBody, h, State.when, decide_true, if_true]
  have hbr : ∀ b, ((s.wr (R.SP_STAT_state n) 3).core n).br = some b → 1 < b.left := by
    intro b hsome
    rw [core_wr, hr.2.2.1] at hsome
    cases hsome
  have hk : CountKept s (s.wr (R.SP_STAT_state n) 3) n :=
    ⟨State.word_wr_ne (f := R.SP_STAT_state n) _ _ (spStat_ne_pc n).symm,
      State.word_wr_ne (f := R.SP_STAT_state n) _ _ (spStat_ne_count n).symm, rfl⟩
  refine ⟨_, State.does_eq hr.1 (aspExec_done hr hb), ?_, (spDone_steps hbr).went hk.pc hk.count hk.mem⟩
  rw [spDone_state hbr hstep hstop hsus]
  exact State.rd_wr_same _ _ 3 (show 0 + 3 ≤ 32 by decide)

theorem enable_acts {i : Instr} {on : Bool} (hr : s.aspReady n) :
    ∃ t, s.does (fun s => s.aspExec n true i (aspEnableBody n on)) = .next t ∧ t.spGet n 41 = setBit (s.spGet n 41) 6 on
      ∧ s.aspKeeps t n [41] ∧ s.aspWent t n := by
  obtain ⟨t, hx, ht, hw⟩ := aspExec_leaves (ctl := true) (i := i) (body := aspEnableBody n on) hr rfl ((RegsOnly.refl s n).spLate _ _ _ _)
  refine ⟨t, hx, ?_, fun j hj => ?_, hw⟩
  · rw [ht.spGet, spGet_spLate, if_pos rfl]
  · rw [ht.spGet, spGet_spLate, if_neg (by simpa using hj)]

theorem sig_acts {i : Instr} (o : Nat) (hr : s.aspReady n) :
    ∃ t, s.does (fun s => s.aspExec n true i (aspSigBody n o)) = .next t ∧ (48 + 2 * n + o, 0) ∈ t.evq ∧ s.aspKeeps t n []
      ∧ s.aspWent t n := by
  obtain ⟨t, hx, ht, hw⟩ := aspExec_leaves (ctl := true) (i := i) (body := aspSigBody n o) hr rfl
    (⟨rfl, rfl, rfl⟩ : RegsOnly s (s.fire (48 + 2 * n + o)) n)
  refine ⟨t, hx, ?_, fun j _ => ht.spGet j, hw⟩
  rw [ht.evq]
  exact List.mem_append_right _ List.mem_cons_self

/-! ## Flags in a core's registers -/

/-- The count of messages and the bits of SP_HINT and SP_FAULT are no registers of a core. -/
theorem core_regs_apart {n : Nat} (hn : n < 16) : ∀ a ∈ [R.SP_STAT n, R.SP_PC n, R.SP_CNT n 0],
    a ≠ R.PE_CNT 2 ∧ a ≠ R.SP_HINT ∧ a ≠ R.SP_FAULT := by
  intro a ha
  simp only [List.mem_cons, List.not_mem_nil, or_false] at ha
  unfold R.SP_STAT R.SP_PC R.SP_CNT at ha
  unfold R.PE_CNT R.SP_HINT R.SP_FAULT
  obtain rfl | rfl | rfl := ha
  · omega
  · omega
  · omega

/-- HINT: the core's bit, and its interrupt. -/
theorem hint_word (hn : n < 16) {a : Nat} (h : a ∈ [R.SP_STAT n, R.SP_PC n, R.SP_CNT n 0]) :
    ((s.flag ⟨R.SP_HINT, n, 1⟩).irq (48 + n)).word a = s.word a := by
  obtain ⟨hp, hh, -⟩ := core_regs_apart hn a h
  rw [State.word_irq _ _ hp, State.word_flag_ne _ _ hh hp]

theorem hint_acts {i : Instr} (hn : n < 16) (hr : s.aspReady n) :
    ∃ t, s.does (fun s => s.aspExec n true i (aspHintBody n)) = .next t ∧ t.on ⟨R.SP_HINT, n, 1⟩ = true ∧ s.aspKeeps t n []
      ∧ s.aspWent t n := by
  have hcore : ((s.flag ⟨R.SP_HINT, n, 1⟩).irq (48 + n)).core n = s.core n :=
    core_of_sp ((State.irq_sp _ _).trans (State.flag_sp _ _)) n
  have hst := hint_word (s := s) hn (a := R.SP_STAT n) (by simp)
  obtain ⟨t, hx, ht, hw⟩ := aspExec_steps (ctl := true) (i := i) (body := aspHintBody n) hr rfl
    (fun b h => by rw [hcore, hr.2.2.1] at h; cases h)
    ⟨hint_word hn (by simp), hint_word hn (by simp), (State.irq_mem _ _).trans (State.flag_mem _ _)⟩
  refine ⟨t, hx, ?_, fun j _ => (ht.spGet j).trans ?_, hw⟩
  · have hapart : R.SP_HINT ≠ R.PE_CNT 2 := by decide
    have hne : R.SP_HINT ≠ R.SP_STAT n ∧ R.SP_HINT ≠ R.SP_PC n ∧ R.SP_HINT ≠ R.SP_CNT n 0 := by
      unfold R.SP_HINT R.SP_STAT R.SP_PC R.SP_CNT
      omega
    obtain ⟨h1, h2, h3⟩ := hne
    have hrd : t.rd ⟨R.SP_HINT, n, 1⟩ = 1 := by
      refine (congrArg (fun x : Word => getBits x.toNat n 1) (ht.word R.SP_HINT h1 h2 h3)).trans ?_
      refine (State.rd_irq (f := ⟨R.SP_HINT, n, 1⟩) _ _ hapart).trans ?_
      exact State.rd_flag_same _ _ (show n + 1 ≤ 32 by omega) rfl hapart
    rw [State.on_eq_true, hrd]
    decide
  · exact spGet_congr n (congrArg SpCore.reg hcore) (congrArg (fun x : Word => getBits x.toNat 3 1) hst) j

theorem rptBody_ok {count : Option (BitVec 12)} {k : Nat} (hk : (count.map (fun c => c.toNat + 1)).getD (s.spGet n 40) = k)
    (h : 1 ≤ k) (h' : k ≤ 4096) : aspRptBody n count s none 0 = .done (s.setCore n { s.core n with rpt := some k }) := by
  simp only [aspRptBody, hk]
  rw [if_neg (by omega)]

theorem rpt_acts {i : Instr} {count : Option (BitVec 12)} {k : Nat} (hr : s.aspReady n)
    (hk : (count.map (fun c => c.toNat + 1)).getD (s.spGet n 40) = k) (h : 1 ≤ k) (h' : k ≤ 4096) :
    ∃ t, s.does (fun s => s.aspExec n true i (aspRptBody n count)) = .next t ∧ (t.core n).rpt = some k ∧ s.aspKeeps t n []
      ∧ s.aspWent t n := by
  have hregs : RegsOnly s (s.setCore n { s.core n with rpt := some k }) n := by
    apply RegsOnly.setCore (.refl s n)
    rfl
  obtain ⟨t, hx, ht, hw⟩ := aspExec_leaves (ctl := true) (i := i) hr (rptBody_ok hk h h') hregs
  refine ⟨t, hx, ht.rpt.trans (congrArg SpCore.rpt (core_setCore s n _)), fun j _ => (ht.spGet j).trans ?_, hw⟩
  apply spGet_congr
  · rw [core_setCore]
  · rfl

end

/-- Settles O49: each instruction by what its body comes to, through the rules for branches and for instructions that execute. -/
theorem controlActs : Obligations.ControlActs := by
  unfold Obligations.ControlActs
  intro s n hr hstop hsus hstep
  refine ⟨?_, fun target => branch_keeps hr rfl, fun target c taken h => branch_keeps hr (branchBody_taken h),
    fun target h => stack_acts hr (callBody_room h), fun x r h => stack_acts hr (retBody_some h), branch_keeps hr rfl,
    fun target => loop_acts hr, wait_acts hr hstop hsus hstep, enable_acts hr, enable_acts hr, fun o => sig_acts o hr,
    hint_acts n.isLt hr, fun c => rpt_acts hr rfl (by omega) (by omega), fun h h' => rpt_acts hr rfl h h'⟩
  obtain ⟨t, hx, ht, hw⟩ := aspExec_leaves (ctl := true) (i := .aspNop n) (body := fun s _ _ => .done s) hr rfl (.refl s n)
  exact ⟨t, hx, fun j _ => ht.spGet j, hw⟩

end Sys2Proof.Machine
end

section
/-! O50: what stops a core in FAULT. -/

namespace Sys2Proof.Machine

section
variable {s : State} {n : Nat}

/-- A control instruction in a delay slot or under a repeat. -/
theorem aspExec_refused {i : Instr} {body : AspBody} (hruns : s.spRuns n = true) (h : (s.core n).br ≠ none ∨ (s.core n).rpt ≠ none) :
    s.aspExec n true i body = s.spFault n 2 := by
  have hbusy : ((s.core n).br.isNone && (s.core n).rpt.isNone) = false := by
    obtain h | h := h
    · simp [Option.isNone_eq_false_iff.mpr (Option.isSome_iff_ne_none.mpr h)]
    · simp [Option.isNone_eq_false_iff.mpr (Option.isSome_iff_ne_none.mpr h)]
  simp [State.aspExec, hruns, hbusy]

/-- An instruction that faults when it runs. -/
theorem aspExec_faults {ctl : Bool} {i : Instr} {body : AspBody} {c : Nat} (hruns : s.spRuns n = true)
    (hctl : ctl = true → (s.core n).br = none) (hrpt : (s.core n).rpt = none) (hb : body s none 0 = .fault c) :
    s.aspExec n ctl i body = s.spFault n c := by
  have hfree : (ctl && !((s.core n).br.isNone && (s.core n).rpt.isNone)) = false := by
    cases ctl with
    | false => rfl
    | true => simp [hctl rfl, hrpt]
  unfold State.aspExec
  rw [if_pos hruns]
  dsimp only
  rw [hfree, if_neg Bool.false_ne_true]
  simp only [hrpt, aspTurns, hb]

theorem branchBody_reserved {cond target : Nat} (h : s.spCond n cond = none) : aspBranchBody n cond target s none 0 = .fault 1 := by
  simp only [aspBranchBody, h]

theorem callBody_full {target : Nat} (h : 8 ≤ (s.core n).stack.length) : aspCallBody n target s none 0 = .fault 6 := by
  simp only [aspCallBody, if_pos h]

theorem retBody_empty (h : (s.core n).stack = []) : aspRetBody n s none 0 = .fault 6 := by
  simp only [aspRetBody, h]

theorem rptBody_zero (h : s.spGet n 40 = 0) : aspRptBody n none s none 0 = .fault 7 := by
  simp [aspRptBody, h]

section
variable {op : AspMem} {y : Bool} {d : Fin 16} {e : AspEcc} {a : Nat} {p : Option Nat}

theorem loadBody_reserved (h : s.spAddr n op = none) : aspLoadBody n y op d e s none 0 = .fault 1 := by
  simp only [aspLoadBody, h]

theorem loadBody_outside (h : s.spAddr n op = some (a, p)) (ha : 0x4000 ≤ a) : aspLoadBody n false op d e s none 0 = .fault 3 := by
  simp [aspLoadBody, h, State.spRead, Nat.not_lt.mpr ha]

theorem loadBody_spoilt (h : s.spAddr n op = some (a, p)) (ha : a < 0x4000) (ht : e.turn = 0) (hk : e.kind = 2) :
    aspLoadBody n y op d e s none 0 = .fault 5 := by
  simp only [aspLoadBody, h, spRead_inside y none ha, State.spEcc, ht, hk, and_self, if_true]

end

/-! ## What a fault leaves -/

theorem spFault_stat (hn : n < 16) (c : Nat) {f : FRef} (hf : f.a = R.SP_STAT n) : (s.spFault n c).rd f
    = ((s.wr (R.SP_STAT_state n) 4).wr (R.SP_STAT_fcode n) c).rd f := by
  obtain ⟨hp, -, hfa⟩ := core_regs_apart hn (R.SP_STAT n) (by simp)
  unfold State.spFault
  rw [State.rd_flag_ne _ _ (by rw [hf]; exact hfa) (by rw [hf]; exact hp)]
  exact State.rd_of_csr (State.wr_csr (State.wr_csr (by rfl) _ _) _ _) f

theorem spFault_state (hn : n < 16) (c : Nat) : (s.spFault n c).spState n = 4 := by
  refine (spFault_stat hn c rfl).trans ?_
  rw [State.rd_wr_disjoint _ _ (show 16 + 4 ≤ 32 by decide) (by rfl) (.inl (show 0 + 3 ≤ 16 by decide))]
  rw [State.rd_wr_same _ _ 4 (show 0 + 3 ≤ 32 by decide)]
  rfl

theorem spFault_code (hn : n < 16) {c : Nat} (hc : c < 16) : (s.spFault n c).rd (R.SP_STAT_fcode n) = c := by
  rw [spFault_stat hn c rfl, State.rd_wr_same _ _ c (show 16 + 4 ≤ 32 by decide)]
  exact Nat.mod_eq_of_lt hc

theorem spFault_flag (hn : n < 16) (c : Nat) : (s.spFault n c).on ⟨R.SP_FAULT, n, 1⟩ = true := by
  rw [State.on_eq_true]
  unfold State.spFault
  rw [State.rd_flag_same _ _ (show n + 1 ≤ 32 by omega) rfl (show R.SP_FAULT ≠ R.PE_CNT 2 by decide)]
  decide

theorem spFault_pc (hn : n < 16) (c : Nat) : (s.spFault n c).rd (R.SP_PC_pc n) = s.rd (R.SP_PC_pc n) := by
  obtain ⟨hp, -, hfa⟩ := core_regs_apart hn (R.SP_PC n) (by simp)
  unfold State.spFault
  rw [State.rd_flag_ne _ _ hfa hp, State.rd_wr_ne _ _ (spStat_ne_pc n).symm, State.rd_wr_ne _ _ (spStat_ne_pc n).symm]
  exact State.rd_of_csr (by rfl) _

end

/-- A step that keeps the memories keeps HBM. -/
theorem mem_of_mems {s t : State} (h : t.mems = s.mems) : t.mem = s.mem := congrArg Prod.fst h

/-- Settles O50: each instruction's fault, through the rule for an instruction that faults when it runs. -/
theorem coresFault : Obligations.CoresFault := by
  unfold Obligations.CoresFault
  intro s n hoff hruns
  have hfault : ∀ {ctl i body c}, (ctl = true → (s.core n).br = none) → (s.core n).rpt = none → body s none 0 = .fault c →
      s.does (fun s => s.aspExec n ctl i body) = .next (s.spFault n c) :=
    fun hctl hrpt hb => State.does_eq hoff (aspExec_faults hruns hctl hrpt hb)
  refine ⟨fun hbusy i hi => ?_, fun c target hbr hrpt h => hfault (fun _ => hbr) hrpt (branchBody_reserved h),
    fun target hbr hrpt h => hfault (fun _ => hbr) hrpt (callBody_full h),
    fun hbr hrpt h => hfault (fun _ => hbr) hrpt (retBody_empty h), fun hbr hrpt h => hfault (fun _ => hbr) hrpt (rptBody_zero h),
    fun y op d e hrpt h => hfault nofun hrpt (loadBody_reserved h),
    fun op d e a p hrpt h ha => hfault nofun hrpt (loadBody_outside h ha),
    fun y op d e a p hrpt h ha ht hk => hfault nofun hrpt (loadBody_spoilt h ha ht hk), 
    fun c hc => ⟨spFault_state n.isLt c, spFault_code n.isLt hc, spFault_flag n.isLt c, spFault_pc n.isLt c, mem_of_mems (spFault_mems s n c)⟩⟩
  have hrefused : ∀ {i body}, s.does (fun s => s.aspExec n true i body) = .next (s.spFault n 2) :=
    State.does_eq hoff (aspExec_refused hruns hbusy)
  simp only [List.mem_cons, List.not_mem_nil, or_false] at hi
  obtain rfl | rfl | rfl | rfl | rfl | rfl | rfl := hi
  all_goals exact hrefused

end Sys2Proof.Machine
end

section
/-! O51: the commands of a core. -/

namespace Sys2Proof.Machine

/-! ## Registers of the core's commands -/

/-- SP_CTL of core n. -/
def locSpCtl (n : Nat) : Loc := ⟨⟨.SP_CTL, 0x1000, [(16, 0x100)], false, [⟨3, 3, .wo, 0, []⟩, ⟨2, 2, .wo, 0, []⟩, ⟨0, 0, .rw, 0, []⟩]⟩,
  [n], false⟩

/-- SP_HMSG of core n. -/
def locSpHmsg (n : Nat) : Loc := ⟨⟨.SP_HMSG, 0x100C, [(16, 0x100)], false, [⟨31, 0, .rw, 0, []⟩]⟩, [n], false⟩

theorem locate_spCtl : ∀ n : Fin 16, locate (R.SP_CTL n) = some (locSpCtl n) := by decide
theorem locate_spHmsg : ∀ n : Fin 16, locate (R.SP_HMSG n) = some (locSpHmsg n) := by decide
theorem spCtl_ne_rrst : ∀ n : Fin 16, R.SP_CTL n ≠ R.MG_RRST_rst.a := by decide
theorem spHmsg_ne_rrst : ∀ n : Fin 16, R.SP_HMSG n ≠ R.MG_RRST_rst.a := by decide

/-- The port resets of the crossbar and the event counts are no registers of a core. -/
theorem core_regs_outside : ∀ n : Fin 16, R.SP_STAT n ≠ R.XB_MRST ∧ R.SP_PC n ≠ R.XB_MRST ∧ R.SP_STAT n ≠ R.EV_TSTAT (80 + n)
    ∧ R.SP_PC n ≠ R.EV_TSTAT (80 + n) ∧ R.SP_STAT n ≠ R.SP_CTL n ∧ R.SP_STAT n ≠ R.XB_CNT 5 ∧ R.SP_PC n ≠ R.XB_CNT 5 := by decide

section
variable {s : State} {m : Nat} {n : Fin 16} {w : Word}

theorem writeWord_spCtl (h : s.takes m (R.SP_CTL n) w) :
    s.writeWord m (R.SP_CTL n) w = ((s.landed m (R.SP_CTL n) w).aspWritten n w.toNat).okResp [] :=
  writeWord_effect h (locate_spCtl n) (spCtl_ne_rrst n) rfl

theorem writeWord_spHmsg (h : s.takes m (R.SP_HMSG n) w) :
    s.writeWord m (R.SP_HMSG n) w = ((s.landed m (R.SP_HMSG n) w).aspMessage n (BitVec.ofNat 32 w.toNat)).okResp [] :=
  writeWord_effect h (locate_spHmsg n) (spHmsg_ne_rrst n) rfl

/-- What a write of SP_CTL lands leaves the core alone. -/
theorem landed_spCtl (s : State) (m : Nat) (n : Fin 16) (w : Word) : (s.landed m (R.SP_CTL n) w).core n = s.core n
    ∧ (s.landed m (R.SP_CTL n) w).spState n = s.spState n ∧ (s.landed m (R.SP_CTL n) w).mem = s.mem
    ∧ (s.landed m (R.SP_CTL n) w).ck = s.ck ∧ (s.landed m (R.SP_CTL n) w).sp = s.sp := by
  have hst : (s.landed m (R.SP_CTL n) w).spState n = s.spState n :=
    rd_landed_ne (locate_spCtl n) rfl (core_regs_outside n).2.2.2.2.1
  rw [landed_eq_setWord (locate_spCtl n) rfl] at hst ⊢
  exact ⟨rfl, hst, rfl, rfl, rfl⟩

end

theorem getBits_eq_one (x i : Nat) : getBits x i 1 = 1 ↔ x.testBit i = true := by
  rw [getBits, Nat.shiftRight_eq_div_pow, Nat.testBit_eq_decide_div_mod_eq, decide_eq_true_iff, pow_one]

/-! ## Run, stop, step and reset (R341) -/

section
variable {s : State} {n : Nat} {raw : Nat}

/-- A write of SP_CTL without reset releases the core's port. -/
theorem aspWritten_kept (hrst : raw.testBit 2 = false) : s.aspWritten n raw = (s.aspControl n raw).masterRelease (2 + n) := by
  have h : ¬ getBits raw 2 1 = 1 := by rw [getBits_eq_one, hrst]; exact Bool.false_ne_true
  simp only [State.aspWritten, if_neg h]

theorem aspWritten_reset (hrst : raw.testBit 2 = true) : s.aspWritten n raw = (s.aspReset n).masterReset (2 + n) 0 := by
  have h : getBits raw 2 1 = 1 := (getBits_eq_one raw 2).mpr hrst
  simp only [State.aspWritten, State.aspControl, if_pos h]

theorem aspRelease_out (h : s.spState n ≠ 0) : s.aspRelease n = s := if_neg h

theorem aspControl_run (hrst : raw.testBit 2 = false) (hstep : raw.testBit 3 = false) (hrun : raw.testBit 0 = true)
    (hst : s.spState n = 1) (hstop : (s.core n).stepping = false) (heg : s.ck.eg = 0) :
    s.aspControl n raw = s.wr (R.SP_STAT_state n) 2 := by
  unfold State.aspControl
  rw [if_neg (by simp [getBits_eq_one, hrst]), aspRelease_out (by rw [hst]; decide)]
  simp only [getBits_eq_one, hrun, hstep, if_true, Bool.false_eq_true, decide_false, State.when, if_false, State.aspRun, hst, hstop,
    heg, and_self]

theorem aspControl_stop (hrst : raw.testBit 2 = false) (hstep : raw.testBit 3 = false) (hrun : raw.testBit 0 = false)
    (hst : s.spState n = 2 ∨ s.spState n = 3) :
    s.aspControl n raw = (s.setCore n { s.core n with stopReq := true }).spBoundary n := by
  unfold State.aspControl
  rw [if_neg (by simp [getBits_eq_one, hrst]), aspRelease_out (by omega)]
  simp only [getBits_eq_one, hrun, hstep, Bool.false_eq_true, decide_false, State.when, if_false, State.aspStop, if_pos hst]

theorem aspControl_step (hrst : raw.testBit 2 = false) (hstep : raw.testBit 3 = true) (hrun : raw.testBit 0 = false)
    (hst : s.spState n = 1) (heg : s.ck.eg = 0) :
    s.aspControl n raw = s.setCore n { s.core n with stepping := true } := by
  unfold State.aspControl
  rw [if_neg (by simp [getBits_eq_one, hrst]), aspRelease_out (by rw [hst]; decide)]
  simp only [getBits_eq_one, hrun, hstep, Bool.false_eq_true, decide_true, State.when, if_false, if_true, State.aspStop, State.aspStep,
    hst, heg, OfNat.one_ne_ofNat, or_self, and_self]

/-- A stop at an accepting boundary takes effect at once. -/
theorem spBoundary_stops (hacc : (s.core n).accepting = true) (hstep : (s.core n).stepping = false)
    (hstop : (s.core n).stopReq = true) : s.spBoundary n
      = (s.setCore n { s.core n with stopReq := false, susReq := false }).wr (R.SP_STAT_state n) 1 := by
  unfold State.spBoundary
  simp only [hacc, hstep, hstop, Bool.not_true, Bool.false_eq_true, if_false, if_true]

theorem spState_release (hn : R.SP_STAT n ≠ R.XB_MRST) (m : Nat) : (s.masterRelease m).spState n = s.spState n := by
  unfold State.spState State.masterRelease
  exact State.rd_wr_ne s _ hn

theorem spState_wr (v : Nat) : (s.wr (R.SP_STAT_state n) v).spState n = v % 8 :=
  State.rd_wr_same _ _ v (show 0 + 3 ≤ 32 by decide)

@[simp] theorem core_masterRelease (m : Nat) : (s.masterRelease m).core n = s.core n := core_wr _ _ _ _
theorem mem_masterRelease (m : Nat) : (s.masterRelease m).mem = s.mem := State.wr_mem _ _ _
theorem mem_setCore (c : SpCore) : (s.setCore n c).mem = s.mem := rfl
@[simp] theorem core_okResp (bs : Bytes) : (s.okResp bs).core n = s.core n := rfl
@[simp] theorem spState_okResp (bs : Bytes) : (s.okResp bs).spState n = s.spState n := rfl
@[simp] theorem spState_setCore (c : SpCore) : (s.setCore n c).spState n = s.spState n := rfl

end

section
variable {s : State} {m : Fin 20} {n : Fin 16} {v : Word}

/-- The bits of a write that the command does not force are those of the operand. -/
theorem force_one_bit {f : FRef} {x i : Nat} (hf : f.lo + 1 ≤ 32) (hw : f.w = 1) :
    (force v f x).toNat.testBit i = if i = f.lo then x.testBit 0 else v.toNat.testBit i := by
  rw [force_testBit (hw ▸ hf), hw]
  by_cases h : i < f.lo
  · rw [if_pos h, if_neg (by omega)]
  · by_cases h' : i = f.lo
    · subst h'
      rw [if_neg h, if_pos (by omega), if_pos rfl, Nat.sub_self]
    · rw [if_neg h, if_neg (by omega), if_neg h']

theorem exec_spCtl {i : Instr} {w : Word} (hoff : s.off = false)
    (hi : exec i s = s.does (fun s => s.writeWord m (R.SP_CTL n) w)) : exec i s = .next (s.writeWord m (R.SP_CTL n) w) :=
  hi.trans (s.does_on hoff _)

theorem aspRun_acts (h : s.takes m (R.SP_CTL n) (force v (R.SP_CTL_run n) 1)) (hrst : v.toNat.testBit 2 = false)
    (hstep : v.toNat.testBit 3 = false) (hst : s.spState n = 1) (hcore : (s.core n).stepping = false) (heg : s.ck.eg = 0) :
    ∃ t, exec (.aspRun m n v) s = .next t ∧ t.spState n = 2 ∧ t.core n = s.core n ∧ t.mem = s.mem := by
  have hbit : ∀ i, (force v (R.SP_CTL_run n) 1).toNat.testBit i = if i = 0 then true else v.toNat.testBit i :=
    fun i => force_one_bit (f := R.SP_CTL_run n) (x := 1) (show 0 + 1 ≤ 32 by decide) rfl
  have hw := writeWord_spCtl h
  obtain ⟨hc, hs, hm, hk, -⟩ := landed_spCtl s m n (force v (R.SP_CTL_run n) 1)
  rw [aspWritten_kept ((hbit 2).trans hrst), aspControl_run ((hbit 2).trans hrst) ((hbit 3).trans hstep) (hbit 0) (hs.trans hst)
    (by rw [hc, hcore]) (by rw [hk, heg])] at hw
  refine ⟨_, (exec_spCtl h.1.1 rfl).trans (congrArg _ hw), ?_, ?_, ?_⟩
  · rw [spState_okResp, spState_release (core_regs_outside n).1, spState_wr]
  · rw [core_okResp, core_masterRelease, core_wr, hc]
  · rw [State.okResp_mem, mem_masterRelease, State.wr_mem, hm]

theorem aspStop_acts (h : s.takes m (R.SP_CTL n) (force v (R.SP_CTL_run n) 0)) (hrst : v.toNat.testBit 2 = false)
    (hstep : v.toNat.testBit 3 = false) (hst : s.spState n = 2 ∨ s.spState n = 3) (hacc : (s.core n).accepting = true)
    (hcore : (s.core n).stepping = false) :
    ∃ t, exec (.aspStop m n v) s = .next t ∧ t.spState n = 1 ∧ (t.core n).reg = (s.core n).reg ∧ t.mem = s.mem := by
  have hbit : ∀ i, (force v (R.SP_CTL_run n) 0).toNat.testBit i = if i = 0 then false else v.toNat.testBit i :=
    fun i => force_one_bit (f := R.SP_CTL_run n) (x := 0) (show 0 + 1 ≤ 32 by decide) rfl
  have hw := writeWord_spCtl h
  obtain ⟨hc, hs, hm, -, -⟩ := landed_spCtl s m n (force v (R.SP_CTL_run n) 0)
  rw [aspWritten_kept ((hbit 2).trans hrst), aspControl_stop ((hbit 2).trans hrst) ((hbit 3).trans hstep) (hbit 0) (by rw [hs]; exact hst),
    hc, spBoundary_stops (by rw [core_setCore]; exact hacc) (by rw [core_setCore]; exact hcore) (by rw [core_setCore]), core_setCore]
    at hw
  refine ⟨_, (exec_spCtl h.1.1 rfl).trans (congrArg _ hw), ?_, ?_, ?_⟩
  · rw [spState_okResp, spState_release (core_regs_outside n).1, spState_wr]
  · rw [core_okResp, core_masterRelease, core_wr, core_setCore]
  · rw [State.okResp_mem, mem_masterRelease, State.wr_mem, mem_setCore, mem_setCore, hm]

theorem aspStep_acts (h : s.takes m (R.SP_CTL n) (force v (R.SP_CTL_step n) 1)) (hrst : v.toNat.testBit 2 = false)
    (hrun : v.toNat.testBit 0 = false) (hst : s.spState n = 1) (heg : s.ck.eg = 0) :
    ∃ t, exec (.aspStep m n v) s = .next t ∧ (t.core n).stepping = true ∧ t.spState n = 1 ∧ t.mem = s.mem := by
  have hbit : ∀ i, (force v (R.SP_CTL_step n) 1).toNat.testBit i = if i = 3 then true else v.toNat.testBit i :=
    fun i => force_one_bit (f := R.SP_CTL_step n) (x := 1) (show 3 + 1 ≤ 32 by decide) rfl
  have hw := writeWord_spCtl h
  obtain ⟨-, hs, hm, hk, -⟩ := landed_spCtl s m n (force v (R.SP_CTL_step n) 1)
  rw [aspWritten_kept ((hbit 2).trans hrst), aspControl_step ((hbit 2).trans hrst) (hbit 3) ((hbit 0).trans hrun) (hs.trans hst)
    (by rw [hk, heg])] at hw
  refine ⟨_, (exec_spCtl h.1.1 rfl).trans (congrArg _ hw), ?_, ?_, ?_⟩
  · rw [core_okResp, core_masterRelease, core_setCore]
  · rw [spState_okResp, spState_release (core_regs_outside n).1, spState_setCore, hs, hst]
  · rw [State.okResp_mem, mem_masterRelease, mem_setCore, hm]

/-! ### Reset -/

theorem aspReset_core (s : State) (n : Nat) : ((s.aspReset n).core n).stack = [] ∧ ((s.aspReset n).core n).inQ = []
    ∧ ((s.aspReset n).core n).outQ = [] := by
  unfold State.aspReset
  rw [core_wr, core_wr, core_wr, core_wr, core_setCore]
  exact ⟨rfl, rfl, rfl⟩

theorem aspReset_state (s : State) (n : Nat) : (s.aspReset n).spState n = 0 := by
  unfold State.aspReset State.spState
  rw [State.rd_wr_ne _ _ (spStat_ne_pc n), State.rd_wr_disjoint _ _ (show 16 + 4 ≤ 32 by decide) (by rfl) (.inl (show 0 + 3 ≤ 16 by decide)),
    State.rd_wr_disjoint _ _ (show 3 + 1 ≤ 32 by decide) (by rfl) (.inl (show 0 + 3 ≤ 3 by decide))]
  exact State.rd_wr_same _ _ 0 (show 0 + 3 ≤ 32 by decide)

theorem aspReset_pc (s : State) (n : Nat) : (s.aspReset n).rd (R.SP_PC_pc n) = 0 := by
  unfold State.aspReset
  exact State.rd_wr_same _ _ 0 (show 0 + 15 ≤ 32 by decide)

theorem rd_latch (s : State) (x : SMap Latch) (f : FRef) : ({ s with latch := x } : State).rd f = s.rd f := rfl

theorem aspReset_spMem (s : State) (n : Nat) : (s.aspReset n).sp.mem = s.sp.mem := by
  unfold State.aspReset
  rw [State.wr_sp, State.wr_sp, State.wr_sp, State.wr_sp]
  rfl

theorem aspReset_mem (s : State) (n : Nat) : (s.aspReset n).mem = s.mem := mem_of_mems (aspReset_mems s n)

/-- A reset master is quiesced; the registers of the cores stay. -/
theorem masterReset_leaves (s : State) {m : Nat} (hm : m < 20) (b : Nat) : (s.masterReset m b).quiesced m = true
    ∧ (s.masterReset m b).sp = s.sp ∧ (s.masterReset m b).mem = s.mem
    ∧ ∀ f : FRef, f.a ≠ R.XB_MRST → f.a ≠ R.XB_CNT 5 → (s.masterReset m b).rd f = s.rd f := by
  unfold State.masterReset
  generalize hu : s.wr R.XB_MRST_quiesced (setBit (s.rd R.XB_MRST_quiesced) m true) = u
  refine ⟨?_, ?_, ?_, fun f hf hc => ?_⟩
  · unfold State.quiesced
    rw [State.rd_incBy_ne _ _ (show R.XB_MRST ≠ R.XB_CNT 5 by decide), rd_latch, ← hu, State.rd_wr_same _ _ _ (by decide)]
    show (setBit (s.rd R.XB_MRST_quiesced) m true % 2 ^ 20).testBit m = true
    rw [Nat.testBit_mod_two_pow, testBit_setBit_same, decide_eq_true hm]
    rfl
  · rw [State.incBy_sp, ← State.wr_sp s R.XB_MRST_quiesced, hu]
  · rw [State.incBy_mem, ← State.wr_mem s R.XB_MRST_quiesced, hu]
  · rw [State.rd_incBy_ne _ _ hc, rd_latch, ← hu]
    exact State.rd_wr_ne _ _ hf

theorem aspReset_acts (h : s.takes m (R.SP_CTL n) (force v (R.SP_CTL_rst n) 1)) :
    ∃ t, exec (.aspReset m n v) s = .next t ∧ t.spState n = 0 ∧ (t.core n).stack = [] ∧ (t.core n).inQ = []
      ∧ (t.core n).outQ = [] ∧ t.rd (R.SP_PC_pc n) = 0 ∧ t.quiesced (2 + n) = true ∧ t.sp.mem = s.sp.mem ∧ t.mem = s.mem := by
  have hrst : (force v (R.SP_CTL_rst n) 1).toNat.testBit 2 = true :=
    force_one_bit (f := R.SP_CTL_rst n) (x := 1) (i := 2) (show 2 + 1 ≤ 32 by decide) rfl
  have hw := writeWord_spCtl h
  obtain ⟨-, -, hm, -, hsp⟩ := landed_spCtl s m n (force v (R.SP_CTL_rst n) 1)
  rw [aspWritten_reset hrst] at hw
  generalize s.landed m (R.SP_CTL n) (force v (R.SP_CTL_rst n) 1) = u at hw hm hsp
  obtain ⟨hq, hsp', hm', hrd⟩ := masterReset_leaves (u.aspReset n) (show 2 + n.val < 20 by omega) 0
  obtain ⟨hstack, hin, hout⟩ := aspReset_core u n
  have hcore : ((u.aspReset n).masterReset (2 + n) 0).core n = (u.aspReset n).core n := core_of_sp hsp' n
  obtain ⟨h1, h2, -, -, -, h3, h4⟩ := core_regs_outside n
  refine ⟨_, (exec_spCtl h.1.1 rfl).trans (congrArg _ hw), ?_, ?_, ?_, ?_, ?_, ?_, ?_, ?_⟩
  · rw [spState_okResp]
    exact (hrd (R.SP_STAT_state n) h1 h3).trans (aspReset_state u n)
  · rw [core_okResp, hcore, hstack]
  · rw [core_okResp, hcore, hin]
  · rw [core_okResp, hcore, hout]
  · rw [State.rd_okResp]
    exact (hrd (R.SP_PC_pc n) h2 h4).trans (aspReset_pc u n)
  · unfold State.quiesced at hq ⊢
    rw [State.rd_okResp, hq]
  · rw [State.okResp_sp, hsp', aspReset_spMem, hsp]
  · rw [State.okResp_mem, hm', aspReset_mem, hm]

theorem exec_hostMessage (hoff : s.off = false) : exec (.hostMessage m n v) s = .next (s.writeWord m (R.SP_HMSG n) v) := by
  apply State.does_eq hoff
  rfl

theorem hostMessage_acts (h : s.takes m (R.SP_HMSG n) v) :
    ∃ t, exec (.hostMessage m n v) s = .next t ∧ (t.core n).hmsg = true ∧ t.word (R.SP_HMSG n) = v ∧ t.mem = s.mem := by
  have hw := writeWord_spHmsg h
  rw [BitVec.ofNat_toNat, BitVec.setWidth_eq, landed_eq_setWord (locate_spHmsg n) rfl] at hw
  refine ⟨_, (exec_hostMessage h.1.1).trans (congrArg _ hw), ?_, ?_, rfl⟩
  · rw [core_okResp]
    unfold State.aspMessage
    rw [core_setCore]
  · exact State.word_setWord_same _ _ _

end

/-! ## Interrupts (R332, R333) -/

section
variable {s : State} {n : Fin 16} {i : Nat}

theorem exec_interruptAccept (hoff : s.off = false) : exec (.interruptAccept n) s = .next (s.aspInterrupt n) := by
  apply State.does_eq hoff
  rfl

/-- Accepting interrupt i. -/
def State.aspAccept (s : State) (n i : Nat) : State :=
  let c := s.core n
  let s := s.when (i = 1) (fun s => s.wr (R.EV_TSTAT_pending (80 + n)) (s.rd (R.EV_TSTAT_pending (80 + n)) - 1))
  let s := s.setCore n { c with
    rpc := s.rd (R.SP_PC_pc n)
    hdrNew := if i = 2 then [] else c.hdrNew
    hmsg := if i = 4 then false else c.hmsg }
  let s := ((s.wr (R.SP_STAT_bank n) 1).wr (R.SP_PC_pc n) (4 * i)).inc (R.SP_CNT n 3)
  s.wr (R.SP_STAT_state n) 2

theorem aspInterrupt_accepts (hst : s.spState n = 2 ∨ s.spState n = 3) (hacc : (s.core n).accepting = true)
    (hbank : s.rd (R.SP_STAT_bank n) = 0) (hen : getBits (s.spView n 5 41) 6 1 = 1)
    (hi : [1, 2, 3, 4].find? (fun i => getBits (s.spView n 5 41) (6 + i) 1 = 1 && s.spPending n i) = some i) :
    s.aspInterrupt n = s.aspAccept n i := by
  unfold State.aspInterrupt State.aspAccept
  dsimp only
  rw [if_pos ⟨hst, hacc, hbank, hen⟩, hi]

theorem aspAccept_leaves (hi : i ≤ 4) : ((s.aspAccept n i).core n).rpc = s.rd (R.SP_PC_pc n)
    ∧ (s.aspAccept n i).rd (R.SP_STAT_bank n) = 1 ∧ (s.aspAccept n i).rd (R.SP_PC_pc n) = 4 * i
    ∧ (s.aspAccept n i).spState n = 2 ∧ (s.aspAccept n i).mem = s.mem := by
  obtain ⟨-, -, -, hpt, -, -, -⟩ := core_regs_outside n
  have hpc : (s.when (i = 1) (fun s => s.wr (R.EV_TSTAT_pending (80 + n)) (s.rd (R.EV_TSTAT_pending (80 + n)) - 1))).rd
      (R.SP_PC_pc n) = s.rd (R.SP_PC_pc n) := by
    cases decide (i = 1)
    · rfl
    · exact State.rd_wr_ne (f := R.EV_TSTAT_pending (80 + n)) _ _ hpt
  have hmem : (s.when (i = 1) (fun s => s.wr (R.EV_TSTAT_pending (80 + n)) (s.rd (R.EV_TSTAT_pending (80 + n)) - 1))).mem = s.mem := by
    cases decide (i = 1) <;> rfl
  have hcnt : R.SP_STAT n ≠ R.SP_CNT n 3 ∧ R.SP_PC n ≠ R.SP_CNT n 3 := by
    unfold R.SP_STAT R.SP_PC R.SP_CNT
    omega
  unfold State.aspAccept
  dsimp only
  generalize s.when (i = 1) (fun s => s.wr (R.EV_TSTAT_pending (80 + n)) (s.rd (R.EV_TSTAT_pending (80 + n)) - 1)) = u at hpc hmem
  refine ⟨?_, ?_, ?_, ?_, ?_⟩
  · rw [core_wr, core_inc, core_wr, core_wr, core_setCore, hpc]
  · rw [bank_wr_state, State.rd_inc_ne _ hcnt.1, State.rd_wr_ne _ _ (spStat_ne_pc n), State.rd_wr_same _ _ _ (show 3 + 1 ≤ 32 by decide)]
    rfl
  · rw [State.rd_wr_ne _ _ (spStat_ne_pc n).symm, State.rd_inc_ne _ hcnt.2, State.rd_wr_same _ _ _ (show 0 + 15 ≤ 32 by decide)]
    exact Nat.mod_eq_of_lt (show 4 * i < 32768 by omega)
  · exact spState_wr 2
  · rw [State.wr_mem, State.inc_mem, State.wr_mem, State.wr_mem, mem_setCore, hmem]

end

/-- Settles O51: each command by its function's case, and the writes of SP_CTL by what its bits ask for. -/
theorem coresRun : Obligations.CoresRun := by
  unfold Obligations.CoresRun
  intro s m n v hoff
  refine ⟨fun i hst hacc hbank hen hi =>
      ⟨_, (exec_interruptAccept hoff).trans (congrArg _ (aspInterrupt_accepts hst hacc hbank hen hi)), aspAccept_leaves ?_⟩,
    fun x hx hq => ?_, fun k x ht hsrc hx => ?_, fun k ht hsrc => ?_,
    fun h hrst hstep hst hcore heg => aspRun_acts h hrst hstep hst hcore heg,
    fun h hrst hstep hst hacc hcore => aspStop_acts h hrst hstep hst hacc hcore,
    fun h hrst hrun hst heg => aspStep_acts h hrst hrun hst heg, fun h => aspReset_acts h, fun h => hostMessage_acts h⟩
  · have := List.mem_of_find?_eq_some hi
    simp only [List.mem_cons, List.not_mem_nil, or_false] at this
    omega
  · apply State.does_eq hoff
    simp only [State.externComplete, hx, hq, Bool.false_eq_true, if_false]
  · apply State.does_eq hoff
    simp only [State.aspStream, ht, hsrc, if_true, hx]
  · apply State.does_eq hoff
    simp only [State.aspStream, ht, hsrc, if_true]

end Sys2Proof.Machine
end

section
/-! O52: the listening post and its reference input. -/

namespace Sys2Proof.Machine

/-- AU_CTL. -/
def locAuCtl : Loc := ⟨⟨.AU_CTL, 0x0, [], false, [⟨2, 2, .rw, 0, []⟩, ⟨1, 1, .rw, 0, []⟩, ⟨0, 0, .rw, 0, []⟩]⟩, [], false⟩

theorem locate_auCtl : locate R.AU_CTL = some locAuCtl := by decide

section
variable {s : State} {m : Nat} {w : Word}

theorem writeWord_auCtl (h : s.takes m R.AU_CTL w) :
    s.writeWord m R.AU_CTL w = ((s.landed m R.AU_CTL w).auWritten (s.on R.AU_CTL_clk)).okResp [] :=
  writeWord_effect h locate_auCtl (by decide) rfl

theorem auWritten_changed {was : Bool} (h : s.on R.AU_CTL_clk ≠ was) :
    s.auWritten was = (s.auClock (s.on R.AU_CTL_clk)).auCheck := by
  simp only [State.auWritten, if_neg h]

/-! ## Frames (R353, R356) -/

theorem aesFrame_off (h : (s.on R.AU_CTL_en && s.hasBeam) = false) : s.aesFrame = s := by
  simp only [State.aesFrame, h, Bool.false_eq_true, if_false]

theorem aesFrame_mid {u : State} {f : Nat} (hen : s.on R.AU_CTL_en = true) (hb : s.hasBeam = true) (hi : s.auInstant = (u, f))
    (hf : f ≠ 0) (hst : u.au.status ≠ []) : s.aesFrame = u.fold (List.range 8) (fun s o => s.auOutput f o) := by
  have h : ¬ (f = 0 ∨ u.au.status = []) := by simp [hf, hst]
  simp only [State.aesFrame, hen, hb, Bool.and_self, if_true, hi, if_neg h]

theorem aesFrame_first {u : State} (hen : s.on R.AU_CTL_en = true) (hb : s.hasBeam = true) (hi : s.auInstant = (u, 0)) :
    s.aesFrame = (State.tick { u with au := { u.au with status := u.auStatus } }).fold (List.range 8) (fun s o => s.auOutput 0 o) := by
  simp only [State.aesFrame, hen, hb, Bool.and_self, if_true, hi, true_or]

/-- A gain of one leaves a sample as it is. -/
theorem gainSample_full (x : Int) {f : Nat} (hf : 0 < f) : gainSample x f f = x := by
  have hpos : (0 : Int) < f := by exact_mod_cast hf
  have hdiv : x * (f : Int) / f = x := Int.mul_ediv_cancel x hpos.ne'
  have hmod : x * (f : Int) % f = 0 := Int.mul_emod_left x f
  simp only [gainSample, hdiv, hmod, mul_zero, hpos, if_true]

/-! ## Words for the monitor buffers (R345, R346, R357) -/

theorem auAppend_room (hen : s.on R.AU_CTL_en = false) (hfl : smapGet false s.au.flush m = false) (hfill : s.auFill m < 16384) (x : Nat) :
    s.auAppend m x = s.auStore m x := by
  have h : Nat.ble auSize (s.auFill m) = false := by
    rw [← Bool.not_eq_true, Nat.ble_eq]
    exact Nat.not_le.mpr hfill
  simp only [State.auAppend, hen, Bool.false_and, Bool.false_eq_true, if_false, hfl, h]

theorem auAppend_full (hen : s.on R.AU_CTL_en = false) (hfl : smapGet false s.au.flush m = false) (hfill : 16384 ≤ s.auFill m) (x : Nat) :
    s.auAppend m x = s.auOverrun m := by
  have h : Nat.ble auSize (s.auFill m) = true := Nat.ble_eq.mpr hfill
  simp only [State.auAppend, hen, Bool.false_and, Bool.false_eq_true, if_false, hfl, h, if_true]

theorem auStore_queue (x : Nat) : smapGet [] (s.auStore m x).au.queue m = smapGet [] s.au.queue m ++ [x] :=
  smapGet_set_same _ _ _ _

/-- The oldest word of the output port of a channel that takes its words from elsewhere is dropped. -/
theorem auWord_dropped {p x : Nat} {rest : List Nat} (hp : s.auPort m = some p)
    (hq : smapGet [] (s.core (p / 4)).outQ (p % 4) = x :: rest) (hsrc : s.rd (R.AU_CHCFG_src m) ≠ 1) :
    s.auWord m none = (s.setCore (p / 4) { s.core (p / 4) with outQ := smapSet [] (s.core (p / 4)).outQ (p % 4) rest }).inc
      (R.SP_CNT (p / 4) 2) := by
  unfold State.auWord
  simp only [hp, hq]
  exact if_neg hsrc

/-! ## The reference (Table 17-2) -/

section
variable {off : Int}

/-- A measurement shows its offset; the reference's state is in another register. -/
theorem rd_auMeasured (x : Nat) : (s.wr R.AU_REFOFF_off x).rd R.AU_STATUS_ref_state = s.rd R.AU_STATUS_ref_state :=
  State.rd_wr_ne _ _ (by decide)

theorem rd_au (u : State) (x : AuState) (f : FRef) : ({ u with au := x } : State).rd f = u.rd f := rfl

theorem auMeasure_in (hst : s.rd R.AU_STATUS_ref_state = 1 ∨ s.rd R.AU_STATUS_ref_state = 2)
    (hoff : off.natAbs ≤ s.rd R.AU_REFCTL_range_ppm * 1000) : (s.auMeasure off).au.inRange = true
      ∧ (s.auMeasure off).rd R.AU_STATUS_ref_state = s.rd R.AU_STATUS_ref_state ∧ (s.auMeasure off).mem = s.mem := by
  simp only [State.auMeasure, if_pos hst, hoff, decide_true, if_true]
  have hrd := rd_auMeasured (s := s) (off % 2 ^ 32).toNat
  have hm := State.wr_mem s R.AU_REFOFF_off (off % 2 ^ 32).toNat
  generalize s.wr R.AU_REFOFF_off (off % 2 ^ 32).toNat = u at hrd hm
  exact ⟨trivial, (rd_au u _ _).trans hrd, hm⟩

theorem auMeasure_refused (hst : s.rd R.AU_STATUS_ref_state = 1) (hoff : s.rd R.AU_REFCTL_range_ppm * 1000 < off.natAbs) :
    ∃ t : State, s.auMeasure off = (t.flag R.AU_STATUS_ref_refused).wr R.AU_STATUS_ref_state 3 ∧ t.au.inRange = false
      ∧ t.mem = s.mem := by
  have hin : ¬ off.natAbs ≤ s.rd R.AU_REFCTL_range_ppm * 1000 := Nat.not_le.mpr hoff
  simp only [State.auMeasure, hst, true_or, if_true, hin, decide_false, Bool.false_eq_true, if_false, OfNat.one_ne_ofNat]
  have hm := State.wr_mem s R.AU_REFOFF_off (off % 2 ^ 32).toNat
  generalize s.wr R.AU_REFOFF_off (off % 2 ^ 32).toNat = u at hm
  exact ⟨_, rfl, rfl, hm⟩

/-- A flag of AU_STATUS set and the reference's state given: both stand. -/
theorem auStatus_flagged (t : State) {f : FRef} {x : Nat} (ha : f.a = R.AU_STATUS) (hw : f.w = 1) (hlo : 2 ≤ f.lo) (hfit : f.lo + f.w ≤ 32) :
    ((t.flag f).wr R.AU_STATUS_ref_state x).rd R.AU_STATUS_ref_state = x % 4
      ∧ ((t.flag f).wr R.AU_STATUS_ref_state x).on f = true := by
  refine ⟨State.rd_wr_same _ _ x (show 0 + 2 ≤ 32 by decide), ?_⟩
  rw [State.on_eq_true, State.rd_wr_disjoint _ _ (show 0 + 2 ≤ 32 by decide) ha (.inr (show 0 + 2 ≤ f.lo by omega)),
    State.rd_flag_same _ _ hfit hw (by rw [ha]; decide)]
  exact Nat.one_ne_zero

end

end

section
variable {s : State} {m : Fin 20} (hoff : s.off = false)
include hoff

theorem exec_aes3Frame : exec .aes3Frame s = .next s.aesFrame := by
  apply State.does_eq hoff
  rfl

theorem exec_bufferWordAppend (c : Fin 16) (x : Option Word) : exec (.bufferWordAppend c x) s = .next (s.auWord c x) := by
  apply State.does_eq hoff
  rfl

theorem exec_aes3RefMeasure (off : Int) : exec (.aes3RefMeasure off) s = .next (s.auMeasure off) := by
  apply State.does_eq hoff
  rfl

theorem exec_aes3RefLock : exec .aes3RefLock s = .next s.auLock := by
  apply State.does_eq hoff
  rfl

theorem exec_aes3RefLoss : exec .aes3RefLoss s = .next s.auLost := by
  apply State.does_eq hoff
  rfl

theorem exec_audioClockSelect (v : Word) : exec (.audioClockSelect m v) s = .next (s.writeWord m R.AU_CTL_clk.a v) := by
  apply State.does_eq hoff
  rfl

theorem bufferWord_acts {c : Fin 16} {w : Word} (hsrc : s.rd (R.AU_CHCFG_src c) = 2) (hen : s.on R.AU_CTL_en = false)
    (hfl : smapGet false s.au.flush c = false) :
    (s.auFill c < 16384 → ∃ t, exec (.bufferWordAppend c (some w)) s = .next t
        ∧ smapGet [] t.au.queue c = smapGet [] s.au.queue c ++ [w.toNat] ∧ t.csr = s.csr ∧ t.mem = s.mem)
      ∧ (16384 ≤ s.auFill c → exec (.bufferWordAppend c (some w)) s = .next (s.auOverrun c)) := by
  have hx : exec (.bufferWordAppend c (some w)) s = .next (s.auAppend c w.toNat) := by
    rw [exec_bufferWordAppend hoff]
    exact congrArg _ (if_pos hsrc)
  refine ⟨fun hfill => ⟨_, hx.trans (congrArg _ (auAppend_room hen hfl hfill _)), auStore_queue _, rfl, rfl⟩, fun hfill => ?_⟩
  rw [hx, auAppend_full hen hfl hfill]

theorem portWord_acts {c : Fin 16} {p w : Nat} {rest : List Nat} (hp : s.auPort c = some p)
    (hq : smapGet [] (s.core (p / 4)).outQ (p % 4) = w :: rest) (hsrc : s.rd (R.AU_CHCFG_src c) ≠ 1) :
    ∃ t, exec (.bufferWordAppend c none) s = .next t ∧ smapGet [] (t.core (p / 4)).outQ (p % 4) = rest
      ∧ t.au = s.au ∧ t.mem = s.mem := by
  refine ⟨_, (exec_bufferWordAppend hoff c none).trans (congrArg _ (auWord_dropped hp hq hsrc)), ?_, rfl, rfl⟩
  rw [core_inc, core_setCore]
  exact smapGet_set_same _ _ _ _

theorem measureIn_acts {off : Int} (hin : off.natAbs ≤ s.rd R.AU_REFCTL_range_ppm * 1000)
    (hst : s.rd R.AU_STATUS_ref_state = 1 ∨ s.rd R.AU_STATUS_ref_state = 2) :
    ∃ t, exec (.aes3RefMeasure off) s = .next t ∧ t.au.inRange = true
      ∧ t.rd R.AU_STATUS_ref_state = s.rd R.AU_STATUS_ref_state ∧ t.mem = s.mem :=
  ⟨_, exec_aes3RefMeasure hoff off, auMeasure_in hst hin⟩

theorem measureOut_acts {off : Int} (hout : s.rd R.AU_REFCTL_range_ppm * 1000 < off.natAbs) (hst : s.rd R.AU_STATUS_ref_state = 1) :
    ∃ t, exec (.aes3RefMeasure off) s = .next t ∧ t.au.inRange = false ∧ t.rd R.AU_STATUS_ref_state = 3
      ∧ t.on R.AU_STATUS_ref_refused = true ∧ t.mem = s.mem := by
  obtain ⟨t, hx, hin, hm⟩ := auMeasure_refused hst hout
  obtain ⟨hstate, hflag⟩ := auStatus_flagged t (f := R.AU_STATUS_ref_refused) (x := 3) rfl rfl (by decide) (by decide)
  refine ⟨_, (exec_aes3RefMeasure hoff off).trans (congrArg _ hx), ?_, hstate, hflag, ?_⟩
  · rw [State.wr_au, State.flag_au, hin]
  · rw [State.wr_mem, State.flag_mem, hm]

theorem lock_acts (hst : s.rd R.AU_STATUS_ref_state = 1) (hin : s.au.inRange = true) :
    ∃ t, exec .aes3RefLock s = .next t ∧ t.rd R.AU_STATUS_ref_state = 2 ∧ t.au.onRef = true ∧ t.mem = s.mem := by
  have hl : s.auLock = ({ s with au := { s.au with onRef := true } } : State).wr R.AU_STATUS_ref_state 2 := by
    simp only [State.auLock, if_pos (And.intro hst hin)]
  exact ⟨_, (exec_aes3RefLock hoff).trans (congrArg _ hl), State.rd_wr_same _ _ 2 (by decide), rfl, rfl⟩

theorem loss_acts (hst : s.rd R.AU_STATUS_ref_state = 2) :
    ∃ t, exec .aes3RefLoss s = .next t ∧ t.rd R.AU_STATUS_ref_state = 1 ∧ t.on R.AU_STATUS_ref_lost = true
      ∧ t.au.onRef = s.au.onRef ∧ t.mem = s.mem := by
  have hl : s.auLost = (({ s with au := { s.au with inRange := false } } : State).flag R.AU_STATUS_ref_lost).wr R.AU_STATUS_ref_state 1 := by
    simp only [State.auLost, if_pos hst]
  obtain ⟨hstate, hflag⟩ := auStatus_flagged ({ s with au := { s.au with inRange := false } } : State) (f := R.AU_STATUS_ref_lost) (x := 1)
    rfl rfl (by decide) (by decide)
  refine ⟨_, (exec_aes3RefLoss hoff).trans (congrArg _ hl), hstate, hflag, ?_, ?_⟩
  · rw [State.wr_au, State.flag_au]
  · rw [State.wr_mem, State.flag_mem]

end

/-- Settles O52: each command by its function's case. -/
theorem audioRuns : Obligations.AudioRuns := by
  unfold Obligations.AudioRuns
  intro s m hoff
  refine ⟨fun h => (exec_aes3Frame hoff).trans (congrArg _ (aesFrame_off h)),
    fun u f hen hb hi hf hst => (exec_aes3Frame hoff).trans (congrArg _ (aesFrame_mid hen hb hi hf hst)),
    fun u hen hb hi => (exec_aes3Frame hoff).trans (congrArg _ (aesFrame_first hen hb hi)), fun w f hf => ?_,
    fun c w hsrc hen hfl => bufferWord_acts hoff hsrc hen hfl, fun c p w rest hp hq hsrc => portWord_acts hoff hp hq hsrc,
    fun v u h hu hne => ?_, fun off hin hst => measureIn_acts hoff hin hst, fun off hout hst => measureOut_acts hoff hout hst,
    fun hst hin => lock_acts hoff hst hin, fun hst => loss_acts hoff hst⟩
  · rw [wordSample, gainSample_full _ hf]
  · rw [exec_audioClockSelect hoff]
    subst hu
    exact congrArg _ ((writeWord_auCtl h).trans (congrArg (fun t : State => t.okResp []) (auWritten_changed hne)))

end Sys2Proof.Machine
end

section
/-! O45: the event fabric. -/

namespace Sys2Proof.Machine

/-! ## The registers of the fabric -/

/-- EV_HOSTEV. -/
def locHostEv : Loc := ⟨⟨.EV_HOSTEV, 0x14, [], false, [⟨15, 0, .wo, 0, []⟩]⟩, [], false⟩

/-- EV_CHCFG of channel c. -/
def locChCfg (c : Nat) : Loc := ⟨⟨.EV_CHCFG, 0x1000, [(128, 0x10)], false, [⟨31, 31, .own, 0, []⟩, ⟨30, 29, .own, 0, [(0, 2)]⟩,
  ⟨28, 22, .own, 0, []⟩, ⟨21, 14, .own, 0, []⟩, ⟨13, 13, .own, 0, []⟩, ⟨12, 12, .own, 0, []⟩, ⟨11, 7, .own, 0, []⟩]⟩, [c], false⟩

/-- EV_CHOWN of channel c. -/
def locChOwn (c : Nat) : Loc := ⟨⟨.EV_CHOWN, 0x1004, [(128, 0x10)], false, [⟨7, 7, .arb, 0, []⟩, ⟨5, 4, .arb, 0, [(0, 2)]⟩,
  ⟨3, 0, .arb, 0, []⟩]⟩, [c], false⟩

theorem locate_hostEv : locate R.EV_HOSTEV = some locHostEv := by decide
theorem locate_chCfg : ∀ c : Fin 128, locate (R.EV_CHCFG c) = some (locChCfg c) := by decide
theorem locate_chOwn : ∀ c : Fin 128, locate (R.EV_CHOWN c) = some (locChOwn c) := by decide

theorem chCfg_ne_rrst : ∀ c : Fin 128, R.EV_CHCFG c ≠ R.MG_RRST_rst.a := by decide
theorem chOwn_ne_rrst : ∀ c : Fin 128, R.EV_CHOWN c ≠ R.MG_RRST_rst.a := by decide

section
variable {s : State} {m : Nat} {w : Word}

theorem writeWord_chCfg {c : Fin 128} (h : s.takes m (R.EV_CHCFG c) w) :
    s.writeWord m (R.EV_CHCFG c) w = (s.landed m (R.EV_CHCFG c) w).okResp [] :=
  writeWord_effect h (locate_chCfg c) (chCfg_ne_rrst c) rfl

theorem writeWord_chOwn {c : Fin 128} (h : s.takes m (R.EV_CHOWN c) w) :
    s.writeWord m (R.EV_CHOWN c) w = (s.landed m (R.EV_CHOWN c) w).okResp [] :=
  writeWord_effect h (locate_chOwn c) (chOwn_ne_rrst c) rfl

theorem writeWord_hostEv (h : s.takes m R.EV_HOSTEV w) : s.writeWord m R.EV_HOSTEV w
    = ((s.landed m R.EV_HOSTEV w).fold ((List.range 16).filter w.toNat.testBit) (fun s k => s.fire (32 + k))).okResp [] :=
  writeWord_effect h locate_hostEv (by decide) rfl

/-- The operand of a host event names one event. -/
theorem hostEvents_one : ∀ i : Fin 16, (List.range 16).filter (BitVec.ofNat 32 (2 ^ i.val)).toNat.testBit = [i.val] := by decide

end

/-! ## Events at an instant (R313, R314) -/

section
variable {s u : State}

/-- The group enables are in a register of their own. -/
theorem grpen_apart (i : Nat) : R.EV_GRPEN ≠ R.EV_CHSTAT i ∧ R.EV_GRPEN ≠ R.EV_CHCNT i ∧ R.EV_GRPEN ≠ R.EV_TSTAT i
    ∧ R.EV_GRPEN ≠ R.EV_CNT i ∧ R.EV_GRPEN ≠ R.EV_STATUS ∧ R.EV_GRPEN ≠ R.PE_CNT 2 := by
  unfold R.EV_GRPEN R.EV_CHSTAT R.EV_CHCNT R.EV_TSTAT R.EV_CNT R.EV_STATUS R.PE_CNT
  omega

theorem taskArrive_grpen (s : State) (t hop : Nat) : (s.taskArrive t hop).rd R.EV_GRPEN_en = s.rd R.EV_GRPEN_en := by
  obtain ⟨-, -, ht, -, hs, hp⟩ := grpen_apart t
  have hc : ∀ i, R.EV_GRPEN ≠ R.EV_CNT i := fun i => (grpen_apart i).2.2.2.1
  unfold State.taskArrive
  dsimp only
  generalize (if taskCounts t then 3 else 1) = most
  split
  · exact State.rd_inc_ne _ (hc 3)
  split
  · unfold State.taskOver
    rw [State.rd_inc_ne _ (hc 2), State.rd_flag_ne _ _ hs hp, State.rd_flag_ne _ _ ht hp]
  · have hwr : (s.wr (R.EV_TSTAT_pending t) (s.rd (R.EV_TSTAT_pending t) + 1)).rd R.EV_GRPEN_en = s.rd R.EV_GRPEN_en :=
      State.rd_wr_ne _ _ ht
    generalize s.wr (R.EV_TSTAT_pending t) (s.rd (R.EV_TSTAT_pending t) + 1) = u at hwr
    cases decide (36 ≤ t ∧ t < 40)
    · exact hwr
    · exact hwr

theorem chanEnter_grpen (s : State) (hop c : Nat) (x : State × List Nat × List Nat) :
    (s.chanEnter hop c x).1.rd R.EV_GRPEN_en = x.1.rd R.EV_GRPEN_en := by
  obtain ⟨t, on, off⟩ := x
  obtain ⟨hcs, hcc, -, -, hs, hp⟩ := grpen_apart c
  have hc : ∀ i, R.EV_GRPEN ≠ R.EV_CNT i := fun i => (grpen_apart i).2.2.2.1
  unfold State.chanEnter
  dsimp only
  split
  · rfl
  split
  · rw [State.rd_inc_ne _ (hc 0), State.rd_flag_ne _ _ hs hp, State.rd_flag_ne _ _ hcs hp]
  split
  · rw [State.rd_inc_ne _ (hc 1), State.rd_flag_ne _ _ hs hp, State.rd_flag_ne _ _ hcs hp]
  split
  · rw [taskArrive_grpen, State.rd_inc_ne _ hcc]
  split
  · rw [State.rd_inc_ne _ hcc]
  · rw [State.rd_inc_ne _ hcc]

theorem eventEnter_grpen (s : State) (x : State × List Nat × List Nat) (e : Nat × Nat) :
    (s.eventEnter x e).1.rd R.EV_GRPEN_en = x.1.rd R.EV_GRPEN_en :=
  foldl_keeps (P := fun y : State × List Nat × List Nat => y.1.rd R.EV_GRPEN_en = x.1.rd R.EV_GRPEN_en)
    (fun y c h => (chanEnter_grpen s e.2 c y).trans h) _ rfl

/-- What the events of an instant leave: their effects, and the groups that they enable and disable. -/
theorem deliverEvents_eq (s : State) (more : Nat) : s.deliverEvents more =
    let x := (s.evq.take (more + 1)).foldl s.eventEnter ({ s with evq := s.evq.drop (more + 1) }, [], [])
    let up := x.2.1.foldl (fun m g => setBit m g true) (s.rd R.EV_GRPEN_en)
    x.1.wr R.EV_GRPEN_en (x.2.2.foldl (fun m g => setBit m g false) up) := by
  have hrd : ((s.evq.take (more + 1)).foldl s.eventEnter ({ s with evq := s.evq.drop (more + 1) }, [], [])).1.rd R.EV_GRPEN_en
      = s.rd R.EV_GRPEN_en :=
    foldl_keeps (P := fun y : State × List Nat × List Nat => y.1.rd R.EV_GRPEN_en = s.rd R.EV_GRPEN_en)
      (fun y e h => (eventEnter_grpen s y e).trans h) _ rfl
  unfold State.deliverEvents
  dsimp only
  generalize (s.evq.take (more + 1)).foldl s.eventEnter ({ s with evq := s.evq.drop (more + 1) }, [], []) = x at hrd
  obtain ⟨t, on, off⟩ := x
  rw [← hrd]

/-- One event alone. -/
theorem deliver_single {e hop : Nat} {rest : List (Nat × Nat)} (hq : s.evq = (e, hop) :: rest) (hu : u = { s with evq := rest }) :
    s.deliverEvents 0 =
      let x := s.eventEnter (u, [], []) (e, hop)
      let up := x.2.1.foldl (fun m g => setBit m g true) (s.rd R.EV_GRPEN_en)
      x.1.wr R.EV_GRPEN_en (x.2.2.foldl (fun m g => setBit m g false) up) := by
  rw [deliverEvents_eq, hq, hu]
  rfl

theorem eventEnter_none {e hop : Nat} (h : ∀ c < 128, s.rd (R.EV_CHCFG_src c) ≠ e) (x : State × List Nat × List Nat) :
    s.eventEnter x (e, hop) = x := by
  have hnil : (List.range 128).filter (fun c => s.rd (R.EV_CHCFG_src c) = e) = [] := by
    rw [List.filter_eq_nil_iff]
    intro c hc
    simpa using h c (List.mem_range.mp hc)
  simp only [State.eventEnter, hnil, List.foldl_nil]

theorem eventEnter_one {e hop c : Nat} (h : (List.range 128).filter (fun c => s.rd (R.EV_CHCFG_src c) = e) = [c])
    (x : State × List Nat × List Nat) : s.eventEnter x (e, hop) = s.chanEnter hop c x := by
  simp only [State.eventEnter, h, List.foldl_cons, List.foldl_nil]

/-! ### One event, one channel -/

theorem chanEnter_shut {hop c : Nat} (h : s.chanOpen c = false) (x : State × List Nat × List Nat) : s.chanEnter hop c x = x := by
  obtain ⟨t, on, off⟩ := x
  simp only [State.chanEnter, h, Bool.not_false, if_true]

section
variable {hop c : Nat} (hopen : s.chanOpen c = true)
include hopen

theorem chanEnter_looped (hh : 4 ≤ hop) : s.chanEnter hop c (u, [], [])
    = (((u.flag (R.EV_CHSTAT_loop c)).flag R.EV_STATUS_loop).inc (R.EV_CNT 0), [], []) := by
  simp only [State.chanEnter, hopen, Bool.not_true, Bool.false_eq_true, if_false, if_pos hh]

theorem chanEnter_shielded (hh : hop < 4) (hk : s.rd (R.EV_CHCFG_dkind c) = 0)
    (hsec : (s.rd (R.EV_TSEC_sec (s.rd (R.EV_CHCFG_dst c) / 32))).testBit (s.rd (R.EV_CHCFG_dst c) % 32) = true
      ∧ s.on (R.EV_CHOWN_sec c) = false) : s.chanEnter hop c (u, [], [])
    = (((u.flag (R.EV_CHSTAT_sec_drop c)).flag R.EV_STATUS_sec_drop).inc (R.EV_CNT 1), [], []) := by
  simp only [State.chanEnter, hopen, Bool.not_true, Bool.false_eq_true, if_false, if_neg (Nat.not_le.mpr hh), hk, decide_true,
    hsec.1, hsec.2, Bool.not_false, Bool.and_self, if_true]

theorem chanEnter_task (hh : hop < 4) (hk : s.rd (R.EV_CHCFG_dkind c) = 0)
    (hsec : ¬((s.rd (R.EV_TSEC_sec (s.rd (R.EV_CHCFG_dst c) / 32))).testBit (s.rd (R.EV_CHCFG_dst c) % 32) = true
      ∧ s.on (R.EV_CHOWN_sec c) = false)) : s.chanEnter hop c (u, [], [])
    = ((u.inc (R.EV_CHCNT c)).taskArrive (s.rd (R.EV_CHCFG_dst c)) (hop + 1), [], []) := by
  have hno : ((s.rd (R.EV_TSEC_sec (s.rd (R.EV_CHCFG_dst c) / 32))).testBit (s.rd (R.EV_CHCFG_dst c) % 32)
      && !s.on (R.EV_CHOWN_sec c)) = false := by
    rwa [← Bool.not_eq_true, Bool.and_eq_true, Bool.not_eq_true']
  simp only [State.chanEnter, hopen, Bool.not_true, Bool.false_eq_true, if_false, if_neg (Nat.not_le.mpr hh), hk, decide_true,
    Bool.true_and, hno, if_true]

theorem chanEnter_enable (hh : hop < 4) (hk : s.rd (R.EV_CHCFG_dkind c) = 1) : s.chanEnter hop c (u, [], [])
    = (u.inc (R.EV_CHCNT c), [s.rd (R.EV_CHCFG_dst c) % 16], []) := by
  simp only [State.chanEnter, hopen, Bool.not_true, Bool.false_eq_true, if_false, if_neg (Nat.not_le.mpr hh), hk, one_ne_zero,
    decide_false, Bool.false_and, if_true, List.nil_append]

theorem chanEnter_disable (hh : hop < 4) (hk : s.rd (R.EV_CHCFG_dkind c) = 2) : s.chanEnter hop c (u, [], [])
    = (u.inc (R.EV_CHCNT c), [], [s.rd (R.EV_CHCFG_dst c) % 16]) := by
  simp only [State.chanEnter, hopen, Bool.not_true, Bool.false_eq_true, if_false, if_neg (Nat.not_le.mpr hh), hk, two_ne_zero,
    decide_false, Bool.false_and, OfNat.ofNat_ne_one, List.nil_append]

end

/-- Setting one of the low w bits of a number of w bits. -/
theorem setBit_lt {x w i : Nat} (hx : x < 2 ^ w) (hi : i < w) (b : Bool) : setBit x i b < 2 ^ w := by
  refine Nat.lt_pow_two_of_testBit _ fun j hj => ?_
  rw [setBit, putBits_testBit, if_neg (by omega), if_neg (by omega)]
  exact Nat.testBit_eq_false_of_lt (lt_of_lt_of_le hx (Nat.pow_le_pow_right (by decide) hj))

theorem rd_grpen_lt (s : State) : s.rd R.EV_GRPEN_en < 2 ^ 16 := getBits_lt _ _ _

/-- The groups after one has been enabled or disabled. -/
theorem rd_grpen_set (t : State) (g : Nat) (b : Bool) : (t.wr R.EV_GRPEN_en (setBit (s.rd R.EV_GRPEN_en) (g % 16) b)).rd R.EV_GRPEN_en
    = setBit (s.rd R.EV_GRPEN_en) (g % 16) b := by
  rw [State.rd_wr_same _ _ _ (by decide)]
  exact Nat.mod_eq_of_lt (setBit_lt (rd_grpen_lt s) (Nat.mod_lt _ (by decide)) b)

theorem rd_grpen_back (t : State) : (t.wr R.EV_GRPEN_en (s.rd R.EV_GRPEN_en)).rd R.EV_GRPEN_en = s.rd R.EV_GRPEN_en := by
  rw [State.rd_wr_same _ _ _ (by decide)]
  exact Nat.mod_eq_of_lt (rd_grpen_lt s)

end

section
variable {s u : State} (hoff : s.off = false)
include hoff

theorem exec_eventDelivery (more : Nat) : exec (.eventDelivery more) s = .next (s.deliverEvents more) := by
  apply State.does_eq hoff
  rfl

section
variable {e hop c : Nat} {rest : List (Nat × Nat)} (hq : s.evq = (e, hop) :: rest)
  (hc : (List.range 128).filter (fun c => s.rd (R.EV_CHCFG_src c) = e) = [c]) (hu : u = { s with evq := rest })
include hq hc hu

theorem exec_eventDelivery_one {t : State} {on off : List Nat} (h : s.chanEnter hop c (u, [], []) = (t, on, off)) :
    exec (.eventDelivery 0) s = .next (t.wr R.EV_GRPEN_en (off.foldl (fun m g => setBit m g false)
      (on.foldl (fun m g => setBit m g true) (s.rd R.EV_GRPEN_en)))) := by
  rw [exec_eventDelivery hoff, deliver_single hq hu, eventEnter_one hc, h]

theorem event_acts (hopen : s.chanOpen c = true) :
    let en := s.rd R.EV_GRPEN_en
    let dst := s.rd (R.EV_CHCFG_dst c)
    let shielded := (s.rd (R.EV_TSEC_sec (dst / 32))).testBit (dst % 32) = true ∧ s.on (R.EV_CHOWN_sec c) = false
    (4 ≤ hop → exec (.eventDelivery 0) s
      = .next ((((u.flag (R.EV_CHSTAT_loop c)).flag R.EV_STATUS_loop).inc (R.EV_CNT 0)).wr R.EV_GRPEN_en en))
    ∧ (hop < 4 → s.rd (R.EV_CHCFG_dkind c) = 0 → shielded → exec (.eventDelivery 0) s
      = .next ((((u.flag (R.EV_CHSTAT_sec_drop c)).flag R.EV_STATUS_sec_drop).inc (R.EV_CNT 1)).wr R.EV_GRPEN_en en))
    ∧ (hop < 4 → s.rd (R.EV_CHCFG_dkind c) = 0 → ¬ shielded → exec (.eventDelivery 0) s
      = .next (((u.inc (R.EV_CHCNT c)).taskArrive dst (hop + 1)).wr R.EV_GRPEN_en en))
    ∧ (hop < 4 → s.rd (R.EV_CHCFG_dkind c) = 1 →
        ∃ t, exec (.eventDelivery 0) s = .next t
          ∧ t.rd R.EV_GRPEN_en = setBit (s.rd R.EV_GRPEN_en) (s.rd (R.EV_CHCFG_dst c) % 16) true ∧ t.mem = s.mem)
    ∧ (hop < 4 → s.rd (R.EV_CHCFG_dkind c) = 2 →
        ∃ t, exec (.eventDelivery 0) s = .next t
          ∧ t.rd R.EV_GRPEN_en = setBit (s.rd R.EV_GRPEN_en) (s.rd (R.EV_CHCFG_dst c) % 16) false ∧ t.mem = s.mem) := by
  intro en dst shielded
  have hrun : ∀ {t : State} {on off : List Nat}, s.chanEnter hop c (u, [], []) = (t, on, off) → exec (.eventDelivery 0) s
      = .next (t.wr R.EV_GRPEN_en (off.foldl (fun m g => setBit m g false) (on.foldl (fun m g => setBit m g true) en))) :=
    fun h => exec_eventDelivery_one hoff hq hc hu h
  have hgroups : ∀ t : State, ∀ b, (t.wr R.EV_GRPEN_en (setBit en (dst % 16) b)).rd R.EV_GRPEN_en = setBit en (dst % 16) b :=
    fun t b => rd_grpen_set t dst b
  have hmem : ∀ x, ((u.inc (R.EV_CHCNT c)).wr R.EV_GRPEN_en x).mem = s.mem := by
    intro x
    rw [State.wr_mem, State.inc_mem, hu]
  exact ⟨fun hh => (hrun (chanEnter_looped hopen hh) :), fun hh hk hsec => (hrun (chanEnter_shielded hopen hh hk hsec) :),
    fun hh hk hsec => (hrun (chanEnter_task hopen hh hk hsec) :),
    fun hh hk => ⟨_, (hrun (chanEnter_enable hopen hh hk) :), hgroups _ true, hmem _⟩,
    fun hh hk => ⟨_, (hrun (chanEnter_disable hopen hh hk) :), hgroups _ false, hmem _⟩⟩

end

theorem event_unheard {e hop : Nat} {rest : List (Nat × Nat)} (hq : s.evq = (e, hop) :: rest)
    (h : ∀ c < 128, s.rd (R.EV_CHCFG_src c) ≠ e) :
    ∃ t, exec (.eventDelivery 0) s = .next t ∧ t.evq = rest ∧ t.rd R.EV_GRPEN_en = s.rd R.EV_GRPEN_en ∧ t.mem = s.mem := by
  refine ⟨_, exec_eventDelivery hoff 0, ?_⟩
  rw [deliver_single hq rfl, eventEnter_none h]
  exact ⟨State.wr_evq _ _ _, rd_grpen_back _, State.wr_mem _ _ _⟩

end

/-! ## Task inputs (R319) -/

section
variable {s : State}

/-- Two words of the fabric that are not one another's, nor the count of messages. -/
theorem taskStat_apart {t : Nat} (ht : t < 96) : R.EV_TSTAT t ≠ R.EV_STATUS ∧ R.EV_TSTAT t ≠ R.EV_CNT 2 ∧ R.EV_TSTAT t ≠ R.PE_CNT 2 := by
  unfold R.EV_TSTAT R.EV_STATUS R.EV_CNT R.PE_CNT
  omega

theorem taskArrive_room {t hop : Nat} (hidle : s.taskIdle t = false)
    (h : s.rd (R.EV_TSTAT_pending t) < (if taskCounts t then 3 else 1)) :
    (s.taskArrive t hop).rd (R.EV_TSTAT_pending t) = s.rd (R.EV_TSTAT_pending t) + 1 := by
  have hwr : (s.wr (R.EV_TSTAT_pending t) (s.rd (R.EV_TSTAT_pending t) + 1)).rd (R.EV_TSTAT_pending t)
      = s.rd (R.EV_TSTAT_pending t) + 1 := by
    rw [State.rd_wr_same _ _ _ (show 0 + 2 ≤ 32 by decide)]
    refine Nat.mod_eq_of_lt (show _ < 4 from ?_)
    split at h <;> omega
  unfold State.taskArrive
  simp only [hidle, Bool.false_eq_true, if_false, if_neg (Nat.not_le.mpr h), State.when]
  split
  · exact hwr
  · exact hwr

theorem taskArrive_over {t hop : Nat} (ht : t < 96) (hidle : s.taskIdle t = false)
    (h : (if taskCounts t then 3 else 1) ≤ s.rd (R.EV_TSTAT_pending t)) :
    (s.taskArrive t hop).on (R.EV_TSTAT_overrun t) = true
      ∧ (s.taskArrive t hop).rd (R.EV_TSTAT_pending t) = s.rd (R.EV_TSTAT_pending t) := by
  obtain ⟨hs, hc, hp⟩ := taskStat_apart ht
  have he : s.taskArrive t hop = s.taskOver t := by
    simp only [State.taskArrive, hidle, Bool.false_eq_true, if_false, if_pos h]
  rw [he, State.on_eq_true]
  unfold State.taskOver
  refine ⟨?_, ?_⟩
  · rw [State.rd_inc_ne _ hc, State.rd_flag_ne _ _ hs hp, State.rd_flag_same _ _ (show 7 + 1 ≤ 32 by decide) rfl hp]
    exact Nat.one_ne_zero
  · rw [State.rd_inc_ne _ hc, State.rd_flag_ne _ _ hs hp,
      State.rd_flag_disjoint _ _ (show 7 + 1 ≤ 32 by decide) (by rfl) (.inl (show 0 + 2 ≤ 7 by decide)) hp]

theorem taskExecute_acts {t fine : Nat} (ht : t < 80) (hn : s.rd (R.EV_TSTAT_pending t) ≠ 0) : s.taskExecute t fine
    = (s.wr (R.EV_TSTAT_pending t) (s.rd (R.EV_TSTAT_pending t) - 1)).taskAct t fine := by
  unfold State.taskExecute State.taskTake
  rw [if_neg (by omega)]
  exact if_neg hn

theorem taskExecute_idle {t fine : Nat} (hn : s.rd (R.EV_TSTAT_pending t) = 0) : s.taskExecute t fine = s := by
  unfold State.taskExecute State.taskTake
  split
  · rfl
  · exact if_pos hn

/-! ## Pins (R321) -/

theorem evioEdge_held {p : Nat} {rise : Bool} {held : Nat} (hdir : s.on (R.EV_IO_dir p) = false) (hl : s.ev.level.testBit p ≠ rise)
    (hf : s.rd (R.EV_IO_filt p) ≤ held) : s.evioEdge p rise held
      = (State.when { s with ev := { s.ev with level := setBit s.ev.level p rise } }
        ((s.rd (R.EV_IO_edge p)).testBit (if rise then 0 else 1)) (·.fire (16 + p))) := by
  unfold State.evioEdge
  rw [if_neg (by simp [hdir, hl]), if_neg (Nat.not_lt.mpr hf)]
  rfl

theorem evioEdge_short {p : Nat} {rise : Bool} {held : Nat} (hdir : s.on (R.EV_IO_dir p) = false) (hl : s.ev.level.testBit p ≠ rise)
    (hf : held < s.rd (R.EV_IO_filt p)) : s.evioEdge p rise held = s.inc (R.EV_CNT 4) := by
  unfold State.evioEdge
  rw [if_neg (by simp [hdir, hl]), if_pos hf]

theorem evioDrive_leaves (s : State) (p : Nat) (b : Bool) : (s.evioDrive p b).ev.pulse = s.ev.pulse
    ∧ (s.evioDrive p b).ev.drive.testBit p = b ∧ (s.evioDrive p b).csr = s.csr ∧ (s.evioDrive p b).mem = s.mem := by
  unfold State.evioDrive
  split
  · next h => exact ⟨rfl, h, rfl, rfl⟩
  · exact ⟨rfl, testBit_setBit_same _ _ _, rfl, rfl⟩

theorem evioPulseEnd_falls {p : Nat} (h : p ∈ s.ev.pulse) : s.evioPulseEnd p
    = (({ s with ev := { s.ev with pulse := s.ev.pulse.filter (· ≠ p) } } : State).evioDrive p false) := by
  unfold State.evioPulseEnd
  rw [if_pos (by simpa using h)]

end

section
variable {s : State} (hoff : s.off = false)
include hoff

theorem exec_taskExecute (t : Fin 96) (fine : Nat) : exec (.taskExecute t fine) s = .next (s.taskExecute t fine) := by
  apply State.does_eq hoff
  rfl

theorem exec_evioEdge (p : Fin 16) (rise : Bool) (held : Nat) : exec (.evioEdge p rise held) s = .next (s.evioEdge p rise held) := by
  apply State.does_eq hoff
  rfl

theorem exec_evioPulseEnd (p : Fin 16) : exec (.evioPulseEnd p) s = .next (s.evioPulseEnd p) := by
  apply State.does_eq hoff
  rfl

theorem edge_acts {p : Fin 16} {rise : Bool} {held : Nat} (hdir : s.on (R.EV_IO_dir p) = false) (hl : s.ev.level.testBit p ≠ rise)
    (hf : s.rd (R.EV_IO_filt p) ≤ held) :
    ∃ t, exec (.evioEdge p rise held) s = .next t ∧ t.ev.level.testBit p = rise
      ∧ t.evq = (if (s.rd (R.EV_IO_edge p)).testBit (if rise then 0 else 1) then s.evq ++ [(16 + p.val, 0)] else s.evq)
      ∧ t.csr = s.csr ∧ t.mem = s.mem := by
  refine ⟨_, (exec_evioEdge hoff p rise held).trans (congrArg _ (evioEdge_held hdir hl hf)), ?_⟩
  have hlevel := testBit_setBit_same s.ev.level p rise
  cases (s.rd (R.EV_IO_edge p)).testBit (if rise then 0 else 1)
  · exact ⟨hlevel, rfl, rfl, rfl⟩
  · exact ⟨hlevel, rfl, rfl, rfl⟩

theorem pulse_acts {p : Fin 16} (h : p.val ∈ s.ev.pulse) :
    ∃ t, exec (.evioPulseEnd p) s = .next t ∧ t.ev.pulse = s.ev.pulse.filter (· ≠ p.val)
      ∧ t.ev.drive.testBit p = false ∧ t.csr = s.csr ∧ t.mem = s.mem :=
  ⟨_, (exec_evioPulseEnd hoff p).trans (congrArg _ (evioPulseEnd_falls h)), evioDrive_leaves _ _ _⟩

theorem exec_channelConfigWrite {m : Fin 20} (c : Fin 128) (v : Word) :
    exec (.channelConfigWrite m c v) s = .next (s.writeWord m (R.EV_CHCFG c) v) := by
  apply State.does_eq hoff
  rfl

theorem exec_channelOwnerWrite {m : Fin 20} (c : Fin 128) (v : Word) :
    exec (.channelOwnerWrite m c v) s = .next (s.writeWord m (R.EV_CHOWN c) v) := by
  apply State.does_eq hoff
  rfl

theorem exec_hostEvent {m : Fin 20} (i : Fin 16) :
    exec (.hostEvent m i) s = .next (s.writeWord m R.EV_HOSTEV (BitVec.ofNat 32 (2 ^ i.val))) := by
  apply State.does_eq hoff
  rfl

theorem hostEvent_acts {m : Fin 20} {i : Fin 16} (h : s.takes m R.EV_HOSTEV (BitVec.ofNat 32 (2 ^ i.val))) :
    ∃ t, exec (.hostEvent m i) s = .next t ∧ t.evq = s.evq ++ [(32 + i.val, 0)] ∧ t.resp.error = false ∧ t.mem = s.mem := by
  have hw := writeWord_hostEv h
  rw [hostEvents_one, landed_eq_setWord locate_hostEv rfl] at hw
  exact ⟨_, (exec_hostEvent hoff i).trans (congrArg _ hw), rfl, rfl, rfl⟩

end

/-- Settles O45: events, task inputs, pins and channel writes by the cases of their functions. -/
theorem eventsRun : Obligations.EventsRun := by
  unfold Obligations.EventsRun
  intro s m hoff
  refine ⟨fun i h => hostEvent_acts hoff h, fun more => (exec_eventDelivery hoff more).trans (congrArg _ (deliverEvents_eq s more)),
    fun e hop rest hq h => event_unheard hoff hq h, fun e hop rest c u hq hc hshut hu =>
      exec_eventDelivery_one hoff hq hc hu (chanEnter_shut hshut _), fun e hop rest c u hq hc hopen hu =>
      event_acts hoff hq hc hu hopen,
    fun t fine ht hn => (exec_taskExecute hoff t fine).trans (congrArg _ (taskExecute_acts ht hn)),
    fun t fine hn => (exec_taskExecute hoff t fine).trans (congrArg _ (taskExecute_idle hn)),
    fun t hop ht hidle => ⟨fun h => taskArrive_room hidle h, fun h => taskArrive_over ht hidle h⟩,
    fun p rise held hdir hl hf => edge_acts hoff hdir hl hf,
    fun p rise held hdir hl hf => (exec_evioEdge hoff p rise held).trans (congrArg _ (evioEdge_short hdir hl hf)),
    fun p h => pulse_acts hoff h, fun c v h => (exec_channelConfigWrite hoff c v).trans (congrArg _ (writeWord_chCfg h)),
    fun c v h => (exec_channelOwnerWrite hoff c v).trans (congrArg _ (writeWord_chOwn h))⟩

end Sys2Proof.Machine
end

section
/-! O39: the crossbar, the DMA engine and the doorbell. -/

namespace Sys2Proof.Machine

/-! ## Master resets (R303) -/

section
variable {s : State}

theorem masterReset_latch (s : State) (m b : Nat) : (s.masterReset m b).latchOf m = default := by
  unfold State.latchOf smapGet State.masterReset
  rw [State.incBy_latch]
  generalize s.wr R.XB_MRST_quiesced (setBit (s.rd R.XB_MRST_quiesced) m true) = u
  exact congrArg (fun o : Option Latch => o.getD default) (smapFind_erase_same u.latch m)

theorem masterReset_count (s : State) (m b : Nat) : ((s.masterReset m b).word (R.XB_CNT 5)).toNat
    = min ((s.word (R.XB_CNT 5)).toNat + b) 0xFFFFFFFF := by
  have hw := s.word_wr_ne (f := R.XB_MRST_quiesced) (setBit (s.rd R.XB_MRST_quiesced) m true) (show R.XB_CNT 5 ≠ R.XB_MRST by decide)
  unfold State.masterReset
  generalize s.wr R.XB_MRST_quiesced (setBit (s.rd R.XB_MRST_quiesced) m true) = u at hw
  rw [State.word_incBy_same, State.word_of_csr (s := u) (by rfl), hw]

theorem testBit_setBit_ne {x i j : Nat} (h : j ≠ i) (b : Bool) : (setBit x i b).testBit j = x.testBit j := by
  rw [setBit, putBits_testBit]
  by_cases hj : j < i
  · rw [if_pos hj]
  · rw [if_neg hj, if_neg (by omega)]

theorem masterReset_others (s : State) {m k : Nat} (b : Nat) (hk : k < 20) (hne : k ≠ m) :
    (s.masterReset m b).quiesced k = s.quiesced k := by
  have hr : (s.wr R.XB_MRST_quiesced (setBit (s.rd R.XB_MRST_quiesced) m true)).rd R.XB_MRST_quiesced
      = setBit (s.rd R.XB_MRST_quiesced) m true % 2 ^ 20 := State.rd_wr_same _ _ _ (by decide)
  unfold State.masterReset State.quiesced
  generalize s.wr R.XB_MRST_quiesced (setBit (s.rd R.XB_MRST_quiesced) m true) = u at hr
  rw [State.rd_incBy_ne _ _ (show R.XB_MRST ≠ R.XB_CNT 5 by decide), rd_latch, hr, Nat.testBit_mod_two_pow, testBit_setBit_ne hne,
    decide_eq_true hk, Bool.true_and]

theorem resetMaster_alone (s : State) (m b : Nat) : s.resetMaster m [] b = s.masterReset m b := by
  unfold State.resetMaster
  split <;> rfl

end

/-! ## The registers of the DMA engine and of the doorbell -/

/-- XB_DMACTL of channel c. -/
def locDmaCtl (c : Nat) : Loc := ⟨⟨.XB_DMACTL, 0x1000, [(8, 0x40)], false, [⟨3, 3, .arb, 0, []⟩, ⟨2, 2, .wo, 0, []⟩, ⟨1, 1, .wo, 0, []⟩]⟩,
  [c], false⟩

/-- XB_MBXDB. -/
def locMbxDb : Loc := ⟨⟨.XB_MBXDB, 0x20, [], false, [⟨3, 0, .wo, 0, []⟩]⟩, [], false⟩

theorem locate_dmaCtl : ∀ c : Fin 8, locate (R.XB_DMACTL c) = some (locDmaCtl c) := by decide
theorem locate_mbxDb : locate R.XB_MBXDB = some locMbxDb := by decide
theorem dmaCtl_ne_rrst : ∀ c : Fin 8, R.XB_DMACTL c ≠ R.MG_RRST_rst.a := by decide

section
variable {s : State} {m : Nat} {w : Word}

theorem writeWord_dmaCtl {c : Fin 8} (h : s.takes m (R.XB_DMACTL c) w) : s.writeWord m (R.XB_DMACTL c) w
    = (((s.landed m (R.XB_DMACTL c) w).when (w.toNat.testBit 2) (fun s => s.dmaAbort c)).when (w.toNat.testBit 1)
        (fun s => s.dmaGo c)).okResp [] :=
  writeWord_effect h (locate_dmaCtl c) (dmaCtl_ne_rrst c) rfl

theorem writeWord_mbxDb (h : s.takes m R.XB_MBXDB w) : s.writeWord m R.XB_MBXDB w
    = ((s.landed m R.XB_MBXDB w).doorbell (w.toNat % 16) ((s.landed m R.XB_MBXDB w).secure m 0)).okResp [] :=
  writeWord_effect h locate_mbxDb (by decide) rfl

end

theorem doorbell_busy {s : State} {slot : Nat} {sec : Bool} (h : (s.rd R.XB_MBXBUSY_busy).testBit slot = true) :
    s.doorbell slot sec = s.inc (R.XB_CNT 6) := by
  unfold State.doorbell
  rw [if_pos h]

theorem doorbell_free {s : State} {slot : Nat} {sec : Bool} (h : (s.rd R.XB_MBXBUSY_busy).testBit slot = false) :
    let t := s.wr R.XB_MBXBUSY_busy (setBit (s.rd R.XB_MBXBUSY_busy) slot true)
    s.doorbell slot sec = State.mbxSettle 16 { t with xb := { t.xb with mbxQ := t.xb.mbxQ ++ [(slot, sec)] } } := by
  intro t
  unfold State.doorbell
  rw [if_neg (by rw [h]; exact Bool.false_ne_true)]

/-! ## A channel's registers (R304) -/

theorem dmaStat_apart : ∀ c : Fin 8, R.XB_DMASTAT c ≠ R.XB_DMACUR c ∧ R.XB_DMASTAT c ≠ R.XB_DMACUR c + 4
    ∧ R.XB_DMACUR c ≠ R.XB_DMASTAT c ∧ R.XB_DMACUR c + 4 ≠ R.XB_DMASTAT c ∧ R.XB_DMASTAT c ≠ R.PE_CNT 2 := by decide

section
variable {s : State} {c : Nat}

theorem dmaState_wr (s : State) (c v : Nat) : (s.wr (R.XB_DMASTAT_state c) v).dmaState c = v % 8 :=
  State.rd_wr_same _ _ v (show 0 + 3 ≤ 32 by decide)

theorem dmaErr_wr_state (s : State) (c v : Nat) : (s.wr (R.XB_DMASTAT_state c) v).rd (R.XB_DMASTAT_err c) = s.rd (R.XB_DMASTAT_err c) := by
  apply State.rd_wr_disjoint
  · exact show 0 + 3 ≤ 32 by decide
  · rfl
  · exact .inr (show 0 + 3 ≤ 4 by decide)

theorem dmaErr_wr_pend (s : State) (c v : Nat) : (s.wr (R.XB_DMASTAT_pend c) v).rd (R.XB_DMASTAT_err c) = s.rd (R.XB_DMASTAT_err c) := by
  apply State.rd_wr_disjoint
  · exact show 3 + 1 ≤ 32 by decide
  · rfl
  · exact .inr (show 3 + 1 ≤ 4 by decide)

theorem dmaPend_wr_state (s : State) (c v : Nat) : (s.wr (R.XB_DMASTAT_state c) v).rd (R.XB_DMASTAT_pend c) = s.rd (R.XB_DMASTAT_pend c) := by
  apply State.rd_wr_disjoint
  · exact show 0 + 3 ≤ 32 by decide
  · rfl
  · exact .inr (show 0 + 3 ≤ 3 by decide)

theorem dmaState_wr_pend (s : State) (c v : Nat) : (s.wr (R.XB_DMASTAT_pend c) v).dmaState c = s.dmaState c := by
  apply State.rd_wr_disjoint
  · exact show 3 + 1 ≤ 32 by decide
  · rfl
  · exact .inl (show 0 + 3 ≤ 3 by decide)

theorem dmaState_wr_err (s : State) (c v : Nat) : (s.wr (R.XB_DMASTAT_err c) v).dmaState c = s.dmaState c := by
  apply State.rd_wr_disjoint
  · exact show 4 + 4 ≤ 32 by decide
  · rfl
  · exact .inl (show 0 + 3 ≤ 4 by decide)

theorem dmaErr_wr (s : State) (c v : Nat) : (s.wr (R.XB_DMASTAT_err c) v).rd (R.XB_DMASTAT_err c) = v % 16 :=
  State.rd_wr_same _ _ v (show 4 + 4 ≤ 32 by decide)

theorem dmaPend_wr (s : State) (c v : Nat) : (s.wr (R.XB_DMASTAT_pend c) v).rd (R.XB_DMASTAT_pend c) = v % 2 :=
  State.rd_wr_same _ _ v (show 3 + 1 ≤ 32 by decide)

/-- A channel that is not running starts at its descriptor. -/
theorem dmaGo_starts (c : Fin 8) (hst : s.dmaState c ≠ 1) (hq : s.quiesced 18 = false) :
    (s.dmaGo c).dmaState c = 1 ∧ (s.dmaGo c).rq (R.XB_DMACUR c) = s.rq (R.XB_DMADESC c) % 2 ^ 40
      ∧ (s.dmaGo c).rd (R.XB_DMASTAT_err c) = 0 ∧ (s.dmaGo c).on (R.XB_DMASTAT_pend c) = false ∧ (s.dmaGo c).mem = s.mem := by
  obtain ⟨-, -, h1, h2, -⟩ := dmaStat_apart c
  have hcur : (s.wq (R.XB_DMACUR c) (s.rq (R.XB_DMADESC c) % 2 ^ 40)).rq (R.XB_DMACUR c) = s.rq (R.XB_DMADESC c) % 2 ^ 40 := by
    rw [State.rq_wq_same]
    exact Nat.mod_eq_of_lt ((Nat.mod_lt _ (by decide)).trans (by decide))
  have hmem : (s.wq (R.XB_DMACUR c) (s.rq (R.XB_DMADESC c) % 2 ^ 40)).mem = s.mem := State.wq_mem _ _ _
  have hgo : s.dmaGo c = (((s.wq (R.XB_DMACUR c) (s.rq (R.XB_DMADESC c) % 2 ^ 40)).wr (R.XB_DMASTAT_err c) 0).wr
      (R.XB_DMASTAT_pend c) 0).wr (R.XB_DMASTAT_state c) 1 := by
    unfold State.dmaGo
    rw [if_neg hst, hq, if_neg Bool.false_ne_true]
  rw [hgo]
  generalize s.wq (R.XB_DMACUR c) (s.rq (R.XB_DMADESC c) % 2 ^ 40) = u at hcur hmem
  refine ⟨dmaState_wr _ _ 1, ?_, ?_, ?_, ?_⟩
  · rw [State.rq_wr_ne _ _ h1 h2, State.rq_wr_ne _ _ h1 h2, State.rq_wr_ne _ _ h1 h2, hcur]
  · rw [dmaErr_wr_state, dmaErr_wr_pend, dmaErr_wr]
  · rw [State.on, dmaPend_wr_state, dmaPend_wr]
    rfl
  · rw [State.wr_mem, State.wr_mem, State.wr_mem, hmem]

/-- A running channel is marked by go and stopped by abort. -/
theorem dmaRunning_acts (hst : s.dmaState c = 1) : (s.dmaGo c).on (R.XB_DMASTAT_pend c) = true ∧ (s.dmaGo c).dmaState c = 1
    ∧ (s.dmaAbort c).dmaState c = 4 ∧ (s.dmaAbort c).on (R.XB_DMASTAT_pend c) = false ∧ (s.dmaAbort c).mem = s.mem := by
  unfold State.dmaGo State.dmaAbort
  rw [if_pos hst, if_pos hst]
  refine ⟨?_, ?_, dmaState_wr _ _ 4, ?_, ?_⟩
  · rw [State.on, dmaPend_wr]
    rfl
  · rw [dmaState_wr_pend, hst]
  · rw [State.on, dmaPend_wr_state, dmaPend_wr]
    rfl
  · rw [State.wr_mem, State.wr_mem]

/-- A channel that stops for an error, without a mark in its descriptor. -/
theorem dmaFail_plain (s : State) {c : Nat} (hc : c < 8) {err : Nat} (herr : err < 16) (ctl : Nat) :
    (s.dmaFail c err ctl false).dmaState c = 3 ∧ (s.dmaFail c err ctl false).rd (R.XB_DMASTAT_err c) = err
      ∧ (170 + c, 0) ∈ (s.dmaFail c err ctl false).evq ∧ (s.dmaFail c err ctl false).mem = s.mem := by
  obtain ⟨-, -, -, -, hp⟩ := dmaStat_apart ⟨c, hc⟩
  have he : s.dmaFail c err ctl false
      = ((((s.wr (R.XB_DMASTAT_state c) 3).wr (R.XB_DMASTAT_err c) err).wr (R.XB_DMASTAT_pend c) 0).irq (24 + c)).fire (170 + c) := rfl
  rw [he]
  refine ⟨?_, ?_, ?_, ?_⟩
  · unfold State.dmaState
    rw [State.rd_fire, State.rd_irq _ _ hp]
    exact (dmaState_wr_pend _ _ _).trans ((dmaState_wr_err _ _ _).trans (dmaState_wr _ _ 3))
  · rw [State.rd_fire, State.rd_irq _ _ hp, dmaErr_wr_pend, dmaErr_wr]
    exact Nat.mod_eq_of_lt herr
  · exact List.mem_append_right _ List.mem_cons_self
  · rw [State.fire_mem, State.irq_mem, State.wr_mem, State.wr_mem, State.wr_mem]

end

/-! ## One descriptor -/

/-- What channel c does with a descriptor that it has read. -/
def State.dmaJudge (w : State) (c : Nat) (bs : Bytes) (e ecc : Bool) (d : Bytes) : State :=
  if leAt d 4 4 < 4 ∨ 16777216 < leAt d 4 4 ∨ leAt d 4 4 % 4 ≠ 0 then w.dmaFail c 2 (leAt d 0 4) true
  else if ecc then w.busError.dmaFail c 1 (leAt d 0 4) true
  else if (leAt d 0 4).testBit 0 ∧ (e ∨ bs.length ≠ leAt d 4 4) then w.dmaFail c 1 (leAt d 0 4) true
  else
    let r := dmaCopy (leAt d 4 4 + 1) c (if (leAt d 0 4).testBit 0 then some bs else none) ((leAt d 0 4).testBit 1) (leAt d 8 8)
      (leAt d 16 8) (leAt d 4 4) w
    r.2.elim (r.1.dmaDone c (leAt d 0 4)) (fun x => r.1.dmaFail c x (leAt d 0 4) true)

section
variable {s : State} {c : Nat} {bs : Bytes} {e ecc : Bool} (hst : s.dmaState c = 1) (hq : s.quiesced 18 = false)
include hst hq

theorem dmaStep_runs : ¬(s.dmaState c ≠ 1 ∨ s.quiesced 18 = true) := by
  rw [hst, hq]
  decide

theorem dmaStep_misaligned (ha : s.rq (R.XB_DMACUR c) % 32 ≠ 0) : s.dmaStep c bs e ecc = s.dmaFail c 3 0 false := by
  delta State.dmaStep
  rw [if_neg (dmaStep_runs hst hq)]
  generalize s.rq (R.XB_DMACUR c) = cur at ha
  revert cur
  refine id fun cur ha => ?_
  exact if_pos ha

theorem dmaStep_unread {w : State} (ha : s.rq (R.XB_DMACUR c) % 32 = 0)
    (hr : s.access 18 c (s.rq (R.XB_DMACUR c)) (.read 32) = (w, none)) :
    s.dmaStep c bs e ecc = w.dmaFail c (dmaCause (s.rq (R.XB_DMACUR c))) 0 false := by
  delta State.dmaStep
  rw [if_neg (dmaStep_runs hst hq)]
  generalize s.rq (R.XB_DMACUR c) = cur at ha hr
  revert cur
  refine id fun cur ha hr => ?_
  dsimp only
  rw [if_neg (not_not.mpr ha), hr]

theorem dmaStep_read {w : State} {d : Bytes} (ha : s.rq (R.XB_DMACUR c) % 32 = 0)
    (hr : s.access 18 c (s.rq (R.XB_DMACUR c)) (.read 32) = (w, some d)) :
    s.dmaStep c bs e ecc = w.dmaJudge c bs e ecc d := by
  delta State.dmaStep State.dmaJudge
  rw [if_neg (dmaStep_runs hst hq)]
  generalize s.rq (R.XB_DMACUR c) = cur at ha hr
  revert cur
  refine id fun cur ha hr => ?_
  dsimp only
  rw [if_neg (not_not.mpr ha), hr]
  dsimp only
  generalize leAt d 0 4 = ctl
  generalize leAt d 4 4 = len
  generalize leAt d 8 8 = src
  generalize leAt d 16 8 = dst
  generalize State.dmaDone = finish
  generalize State.dmaFail = fail
  revert ctl len src dst finish fail
  refine id fun ctl len src dst finish fail => ?_
  generalize dmaCopy (len + 1) c (if ctl.testBit 0 = true then some bs else none) (ctl.testBit 1) src dst len w = r
  obtain ⟨u, x⟩ := r
  cases x <;> rfl

end

section
variable {w u : State} {c : Nat} {bs d : Bytes} {e ecc : Bool}

theorem dmaJudge_badLength (hl : leAt d 4 4 < 4 ∨ 16777216 < leAt d 4 4 ∨ leAt d 4 4 % 4 ≠ 0) :
    w.dmaJudge c bs e ecc d = w.dmaFail c 2 (leAt d 0 4) true := if_pos hl

variable (hl : ¬(leAt d 4 4 < 4 ∨ 16777216 < leAt d 4 4 ∨ leAt d 4 4 % 4 ≠ 0))
include hl

theorem dmaJudge_ecc : w.dmaJudge c bs e true d = w.busError.dmaFail c 1 (leAt d 0 4) true := by
  unfold State.dmaJudge
  rw [if_neg hl, if_pos rfl]

theorem dmaJudge_host (hh : (leAt d 0 4).testBit 0 = true ∧ (e = true ∨ bs.length ≠ leAt d 4 4)) :
    w.dmaJudge c bs e false d = w.dmaFail c 1 (leAt d 0 4) true := by
  unfold State.dmaJudge
  rw [if_neg hl, if_neg Bool.false_ne_true, if_pos hh]

section
variable (hh : (leAt d 0 4).testBit 0 = true → e = false ∧ bs.length = leAt d 4 4)
include hh

/-- The copy decides. -/
theorem dmaJudge_copies {x : Option Nat}
    (hc : dmaCopy (leAt d 4 4 + 1) c (if (leAt d 0 4).testBit 0 = true then some bs else none)
      ((leAt d 0 4).testBit 1) (leAt d 8 8) (leAt d 16 8) (leAt d 4 4) w = (u, x)) :
    w.dmaJudge c bs e false d = x.elim (u.dmaDone c (leAt d 0 4)) (fun x => u.dmaFail c x (leAt d 0 4) true) := by
  have hhost : ¬((leAt d 0 4).testBit 0 = true ∧ (e = true ∨ bs.length ≠ leAt d 4 4)) := by
    rintro ⟨hb, hx⟩
    obtain ⟨he, hlen⟩ := hh hb
    simp [he, hlen] at hx
  unfold State.dmaJudge
  rw [if_neg hl, if_neg Bool.false_ne_true, if_neg hhost]
  dsimp only
  rw [hc]

theorem dmaJudge_failed {x : Nat}
    (hc : dmaCopy (leAt d 4 4 + 1) c (if (leAt d 0 4).testBit 0 = true then some bs else none)
      ((leAt d 0 4).testBit 1) (leAt d 8 8) (leAt d 16 8) (leAt d 4 4) w = (u, some x)) :
    w.dmaJudge c bs e false d = u.dmaFail c x (leAt d 0 4) true := by
  rw [dmaJudge_copies hl hh hc, Option.elim_some]

theorem dmaJudge_copied
    (hc : dmaCopy (leAt d 4 4 + 1) c (if (leAt d 0 4).testBit 0 = true then some bs else none)
      ((leAt d 0 4).testBit 1) (leAt d 8 8) (leAt d 16 8) (leAt d 4 4) w = (u, none)) :
    w.dmaJudge c bs e false d = u.dmaDone c (leAt d 0 4) := by
  rw [dmaJudge_copies hl hh hc, Option.elim_none]

end

end

section
variable {s : State} {m : Fin 20} (hoff : s.off = false)
include hoff

theorem exec_masterReset (bursts : Nat) : exec (.masterReset m [] bursts) s = .next (s.masterReset m bursts) := by
  apply State.does_eq hoff
  exact resetMaster_alone s m bursts

theorem masterReset_acts (bursts : Nat) : ∃ t, exec (.masterReset m [] bursts) s = .next t ∧ t.quiesced m = true
    ∧ t.latchOf m = default ∧ (t.word (R.XB_CNT 5)).toNat = min ((s.word (R.XB_CNT 5)).toNat + bursts) 0xFFFFFFFF
    ∧ (∀ k : Fin 20, k ≠ m → t.quiesced k = s.quiesced k) ∧ t.mem = s.mem := by
  obtain ⟨hq, -, hm, -⟩ := masterReset_leaves s m.isLt bursts
  exact ⟨_, exec_masterReset hoff bursts, hq, masterReset_latch s m bursts, masterReset_count s m bursts,
    fun k hk => masterReset_others s bursts k.isLt fun h => hk (Fin.ext h), hm⟩

theorem exec_dmaDescriptorComplete (c : Fin 8) (bs : Bytes) (e ecc : Bool) :
    exec (.dmaDescriptorComplete c bs ⟨e, ecc⟩) s = .next (s.dmaStep c bs e ecc) := by
  apply State.does_eq hoff
  rfl

theorem exec_dmaGo (c : Fin 8) (v : Word) :
    exec (.dmaGo m c v) s = .next (s.writeWord m (R.XB_DMACTL c) (force v (R.XB_DMACTL_go c) 1)) := by
  apply State.does_eq hoff
  rfl

theorem exec_dmaAbort (c : Fin 8) (v : Word) :
    exec (.dmaAbort m c v) s = .next (s.writeWord m (R.XB_DMACTL c) (force v (R.XB_DMACTL_abort c) 1)) := by
  apply State.does_eq hoff
  rfl

theorem exec_mailboxDoorbell (v : Word) : exec (.mailboxDoorbell m v) s = .next (s.writeWord m R.XB_MBXDB v) := by
  apply State.does_eq hoff
  rfl

theorem dmaGo_acts (c : Fin 8) {v : Word} (h : s.takes m (R.XB_DMACTL c) (force v (R.XB_DMACTL_go c) 1))
    (hv : v.toNat.testBit 2 = false) : exec (.dmaGo m c v) s
      = .next (((s.landed m (R.XB_DMACTL c) (force v (R.XB_DMACTL_go c) 1)).dmaGo c).okResp []) := by
  have hbit : ∀ i, (force v (R.XB_DMACTL_go c) 1).toNat.testBit i = if i = 1 then true else v.toNat.testBit i :=
    fun i => force_one_bit (f := R.XB_DMACTL_go c) (x := 1) (show 1 + 1 ≤ 32 by decide) rfl
  have hw := writeWord_dmaCtl h
  rw [hbit 1, (hbit 2).trans hv] at hw
  simp only [State.when, if_true, Bool.false_eq_true, if_false] at hw
  exact (exec_dmaGo hoff c v).trans (congrArg _ hw)

theorem dmaAbort_acts (c : Fin 8) {v : Word} (h : s.takes m (R.XB_DMACTL c) (force v (R.XB_DMACTL_abort c) 1))
    (hv : v.toNat.testBit 1 = false) : exec (.dmaAbort m c v) s
      = .next (((s.landed m (R.XB_DMACTL c) (force v (R.XB_DMACTL_abort c) 1)).dmaAbort c).okResp []) := by
  have hbit : ∀ i, (force v (R.XB_DMACTL_abort c) 1).toNat.testBit i = if i = 2 then true else v.toNat.testBit i :=
    fun i => force_one_bit (f := R.XB_DMACTL_abort c) (x := 1) (show 2 + 1 ≤ 32 by decide) rfl
  have hw := writeWord_dmaCtl h
  rw [hbit 2, (hbit 1).trans hv] at hw
  simp only [State.when, if_true, Bool.false_eq_true, if_false] at hw
  exact (exec_dmaAbort hoff c v).trans (congrArg _ hw)

end

/-- Settles O39: resets, writes of XB_DMACTL, the steps of a channel through its cases, and the doorbell. -/
theorem fabricRuns : Obligations.FabricRuns := by
  unfold Obligations.FabricRuns
  intro s m hoff
  refine ⟨fun bursts => masterReset_acts hoff bursts, ?_, ?_, fun c hst hq => dmaGo_starts c hst hq, fun c hst => dmaRunning_acts hst,
    fun c bs e ecc hst hq ha => ?_, fun c w bs e ecc hst hq ha hr => ?_, fun c d w bs e ecc hst hq ha hr => ?_,
    fun c u d w bs hst hq ha hr h1 h2 h3 hh hc => ?_, ?_, fun slot sec => ⟨doorbell_busy, doorbell_free⟩⟩
  · rintro c v w L rfl rfl h hv
    exact dmaGo_acts hoff c h hv
  · rintro c v w L rfl rfl h hv
    exact dmaAbort_acts hoff c h hv
  · exact ⟨_, (exec_dmaDescriptorComplete hoff c bs e ecc).trans (congrArg _ (dmaStep_misaligned hst hq ha)),
      dmaFail_plain s c.isLt (by decide) 0⟩
  · exact (exec_dmaDescriptorComplete hoff c bs e ecc).trans (congrArg _ (dmaStep_unread hst hq ha hr))
  · have hread : ∀ ecc, exec (.dmaDescriptorComplete c bs ⟨e, ecc⟩) s = .next (w.dmaJudge c bs e ecc d) := fun ecc =>
      (exec_dmaDescriptorComplete hoff c bs e ecc).trans (congrArg _ (dmaStep_read hst hq ha hr))
    refine ⟨fun hl => (hread ecc).trans (congrArg _ (dmaJudge_badLength hl)), fun h1 h2 h3 => ?_⟩
    have hl : ¬(leAt d 4 4 < 4 ∨ 16777216 < leAt d 4 4 ∨ leAt d 4 4 % 4 ≠ 0) := by omega
    exact ⟨(hread true).trans (congrArg _ (dmaJudge_ecc hl)),
      fun hb hx => (hread false).trans (congrArg _ (dmaJudge_host hl ⟨hb, hx⟩)),
      fun u x hh hc => (hread false).trans (congrArg _ (dmaJudge_failed hl hh hc))⟩
  · have hl : ¬(leAt d 4 4 < 4 ∨ 16777216 < leAt d 4 4 ∨ leAt d 4 4 % 4 ≠ 0) := by omega
    exact (exec_dmaDescriptorComplete hoff c bs false false).trans (congrArg _ ((dmaStep_read hst hq ha hr).trans
      (dmaJudge_copied hl (fun hb => ⟨rfl, hh hb⟩) hc)))
  · rintro v L rfl h
    exact (exec_mailboxDoorbell hoff v).trans (congrArg _ (writeWord_mbxDb h))

end Sys2Proof.Machine
end

section
/-! O44: the events of the configuration store. -/

namespace Sys2Proof.Machine

/-! ## What an answer in the mailbox leaves of the registers -/

theorem mbxRespond_rd (s : State) (slot status : Nat) (p : Bytes) {f : FRef} (hb : f.a ≠ R.XB_MBXBUSY) (hp : f.a ≠ R.PE_CNT 2) :
    (s.mbxRespond slot status p).rd f = s.rd f := by
  unfold State.mbxRespond
  dsimp only
  rw [State.rd_irq _ _ hp, State.rd_wr_ne (f := R.XB_MBXBUSY_busy) _ _ hb]
  exact State.rd_of_csr (by rfl) f

theorem mbxSettle_rd (k : Nat) (s : State) {f : FRef} (hb : f.a ≠ R.XB_MBXBUSY) (hp : f.a ≠ R.PE_CNT 2) :
    (State.mbxSettle k s).rd f = s.rd f := by
  induction k generalizing s with
  | zero => rfl
  | succ k ih =>
    unfold State.mbxSettle
    split
    · rfl
    dsimp only
    split
    · rfl
    split
    · rw [ih, mbxRespond_rd _ _ _ _ hb hp]
    split
    · rw [ih, mbxRespond_rd _ _ _ _ hb hp]
    · rfl

theorem mbxAnswer_rd (s : State) (r : MbxReq) (status : Nat) (p : Bytes) {f : FRef} (hb : f.a ≠ R.XB_MBXBUSY) (hp : f.a ≠ R.PE_CNT 2) :
    (s.mbxAnswer r status p).rd f = s.rd f :=
  (mbxSettle_rd 16 _ hb hp).trans (mbxRespond_rd _ _ _ _ hb hp)

/-! ## Full loads (R367, R368) -/

section
variable {s : State} {k : Nat}

/-- A full load without the load in progress. -/
def State.unloading (s : State) : State := { s with cf := { s.cf with loading := none } }

/-- What a full load that took effect leaves in CF_STATUS and its count. -/
def State.fullTaken (t : State) (k : Nat) : State := ((t.wr R.CF_STATUS_cfg_state 2).wr R.CF_STATUS_src_slot k).inc (R.CF_CNT 0)

/-- What a full load that failed leaves there. -/
def State.fullLost (t : State) : State := (t.wr R.CF_STATUS_cfg_state 3).inc (R.CF_CNT 2)

theorem endFull_good (h : (s.unloading.applyFull k).2 = true) :
    s.endFull k true = ((s.unloading.applyFull k).1.fullTaken k, true) := by
  unfold State.endFull State.unloading at *
  dsimp only
  generalize State.applyFull { s with cf := { s.cf with loading := none } } k = x at h ⊢
  obtain ⟨t, good⟩ := x
  obtain rfl : good = true := h
  simp only [Bool.and_self, if_true, State.fullTaken]

theorem endFull_bad {ok : Bool} (h : ok = false ∨ (s.unloading.applyFull k).2 = false) :
    s.endFull k ok = (s.unloading.fullLost, false) := by
  unfold State.endFull State.unloading at *
  dsimp only
  generalize State.applyFull { s with cf := { s.cf with loading := none } } k = x at h ⊢
  obtain ⟨t, good⟩ := x
  have hno : (ok && good) = false := by
    obtain h | h := h
    · rw [h, Bool.false_and]
    · rw [show good = false from h, Bool.and_false]
  simp only [hno, Bool.false_eq_true, if_false, State.fullLost]

section
variable {slot : Nat} {sec : Bool} {q : List (Nat × Bool)} (hl : s.cf.loading = some k) (hq : s.xb.mbxQ = (slot, sec) :: q)
include hl hq

theorem fullComplete_good (h : (s.unloading.applyFull k).2 = true) :
    s.fullComplete true = ((s.unloading.applyFull k).1.fullTaken k).cfDone (s.mbxRead slot sec) := by
  simp only [State.fullComplete, hl, hq, endFull_good h]

theorem fullComplete_bad {ok : Bool} (h : ok = false ∨ (s.unloading.applyFull k).2 = false) : s.fullComplete ok
    = s.unloading.fullLost.tick.mbxAnswer (s.mbxRead slot sec) 1 [(Config.freeBits s.unloading.fullLost.fresh).setWidth 8] := by
  simp only [State.fullComplete, hl, hq, endFull_bad h]

end

theorem fullTaken_state (t : State) (k : Nat) : (t.fullTaken k).rd R.CF_STATUS_cfg_state = 2 := by
  unfold State.fullTaken
  rw [State.rd_inc_ne _ (by decide), State.rd_wr_disjoint _ _ (by decide) (by rfl) (.inl (by decide)),
    State.rd_wr_same _ _ _ (by decide)]
  rfl

theorem fullLost_state (t : State) : t.fullLost.rd R.CF_STATUS_cfg_state = 3 := by
  unfold State.fullLost
  rw [State.rd_inc_ne _ (by decide), State.rd_wr_same _ _ _ (by decide)]
  rfl

/-- A full load that takes effect shows so behind its answer. -/
theorem fullDone_state (t : State) (k : Nat) (r : MbxReq) : ((t.fullTaken k).cfDone r).rd R.CF_STATUS_cfg_state = 2 := by
  unfold State.cfDone
  rw [mbxAnswer_rd _ _ _ _ (by decide) (by decide), fullTaken_state]

theorem fullFailed_state (t : State) (r : MbxReq) (p : Bytes) :
    (t.fullLost.tick.mbxAnswer r 1 p).rd R.CF_STATUS_cfg_state = 3 := by
  rw [mbxAnswer_rd _ _ _ _ (by decide) (by decide)]
  exact fullLost_state t

theorem fullLoadDone_configured {ok : Bool} (hn : s.on R.MG_STATUS_noconf = false) : s.fullLoadDone ok = s.fullComplete ok := by
  simp only [State.fullLoadDone, hn, Bool.false_and, Bool.false_eq_true, if_false]

theorem fullLoadDone_opens {ok : Bool} (hn : s.on R.MG_STATUS_noconf = true) (hl : s.cf.loading = some k)
    (h : (s.fullComplete ok).rd R.CF_STATUS_cfg_state = 2) : s.fullLoadDone ok = (s.fullComplete ok).openChecks := by
  simp only [State.fullLoadDone, hn, hl, h, Option.isSome_some, Bool.and_self, decide_true, if_true]

theorem fullLoadDone_stays {ok : Bool} (h : (s.fullComplete ok).rd R.CF_STATUS_cfg_state ≠ 2) : s.fullLoadDone ok = s.fullComplete ok := by
  simp only [State.fullLoadDone, h, decide_false, Bool.and_false, Bool.false_eq_true, if_false]

/-! ## Region loads (R369 to R373) -/

variable {p : RegionLoad}

/-- A region load starts. -/
def State.regionStarted (s : State) (p : RegionLoad) : State :=
  { s with cf := { s.cf with pending := some { p with started := true } } }

section
variable (hp : s.cf.pending = some p)
include hp

theorem regionApply_due (hst : p.started = false) (hdue : s.reached p.bound = true ∧ s.regionClear p.kind p.bound = true) :
    s.regionApply = (s.regionStarted p).when (p.kind = 6) (fun s => s.fold (List.range 16) (fun s m => s.auQuiet m)) := by
  simp only [State.regionApply, hp, hst, hdue.1, hdue.2, Bool.not_false, Bool.and_self, if_true, State.regionStarted]

theorem regionApply_early (hdue : ¬(s.reached p.bound = true ∧ s.regionClear p.kind p.bound = true)) : s.regionApply = s := by
  have h : (s.reached p.bound && s.regionClear p.kind p.bound && !p.started) = false := by
    rw [← Bool.and_eq_true, Bool.not_eq_true] at hdue
    rw [hdue, Bool.false_and]
  simp only [State.regionApply, hp, h, Bool.false_eq_true, if_false]

theorem regionComplete_good (hst : p.started = true) :
    s.regionComplete true = ((s.regionOver).regionTake p).inc (R.CF_CNT 1) := by
  simp only [State.regionComplete, hp, hst, Bool.not_true, Bool.false_eq_true, if_false, if_true]

theorem regionComplete_bad (hst : p.started = true) : s.regionComplete false
    = ((((s.regionOver).flag R.CF_STATUS_rl_fail).inc (R.CF_CNT 2)).health 10 0 2 0 s.curRound).resignFault.toUnsync := by
  simp only [State.regionComplete, hp, hst, Bool.not_true, Bool.false_eq_true, if_false]

end

/-! ## The repair log (R375, R376) -/

theorem logAppend_writes {x : LogRec} {rest : List LogRec} {bad : Nat} (h : s.cf.logDue = x :: rest) (hup : s.ig.arbDown = false)
    {t : State} (ht : t = State.logWrite { s with cf := { s.cf with logDue := rest } } x (min bad (logPlaces - 1))) :
    s.logAppend bad = (t.when (decide (57344 ≤ t.cf.since)) State.checkpoint).showActiveRepairs := by
  subst ht
  simp only [State.logAppend, h, hup, Bool.false_eq_true, if_false]

end

section
variable {s : State} (hoff : s.off = false)
include hoff

theorem exec_fullLoadComplete (ok : Bool) : exec (.fullLoadComplete ok) s = .next (s.fullLoadDone ok) := by
  apply State.does_eq hoff
  rfl

theorem exec_regionLoadApply : exec .regionLoadApply s = .next s.regionApply := by
  apply State.does_eq hoff
  rfl

theorem exec_regionLoadComplete (ok : Bool) : exec (.regionLoadComplete ok) s = .next (s.regionComplete ok) := by
  apply State.does_eq hoff
  rfl

theorem exec_repairLogAppend (bad : Nat) : exec (.repairLogAppend bad) s = .next (s.logAppend bad) := by
  apply State.does_eq hoff
  rfl

section
variable {k slot : Nat} {sec : Bool} {q : List (Nat × Bool)} (hl : s.cf.loading = some k) (hq : s.xb.mbxQ = (slot, sec) :: q)
include hl hq

theorem fullLoad_taken (h : (s.unloading.applyFull k).2 = true) :
    (s.on R.MG_STATUS_noconf = false → exec (.fullLoadComplete true) s
      = .next (((s.unloading.applyFull k).1.fullTaken k).cfDone (s.mbxRead slot sec)))
    ∧ (s.on R.MG_STATUS_noconf = true → exec (.fullLoadComplete true) s
      = .next (((s.unloading.applyFull k).1.fullTaken k).cfDone (s.mbxRead slot sec)).openChecks) := by
  have hc := fullComplete_good hl hq h
  rw [exec_fullLoadComplete hoff]
  refine ⟨fun hn => ?_, fun hn => ?_⟩
  · rw [fullLoadDone_configured hn, hc]
  · rw [fullLoadDone_opens hn hl (by rw [hc, fullDone_state]), hc]

theorem fullLoad_lost {ok : Bool} (h : ok = false ∨ (s.unloading.applyFull k).2 = false) : exec (.fullLoadComplete ok) s
    = .next (s.unloading.fullLost.tick.mbxAnswer (s.mbxRead slot sec) 1
        [(Config.freeBits s.unloading.fullLost.fresh).setWidth 8]) := by
  have hc := fullComplete_bad hl hq h
  rw [exec_fullLoadComplete hoff, fullLoadDone_stays, hc]
  rw [hc, fullFailed_state]
  decide

end

theorem regionApply_acts {p : RegionLoad} (hp : s.cf.pending = some p) (hst : p.started = false)
    (hdue : s.reached p.bound = true ∧ s.regionClear p.kind p.bound = true) :
    (p.kind ≠ 6 → exec .regionLoadApply s = .next (s.regionStarted p))
    ∧ (p.kind = 6 → exec .regionLoadApply s = .next ((s.regionStarted p).fold (List.range 16) (fun t m => t.auQuiet m))) := by
  rw [exec_regionLoadApply hoff, regionApply_due hp hst hdue]
  refine ⟨fun hk => ?_, fun hk => ?_⟩
  · rw [decide_eq_false hk]
    rfl
  · rw [decide_eq_true hk]
    rfl

theorem logAppend_acts {x : LogRec} {rest : List LogRec} {bad : Nat} {t : State} (h : s.cf.logDue = x :: rest)
    (hup : s.ig.arbDown = false)
    (ht : t = State.logWrite { s with cf := { s.cf with logDue := rest } } x (min bad (logPlaces - 1))) :
    (t.cf.since < 57344 → exec (.repairLogAppend bad) s = .next t.showActiveRepairs)
    ∧ (57344 ≤ t.cf.since → exec (.repairLogAppend bad) s = .next t.checkpoint.showActiveRepairs) := by
  rw [exec_repairLogAppend hoff, logAppend_writes h hup ht]
  generalize t.cf.since = n
  refine ⟨fun hn => ?_, fun hn => ?_⟩
  · rw [decide_eq_false (Nat.not_le.mpr hn)]
    rfl
  · rw [decide_eq_true hn]
    rfl

end

/-- Settles O44: full loads, region loads and the log by the cases of their functions. -/
theorem configurationMoves : Obligations.ConfigurationMoves := by
  unfold Obligations.ConfigurationMoves
  intro s hoff
  refine ⟨fun k slot sec q hl hq => ⟨fun h => fullLoad_taken hoff hl hq h, fun ok h => fullLoad_lost hoff hl hq h⟩,
    fun p hp hst => ⟨fun hdue => (regionApply_acts hoff hp hst hdue).1, fun hdue => (regionApply_acts hoff hp hst hdue).2,
      fun hdue => (exec_regionLoadApply hoff).trans (congrArg _ (regionApply_early hp hdue))⟩,
    fun p hp hst => ⟨(exec_regionLoadComplete hoff true).trans (congrArg _ (regionComplete_good hp hst)),
      (exec_regionLoadComplete hoff false).trans (congrArg _ (regionComplete_bad hp hst))⟩,
    fun x rest bad t h hup ht => logAppend_acts hoff h hup ht⟩

end Sys2Proof.Machine
end

section
/-! O43: the configuration operations of the mailbox. -/

namespace Sys2Proof.Machine

section
variable {s : State} {r : MbxReq} (h : s.mbxHead = some r)
include h

/-! ## Slots (R363, R366) -/

theorem containerWrite_stores (hop : r.op = 0x20) (hk : r.slotArg ≤ 3) (hlen : leAt r.payload 12 8 ≤ maxContainer)
    (huse : s.slotInUse r.slotArg = false) (hsize : leAt r.payload 4 8 + leAt r.payload 12 8 ≤ s.hbmSize) {t : State}
    (ht : t = ((s.stPut (slotBase r.slotArg) (s.bytes (leAt r.payload 4 8) (leAt r.payload 12 8))).incBy
      (R.CF_SLOTWR_writes r.slotArg).a 1).showSlot r.slotArg) (hct : t.ctLen r.slotArg = leAt r.payload 12 8) :
    (t.ctReason r.slotArg = none → s.containerWrite = (t.wr (R.CF_SLOT_state r.slotArg) 2).cfDone r)
    ∧ (∀ x, t.ctReason r.slotArg = some x → s.containerWrite = (t.wr (R.CF_SLOT_state r.slotArg) 4).cfRefuse r x) := by
  rw [State.containerWrite, mbxOp_inHand h hop]
  dsimp only
  generalize leAt r.payload 12 8 = len at *
  generalize leAt r.payload 4 8 = src at *
  rw [if_neg (Nat.not_lt.mpr hk), if_neg (Nat.not_lt.mpr hlen), if_neg (by rw [huse]; simp [hsize]), ← ht,
    if_neg (not_not.mpr hct)]
  refine ⟨fun hr => ?_, fun x hr => ?_⟩
  · rw [hr]
  · rw [hr]

theorem containerVerify_good (hop : r.op = 0x21) (hk : r.slotArg ≤ 3) (h0 : s.slotState r.slotArg ≠ 0)
    (h3 : s.slotState r.slotArg ≠ 3) (hr : s.ctReason r.slotArg = none) :
    s.containerVerify = (s.wr (R.CF_SLOT_state r.slotArg) 2).cfDone r := by
  have hv : s.reverify r.slotArg = (s.wr (R.CF_SLOT_state r.slotArg) 2, none) := by
    rw [State.reverify, if_neg h0, hr]
    simp only [State.when, bne_iff_ne, ne_eq, h3, not_false_eq_true, if_true]
  rw [State.containerVerify, mbxOp_inHand h hop, if_neg (Nat.not_lt.mpr hk), hv]

theorem containerVerify_bad {x : Nat} (hop : r.op = 0x21) (hk : r.slotArg ≤ 3) (h0 : s.slotState r.slotArg ≠ 0)
    (hr : s.ctReason r.slotArg = some x) : s.containerVerify = (s.wr (R.CF_SLOT_state r.slotArg) 4).cfRefuse r x := by
  have hv : s.reverify r.slotArg = (s.wr (R.CF_SLOT_state r.slotArg) 4, some x) := by
    rw [State.reverify, if_neg h0, hr]
    simp only [State.when, bne_iff_ne, ne_eq, h0, not_false_eq_true, if_true]
  rw [State.containerVerify, mbxOp_inHand h hop, if_neg (Nat.not_lt.mpr hk), hv]

theorem slotEmpty_empties (hop : r.op = 0x22) (hk : r.slotArg ≤ 3) (huse : s.slotInUse r.slotArg = false) :
    s.slotEmpty = (s.wr (R.CF_SLOT_state r.slotArg) 0).cfDone r := by
  rw [State.slotEmpty, mbxOp_inHand h hop, if_neg (Nat.not_lt.mpr hk), if_neg (by rw [huse]; exact Bool.false_ne_true)]

theorem slotEmpty_refused (hop : r.op = 0x22) (hk : r.slotArg ≤ 3) (huse : s.slotInUse r.slotArg = true) :
    s.slotEmpty = s.cfRefuse r 6 := by
  rw [State.slotEmpty, mbxOp_inHand h hop, if_neg (Nat.not_lt.mpr hk), if_pos huse]

theorem slotMarkGood_marks (hop : r.op = 0x25) (hk : r.slotArg ≤ 3) (hs : s.slotState r.slotArg = 2) :
    s.slotMarkGood = (s.wr (R.CF_SLOT_state r.slotArg) 3).cfDone r := by
  rw [State.slotMarkGood, mbxOp_inHand h hop, if_pos ⟨hk, hs⟩]

omit h in
/-- A GOOD slot whose container verifies stays as it is. -/
theorem reverify_good {k : Nat} (hs : s.slotState k = 3) (hr : s.ctReason k = none) : s.reverify k = (s, none) := by
  rw [State.reverify, if_neg (by rw [hs]; decide), hr]
  simp only [State.when, hs, bne_self_eq_false, Bool.false_eq_true, if_false]

/-! ## Loads (R367, R369) -/

section
variable (hk : r.slotArg ≤ 3) (hs : s.slotState r.slotArg = 3) (hr : s.ctReason r.slotArg = none)
include hk hs hr

theorem fullLoad_starts (hop : r.op = 0x23) (hf : s.fullReason r.slotArg = none) :
    (s.fullFits r.slotArg = true → s.fullLoad
      = State.wr { s with cf := { s.cf with loading := some r.slotArg } } R.CF_STATUS_cfg_state 1)
    ∧ (s.fullFits r.slotArg = false → s.fullLoad = s.cfRefuseFree r) := by
  rw [State.fullLoad, mbxOp_inHand h hop]
  dsimp only
  rw [if_neg (Nat.not_lt.mpr hk), reverify_good hs hr]
  dsimp only
  rw [hf]
  exact ⟨fun hfit => if_pos hfit, fun hfit => if_neg (by rw [hfit]; exact Bool.false_ne_true)⟩

theorem fullLoad_refused {x : Nat} (hop : r.op = 0x23) (hf : s.fullReason r.slotArg = some x) : s.fullLoad = s.cfRefuse r x := by
  rw [State.fullLoad, mbxOp_inHand h hop]
  dsimp only
  rw [if_neg (Nat.not_lt.mpr hk), reverify_good hs hr]
  dsimp only
  rw [hf]

section
variable {x : Sec} (hop : r.op = 0x24) (hx : (s.sections r.slotArg).head? = some x)
include hop hx

theorem regionLoad_refused {y : Nat}
    (hy : s.regionReason r.slotArg x (s.bindTo (byteAt r.payload 1 = 1) (leAt r.payload 4 8)) = some y) :
    s.regionLoad = s.cfRefuse r y := by
  rw [State.regionLoad, mbxOp_inHand h hop]
  dsimp only
  rw [if_neg (Nat.not_lt.mpr hk), reverify_good hs hr]
  dsimp only
  rw [hx]
  dsimp only
  rw [hy]

theorem regionLoad_binds {b : Nat} {p : RegionLoad} (hb : s.bindTo (byteAt r.payload 1 = 1) (leAt r.payload 4 8) = some b)
    (hy : s.regionReason r.slotArg x (some b) = none)
    (hp : p = ⟨r.slotArg, x.kind, b, s.ctEpoch r.slotArg, leNat x.digest, s.secRecords x, s.secBlob x, false⟩) :
    (s.regionFits p = true → s.regionLoad
      = (((State.wr { s with cf := { s.cf with pending := some p } } R.CF_STATUS_rl_pending 1).wr
        R.CF_STATUS_rl_kind x.kind).wq R.CF_RLBND b).cfDone r)
    ∧ (s.regionFits p = false → s.regionLoad = s.cfRefuseFree r) := by
  rw [State.regionLoad, mbxOp_inHand h hop]
  dsimp only
  rw [if_neg (Nat.not_lt.mpr hk), reverify_good hs hr]
  dsimp only
  rw [hx]
  dsimp only
  rw [hb, hy]
  dsimp only
  rw [Option.getD_some, ← hp]
  exact ⟨fun hfit => if_pos hfit, fun hfit => if_neg (by rw [hfit]; exact Bool.false_ne_true)⟩

end
end

/-! ## Keys (R363) -/

section
variable (hop : r.op = 0x26) (hsec : r.secure = true)
include hop hsec

theorem keyProgram_programs (ht : byteAt r.payload 1 = 0) (hn : byteAt r.payload 0 ≤ 3)
    (hfree : (s.rd R.CF_KEYS_prog).testBit (byteAt r.payload 0) = false) : s.keyProgram
      = (State.wr { s with cf := { s.cf with keys := smapSet 0 s.cf.keys (byteAt r.payload 0) (leAt r.payload 8 96) } }
          R.CF_KEYS_prog (setBit (s.rd R.CF_KEYS_prog) (byteAt r.payload 0) true)).cfDone r := by
  rw [State.keyProgram, mbxOp_inHand h hop]
  dsimp only
  rw [if_neg (not_not.mpr ht), if_neg (by rw [hsec]; exact Bool.false_ne_true), if_neg (by rw [hfree]; simp [hn])]
  rfl

theorem keyProgram_refused (ht : byteAt r.payload 1 = 0)
    (hset : (s.rd R.CF_KEYS_prog).testBit (byteAt r.payload 0) = true) : s.keyProgram = s.cfRefuse r 5 := by
  rw [State.keyProgram, mbxOp_inHand h hop]
  dsimp only
  rw [if_neg (not_not.mpr ht), if_neg (by rw [hsec]; exact Bool.false_ne_true), if_pos (.inr hset)]

theorem keyRevoke_revokes (ht : byteAt r.payload 1 = 1) (hn : byteAt r.payload 0 ≤ 3)
    (hset : (s.rd R.CF_KEYS_prog).testBit (byteAt r.payload 0) = true) : s.keyRevoke
      = (s.wr R.CF_KEYS_revoked (setBit (s.rd R.CF_KEYS_revoked) (byteAt r.payload 0) true)).cfDone r := by
  rw [State.keyRevoke, mbxOp_inHand h hop]
  dsimp only
  rw [if_neg (by rw [ht]; decide), if_neg (by rw [hsec, ht]; decide), if_neg (by rw [hset]; simp [hn])]

end

/-! ## Repairs (R377) -/

section
variable (hop : r.op = 0x27)
include hop

theorem repairClear_clears (hkind : byteAt r.payload 0 = 1) (hunit : byteAt r.payload 1 < 24) (hm : s.on R.IG_CTL_maint = true)
    (hrep : s.on (lineRepaired (byteAt r.payload 1)) = true) (hpos : s.rd (lineOut (byteAt r.payload 1)) = leAt r.payload 2 2) :
    s.repairClear = (((s.wr (lineRepaired (byteAt r.payload 1)) 0).logRepair 4 (byteAt r.payload 1)
      (leAt r.payload 2 2) 0 1).showActiveRepairs).cfDone r := by
  rw [State.repairClear, mbxOp_inHand h hop]
  dsimp only
  rw [if_neg (by rw [hkind]; decide), if_neg (by rw [hm]; exact Bool.false_ne_true), if_pos ⟨hkind, hunit, hrep, hpos⟩]

theorem repairClear_working (hkind : byteAt r.payload 0 ≠ 3) (hm : s.on R.IG_CTL_maint = false) :
    s.repairClear = s.cfRefuse r 15 := by
  rw [State.repairClear, mbxOp_inHand h hop]
  dsimp only
  rw [if_neg hkind, if_pos (by rw [hm]; rfl)]

theorem repairClear_link (hkind : byteAt r.payload 0 = 3) : s.repairClear = s.cfRefuse r 14 := by
  rw [State.repairClear, mbxOp_inHand h hop]
  dsimp only
  rw [if_pos hkind]

end

end

/-! ## The commands -/

section
variable {s : State} (hoff : s.off = false)
include hoff

theorem exec_containerWrite : exec .containerWrite s = .next s.containerWrite := by
  apply State.does_eq hoff
  rfl

theorem exec_containerVerify : exec .containerVerify s = .next s.containerVerify := by
  apply State.does_eq hoff
  rfl

theorem exec_slotEmpty : exec .slotEmpty s = .next s.slotEmpty := by
  apply State.does_eq hoff
  rfl

theorem exec_fullLoad : exec .fullLoad s = .next s.fullLoad := by
  apply State.does_eq hoff
  rfl

theorem exec_regionLoad : exec .regionLoad s = .next s.regionLoad := by
  apply State.does_eq hoff
  rfl

theorem exec_slotMarkGood : exec .slotMarkGood s = .next s.slotMarkGood := by
  apply State.does_eq hoff
  rfl

theorem exec_keyProgram : exec .keyProgram s = .next s.keyProgram := by
  apply State.does_eq hoff
  rfl

theorem exec_keyRevoke : exec .keyRevoke s = .next s.keyRevoke := by
  apply State.does_eq hoff
  rfl

theorem exec_repairClear : exec .repairClear s = .next s.repairClear := by
  apply State.does_eq hoff
  rfl

end

/-- Settles O43: each operation on the request in hand, by the case its operands choose. -/
theorem storeOperations : Obligations.StoreOperations := by
  unfold Obligations.StoreOperations
  intro s r hoff h
  refine ⟨fun t hop hk hlen huse hsize ht => ⟨fun hct hr => ?_, fun x hct hr => ?_⟩,
    fun hop hk h0 h3 hr => (exec_containerVerify hoff).trans (congrArg _ (containerVerify_good h hop hk h0 h3 hr)),
    fun x hop hk h0 hr => (exec_containerVerify hoff).trans (congrArg _ (containerVerify_bad h hop hk h0 hr)),
    fun hop hk huse => (exec_slotEmpty hoff).trans (congrArg _ (slotEmpty_empties h hop hk huse)),
    fun hop hk huse => (exec_slotEmpty hoff).trans (congrArg _ (slotEmpty_refused h hop hk huse)),
    fun hop hk hs hr => ⟨fun hf hfit => ?_, fun hf hfit => ?_, fun x hf => ?_⟩,
    fun x y hop hk hs hr hx hy => (exec_regionLoad hoff).trans (congrArg _ (regionLoad_refused h hk hs hr hop hx hy)),
    fun x b p hop hk hs hr hx hb hy hp => ⟨fun hfit => ?_, fun hfit => ?_⟩,
    fun hop hk hs => (exec_slotMarkGood hoff).trans (congrArg _ (slotMarkGood_marks h hop hk hs)),
    fun hop ht hsec hn hfree => (exec_keyProgram hoff).trans (congrArg _ (keyProgram_programs h hop hsec ht hn hfree)),
    fun hop ht hsec _ hset => (exec_keyProgram hoff).trans (congrArg _ (keyProgram_refused h hop hsec ht hset)),
    fun hop ht hsec hn hset => (exec_keyRevoke hoff).trans (congrArg _ (keyRevoke_revokes h hop hsec ht hn hset)),
    fun hop hkind hunit hm hrep hpos => (exec_repairClear hoff).trans
      (congrArg _ (repairClear_clears h hop hkind hunit hm hrep hpos)),
    fun hop hkind hm => (exec_repairClear hoff).trans (congrArg _ (repairClear_working h hop hkind hm)),
    fun hop hkind => (exec_repairClear hoff).trans (congrArg _ (repairClear_link h hop hkind))⟩
  · rw [exec_containerWrite hoff, (containerWrite_stores h hop hk hlen huse hsize ht hct).1 hr]
  · rw [exec_containerWrite hoff, (containerWrite_stores h hop hk hlen huse hsize ht hct).2 x hr]
  · rw [exec_fullLoad hoff, (fullLoad_starts h hk hs hr hop hf).1 hfit]
  · rw [exec_fullLoad hoff, (fullLoad_starts h hk hs hr hop hf).2 hfit]
  · rw [exec_fullLoad hoff, fullLoad_refused h hk hs hr hop hf]
  · rw [exec_regionLoad hoff, (regionLoad_binds h hk hs hr hop hx hb hy hp).1 hfit]
  · rw [exec_regionLoad hoff, (regionLoad_binds h hk hs hr hop hx hb hy hp).2 hfit]

end Sys2Proof.Machine
end

section
/-! O54: VIN, the rails and the core temperature, the SMBus target and the test access port. -/

namespace Sys2Proof.Machine

/-! ## VIN, the rails and the shutdown -/

theorem noteVin_rd_vin (s : State) (mv cma : Nat) : (s.noteVin mv cma).rd R.IO_VIN_vin = min mv 65535 := by
  rw [State.noteVin, State.rd_wr_disjoint (f := R.IO_VIN_iin) (g := R.IO_VIN_vin) _ _ (by decide) rfl (.inl (by decide)),
    State.rd_wr_same _ _ _ (by decide)]
  exact Nat.mod_eq_of_lt (show min mv 65535 < 2 ^ 16 by omega)

theorem flag_on (s : State) {f : FRef} (h : f.lo + f.w ≤ 32) (hw : f.w = 1) (hp : f.a ≠ R.PE_CNT 2) :
    (s.flag f).on f = true := by
  rw [State.on_eq_true, State.rd_flag_same _ _ h hw hp]
  decide

theorem setHstate_rd (s : State) {h : Nat} (hh : h < 8) : (s.setHstate h).rd R.IG_STATUS_hstate = h := by
  unfold State.setHstate
  split
  · assumption
  · calc _ = ((s.wr R.IG_STATUS_hstate h).fire 94).smbAlert.rd R.IG_STATUS_hstate := State.rd_of_csr rfl _
      _ = (s.wr R.IG_STATUS_hstate h).rd R.IG_STATUS_hstate := by rw [State.rd, State.word_smbAlert]; rfl
      _ = h := (State.rd_wr_same _ _ _ (by decide)).trans (Nat.mod_eq_of_lt hh)

theorem hstate_ne_rail (k : Nat) : R.IG_STATUS_hstate.a ≠ R.IO_RAIL k := by
  simp only [R.IG_STATUS_hstate, R.IG_STATUS, R.IO_RAIL]
  omega

/-- A shutdown is shown, whether it begins now or began before. -/
theorem shutdown_hstate (s : State) : s.shutdown.rd R.IG_STATUS_hstate = 4 := by
  unfold State.shutdown
  split
  · assumption
  dsimp only
  rw [State.rd_emit, State.rd_wr_ne (f := R.IO_STATUS_fault_n) _ _ (by decide)]
  refine foldl_keeps (P := fun t : State => t.rd R.IG_STATUS_hstate = 4) (fun t k ht => ?_) _ (setHstate_rd _ (by decide))
  rwa [State.rd, State.word_setWord_ne _ _ (hstate_ne_rail k)]

/-- A low VIN is flagged and shown. -/
theorem vinLow_shown {s : State} (hv : s.mg.vin = true) {mv : Nat} (cma : Nat) (hm : mv < 10700) :
    (s.vinLow mv cma).on R.IO_STATUS_vin_low = true ∧ (s.vinLow mv cma).on R.IO_STATUS_vin_low_ev = true
      ∧ (s.vinLow mv cma).rd R.IO_VIN_vin = mv := by
  have hr : ∀ f : FRef, (s.vinLow mv cma).rd f
      = (((s.noteVin mv cma).wr R.IO_STATUS_vin_low 1).flag R.IO_STATUS_vin_low_ev).rd f := by
    intro f
    rw [State.vinLow, hv]
    simp only [Bool.not_true, Bool.false_eq_true, if_false, if_pos hm]
    exact State.rd_of_csr (State.health_csr ..) f
  refine ⟨?_, ?_, ?_⟩
  · rw [State.on_eq_true, hr, State.rd_flag_disjoint _ R.IO_STATUS_vin_low_ev (by decide) (by rfl) (.inl (by decide)) (by decide),
      State.rd_wr_same _ _ _ (by decide)]
    decide
  · rw [State.on, hr]
    exact flag_on _ (by decide) rfl (by decide)
  · rw [hr, State.rd_flag_ne _ _ (by decide) (by decide), State.rd_wr_ne (f := R.IO_STATUS_vin_low) _ _ (by decide),
      noteVin_rd_vin]
    omega

/-- VIN back at 10.8 V is shown and ends the flag. -/
theorem vinBack_shown {s : State} (hv : s.mg.vin = true) {mv : Nat} (cma : Nat) (hm : 10800 ≤ mv) (h16 : mv < 65536) :
    (s.vinBack mv cma).on R.IO_STATUS_vin_low = false ∧ (s.vinBack mv cma).rd R.IO_VIN_vin = mv := by
  have hb : s.vinBack mv cma = (s.noteVin mv cma).wr R.IO_STATUS_vin_low 0 := by
    rw [State.vinBack, hv]
    simp only [Bool.not_true, Bool.false_eq_true, if_false, if_pos hm]
  rw [hb, State.on, State.rd_wr_same _ _ _ (by decide), State.rd_wr_ne (f := R.IO_STATUS_vin_low) _ _ (by decide),
    noteVin_rd_vin]
  exact ⟨by decide, by omega⟩

/-- A VIN above 13.8 V shuts the device down, and one below is only shown. -/
theorem vinOver_shutdown {s : State} (hv : s.mg.vin = true) {mv : Nat} (cma : Nat) (hm : 13800 < mv) :
    (s.vinOver mv cma).rd R.IG_STATUS_hstate = 4 := by
  rw [State.vinOver, hv]
  simp only [Bool.not_true, Bool.false_eq_true, if_false, if_pos hm]
  exact shutdown_hstate _

theorem vinOver_within {s : State} (hv : s.mg.vin = true) {mv : Nat} (cma : Nat) (hm : mv ≤ 13800) :
    s.vinOver mv cma = s.noteVin mv cma := by
  rw [State.vinOver, hv]
  simp only [Bool.not_true, Bool.false_eq_true, if_false, if_neg (Nat.not_lt.2 hm)]

theorem railExcursion_out {s : State} (hv : s.mg.vin = true) {k mv amps : Nat} (ho : s.railOut k mv amps = true) :
    (s.railExcursion k mv amps).rd R.IG_STATUS_hstate = 4 := by
  rw [State.railExcursion, hv, ho]
  exact shutdown_hstate _

theorem railExcursion_within {s : State} (hv : s.mg.vin = true) {k mv amps : Nat} (ho : s.railOut k mv amps = false)
    (hk : k < 4) : s.railExcursion k mv amps
      = (s.wr (R.IO_RAIL_mv k) (min mv 65535)).wr (R.IO_RAIL_amps k) (min amps 65535) := by
  rw [State.railExcursion, hv, ho]
  simp only [Bool.not_true, Bool.false_eq_true, if_false, State.when, hk, decide_true, if_true]

/-- A rail within its limits is only shown. -/
theorem railExcursion_shown {s : State} (hv : s.mg.vin = true) {k mv amps : Nat} (ho : s.railOut k mv amps = false)
    (hk : k < 4) (h16 : mv < 65536) : (s.railExcursion k mv amps).rd (R.IO_RAIL_mv k) = mv
      ∧ (s.railExcursion k mv amps).rd R.IG_STATUS_hstate = s.rd R.IG_STATUS_hstate := by
  rw [railExcursion_within hv ho hk]
  constructor
  · rw [State.rd_wr_disjoint (f := R.IO_RAIL_amps k) (g := R.IO_RAIL_mv k) _ _ (show 16 + 16 ≤ 32 by decide) rfl
      (.inl (show 0 + 16 ≤ 16 by decide)), State.rd_wr_same _ _ _ (show 0 + 16 ≤ 32 by decide)]
    show min mv 65535 % 2 ^ 16 = mv
    omega
  · rw [State.rd_wr_ne (f := R.IO_RAIL_amps k) _ _ (hstate_ne_rail k),
      State.rd_wr_ne (f := R.IO_RAIL_mv k) _ _ (hstate_ne_rail k)]

/-! ## The core temperature -/

theorem thermalUpdate_eq {s : State} (hv : s.mg.vin = true) (temps : List Int) (hoff : (s.noteTemps temps).off = false)
    (h2 : 2 ≤ (s.noteTemps temps).rd R.MG_STATUS_step) :
    (110 * 8 ≤ (s.noteTemps temps).tj → (s.thermalUpdate temps).rd R.IG_STATUS_hstate = 4)
      ∧ ((s.noteTemps temps).tj < 105 * 8 → s.thermalUpdate temps = s.noteTemps temps) := by
  rw [State.thermalUpdate, hv]
  generalize s.noteTemps temps = t at hoff h2 ⊢
  have hc : ¬ (t.off = true ∨ t.rd R.MG_STATUS_step < 2) := by
    rw [hoff]
    simp only [Bool.false_eq_true, false_or, Nat.not_lt]
    exact h2
  simp only [Bool.not_true, Bool.false_eq_true, if_false, if_neg hc]
  constructor
  · intro ht
    rw [if_pos ht]
    exact shutdown_hstate _
  · intro ht
    rw [if_neg (show ¬ 110 * 8 ≤ t.tj by omega), if_neg (fun hh => absurd hh.1 (by omega))]

/-! ## The SMBus target -/

section
variable {s : State} (hv : s.mg.vin = true) (h1 : 1 ≤ s.rd R.MG_STATUS_step)
include hv h1

theorem smbOn_of_step : s.smbOn = true := by
  rw [State.smbOn, hv, decide_eq_true h1]
  rfl

theorem smbTake_good (act : State → State) : s.smbTake true act = act s := by
  rw [State.smbTake, smbOn_of_step hv h1]
  rfl

theorem smbTake_bad (act : State → State) : s.smbTake false act = s.emit .smbusNak := by
  rw [State.smbTake, smbOn_of_step hv h1]
  rfl
end

theorem flag_smbOff (s : State) (f : FRef) : (s.flag f).io.smbOff = s.io.smbOff := by
  have hw : ∀ c : Bool, (s.when c State.smbAlert).io.smbOff = s.io.smbOff := by
    intro c
    cases c <;> rfl
  unfold State.flag
  dsimp only
  split
  · exact hw _
  · rw [State.irq_io, State.wr_io]
    exact hw _

/-- A refused access flags smb_ref and advances the offset. -/
theorem smb_refused (s : State) (t : State) (hc : t.csr = (s.flag R.IO_STATUS_smb_ref).csr)
    (hi : t.io = (s.flag R.IO_STATUS_smb_ref).io) :
    t.smbNext.on R.IO_STATUS_smb_ref = true ∧ t.smbNext.io.smbOff = (s.io.smbOff + 4) % 2 ^ 28 := by
  constructor
  · rw [State.on, State.rd_of_csr (s := s.flag R.IO_STATUS_smb_ref) (t := t.smbNext) hc]
    exact flag_on _ (by decide) rfl (by decide)
  · show (t.io.smbOff + 4) % 2 ^ 28 = _
    rw [hi, flag_smbOff]

/-! ## The firmware over SMBus -/

theorem smbFirmware_none {s : State} (hv : s.mg.vin = true) (h1 : 1 ≤ s.rd R.MG_STATUS_step) {bs : Bytes}
    (hf : s.on R.MG_STATUS_fw_fail = true) (hl : 1 ≤ bs.length) (hu : bs.length ≤ 32) :
    s.smbFirmware true bs none = { s with mg := { s.mg with image := s.mg.image ++ bs } } := by
  rw [State.smbFirmware, smbTake_good hv h1]
  exact if_pos ⟨hf, hl, hu⟩

theorem smbFirmware_some {s : State} (hv : s.mg.vin = true) (h1 : 1 ≤ s.rd R.MG_STATUS_step) {bs : Bytes}
    (hf : s.on R.MG_STATUS_fw_fail = true) (hl : 1 ≤ bs.length) (hu : bs.length ≤ 32) (v : Word) :
    s.smbFirmware true bs (some v) = ((State.wr { s with mg := { s.mg with image := [] } }
      R.MG_STATUS_fw_fail 0).wr R.TOP_FW_ver v.toNat).openStacks := by
  rw [State.smbFirmware, smbTake_good hv h1]
  exact if_pos ⟨hf, hl, hu⟩

/-! ## The test access port -/

section
variable {s : State} (hv : s.mg.vin = true)
include hv

theorem jtagLoad_eq (ir : JtagIr) (reg : String) (bits : Nat) :
    s.jtagLoad ir reg bits = State.emit { s with io := { s.io with ir := ir } } (.jtag reg bits) := if_pos hv

theorem jtagSample_eq (pins pre : Nat) : s.jtagSample pins pre
    = State.emit { s with io := { s.io with ir := .sample, boundary := pre } } (.jtag "BOUNDARY" pins) :=
  (if_pos hv).trans (if_pos hv)

theorem jtagTest_low (hl : s.mg.resetLow = true) (ir : JtagIr) (pins pre : Nat) : s.jtagTest ir pins pre
    = State.emit { s with io := { s.io with ir := ir, boundary := pre } } (.jtag "BOUNDARY" pins) :=
  (if_pos hl).trans ((if_pos hv).trans (if_pos hv))

theorem jtagHold_low (hl : s.mg.resetLow = true) (ir : JtagIr) : s.jtagHold ir
    = State.emit { s with io := { s.io with ir := ir } } (.jtag "BYPASS" 0) :=
  (if_pos hl).trans (jtagLoad_eq hv ..)
end

theorem jtagTest_high {s : State} (hl : s.mg.resetLow = false) (ir : JtagIr) (pins pre : Nat) :
    s.jtagTest ir pins pre = s.jtagBypass := if_neg (by rw [hl]; decide)

theorem jtagHold_high {s : State} (hl : s.mg.resetLow = false) (ir : JtagIr) : s.jtagHold ir = s.jtagBypass :=
  if_neg (by rw [hl]; decide)

/-! ## The commands -/

theorem exec_vinLow (s : State) (mv cma : Nat) : exec (.vinLow mv cma) s = .next (s.vinLow mv cma) := rfl
theorem exec_vinRecover (s : State) (mv cma : Nat) : exec (.vinRecover mv cma) s = .next (s.vinBack mv cma) := rfl
theorem exec_overvoltage (s : State) (mv cma : Nat) : exec (.overvoltage mv cma) s = .next (s.vinOver mv cma) := rfl
theorem exec_regulatorExcursion (s : State) (rail : Fin 5) (mv amps : Nat) :
    exec (.regulatorExcursion rail mv amps) s = .next (s.railExcursion rail mv amps) := rfl
theorem exec_thermalSensorUpdate (s : State) (temps : List Int) :
    exec (.thermalSensorUpdate temps) s = .next (s.thermalUpdate temps) := rfl
theorem exec_smbusSetOffset (s : State) (pec : Bool) (bs : Bytes) :
    exec (.smbusSetOffset pec bs) s = .next (s.smbSet pec bs) := rfl
theorem exec_smbusRead (s : State) (pec : Bool) : exec (.smbusRead pec) s = .next (s.smbRead pec) := rfl
theorem exec_smbusWrite (s : State) (pec : Bool) (bs : Bytes) :
    exec (.smbusWrite pec bs) s = .next (s.smbWrite pec bs) := rfl
theorem exec_smbusWake (s : State) (pec : Bool) (w : Wake) : exec (.smbusWake pec w) s = .next (s.smbWake pec w) := rfl
theorem exec_smbusFirmwareAppend (s : State) (pec : Bool) (bs : Bytes) (v : Option Word) :
    exec (.smbusFirmwareAppend pec bs v) s = .next (s.smbFirmware pec bs v) := rfl
theorem exec_smbusAlertResponse (s : State) : exec .smbusAlertResponse s = .next s.smbAlertAnswer := rfl
theorem exec_jtagBypass (s : State) : exec .jtagBypass s = .next s.jtagBypass := rfl
theorem exec_jtagIdcode (s : State) : exec .jtagIdcode s = .next (s.jtagLoad .idcode "IDCODE" idcode) := rfl
theorem exec_jtagSamplePreload (s : State) (pins pre : Nat) :
    exec (.jtagSamplePreload pins pre) s = .next (s.jtagSample pins pre) := rfl
theorem exec_jtagExtest (s : State) (pins pre : Nat) :
    exec (.jtagExtest pins pre) s = .next (s.jtagTest .extest pins pre) := rfl
theorem exec_jtagExtestPulse (s : State) (pins pre : Nat) :
    exec (.jtagExtestPulse pins pre) s = .next (s.jtagTest .extestPulse pins pre) := rfl
theorem exec_jtagExtestTrain (s : State) (pins pre : Nat) :
    exec (.jtagExtestTrain pins pre) s = .next (s.jtagTest .extestTrain pins pre) := rfl
theorem exec_jtagHighz (s : State) : exec .jtagHighz s = .next (s.jtagHold .highz) := rfl
theorem exec_jtagClamp (s : State) : exec .jtagClamp s = .next (s.jtagHold .clamp) := rfl
theorem exec_testLogicReset (s : State) :
    exec .testLogicReset s = .next { s with io := { s.io with ir := .idcode } } := rfl

/-! ## The SMBus commands of O54 -/

/-- The SMBus half of the obligation. -/
theorem smbus_runs {s : State} (hv : s.mg.vin = true) (h1 : 1 ≤ s.rd R.MG_STATUS_step) :
    (∀ bs : Bytes, bs.length = 4 → leNat bs < 2 ^ 28 →
        exec (.smbusSetOffset true bs) s = .next { s with io := { s.io with smbOff := leNat bs } })
      ∧ (∀ bs, exec (.smbusSetOffset false bs) s = .next (s.emit .smbusNak)
        ∧ exec (.smbusWrite false bs) s = .next (s.emit .smbusNak) ∧ exec (.smbusRead false) s = .next (s.emit .smbusNak))
      ∧ (s.smbReads s.io.smbOff = true → exec (.smbusRead true) s = .next (((s.csrRead 1 s.io.smbOff).1.emit
          (.smbus (leBytes 4 (s.csrRead 1 s.io.smbOff).2.toNat))).smbNext))
      ∧ (s.smbReads s.io.smbOff = false → ∃ t, exec (.smbusRead true) s = .next t
          ∧ t.on R.IO_STATUS_smb_ref = true ∧ t.io.smbOff = (s.io.smbOff + 4) % 2 ^ 28 ∧ t.mem = s.mem)
      ∧ (∀ bs : Bytes, bs.length = 4 → s.io.smbOff / 0x100000 = 0x15 → s.io.smbOff % 4 = 0 →
          (s.rd R.XB_CSRSEC_blk).testBit 0x15 = false →
          exec (.smbusWrite true bs) s = .next (State.smbNext (s.csrCore 1 false s.io.smbOff (BitVec.ofNat 32 (leNat bs)))))
      ∧ (∀ bs : Bytes, bs.length = 4 → s.io.smbOff / 0x100000 ≠ 0x15 → ∃ t, exec (.smbusWrite true bs) s = .next t
          ∧ t.on R.IO_STATUS_smb_ref = true ∧ t.io.smbOff = (s.io.smbOff + 4) % 2 ^ 28 ∧ t.mem = s.mem) := by
  refine ⟨fun bs hl hb => ?_, fun bs => ⟨?_, ?_, ?_⟩, fun hr => ?_, fun hr => ?_, fun bs hl ha h4 hsec => ?_, fun bs hl ha => ?_⟩
  · rw [exec_smbusSetOffset, State.smbSet, smbTake_good hv h1, if_pos ⟨hl, hb⟩]
  · rw [exec_smbusSetOffset, State.smbSet, smbTake_bad hv h1]
  · rw [exec_smbusWrite, State.smbWrite, smbTake_bad hv h1]
  · rw [exec_smbusRead, State.smbRead, smbTake_bad hv h1]
  · rw [exec_smbusRead, State.smbRead, smbTake_good hv h1, if_pos hr]
  · refine ⟨_, exec_smbusRead .., ?_⟩
    rw [State.smbRead, smbTake_good hv h1, if_neg (by rw [hr]; decide)]
    obtain ⟨ho, hi⟩ := smb_refused s ((s.flag R.IO_STATUS_smb_ref).emit (.smbus (zeros 4))) rfl rfl
    exact ⟨ho, hi, State.flag_mem ..⟩
  · rw [exec_smbusWrite, State.smbWrite, smbTake_good hv h1]
    dsimp only
    rw [if_neg (not_not.2 hl), if_pos ⟨ha, h4, by rw [hsec]; rfl⟩]
  · refine ⟨_, exec_smbusWrite .., ?_⟩
    rw [State.smbWrite, smbTake_good hv h1]
    dsimp only
    rw [if_neg (not_not.2 hl), if_neg (fun hh => ha hh.1)]
    obtain ⟨ho, hi⟩ := smb_refused s (s.flag R.IO_STATUS_smb_ref) rfl rfl
    exact ⟨ho, hi, State.flag_mem ..⟩

/-- Settles O54: each command is its function on the state, and each function by its branches. -/
theorem electricalRuns : Obligations.ElectricalRuns := by
  unfold Obligations.ElectricalRuns
  intro s hv
  refine ⟨fun mv cma hm => ?_, fun mv cma hm h16 => ?_, fun mv cma hm => ⟨_, exec_overvoltage .., vinOver_shutdown hv cma hm⟩,
    fun mv cma hm => (exec_overvoltage ..).trans (congrArg _ (vinOver_within hv cma hm)),
    fun rail mv amps ho => ⟨_, exec_regulatorExcursion .., railExcursion_out hv ho⟩,
    fun rail mv amps ho hk h16 => ?_, fun temps hoff h2 => ?_, fun h1 => ?_, ?_, ?_, fun pins pre => ?_,
    fun hl pins pre p hp => ?_, fun hl p hp => ?_, fun hl pins pre i hi => ?_, exec_testLogicReset s⟩
  · obtain ⟨hlow, hev, hvin⟩ := vinLow_shown hv cma hm
    exact ⟨_, exec_vinLow .., hlow, hev, hvin, mem_of_mems (vinLow_mems ..)⟩
  · obtain ⟨hlow, hvin⟩ := vinBack_shown hv cma hm h16
    exact ⟨_, exec_vinRecover .., hlow, hvin, mem_of_mems (vinBack_mems ..)⟩
  · obtain ⟨hmv, hh⟩ := railExcursion_shown hv ho hk h16
    exact ⟨_, exec_regulatorExcursion .., hmv, hh, mem_of_mems (railExcursion_mems ..)⟩
  · obtain ⟨hhot, hcool⟩ := thermalUpdate_eq hv temps hoff h2
    exact ⟨fun ht => ⟨_, exec_thermalSensorUpdate .., hhot ht⟩,
      fun ht => (exec_thermalSensorUpdate ..).trans (congrArg _ (hcool ht))⟩
  · obtain ⟨hset, hbad, hread, hreadRef, hwrite, hwriteRef⟩ := smbus_runs hv h1
    refine ⟨hset, hbad, hread, hreadRef, hwrite, hwriteRef, fun w _ => ?_, fun w ha => ?_, fun bs hf hl hu => ⟨?_, fun v => ?_⟩,
      fun ha => ?_⟩
    · rw [exec_smbusWake, State.smbWake, smbTake_good hv h1]
    · rw [exec_smbusWake, State.smbWake, smbTake_good hv h1, State.wake, if_pos (.inr (by rw [ha]; rfl))]
    · rw [exec_smbusFirmwareAppend, smbFirmware_none hv h1 hf hl hu]
    · rw [exec_smbusFirmwareAppend, smbFirmware_some hv h1 hf hl hu]
    · rw [exec_smbusAlertResponse, State.smbAlertAnswer, smbOn_of_step hv h1, ha]
      rfl
  · rw [exec_jtagBypass, State.jtagBypass, jtagLoad_eq hv]
  · rw [exec_jtagIdcode, jtagLoad_eq hv]
  · rw [exec_jtagSamplePreload, jtagSample_eq hv]
  · simp only [List.mem_cons, List.not_mem_nil, or_false] at hp
    rcases hp with rfl | rfl | rfl
    · rw [exec_jtagExtest, jtagTest_low hv hl]
    · rw [exec_jtagExtestPulse, jtagTest_low hv hl]
    · rw [exec_jtagExtestTrain, jtagTest_low hv hl]
  · simp only [List.mem_cons, List.not_mem_nil, or_false] at hp
    rcases hp with rfl | rfl
    · rw [exec_jtagHighz, jtagHold_low hv hl]
    · rw [exec_jtagClamp, jtagHold_low hv hl]
  · simp only [List.mem_cons, List.not_mem_nil, or_false] at hi
    rcases hi with rfl | rfl | rfl | rfl | rfl
    · rw [exec_jtagExtest, exec_jtagBypass, jtagTest_high hl]
    · rw [exec_jtagExtestPulse, exec_jtagBypass, jtagTest_high hl]
    · rw [exec_jtagExtestTrain, exec_jtagBypass, jtagTest_high hl]
    · rw [exec_jtagHighz, exec_jtagBypass, jtagHold_high hl]
    · rw [exec_jtagClamp, exec_jtagBypass, jtagHold_high hl]

end Sys2Proof.Machine
end

section
/-! O53: Opening and the resets. -/

namespace Sys2Proof.Machine

/-! ## A register file of which a reset keeps a part -/

theorem smapGet_filter {α : Type} (d : α) (p : Nat → Bool) (m : SMap α) (a : Nat) :
    smapGet d (m.filter (fun x => p x.1)) a = if p a then smapGet d m a else d := by
  induction m with
  | nil => simp [smapGet, smapFind]
  | cons x r ih =>
    obtain ⟨k, v⟩ := x
    have hskip (l : SMap α) (hk : k ≠ a) : smapGet d ((k, v) :: l) a = smapGet d l a := by
      simp only [smapGet, smapFind, if_neg hk]
    have hhit (l : SMap α) (hk : k = a) : smapGet d ((k, v) :: l) a = v := by
      simp only [smapGet, smapFind, if_pos hk, Option.getD_some]
    by_cases hp : p k = true <;> by_cases hk : k = a
    · rw [List.filter_cons_of_pos (p := fun x : Nat × α => p x.1) hp, hhit _ hk, hhit _ hk, if_pos (hk ▸ hp)]
    · rw [List.filter_cons_of_pos (p := fun x : Nat × α => p x.1) hp, hskip _ hk, hskip _ hk, ih]
    · rw [List.filter_cons_of_neg (p := fun x : Nat × α => p x.1) hp, ih, if_neg (hk ▸ hp), if_neg (hk ▸ hp)]
    · rw [List.filter_cons_of_neg (p := fun x : Nat × α => p x.1) hp, ih, hskip _ hk]

/-- A register that a reset keeps holds its word, and another its reset value. -/
theorem word_of_kept {s t : State} (p : Nat → Bool) (h : t.csr = s.csr.filter (fun x => p x.1)) (a : Nat) :
    t.word a = if p a then s.word a else csrReset a := by
  rw [State.word, h, smapGet_filter]
  rfl

/-! ## What the steps of Opening leave -/

/-- The registers that Opening writes on its way to step 7. -/
def openTouched (a : Nat) : Prop :=
  a = R.MG_STATUS ∨ a = R.IO_STATUS ∨ a = R.REF_STATUS ∨ a = R.TOP_FW ∨ a = R.MG_BOOT ∨ ∃ st < 8, a = R.HM_STK st

/-- What the steps of Opening up to step 7 leave as it was. -/
structure Carried (s t : State) : Prop where
  mg : t.mg = s.mg
  cf : t.cf = s.cf
  mem : t.mem = s.mem
  tb : t.tb.t = s.tb.t
  word : ∀ a, ¬ openTouched a → t.word a = s.word a
  spi : t.rd R.IO_STATUS_boot_spi = s.rd R.IO_STATUS_boot_spi
  ready : t.rd R.MG_STATUS_ready = s.rd R.MG_STATUS_ready

theorem Carried.refl (s : State) : Carried s s := ⟨rfl, rfl, rfl, rfl, fun _ _ => rfl, rfl, rfl⟩

theorem Carried.trans {s t u : State} (h : Carried s t) (k : Carried t u) : Carried s u :=
  ⟨k.mg.trans h.mg, k.cf.trans h.cf, k.mem.trans h.mem, k.tb.trans h.tb, fun a ha => (k.word a ha).trans (h.word a ha),
    k.spi.trans h.spi, k.ready.trans h.ready⟩

theorem Carried.of_csr {s t : State} (hmg : t.mg = s.mg) (hcf : t.cf = s.cf) (hmem : t.mem = s.mem) (htb : t.tb.t = s.tb.t)
    (hc : t.csr = s.csr) : Carried s t :=
  ⟨hmg, hcf, hmem, htb, fun a _ => State.word_of_csr hc a, State.rd_of_csr hc _, State.rd_of_csr hc _⟩

/-- A write of a register that Opening writes, beside boot_spi and ready. -/
theorem Carried.wr (s : State) (f : FRef) (v : Nat) (ht : openTouched f.a) (hfit : f.lo + f.w ≤ 32)
    (hspi : f.a = R.IO_STATUS → f.lo + f.w ≤ 2) (hready : f.a = R.MG_STATUS → f.lo + f.w ≤ 4 ∨ 5 ≤ f.lo) :
    Carried s (s.wr f v) := by
  refine ⟨State.wr_mg .., State.wr_cf .., State.wr_mem .., congrArg _ (State.wr_tb ..), fun a ha => ?_, ?_, ?_⟩
  · exact State.word_wr_ne _ _ (fun h => ha (h ▸ ht))
  · by_cases h : f.a = R.IO_STATUS
    · exact State.rd_wr_disjoint _ _ hfit h.symm (.inr (hspi h))
    · exact State.rd_wr_ne _ _ (Ne.symm h)
  · by_cases h : f.a = R.MG_STATUS
    · exact State.rd_wr_disjoint _ _ hfit h.symm ((hready h).symm)
    · exact State.rd_wr_ne _ _ (Ne.symm h)

theorem Carried.fold {α : Type} {s : State} (l : List α) {f : State → α → State} (h : ∀ t, ∀ x ∈ l, Carried t (f t x)) :
    Carried s (s.fold l f) :=
  List.foldlRecOn (motive := Carried s) l f (Carried.refl s) fun t ht x hx => ht.trans (h t x hx)

theorem Carried.slot {s t : State} (h : Carried s t) {k : Nat} (hk : k < 4) : t.slotState k = s.slotState k := by
  have hne : ¬ openTouched (R.CF_SLOT_state k).a := by
    simp only [openTouched, R.CF_SLOT_state, R.CF_SLOT, R.MG_STATUS, R.IO_STATUS, R.REF_STATUS, R.TOP_FW, R.MG_BOOT, R.HM_STK]
    rintro (h | h | h | h | h | ⟨st, hst, h⟩) <;> omega
  rw [State.slotState, State.rd, h.word _ hne]
  rfl

theorem carried_setStep (s : State) (k : Nat) : Carried s (s.setStep k) :=
  Carried.wr s R.MG_STATUS_step k (.inl rfl) (by decide) (fun h => absurd h (by decide)) (fun _ => .inl (by decide))

theorem setStep_step (s : State) {k : Nat} (hk : k < 16) : (s.setStep k).rd R.MG_STATUS_step = k :=
  (State.rd_wr_same _ _ _ (by decide)).trans (Nat.mod_eq_of_lt hk)

theorem carried_setQuality (s : State) : Carried s s.setQuality := by
  unfold State.setQuality
  dsimp only
  split
  · exact Carried.refl s
  · exact (Carried.wr s R.REF_STATUS_tq _ (.inr (.inr (.inl rfl))) (by decide) (fun h => absurd h (by decide))
      (fun h => absurd h (by decide))).trans (Carried.of_csr rfl rfl rfl rfl rfl)

theorem carried_trainingDone (s : State) {st : Nat} (hst : st < 8) (ok : Bool) :
    Carried s ((s.wr (R.HM_STK_state st) 1).trainingDone st ok) := by
  have hwr (t : State) (v : Nat) : Carried t (t.wr (R.HM_STK_state st) v) := by
    refine Carried.wr t (R.HM_STK_state st) v (.inr (.inr (.inr (.inr (.inr ⟨st, hst, rfl⟩))))) (show 19 + 3 ≤ 32 by decide) ?_ ?_
    · simp only [R.HM_STK_state, R.HM_STK, R.IO_STATUS]
      omega
    · simp only [R.HM_STK_state, R.HM_STK, R.MG_STATUS]
      omega
  refine (hwr s 1).trans ?_
  unfold State.trainingDone
  split
  · exact (hwr _ _).trans (Carried.of_csr rfl rfl rfl rfl rfl)
  · exact Carried.refl _

theorem carried_showBoot (s : State) : Carried s s.showBoot := by
  unfold State.showBoot
  exact (Carried.wr s R.MG_BOOT_pref _ (.inr (.inr (.inr (.inr (.inl rfl))))) (by decide) (fun h => absurd h (by decide))
    (fun h => absurd h (by decide))).trans
    (Carried.wr _ R.MG_BOOT_good _ (.inr (.inr (.inr (.inr (.inl rfl))))) (by decide) (fun h => absurd h (by decide))
    (fun h => absurd h (by decide)))

theorem carried_readFirmware (s : State) : Carried s s.readFirmware := by
  unfold State.readFirmware
  split
  · exact Carried.of_csr rfl rfl rfl rfl rfl
  · exact Carried.refl s

/-! ## The steps of Opening -/

/-- Opening as step 1 leaves it. -/
def State.openHeld (s : State) : State :=
  ((s.setStep 1).wr R.IO_STATUS_smb_addr s.mg.env.smbAddr.toNat).emit (.pin "FAULT_N" true)

/-- Opening as step 3 leaves it with XO_IN. -/
def State.openTimed (s : State) : State :=
  (((s.setStep 3).wr R.MG_STATUS_xo_wait 0).setQuality).fold (List.range 5) (fun s o => s.emit (.pin (outPin o) false))

/-- Opening with the firmware image read, at step 4. -/
def State.openRead (s : State) : State := (s.setStep 4).readFirmware

/-- Opening with the stacks trained and filled, before step 7. -/
def State.openFilled (s : State) : State :=
  State.setStep { s.fold s.stackList (fun s st => (s.wr (R.HM_STK_state st) 1).trainingDone st (s.mg.env.trained.getLsbD st)) with mem := [] } 6

theorem openStart_eq (s : State) :
    s.openStart = if s.mg.resetLow then s.openHeld else (s.openHeld.setStep 2).openTime := rfl

theorem openTime_wait {s : State} (h : s.mg.xo = false) : s.openTime = (s.setStep 3).wr R.MG_STATUS_xo_wait 1 :=
  if_pos (show (!s.mg.xo) = true by rw [h]; rfl)

theorem openTime_on {s : State} (h : s.mg.xo = true) : s.openTime = s.openTimed.openFirmware :=
  if_neg (show ¬ (!s.mg.xo) = true by rw [h]; decide)

theorem openFirmware_eq (s : State) : s.openFirmware = if s.openRead.firmwareOk then
    (s.openRead.wr R.TOP_FW_ver s.openRead.mg.env.fwVer.toNat).openStacks else s.openRead.wr R.MG_STATUS_fw_fail 1 := rfl

theorem openStacks_eq (s : State) : s.openStacks = s.openFilled.openLoad := rfl

/-- With no GOOD slot there is none to try. -/
theorem bootOrder_nil {s : State} (h : ∀ k < 4, s.slotState k ≠ 3) : s.bootOrder = [] := by
  have hb (k : Nat) : s.bootable k = false := by
    by_cases hk : k < 4
    · simp [State.bootable, h k hk]
    · simp [State.bootable, hk]
  simp [State.bootOrder, hb]

theorem openLoad_none {s : State} (h : ∀ k < 4, s.slotState k ≠ 3) :
    s.openLoad = ((s.setStep 7).showBoot).wr R.MG_STATUS_noconf 1 := by
  have hc : Carried s ((s.setStep 7).showBoot) := (carried_setStep s 7).trans (carried_showBoot _)
  rw [State.openLoad]
  rw [bootOrder_nil (fun k hk => (hc.slot hk).trans_ne (h k hk))]
  rfl

theorem carried_openHeld (s : State) : Carried s s.openHeld :=
  ((carried_setStep s 1).trans (Carried.wr _ R.IO_STATUS_smb_addr _ (.inr (.inl rfl)) (by decide) (fun _ => by decide)
    (fun h => absurd h (by decide)))).trans (Carried.of_csr rfl rfl rfl rfl rfl)

theorem openHeld_step (s : State) : s.openHeld.rd R.MG_STATUS_step = 1 := by
  rw [State.openHeld, State.rd_emit, State.rd_wr_ne (f := R.IO_STATUS_smb_addr) _ _ (by decide), setStep_step _ (by decide)]

theorem carried_openTimed (s : State) : Carried s s.openTimed :=
  (((carried_setStep s 3).trans (Carried.wr _ R.MG_STATUS_xo_wait _ (.inl rfl) (by decide) (fun h => absurd h (by decide))
    (fun _ => .inr (by decide)))).trans (carried_setQuality _)).trans
    (Carried.fold _ fun _ _ _ => Carried.of_csr rfl rfl rfl rfl rfl)

theorem stackList_lt {s : State} {st : Nat} (h : st ∈ s.stackList) : st < 8 := by
  have hs : s.stacks ≤ 8 := by
    unfold State.stacks
    split <;> decide
  exact (List.mem_range.1 h).trans_le hs

/-- The stacks trained and filled: as it was, but for the memory, which is cleared. -/
theorem openFilled_carried (s : State) : ∃ u, Carried s u ∧ s.openFilled = State.setStep { u with mem := [] } 6 :=
  ⟨_, Carried.fold (s := s) s.stackList fun t _ hx => carried_trainingDone t (stackList_lt hx) _, rfl⟩

theorem carried_openRead (s : State) : Carried s s.openRead := (carried_setStep s 4).trans (carried_readFirmware _)

/-! ## Where Opening stops -/

theorem openStart_low {s : State} (h : s.mg.resetLow = true) : s.openStart = s.openHeld := by
  rw [openStart_eq, if_pos h]

theorem openStart_high {s : State} (h : s.mg.resetLow = false) : s.openStart = (s.openHeld.setStep 2).openTime := by
  rw [openStart_eq, if_neg (by rw [h]; decide)]

/-- Opening with the rails up, before step 3. -/
theorem carried_step2 (s : State) : Carried s (s.openHeld.setStep 2) := (carried_openHeld s).trans (carried_setStep _ 2)

/-- Without XO_IN Opening waits at step 3. -/
theorem openTime_stops {s : State} (h : s.mg.xo = false) : s.openTime.rd R.MG_STATUS_step = 3
    ∧ s.openTime.on R.MG_STATUS_xo_wait = true ∧ s.openTime.mem = s.mem ∧ s.openTime.mg = s.mg := by
  rw [openTime_wait h]
  refine ⟨?_, ?_, State.wr_mem .., State.wr_mg ..⟩
  · rw [State.rd_wr_disjoint (f := R.MG_STATUS_xo_wait) _ _ (by decide) (by rfl) (.inl (by decide)), setStep_step _ (by decide)]
  · rw [State.on_eq_true, State.rd_wr_same _ _ _ (by decide)]
    decide

/-- An image that does not verify stops Opening at step 4; one in the boot flash has been read from address 0. -/
theorem openFirmware_stops {s : State} (h : s.openRead.firmwareOk = false) : s.openFirmware.rd R.MG_STATUS_step = 4
    ∧ s.openFirmware.on R.MG_STATUS_fw_fail = true ∧ s.openFirmware.mem = s.mem
    ∧ (s.on R.IO_STATUS_boot_spi = true → .spiRead 0x6C 0 (min s.mg.env.fwBytes 8388608) ∈ s.openFirmware.out) := by
  rw [openFirmware_eq, if_neg (by rw [h]; decide)]
  refine ⟨?_, ?_, (State.wr_mem ..).trans (carried_openRead s).mem, fun hs => ?_⟩
  · rw [State.rd_wr_disjoint (f := R.MG_STATUS_fw_fail) _ _ (by decide) (by rfl) (.inl (by decide)), State.openRead]
    refine Eq.trans ?_ (setStep_step s (k := 4) (by decide))
    unfold State.readFirmware
    split
    · exact State.rd_of_csr rfl _
    · rfl
  · rw [State.on_eq_true, State.rd_wr_same _ _ _ (by decide)]
    decide
  · rw [State.wr_out, State.openRead, State.readFirmware,
      if_pos (show (s.setStep 4).on R.IO_STATUS_boot_spi = true by rwa [State.on, (carried_setStep s 4).spi, ← State.on])]
    refine List.mem_append_left _ (List.mem_append_right _ (List.mem_singleton.2 ?_))
    rw [(carried_setStep s 4).mg]
    rfl

/-- With no GOOD slot Opening stops at step 7. -/
theorem openStacks_stops {s : State} (h : ∀ k < 4, s.slotState k ≠ 3) (hr : s.on R.MG_STATUS_ready = false) :
    s.openStacks.rd R.MG_STATUS_step = 7 ∧ s.openStacks.on R.MG_STATUS_noconf = true
      ∧ s.openStacks.on R.MG_STATUS_ready = false ∧ s.openStacks.mem = [] := by
  obtain ⟨u, hu, he⟩ := openFilled_carried s
  have hc : Carried { u with mem := [] } s.openFilled := he ▸ carried_setStep _ 6
  have hs : ∀ k < 4, s.openFilled.slotState k ≠ 3 := fun k hk => by
    rw [hc.slot hk]
    exact (hu.slot hk).trans_ne (h k hk)
  have hb : Carried s.openFilled ((s.openFilled.setStep 7).showBoot) := (carried_setStep _ 7).trans (carried_showBoot _)
  rw [openStacks_eq, openLoad_none hs]
  refine ⟨?_, ?_, ?_, ((State.wr_mem ..).trans hb.mem).trans hc.mem⟩
  · rw [State.rd_wr_disjoint (f := R.MG_STATUS_noconf) _ _ (by decide) (by rfl) (.inl (by decide)), State.showBoot,
      State.rd_wr_ne (f := R.MG_BOOT_good) _ _ (by decide),
      State.rd_wr_ne (f := R.MG_BOOT_pref) _ _ (by decide), setStep_step _ (by decide)]
  · rw [State.on_eq_true, State.rd_wr_same _ _ _ (by decide)]
    decide
  · rw [State.on, State.rd_wr_disjoint (f := R.MG_STATUS_noconf) _ _ (by decide) (by rfl) (.inl (by decide)), hb.ready, hc.ready]
    exact (congrArg (· != 0) hu.ready).trans hr

/-! ## Power-on -/

/-- The state in which Opening begins after power-on. -/
def State.powered (s : State) (o : Opening) : State :=
  ((State.powerReset { s with mg := { s.mg with vin := true, env := o, resetLow := o.resetLow, xo := o.xo } }).wr
    R.IO_STATUS_boot_spi (if o.bootSpi then 1 else 0)).when (decide (s.rd R.IG_STATUS_hstate = 4)) (·.wr R.MG_RSTCAUSE_shutdown 1)

theorem powerOn_eq {s : State} (o : Opening) (h : s.tooHot = false) : s.powerOn o = (s.powered o).openStart :=
  if_neg (show ¬ s.tooHot = true by rw [h]; decide)

/-- What Opening finds after power-on. -/
structure PoweredOn (s t : State) (o : Opening) : Prop where
  env : t.mg.env = o
  resetLow : t.mg.resetLow = o.resetLow
  xo : t.mg.xo = o.xo
  mem : t.mem = []
  store : t.cf.store = s.cf.store
  spi : t.on R.IO_STATUS_boot_spi = o.bootSpi
  ready : t.on R.MG_STATUS_ready = false
  por : t.on R.MG_RSTCAUSE_por = true
  slot : ∀ k < 4, t.slotState k = s.slotState k

theorem csrReset_status : csrReset R.MG_STATUS = 0 := by decide
theorem csrReset_cause : csrReset R.MG_RSTCAUSE = 1 := by decide
theorem storeKept_slot : ∀ k < 4, storeKept (R.CF_SLOT_state k).a = true := by decide

theorem cause_untouched : ¬ openTouched R.MG_RSTCAUSE_por.a := by
  simp only [openTouched, R.MG_RSTCAUSE_por, R.MG_RSTCAUSE, R.MG_STATUS, R.IO_STATUS, R.REF_STATUS, R.TOP_FW, R.MG_BOOT, R.HM_STK]
  rintro (h | h | h | h | h | ⟨st, hst, h⟩) <;> omega

/-- The steps of Opening leave what power-on began with. -/
theorem PoweredOn.carried {s t u : State} {o : Opening} (h : PoweredOn s t o) (hc : Carried t u) : PoweredOn s u o := by
  refine ⟨(congrArg _ hc.mg).trans h.env, (congrArg _ hc.mg).trans h.resetLow, (congrArg _ hc.mg).trans h.xo, hc.mem.trans h.mem,
    (congrArg _ hc.cf).trans h.store, (congrArg (· != 0) hc.spi).trans h.spi, (congrArg (· != 0) hc.ready).trans h.ready, ?_,
    fun k hk => (hc.slot hk).trans (h.slot k hk)⟩
  rw [State.on, State.rd, hc.word _ cause_untouched]
  exact h.por

theorem PoweredOn.firmwareOk {s u : State} {o : Opening} (h : PoweredOn s u o) :
    u.openRead.firmwareOk = (o.fwOk && (!o.bootSpi || decide (o.fwBytes ≤ flashMost))) := by
  have hr := h.carried (carried_openRead u)
  rw [State.firmwareOk, hr.env, hr.spi]

theorem powerReset_on (s : State) (o : Opening) (b : Nat) (hb : (b % 2 != 0) = o.bootSpi) (henv : s.mg.env = o)
    (hlow : s.mg.resetLow = o.resetLow) (hxo : s.mg.xo = o.xo) : PoweredOn s (s.powerReset.wr R.IO_STATUS_boot_spi b) o := by
  have hw := word_of_kept (s := s) (t := s.powerReset) storeKept rfl
  refine ⟨henv, hlow, hxo, rfl, rfl, ?_, ?_, ?_, fun k hk => ?_⟩
  · rw [State.on, State.rd_wr_same _ _ _ (by decide)]
    exact hb
  · rw [State.on, State.rd_wr_ne (f := R.IO_STATUS_boot_spi) _ _ (by decide), State.rd, hw, if_neg (by decide)]
    exact congrArg (fun w : Word => getBits w.toNat 4 1 != 0) csrReset_status
  · rw [State.on, State.rd_wr_ne (f := R.IO_STATUS_boot_spi) _ _ (by decide), State.rd, hw, if_neg (by decide)]
    exact congrArg (fun w : Word => getBits w.toNat 0 1 != 0) csrReset_cause
  · have hne : (R.CF_SLOT_state k).a ≠ R.IO_STATUS_boot_spi.a := by
      simp only [R.CF_SLOT_state, R.CF_SLOT, R.IO_STATUS_boot_spi, R.IO_STATUS]
      omega
    rw [State.slotState, State.rd_wr_ne _ _ hne, State.rd, hw, if_pos (storeKept_slot k hk)]
    rfl

theorem PoweredOn.shutdown {s t : State} {o : Opening} (h : PoweredOn s t o) : PoweredOn s (t.wr R.MG_RSTCAUSE_shutdown 1) o := by
  refine ⟨h.env, h.resetLow, h.xo, h.mem, h.store, ?_, ?_, ?_, fun k hk => ?_⟩
  · rw [State.on, State.rd_wr_ne (f := R.MG_RSTCAUSE_shutdown) _ _ (by decide)]
    exact h.spi
  · rw [State.on, State.rd_wr_ne (f := R.MG_RSTCAUSE_shutdown) _ _ (by decide)]
    exact h.ready
  · rw [State.on, State.rd_wr_disjoint (f := R.MG_RSTCAUSE_shutdown) _ _ (by decide) (by rfl) (.inl (by decide))]
    exact h.por
  · have hne : (R.CF_SLOT_state k).a ≠ R.MG_RSTCAUSE_shutdown.a := by
      simp only [R.CF_SLOT_state, R.CF_SLOT, R.MG_RSTCAUSE_shutdown, R.MG_RSTCAUSE]
      omega
    rw [State.slotState, State.rd_wr_ne _ _ hne]
    exact h.slot k hk

theorem powered_on (s : State) (o : Opening) : PoweredOn s (s.powered o) o := by
  have h := powerReset_on { s with mg := { s.mg with vin := true, env := o, resetLow := o.resetLow, xo := o.xo } } o
    (if o.bootSpi then 1 else 0) (by cases o.bootSpi <;> rfl) rfl rfl rfl
  have h' : PoweredOn s _ o := ⟨h.env, h.resetLow, h.xo, h.mem, h.store, h.spi, h.ready, h.por, h.slot⟩
  unfold State.powered State.when
  split
  · exact h'.shutdown
  · exact h'

section
variable {s : State} {o : Opening} (hot : s.tooHot = false)
include hot

theorem powerOn_held (hl : o.resetLow = true) : (s.powerOn o).rd R.MG_STATUS_step = 1
    ∧ (s.powerOn o).on R.MG_STATUS_ready = false ∧ (s.powerOn o).on R.MG_RSTCAUSE_por = true ∧ (s.powerOn o).mem = []
    ∧ (s.powerOn o).cf.store = s.cf.store := by
  have hp := powered_on s o
  rw [powerOn_eq o hot, openStart_low (hp.resetLow.trans hl)]
  generalize s.powered o = t at hp ⊢
  have hu := hp.carried (carried_openHeld t)
  exact ⟨openHeld_step t, hu.ready, hu.por, hu.mem, hu.store⟩

theorem powerOn_waits (hl : o.resetLow = false) (hx : o.xo = false) : (s.powerOn o).rd R.MG_STATUS_step = 3
    ∧ (s.powerOn o).on R.MG_STATUS_xo_wait = true ∧ (s.powerOn o).mem = [] := by
  have hp := powered_on s o
  rw [powerOn_eq o hot, openStart_high (hp.resetLow.trans hl)]
  generalize s.powered o = t at hp ⊢
  have hc := carried_step2 t
  obtain ⟨h3, hw, hm, -⟩ := openTime_stops ((congrArg _ hc.mg).trans (hp.xo.trans hx))
  exact ⟨h3, hw, hm.trans (hc.mem.trans hp.mem)⟩

/-- With XO_IN, Opening comes to the firmware as power-on began it. -/
theorem powerOn_firmware (hl : o.resetLow = false) (hx : o.xo = true) :
    ∃ u, PoweredOn s u o ∧ s.powerOn o = u.openFirmware := by
  have hp := powered_on s o
  rw [powerOn_eq o hot, openStart_high (hp.resetLow.trans hl)]
  generalize s.powered o = t at hp ⊢
  have hc := carried_step2 t
  rw [openTime_on ((congrArg _ hc.mg).trans (hp.xo.trans hx))]
  exact ⟨_, hp.carried (hc.trans (carried_openTimed _)), rfl⟩

theorem powerOn_badImage (hl : o.resetLow = false) (hx : o.xo = true)
    (hbad : o.fwOk = false ∨ (o.bootSpi = true ∧ 8388608 < o.fwBytes)) : (s.powerOn o).rd R.MG_STATUS_step = 4
      ∧ (s.powerOn o).on R.MG_STATUS_fw_fail = true ∧ (s.powerOn o).mem = []
      ∧ (o.bootSpi = true → .spiRead 0x6C 0 (min o.fwBytes 8388608) ∈ (s.powerOn o).out) := by
  obtain ⟨u, hu, he⟩ := powerOn_firmware hot hl hx
  have hf : u.openRead.firmwareOk = false := by
    rw [hu.firmwareOk]
    rcases hbad with h | ⟨h, hb⟩
    · rw [h]
      rfl
    · rw [h, decide_eq_false (show ¬ o.fwBytes ≤ flashMost from Nat.not_le.2 hb), Bool.not_true, Bool.or_false, Bool.and_false]
  obtain ⟨h4, hfail, hm, hout⟩ := openFirmware_stops hf
  rw [he]
  exact ⟨h4, hfail, hm.trans hu.mem, fun hb => hu.env ▸ hout (hu.spi.trans hb)⟩

theorem powerOn_noSlot (hl : o.resetLow = false) (hx : o.xo = true) (hok : o.fwOk = true)
    (hfit : o.bootSpi = true → o.fwBytes ≤ 8388608) (hs : ∀ k < 4, s.slotState k ≠ 3) : (s.powerOn o).rd R.MG_STATUS_step = 7
      ∧ (s.powerOn o).on R.MG_STATUS_noconf = true ∧ (s.powerOn o).on R.MG_STATUS_ready = false ∧ (s.powerOn o).mem = [] := by
  obtain ⟨u, hu, he⟩ := powerOn_firmware hot hl hx
  have hf : u.openRead.firmwareOk = true := by
    rw [hu.firmwareOk, hok, Bool.true_and]
    cases hb : o.bootSpi
    · rfl
    · exact decide_eq_true (hfit hb)
  have hv := (hu.carried (carried_openRead u)).carried (Carried.wr _ R.TOP_FW_ver u.openRead.mg.env.fwVer.toNat
    (.inr (.inr (.inr (.inl rfl)))) (by decide) (fun h => absurd h (by decide)) (fun h => absurd h (by decide)))
  rw [he, openFirmware_eq, if_pos hf]
  exact openStacks_stops (fun k hk => (hv.slot k hk).trans_ne (hs k hk)) hv.ready
end

/-! ## The reset of RESET_N -/

/-- The registers and the counter that a RESET_N reset keeps. -/
structure ColdKept (s t : State) : Prop where
  resetLow : t.mg.resetLow = s.mg.resetLow
  mem : t.mem = []
  store : t.cf.store = s.cf.store
  time : t.tb.t = s.tb.t
  hstate : t.rd R.IG_LAST_last_hstate = s.rd R.IG_STATUS_hstate
  word : ∀ a, (storeKept a || alwaysOn a) = true → a ≠ R.IG_LAST → a ≠ R.MG_RSTCAUSE → t.word a = s.word a

theorem ColdKept.carried {s t u : State} (h : ColdKept s t) (hc : Carried t u)
    (ha : ∀ a, (storeKept a || alwaysOn a) = true → ¬ openTouched a) : ColdKept s u := by
  refine ⟨(congrArg _ hc.mg).trans h.resetLow, hc.mem.trans h.mem, (congrArg _ hc.cf).trans h.store, hc.tb.trans h.time, ?_,
    fun a hk hl hr => (hc.word a (ha a hk)).trans (h.word a hk hl hr)⟩
  rw [State.rd, hc.word _ (ha _ (by decide))]
  exact h.hstate

theorem stk_not_kept : ∀ st < 8, ¬ (storeKept (R.HM_STK st) || alwaysOn (R.HM_STK st)) = true := by decide

theorem kept_untouched {a : Nat} (h : (storeKept a || alwaysOn a) = true) : ¬ openTouched a := by
  rintro (rfl | rfl | rfl | rfl | rfl | ⟨st, hst, rfl⟩)
  · exact absurd h (by decide)
  · exact absurd h (by decide)
  · exact absurd h (by decide)
  · exact absurd h (by decide)
  · exact absurd h (by decide)
  · exact stk_not_kept st hst h

/-- The registers, the counter and the test access port of a RESET_N reset, before the rest is shown. -/
def State.coldBase (s : State) : State :=
  { s.powerReset with
    csr := s.csr.filter (fun p => storeKept p.1 || alwaysOn p.1)
    tb := { s.powerReset.tb with
      t := s.tb.t
      t2 := s.tb.t2
      epoch := s.tb.epoch
      maps := if s.on R.TB_STATUS_sce_valid then [(0, some s.tb.epoch)] else [] }
    io := { s.powerReset.io with ir := s.io.ir, boundary := s.io.boundary } }

/-- The same with the state of the timebase and the health state shown. -/
def State.coldShown (s : State) : State :=
  (((s.coldBase.wr R.TB_STATUS_set (s.rd R.TB_STATUS_set)).wr R.TB_STATUS_epoch (s.rd R.TB_STATUS_epoch)).wr
    R.TB_STATUS_sce_valid (s.rd R.TB_STATUS_sce_valid)).wr R.IG_LAST_last_hstate (s.rd R.IG_STATUS_hstate)

theorem coldReset_eq (s : State) : ∃ n, s.coldReset = State.setQuality { s.coldShown with rnd := n } := ⟨_, rfl⟩

theorem coldShown_kept (s : State) : ColdKept s s.coldShown := by
  have hbase : s.coldBase.mg.resetLow = s.mg.resetLow ∧ s.coldBase.mem = [] ∧ s.coldBase.cf.store = s.cf.store
      ∧ s.coldBase.tb.t = s.tb.t := ⟨rfl, rfl, rfl, rfl⟩
  have hword := word_of_kept (s := s) (t := s.coldBase) (fun a => storeKept a || alwaysOn a) rfl
  unfold State.coldShown
  generalize s.coldBase = t at hbase hword ⊢
  obtain ⟨hlow, hmem, hstore, htime⟩ := hbase
  refine ⟨?_, ?_, ?_, ?_, ?_, fun a ha hl _ => ?_⟩
  · rw [State.wr_mg, State.wr_mg, State.wr_mg, State.wr_mg, hlow]
  · rw [State.wr_mem, State.wr_mem, State.wr_mem, State.wr_mem, hmem]
  · rw [State.wr_cf, State.wr_cf, State.wr_cf, State.wr_cf, hstore]
  · rw [State.wr_tb, State.wr_tb, State.wr_tb, State.wr_tb, htime]
  · rw [State.rd_wr_same _ _ _ (by decide)]
    exact Nat.mod_eq_of_lt (getBits_lt ..)
  · have htb : a ≠ R.TB_STATUS := fun h => absurd (h ▸ ha) (by decide)
    rw [State.word_wr_ne (f := R.IG_LAST_last_hstate) _ _ hl, State.word_wr_ne (f := R.TB_STATUS_sce_valid) _ _ htb,
      State.word_wr_ne (f := R.TB_STATUS_epoch) _ _ htb, State.word_wr_ne (f := R.TB_STATUS_set) _ _ htb, hword, if_pos ha]

theorem ColdKept.setQuality {s t : State} (h : ColdKept s t) (n : Nat) : ColdKept s (State.setQuality { t with rnd := n }) := by
  have h' : ColdKept s { t with rnd := n } := ⟨h.resetLow, h.mem, h.store, h.time, (State.rd_of_csr rfl _).trans h.hstate,
    fun a ha hl hr => (State.word_of_csr rfl a).trans (h.word a ha hl hr)⟩
  exact h'.carried (carried_setQuality _) (fun _ => kept_untouched)

theorem coldReset_kept (s : State) : ColdKept s s.coldReset := by
  obtain ⟨n, he⟩ := coldReset_eq s
  rw [he]
  exact (coldShown_kept s).setQuality n

/-- The cause of a reset and boot_spi are no registers that a reset keeps, but for MG_RSTCAUSE itself. -/
theorem ColdKept.wr {s t : State} (h : ColdKept s t) (f : FRef) (v : Nat) (hl : f.a ≠ R.IG_LAST)
    (hk : (storeKept f.a || alwaysOn f.a) = false ∨ f.a = R.MG_RSTCAUSE) : ColdKept s (t.wr f v) := by
  refine ⟨h.resetLow, h.mem, h.store, h.time, (State.rd_wr_ne (g := R.IG_LAST_last_hstate) _ _ hl.symm).trans h.hstate,
    fun a ha hal har => (State.word_wr_ne _ _ fun he => ?_).trans (h.word a ha hal har)⟩
  rcases hk with hk | hk
  · rw [← he, ha] at hk
    cases hk
  · exact har (he.trans hk)

/-- The state in which Opening begins after a RESET_N reset. -/
def State.restarted (s : State) (cause : FRef) (o : Opening) : State :=
  (((State.coldReset { s with mg := { s.mg with env := o, xo := o.xo } }).wr cause 1).wr R.IO_STATUS_boot_spi
    (s.rd R.IO_STATUS_boot_spi)).when (decide (s.rd R.IG_STATUS_hstate = 4)) (·.wr R.MG_RSTCAUSE_shutdown 1)

theorem restart_eq (s : State) (cause : FRef) (o : Opening) : s.restart cause o = (s.restarted cause o).openStart := rfl

theorem restarted_kept (s : State) (o : Opening) : ColdKept s (s.restarted R.MG_RSTCAUSE_reset_n o) := by
  have h := coldReset_kept { s with mg := { s.mg with env := o, xo := o.xo } }
  have hw := (h.wr R.MG_RSTCAUSE_reset_n 1 (by decide) (.inr rfl)).wr R.IO_STATUS_boot_spi (s.rd R.IO_STATUS_boot_spi) (by decide)
    (.inl (by decide))
  have hw' : ColdKept s _ := ⟨hw.resetLow, hw.mem, hw.store, hw.time, hw.hstate, hw.word⟩
  unfold State.restarted State.when
  split
  · exact hw'.wr R.MG_RSTCAUSE_shutdown 1 (by decide) (.inr rfl)
  · exact hw'

theorem restarted_cause (s : State) (o : Opening) :
    (s.restarted R.MG_RSTCAUSE_reset_n o).on R.MG_RSTCAUSE_reset_n = true := by
  rw [State.on_eq_true]
  unfold State.restarted State.when
  generalize State.coldReset _ = t
  split
  · rw [State.rd_wr_disjoint (f := R.MG_RSTCAUSE_shutdown) _ _ (by decide) (by rfl) (.inl (by decide)),
      State.rd_wr_ne (f := R.IO_STATUS_boot_spi) _ _ (by decide), State.rd_wr_same _ _ _ (by decide)]
    decide
  · rw [State.rd_wr_ne (f := R.IO_STATUS_boot_spi) _ _ (by decide), State.rd_wr_same _ _ _ (by decide)]
    decide

theorem seq_kept {k : Nat} (hk : k < 200) : alwaysOn (R.OT_SEQ k) = true ∧ alwaysOn (R.OT_SEQ k + 4) = true
    ∧ R.OT_SEQ k + 4 < R.IG_LAST := by
  have h0 : isSeq (R.OT_SEQ k) = true := decide_eq_true (by simp only [R.OT_SEQ]; omega)
  have h4 : isSeq (R.OT_SEQ k + 4) = true := decide_eq_true (by simp only [R.OT_SEQ]; omega)
  refine ⟨?_, ?_, ?_⟩
  · simp only [alwaysOn, h0, Bool.or_true, Bool.true_or]
  · simp only [alwaysOn, h4, Bool.or_true, Bool.true_or]
  · simp only [R.OT_SEQ, R.IG_LAST]
    omega

/-- A pair of words that the reset keeps. -/
theorem ColdKept.rq {s t : State} (h : ColdKept s t) {a : Nat} (h0 : alwaysOn a = true) (h4 : alwaysOn (a + 4) = true)
    (hl : a ≠ R.IG_LAST ∧ a + 4 ≠ R.IG_LAST) (hr : a ≠ R.MG_RSTCAUSE ∧ a + 4 ≠ R.MG_RSTCAUSE) : t.rq a = s.rq a := by
  rw [State.rq, h.word a (by rw [h0, Bool.or_true]) hl.1 hr.1, h.word (a + 4) (by rw [h4, Bool.or_true]) hl.2 hr.2, ← State.rq]

/-- RESET_N low for its time holds Opening at step 1, with what the reset keeps. -/
theorem resetN_held {s : State} {o : Opening} (hv : s.mg.vin = true) (hot : s.tooHot = false) (hl : o.resetLow = true) :
    ∃ t, s.resetN o = t ∧ ColdKept { s with mg := { s.mg with resetLow := o.resetLow } } t ∧ t.rd R.MG_STATUS_step = 1
      ∧ t.on R.MG_RSTCAUSE_reset_n = true := by
  have he : s.resetN o = State.restart { s with mg := { s.mg with resetLow := o.resetLow } } R.MG_RSTCAUSE_reset_n o :=
    if_neg (by rw [hv, hot]; decide)
  have hk := restarted_kept { s with mg := { s.mg with resetLow := o.resetLow } } o
  have hc := restarted_cause { s with mg := { s.mg with resetLow := o.resetLow } } o
  rw [restart_eq] at he
  generalize State.restarted _ _ _ = u at he hk hc
  have ho := carried_openHeld u
  refine ⟨u.openHeld, he.trans (openStart_low (hk.resetLow.trans hl)), hk.carried ho (fun _ => kept_untouched), openHeld_step u, ?_⟩
  rw [State.on, State.rd, ho.word R.MG_RSTCAUSE_reset_n.a cause_untouched]
  exact hc

/-! ## RESET_N high again -/

theorem resetNRelease_waits {s : State} (hl : s.mg.resetLow = true) (hv : s.mg.vin = true) (h1 : s.rd R.MG_STATUS_step = 1)
    (hx : s.mg.xo = false) : s.resetNRelease.rd R.MG_STATUS_step = 3 ∧ s.resetNRelease.on R.MG_STATUS_xo_wait = true
      ∧ s.resetNRelease.mg.resetLow = false ∧ s.resetNRelease.mem = s.mem := by
  have hj : s.jtagRelease.mg = s.mg ∧ s.jtagRelease.csr = s.csr ∧ s.jtagRelease.mem = s.mem := by
    unfold State.jtagRelease
    split <;> exact ⟨rfl, rfl, rfl⟩
  unfold State.resetNRelease
  generalize s.jtagRelease = u at hj ⊢
  obtain ⟨hmg, hcsr, hmem⟩ := hj
  have he : u.resetNHigh = (State.setStep { u with mg := { u.mg with resetLow := false } } 2).openTime :=
    if_pos ⟨by rw [hmg, hl], by rw [hmg, hv], (State.rd_of_csr (s := s) hcsr _).trans h1⟩
  have hc := carried_setStep { u with mg := { u.mg with resetLow := false } } 2
  obtain ⟨h3, hw, hm, hg⟩ := openTime_stops (s := State.setStep { u with mg := { u.mg with resetLow := false } } 2)
    (by rw [hc.mg]; exact (congrArg _ hmg).trans hx)
  rw [he]
  exact ⟨h3, hw, by rw [hg, hc.mg], hm.trans (hc.mem.trans hmem)⟩

end Sys2Proof.Machine
end

section
/-! O53: the resets of the host port, of regions, the watchdog and the exit from Adjournment. -/

namespace Sys2Proof.Machine

/-! ## Registers set to 0 one after another -/

section
variable {α : Type} (g : α → Nat)

theorem word_zeroed_ne (s : State) (l : List α) {a : Nat} (h : ∀ i ∈ l, a ≠ g i) :
    (s.fold l (fun s i => s.setWord (g i) 0)).word a = s.word a :=
  List.foldlRecOn (motive := fun t : State => t.word a = s.word a) l _ rfl
    fun _ ht i hi => (State.word_setWord_ne _ _ (h i hi)).trans ht

theorem word_zeroed (s : State) (l : List α) {i : α} (h : i ∈ l) :
    (s.fold l (fun s i => s.setWord (g i) 0)).word (g i) = 0 := by
  obtain ⟨l₁, l₂, rfl⟩ := List.append_of_mem h
  have hz : ((s.fold l₁ (fun s i => s.setWord (g i) 0)).setWord (g i) 0).word (g i) = 0 := State.word_setWord_same ..
  rw [State.fold, List.foldl_append, List.foldl_cons]
  refine foldl_keeps (P := fun t : State => t.word (g i) = 0) (fun t j ht => ?_) l₂ hz
  by_cases hj : g i = g j
  · rw [hj]
    exact State.word_setWord_same ..
  · exact (State.word_setWord_ne _ _ hj).trans ht

theorem zeroed_keeps {β : Type} {F : State → β} (hF : ∀ (u : State) a v, F (u.setWord a v) = F u) (s : State) (l : List α) :
    F (s.fold l (fun s i => s.setWord (g i) 0)) = F s :=
  foldl_keeps (P := fun t : State => F t = F s) (fun t i ht => (hF t (g i) 0).trans ht) l rfl
end

/-! ## Master 0 after a reset of the PCIe core -/

/-- What a reset of the PCIe core leaves of the endpoint. -/
structure HostReset (t : State) : Prop where
  win : t.rq R.PE_WIN = 0
  table : t.pe.table = []
  pend : t.pe.pendBit = []
  latch : t.latchOf 0 = default

theorem HostReset.of_parts {t u : State} (h : HostReset t) (hlo : u.word R.PE_WIN = t.word R.PE_WIN)
    (hhi : u.word (R.PE_WIN + 4) = t.word (R.PE_WIN + 4)) (ht : u.pe.table = t.pe.table) (hp : u.pe.pendBit = t.pe.pendBit)
    (hl : u.latchOf 0 = t.latchOf 0) : HostReset u :=
  ⟨by rw [State.rq, hlo, hhi, ← State.rq, h.win], ht.trans h.table, hp.trans h.pend, hl.trans h.latch⟩

theorem pcieCore_reset {s : State} (h : s.latchOf 0 = default) : HostReset s.pcieCore
    ∧ ∀ f : FRef, f.a / 4096 ≠ 0x1401 → f.a ≠ R.PE_WIN → f.a ≠ R.PE_WIN + 4 → s.pcieCore.rd f = s.rd f := by
  have hl := zeroed_keeps R.PE_MSIMAP (F := State.latch) (fun _ _ _ => rfl) s (List.range 80)
  have hw : ∀ a, a / 4096 ≠ 0x1401 → (s.fold (List.range 80) (fun s i => s.setWord (R.PE_MSIMAP i) 0)).word a = s.word a := by
    refine fun a ha => word_zeroed_ne R.PE_MSIMAP s _ fun i hi he => ha ?_
    have hi' := List.mem_range.1 hi
    simp only [R.PE_MSIMAP] at he
    omega
  unfold State.pcieCore
  dsimp only
  generalize s.fold (List.range 80) (fun s i => s.setWord (R.PE_MSIMAP i) 0) = u at hl hw ⊢
  refine ⟨⟨?_, rfl, rfl, ?_⟩, fun f hf hlo hhi => ?_⟩
  · exact State.rq_wq_same u R.PE_WIN 0
  · exact (congrArg (fun l => smapGet default l 0) hl).trans h
  · refine (State.rd_of_csr (s := u.wq R.PE_WIN 0) rfl f).trans ?_
    rw [State.rd, State.word_wq_ne _ _ hlo hhi, hw _ hf]
    rfl

theorem masterRelease_rd (s : State) (m : Nat) {f : FRef} (h : f.a ≠ R.XB_MRST) : (s.masterRelease m).rd f = s.rd f :=
  State.rd_wr_ne (f := R.XB_MRST_quiesced) _ _ h

theorem masterRelease_quiesced (s : State) {m : Nat} : (s.masterRelease m).quiesced m = false := by
  rw [State.quiesced, State.masterRelease, State.rd_wr_same _ _ _ (by decide), Nat.testBit_mod_two_pow, testBit_setBit_same,
    Bool.and_false]

theorem masterRelease_others (s : State) {m k : Nat} (h : k ≠ m) (hk : s.quiesced k = false) :
    (s.masterRelease m).quiesced k = false := by
  rw [State.quiesced, State.masterRelease, State.rd_wr_same _ _ _ (by decide), Nat.testBit_mod_two_pow, testBit_setBit_ne h,
    ← State.quiesced, hk, Bool.and_false]

theorem HostReset.release {t : State} (h : HostReset t) (m : Nat) : HostReset (t.masterRelease m) :=
  h.of_parts (State.word_wr_ne (f := R.XB_MRST_quiesced) _ _ (by decide)) (State.word_wr_ne (f := R.XB_MRST_quiesced) _ _ (by decide))
    (congrArg _ (State.wr_pe ..)) (congrArg _ (State.wr_pe ..)) (congrArg (fun l => smapGet default l 0) (State.wr_latch ..))

/-- The link is trained and master 0 released. -/
def State.linkUp (s : State) (link : PcieLink) : State :=
  ((s.wr R.PE_LINK_speed link.speed).wr R.PE_LINK_width link.width).masterRelease 0

theorem linkUp_leaves (s : State) (link : PcieLink) : (s.linkUp link).rd R.PE_LINK_speed = link.speed % 16
    ∧ (s.linkUp link).rd R.PE_LINK_width = link.width % 64 ∧ (s.linkUp link).quiesced 0 = false
    ∧ (s.linkUp link).pe = s.pe ∧ (s.linkUp link).mem = s.mem := by
  refine ⟨?_, ?_, masterRelease_quiesced _, ?_, ?_⟩
  · rw [State.linkUp, masterRelease_rd _ _ (by decide),
      State.rd_wr_disjoint (f := R.PE_LINK_width) (g := R.PE_LINK_speed) _ _ (by decide) (by rfl) (.inr (by decide)),
      State.rd_wr_same _ _ _ (by decide)]
    rfl
  · rw [State.linkUp, masterRelease_rd _ _ (by decide), State.rd_wr_same _ _ _ (by decide)]
    rfl
  · rw [State.linkUp, State.masterRelease, State.wr_pe, State.wr_pe, State.wr_pe]
  · rw [State.linkUp, State.masterRelease, State.wr_mem, State.wr_mem, State.wr_mem]

theorem HostReset.linkUp {t : State} (h : HostReset t) (link : PcieLink) : HostReset (t.linkUp link) := by
  refine HostReset.release ?_ 0
  refine h.of_parts ?_ ?_ (by rw [State.wr_pe, State.wr_pe]) (by rw [State.wr_pe, State.wr_pe])
    (congrArg (fun l => smapGet default l 0) ((State.wr_latch ..).trans (State.wr_latch ..)))
  · rw [State.word_wr_ne (f := R.PE_LINK_width) _ _ (by decide), State.word_wr_ne (f := R.PE_LINK_speed) _ _ (by decide)]
  · rw [State.word_wr_ne (f := R.PE_LINK_width) _ _ (by decide), State.word_wr_ne (f := R.PE_LINK_speed) _ _ (by decide)]

/-- Master 0 quiesced and the PCIe core reset. -/
def State.hostCleared (s : State) : State := (s.masterReset 0 0).pcieCore

theorem hostCleared_reset (s : State) : HostReset s.hostCleared ∧ s.hostCleared.quiesced 0 = true := by
  obtain ⟨hq, -, -, -⟩ := masterReset_leaves s (m := 0) (by decide) 0
  obtain ⟨hr, hrd⟩ := pcieCore_reset (masterReset_latch s 0 0)
  refine ⟨hr, ?_⟩
  rw [State.quiesced, State.hostCleared, hrd _ (by decide) (by decide) (by decide)]
  exact hq

theorem pcieReset_up (s : State) (link : PcieLink) : s.pcieReset false link = s.hostCleared.linkUp link := rfl

/-- The link is down while PERST_N is low. -/
def State.linkDown (s : State) : State :=
  State.setWord { s with pe := { s.pe with perst := true } } R.PE_LINK_width.a 0

section
variable (s : State)

theorem linkDown_pe : s.linkDown.pe = { s.pe with perst := true } := State.setWord_pe ..

theorem linkDown_latch : s.linkDown.latch = s.latch := State.setWord_latch ..

theorem linkDown_word {a : Nat} (ha : a ≠ R.PE_LINK_width.a) : s.linkDown.word a = s.word a :=
  (State.word_setWord_ne _ _ ha).trans (State.word_of_csr rfl a)

theorem linkDown_width : s.linkDown.rd R.PE_LINK_width = 0 := by
  rw [State.linkDown, State.rd, State.word_setWord_same]
  rfl

theorem linkDown_quiesced : s.linkDown.quiesced 0 = s.quiesced 0 := by
  rw [State.quiesced, State.rd, linkDown_word _ (by decide)]
  rfl
end

theorem HostReset.linkDown {s : State} (h : HostReset s) : HostReset s.linkDown :=
  h.of_parts (linkDown_word s (by decide)) (linkDown_word s (by decide)) (by rw [linkDown_pe]) (by rw [linkDown_pe])
    (congrArg (fun l => smapGet default l 0) (linkDown_latch s))

theorem pcieReset_down (s : State) (link : PcieLink) : s.pcieReset true link = s.hostCleared.linkDown := rfl

theorem pcieReset_acts (s : State) (perst : Bool) (link : PcieLink) : HostReset (s.pcieReset perst link)
    ∧ (s.pcieReset perst link).quiesced 0 = perst
    ∧ (s.pcieReset perst link).rd R.PE_LINK_width = if perst then 0 else link.width % 64 := by
  obtain ⟨hr, hq⟩ := hostCleared_reset s
  cases perst with
  | false =>
    rw [pcieReset_up, if_neg (by decide)]
    obtain ⟨-, hw, hq', -, -⟩ := linkUp_leaves s.hostCleared link
    exact ⟨hr.linkUp link, hq', hw⟩
  | true =>
    rw [pcieReset_down, if_pos rfl]
    exact ⟨hr.linkDown, (linkDown_quiesced _).trans hq, linkDown_width _⟩

/-! ## A function-level reset -/

theorem dmaIdle_states (s : State) {c : Nat} (hc : c < 8) : s.dmaIdle.dmaState c = 0 := by
  rw [State.dmaState, State.rd, State.dmaIdle]
  exact congrArg (fun w : Word => getBits w.toNat 0 3) (word_zeroed R.XB_DMASTAT s (List.range 8) (List.mem_range.2 hc))

theorem HostReset.dmaIdle {t : State} (h : HostReset t) : HostReset t.dmaIdle := by
  have hw : ∀ a, R.XB_DMASTAT 8 < a → t.dmaIdle.word a = t.word a := by
    refine fun a ha => word_zeroed_ne R.XB_DMASTAT t _ fun i hi he => ?_
    have hi' := List.mem_range.1 hi
    simp only [R.XB_DMASTAT] at he ha
    omega
  have hpe := zeroed_keeps R.XB_DMASTAT (F := State.pe) (fun _ _ _ => rfl) t (List.range 8)
  have hl := zeroed_keeps R.XB_DMASTAT (F := State.latch) (fun _ _ _ => rfl) t (List.range 8)
  exact h.of_parts (hw _ (by decide)) (hw _ (by decide)) (congrArg _ hpe) (congrArg _ hpe)
    (congrArg (fun l => smapGet default l 0) hl)

section
variable (s : State) (m b : Nat)

theorem masterReset_word {a : Nat} (ha : a ≠ R.XB_CNT 5) (hq : a ≠ R.XB_MRST) : (s.masterReset m b).word a = s.word a := by
  have hw := s.word_wr_ne (f := R.XB_MRST_quiesced) (setBit (s.rd R.XB_MRST_quiesced) m true) hq
  unfold State.masterReset
  generalize s.wr R.XB_MRST_quiesced (setBit (s.rd R.XB_MRST_quiesced) m true) = u at hw ⊢
  rw [State.word_incBy_ne _ _ ha, State.word_of_csr (s := u) (by rfl), hw]

theorem masterReset_pe : (s.masterReset m b).pe = s.pe := by
  unfold State.masterReset
  rw [State.incBy_pe, ← State.wr_pe s R.XB_MRST_quiesced]

theorem masterReset_latchOf {k : Nat} (hk : k ≠ m) : (s.masterReset m b).latchOf k = s.latchOf k := by
  unfold State.masterReset State.latchOf
  rw [State.incBy_latch, smapGet, smapGet, State.wr_latch, smapFind_erase_ne _ hk]
end

theorem HostReset.masterReset {t : State} (h : HostReset t) {m : Nat} (hm : 0 ≠ m) (b : Nat) : HostReset (t.masterReset m b) :=
  h.of_parts (masterReset_word t m b (by decide) (by decide)) (masterReset_word t m b (by decide) (by decide))
    (by rw [masterReset_pe]) (by rw [masterReset_pe]) (masterReset_latchOf t m b hm)

theorem functionReset_eq (s : State) : s.functionReset
    = (((s.hostCleared.masterReset 18 0).dmaIdle).masterRelease 0).masterRelease 18 := rfl

theorem functionReset_acts (s : State) : HostReset s.functionReset ∧ s.functionReset.quiesced 0 = false
    ∧ s.functionReset.quiesced 18 = false ∧ ∀ c < 8, s.functionReset.dmaState c = 0 := by
  have hr := (((hostCleared_reset s).1.masterReset (m := 18) (by decide) 0).dmaIdle.release 0).release 18
  rw [functionReset_eq]
  refine ⟨hr, masterRelease_others _ (by decide) (masterRelease_quiesced _), masterRelease_quiesced _, fun c hc => ?_⟩
  have hne : (R.XB_DMASTAT_state c).a ≠ R.XB_MRST := by
    simp only [R.XB_DMASTAT_state, R.XB_DMASTAT, R.XB_MRST]
    omega
  rw [State.dmaState, masterRelease_rd _ _ hne, masterRelease_rd _ _ hne]
  exact dmaIdle_states _ hc

/-! ## The link after PERST_N -/

theorem perstHigh_acts {s : State} (hoff : s.off = false) (link : PcieLink) :
    s.perstHigh link = State.linkUp { s with pe := { s.pe with perst := false } } link :=
  if_neg (show ¬ s.off = true by rw [hoff]; decide)

/-! ## Registers of the Arbiter -/

/-- MG_CTL. -/
def locMgCtl : Loc := ⟨⟨.MG_CTL, 0x4, [], false, [⟨1, 1, .wo, 0, []⟩, ⟨0, 0, .arb, 1, []⟩]⟩, [], false⟩

/-- MG_WDOG. -/
def locMgWdog : Loc :=
  ⟨⟨.MG_WDOG, 0xC, [], false, [⟨23, 16, .wo, 0, []⟩, ⟨15, 0, .arb, 1000, [(10, 10000)]⟩]⟩, [], false⟩

theorem locate_mgCtl : locate R.MG_CTL = some locMgCtl := by decide
theorem locate_mgWdog : locate R.MG_WDOG = some locMgWdog := by decide

section
variable {s : State} {m : Nat} {w : Word}

theorem writeWord_mgCtl (h : s.takes m R.MG_CTL w) : s.writeWord m R.MG_CTL w
    = ((s.landed m R.MG_CTL w).when (w.toNat.testBit 1) (·.wr R.MG_STATUS_pm_unv 0)).okResp [] :=
  writeWord_effect h locate_mgCtl (by decide) rfl

/-- A kick has no effect on the registers beside the write. -/
theorem writeWord_mgWdog (h : s.takes m R.MG_WDOG w) : s.writeWord m R.MG_WDOG w = (s.landed m R.MG_WDOG w).okResp [] :=
  writeWord_effect h locate_mgWdog (by decide) rfl

/-- The enable of the watchdog lands as an accepted write says. -/
theorem rd_landed_wdEn (h : s.takes m R.MG_CTL w) : (s.landed m R.MG_CTL w).rd R.MG_CTL_wd_en = getBits w.toNat 0 1 := by
  obtain ⟨-, k, hk, -, -, hfor, -, -⟩ := h
  obtain rfl : locMgCtl = k := Option.some.inj (locate_mgCtl.symm.trans hk)
  refine rd_landed_accepted (f := R.MG_CTL_wd_en) locate_mgCtl rfl hfor rfl (by decide) fun i hi => ?_
  obtain rfl : i = 0 := Nat.lt_one_iff.1 hi
  have hguard : (s.guards locMgCtl).1 = 0 := rfl
  exact ⟨rfl, by rw [hguard]; rfl, rfl⟩

/-- The word of a confirmation: pm_confirm set and wd_en as it stands. -/
theorem confirm_word (s : State) : (BitVec.ofNat 32 (2 + s.rd R.MG_CTL_wd_en)).toNat.testBit 1 = true
    ∧ getBits (BitVec.ofNat 32 (2 + s.rd R.MG_CTL_wd_en)).toNat 0 1 = s.rd R.MG_CTL_wd_en := by
  have hlt : s.rd R.MG_CTL_wd_en < 2 := getBits_lt ..
  generalize s.rd R.MG_CTL_wd_en = x at hlt ⊢
  obtain rfl | rfl : x = 0 ∨ x = 1 := by omega
  · decide
  · decide

/-- A write of MG_RRST that reaches the register resets the regions it names, one by one. -/
theorem writeWord_rrst (h : s.csrDenied m R.MG_RRST_rst.a true = none) : s.writeWord m R.MG_RRST_rst.a w
    = ((s.fold ((List.range 7).filter (fun r => w.getLsbD r && (s.hasBeam || (r != 4 && r != 6))))
        (fun s r => s.regionReset r)).okResp []) := by
  rw [State.writeWord, h, State.csrWrite, if_pos rfl]
end

theorem regionReset_refused {s : State} {r : Nat} (h : s.regionIdle r = false) : s.regionReset r = s.flag R.MG_STATUS_rst_ref :=
  if_pos (by rw [h]; rfl)

theorem pairMapConfirm_acts {s : State} {m : Fin 20} (h : s.takes m R.MG_CTL_pm_confirm.a (BitVec.ofNat 32 (2 + s.rd R.MG_CTL_wd_en))) :
    ∃ t, exec (.pairMapConfirm m) s = .next t ∧ t.on R.MG_STATUS_pm_unv = false
      ∧ t.rd R.MG_CTL_wd_en = s.rd R.MG_CTL_wd_en ∧ t.mem = s.mem := by
  obtain ⟨hbit, hen⟩ := confirm_word s
  have hw := writeWord_mgCtl h
  have hr := (rd_landed_wdEn h).trans hen
  have hm : (s.landed m R.MG_CTL (BitVec.ofNat 32 (2 + s.rd R.MG_CTL_wd_en))).mem = s.mem := by
    rw [landed_eq_setWord locate_mgCtl rfl, State.setWord_mem]
  generalize s.landed m R.MG_CTL (BitVec.ofNat 32 (2 + s.rd R.MG_CTL_wd_en)) = u at hw hr hm
  simp only [hbit, State.when, if_true] at hw
  have he : exec (.pairMapConfirm m) s = .next ((u.wr R.MG_STATUS_pm_unv 0).okResp []) :=
    (s.does_on h.1.1 fun s => s.writeWord m R.MG_CTL (BitVec.ofNat 32 (2 + s.rd R.MG_CTL_wd_en))).trans (congrArg _ hw)
  refine ⟨_, he, ?_, ?_, ?_⟩
  · rw [State.on, State.rd_okResp, State.rd_wr_same _ _ _ (by decide)]
    rfl
  · rw [State.rd_okResp, State.rd_wr_ne (f := R.MG_STATUS_pm_unv) _ _ (by decide), hr]
  · rw [State.okResp_mem, State.wr_mem, hm]

/-! ## The exit from Adjournment -/

theorem openReady_shown (s : State) (ms : Nat) : (s.openReady ms).on R.MG_STATUS_ready = true
    ∧ (s.openReady ms).rd R.MG_STATUS_step = 9 ∧ (94, 0) ∈ (s.openReady ms).evq := by
  unfold State.openReady
  generalize hu : ((s.setStep 9).wr R.MG_STATUS_ready 1).wr R.MG_OPENT_ms ms = u
  refine ⟨?_, ?_, ?_⟩
  · rw [State.on_eq_true, State.rd_fire, ← hu, State.rd_wr_ne (f := R.MG_OPENT_ms) _ _ (by decide), State.rd_wr_same _ _ _ (by decide)]
    decide
  · rw [State.rd_fire, ← hu, State.rd_wr_ne (f := R.MG_OPENT_ms) _ _ (by decide),
      State.rd_wr_disjoint (f := R.MG_STATUS_ready) _ _ (by decide) (by rfl) (.inl (by decide)), setStep_step _ (by decide)]
  · exact List.mem_append_right _ (List.mem_singleton.2 rfl)

/-- Opening goes no further than step 7 without a configuration. -/
def State.stuck (s : State) : State :=
  (((s.wr R.CF_STATUS_cfg_state 3).inc (R.CF_CNT 2)).setStep 7).wr R.MG_STATUS_noconf 1

theorem stuck_shown (s : State) : s.stuck.rd R.MG_STATUS_step = 7 ∧ s.stuck.on R.MG_STATUS_noconf = true
    ∧ s.stuck.rd R.CF_STATUS_cfg_state = 3 := by
  unfold State.stuck
  refine ⟨?_, ?_, ?_⟩
  · rw [State.rd_wr_disjoint (f := R.MG_STATUS_noconf) _ _ (by decide) (by rfl) (.inl (by decide)), setStep_step _ (by decide)]
  · rw [State.on_eq_true, State.rd_wr_same _ _ _ (by decide)]
    decide
  · rw [State.rd_wr_ne (f := R.MG_STATUS_noconf) _ _ (by decide), State.setStep, State.rd_wr_ne (f := R.MG_STATUS_step) _ _ (by decide),
      State.rd_inc_ne _ (show R.CF_STATUS_cfg_state.a ≠ R.CF_CNT 2 by decide), State.rd_wr_same _ _ _ (by decide)]
    decide

theorem stackCool_cf (s : State) (st : Nat) : (s.stackCool st).cf = s.cf := by
  rw [State.stackCool, State.wr_cf, State.wr_cf]

theorem showOwed_cf (s : State) (st : Nat) : (s.showOwed st).cf = s.cf := State.wr_cf ..

theorem setHchan_cf (s : State) (st c : Nat) (x : HbmChan) : (s.setHchan st c x).cf = s.cf := rfl

theorem fold_setHchan_cf (s : State) (st : Nat) (l : List Nat) (f : State → Nat → State)
    (hf : ∀ t c, f t c = t ∨ ∃ x, f t c = t.setHchan st c x) : (s.fold l f).cf = s.cf := by
  refine foldl_keeps (P := fun t : State => t.cf = s.cf) (fun t c ht => ?_) l rfl
  rcases hf t c with h | ⟨x, h⟩
  · rw [h, ht]
  · rw [h, setHchan_cf, ht]

theorem stackHot_cf (s : State) (st : Nat) : (s.stackHot st).cf = s.cf := by
  have h := fold_setHchan_cf s st (List.range 32) (fun s c =>
    if (s.hchan st c).owed = 0 then s else s.setHchan st c { s.hchan st c with
      owed := 0
      block := max (s.hchan st c).block s.nowNs + 400 * (s.hchan st c).owed
      runEnd := max (s.hchan st c).block s.nowNs + 400 * (s.hchan st c).owed }) (fun t c => by
    by_cases ho : (t.hchan st c).owed = 0
    · exact .inl (if_pos ho)
    · exact .inr ⟨_, if_neg ho⟩)
  unfold State.stackHot
  dsimp only
  generalize State.fold s (List.range 32) _ = u at h ⊢
  rw [showOwed_cf, State.inc_cf, State.wr_cf, State.wr_cf]
  split
  · exact h
  · exact h

theorem stacksOut_cf (s : State) (temps : List Nat) : (s.stacksOut temps).cf = s.cf := by
  unfold State.stacksOut
  dsimp only
  rw [State.wr_cf]
  refine foldl_keeps (P := fun t : State => t.cf = s.cf) (fun t st ht => ?_) _ rfl
  split
  · rw [State.when]
    have hc := fold_setHchan_cf t st (List.range 32) (fun s c => s.setHchan st c { s.hchan st c with owed := 0, block := 0 })
      (fun _ _ => .inr ⟨_, rfl⟩)
    split
    · rw [stackHot_cf, stackCool_cf, State.wr_cf, showOwed_cf, State.wr_cf, hc, ht]
    · rw [stackCool_cf, State.wr_cf, showOwed_cf, State.wr_cf, hc, ht]
  · exact ht

/-- The device leaving Adjournment, its stacks out of self-refresh. -/
def State.waking (s : State) (w : Wake) : State :=
  ((s.wr R.MG_STATUS_adjourned 0).wr R.MG_RSTCAUSE_wake (s.rd R.MG_RSTCAUSE_wake ||| w.events.toNat)).stacksOut w.temps

theorem waking_record (s : State) (w : Wake) : (s.waking w).cf.record = s.cf.record := by
  rw [State.waking, stacksOut_cf, State.wr_cf, State.wr_cf]

section
variable {s : State} {w : Wake} (hv : s.mg.vin = true) (ha : s.on R.MG_STATUS_adjourned = true)
include hv ha

theorem wake_loads (hi : w.images = true ∨ s.cf.record = []) : ∃ u : State, s.wake w = u.openReady w.ms := by
  have hg : ¬ ((!s.mg.vin) = true ∨ (!s.on R.MG_STATUS_adjourned) = true) := by
    rw [hv, ha]
    decide
  have hr := waking_record s w
  have hn : ¬ ((!w.images) = true ∧ (s.waking w).cf.record ≠ []) := by
    rw [hr]
    rintro ⟨him, hne⟩
    rcases hi with hi | hi
    · rw [hi] at him
      exact absurd him (by decide)
    · exact hne hi
  exact ⟨_, (if_neg hg).trans (if_neg hn)⟩

theorem wake_stuck (hi : w.images = false) (hr : s.cf.record ≠ []) : ∃ u : State, s.wake w = u.stuck := by
  have hg : ¬ ((!s.mg.vin) = true ∨ (!s.on R.MG_STATUS_adjourned) = true) := by
    rw [hv, ha]
    decide
  have hn : (!w.images) = true ∧ (s.waking w).cf.record ≠ [] := by
    rw [waking_record, hi]
    exact ⟨rfl, hr⟩
  exact ⟨(State.lostContext { s.waking w with cf := { (s.waking w).cf with record := [] } }).doubtDigests,
    (if_neg hg).trans (if_pos hn)⟩
end

theorem wake_awake {s : State} (w : Wake) (ha : s.on R.MG_STATUS_adjourned = false) : s.wake w = s :=
  if_pos (.inr (by rw [ha]; rfl))

theorem wakeAtTime_due {s : State} (w : Wake) (hen : s.rq R.MG_WAKETIME / 2 ^ 63 = 1) (ha : s.on R.MG_STATUS_adjourned = true)
    (ht : (s.rq R.MG_WAKETIME % 2 ^ 48) * 1000000000 * nsUnit ≤ s.tb.t) : s.wakeAtTime w = s.wake w := by
  rw [State.wakeAtTime]
  dsimp only
  rw [if_pos ⟨hen, ha⟩, decide_eq_false (Nat.not_lt.2 ht), State.when, if_neg (by decide)]

/-! ## The commands -/

theorem exec_powerOn (s : State) (o : Opening) : exec (.powerOn o) s = .next (s.powerOn o) := rfl
theorem exec_powerLoss (s : State) : exec .powerLoss s = .next s.powerLoss := rfl
theorem exec_resetNAssert (s : State) (o : Opening) : exec (.resetNAssert o) s = .next (s.resetN o) := rfl
theorem exec_resetNRelease (s : State) : exec .resetNRelease s = .next s.resetNRelease := rfl
theorem exec_wakePin (s : State) (w : Wake) : exec (.wakePin w) s = .next (s.wake w) := rfl
theorem exec_wakeTime (s : State) (w : Wake) : exec (.wakeTime w) s = .next (s.wakeAtTime w) := rfl
theorem exec_perstNRelease (s : State) (link : PcieLink) : exec (.perstNRelease link) s = .next (s.perstHigh link) := rfl

section
variable {s : State} (hoff : s.off = false)
include hoff

theorem exec_pcieReset (perst : Bool) (link : PcieLink) : exec (.pcieReset perst link) s = .next (s.pcieReset perst link) := by
  apply State.does_eq hoff
  rfl

theorem exec_functionLevelReset : exec .functionLevelReset s = .next s.functionReset := by
  apply State.does_eq hoff
  rfl

theorem exec_watchdogExpiry (h : s.on R.MG_CTL_wd_en = true) : exec .watchdogExpiry s = .next s.arbiterStop :=
  (s.does_on hoff fun s => if s.on R.MG_CTL_wd_en then s.arbiterStop else s).trans (congrArg _ (if_pos h))
end

theorem powerOn_runs {s : State} {o : Opening} (hot : s.tooHot = false) :
    (o.resetLow = true → ∃ t, exec (.powerOn o) s = .next t ∧ t.rd R.MG_STATUS_step = 1 ∧ t.on R.MG_STATUS_ready = false
        ∧ t.on R.MG_RSTCAUSE_por = true ∧ t.mem = [] ∧ t.cf.store = s.cf.store)
      ∧ (o.resetLow = false → o.xo = false → ∃ t, exec (.powerOn o) s = .next t ∧ t.rd R.MG_STATUS_step = 3
        ∧ t.on R.MG_STATUS_xo_wait = true ∧ t.mem = [])
      ∧ (o.resetLow = false → o.xo = true → (o.fwOk = false ∨ (o.bootSpi = true ∧ 8388608 < o.fwBytes)) →
        ∃ t, exec (.powerOn o) s = .next t ∧ t.rd R.MG_STATUS_step = 4 ∧ t.on R.MG_STATUS_fw_fail = true ∧ t.mem = []
          ∧ (o.bootSpi = true → .spiRead 0x6C 0 (min o.fwBytes 8388608) ∈ t.out))
      ∧ (o.resetLow = false → o.xo = true → o.fwOk = true → (o.bootSpi = true → o.fwBytes ≤ 8388608) →
        (∀ k < 4, s.slotState k ≠ 3) → ∃ t, exec (.powerOn o) s = .next t ∧ t.rd R.MG_STATUS_step = 7
          ∧ t.on R.MG_STATUS_noconf = true ∧ t.on R.MG_STATUS_ready = false ∧ t.mem = []) :=
  ⟨fun hl => ⟨_, exec_powerOn s o, powerOn_held hot hl⟩, fun hl hx => ⟨_, exec_powerOn s o, powerOn_waits hot hl hx⟩,
    fun hl hx hbad => ⟨_, exec_powerOn s o, powerOn_badImage hot hl hx hbad⟩,
    fun hl hx hok hfit hs => ⟨_, exec_powerOn s o, powerOn_noSlot hot hl hx hok hfit hs⟩⟩

theorem resetNAssert_runs {s : State} {o : Opening} (hv : s.mg.vin = true) (hot : s.tooHot = false) (hl : o.resetLow = true) :
    ∃ t, exec (.resetNAssert o) s = .next t ∧ t.rd R.MG_STATUS_step = 1 ∧ t.on R.MG_RSTCAUSE_reset_n = true
      ∧ t.tb.t = s.tb.t ∧ t.rq R.CS_CLAIM = s.rq R.CS_CLAIM ∧ (∀ k < 200, t.rq (R.OT_SEQ k) = s.rq (R.OT_SEQ k))
      ∧ t.rd R.IG_LAST_last_hstate = s.rd R.IG_STATUS_hstate ∧ t.cf.store = s.cf.store ∧ t.mem = [] := by
  obtain ⟨t, he, hk, h1, hc⟩ := resetN_held hv hot hl
  refine ⟨t, (exec_resetNAssert s o).trans (congrArg _ he), h1, hc, hk.time, ?_, fun k hlt => ?_, hk.hstate, hk.store, hk.mem⟩
  · exact hk.rq (a := R.CS_CLAIM) (by decide) (by decide) ⟨by decide, by decide⟩ ⟨by decide, by decide⟩
  · obtain ⟨h0, h4, hlow⟩ := seq_kept hlt
    have hrst : R.IG_LAST < R.MG_RSTCAUSE := by decide
    exact hk.rq h0 h4 ⟨by omega, by omega⟩ ⟨by omega, by omega⟩

/-- Settles O53: Opening by the step at which it stops, each reset by what it keeps and clears, and the exit from Adjournment by
where it ends. -/
theorem openingRuns : Obligations.OpeningRuns := by
  unfold Obligations.OpeningRuns
  intro s
  refine ⟨fun o hot => powerOn_runs hot, exec_powerLoss s, fun o hv hot hl => resetNAssert_runs hv hot hl,
    fun hl hv h1 hx => ⟨_, exec_resetNRelease s, resetNRelease_waits hl hv h1 hx⟩, fun perst link hoff => ?_, fun hoff => ?_,
    fun m v hw => ?_, fun r hr => regionReset_refused hr, fun m v h => ?_, fun hoff hen => exec_watchdogExpiry hoff hen,
    fun m h => pairMapConfirm_acts h, fun w hv ha => ⟨fun hi => ?_, fun hi hr => ?_⟩, fun w ha => ?_, fun w hen ha ht => ?_,
    fun link hoff hsp hwd => ?_⟩
  · obtain ⟨hr, hq, hw⟩ := pcieReset_acts s perst link
    exact ⟨_, exec_pcieReset hoff perst link, hq, hr.win, hr.table, hr.pend, hr.latch, hw, mem_of_mems (pcieReset_mems ..)⟩
  · obtain ⟨hr, h0, h18, hd⟩ := functionReset_acts s
    exact ⟨_, exec_functionLevelReset hoff, h0, h18, hr.win, hd, mem_of_mems (functionReset_mems s)⟩
  · obtain ⟨hoff, hd, -, -⟩ := hw
    exact (s.does_on hoff fun s => s.writeWord m R.MG_RRST_rst.a v).trans (congrArg _ (writeWord_rrst hd))
  · exact (s.does_on h.1.1 fun s => s.writeWord m R.MG_WDOG (force v R.MG_WDOG_kick 0x5A)).trans (congrArg _ (writeWord_mgWdog h))
  · obtain ⟨u, hu⟩ := wake_loads hv ha hi
    exact ⟨_, (exec_wakePin s w).trans (congrArg _ hu), openReady_shown u w.ms⟩
  · obtain ⟨u, hu⟩ := wake_stuck hv ha hi hr
    exact ⟨_, (exec_wakePin s w).trans (congrArg _ hu), stuck_shown u⟩
  · exact (exec_wakePin s w).trans (congrArg _ (wake_awake w ha))
  · exact (exec_wakeTime s w).trans (congrArg _ (wakeAtTime_due w hen ha ht))
  · obtain ⟨hs, hw, hq, hpe, hm⟩ := linkUp_leaves { s with pe := { s.pe with perst := false } } link
    exact ⟨_, (exec_perstNRelease s link).trans (congrArg _ (perstHigh_acts hoff link)), hs.trans (Nat.mod_eq_of_lt hsp),
      hw.trans (Nat.mod_eq_of_lt hwd), hq, congrArg _ hpe, hm⟩

end Sys2Proof.Machine
end

section
/-! O32: the commands of the HBM controllers. -/

namespace Sys2Proof.Machine

/-! ## The commands and their functions -/

section
variable {s : State} (hoff : s.off = false) (st : Fin 8) (c : Fin 32)
include hoff

theorem exec_hbmRequestServe (new : List HbmArrival) (ready : List Nat) (sv : HbmService) :
    exec (.hbmRequestServe st c new ready sv) s = .next (s.hbmServe st c new ready sv) := by
  apply State.does_eq hoff
  rfl

theorem exec_agePromotion : exec (.agePromotion st c) s = .next (s.agePromote st c) := by
  apply State.does_eq hoff
  rfl

theorem exec_refreshDue (paid : Bool) : exec (.refreshDue st c paid) s = .next (s.refreshDue st c paid) := by
  apply State.does_eq hoff
  rfl

theorem exec_hbmTemperatureRead (temp : BitVec 8) : exec (.hbmTemperatureRead st temp) s = .next (s.hbmTemp st temp.toNat) := by
  apply State.does_eq hoff
  rfl

theorem exec_trngHealthFail : exec .trngHealthFail s = .next s.trngFail := by
  apply State.does_eq hoff
  rfl

theorem exec_scrubRead (bank row pc col word pass : Nat) (outcome : Fin 3) (newer : Bool) :
    exec (.scrubRead st c bank row pc col word pass outcome newer) s
      = .next (s.scrubRead st c bank row pc col word pass outcome newer) := by
  apply State.does_eq hoff
  rfl

theorem exec_rowSpare : exec (.rowSpare st) s = .next (s.rowSpare st) := by
  apply State.does_eq hoff
  rfl

theorem exec_rowCopyComplete : exec (.rowCopyComplete st) s = .next (s.rowCopied st) := by
  apply State.does_eq hoff
  rfl

theorem exec_phyCentring : exec (.phyCentring st c) s = .next (s.phyCentre st c) := by
  apply State.does_eq hoff
  rfl

theorem exec_hbmTrainingDone (ok : Bool) : exec (.hbmTrainingDone st ok) s = .next (s.trainingDone st ok) := by
  apply State.does_eq hoff
  rfl

theorem exec_selfRefreshEntryDone : exec .selfRefreshEntryDone s = .next s.selfRefreshIn := by
  apply State.does_eq hoff
  rfl

theorem exec_selfRefreshExitDone (temps : List Nat) : exec (.selfRefreshExitDone temps) s = .next (s.selfRefreshOut temps) := by
  apply State.does_eq hoff
  rfl
end

/-! ## Requests come and are served (R279, R281) -/

section
variable {s : State} {st c : Nat}

theorem admitReq_tb (s : State) (st c : Nat) (r : HbmReq) : (s.admitReq st c r).tb = s.tb := by
  unfold State.admitReq
  split
  · exact State.wr_tb ..
  · rfl

/-- The requests that come, admitted in their order. -/
def State.admitAll (s : State) (st c : Nat) (new : List HbmArrival) : State :=
  s.fold new (fun t a => t.admitReq st c ⟨a.cls, a.bank, a.row, a.bytes, a.use, t.nowNs, false, false⟩)

theorem admitAll_nowNs (new : List HbmArrival) : (s.admitAll st c new).nowNs = s.nowNs := by
  have h : (s.admitAll st c new).tb = s.tb :=
    foldl_keeps (P := fun t : State => t.tb = s.tb) (fun t a ht => (admitReq_tb ..).trans ht) new rfl
  rw [State.nowNs, h, State.nowNs]

theorem hbmServe_eq (h2 : s.stkState st = 2) (new : List HbmArrival) (ready : List Nat) (v : HbmService) :
    s.hbmServe st c new ready v = if (s.admitAll st c new).nowNs < ((s.admitAll st c new).hchan st c).block then s.admitAll st c new
      else ((s.admitAll st c new).pickReq ((s.admitAll st c new).hchan st c) ready).elim (s.admitAll st c new)
        (fun r => (s.admitAll st c new).serveReq st c r v) := by
  rw [State.hbmServe, h2, if_neg (by decide), if_neg (by decide)]
  unfold State.admitAll
  generalize State.fold s new _ = u
  dsimp only
  cases u.pickReq (u.hchan st c) ready <;> rfl

theorem hbmServe_served (h2 : s.stkState st = 2) {new : List HbmArrival} {ready : List Nat} (v : HbmService) {r : HbmReq}
    (hb : ((s.admitAll st c new).hchan st c).block ≤ s.nowNs)
    (hp : (s.admitAll st c new).pickReq ((s.admitAll st c new).hchan st c) ready = some r) :
    s.hbmServe st c new ready v = (s.admitAll st c new).serveReq st c r v := by
  rw [hbmServe_eq h2, admitAll_nowNs, if_neg (Nat.not_lt.2 hb), hp, Option.elim_some]

theorem hbmServe_idle (h2 : s.stkState st = 2) {new : List HbmArrival} {ready : List Nat} (v : HbmService)
    (h : s.nowNs < ((s.admitAll st c new).hchan st c).block
      ∨ (s.admitAll st c new).pickReq ((s.admitAll st c new).hchan st c) ready = none) :
    s.hbmServe st c new ready v = s.admitAll st c new := by
  rw [hbmServe_eq h2, admitAll_nowNs]
  rcases h with h | h
  · exact if_pos h
  · rw [h, Option.elim_none, ite_self]

/-- A stack that failed training answers poison. -/
theorem hbmServe_failed (h5 : s.stkState st = 5) (u : HbmUse) (ready : List Nat) (v : HbmService) (cls bank row bytes : Nat) :
    s.hbmServe st c [⟨cls, bank, row, bytes, some u⟩] ready v = s.poisonReact st u := if_pos h5

/-! ## Refresh (R284, R286) -/

theorem refreshDue_eq (h2 : s.stkState st = 2) (paid : Bool) : s.refreshDue st c paid = (s.setHchan st c
    (if !s.maintFree (s.hchan st c) then { s.hchan st c with owed := (s.hchan st c).owed + 1 }
      else if paid then { s.hchan st c with owed := (s.hchan st c).owed + 1 - 1 }
      else if s.allowed st ≤ (s.hchan st c).owed + 1 then
        { s.hchan st c with owed := (s.hchan st c).owed + 1 - 1, block := max (s.hchan st c).block (s.nowNs + 400) }
      else { s.hchan st c with owed := (s.hchan st c).owed + 1 })).showOwed st := if_neg (not_not.2 h2)

/-! ## Temperature (R285) -/

theorem tctl_ne_stk (st : Nat) : R.HM_TCTL ≠ R.HM_STK st := by
  simp only [R.HM_TCTL, R.HM_STK]
  omega

/-- A reading that is neither at the point of a hot stack nor as cool as a stack must be starts the cool run anew. -/
theorem hbmTemp_eq (h0 : s.stkState st ≠ 0) (h3 : s.stkState st ≠ 3) (temp : BitVec 8) :
    s.hbmTemp st temp.toNat
      = if !s.on (R.HM_STK_hot st) && decide (s.rd R.HM_TCTL_hot_c ≤ temp.toNat) then
          ((s.wr (R.HM_STK_temp_c st) temp.toNat).setHstk st { s.hstk st with cool := 0 }).stackHot st
        else if temp.toNat + s.rd R.HM_TCTL_hyst_c ≤ s.rd R.HM_TCTL_hot_c then
          (let start := if (s.hstk st).cool = 0 then s.nowNs + 1 else (s.hstk st).cool
          let u := (s.wr (R.HM_STK_temp_c st) temp.toNat).setHstk st { s.hstk st with cool := start }
          if s.on (R.HM_STK_hot st) && decide (s.rd R.HM_TCTL_hold_ms * 1000000 ≤ s.nowNs + 1 - start) then u.stackCool st else u)
        else (s.wr (R.HM_STK_temp_c st) temp.toNat).setHstk st { s.hstk st with cool := 0 } := by
  have hmin : min temp.toNat 255 = temp.toNat := Nat.min_eq_left (Nat.le_of_lt_succ temp.isLt)
  have hhot : (s.wr (R.HM_STK_temp_c st) temp.toNat).on (R.HM_STK_hot st) = s.on (R.HM_STK_hot st) :=
    congrArg (· != 0) (State.rd_wr_disjoint (f := R.HM_STK_temp_c st) (g := R.HM_STK_hot st) _ _ (show 0 + 8 ≤ 32 by decide) rfl
      (.inr (show 0 + 8 ≤ 11 by decide)))
  have hk : (s.wr (R.HM_STK_temp_c st) temp.toNat).hstk st = s.hstk st := by
    rw [State.hstk, State.wr_hm, State.hstk]
  have hn : (s.wr (R.HM_STK_temp_c st) temp.toNat).nowNs = s.nowNs := by
    rw [State.nowNs, State.wr_tb, State.nowNs]
  have hrd (f : FRef) (hf : f.a = R.HM_TCTL) : (s.wr (R.HM_STK_temp_c st) temp.toNat).rd f = s.rd f :=
    State.rd_wr_ne (f := R.HM_STK_temp_c st) _ _ (hf ▸ tctl_ne_stk st)
  have hc := hrd R.HM_TCTL_hot_c rfl
  have hy := hrd R.HM_TCTL_hyst_c rfl
  have hh := hrd R.HM_TCTL_hold_ms rfl
  rw [State.hbmTemp, if_neg (not_or.2 ⟨h0, h3⟩), hmin]
  generalize s.wr (R.HM_STK_temp_c st) temp.toNat = t at hhot hk hn hc hy hh ⊢
  dsimp only
  rw [hhot, hk, hn, hc, hy]
  have hset (x : HbmStack) : (t.setHstk st x).rd R.HM_TCTL_hold_ms = s.rd R.HM_TCTL_hold_ms ∧ (t.setHstk st x).nowNs = s.nowNs :=
    ⟨(State.rd_of_csr rfl _).trans hh, hn⟩
  rw [(hset _).1, (hset _).2]
end

/-! ## The generator (R288) -/

theorem nextRound_of_words {s t : State} (hw : ∀ b ∈ boundaryWords, t.word b = s.word b) (hr : t.rnd = s.rnd) (ht : t.tb = s.tb) :
    t.nextRound = s.nextRound := by
  have hsce : t.sceValid = s.sceValid := by
    simp only [State.sceValid, State.on, State.rd, hw _ (show R.TB_STATUS_sce_valid.a ∈ boundaryWords by decide)]
  have hlen : t.roundLen = s.roundLen := by
    simp only [State.roundLen, State.rd, hw _ (show R.AL_ROUNDLEN_len.a ∈ boundaryWords by decide)]
  have hhor : t.horizon = s.horizon := by
    simp only [State.horizon, State.rq, hw _ (show R.AL_HORIZ ∈ boundaryWords by decide),
      hw _ (show R.AL_HORIZ + 4 ∈ boundaryWords by decide)]
  have horg : t.origin = s.origin := by
    simp only [State.origin, State.rq, hw _ (show R.AL_ORIGIN ∈ boundaryWords by decide),
      hw _ (show R.AL_ORIGIN + 4 ∈ boundaryWords by decide)]
  unfold State.nextRound State.frontRound State.frontSc
  rw [hsce, hlen, hhor, horg, hr, ht]

theorem curRound_flag_trngFb (s : State) : (s.flag R.HM_STATUS_trng_fb).curRound = s.curRound := by
  have hne : ∀ b ∈ boundaryWords, b ≠ R.HM_STATUS_trng_fb.a ∧ b ≠ R.PE_CNT 2 := by decide
  rw [State.curRound, nextRound_of_words (s := s) (fun b hb => State.word_flag_ne s _ (hne b hb).1 (hne b hb).2) (State.flag_rnd ..)
    (State.flag_tb ..), State.curRound]

theorem trngFail_eq {s : State} (h : s.hm.trngFb = false) : s.trngFail
    = (State.flag { s with hm := { s.hm with trngFb := true } } R.HM_STATUS_trng_fb).health 6 0 1 0
        (State.flag { s with hm := { s.hm with trngFb := true } } R.HM_STATUS_trng_fb).curRound := by
  rw [curRound_flag_trngFb]
  exact if_neg (by rw [h]; decide)

/-! ## Scrubbing and sparing (R291, R292) -/

section
variable {s : State} {st c : Nat}

theorem scrubRead_eq (hen : s.on R.HM_CTL_scrub_en = true) (h2 : s.stkState st = 2) (hf : s.maintFree (s.hchan st c) = true)
    (bank row pc col word pass outcome : Nat) (newer : Bool) : s.scrubRead st c bank row pc col word pass outcome newer
      = if outcome = 0 then s
        else if outcome = 1 then
          let t := (s.eccCorrected st row).when (!newer) (·.inc (R.HM_CNT st 6))
          let k := t.hstk st
          let id := rowId c pc bank row
          let seen := smapGet [] k.ceRows id
          let seen := if seen.contains pass then seen else seen ++ [pass]
          let t := t.setHstk st { k with ceRows := smapSet [] k.ceRows id seen }
          if 3 ≤ seen.length then t.dueSpare st id 2 else t
        else s.eccPoisoned st c 0 bank row pc col word :=
  if_neg (by rw [hen, h2, hf]; decide)

theorem scrubRead_corrected (hen : s.on R.HM_CTL_scrub_en = true) (h2 : s.stkState st = 2) (hf : s.maintFree (s.hchan st c) = true)
    (bank row pc col word pass : Nat) (newer : Bool) : s.scrubRead st c bank row pc col word pass 1 newer = (
      let t := s.eccCorrected st row
      let t := if newer = true then t else t.inc (R.HM_CNT st 6)
      let id := rowId c pc bank row
      let seen := smapGet [] (t.hstk st).ceRows id
      let seen := if pass ∈ seen then seen else seen ++ [pass]
      let t := t.setHstk st { t.hstk st with ceRows := smapSet [] (t.hstk st).ceRows id seen }
      if 3 ≤ seen.length then t.dueSpare st id 2 else t) := by
  have hw : (s.eccCorrected st row).when (!newer) (·.inc (R.HM_CNT st 6))
      = if newer = true then s.eccCorrected st row else (s.eccCorrected st row).inc (R.HM_CNT st 6) := by
    cases newer <;> rfl
  rw [scrubRead_eq hen h2 hf, if_neg (by decide), if_pos rfl, hw]
  dsimp only
  generalize (if newer = true then s.eccCorrected st row else (s.eccCorrected st row).inc (R.HM_CNT st 6)) = t
  simp only [List.contains_iff_mem]

section
variable {id origin : Nat} {rest : List (Nat × Nat)} (hcopy : (s.hstk st).copy = none)
  (hq : (s.hstk st).spareQ = (id, origin) :: rest) (h2 : s.stkState st = 2)
  (hf : s.maintFree (s.hchan st (id / 2 ^ 32 / 64)) = true) (hup : s.ig.arbDown = false)
include hcopy hq h2 hf hup

theorem rowSpare_eq : s.rowSpare st = if 64 ≤ s.rd (R.HM_STKSP_spares_used st) then
    (s.setHstk st { s.hstk st with spareQ := rest }).wr (R.HM_STK_spare_out st) 1
      else (s.setHstk st { s.hstk st with copy := some (id, origin), spareQ := rest }).setHchan st (id / 2 ^ 32 / 64)
        { s.hchan st (id / 2 ^ 32 / 64) with block := max (s.hchan st (id / 2 ^ 32 / 64)).block s.nowNs + 200 } := by
  rw [State.rowSpare]
  dsimp only
  rw [hcopy, hq]
  exact if_neg (by rw [h2, hf, hup]; decide)
end

theorem rowCopied_eq {id origin : Nat} (h : (s.hstk st).copy = some (id, origin)) : s.rowCopied st
    = ((s.useSpare st id).inc (R.HM_CNT st 7)).logRepair 2 st (spareDetail id).1 (spareDetail id).2 origin := by
  rw [State.rowCopied, h]

/-! ## Centring and training (R293) -/

theorem phyCentre_eq (h2 : s.stkState st = 2) (hf : s.maintFree (s.hchan st c) = true) :
    s.phyCentre st c = s.setHchan st c { s.hchan st c with block := max (s.hchan st c).block (s.nowNs + 200) } :=
  if_pos (by rw [h2, hf]; decide)

theorem trainingDone_eq (h : s.stkState st = 1 ∨ s.stkState st = 4) (ok : Bool) : s.trainingDone st ok = (
    let t := s.wr (R.HM_STK_state st) (if ok = true then 2 else 5)
    { t with hm := { t.hm with retrain := t.hm.retrain.filter (· ≠ st) } }) := if_pos h
end

/-! ## Self-refresh (R294) -/

theorem selfRefreshIn_eq {s : State} (h : s.ck.eg = 1) : s.selfRefreshIn = (
    let t := s.fold (List.range s.stacks) (fun t k =>
      if t.stkState k = 2 ∨ t.stkState k = 1 then t.wr (R.HM_STK_state k) 3 else t)
    let t := (t.wr R.HM_STATUS_selfref 1).wr R.CK_STATUS_endgame 1
    { t with ck := { t.ck with eg := 2 } }) := if_neg (not_not.2 h)

theorem selfRefreshOut_eq {s : State} (h : s.ck.eg = 3) (temps : List Nat) : s.selfRefreshOut temps = (
    let t := (s.stacksOut temps).wr R.CK_STATUS_endgame 0
    let t := (State.fire { t with ck := { t.ck with eg := 0, l4 := 0 } } 93).workResumes
    if t.rd R.IG_STATUS_hstate = 3 ∧ t.cause 3 = false then t.setHstate 0 else t) := by
  rw [State.selfRefreshOut, if_neg (not_not.2 h)]
  dsimp only
  generalize State.workResumes _ = t
  rw [State.when]
  refine if_congr ?_ rfl rfl
  rw [Bool.and_eq_true, decide_eq_true_eq, Bool.not_eq_true']

/-! ## The retry of the generator (R288) -/

/-- HM_CTL. -/
def locHmCtl : Loc := ⟨⟨.HM_CTL, 0x0, [], false, [⟨24, 24, .wo, 0, []⟩, ⟨23, 16, .rw, 24, [(1, 168)]⟩, ⟨15, 12, .rw, 8, [(1, 8)]⟩,
  ⟨11, 8, .rw, 9, [(4, 14)]⟩, ⟨1, 1, .rw, 1, []⟩, ⟨0, 0, .rw, 1, []⟩]⟩, [], false⟩

theorem locate_hmCtl : locate R.HM_CTL = some locHmCtl := by decide

theorem writeWord_hmCtl {u : State} {m : Nat} {w : Word} (h : u.takes m R.HM_CTL w) : u.writeWord m R.HM_CTL w
    = ((u.landed m R.HM_CTL w).when (w.toNat.testBit 24) (fun s => s.trngRetry s.hm.trngGood)).okResp [] :=
  writeWord_effect h locate_hmCtl (by decide) rfl

theorem landed_hm (u : State) (m : Nat) (w : Word) : (u.landed m R.HM_CTL w).hm = u.hm := by
  rw [landed_eq_setWord locate_hmCtl rfl, State.setWord_hm]

theorem trngRetry_idle {s : State} {good : Bool} (h : (s.hm.trngFb && good) = false) : s.trngRetry good = s :=
  if_neg (by rw [h]; decide)

/-- Channels whose activates were forgotten, an empty one unlisted, count none. -/
theorem acts_cleared (m : SMap HbmChan) (k : Nat) :
    (smapGet default ((m.map (fun p => (p.1, { p.2 with acts := [] }))).filter (fun p => p.2 ≠ default)) k : HbmChan).acts = [] := by
  induction m with
  | nil => rfl
  | cons p r ih =>
    rw [List.map_cons, List.filter_cons]
    split
    · by_cases hk : p.1 = k
      · simp only [smapGet, smapFind, if_pos hk, Option.getD_some]
      · simpa only [smapGet, smapFind, if_neg hk] using ih
    · exact ih

theorem trngRetry_passes {s : State} (h : s.hm.trngFb = true) : (s.trngRetry true).hm.trngFb = false
    ∧ (s.trngRetry true).on R.HM_STATUS_trng_fb = false ∧ ∀ st c, ((s.trngRetry true).hchan st c).acts = [] := by
  rw [State.trngRetry, h, Bool.and_self, if_pos rfl]
  dsimp only
  refine ⟨by rw [State.wr_hm], ?_, fun st c => ?_⟩
  · rw [State.on, State.rd_wr_same _ _ _ (by decide)]
    rfl
  · rw [State.hchan, State.wr_hm]
    exact acts_cleared s.hm.chan (st * 32 + c)

theorem exec_trngRetry {s : State} {m : Fin 20} {v : Word} {good : Bool}
    (h : State.takes { s with hm := { s.hm with trngGood := good } } m R.HM_CTL (force v R.HM_CTL_trng_retry 1)) :
    exec (.trngRetry m v good) s = .next (((State.landed { s with hm := { s.hm with trngGood := good } } m R.HM_CTL
      (force v R.HM_CTL_trng_retry 1)).trngRetry good).okResp []) := by
  have hbit : (force v R.HM_CTL_trng_retry 1).toNat.testBit 24 = true :=
    force_one_bit (f := R.HM_CTL_trng_retry) (x := 1) (i := 24) (by decide) rfl
  have hw := writeWord_hmCtl h
  have hm := landed_hm { s with hm := { s.hm with trngGood := good } } m (force v R.HM_CTL_trng_retry 1)
  rw [hbit] at hw
  simp only [State.when, if_true, hm] at hw
  exact (s.does_on h.1.1 fun s => State.writeWord { s with hm := { s.hm with trngGood := good } } m R.HM_CTL
    (force v R.HM_CTL_trng_retry 1)).trans (congrArg _ hw)

/-! ## The obligation -/

theorem temperature_runs {s : State} {st : Fin 8} (hoff : s.off = false) (temp : BitVec 8) (h0 : s.stkState st ≠ 0)
    (h3 : s.stkState st ≠ 3) :
    let t := s.wr (R.HM_STK_temp_c st) temp.toNat
    let k := s.hstk st
    let hot := s.on (R.HM_STK_hot st)
    (hot = false → s.rd R.HM_TCTL_hot_c ≤ temp.toNat →
      exec (.hbmTemperatureRead st temp) s = .next ((t.setHstk st { k with cool := 0 }).stackHot st))
    ∧ ((hot = true ∨ temp.toNat < s.rd R.HM_TCTL_hot_c) → s.rd R.HM_TCTL_hot_c < temp.toNat + s.rd R.HM_TCTL_hyst_c →
      exec (.hbmTemperatureRead st temp) s = .next (t.setHstk st { k with cool := 0 }))
    ∧ (temp.toNat + s.rd R.HM_TCTL_hyst_c ≤ s.rd R.HM_TCTL_hot_c → temp.toNat < s.rd R.HM_TCTL_hot_c →
      let start := if k.cool = 0 then s.nowNs + 1 else k.cool
      let u := t.setHstk st { k with cool := start }
      exec (.hbmTemperatureRead st temp) s
        = .next (if hot = true ∧ s.rd R.HM_TCTL_hold_ms * 1000000 ≤ s.nowNs + 1 - start then u.stackCool st else u)) := by
  dsimp only
  rw [exec_hbmTemperatureRead hoff, hbmTemp_eq h0 h3]
  refine ⟨fun hh hc => ?_, fun hh hc => ?_, fun hc hl => ?_⟩
  · rw [if_pos (by rw [hh, decide_eq_true hc]; rfl)]
  · have hn : ¬ ((!s.on (R.HM_STK_hot st) && decide (s.rd R.HM_TCTL_hot_c ≤ temp.toNat)) = true) := by
      rcases hh with hh | hh
      · rw [hh, Bool.not_true, Bool.false_and]
        decide
      · rw [decide_eq_false (Nat.not_le.2 hh), Bool.and_false]
        decide
    rw [if_neg hn, if_neg (Nat.not_le.2 hc)]
  · have hn : ¬ ((!s.on (R.HM_STK_hot st) && decide (s.rd R.HM_TCTL_hot_c ≤ temp.toNat)) = true) := by
      rw [decide_eq_false (Nat.not_le.2 hl), Bool.and_false]
      decide
    rw [if_neg hn, if_pos hc]
    refine congrArg _ (if_congr ?_ rfl rfl)
    rw [Bool.and_eq_true, decide_eq_true_eq]

theorem refresh_runs {s : State} {st : Fin 8} {c : Fin 32} (hoff : s.off = false) (paid : Bool) (h2 : s.stkState st = 2) :
    let x := s.hchan st c
    let o := x.owed + 1
    (s.maintFree x = false → exec (.refreshDue st c paid) s = .next ((s.setHchan st c { x with owed := o }).showOwed st))
    ∧ (s.maintFree x = true →
      (paid = true → exec (.refreshDue st c paid) s = .next ((s.setHchan st c { x with owed := o - 1 }).showOwed st))
      ∧ (paid = false → o < s.allowed st →
        exec (.refreshDue st c paid) s = .next ((s.setHchan st c { x with owed := o }).showOwed st))
      ∧ (paid = false → s.allowed st ≤ o → exec (.refreshDue st c paid) s
        = .next ((s.setHchan st c { x with owed := o - 1, block := max x.block (s.nowNs + 400) }).showOwed st))) := by
  dsimp only
  rw [exec_refreshDue hoff, refreshDue_eq h2]
  refine ⟨fun hf => ?_, fun hf => ⟨fun hp => ?_, fun hp ho => ?_, fun hp ho => ?_⟩⟩
  · rw [hf, if_pos (by decide)]
  · rw [hf, if_neg (by decide), if_pos hp]
  · rw [hf, hp, if_neg (by decide), if_neg (by decide), if_neg (Nat.not_le.2 ho)]
  · rw [hf, hp, if_neg (by decide), if_neg (by decide), if_pos ho]

/-- Settles O32: each command is its function on the state, and each function by the branch that the clause names. -/
theorem hbmRuns : Obligations.HbmRuns := by
  unfold Obligations.HbmRuns
  refine ⟨fun s st c hoff => ⟨fun new ready sv h2 => ⟨fun r hb hp => ?_, fun h => ?_⟩, fun u ready sv cls bank row bytes h5 => ?_, ?_,
    fun paid h2 => refresh_runs hoff paid h2, fun temp h0 h3 => temperature_runs hoff temp h0 h3, fun hfb => ?_,
    fun bank row pc col word pass newer hen h2 hf => ⟨?_, ?_, ?_⟩, fun id origin rest hcopy hq h2 hf hup => ⟨fun hl => ?_, fun hl => ?_⟩,
    fun id origin hcopy => ?_, fun h2 hf => ?_, fun ok h => ?_, fun he => ?_, fun temps he => ?_⟩, ?_⟩
  · exact (exec_hbmRequestServe hoff ..).trans (congrArg _ (hbmServe_served h2 sv hb hp))
  · exact (exec_hbmRequestServe hoff ..).trans (congrArg _ (hbmServe_idle h2 sv h))
  · exact (exec_hbmRequestServe hoff ..).trans (congrArg _ (hbmServe_failed h5 ..))
  · exact exec_agePromotion hoff st c
  · exact (exec_trngHealthFail hoff).trans (congrArg _ (trngFail_eq hfb))
  · exact (exec_scrubRead hoff ..).trans (congrArg _ ((scrubRead_eq hen h2 hf ..).trans (if_pos rfl)))
  · exact (exec_scrubRead hoff ..).trans (congrArg _ ((scrubRead_eq hen h2 hf ..).trans ((if_neg (by decide)).trans (if_neg (by decide)))))
  · exact (exec_scrubRead hoff ..).trans (congrArg _ (scrubRead_corrected hen h2 hf ..))
  · exact (exec_rowSpare hoff st).trans (congrArg _ ((rowSpare_eq hcopy hq h2 hf hup).trans (if_neg (Nat.not_le.2 hl))))
  · exact (exec_rowSpare hoff st).trans (congrArg _ ((rowSpare_eq hcopy hq h2 hf hup).trans (if_pos hl)))
  · exact (exec_rowCopyComplete hoff st).trans (congrArg _ (rowCopied_eq hcopy))
  · exact (exec_phyCentring hoff st c).trans (congrArg _ (phyCentre_eq h2 hf))
  · exact (exec_hbmTrainingDone hoff st ok).trans (congrArg _ (trainingDone_eq h ok))
  · exact (exec_selfRefreshEntryDone hoff).trans (congrArg _ (selfRefreshIn_eq he))
  · exact (exec_selfRefreshExitDone hoff temps).trans (congrArg _ (selfRefreshOut_eq he temps))
  · rintro s m v good u L w rfl rfl h rfl
    have hm := landed_hm { s with hm := { s.hm with trngGood := good } } m (force v R.HM_CTL_trng_retry 1)
    refine ⟨exec_trngRetry h, fun hg => trngRetry_idle ?_, fun hfb => trngRetry_idle ?_, fun hg hfb => ?_⟩
    · rw [hg, Bool.and_false]
    · rw [show R.HM_CTL_trng_retry.a = R.HM_CTL from rfl, hm]
      exact (congrArg (· && good) hfb).trans (Bool.false_and good)
    · subst hg
      exact trngRetry_passes ((congrArg _ hm).trans hfb)

end Sys2Proof.Machine
end
